-- ==== Sys2Proof/Word.lean ====
section
/-! DEFINITION. The word types of the device: bytes, 32-bit register words and 64-bit doublewords. -/

namespace Sys2Proof

/-- One byte. -/
abbrev Byte := BitVec 8

/-- One 32-bit register word (R9, R535). -/
abbrev Word := BitVec 32

/-- One 64-bit quantity: a `_LO`/`_HI` register pair (R8). -/
abbrev Dword := BitVec 64

end Sys2Proof
end

