-- ==== Sys2Proof/Syntax.lean ====
section
/-! DEFINITION. The commands of the device and their operands: one constructor of `Instr` for each row of the table
of operations and events. Operand types carry their ranges (`Fin`, `BitVec`), so that no operand is out of range. -/

namespace Sys2Proof

/-- A requester of register accesses: a function (R343) or a hart (R7). -/
inductive Req where
  | func (f : Fin 1024)
  | hart (h : Fin 128)
  deriving DecidableEq, Repr

/-- What a register write names: an address of the register space, or the window register of a function's
configuration space (R346). -/
inductive RegAddr where
  | space (a : BitVec 32)
  | dvsecWin (f : Fin 1024)
  deriving DecidableEq, Repr

/-- The die an occurrence concerns. -/
inductive Die where
  | fwd | trf
  deriving DecidableEq, Repr

/-- What a write of the ACL configuration names: a bank's configuration or a word of its group tags (R234). -/
inductive AclCfg where
  | bank (b : Fin 8)
  | tags (b : Fin 8) (w : Fin 32)
  deriving DecidableEq, Repr

/-- A policer that a packet meets: its number, committed and peak rates in bytes per second, and bucket sizes in bytes (R145). No
register holds them, so the occurrence carries them (assumption 11). -/
structure PolicerUse where
  num : BitVec 16
  cir : BitVec 64
  cbs : BitVec 32
  pir : BitVec 64
  pbs : BitVec 32
  /-- red packets are dropped here (R140) -/
  redDrop : Bool
  deriving DecidableEq, Repr

/-- The receive error that a port finds by itself (R78). -/
inductive MacErr where
  | fcs | mac
  deriving DecidableEq, Repr

/-- The first bytes of a received frame: the first 320, or the whole frame with its FCS (R77), the instant of its first byte and the
error found in it. -/
structure RxHead where
  data : List (BitVec 8)
  whole : Bool
  inst : BitVec 80
  err : Option MacErr
  deriving DecidableEq, Repr

/-- A received mPacket of a preemptable frame (R88): its place in the frame, its counts, and whether its mCRC or FCS held. -/
structure MFrag where
  start : Bool
  frame : BitVec 2
  count : BitVec 2
  last : Bool
  crcOk : Bool
  data : List (BitVec 8)
  inst : BitVec 80
  deriving DecidableEq, Repr

/-- The status that a line port's PCS, FEC and reconciliation sublayer report, and the signal on each lane of its group (R72). -/
structure LinkIn where
  pcs : Bool
  fec : Bool
  localFault : Bool
  remoteFault : Bool
  sig : BitVec 8
  deriving DecidableEq, Repr

/-- A received OTUC frame of one instance: whether its FAS stood at its place, its MFAS, its overhead (R102) and the bytes of OPUC columns
15 to 3,824 (R103). -/
structure OtnFrame where
  fas : Bool
  mfas : BitVec 8
  smBip : BitVec 8
  smBei : BitVec 4
  smBdi : Bool
  pmBip : BitVec 8
  pmBei : BitVec 4
  pmBdi : Bool
  stat : BitVec 3
  psi : BitVec 8
  opu : List (BitVec 8)
  deriving DecidableEq, Repr

/-- What the internal header of a packet carries across the fabric, as far as the rules name it (R240; its layout is not given): the first
edit entry of the chain, the ingress timestamp and source port (R58), the colour (R145), the length hint (R275), where the frame's
one-step PTP message and its outermost IP header begin, and the function and tag of a wanted transmit timestamp (R60). -/
structure Ith where
  encap : Option (BitVec 20)
  ts : BitVec 80
  srcPort : BitVec 8
  colour : BitVec 2
  hint : BitVec 15
  oneStep : Option (BitVec 15)
  ip : Option (BitVec 15)
  ptp : Option (BitVec 11 × BitVec 16)
  deriving DecidableEq, Repr

/-- Where a memory word lies (R336): a table-DRAM word, an HBM word, a table SRAM entry, a packet SRAM buffer or queue state. -/
inductive MemLoc where
  | tableDram (ch : Fin 26) (rank : Fin 2) (bank : Fin 16) (word : BitVec 20)
  | hbm (stack : Fin 8) (pc : Fin 32) (bank : Fin 16) (word : BitVec 20)
  | tableSram (table : BitVec 8) (index : BitVec 25)
  | packetSram (q : Fin 4) (part : Fin 3) (buf : BitVec 18)
  | queueState (q : Fin 4) (node : BitVec 20)
  deriving DecidableEq, Repr

/-- The pool size registers of a quadrant (R274). -/
inductive BufReg where
  | pool0 | pool1 | hbmPages
  deriving DecidableEq, Repr

/-- What the memory code makes of a word read (R333). -/
inductive WordRes where
  | clean | corrected | uncorrectable
  deriving DecidableEq, Repr

/-- A memory controller: a lookup channel of table DRAM or an HBM stack. -/
inductive MemCtl where
  | tdc (c : Fin 24)
  | hbm (st : Fin 8)
  deriving DecidableEq, Repr

/-- The width of a host link (R340). -/
inductive LinkW where
  | x1 | x2 | x4 | x8 | x16
  deriving DecidableEq, Repr

/-- What resets a host port (R342). -/
inductive PortReset where
  | perst | hotReset | linkDown
  deriving DecidableEq, Repr

/-- What the configuration space of a function holds beside Bus Master Enable, as its host leaves it (R340, R345, R347, R353, R359): MSI-X
Enable, Enable Relaxed Ordering, the Completion Timeout Value, the Max Read Request Size as 128 × 2^n, VF Enable of a PF, and the BAR0 size
as 256 MiB × 2^n. -/
structure FnCfg where
  msixEn : Bool
  relaxed : Bool
  cto : BitVec 4
  mrrs : Fin 6
  vfEnable : Bool
  bar0 : Fin 5
  deriving DecidableEq, Repr

/-- A completion that arrives for a device-issued read (R360, R372): its data, or how it failed. -/
inductive Cpl where
  | data (d : List (BitVec 8))
  | unsupported | abort | poisoned
  deriving DecidableEq, Repr

/-- A BAR4 access: a read of bytes, or a write of bytes with those that are enabled (R350, R351). -/
inductive AptOp where
  | read (n : BitVec 13)
  | write (d : List (Option (BitVec 8)))
  deriving DecidableEq, Repr

/-- The set-up registers of a ring (R386). -/
inductive RingReg where
  | cfg | owner | descLo | descHi | cplLo | cplHi
  deriving DecidableEq, Repr

/-- A hart's memory access (R390): a load into a register, a store of a value, or an instruction fetch; its size as 1 × 2^n bytes. -/
inductive HartOp where
  | load (rd : Fin 32) (signed : Bool)
  | store (v : BitVec 64)
  | fetch
  deriving DecidableEq, Repr

/-- A core fault as the self-check of R393 finds it. -/
inductive CoreFault where
  | correctable | uncorrectable
  deriving DecidableEq, Repr

/-- An imbalance that a faulty update has left in a ledger (R448, R455): the ledger of R448 less one, the scope and the amount. -/
structure LedgerErr where
  ledger : Fin 10
  scope : BitVec 16
  delta : BitVec 64
  deriving DecidableEq, Repr


/-- An engine or element that has failed (R16, R17): a core of a cluster, a lookup stage of a slice, a memory row. -/
inductive Engine where
  | core (k : Fin 16) (core : Fin 10)
  | stage (sl : Fin 32) (n : BitVec 16)
  | row (l : MemLoc)
  deriving DecidableEq, Repr

/-- The commands of the device: one constructor for each row of the table of operations and events. -/
inductive Instr where
  /-- REG_WRITE (R12). A write to a register that has no row of its own sets, clears or ignores its fields by type code, and SL fields are refused while the Cyclometer is sealed. -/
  | regWrite (r : Req) (a : RegAddr) (v : BitVec 32)
  /-- UNASSIGNED_ACCESS (R10). An access to an unassigned or reserved address reads zero or is ignored, and a correctable internal error is recorded on the carrying host port. -/
  | unassignedAccess (r : Req) (a : BitVec 32) (w : Option (BitVec 32))
  /-- BAR0_ACCESS (R348). A host BAR0 access is translated through WINSEL to a register address and checked against the function's view. -/
  | bar0Access (f : Fin 1024) (o : BitVec 32) (be : BitVec 4) (w : Option (BitVec 32))
  /-- PAIR_LO_READ (R14). A read of a _LO register latches the _HI half into the requester's holding register. -/
  | pairLoRead (r : Req) (a : BitVec 32)
  /-- PAIR_LO_WRITE (R14). A write of a _LO register of a 64-bit pair is held for the requester. -/
  | pairLoWrite (r : Req) (a : BitVec 32) (v : BitVec 32)
  /-- PAIR_HI_WRITE (R14). A write of a _HI register applies the held _LO half and the _HI half in one cycle, or _HI alone. -/
  | pairHiWrite (r : Req) (a : BitVec 32) (v : BitVec 32)
  /-- RC_FIELD_READ (R13). A read of an RC field returns its value and clears it, keeping any update of the same cycle. -/
  | rcFieldRead (r : Req) (a : BitVec 32)
  /-- ENGINE_SUBSTITUTION (R17). Hardware replaces a failed engine or element with a spare without changing any software-visible number. -/
  | engineSubstitution (e : Engine)
  /-- D2D_FLIT_RETRY (R36). A die-to-die flit that fails its CRC is retried from the replay buffer and recorded as a correctable internal error. -/
  | d2dFlitRetry (d : Die) (again : Bool)
  /-- D2D_LINK_FAILURE (R37). Eight consecutive CRC failures or 256 cycles without a valid flit declare a link failure, fatal on both dies. -/
  | d2dLinkFailure
  /-- MGMT_LANE_ACCESS (R38). An access to the CYC block or Cyclometer window crosses the management lane with its own CRC and retries. -/
  | mgmtLaneAccess (r : Req) (a : BitVec 32) (w : Option (BitVec 32)) (ok : Bool)
  /-- LINK_QUIESCE (R39). On a quiesce flit or link failure the surviving die stops sending and marks the link quiesced. -/
  | linkQuiesce
  /-- LINK_RETRAIN (R39). When the reset die leaves reset the link retrains, clears the quiesced state and delivers buffered commit notices. -/
  | linkRetrain (ok : Bool)
  /-- TIME_INC_WRITE (R48). A write of the TIME_INC pair schedules a new increment or is refused when outside the allowed range. -/
  | timeIncWrite (v : BitVec 64)
  /-- TIME_INC_APPLY (R48). A pending increment takes effect on both dies at the write instant plus 2^-22 s. -/
  | timeIncApply
  /-- STEP (R49). A write of 1 to TIME_CTRL.STEP captures TIME_SET as a pending step, or is refused while SERVICE is set. -/
  | step (v : BitVec 32)
  /-- TIME_STEP_APPLY (R49). A pending step sets master and follower to the captured instant at the write instant plus 2^-22 s. -/
  | timeStepApply
  /-- SERVICE (R50). Setting TIME_CTRL.SERVICE makes time monotonic and cancels any pending step. -/
  | service (v : BitVec 32)
  /-- TIME_MARKER (R51). Every 2^-20 s a time marker crosses the link and the Traffic die follower corrects its phase. -/
  | timeMarker
  /-- TIME_NOW_READ (R68). A read of TIME_NOW_FRAC captures the whole instant for the requester. -/
  | timeNowRead (r : Req)
  /-- TIME_PPS_IN_FRAC_READ (R68). A read of TIME_PPS_IN_FRAC captures the seconds of the last 1PPS capture for the requester. -/
  | timePpsInFracRead (r : Req)
  /-- TIME_PPS_IN_SEC_READ (R54). A read of TIME_PPS_IN_SEC returns the captured seconds and clears PPS_IN_NEW. -/
  | timePpsInSecRead (r : Req)
  /-- PPS_IN_EDGE (R54). A rising edge of PTP_PPS_IN captures its Equinox instant, or is ignored if too soon. -/
  | ppsInEdge
  /-- REF10M_MEASURE (R55). At each integer second the span to the next REF10M edge is written to TIME_REF10M_CAP. -/
  | ref10mMeasure
  /-- REF10M_LOS (R55). No REF10M edge within 2^-20 s sets REF10M_LOS. -/
  | ref10mLos
  /-- PPS_OUT_RISE (R57). PTP_PPS_OUT rises at each integer second plus OFFSET. -/
  | ppsOutRise
  /-- PPS_OUT_FALL (R57). PTP_PPS_OUT falls after WIDTH. -/
  | ppsOutFall
  /-- LATCH_CLOSE (R64). At a latch target the closing bank stops taking new updates and the open bank starts. -/
  | latchClose (n0 n1 : BitVec 32)
  /-- LATCH_PUBLISH (R64). After the settle span of 2^-18 s the closing bank is published as the latched value. -/
  | latchPublish
  /-- TIME_WD_HOLDOVER (R67). No TIME_INC write for WD_SPAN sets WD_HOLDOVER and raises an event. -/
  | timeWdHoldover
  /-- PORT_CFG_WRITE (R70). A PORT_CFG write enables, disables or reconfigures a port, or is refused and sets CFG_REFUSED. -/
  | portCfgWrite (p : Fin 128) (v : BitVec 32)
  /-- PORT_LINK (R72). A change of LINK_UP sets LINK_EVT and raises an event on the owner's event ring. -/
  | portLink (p : Fin 128) (l : LinkIn)
  /-- FRAME_HANDOFF (R77). The port block hands a received frame to its ingress slice once it holds 320 bytes or the whole frame. -/
  | frameHandoff (p : Fin 128) (f : RxHead)
  /-- RX_ERROR_STATUS (R78). A receive error status reaches the slice and drops the packet before commit or tail-marks it after commit. -/
  | rxErrorStatus (p : Fin 128) (pre : Bool) (e : MacErr)
  /-- OVERSIZE_CUT (R79). Byte MAX_FRAME + 1 of a frame ends the frame as oversize and marks its tail. -/
  | oversizeCut (p : Fin 128) (pre : Bool) (rest : List (BitVec 8))
  /-- FRAME_TAIL (R79). The tail of a committed frame arrives and byte counts, settlements, learning hold and tail-decided classes are resolved. -/
  | frameTail (p : Fin 128) (pre : Bool) (rest : List (BitVec 8)) (e : Option MacErr)
  /-- PAUSE_FRAME_RX (R84). A received PAUSE or PFC frame is consumed and pauses output for q quanta when enabled. -/
  | pauseFrameRx (p : Fin 128) (f : RxHead)
  /-- PAUSE_END (R84). A pause window closes and scheduler output to the port or class resumes. -/
  | pauseEnd (p : Fin 128) (c : Fin 9)
  /-- PREEMPT_VERIFY_SEND (R86). The MAC sends a verify mPacket every VERIFY_TIME and sets FAILED after three unanswered attempts. -/
  | preemptVerifySend (p : Fin 128)
  /-- PREEMPT_VERIFY_RESPONSE (R86). A verify response sets preemption verification to SUCCEEDED. -/
  | preemptVerifyResponse (p : Fin 128)
  /-- MPACKET_RX (R88). A received mPacket is reassembled into its preemptable frame or discarded. -/
  | mpacketRx (p : Fin 128) (f : MFrag)
  /-- FRAME_TX_END (R80). A frame finishes transmission on a line port and counts in PORT_TX_FRAMES. -/
  | frameTxEnd (p : Fin 128) (pre : Bool)
  /-- OTN_CFG_WRITE (R93). A write of OTN_CFG sets the instance count or FORCE_AIS, or is refused while the port is enabled. -/
  | otnCfgWrite (p : Fin 128) (v : BitVec 32)
  /-- FAS_MATCH (R96). A FAS pattern found while searching opens a candidate. -/
  | fasMatch (p : Fin 128) (m : Fin 16) (pos : BitVec 64)
  /-- FAS_CANDIDATE_CHECK (R96). The FAS is checked at p + 15,296 and the instance enters FRAME_LOCK or resumes search at p + 1. -/
  | fasCandidateCheck (p : Fin 128) (m : Fin 16) (ok : Bool) (mfas : BitVec 8)
  /-- OTN_FRAME_RX (R97). A frame of a locked instance checks FAS and MFAS, computes BIP and moves the framer state. -/
  | otnFrameRx (p : Fin 128) (m : Fin 16) (f : OtnFrame)
  /-- DESKEW_RELEASE (R100). Frames of all instances with one MFAS leave the deskew buffer together. -/
  | deskewRelease (p : Fin 128)
  /-- OTN_DEFECT (R106). An OTN defect sets or clears, starting or ending its consequent actions and raising an event. -/
  | otnDefect (p : Fin 128) (d : Fin 8)
  /-- GFP_CORE_HEADER (R110). The demapper checks a GFP core header cHEC and moves between HUNT, PRESYNC and SYNC. -/
  | gfpCoreHeader (p : Fin 128) (h : BitVec 32)
  /-- GFP_FRAME (R111). A delineated GFP frame is delivered, discarded or counted according to its payload header. -/
  | gfpFrame (p : Fin 128) (f : RxHead) (slot : Bool)
  /-- SLICE_ENTRY (R139). The entry arbiter admits one packet to stage 0, which takes the current epoch or is dropped for a stage-0 cause. -/
  | sliceEntry (i : Fin 16)
  /-- KEY_LAUNCH (R136). At stage 4 Freewheel extracts keys at the profile offsets and launches the lookups. -/
  | keyLaunch (p : BitVec 32)
  /-- PARSE_HEADERS (R121). The parser follows the header chain within the horizon and sets flags and malformed classes. -/
  | parseHeaders (p : BitVec 32)
  /-- LAYOUT_COMPARE (R141). At stage 28 the parsed layout is compared with the guess and the fragment table is looked up. -/
  | layoutCompare (p : BitVec 32)
  /-- RESPIN (R141). The 92-cycle respin loop ends and the packet joins the respin queue or is dropped. -/
  | respin (p : BitVec 32)
  /-- TABLE_DRAM_READ_RETURN (R184). A table-DRAM lookup read returns its data to the waiting packet, or is discarded if late. -/
  | tableDramReadReturn (p : BitVec 32) (n : BitVec 8) (l : MemLoc) (w : WordRes)
  /-- RESULT_JOIN (R138). At stage 44 after D cycles the packet joins its results and is dropped with LOOKUP_LATE if any is missing. -/
  | resultJoin (p : BitVec 32)
  /-- ACL_STAGE1 (R218). The first ACL stage searches its banks and the verdict table is looked up at stage 45. -/
  | aclStage1 (p : BitVec 32) (bad : List (BitVec 15))
  /-- ACL_STAGE2 (R218). The second ACL stage searches its banks and combines its outcome with the first. -/
  | aclStage2 (p : BitVec 32) (bad : List (BitVec 15))
  /-- POLICER_COLOUR (R145). At stages 80–95 policers colour the packet and take tokens speculatively. -/
  | policerColour (p : BitVec 32) (us : List PolicerUse)
  /-- RESULT_READ (R136). At stages 96–111 next-hop and result reads run and mirror, punt and learning decisions complete the side-effect record. -/
  | resultRead (p : BitVec 32)
  /-- COMMIT (R143). At stage 112 the whole side-effect record is applied in one cycle or the packet is dropped for lease expiry. -/
  | commit (p : BitVec 32)
  /-- FRAGMENT_EXPIRE (R131). A fragment-table entry's lifetime window closes and the entry is freed. -/
  | fragmentExpire
  /-- TRANSIT_HANDOFF (R136). At stages 113–143 the internal header is built and the packet is handed to the die-to-die link through the transit FIFO. -/
  | transitHandoff (p : BitVec 32)
  /-- DRAM_WAIT (R137). A write of FWH_CFG.DRAM_WAIT sets D and, when lowered, suspends admission for the difference. -/
  | dramWait (i : Fin 16) (v : BitVec 32)
  /-- CLOSE (R152). A write of 1 to FWH_TURN.CLOSE closes the firmware batch and requests an ingress turn. -/
  | close
  /-- FWH_ETURN (R154). A write of 1 to FWH_ETURN closes the egress firmware batch and requests an egress turn. -/
  | fwhEturn
  /-- EPOCH_TURN (R151). A pending ingress turn publishes the next epoch in all slices once no previous epoch is live and no ACL batch applies. -/
  | epochTurn
  /-- DRAIN_END (R153). The previous ingress epoch's in-flight count reaches zero, old objects are freed and turn-complete entries are written. -/
  | drainEnd
  /-- EGRESS_EPOCH_TURN (R154). A pending egress turn publishes the next egress epoch in all egress slices. -/
  | egressEpochTurn
  /-- EGRESS_DRAIN_END (R154). The previous egress epoch drains, egress objects are freed and turn-complete entries are written. -/
  | egressDrainEnd
  /-- ROUTE_ADD (R181). An update entry stages a prefix or replaces its result for the next epoch. -/
  | routeAdd (g : BitVec 16)
  /-- ROUTE_DEL (R181). An update entry stages the removal of a prefix for the next epoch. -/
  | routeDel (g : BitVec 16)
  /-- EXM_ADD (R181). An update entry stages an exact-match entry or replaces its result for the next epoch. -/
  | exmAdd (g : BitVec 16)
  /-- EXM_DEL (R181). An update entry stages the removal of an exact-match entry for the next epoch. -/
  | exmDel (g : BitVec 16)
  /-- EGT_WRITE (R179). An update entry writes one egress table entry atomically outside any batch. -/
  | egtWrite (g : BitVec 16)
  /-- UPDATE_RESERVED_OPCODE (R181). An update entry with a reserved opcode completes with INVALID. -/
  | updateReservedOpcode (g : BitVec 16)
  /-- EXM_SLOT_RELEASE (R171). A moved entry's source slot becomes reusable 2,048 cycles after the move. -/
  | exmSlotRelease
  /-- EXM_BIRTH_REBASE (R170). While idle the exact-match engine raises the BIRTH of entries older than 2^29 epochs. -/
  | exmBirthRebase (i : Fin 33554432)
  /-- LPM_V6_CONT_WRITE (R187). A write of LPM_V6_CONT sets the continuation lengths or is refused whole and sets CONT_REFUSED. -/
  | lpmV6ContWrite (v : BitVec 32)
  /-- LEARN_EVENT (R191). The learning engine takes a queued event and inserts, moves or discards the entry. -/
  | learnEvent
  /-- LEARN_UNFREEZE (R197). A frozen entry's freeze window closes and it is unfrozen. -/
  | learnUnfreeze (domain : BitVec 16) (mac : BitVec 48)
  /-- ALL (R197). A write of 1 to LRN_UNFREEZE.ALL unfreezes every frozen entry. -/
  | all
  /-- FLAP_RECORD_FREE (R194). A flap tracker record is freed once its hold-off window and second have closed. -/
  | flapRecordFree (domain : BitVec 16) (mac : BitVec 48)
  /-- AGING_SWEEP_START (R198). At each multiple of AGE_PERIOD a sweep starts with the next sweep number. -/
  | agingSweepStart
  /-- AGING_VISIT (R199). The sweeper visits one bucket, clearing HIT or marking idle entries. -/
  | agingVisit
  /-- LEARN_AGED (R201). The engine takes a removal from the list, re-checks the mark and removes the idle entry. -/
  | learnAged
  /-- SHADOW_COMPARE (R207). The device takes a shadow-compare descriptor and reserves its completion slots. -/
  | shadowCompare (g : BitVec 16)
  /-- SHADOW_READ_RETURN (R207). Shadow data returns from host memory and is compared, writing mismatch and DONE completions. -/
  | shadowReadReturn (g : BitVec 16)
  /-- ACL_SCRUB (R224). A scrub compares an ACL row with its protected copy and invalidates it if they differ. -/
  | aclScrub (i : Fin 16) (a : BitVec 15) (differs : Bool)
  /-- ACL_WRITE (R223). ACL_WR_CMD WRITE stages a new entry on the next plane in the firmware batch. -/
  | aclWrite (v : BitVec 32)
  /-- ACL_DELETE (R222). ACL_WR_CMD DELETE stages the clearing of an entry's next plane. -/
  | aclDelete (v : BitVec 32)
  /-- ACL_REFRESH (R223). ACL_WR_CMD REFRESH rewrites one slice's entry from its protected copy. -/
  | aclRefresh (v : BitVec 32)
  /-- ACL_BATCH_APPLY (R222). A closed ACL batch is applied to the next plane once no previous epoch is live. -/
  | aclBatchApply
  /-- ACL_PLANE_COPY (R222). After the turn and drain the current plane is copied to the other plane for changed rows. -/
  | aclPlaneCopy
  /-- ACL_BANK_CFG_WRITE (R223). A write of ACL_BANK_CFG or a group tag is applied or refused with BANK_IN_USE. -/
  | aclBankCfgWrite (c : AclCfg) (v : BitVec 32)
  /-- PAT_INSPECT_START (R228). A packet selected for inspection takes a lane context or waits, or is forwarded uninspected. -/
  | patInspectStart (i : Fin 16) (p : BitVec 32)
  /-- PAT_SEARCH (R227). A lane issues one stride search for a context once its bytes are present. -/
  | patSearch (i : Fin 16) (c : Fin 8) (bad : Option (BitVec 17))
  /-- PAT_VERDICT_WRITE (R229). A DROP or REDIRECT match writes a verdict once the search result is 4 cycles old and the tail is good. -/
  | patVerdictWrite (p : BitVec 32)
  /-- PAT_VERDICT_EXPIRE (R230). A verdict's lifetime window closes and the entry is freed. -/
  | patVerdictExpire (flow : BitVec 32)
  /-- PAT_VERDICT_FLUSH (R230). A write of 1 to PAT_VERDICT_FLUSH.ALL empties the verdict table. -/
  | patVerdictFlush
  /-- PAT_WRITE (R231). PAT_WR_CMD WRITE writes an automaton transition entry. -/
  | patWrite (v : BitVec 32)
  /-- PAT_DELETE (R231). PAT_WR_CMD DELETE removes an automaton transition entry. -/
  | patDelete (v : BitVec 32)
  /-- PAT_REFRESH (R231). PAT_WR_CMD REFRESH restores an automaton row from its protected copy. -/
  | patRefresh (v : BitVec 32)
  /-- PAT_SET_CFG_WRITE (R231). A write of PAT_SET_CFG changes a set and sets OLD_BUSY until old packets end. -/
  | patSetCfgWrite (i : Fin 8) (v : BitVec 32)
  /-- FABRIC_CELL_TX (R245). The source sends a data cell of a stream on a chosen lane when it holds credit. -/
  | fabricCellTx (i : Fin 16) (n : BitVec 16) (d : BitVec 11) (lane : Fin 192)
  /-- FABRIC_CELL_RX (R265). A received cell is checked and released in sequence to reassembly, held, or discarded. -/
  | fabricCellRx (b : Fin 8) (l : Fin 24) (corr : BitVec 10) (unc : Bool) (h : BitVec 128) (ith : Ith) (p : List (BitVec 8))
  /-- REORDER_TIMEOUT (R267). A held cell waits REORDER and the missing cells are declared and packets counted lost. -/
  | reorderTimeout (d : BitVec 11) (c : Fin 8)
  /-- DEMAND (R249). A received DEMAND cell updates backlog and returned credit for its source. -/
  | demand (b : Fin 8) (h : BitVec 128) (p : List (BitVec 8))
  /-- GRANT (R248). A received GRANT cell updates the granted credit of the source's streams. -/
  | grant (b : Fin 8) (h : BitVec 128) (p : List (BitVec 8))
  /-- GRANT_ROUND (R250). The destination grants credit in a round to backlogged streams within CAP. -/
  | grantRound
  /-- CREDIT_MESSAGE_REFRESH (R250). DEMAND and GRANT totals are resent at least every 2^-16 s. -/
  | creditMessageRefresh
  /-- CREDIT_RETURN (R248). A stream idle for HOLD returns its unspent credits with a DEMAND. -/
  | creditReturn (d : BitVec 11) (c : Fin 8)
  /-- ALIGN (R256). A received ALIGN control word advances the lane to codeword lock or PEER. -/
  | align (b : Fin 8) (l : Fin 24) (dev : BitVec 11) (pb : BitVec 8) (pl : BitVec 8) (ver : BitVec 8) (cap : Bool)
  /-- READY (R257). Received READY words move a lane in PEER or WAKING to ACTIVE. -/
  | ready (b : Fin 8) (l : Fin 24) (named : Fin 24)
  /-- SHIFT_REQ (R260). A received SHIFT_REQ starts a shed or restore at the receiving end. -/
  | shiftReq (b : Fin 8) (up : Bool) (p : Fin 12) (num : BitVec 8)
  /-- SHIFT_ACK (R260). A received SHIFT_ACK stops new cells on the pair's lanes. -/
  | shiftAck (b : Fin 8) (p : Fin 12) (num : BitVec 8)
  /-- SHIFT_NAK (R260). A received SHIFT_NAK leaves the pair ACTIVE and counts. -/
  | shiftNak (b : Fin 8) (p : Fin 12) (num : BitVec 8)
  /-- SHIFT_DONE (R260). A received SHIFT_DONE marks the lane QUIET. -/
  | shiftDone (b : Fin 8) (l : Fin 24) (p : Fin 12) (num : BitVec 8)
  /-- SHIFT_DONE_SEND (R260). After the last cell on a shed lane ends the transmitting end sends SHIFT_DONE. -/
  | shiftDoneSend (b : Fin 8) (l : Fin 24)
  /-- SHED_ACK_TIMEOUT (R260). A receiver unable to acknowledge by t0 + 2^-16 s sends SHIFT_NAK and raises CAP again. -/
  | shedAckTimeout (b : Fin 8)
  /-- SHIFT_REQ_RESEND (R258). An unanswered SHIFT_REQ is resent after 2^-20 s, at most 4 times, then abandoned. -/
  | shiftReqResend (b : Fin 8)
  /-- DERAILLEUR_WINDOW (R259). At each 2^-16 s window the transmitting end measures utilisation and sheds or restores a pair. -/
  | derailleurWindow (b : Fin 8)
  /-- QUIET_BURST (R260). A quiet lane sends a burst of 4 ALIGN codewords every 2^-18 s. -/
  | quietBurst (b : Fin 8) (l : Fin 24)
  /-- TIMING (R271). A received TIMING control word raises FAB_TIMING with its receive instant. -/
  | timing (b : Fin 8) (l : Fin 24) (w : List (BitVec 8)) (inst : BitVec 80)
  /-- FAB_CW_UNKNOWN (R255). A reserved control word is ignored and counted. -/
  | fabCwUnknown (b : Fin 8) (ty : BitVec 8)
  /-- LANE_CDR_LOCK (R256). A lane's receive CDR locks and the lane enters CW_LOCK. -/
  | laneCdrLock (b : Fin 8) (l : Fin 24)
  /-- FAB_LANE_FAIL (R268). A lane loses lock or exceeds 64 uncorrectable codewords and goes FAILED, lowering CAP. -/
  | fabLaneFail (b : Fin 8) (l : Fin 24) (lost : Bool)
  /-- LANE_RETRAIN (R256). A FAILED lane returns to SIGNAL 2^-4 s later. -/
  | laneRetrain (b : Fin 8) (l : Fin 24)
  /-- FAB_BUNDLE_CFG_WRITE (R256). A write of FAB_BUNDLE_CFG enables or disables a bundle or lanes. -/
  | fabBundleCfgWrite (b : Fin 8) (v : BitVec 32)
  /-- FAB_DEV_CFG_WRITE (R257). A write of FAB_DEV_CFG sets EN or DEVICE_ID, refusing ID writes while enabled. -/
  | fabDevCfgWrite (v : BitVec 32)
  /-- FAB_TIME_TX (R271). A write of FAB_TIME_TX sends a TIMING word and reports its transmit instant. -/
  | fabTimeTx (b : Fin 8) (v : BitVec 32)
  /-- FAB_MCL_WRITE (R253). FAB_MCL_CMD WRITE stores a device list and its class. -/
  | fabMclWrite (v : BitVec 32)
  /-- FAB_MCL_READ (R253). FAB_MCL_CMD READ returns a device list and its class. -/
  | fabMclRead (v : BitVec 32)
  /-- RESIDUE_RETEST (R291). A residue copy is re-tested after a state change, every 2^-20 s or after its predecessor leaves. -/
  | residueRetest (q : Fin 4) (n : BitVec 16)
  /-- RESIDUE_EXPIRE (R291). A residue copy's window closes and it expires. -/
  | residueExpire (q : Fin 4)
  /-- COPY_LINK_CROSSED (R280). A copy's last byte crosses the die-to-die link and its buffer references are decremented. -/
  | copyLinkCrossed (c : BitVec 32)
  /-- BUF_POOL_REBUILT (R281). The free-list rebuild ends, held frees apply and the difference enters the loss ledger. -/
  | bufPoolRebuilt (q : Fin 4) (i : Fin 4)
  /-- BUF_CFG_WRITE (R274). A write of a pool size register is applied or refused with CFG_REFUSED. -/
  | bufCfgWrite (q : Fin 4) (r : BufReg) (v : BitVec 32)
  /-- READ_CFG (R294). ADM_QCMD READ_CFG returns a queue's configuration. -/
  | readCfg (q : Fin 4) (v : BitVec 32)
  /-- WRITE_CFG (R294). ADM_QCMD WRITE_CFG writes a queue's configuration or sets ERR. -/
  | writeCfg (q : Fin 4) (v : BitVec 32)
  /-- READ_STATE (R294). ADM_QCMD READ_STATE returns a queue's depth and state. -/
  | readState (q : Fin 4) (v : BitVec 32)
  /-- WRITE_ELEM (R289). MCR_WR_CMD WRITE_ELEM writes a replication element atomically. -/
  | writeElem (q : Fin 4) (v : BitVec 32)
  /-- WRITE_HEAD (R289). MCR_WR_CMD WRITE_HEAD writes a replication head and clears SAFE until earlier walks end. -/
  | writeHead (q : Fin 4) (v : BitVec 32)
  /-- READ_ELEM (R295). MCR_WR_CMD READ_ELEM returns a replication element. -/
  | readElem (q : Fin 4) (v : BitVec 32)
  /-- READ_HEAD (R295). MCR_WR_CMD READ_HEAD returns a replication head entry. -/
  | readHead (q : Fin 4) (v : BitVec 32)
  /-- SCHEDULER_SELECT (R300). Each cycle the quadrant selects one eligible copy for an egress slice down the node tree and dequeues it. -/
  | schedulerSelect (e : Fin 16) (u : Option MemLoc)
  /-- WHEEL_SLOT_RELEASE (R306). A wheel slot instant releases shaped nodes whose credit has recovered. -/
  | wheelSlotRelease (q : Fin 4)
  /-- SCH_READ_CFG (R318). SCH_NCMD READ_CFG returns a node's configuration. -/
  | schReadCfg (q : Fin 4) (v : BitVec 32)
  /-- SCH_WRITE_CFG (R308). SCH_NCMD WRITE_CFG writes a node's configuration or sets ERR. -/
  | schWriteCfg (q : Fin 4) (v : BitVec 32)
  /-- SCH_READ_STATE (R318). SCH_NCMD READ_STATE returns a node's credit, wheel and deficit state. -/
  | schReadState (q : Fin 4) (v : BitVec 32)
  /-- SCH_PORT_CFG_WRITE (R303). A write of SCH_PORT_CFG changes byte mode or overhead and zeroes shaper credits on a mode change. -/
  | schPortCfgWrite (q : Fin 4) (k : Fin 36) (v : BitVec 32)
  /-- GATE_ENTRY_BOUNDARY (R310). A gate control list entry begins and sets the gate bits, hold or release. -/
  | gateEntryBoundary (p : Fin 128)
  /-- GATE_STAGE_RELEASE (R311). The gate stage releases one frame whose gate is open at its transmit instant, or drops a frame too long. -/
  | gateStageRelease (p : Fin 128)
  /-- GO (R315). A write of 1 to GATE_CHANGE.GO schedules the administrative list or is refused. -/
  | go (p : Fin 128)
  /-- GATE_LIST_SWITCH (R315). At the change instant the administrative list becomes operational. -/
  | gateListSwitch (p : Fin 128)
  /-- GATE_LIST_WRITE (R315). GATE_LIST_CMD writes one administrative entry or is refused for the pending bank. -/
  | gateListWrite (i : Fin 16) (v : BitVec 32)
  /-- GATE_LIST_READ (R319). GATE_LIST_CMD READ returns one operational entry. -/
  | gateListRead (i : Fin 16) (v : BitVec 32)
  /-- GATE_CFG_WRITE (R310). A write of GATE_CFG.EN enables gate lists or is refused on an OTN port. -/
  | gateCfgWrite (p : Fin 128) (v : BitVec 32)
  /-- SAMPLE_ROUND_START (R316). At each interval a sampling round starts and writes a ROUND entry, or is skipped. -/
  | sampleRoundStart (q : Fin 4)
  /-- SAMPLE_VISIT (R317). The round visits one queue and writes its QUEUE entry to the sample ring. -/
  | sampleVisit (q : Fin 4)
  /-- EGRESS_SLICE_ENTRY (R178). A dequeued copy enters its egress slice, takes the egress epoch and applies edits, crypto and length checks. -/
  | egressSliceEntry (n : BitVec 32)
  /-- EGRESS_COMMIT (R424). A copy passes egress commit and the slice sends a commit notice to the Cyclometer. -/
  | egressCommit (n : BitVec 32)
  /-- REQUEST_PROMOTE (R325). A class 1–3 memory request that has waited AGE is promoted ahead of lookups. -/
  | requestPromote (m : MemCtl) (w : BitVec 32)
  /-- CHANNEL_CHECK (R330). Setting a channel or stack EN runs the check pattern and sets UP or LINK_FAIL. -/
  | channelCheck (m : MemCtl) (v : BitVec 32) (ok : Bool)
  /-- HBM_TEMP_READ (R332). Every 2^-10 s a stack's temperature is read and its refresh rate doubled or restored. -/
  | hbmTempRead (st : Fin 8) (temp : BitVec 8)
  /-- SCRUB_PASS (R334). A scrub reads a memory word and conditionally writes back corrected data. -/
  | scrubPass (l : MemLoc) (w : WordRes)
  /-- REGION_COPY_END (R338). The copy of a retired table DRAM region to a spare completes and lookups move to it. -/
  | regionCopyEnd (c : Fin 24) (r : Fin 16) (bad : Option MemLoc)
  /-- HOST_LINK_TRAIN (R341). A host port trains after PERST deassertion or when enabled. -/
  | hostLinkTrain (h : Fin 4) (speed : Fin 6) (w : LinkW) (flit : Bool)
  /-- HOST_PORT_RESET (R342). PERST assertion, a Hot Reset or a long link-down resets every function of the port. -/
  | hostPortReset (h : Fin 4) (c : PortReset)
  /-- HIF_PORT_CFG_WRITE (R345). A write of HIF_PORT_CFG enables a port or sets VF vectors, or is refused. -/
  | hifPortCfgWrite (h : Fin 4) (v : BitVec 32)
  /-- MSIX_PENDING_SEND (R345). A pending MSI-X vector is sent when Bus Master Enable and the mask allow. -/
  | msixPendingSend (f : Fin 1024) (v : BitVec 11)
  /-- APERTURE_ACCESS (R350). A BAR4 access is mapped through the aperture map or handled as outside the aperture. -/
  | apertureAccess (f : Fin 1024) (off : BitVec 37) (op : AptOp) (unc : Option MemLoc)
  /-- HIF_APT_WRITE (R351). HIF_APT_CMD write sets an aperture entry or is refused and sets ERR. -/
  | hifAptWrite (v : BitVec 32)
  /-- HIF_APT_READ (R362). HIF_APT_CMD READ returns an aperture entry into HIF_APT_DATA. -/
  | hifAptRead (v : BitVec 32)
  /-- HIF_APT_FUNC_WRITE (R362). A write of HIF_APT_FUNC sets a function's map range or is refused. -/
  | hifAptFuncWrite (f : Fin 1024) (v : BitVec 32)
  /-- BME_CLEAR (R357). Clearing Bus Master Enable stops the function's requests and pauses its rings. -/
  | bmeClear (f : Fin 1024)
  /-- BME_SET (R357). Setting Bus Master Enable clears QUIESCED without restarting rings. -/
  | bmeSet (f : Fin 1024) (c : FnCfg)
  /-- FLR_START (R358). A Function Level Reset quarantines tags, resets rings and state and aborts key vault operations. -/
  | flrStart (f : Fin 1024)
  /-- FLR_END (R358). The Function Level Reset completes and FLR_BUSY clears. -/
  | flrEnd (f : Fin 1024)
  /-- COMPLETION_TIMEOUT (R360). A device-issued read passes its deadline and is reported, quarantined and completed by kind. -/
  | completionTimeout (h : Fin 4) (tag : BitVec 14)
  /-- READ_COMPLETION_RX (R361). A completion arrives for an outstanding, quarantined or unknown tag. -/
  | readCompletionRx (f : Fin 1024) (tag : BitVec 14) (c : Cpl)
  /-- TAG_QUARANTINE_EXPIRE (R361). A quarantined tag leaves quarantine after QUAR_SPAN. -/
  | tagQuarantineExpire (h : Fin 4) (tag : BitVec 14)
  /-- HIF_IERR_STATUS_CLEAR (R356). Clearing an internal error status bit frees the internal header log when it held that error. -/
  | hifIerrStatusClear (v : BitVec 32)
  /-- PRODUCE (R367). A PRODUCE doorbell advances a ring's descriptor producer index or is refused. -/
  | produce (r : Req) (whole : Bool) (v : BitVec 64)
  /-- CONSUME (R367). A CONSUME doorbell frees completion slots or is refused. -/
  | consume (r : Req) (whole : Bool) (v : BitVec 64)
  /-- START (R371). RING_CTRL START starts a stopped or paused ring and arms it, or is refused. -/
  | start (r : Req) (g : BitVec 16) (v : BitVec 32)
  /-- STOP (R371). RING_CTRL STOP finishes taken work and moves the ring to STOPPING. -/
  | stop (r : Req) (g : BitVec 16) (v : BitVec 32)
  /-- RESET (R371). RING_CTRL RESET zeroes a ring's indices and releases its reserved slots. -/
  | reset (r : Req) (g : BitVec 16) (v : BitVec 32)
  /-- STOPPING_END (R369). The stop work of a ring ends and it enters STOPPED. -/
  | stoppingEnd (g : BitVec 16)
  /-- RING_SETUP_WRITE (R371). A write of RING_CFG, RING_OWNER or a base register is applied while STOPPED or refused. -/
  | ringSetupWrite (r : Req) (g : BitVec 16) (q : RingReg) (v : BitVec 32)
  /-- DESCRIPTOR_FETCH (R373). The device reserves a completion slot and fetches descriptors from a ring. -/
  | descriptorFetch (g : BitVec 16) (n : BitVec 8)
  /-- RING_ERROR (R372). A failed descriptor fetch puts the ring into ERROR and raises RING_ERROR. -/
  | ringError (g : BitVec 16) (timeout : Bool)
  /-- INDEX_WORD_WRITE (R364). The device writes a ring's index word after the entries it reports and may send the MSI-X vector. -/
  | indexWordWrite (g : BitVec 16)
  /-- TX_FRAME_TAKE (R375). A TX frame whose EOP is posted is taken and its data reads are issued. -/
  | txFrameTake (g : BitVec 16)
  /-- TX_FRAME_READ_DONE (R375). A TX frame's data has been read and it enters its ingress slice or completes with an error status. -/
  | txFrameReadDone (g : BitVec 16)
  /-- RX_FRAME_WRITE (R379). A dequeued host or CORE copy is written into its receive ring's reserved descriptors. -/
  | rxFrameWrite (g : BitVec 16)
  /-- RX_RING_WAIT_EXPIRE (R379). A head frame's ring wait expires and it is dequeued and dropped. -/
  | rxRingWaitExpire (queue : BitVec 19)
  /-- PUNT_WRITE (R380). Punt bytes are written into ring descriptors as they arrive and descriptors free. -/
  | puntWrite (g : BitVec 16)
  /-- PUNT_DRY_EXPIRE (R380). A punt's ring-wait window closes and the punt ends with TRUNCATED_DISCARD. -/
  | puntDryExpire (g : BitVec 16)
  /-- TURN (R381). A TURN control entry closes the ring's batch, requests a turn and puts the ring in TURN_WAIT. -/
  | turn (g : BitVec 16)
  /-- NOP (R381). A NOP control entry completes OK. -/
  | nop (g : BitVec 16)
  /-- PBLH (R396). A hart loads a 16-bit big-endian value from a packet buffer. -/
  | pblh (h : Fin 128) (rd : Fin 32) (a : BitVec 64)
  /-- PBLW (R396). A hart loads a 32-bit big-endian value from a packet buffer. -/
  | pblw (h : Fin 128) (rd : Fin 32) (a : BitVec 64)
  /-- PBLD (R396). A hart loads a 64-bit big-endian value from a packet buffer. -/
  | pbld (h : Fin 128) (rd : Fin 32) (a : BitVec 64)
  /-- PBSH (R396). A hart stores a 16-bit big-endian value to a packet buffer. -/
  | pbsh (h : Fin 128) (a : BitVec 64) (v : BitVec 64)
  /-- PBSW (R396). A hart stores a 32-bit big-endian value to a packet buffer. -/
  | pbsw (h : Fin 128) (a : BitVec 64) (v : BitVec 64)
  /-- PBSD (R396). A hart stores a 64-bit big-endian value to a packet buffer. -/
  | pbsd (h : Fin 128) (a : BitVec 64) (v : BitVec 64)
  /-- EQXRD (R398). A hart captures the Equinox instant and returns its short form. -/
  | eqxrd (h : Fin 128) (rd : Fin 32) (user : Bool)
  /-- EQXRDS (R398). A hart returns the seconds of its last EQXRD capture. -/
  | eqxrds (h : Fin 128) (rd : Fin 32) (user : Bool)
  /-- LADD (R397). A hart adds a signed value to an application ledger through the combining adders. -/
  | ladd (h : Fin 128) (a : BitVec 64) (v : BitVec 64)
  /-- HART_MEMORY_ACCESS (R390). A hart load or store is decoded against the physical map and its domain windows, or faults. -/
  | hartMemoryAccess (h : Fin 128) (op : HartOp) (a : BitVec 64) (size : Fin 4) (unc : Option MemLoc)
  /-- HPM_OVERFLOW_TRAP (R399). A hart counter overflow traps with bounded skid. -/
  | hpmOverflowTrap (h : Fin 128) (n : Fin 32) (epc : BitVec 64) (skid : Fin 9)
  /-- HART_LOST (R393). A core fault moves or restarts the hart on a spare core or takes a core, raising HART_LOST. -/
  | hartLost (h : Fin 128) (core : Fin 10) (f : CoreFault)
  /-- HART_RESET (R418). A write of 1 to CPX_HART_CTRL.RESET restarts a hart at its domain vector. -/
  | hartReset (h : Fin 128) (v : BitVec 32)
  /-- ESP_RX_CHECK (R405). At the tail an inbound ESP packet's ICV and replay window are checked and it re-enters or is dropped. -/
  | espRxCheck (p : BitVec 32)
  /-- ICR_TABLE_WRITE (R420). ICR_CMD write stores an SA, SC, binding or inbound entry or sets ERR. -/
  | icrTableWrite (v : BitVec 32)
  /-- ICR_TABLE_READ (R420). ICR_CMD read returns an SA, SC, binding or inbound entry. -/
  | icrTableRead (v : BitVec 32)
  /-- ENC (R410). A key vault ENC command queues an AES block encryption under a slot. -/
  | enc (r : Req) (p : Fin 64) (v : BitVec 32)
  /-- DEC (R410). A key vault DEC command queues an AES block decryption under a slot. -/
  | dec (r : Req) (p : Fin 64) (v : BitVec 32)
  /-- UNWRAP (R411). A key vault UNWRAP command queues the unwrapping and checking of a key into a slot. -/
  | unwrap (r : Req) (p : Fin 64) (v : BitVec 32)
  /-- ERASE (R415). A key vault ERASE zeroises a slot at once and aborts operations that use it. -/
  | erase (r : Req) (p : Fin 64) (v : BitVec 32)
  /-- LOAD_ICR (R410). A key vault LOAD_ICR command queues the copy of a slot's key into an SA. -/
  | loadIcr (r : Req) (p : Fin 64) (v : BitVec 32)
  /-- KVC_OPERATION_START (R412). The page scheduler starts the pending operation of the lowest page when a core is free. -/
  | kvcOperationStart
  /-- KVC_OPERATION_END (R413). A key vault operation ends and sets its status code. -/
  | kvcOperationEnd (p : Fin 65)
  /-- KVC_ENTROPY_FAIL (R416). An entropy health test failure stops the vault and ends every operation with ENTROPY_FAIL. -/
  | kvcEntropyFail
  /-- ENTROPY_RECOVER (R416). The continuous entropy tests pass again and the vault accepts commands. -/
  | entropyRecover
  /-- KVC_SLOT_CFG_WRITE (R409). A write of KVC_SLOT_CFG is applied only while the slot is empty. -/
  | kvcSlotCfgWrite (i : Fin 256) (v : BitVec 32)
  /-- NOTICE_PROCESS (R427). The Cyclometer takes a commit notice and adds it to its subject's counter cache entry. -/
  | noticeProcess (e : Fin 16)
  /-- COUNTER_WRITEBACK (R428). A cache entry is written back into its subject's counter word in metering DRAM. -/
  | counterWriteback (e : Fin 16) (w : WordRes)
  /-- INTERVAL_BOUNDARY (R432). At an interval boundary cache entries of the closing parity stop taking notices and are written back. -/
  | intervalBoundary
  /-- INTERVAL_FREEZE (R432). After the settle span the closing bank is frozen. -/
  | intervalFreeze
  /-- RECORD_CLOSE (R433). The Cyclometer reads the frozen bank, writes the record, authenticates and publishes it. -/
  | recordClose (bad : List (BitVec 23))
  /-- ISLAND_MARKER (R431). The island takes a time marker from the follower and corrects or jumps its time. -/
  | islandMarker
  /-- ISLAND_MARKER_LOSS (R431). No marker for 2^-18 s makes the island run on at its last increment. -/
  | islandMarkerLoss
  /-- ISLAND_POWER_UP (R422). The Cyclometer island supply comes up and resets the island, drawing a new RUN_ID. -/
  | islandPowerUp
  /-- CYC_MAC_KEY_LOAD (R421). The Cyclometer unwraps its record MAC key into slot 0xFE and publishes waiting records. -/
  | cycMacKeyLoad
  /-- CYC_ACK_SEQ (R436). A write of CYC_ACK.SEQ releases held records of the current run. -/
  | cycAckSeq (v : Word)
  /-- OLD_RUNS (R436). A write of 1 to CYC_ACK_OLD.OLD_RUNS releases held records of earlier runs. -/
  | oldRuns (v : Word)
  /-- UNSEAL (R440). A signed UNSEAL command burns a seal counter bit and clears SEALED. -/
  | unseal (burnt : Bool)
  /-- SEAL (R439). A signed SEAL command sets SEALED and seals the configuration in force. -/
  | seal
  /-- CONFIRM_FORMAT (R442). A signed CONFIRM_FORMAT command ends dual record writing. -/
  | confirmFormat
  /-- CYC_MAP_WRITE (R426). CYC_MAP_CMD WRITE stores a subject map entry or is refused. -/
  | cycMapWrite (v : Word)
  /-- CYC_MAP_READ (R444). CYC_MAP_CMD READ returns a subject map entry. -/
  | cycMapRead (v : Word)
  /-- METER_CHANNEL_CHECK (R423). Setting a metering channel EN runs its check and sets UP or LINK_FAIL. -/
  | meterChannelCheck (c : Fin 2) (v : Word) (ok : Bool)
  /-- TRUING_SNAPSHOT (R451). At each multiple of 2^-10 s each die snapshots every ledger quantity. -/
  | truingSnapshot (errs : List LedgerErr)
  /-- TRUING_EVALUATE (R452). The Truing engine evaluates every ledger of a snapshot and raises faults. -/
  | truingEvaluate
  /-- DRAIN (R454). A DRAIN purge re-points a range of queues at the DRAIN port. -/
  | drain
  /-- DISCARD (R454). A DISCARD purge frees every copy in a range of queues and enters the loss ledger. -/
  | discard
  /-- PURGE_END (R454). A purge ends and its queues stay disabled. -/
  | purgeEnd
  /-- SNAP (R461). A write of PMC_CTRL.SNAP requests a snapshot of counters at the target instant. -/
  | snap (d : Fin 2) (v : Word)
  /-- FREEZE (R461). A write of PMC_CTRL.FREEZE freezes or releases the die's counters at the target instant. -/
  | freeze (d : Fin 2) (v : Word)
  /-- PMC_TARGET_REACHED (R461). The target instant arrives and the snapshot or freeze takes effect. -/
  | pmcTargetReached (d : Fin 2)
  /-- PMC_VAL_WRITE (R460). A write of PMC_VAL sets a counter, losing counts of that cycle. -/
  | pmcValWrite (d : Fin 2) (n : Fin 4096) (v : BitVec 64)
  /-- COLD_START (R466). The always-on rail comes up, clearing the failed-start counter and BOOT_CAUSE. -/
  | coldStart
  /-- WARM_RESET (R466). PORST_N assertion or an internal reset resets everything but the always-on domain and the island. -/
  | warmReset
  /-- RESTART (R466). A write of 1 to BOOT_CTRL.RESTART causes a warm reset. -/
  | restart (r : Req)
  /-- ROM_START (R467). The boot ROM reads OTP, loads boot keys and enters LOAD or Kickstand mode. -/
  | romStart
  /-- BOOT_GO (R467). BOOT_CTRL.GO starts verification of the staged image and opens the start window. -/
  | bootGo (r : Req)
  /-- IMAGE_VERIFY_END (R470). Image verification ends and the board section is applied, or the start fails. -/
  | imageVerifyEnd
  /-- BOOT_MEMORY_UP (R467). The memory checks end and the ROM copies sections, arms the lease and starts k0. -/
  | bootMemoryUp (bad : Option MemCtl)
  /-- CYC_SECTION_VERIFY_END (R471). The Cyclometer section is verified and the device reaches RUNNING, or the start fails. -/
  | cycSectionVerifyEnd
  /-- CONFIRM (R467). BOOT_CTRL.CONFIRM confirms the start, clears the counter and sets the lease end. -/
  | confirm (r : Req)
  /-- WINDOW_EXPIRED (R472). The start window closes before CONFIRM and the start fails. -/
  | windowExpired
  /-- FIRMWARE_ABORT (R472). A write of BOOT_ABORT fails the start. -/
  | firmwareAbort (r : Req) (code : BitVec 8)
  /-- FAIL_CLEAR (R474). BOOT_CTRL.FAIL_CLEAR in Kickstand mode sets the failed-start counter to 0. -/
  | failClear (r : Req)
  /-- OTP_WR_IDENTITY (R479). OTP_WR_CMD naming IDENTITY ends with PROTECTED. -/
  | otpWrIdentity (r : Req) (supply : Bool)
  /-- OTP_WR_OWNER (R477). OTP_WR_CMD naming OWNER queues a generation write or ends with NOT_AUTHORIZED. -/
  | otpWrOwner (r : Req) (supply : Bool)
  /-- OTP_WR_POLICY (R477). OTP_WR_CMD naming POLICY queues a generation write or ends with NOT_AUTHORIZED. -/
  | otpWrPolicy (r : Req) (supply : Bool)
  /-- OTP_WR_SEAL (R479). OTP_WR_CMD naming SEAL ends with PROTECTED. -/
  | otpWrSeal (r : Req) (supply : Bool)
  /-- OTP_WR_REPAIR (R478). OTP_WR_CMD naming REPAIR queues a repair entry append. -/
  | otpWrRepair (r : Req) (supply : Bool)
  /-- OTP_BURN_END (R477). An OTP burn and read-back end and burn VALID or VOID. -/
  | otpBurnEnd (ok supply : Bool)
  /-- UPGRADE_UNLOCK (R480). A signed UPGRADE_UNLOCK owner command permits the next upgrade START. -/
  | upgradeUnlock (r : Req)
  /-- OTP_WRITE (R480). A signed OTP_WRITE owner command writes an OWNER or POLICY generation. -/
  | otpWrite (r : Req) (supply : Bool)
  /-- BOOT_LEASE_CFG_WRITE (R482). A write of BOOT_LEASE_CFG.SPAN is applied or refused outside the policy range. -/
  | bootLeaseCfgWrite (r : Req) (v : Word)
  /-- LEASE_RENEW (R483). A renewal by domain 0 sets the lease end to the write instant plus SPAN. -/
  | leaseRenew (r : Req)
  /-- LEASE_EXPIRED (R484). The lease end arrives and line forwarding stops for good. -/
  | leaseExpired
  /-- UPGRADE_START (R485). BOOT_UPG_CMD.START copies and verifies a new image or is refused. -/
  | upgradeStart (r : Req) (loc : BitVec 11)
  /-- UPGRADE_VERIFY_END (R485). Upgrade verification ends and k15 boots the new image, or the upgrade is refused. -/
  | upgradeVerifyEnd
  /-- HANDOVER (R485). The upgrade re-checks the refusal conditions and k15 takes over or the upgrade is abandoned. -/
  | handover
  /-- UPGRADE_DONE (R485). k0 takes control back with the new image and old-version state is discarded. -/
  | upgradeDone
  /-- BOOT_UPG_BUF_WRITE (R487). A write of BOOT_UPG_BUF names the upgrade buffer or is refused during an upgrade. -/
  | bootUpgBufWrite (r : Req) (v : Word)
  /-- HEARTBEAT (R490). A heartbeat write from a cluster restarts its heartbeat window. -/
  | heartbeat (r : Req)
  /-- HEARTBEAT_TIMEOUT (R490). The heartbeat window closes and the active cluster is declared failed. -/
  | heartbeatTimeout
  /-- FORCE_SWITCH (R490). A write of 1 to TDM_CTRL.FORCE_SWITCH declares the active cluster failed. -/
  | forceSwitch (r : Req)
  /-- CLAIM (R497). TDM_CTRL.CLAIM ends a failover gap or opens a handover overlap, or is refused. -/
  | claim (r : Req)
  /-- RELEASE (R496). TDM_CTRL.RELEASE closes the overlap window early. -/
  | release (r : Req)
  /-- TDM_HANDOVER (R496). The overlap window closes, ACTIVE changes and the outgoing cluster is blocked. -/
  | tdmHandover
  /-- TDM_STANDBY_LATE (R495). No CLAIM within 200 ms of the failure raises TDM_STANDBY_LATE. -/
  | tdmStandbyLate
  /-- K15_POWER_DOWN (R496). An outgoing k15 powers down 2^-10 s after the handover. -/
  | k15PowerDown
  /-- CHECKPOINT_DUE (R492). At each checkpoint period an interrupt on k0 starts a checkpoint. -/
  | checkpointDue
  /-- TDM_SEQ_WRITE (R494). A write of TDM_SEQ keeps the greater of its value and the value written. -/
  | tdmSeqWrite (r : Req) (v : BitVec 64)
  /-- PRIMARY_SELF_TEST_END (R498). k0's self-test ends and k0 enters HOLD_DOWN, RESET or FAILED. -/
  | primarySelfTestEnd (ok : Bool)
  /-- HOLD_DOWN_END (R498). The hold-down window closes and k0 becomes READY. -/
  | holdDownEnd
  /-- SENSOR_READ (R503). Junction sensors are read every 2^-16 s and the hottest reading reported. -/
  | sensorRead (f : BitVec 8) (t : BitVec 8) (aon : BitVec 8) (lost : Option (Die × Fin 24))
  /-- GOVERNOR_EVALUATE (R505). At each 2^-10 s the thermal and electrical requests are computed and the level in force moves by one. -/
  | governorEvaluate (amps : BitVec 12)
  /-- PWR_MARGIN (R510). A rail leaves or returns to its window and the margin alarm changes. -/
  | pwrMargin (rail : Fin 8) (out : Bool)
  /-- SLICE_FENCED (R512). A failing lookup stage takes the spare stage or fences the slice. -/
  | sliceFenced (sl : Fin 32) (stage : BitVec 16) (past : List (BitVec 32))
  /-- FENCE_TAKEOVER (R513). The partner slice takes over a fenced slice's lane group and host rings. -/
  | fenceTakeover (sl : Fin 32)
  /-- AON_START (R523). The always-on domain starts after 64 reference clock edges and drives THERMTRIP_N high. -/
  | aonStart
  /-- PORST_RELEASE (R524). A rising edge of PORST_N takes effect once every rail is in its window. -/
  | porstRelease (out : BitVec 9) (temp : BitVec 8)
  /-- GATE_TIMEOUT (R524). The rails are not in window within 100 ms of the PORST_N edge and GATE_TIMEOUT sets. -/
  | gateTimeout
  /-- RAIL_BROWNOUT (R524). A rail falls below 90 % and causes a warm reset, cold start or island reset. -/
  | railBrownout (rail : Fin 9)
  /-- SYSREF_LOSS (R527). Loss of SYSREF is detected and holds a warm reset until it returns. -/
  | sysrefLoss (present : Bool)
  /-- REFCLK_25M_LOSS (R527). Loss of REFCLK_25M switches the always-on domain to its internal oscillator. -/
  | refclk25mLoss (present : Bool)
  /-- BYPASS (R529). The JTAG BYPASS instruction selects the bypass register. -/
  | bypass (l : List Bool)
  /-- IDCODE (R529). The JTAG IDCODE instruction returns 0x1256_016F. -/
  | idcode
  /-- SAMPLE_PRELOAD (R529). The JTAG SAMPLE/PRELOAD instruction samples or preloads the boundary cells. -/
  | samplePreload (pins : List Bool) (l : List Bool)
  /-- EXTEST (R529). The JTAG EXTEST instruction drives the boundary cells while the internal reset is held. -/
  | extest (l : List Bool)
  /-- EXTEST_PULSE (R529). The JTAG EXTEST_PULSE instruction tests AC-coupled lanes under IEEE 1149.6. -/
  | extestPulse (l : List Bool)
  /-- EXTEST_TRAIN (R529). The JTAG EXTEST_TRAIN instruction tests AC-coupled lanes with pulse trains. -/
  | extestTrain (l : List Bool)
  /-- CLAMP (R529). The JTAG CLAMP instruction holds pin states with the bypass register selected. -/
  | clamp (l : List Bool)
  /-- HIGHZ (R529). The JTAG HIGHZ instruction puts outputs in high impedance. -/
  | highz (l : List Bool)
  /-- TAP_RESET (R529). The TAP enters Test-Logic-Reset, ending any reset held by a test instruction. -/
  | tapReset
  /-- SMB_SERIAL_READ (R530). Management command 0x00 returns the device serial number. -/
  | smbSerialRead
  /-- SMB_CORE_TARGET_READ (R530). Management commands 0x10 and 0x11 return the core rail target codes. -/
  | smbCoreTargetRead (d : Die)
  /-- SMB_DIE_TEMP_READ (R530). Management commands 0x20 and 0x21 return the hottest die readings. -/
  | smbDieTempRead (d : Die)
  /-- SMB_AON_TEMP_READ (R530). Management command 0x22 returns the always-on sensor reading. -/
  | smbAonTempRead
  /-- SMB_TRIP_LOG_READ (R530). Management command 0x28 returns the thermal trip log. -/
  | smbTripLogRead
  /-- SMB_BOOT_CAUSE_READ (R530). Management command 0x30 returns BOOT_CAUSE. -/
  | smbBootCauseRead
  /-- SMB_BOOT_STATUS_READ (R530). Management command 0x31 returns boot state, Kickstand and failed starts. -/
  | smbBootStatusRead
  /-- SMB_RAIL_OUT_READ (R530). Management command 0x40 returns PWR_STATUS.RAIL_OUT. -/
  | smbRailOutRead
  /-- SMB_RAIL_STATUS_READ (R530). Management command 0x41 returns rail window and gate timeout status. -/
  | smbRailStatusRead
  /-- SMB_UNKNOWN_CODE (R530). An unlisted management command code is not acknowledged. -/
  | smbUnknownCode (c : BitVec 8)
  /-- FDIE_RESET_HOLD (R542). Setting DEV_DIE_RESET.FDIE quiesces the link and holds the Forwarding die in reset, or is refused. -/
  | fdieResetHold (r : Req)
  /-- TDIE_RESET_HOLD (R542). Setting DEV_DIE_RESET.TDIE quiesces the link and holds the Traffic die in reset, or is refused. -/
  | tdieResetHold (r : Req)
  /-- DIE_RESET_RELEASE (R542). Clearing a DEV_DIE_RESET bit lets the die leave reset and the link retrain. -/
  | dieResetRelease (r : Req) (d : Die)
  /-- LANE_WAIT_RESTORE (R261). When a cell has waited 2^-20 s for a free lane, the transmitting end restores every quiet pair of the bundle. -/
  | laneWaitRestore (b : Fin 8)
  /-- CAP_LIMITED_WINDOW (R261). A receiving Ryusar whose CAP has limited its grants for a whole 2^-16 s window while backlog remained sends SHIFT_REQ UP. -/
  | capLimitedWindow (b : Fin 8)
  /-- REF10M_EDGE_RETURN (R55). The first REF10M edge after a loss of signal clears TIME_STATUS.REF10M_LOS. -/
  | ref10mEdgeReturn
  deriving DecidableEq, Repr

end Sys2Proof
end

