-- ==== Sys2Proof/Decode.lean ====
section
/-! DEFINITION. Words of the table. The device takes commands, not instruction words, and the table gives its rows no bits. -/

namespace Sys2Proof

/-- The command that a word spells by the table's bits: none, since no row of the table has bits. -/
def decodeTableWord (_nbits _w : Nat) : Option Instr := none

end Sys2Proof
end

