-- ==== Sys2Proof/Config.lean ====
section
/-! DEFINITION. What an implementation fixes and the values the spec leaves open: constants with no body, so that
no proof can see what they are. `Config.draw` is applied to the counter `State.draws`, which the step advances, so that
each use is a fresh value. -/

namespace Sys2Proof

/-- A fresh free value (assumption 1): seeds, nonces, incarnations, run identifiers and selections the hardware draws. -/
opaque Config.draw : Nat → BitVec 128

/-- The code of the event that matches an internal error source of R355 for which no table gives one (assumption 2). -/
opaque Config.ierrEventCode : Nat → BitVec 16

/-- The seeded bucket hashes of the exact-match table (assumption 5): seed, which of the two, key type, table, key (R168). -/
opaque Config.exmBucket : BitVec 128 → Bool → Nat → Nat → Nat → BitVec 23

/-- The seeded fingerprint of an exact-match key (assumption 5): seed, key type, table, key (R168). -/
opaque Config.exmPrint : BitVec 128 → Nat → Nat → Nat → BitVec 14

/-- The key that an inline engine uses for an SA whose AES-256 flag differs from the length of the key loaded into it (assumption 6): the flag,
and the key loaded. -/
opaque Config.icrKey : Bool → Nat → Nat

/-- The width of the MACsec replay window, which the spec does not give (assumption 7, R403). -/
opaque Config.macsecWindow : Nat

/-- The SCI a line port transmits, which no register holds (assumption 7, R402). -/
opaque Config.txSci : Nat → BitVec 64

/-- The set of the fragment table that a key hashes to (assumption 9, R131): IP version, addresses, protocol, identification. -/
opaque Config.fragSet : Bool → Nat → Nat → Nat → Nat → BitVec 14

/-- The route table that a host frame's internal header carries, whose layout the spec does not give (assumption 10, R159). -/
opaque Config.ithTable : BitVec 128 → BitVec 12

/-- The internal header of a recirculated packet (assumption 10): next level and number. -/
opaque Config.ithBytes : Nat → Nat → BitVec 128

/-- The location of an event for which no chapter names one (assumption 12): event code, and the number of what it concerns. -/
opaque Config.eventLoc : Nat → Nat → BitVec 32

/-- The fixed latency from the gate stage to the ball plane, by speed and FEC (R309, assumption 13). -/
opaque Config.txLat : Nat → Nat → BitVec 16

/-- Which free HBM page is taken (R278, assumption 14): the search for a free one begins here. -/
opaque Config.hbmPage : Nat → Nat

/-- The location fields of a memory event's payload, whose layout the spec does not give (assumption 15, R336, R385): event code, memory
kind, location. -/
opaque Config.memPayload : Nat → Nat → Nat → BitVec 56

/-- The row of its region in which a memory word lies (assumption 16): memory kind and location. -/
opaque Config.memRow : Nat → Nat → BitVec 16

/-- The table DRAM region, as channel × 2 + region, in which an exact-match slot lies (assumption 16): the draw of the seed, and the slot. -/
opaque Config.exmPlace : BitVec 128 → Nat → BitVec 6

/-- The exact-match slot of which a table DRAM word is the entry; beyond the last slot for a word of the trie (assumption 16). -/
opaque Config.exmAt : BitVec 128 → Nat → BitVec 26

/-- The table DRAM region of a route in trie stages 4 and 5, and the 1 MiB region of table SRAM of one in stages 0 to 3 (assumption 16):
family, table, length, prefix. -/
opaque Config.triePlace : Bool → Nat → Nat → Nat → BitVec 6
opaque Config.trieSram : Bool → Nat → Nat → Nat → BitVec 5

/-- The region of queue and scheduler state SRAM in which a node's state lies (assumption 16). -/
opaque Config.nodeRegion : Nat → BitVec 6

/-- The fields of an added outer header for which no rule gives a value (assumption 17, R176, R404): identification, fragment word, flow label,
ECN and checksum of UDP, from the header's addresses and the bytes it stands before. -/
opaque Config.tunIdent : List (BitVec 8) → BitVec 16
opaque Config.tunFrag : List (BitVec 8) → BitVec 16
opaque Config.tunFlow : List (BitVec 8) → BitVec 20
opaque Config.tunEcn : List (BitVec 8) → BitVec 2
opaque Config.tunUdpCsum : List (BitVec 8) → BitVec 16

/-- The fuses that an OTP burn which did not verify, or which a reset cut, has burnt of those it was to burn (assumption 21): use, and which. -/
opaque Config.otpBurnt : Nat → BitVec 512

/-- The set of a counter cache that a subject hashes to (assumption 22, R428). -/
opaque Config.cycSet : Nat → BitVec 10

/-- What a Cyclometer section carries beside the header of R469, whose layout the spec does not give (assumption 23): by the section's SHA-384, its
record format, the wrapped record MAC key with its key check value, the INTERVAL and PHASE, the port overheads and the subject map of its
configuration block. -/
opaque Config.cycFormat : Nat → BitVec 8
opaque Config.cycMacKey : Nat → BitVec 320
opaque Config.cycInterval : Nat → BitVec 17
opaque Config.cycPhase : Nat → BitVec 17
opaque Config.cycOverhead : Nat → Nat → BitVec 8
opaque Config.cycMapEntry : Nat → Nat → BitVec 32

/-- A record in a format other than 1, from the same record in format 1 (assumption 23, R442). -/
opaque Config.cycRecord : Nat → List (BitVec 8) → List (BitVec 8)

/-- What a metering DRAM word holds (assumption 24): the counter word of a subject below 2^23, or the 32 bytes of the record store that begin at
32 × (the value − 2^23). -/
opaque Config.meterAt : Nat → BitVec 24

/-- A register value of the board section, whose layout the spec does not give (assumption 25, R467): the number that the section's bytes spell, and
the register's address. -/
opaque Config.boardReg : Nat → Nat → BitVec 32

/-- The counter block of a confidential section, from its 64-bit counter (assumption 26, R471). -/
opaque Config.ctrBlock : BitVec 64 → BitVec 128

/-- The table DRAM address at which the ROM places a section: its kind, and its number in the image (assumption 27, R467). -/
opaque Config.bootPlace : Nat → Nat → BitVec 38

/-- The core rail targets fixed at the factory, as codes above 20 (assumption 29, R522): VDD_FCORE, and VDD_TCORE for `true`. -/
opaque Config.coreTarget : Bool → Fin 21

end Sys2Proof
end

