-- ==== Sys2Proof/Machine/RegBase.lean ====
section
/-! DEFINITION. The shapes of the register map: a field of a register word, a register definition, a counter,
and the reading and writing of a field within a word. -/

namespace Sys2Proof.Machine

/-- The type codes of R12. -/
inductive RegTy where
  | rw | ro | rc | w1c | w1s | wo | rwo | sl
  deriving DecidableEq, Repr

/-- One field of a register: its bits `[hi:lo]`, its type code (R12) and its value after reset. -/
structure Fld where
  hi : Nat
  lo : Nat
  ty : RegTy
  reset : Nat
  deriving DecidableEq, Repr

/-- The width of a field in bits. -/
def Fld.width (f : Fld) : Nat := f.hi - f.lo + 1

/-- The bits of a field in place within its word. -/
def Fld.mask (f : Fld) : Word := BitVec.ofNat 32 ((2 ^ f.width - 1) <<< f.lo)

/-- The value of a field within a register word. -/
def Fld.get (f : Fld) (w : Word) : Nat := (w.toNat >>> f.lo) % 2 ^ f.width

/-- A register word with one field replaced; the bits of `v` above the field's width are dropped. -/
def Fld.put (f : Fld) (w : Word) (v : Nat) : Word :=
  (w &&& ~~~ f.mask) ||| (BitVec.ofNat 32 (v <<< f.lo) &&& f.mask)

/-- The place of a register in a 64-bit pair whose halves are held for a requester (R14). -/
inductive Half where
  | single | lo | hi
  deriving DecidableEq, Repr

/-- A register definition: its base address, the counts and strides of its indices (largest stride first), its place in a
register pair and its fields. -/
structure RegDef where
  base : Nat
  dims : List (Nat × Nat)
  half : Half
  fields : List Fld
  deriving DecidableEq, Repr

/-- Whether an offset from a base is reached by indices within the counts of `dims`. -/
def dimsMatch : List (Nat × Nat) → Nat → Bool
  | [], o => o == 0
  | (count, stride) :: rest, o => decide (o / stride < count) && dimsMatch rest (o % stride)

/-- Whether address `a` is an instance of the register that `d` defines. -/
def RegDef.covers (d : RegDef) (a : Nat) : Bool := decide (d.base ≤ a) && dimsMatch d.dims (a - d.base)

/-- The word of a register after reset: every field at the Reset column of its table, reserved bits zero (R11). -/
def RegDef.resetWord (d : RegDef) : Word := d.fields.foldl (fun w f => f.put w f.reset) 0

/-- A counter of R89: the address of its `_LO` half (`_HI` follows at + 4), of its overflow register, and its bit there. -/
structure Ctr where
  lo : Nat
  ovf : Nat
  bit : Nat
  deriving DecidableEq, Repr

end Sys2Proof.Machine
end

