-- ==== Sys2Proof/Machine/RegMapA.lean ====
section
/-! DEFINITION. The register definitions of the blocks DEV, D2D, TIME, PORT, OTN, PRS, PRSF, FWH, FWHE, LPMS, LPM, EXM, EGT, one address function, one set of
fields and one row each, copied from the field tables of the chapters that define them at the bases of
R537 and R538 (spec/23_register_map.md). Index-dependent resets are in RegReset.lean. -/

namespace Sys2Proof.Machine

/-! ### Block DEV (R540) -/

def Reg.DEV_ID : Nat := 0x0
def Fld.DEV_ID_PART : Fld := ⟨31, 16, .ro, 0x2560⟩
def Fld.DEV_ID_STEPPING : Fld := ⟨15, 8, .ro, 0xa1⟩
def Fld.DEV_ID_LID : Fld := ⟨7, 4, .ro, 1⟩
def Fld.DEV_ID_METER : Fld := ⟨0, 0, .ro, 0⟩
def Reg.DEV_VENDOR : Nat := 0x4
def Fld.DEV_VENDOR_PCI_VID : Fld := ⟨31, 16, .ro, 0x1eb7⟩
def Fld.DEV_VENDOR_MFR : Fld := ⟨10, 0, .ro, 0xb7⟩
def Reg.DEV_SERIAL_LO : Nat := 0x8
def Fld.DEV_SERIAL_LO_SERIAL : Fld := ⟨31, 0, .ro, 0⟩
def Reg.DEV_SERIAL_HI : Nat := 0xc
def Fld.DEV_SERIAL_HI_SERIAL : Fld := ⟨31, 0, .ro, 0⟩
def Reg.DEV_ROM_VER : Nat := 0x10
def Fld.DEV_ROM_VER_VERSION : Fld := ⟨31, 0, .ro, 0x10000⟩
def Reg.DEV_CORE_TARGET : Nat := 0x14
def Fld.DEV_CORE_TARGET_FCORE : Fld := ⟨15, 8, .ro, 0⟩
def Fld.DEV_CORE_TARGET_TCORE : Fld := ⟨7, 0, .ro, 0⟩
def Reg.DEV_SCRATCH : Nat := 0x100
def Fld.DEV_SCRATCH_VALUE : Fld := ⟨31, 0, .rw, 0⟩
def Reg.DEV_STATUS : Nat := 0x104
def Fld.DEV_STATUS_CONFIRMED : Fld := ⟨31, 31, .ro, 0⟩
def Fld.DEV_STATUS_KICKSTAND : Fld := ⟨30, 30, .ro, 0⟩
def Fld.DEV_STATUS_LEASE_EXPIRED : Fld := ⟨29, 29, .ro, 0⟩
def Fld.DEV_STATUS_THROTTLE : Fld := ⟨28, 28, .ro, 0⟩
def Fld.DEV_STATUS_MARGIN_ALARM : Fld := ⟨27, 27, .ro, 0⟩
def Fld.DEV_STATUS_CONS_FAULT : Fld := ⟨26, 26, .ro, 0⟩
def Fld.DEV_STATUS_CAP_REDUCED : Fld := ⟨25, 25, .ro, 0⟩
def Fld.DEV_STATUS_IERR : Fld := ⟨24, 24, .ro, 0⟩
def Fld.DEV_STATUS_SWITCHING : Fld := ⟨23, 23, .ro, 0⟩
def Fld.DEV_STATUS_FDIE_IN_RESET : Fld := ⟨22, 22, .ro, 0⟩
def Fld.DEV_STATUS_TDIE_IN_RESET : Fld := ⟨21, 21, .ro, 0⟩
def Reg.DEV_DIE_RESET : Nat := 0x108
def Fld.DEV_DIE_RESET_TDIE : Fld := ⟨1, 1, .rw, 0⟩
def Fld.DEV_DIE_RESET_FDIE : Fld := ⟨0, 0, .rw, 0⟩
def Reg.DEV_DIE_STATUS : Nat := 0x10c
def Fld.DEV_DIE_STATUS_LINK_UP : Fld := ⟨31, 31, .ro, 0⟩
def Fld.DEV_DIE_STATUS_QUIESCED : Fld := ⟨30, 30, .ro, 0⟩
def Fld.DEV_DIE_STATUS_LAST_CAUSE : Fld := ⟨29, 28, .ro, 0⟩
def Fld.DEV_DIE_STATUS_REFUSED : Fld := ⟨27, 27, .w1c, 0⟩
def Fld.DEV_DIE_STATUS_TDIE_IN_RESET : Fld := ⟨1, 1, .ro, 0⟩
def Fld.DEV_DIE_STATUS_FDIE_IN_RESET : Fld := ⟨0, 0, .ro, 0⟩
def Reg.DEV_CAP (d c : Nat) : Nat := 0x1000 + 0x100 * (d - 1) + 0x4 * c
def Fld.DEV_CAP_VAL : Fld := ⟨31, 0, .ro, 0⟩
def Reg.DEV_REPAIR_STATUS : Nat := 0x200
def Fld.DEV_REPAIR_STATUS_FULL : Fld := ⟨31, 31, .ro, 0⟩
def Fld.DEV_REPAIR_STATUS_COUNT : Fld := ⟨10, 0, .ro, 0⟩
def Reg.DEV_REPAIR_LOG (i w : Nat) : Nat := 0x4000 + 0x10 * i + 0x4 * w
def Fld.DEV_REPAIR_LOG_W : Fld := ⟨31, 0, .ro, 0⟩

def regRowsDEV : List RegDef := [
  ⟨0x0, [], .single,
    [Fld.DEV_ID_PART, Fld.DEV_ID_STEPPING, Fld.DEV_ID_LID, Fld.DEV_ID_METER]⟩,
  ⟨0x4, [], .single,
    [Fld.DEV_VENDOR_PCI_VID, Fld.DEV_VENDOR_MFR]⟩,
  ⟨0x8, [], .lo,
    [Fld.DEV_SERIAL_LO_SERIAL]⟩,
  ⟨0xc, [], .hi,
    [Fld.DEV_SERIAL_HI_SERIAL]⟩,
  ⟨0x10, [], .single,
    [Fld.DEV_ROM_VER_VERSION]⟩,
  ⟨0x14, [], .single,
    [Fld.DEV_CORE_TARGET_FCORE, Fld.DEV_CORE_TARGET_TCORE]⟩,
  ⟨0x100, [], .single,
    [Fld.DEV_SCRATCH_VALUE]⟩,
  ⟨0x104, [], .single,
    [Fld.DEV_STATUS_CONFIRMED, Fld.DEV_STATUS_KICKSTAND, Fld.DEV_STATUS_LEASE_EXPIRED, Fld.DEV_STATUS_THROTTLE, Fld.DEV_STATUS_MARGIN_ALARM, Fld.DEV_STATUS_CONS_FAULT, Fld.DEV_STATUS_CAP_REDUCED, Fld.DEV_STATUS_IERR, Fld.DEV_STATUS_SWITCHING, Fld.DEV_STATUS_FDIE_IN_RESET, Fld.DEV_STATUS_TDIE_IN_RESET]⟩,
  ⟨0x108, [], .single,
    [Fld.DEV_DIE_RESET_TDIE, Fld.DEV_DIE_RESET_FDIE]⟩,
  ⟨0x10c, [], .single,
    [Fld.DEV_DIE_STATUS_LINK_UP, Fld.DEV_DIE_STATUS_QUIESCED, Fld.DEV_DIE_STATUS_LAST_CAUSE, Fld.DEV_DIE_STATUS_REFUSED, Fld.DEV_DIE_STATUS_TDIE_IN_RESET, Fld.DEV_DIE_STATUS_FDIE_IN_RESET]⟩,
  ⟨0x1000, [(2, 0x100), (64, 0x4)], .single,
    [Fld.DEV_CAP_VAL]⟩,
  ⟨0x200, [], .single,
    [Fld.DEV_REPAIR_STATUS_FULL, Fld.DEV_REPAIR_STATUS_COUNT]⟩,
  ⟨0x4000, [(1024, 0x10), (4, 0x4)], .single,
    [Fld.DEV_REPAIR_LOG_W]⟩]

/-! ### Block D2D (R545) -/

def Reg.D2D_STATUS (d : Nat) : Nat := 0x1fc44000 + 0xffc8000 * (d - 1)
def Fld.D2D_STATUS_UP : Fld := ⟨31, 31, .ro, 0⟩
def Fld.D2D_STATUS_QUIESCED : Fld := ⟨30, 30, .ro, 0⟩
def Fld.D2D_STATUS_DISCONT : Fld := ⟨29, 29, .ro, 0⟩
def Reg.D2D_RETRY_LO (d : Nat) : Nat := 0x1fc44100 + 0xffc8000 * (d - 1)
def Fld.D2D_RETRY_LO_COUNT : Fld := ⟨31, 0, .ro, 0⟩
def Reg.D2D_RETRY_HI (d : Nat) : Nat := 0x1fc44104 + 0xffc8000 * (d - 1)
def Fld.D2D_RETRY_HI_COUNT : Fld := ⟨31, 0, .ro, 0⟩
def Reg.D2D_FAIL_LO (d : Nat) : Nat := 0x1fc44108 + 0xffc8000 * (d - 1)
def Fld.D2D_FAIL_LO_COUNT : Fld := ⟨31, 0, .ro, 0⟩
def Reg.D2D_FAIL_HI (d : Nat) : Nat := 0x1fc4410c + 0xffc8000 * (d - 1)
def Fld.D2D_FAIL_HI_COUNT : Fld := ⟨31, 0, .ro, 0⟩
def Reg.D2D_CNT_OVF (d : Nat) : Nat := 0x1fc441f0 + 0xffc8000 * (d - 1)
def Fld.D2D_CNT_OVF_OVF : Fld := ⟨1, 0, .w1c, 0⟩
def Ctr.D2D_RETRY (d : Nat) : Ctr := ⟨0x1fc44100 + 0xffc8000 * (d - 1), 0x1fc441f0 + 0xffc8000 * (d - 1), 0⟩
def Ctr.D2D_FAIL (d : Nat) : Ctr := ⟨0x1fc44108 + 0xffc8000 * (d - 1), 0x1fc441f0 + 0xffc8000 * (d - 1), 1⟩

def regRowsD2D : List RegDef := [
  ⟨0x1fc44000, [(2, 0xffc8000)], .single,
    [Fld.D2D_STATUS_UP, Fld.D2D_STATUS_QUIESCED, Fld.D2D_STATUS_DISCONT]⟩,
  ⟨0x1fc44100, [(2, 0xffc8000)], .lo,
    [Fld.D2D_RETRY_LO_COUNT]⟩,
  ⟨0x1fc44104, [(2, 0xffc8000)], .hi,
    [Fld.D2D_RETRY_HI_COUNT]⟩,
  ⟨0x1fc44108, [(2, 0xffc8000)], .lo,
    [Fld.D2D_FAIL_LO_COUNT]⟩,
  ⟨0x1fc4410c, [(2, 0xffc8000)], .hi,
    [Fld.D2D_FAIL_HI_COUNT]⟩,
  ⟨0x1fc441f0, [(2, 0xffc8000)], .single,
    [Fld.D2D_CNT_OVF_OVF]⟩]

/-! ### Block TIME (R68) -/

def Reg.TIME_CTRL : Nat := 0x1fc00000
def Fld.TIME_CTRL_WD_SPAN : Fld := ⟨12, 7, .rw, 0x3f⟩
def Fld.TIME_CTRL_WD_EN : Fld := ⟨6, 6, .rw, 1⟩
def Fld.TIME_CTRL_SERVICE : Fld := ⟨5, 5, .w1s, 0⟩
def Fld.TIME_CTRL_STEP : Fld := ⟨4, 4, .wo, 0⟩
def Fld.TIME_CTRL_SERVO_STATE : Fld := ⟨3, 2, .rw, 0⟩
def Fld.TIME_CTRL_PPS_OUT_EN : Fld := ⟨1, 1, .rw, 0⟩
def Fld.TIME_CTRL_REF10M_EN : Fld := ⟨0, 0, .rw, 0⟩
def Reg.TIME_STATUS : Nat := 0x1fc00004
def Fld.TIME_STATUS_STEP_REFUSED : Fld := ⟨7, 7, .w1c, 0⟩
def Fld.TIME_STATUS_INC_REFUSED : Fld := ⟨6, 6, .w1c, 0⟩
def Fld.TIME_STATUS_WD_HOLDOVER : Fld := ⟨5, 5, .ro, 0⟩
def Fld.TIME_STATUS_PPS_IN_OVERRUN : Fld := ⟨4, 4, .w1c, 0⟩
def Fld.TIME_STATUS_PPS_IN_NEW : Fld := ⟨3, 3, .ro, 0⟩
def Fld.TIME_STATUS_REF10M_LOS : Fld := ⟨2, 2, .ro, 1⟩
def Fld.TIME_STATUS_DIE_ALIGN_ERR : Fld := ⟨1, 1, .w1c, 0⟩
def Fld.TIME_STATUS_TDIE_DISCONT : Fld := ⟨0, 0, .ro, 0⟩
def Reg.TIME_NOW_FRAC : Nat := 0x1fc00010
def Fld.TIME_NOW_FRAC_FRAC : Fld := ⟨31, 0, .ro, 0⟩
def Reg.TIME_NOW_SEC_LO : Nat := 0x1fc00014
def Fld.TIME_NOW_SEC_LO_SEC : Fld := ⟨31, 0, .ro, 0⟩
def Reg.TIME_NOW_SEC_HI : Nat := 0x1fc00018
def Fld.TIME_NOW_SEC_HI_SEC : Fld := ⟨15, 0, .ro, 0⟩
def Reg.TIME_INC_LO : Nat := 0x1fc00020
def Fld.TIME_INC_LO_INC : Fld := ⟨31, 0, .rw, 0x6e80fe03⟩
def Reg.TIME_INC_HI : Nat := 0x1fc00024
def Fld.TIME_INC_HI_INC : Fld := ⟨31, 0, .rw, 1⟩
def Reg.TIME_SET_FRAC : Nat := 0x1fc00030
def Fld.TIME_SET_FRAC_FRAC : Fld := ⟨31, 0, .rw, 0⟩
def Reg.TIME_SET_SEC_LO : Nat := 0x1fc00034
def Fld.TIME_SET_SEC_LO_SEC : Fld := ⟨31, 0, .rw, 0⟩
def Reg.TIME_SET_SEC_HI : Nat := 0x1fc00038
def Fld.TIME_SET_SEC_HI_SEC : Fld := ⟨15, 0, .rw, 0⟩
def Reg.TIME_PPS_IN_FRAC : Nat := 0x1fc00040
def Fld.TIME_PPS_IN_FRAC_FRAC : Fld := ⟨31, 0, .ro, 0⟩
def Reg.TIME_PPS_IN_SEC : Nat := 0x1fc00044
def Fld.TIME_PPS_IN_SEC_SEC : Fld := ⟨31, 0, .ro, 0⟩
def Reg.TIME_REF10M_CAP : Nat := 0x1fc00048
def Fld.TIME_REF10M_CAP_OFFSET : Fld := ⟨15, 0, .ro, 0⟩
def Reg.TIME_PPS_OUT_CFG : Nat := 0x1fc00050
def Fld.TIME_PPS_OUT_CFG_WIDTH : Fld := ⟨31, 16, .rw, 0xccd⟩
def Fld.TIME_PPS_OUT_CFG_OFFSET : Fld := ⟨15, 0, .rw, 0⟩
def Reg.TIME_SYNCE_CFG : Nat := 0x1fc00054
def Fld.TIME_SYNCE_CFG_RCLK1_EN : Fld := ⟨31, 31, .rw, 0⟩
def Fld.TIME_SYNCE_CFG_RCLK1_PORT : Fld := ⟨30, 24, .rw, 0⟩
def Fld.TIME_SYNCE_CFG_RCLK0_EN : Fld := ⟨23, 23, .rw, 0⟩
def Fld.TIME_SYNCE_CFG_RCLK0_PORT : Fld := ⟨22, 16, .rw, 0⟩
def Reg.TIME_SYNCE_MEAS0 : Nat := 0x1fc00058
def Fld.TIME_SYNCE_MEAS0_COUNT : Fld := ⟨31, 0, .ro, 0⟩
def Reg.TIME_SYNCE_MEAS1 : Nat := 0x1fc0005c
def Fld.TIME_SYNCE_MEAS1_COUNT : Fld := ⟨31, 0, .ro, 0⟩
def Reg.TIME_TS_ADJ (n : Nat) : Nat := 0x1fc00400 + 0x4 * n
def Fld.TIME_TS_ADJ_RX : Fld := ⟨31, 16, .rw, 0⟩
def Fld.TIME_TS_ADJ_TX : Fld := ⟨15, 0, .rw, 0⟩

def regRowsTIME : List RegDef := [
  ⟨0x1fc00000, [], .single,
    [Fld.TIME_CTRL_WD_SPAN, Fld.TIME_CTRL_WD_EN, Fld.TIME_CTRL_SERVICE, Fld.TIME_CTRL_STEP, Fld.TIME_CTRL_SERVO_STATE, Fld.TIME_CTRL_PPS_OUT_EN, Fld.TIME_CTRL_REF10M_EN]⟩,
  ⟨0x1fc00004, [], .single,
    [Fld.TIME_STATUS_STEP_REFUSED, Fld.TIME_STATUS_INC_REFUSED, Fld.TIME_STATUS_WD_HOLDOVER, Fld.TIME_STATUS_PPS_IN_OVERRUN, Fld.TIME_STATUS_PPS_IN_NEW, Fld.TIME_STATUS_REF10M_LOS, Fld.TIME_STATUS_DIE_ALIGN_ERR, Fld.TIME_STATUS_TDIE_DISCONT]⟩,
  ⟨0x1fc00010, [], .single,
    [Fld.TIME_NOW_FRAC_FRAC]⟩,
  ⟨0x1fc00014, [], .single,
    [Fld.TIME_NOW_SEC_LO_SEC]⟩,
  ⟨0x1fc00018, [], .single,
    [Fld.TIME_NOW_SEC_HI_SEC]⟩,
  ⟨0x1fc00020, [], .lo,
    [Fld.TIME_INC_LO_INC]⟩,
  ⟨0x1fc00024, [], .hi,
    [Fld.TIME_INC_HI_INC]⟩,
  ⟨0x1fc00030, [], .single,
    [Fld.TIME_SET_FRAC_FRAC]⟩,
  ⟨0x1fc00034, [], .lo,
    [Fld.TIME_SET_SEC_LO_SEC]⟩,
  ⟨0x1fc00038, [], .hi,
    [Fld.TIME_SET_SEC_HI_SEC]⟩,
  ⟨0x1fc00040, [], .single,
    [Fld.TIME_PPS_IN_FRAC_FRAC]⟩,
  ⟨0x1fc00044, [], .single,
    [Fld.TIME_PPS_IN_SEC_SEC]⟩,
  ⟨0x1fc00048, [], .single,
    [Fld.TIME_REF10M_CAP_OFFSET]⟩,
  ⟨0x1fc00050, [], .single,
    [Fld.TIME_PPS_OUT_CFG_WIDTH, Fld.TIME_PPS_OUT_CFG_OFFSET]⟩,
  ⟨0x1fc00054, [], .single,
    [Fld.TIME_SYNCE_CFG_RCLK1_EN, Fld.TIME_SYNCE_CFG_RCLK1_PORT, Fld.TIME_SYNCE_CFG_RCLK0_EN, Fld.TIME_SYNCE_CFG_RCLK0_PORT]⟩,
  ⟨0x1fc00058, [], .single,
    [Fld.TIME_SYNCE_MEAS0_COUNT]⟩,
  ⟨0x1fc0005c, [], .single,
    [Fld.TIME_SYNCE_MEAS1_COUNT]⟩,
  ⟨0x1fc00400, [(136, 0x4)], .single,
    [Fld.TIME_TS_ADJ_RX, Fld.TIME_TS_ADJ_TX]⟩]

/-! ### Block PORT (R90) -/

def Reg.PORT_GROUP_STATUS (i : Nat) : Nat := 0x10000000 + 0x400000 * i
def Fld.PORT_GROUP_STATUS_LANE_USED : Fld := ⟨15, 8, .ro, 0⟩
def Fld.PORT_GROUP_STATUS_LANE_SIG : Fld := ⟨7, 0, .ro, 0⟩
def Reg.PORT_CFG (i j : Nat) : Nat := 0x10001000 + 0x400000 * i + 0x400 * j
def Fld.PORT_CFG_EN : Fld := ⟨31, 31, .rw, 0⟩
def Fld.PORT_CFG_SPEED : Fld := ⟨30, 28, .rw, 4⟩
def Fld.PORT_CFG_KIND : Fld := ⟨27, 26, .rw, 0⟩
def Fld.PORT_CFG_FEC : Fld := ⟨25, 24, .rw, 3⟩
def Fld.PORT_CFG_L2_EN : Fld := ⟨23, 23, .rw, 0⟩
def Fld.PORT_CFG_PREEMPT_EN : Fld := ⟨22, 22, .rw, 0⟩
def Fld.PORT_CFG_PAUSE_RX_EN : Fld := ⟨21, 21, .rw, 0⟩
def Fld.PORT_CFG_DOWN_ACTION : Fld := ⟨20, 20, .rw, 0⟩
def Fld.PORT_CFG_LOOPBACK : Fld := ⟨19, 18, .rw, 0⟩
def Fld.PORT_CFG_MAX_FRAME : Fld := ⟨14, 0, .rw, 0x2400⟩
def Reg.PORT_STATUS (i j : Nat) : Nat := 0x10001004 + 0x400000 * i + 0x400 * j
def Fld.PORT_STATUS_CFG_REFUSED : Fld := ⟨6, 6, .w1c, 0⟩
def Fld.PORT_STATUS_LINK_EVT : Fld := ⟨5, 5, .w1c, 0⟩
def Fld.PORT_STATUS_REMOTE_FAULT : Fld := ⟨4, 4, .ro, 0⟩
def Fld.PORT_STATUS_LOCAL_FAULT : Fld := ⟨3, 3, .ro, 1⟩
def Fld.PORT_STATUS_FEC_LOCK : Fld := ⟨2, 2, .ro, 0⟩
def Fld.PORT_STATUS_PCS_LOCK : Fld := ⟨1, 1, .ro, 0⟩
def Fld.PORT_STATUS_LINK_UP : Fld := ⟨0, 0, .ro, 0⟩
def Reg.PORT_PRE_CFG (i j : Nat) : Nat := 0x10001008 + 0x400000 * i + 0x400 * j
def Fld.PORT_PRE_CFG_EXPRESS : Fld := ⟨16, 9, .rw, 0xff⟩
def Fld.PORT_PRE_CFG_VERIFY_DIS : Fld := ⟨8, 8, .rw, 0⟩
def Fld.PORT_PRE_CFG_ADD_FRAG_SIZE : Fld := ⟨7, 6, .rw, 0⟩
def Fld.PORT_PRE_CFG_VERIFY_TIME : Fld := ⟨5, 0, .rw, 0xa⟩
def Reg.PORT_PRE_STATUS (i j : Nat) : Nat := 0x1000100c + 0x400000 * i + 0x400 * j
def Fld.PORT_PRE_STATUS_VERIFY : Fld := ⟨2, 0, .ro, 4⟩
def Reg.PORT_STA_ADDR_LO (i j m : Nat) : Nat := 0x10001020 + 0x400000 * i + 0x400 * j + 0x8 * m
def Fld.PORT_STA_ADDR_LO_ADDR : Fld := ⟨31, 0, .rw, 0⟩
def Reg.PORT_STA_ADDR_HI (i j m : Nat) : Nat := 0x10001024 + 0x400000 * i + 0x400 * j + 0x8 * m
def Fld.PORT_STA_ADDR_HI_VALID : Fld := ⟨31, 31, .rw, 0⟩
def Fld.PORT_STA_ADDR_HI_ADDR : Fld := ⟨15, 0, .rw, 0⟩
def Reg.PORT_RX_COMMIT_FRAMES_LO (i j : Nat) : Nat := 0x10001100 + 0x400000 * i + 0x400 * j
def Fld.PORT_RX_COMMIT_FRAMES_LO_COUNT : Fld := ⟨31, 0, .ro, 0⟩
def Reg.PORT_RX_COMMIT_FRAMES_HI (i j : Nat) : Nat := 0x10001104 + 0x400000 * i + 0x400 * j
def Fld.PORT_RX_COMMIT_FRAMES_HI_COUNT : Fld := ⟨31, 0, .ro, 0⟩
def Reg.PORT_RX_COMMIT_OCTETS_LO (i j : Nat) : Nat := 0x10001108 + 0x400000 * i + 0x400 * j
def Fld.PORT_RX_COMMIT_OCTETS_LO_COUNT : Fld := ⟨31, 0, .ro, 0⟩
def Reg.PORT_RX_COMMIT_OCTETS_HI (i j : Nat) : Nat := 0x1000110c + 0x400000 * i + 0x400 * j
def Fld.PORT_RX_COMMIT_OCTETS_HI_COUNT : Fld := ⟨31, 0, .ro, 0⟩
def Reg.PORT_RX_RUNT_LO (i j : Nat) : Nat := 0x10001110 + 0x400000 * i + 0x400 * j
def Fld.PORT_RX_RUNT_LO_COUNT : Fld := ⟨31, 0, .ro, 0⟩
def Reg.PORT_RX_RUNT_HI (i j : Nat) : Nat := 0x10001114 + 0x400000 * i + 0x400 * j
def Fld.PORT_RX_RUNT_HI_COUNT : Fld := ⟨31, 0, .ro, 0⟩
def Reg.PORT_RX_FCS_ERR_LO (i j : Nat) : Nat := 0x10001118 + 0x400000 * i + 0x400 * j
def Fld.PORT_RX_FCS_ERR_LO_COUNT : Fld := ⟨31, 0, .ro, 0⟩
def Reg.PORT_RX_FCS_ERR_HI (i j : Nat) : Nat := 0x1000111c + 0x400000 * i + 0x400 * j
def Fld.PORT_RX_FCS_ERR_HI_COUNT : Fld := ⟨31, 0, .ro, 0⟩
def Reg.PORT_RX_OVERSIZE_LO (i j : Nat) : Nat := 0x10001120 + 0x400000 * i + 0x400 * j
def Fld.PORT_RX_OVERSIZE_LO_COUNT : Fld := ⟨31, 0, .ro, 0⟩
def Reg.PORT_RX_OVERSIZE_HI (i j : Nat) : Nat := 0x10001124 + 0x400000 * i + 0x400 * j
def Fld.PORT_RX_OVERSIZE_HI_COUNT : Fld := ⟨31, 0, .ro, 0⟩
def Reg.PORT_RX_MAC_ERR_LO (i j : Nat) : Nat := 0x10001128 + 0x400000 * i + 0x400 * j
def Fld.PORT_RX_MAC_ERR_LO_COUNT : Fld := ⟨31, 0, .ro, 0⟩
def Reg.PORT_RX_MAC_ERR_HI (i j : Nat) : Nat := 0x1000112c + 0x400000 * i + 0x400 * j
def Fld.PORT_RX_MAC_ERR_HI_COUNT : Fld := ⟨31, 0, .ro, 0⟩
def Reg.PORT_RX_DA_MISS_LO (i j : Nat) : Nat := 0x10001130 + 0x400000 * i + 0x400 * j
def Fld.PORT_RX_DA_MISS_LO_COUNT : Fld := ⟨31, 0, .ro, 0⟩
def Reg.PORT_RX_DA_MISS_HI (i j : Nat) : Nat := 0x10001134 + 0x400000 * i + 0x400 * j
def Fld.PORT_RX_DA_MISS_HI_COUNT : Fld := ⟨31, 0, .ro, 0⟩
def Reg.PORT_RX_TAIL_BAD_LO (i j : Nat) : Nat := 0x10001138 + 0x400000 * i + 0x400 * j
def Fld.PORT_RX_TAIL_BAD_LO_COUNT : Fld := ⟨31, 0, .ro, 0⟩
def Reg.PORT_RX_TAIL_BAD_HI (i j : Nat) : Nat := 0x1000113c + 0x400000 * i + 0x400 * j
def Fld.PORT_RX_TAIL_BAD_HI_COUNT : Fld := ⟨31, 0, .ro, 0⟩
def Reg.PORT_RX_PAUSE_LO (i j : Nat) : Nat := 0x10001140 + 0x400000 * i + 0x400 * j
def Fld.PORT_RX_PAUSE_LO_COUNT : Fld := ⟨31, 0, .ro, 0⟩
def Reg.PORT_RX_PAUSE_HI (i j : Nat) : Nat := 0x10001144 + 0x400000 * i + 0x400 * j
def Fld.PORT_RX_PAUSE_HI_COUNT : Fld := ⟨31, 0, .ro, 0⟩
def Reg.PORT_RX_PRE_ASM_ERR_LO (i j : Nat) : Nat := 0x10001148 + 0x400000 * i + 0x400 * j
def Fld.PORT_RX_PRE_ASM_ERR_LO_COUNT : Fld := ⟨31, 0, .ro, 0⟩
def Reg.PORT_RX_PRE_ASM_ERR_HI (i j : Nat) : Nat := 0x1000114c + 0x400000 * i + 0x400 * j
def Fld.PORT_RX_PRE_ASM_ERR_HI_COUNT : Fld := ⟨31, 0, .ro, 0⟩
def Reg.PORT_RX_PRE_SMD_ERR_LO (i j : Nat) : Nat := 0x10001150 + 0x400000 * i + 0x400 * j
def Fld.PORT_RX_PRE_SMD_ERR_LO_COUNT : Fld := ⟨31, 0, .ro, 0⟩
def Reg.PORT_RX_PRE_SMD_ERR_HI (i j : Nat) : Nat := 0x10001154 + 0x400000 * i + 0x400 * j
def Fld.PORT_RX_PRE_SMD_ERR_HI_COUNT : Fld := ⟨31, 0, .ro, 0⟩
def Reg.PORT_RX_PRE_FRAG_LO (i j : Nat) : Nat := 0x10001158 + 0x400000 * i + 0x400 * j
def Fld.PORT_RX_PRE_FRAG_LO_COUNT : Fld := ⟨31, 0, .ro, 0⟩
def Reg.PORT_RX_PRE_FRAG_HI (i j : Nat) : Nat := 0x1000115c + 0x400000 * i + 0x400 * j
def Fld.PORT_RX_PRE_FRAG_HI_COUNT : Fld := ⟨31, 0, .ro, 0⟩
def Reg.PORT_TX_FRAMES_LO (i j : Nat) : Nat := 0x10001160 + 0x400000 * i + 0x400 * j
def Fld.PORT_TX_FRAMES_LO_COUNT : Fld := ⟨31, 0, .ro, 0⟩
def Reg.PORT_TX_FRAMES_HI (i j : Nat) : Nat := 0x10001164 + 0x400000 * i + 0x400 * j
def Fld.PORT_TX_FRAMES_HI_COUNT : Fld := ⟨31, 0, .ro, 0⟩
def Reg.PORT_TX_OCTETS_LO (i j : Nat) : Nat := 0x10001168 + 0x400000 * i + 0x400 * j
def Fld.PORT_TX_OCTETS_LO_COUNT : Fld := ⟨31, 0, .ro, 0⟩
def Reg.PORT_TX_OCTETS_HI (i j : Nat) : Nat := 0x1000116c + 0x400000 * i + 0x400 * j
def Fld.PORT_TX_OCTETS_HI_COUNT : Fld := ⟨31, 0, .ro, 0⟩
def Reg.PORT_TX_OVERSIZE_DROP_LO (i j : Nat) : Nat := 0x10001170 + 0x400000 * i + 0x400 * j
def Fld.PORT_TX_OVERSIZE_DROP_LO_COUNT : Fld := ⟨31, 0, .ro, 0⟩
def Reg.PORT_TX_OVERSIZE_DROP_HI (i j : Nat) : Nat := 0x10001174 + 0x400000 * i + 0x400 * j
def Fld.PORT_TX_OVERSIZE_DROP_HI_COUNT : Fld := ⟨31, 0, .ro, 0⟩
def Reg.PORT_TX_LINK_DOWN_DROP_LO (i j : Nat) : Nat := 0x10001178 + 0x400000 * i + 0x400 * j
def Fld.PORT_TX_LINK_DOWN_DROP_LO_COUNT : Fld := ⟨31, 0, .ro, 0⟩
def Reg.PORT_TX_LINK_DOWN_DROP_HI (i j : Nat) : Nat := 0x1000117c + 0x400000 * i + 0x400 * j
def Fld.PORT_TX_LINK_DOWN_DROP_HI_COUNT : Fld := ⟨31, 0, .ro, 0⟩
def Reg.PORT_TX_ABORT_LO (i j : Nat) : Nat := 0x10001180 + 0x400000 * i + 0x400 * j
def Fld.PORT_TX_ABORT_LO_COUNT : Fld := ⟨31, 0, .ro, 0⟩
def Reg.PORT_TX_ABORT_HI (i j : Nat) : Nat := 0x10001184 + 0x400000 * i + 0x400 * j
def Fld.PORT_TX_ABORT_HI_COUNT : Fld := ⟨31, 0, .ro, 0⟩
def Reg.PORT_TX_PRE_FRAG_LO (i j : Nat) : Nat := 0x10001188 + 0x400000 * i + 0x400 * j
def Fld.PORT_TX_PRE_FRAG_LO_COUNT : Fld := ⟨31, 0, .ro, 0⟩
def Reg.PORT_TX_PRE_FRAG_HI (i j : Nat) : Nat := 0x1000118c + 0x400000 * i + 0x400 * j
def Fld.PORT_TX_PRE_FRAG_HI_COUNT : Fld := ⟨31, 0, .ro, 0⟩
def Reg.PORT_TX_PRE_HOLD_LO (i j : Nat) : Nat := 0x10001190 + 0x400000 * i + 0x400 * j
def Fld.PORT_TX_PRE_HOLD_LO_COUNT : Fld := ⟨31, 0, .ro, 0⟩
def Reg.PORT_TX_PRE_HOLD_HI (i j : Nat) : Nat := 0x10001194 + 0x400000 * i + 0x400 * j
def Fld.PORT_TX_PRE_HOLD_HI_COUNT : Fld := ⟨31, 0, .ro, 0⟩
def Reg.PORT_CNT_OVF (i j : Nat) : Nat := 0x100011f0 + 0x400000 * i + 0x400 * j
def Fld.PORT_CNT_OVF_OVF : Fld := ⟨18, 0, .w1c, 0⟩
def Ctr.PORT_RX_COMMIT_FRAMES (i j : Nat) : Ctr := ⟨0x10001100 + 0x400000 * i + 0x400 * j, 0x100011f0 + 0x400000 * i + 0x400 * j, 0⟩
def Ctr.PORT_RX_COMMIT_OCTETS (i j : Nat) : Ctr := ⟨0x10001108 + 0x400000 * i + 0x400 * j, 0x100011f0 + 0x400000 * i + 0x400 * j, 1⟩
def Ctr.PORT_RX_RUNT (i j : Nat) : Ctr := ⟨0x10001110 + 0x400000 * i + 0x400 * j, 0x100011f0 + 0x400000 * i + 0x400 * j, 2⟩
def Ctr.PORT_RX_FCS_ERR (i j : Nat) : Ctr := ⟨0x10001118 + 0x400000 * i + 0x400 * j, 0x100011f0 + 0x400000 * i + 0x400 * j, 3⟩
def Ctr.PORT_RX_OVERSIZE (i j : Nat) : Ctr := ⟨0x10001120 + 0x400000 * i + 0x400 * j, 0x100011f0 + 0x400000 * i + 0x400 * j, 4⟩
def Ctr.PORT_RX_MAC_ERR (i j : Nat) : Ctr := ⟨0x10001128 + 0x400000 * i + 0x400 * j, 0x100011f0 + 0x400000 * i + 0x400 * j, 5⟩
def Ctr.PORT_RX_DA_MISS (i j : Nat) : Ctr := ⟨0x10001130 + 0x400000 * i + 0x400 * j, 0x100011f0 + 0x400000 * i + 0x400 * j, 6⟩
def Ctr.PORT_RX_TAIL_BAD (i j : Nat) : Ctr := ⟨0x10001138 + 0x400000 * i + 0x400 * j, 0x100011f0 + 0x400000 * i + 0x400 * j, 7⟩
def Ctr.PORT_RX_PAUSE (i j : Nat) : Ctr := ⟨0x10001140 + 0x400000 * i + 0x400 * j, 0x100011f0 + 0x400000 * i + 0x400 * j, 8⟩
def Ctr.PORT_RX_PRE_ASM_ERR (i j : Nat) : Ctr := ⟨0x10001148 + 0x400000 * i + 0x400 * j, 0x100011f0 + 0x400000 * i + 0x400 * j, 9⟩
def Ctr.PORT_RX_PRE_SMD_ERR (i j : Nat) : Ctr := ⟨0x10001150 + 0x400000 * i + 0x400 * j, 0x100011f0 + 0x400000 * i + 0x400 * j, 10⟩
def Ctr.PORT_RX_PRE_FRAG (i j : Nat) : Ctr := ⟨0x10001158 + 0x400000 * i + 0x400 * j, 0x100011f0 + 0x400000 * i + 0x400 * j, 11⟩
def Ctr.PORT_TX_FRAMES (i j : Nat) : Ctr := ⟨0x10001160 + 0x400000 * i + 0x400 * j, 0x100011f0 + 0x400000 * i + 0x400 * j, 12⟩
def Ctr.PORT_TX_OCTETS (i j : Nat) : Ctr := ⟨0x10001168 + 0x400000 * i + 0x400 * j, 0x100011f0 + 0x400000 * i + 0x400 * j, 13⟩
def Ctr.PORT_TX_OVERSIZE_DROP (i j : Nat) : Ctr := ⟨0x10001170 + 0x400000 * i + 0x400 * j, 0x100011f0 + 0x400000 * i + 0x400 * j, 14⟩
def Ctr.PORT_TX_LINK_DOWN_DROP (i j : Nat) : Ctr := ⟨0x10001178 + 0x400000 * i + 0x400 * j, 0x100011f0 + 0x400000 * i + 0x400 * j, 15⟩
def Ctr.PORT_TX_ABORT (i j : Nat) : Ctr := ⟨0x10001180 + 0x400000 * i + 0x400 * j, 0x100011f0 + 0x400000 * i + 0x400 * j, 16⟩
def Ctr.PORT_TX_PRE_FRAG (i j : Nat) : Ctr := ⟨0x10001188 + 0x400000 * i + 0x400 * j, 0x100011f0 + 0x400000 * i + 0x400 * j, 17⟩
def Ctr.PORT_TX_PRE_HOLD (i j : Nat) : Ctr := ⟨0x10001190 + 0x400000 * i + 0x400 * j, 0x100011f0 + 0x400000 * i + 0x400 * j, 18⟩

def regRowsPORT : List RegDef := [
  ⟨0x10000000, [(16, 0x400000)], .single,
    [Fld.PORT_GROUP_STATUS_LANE_USED, Fld.PORT_GROUP_STATUS_LANE_SIG]⟩,
  ⟨0x10001000, [(16, 0x400000), (8, 0x400)], .single,
    [Fld.PORT_CFG_EN, Fld.PORT_CFG_SPEED, Fld.PORT_CFG_KIND, Fld.PORT_CFG_FEC, Fld.PORT_CFG_L2_EN, Fld.PORT_CFG_PREEMPT_EN, Fld.PORT_CFG_PAUSE_RX_EN, Fld.PORT_CFG_DOWN_ACTION, Fld.PORT_CFG_LOOPBACK, Fld.PORT_CFG_MAX_FRAME]⟩,
  ⟨0x10001004, [(16, 0x400000), (8, 0x400)], .single,
    [Fld.PORT_STATUS_CFG_REFUSED, Fld.PORT_STATUS_LINK_EVT, Fld.PORT_STATUS_REMOTE_FAULT, Fld.PORT_STATUS_LOCAL_FAULT, Fld.PORT_STATUS_FEC_LOCK, Fld.PORT_STATUS_PCS_LOCK, Fld.PORT_STATUS_LINK_UP]⟩,
  ⟨0x10001008, [(16, 0x400000), (8, 0x400)], .single,
    [Fld.PORT_PRE_CFG_EXPRESS, Fld.PORT_PRE_CFG_VERIFY_DIS, Fld.PORT_PRE_CFG_ADD_FRAG_SIZE, Fld.PORT_PRE_CFG_VERIFY_TIME]⟩,
  ⟨0x1000100c, [(16, 0x400000), (8, 0x400)], .single,
    [Fld.PORT_PRE_STATUS_VERIFY]⟩,
  ⟨0x10001020, [(16, 0x400000), (8, 0x400), (8, 0x8)], .lo,
    [Fld.PORT_STA_ADDR_LO_ADDR]⟩,
  ⟨0x10001024, [(16, 0x400000), (8, 0x400), (8, 0x8)], .hi,
    [Fld.PORT_STA_ADDR_HI_VALID, Fld.PORT_STA_ADDR_HI_ADDR]⟩,
  ⟨0x10001100, [(16, 0x400000), (8, 0x400)], .lo,
    [Fld.PORT_RX_COMMIT_FRAMES_LO_COUNT]⟩,
  ⟨0x10001104, [(16, 0x400000), (8, 0x400)], .hi,
    [Fld.PORT_RX_COMMIT_FRAMES_HI_COUNT]⟩,
  ⟨0x10001108, [(16, 0x400000), (8, 0x400)], .lo,
    [Fld.PORT_RX_COMMIT_OCTETS_LO_COUNT]⟩,
  ⟨0x1000110c, [(16, 0x400000), (8, 0x400)], .hi,
    [Fld.PORT_RX_COMMIT_OCTETS_HI_COUNT]⟩,
  ⟨0x10001110, [(16, 0x400000), (8, 0x400)], .lo,
    [Fld.PORT_RX_RUNT_LO_COUNT]⟩,
  ⟨0x10001114, [(16, 0x400000), (8, 0x400)], .hi,
    [Fld.PORT_RX_RUNT_HI_COUNT]⟩,
  ⟨0x10001118, [(16, 0x400000), (8, 0x400)], .lo,
    [Fld.PORT_RX_FCS_ERR_LO_COUNT]⟩,
  ⟨0x1000111c, [(16, 0x400000), (8, 0x400)], .hi,
    [Fld.PORT_RX_FCS_ERR_HI_COUNT]⟩,
  ⟨0x10001120, [(16, 0x400000), (8, 0x400)], .lo,
    [Fld.PORT_RX_OVERSIZE_LO_COUNT]⟩,
  ⟨0x10001124, [(16, 0x400000), (8, 0x400)], .hi,
    [Fld.PORT_RX_OVERSIZE_HI_COUNT]⟩,
  ⟨0x10001128, [(16, 0x400000), (8, 0x400)], .lo,
    [Fld.PORT_RX_MAC_ERR_LO_COUNT]⟩,
  ⟨0x1000112c, [(16, 0x400000), (8, 0x400)], .hi,
    [Fld.PORT_RX_MAC_ERR_HI_COUNT]⟩,
  ⟨0x10001130, [(16, 0x400000), (8, 0x400)], .lo,
    [Fld.PORT_RX_DA_MISS_LO_COUNT]⟩,
  ⟨0x10001134, [(16, 0x400000), (8, 0x400)], .hi,
    [Fld.PORT_RX_DA_MISS_HI_COUNT]⟩,
  ⟨0x10001138, [(16, 0x400000), (8, 0x400)], .lo,
    [Fld.PORT_RX_TAIL_BAD_LO_COUNT]⟩,
  ⟨0x1000113c, [(16, 0x400000), (8, 0x400)], .hi,
    [Fld.PORT_RX_TAIL_BAD_HI_COUNT]⟩,
  ⟨0x10001140, [(16, 0x400000), (8, 0x400)], .lo,
    [Fld.PORT_RX_PAUSE_LO_COUNT]⟩,
  ⟨0x10001144, [(16, 0x400000), (8, 0x400)], .hi,
    [Fld.PORT_RX_PAUSE_HI_COUNT]⟩,
  ⟨0x10001148, [(16, 0x400000), (8, 0x400)], .lo,
    [Fld.PORT_RX_PRE_ASM_ERR_LO_COUNT]⟩,
  ⟨0x1000114c, [(16, 0x400000), (8, 0x400)], .hi,
    [Fld.PORT_RX_PRE_ASM_ERR_HI_COUNT]⟩,
  ⟨0x10001150, [(16, 0x400000), (8, 0x400)], .lo,
    [Fld.PORT_RX_PRE_SMD_ERR_LO_COUNT]⟩,
  ⟨0x10001154, [(16, 0x400000), (8, 0x400)], .hi,
    [Fld.PORT_RX_PRE_SMD_ERR_HI_COUNT]⟩,
  ⟨0x10001158, [(16, 0x400000), (8, 0x400)], .lo,
    [Fld.PORT_RX_PRE_FRAG_LO_COUNT]⟩,
  ⟨0x1000115c, [(16, 0x400000), (8, 0x400)], .hi,
    [Fld.PORT_RX_PRE_FRAG_HI_COUNT]⟩,
  ⟨0x10001160, [(16, 0x400000), (8, 0x400)], .lo,
    [Fld.PORT_TX_FRAMES_LO_COUNT]⟩,
  ⟨0x10001164, [(16, 0x400000), (8, 0x400)], .hi,
    [Fld.PORT_TX_FRAMES_HI_COUNT]⟩,
  ⟨0x10001168, [(16, 0x400000), (8, 0x400)], .lo,
    [Fld.PORT_TX_OCTETS_LO_COUNT]⟩,
  ⟨0x1000116c, [(16, 0x400000), (8, 0x400)], .hi,
    [Fld.PORT_TX_OCTETS_HI_COUNT]⟩,
  ⟨0x10001170, [(16, 0x400000), (8, 0x400)], .lo,
    [Fld.PORT_TX_OVERSIZE_DROP_LO_COUNT]⟩,
  ⟨0x10001174, [(16, 0x400000), (8, 0x400)], .hi,
    [Fld.PORT_TX_OVERSIZE_DROP_HI_COUNT]⟩,
  ⟨0x10001178, [(16, 0x400000), (8, 0x400)], .lo,
    [Fld.PORT_TX_LINK_DOWN_DROP_LO_COUNT]⟩,
  ⟨0x1000117c, [(16, 0x400000), (8, 0x400)], .hi,
    [Fld.PORT_TX_LINK_DOWN_DROP_HI_COUNT]⟩,
  ⟨0x10001180, [(16, 0x400000), (8, 0x400)], .lo,
    [Fld.PORT_TX_ABORT_LO_COUNT]⟩,
  ⟨0x10001184, [(16, 0x400000), (8, 0x400)], .hi,
    [Fld.PORT_TX_ABORT_HI_COUNT]⟩,
  ⟨0x10001188, [(16, 0x400000), (8, 0x400)], .lo,
    [Fld.PORT_TX_PRE_FRAG_LO_COUNT]⟩,
  ⟨0x1000118c, [(16, 0x400000), (8, 0x400)], .hi,
    [Fld.PORT_TX_PRE_FRAG_HI_COUNT]⟩,
  ⟨0x10001190, [(16, 0x400000), (8, 0x400)], .lo,
    [Fld.PORT_TX_PRE_HOLD_LO_COUNT]⟩,
  ⟨0x10001194, [(16, 0x400000), (8, 0x400)], .hi,
    [Fld.PORT_TX_PRE_HOLD_HI_COUNT]⟩,
  ⟨0x100011f0, [(16, 0x400000), (8, 0x400)], .single,
    [Fld.PORT_CNT_OVF_OVF]⟩]

/-! ### Block OTN (R118) -/

def Reg.OTN_CFG (i j : Nat) : Nat := 0x10005000 + 0x400000 * i + 0x400 * j
def Fld.OTN_CFG_FORCE_AIS : Fld := ⟨4, 4, .rw, 0⟩
def Fld.OTN_CFG_N : Fld := ⟨3, 0, .rw, 0⟩
def Reg.OTN_STATUS (i j : Nat) : Nat := 0x10005004 + 0x400000 * i + 0x400 * j
def Fld.OTN_STATUS_DEFECT_EVT : Fld := ⟨9, 9, .w1c, 0⟩
def Fld.OTN_STATUS_IN_SERVICE : Fld := ⟨8, 8, .ro, 0⟩
def Fld.OTN_STATUS_DBDI_PM : Fld := ⟨7, 7, .ro, 0⟩
def Fld.OTN_STATUS_DBDI_SM : Fld := ⟨6, 6, .ro, 0⟩
def Fld.OTN_STATUS_DPLM : Fld := ⟨5, 5, .ro, 0⟩
def Fld.OTN_STATUS_DAIS : Fld := ⟨4, 4, .ro, 0⟩
def Fld.OTN_STATUS_DLOL : Fld := ⟨3, 3, .ro, 0⟩
def Fld.OTN_STATUS_DLOM : Fld := ⟨2, 2, .ro, 0⟩
def Fld.OTN_STATUS_DLOF : Fld := ⟨1, 1, .ro, 1⟩
def Fld.OTN_STATUS_DLOS : Fld := ⟨0, 0, .ro, 1⟩
def Reg.OTN_INST_STATUS (i j : Nat) : Nat := 0x10005008 + 0x400000 * i + 0x400 * j
def Fld.OTN_INST_STATUS_STATE : Fld := ⟨15, 0, .ro, 0⟩
def Reg.OTN_SKEW (i j : Nat) : Nat := 0x1000500c + 0x400000 * i + 0x400 * j
def Fld.OTN_SKEW_SKEW : Fld := ⟨15, 0, .ro, 0⟩
def Reg.OTN_PM_SEC_LO (i j : Nat) : Nat := 0x10005100 + 0x400000 * i + 0x400 * j
def Fld.OTN_PM_SEC_LO_SEC : Fld := ⟨31, 0, .ro, 0⟩
def Reg.OTN_PM_SEC_HI (i j : Nat) : Nat := 0x10005104 + 0x400000 * i + 0x400 * j
def Fld.OTN_PM_SEC_HI_SEC : Fld := ⟨15, 0, .ro, 0⟩
def Reg.OTN_PM_SM_BIP (i j : Nat) : Nat := 0x10005108 + 0x400000 * i + 0x400 * j
def Fld.OTN_PM_SM_BIP_COUNT : Fld := ⟨31, 0, .ro, 0⟩
def Reg.OTN_PM_SM_BEI (i j : Nat) : Nat := 0x1000510c + 0x400000 * i + 0x400 * j
def Fld.OTN_PM_SM_BEI_COUNT : Fld := ⟨31, 0, .ro, 0⟩
def Reg.OTN_PM_PM_BIP (i j : Nat) : Nat := 0x10005110 + 0x400000 * i + 0x400 * j
def Fld.OTN_PM_PM_BIP_COUNT : Fld := ⟨31, 0, .ro, 0⟩
def Reg.OTN_PM_PM_BEI (i j : Nat) : Nat := 0x10005114 + 0x400000 * i + 0x400 * j
def Fld.OTN_PM_PM_BEI_COUNT : Fld := ⟨31, 0, .ro, 0⟩
def Reg.OTN_PM_DEFECT_SEC (i j : Nat) : Nat := 0x10005118 + 0x400000 * i + 0x400 * j
def Fld.OTN_PM_DEFECT_SEC_DEFECT : Fld := ⟨7, 0, .ro, 0⟩
def Reg.OTN_GFP_CHEC_CORR_LO (i j : Nat) : Nat := 0x10005180 + 0x400000 * i + 0x400 * j
def Fld.OTN_GFP_CHEC_CORR_LO_COUNT : Fld := ⟨31, 0, .ro, 0⟩
def Reg.OTN_GFP_CHEC_CORR_HI (i j : Nat) : Nat := 0x10005184 + 0x400000 * i + 0x400 * j
def Fld.OTN_GFP_CHEC_CORR_HI_COUNT : Fld := ⟨31, 0, .ro, 0⟩
def Reg.OTN_GFP_SYNC_LOSS_LO (i j : Nat) : Nat := 0x10005188 + 0x400000 * i + 0x400 * j
def Fld.OTN_GFP_SYNC_LOSS_LO_COUNT : Fld := ⟨31, 0, .ro, 0⟩
def Reg.OTN_GFP_SYNC_LOSS_HI (i j : Nat) : Nat := 0x1000518c + 0x400000 * i + 0x400 * j
def Fld.OTN_GFP_SYNC_LOSS_HI_COUNT : Fld := ⟨31, 0, .ro, 0⟩
def Reg.OTN_GFP_THEC_DROP_LO (i j : Nat) : Nat := 0x10005190 + 0x400000 * i + 0x400 * j
def Fld.OTN_GFP_THEC_DROP_LO_COUNT : Fld := ⟨31, 0, .ro, 0⟩
def Reg.OTN_GFP_THEC_DROP_HI (i j : Nat) : Nat := 0x10005194 + 0x400000 * i + 0x400 * j
def Fld.OTN_GFP_THEC_DROP_HI_COUNT : Fld := ⟨31, 0, .ro, 0⟩
def Reg.OTN_GFP_TYPE_DROP_LO (i j : Nat) : Nat := 0x10005198 + 0x400000 * i + 0x400 * j
def Fld.OTN_GFP_TYPE_DROP_LO_COUNT : Fld := ⟨31, 0, .ro, 0⟩
def Reg.OTN_GFP_TYPE_DROP_HI (i j : Nat) : Nat := 0x1000519c + 0x400000 * i + 0x400 * j
def Fld.OTN_GFP_TYPE_DROP_HI_COUNT : Fld := ⟨31, 0, .ro, 0⟩
def Reg.OTN_GFP_CMF_LO (i j : Nat) : Nat := 0x100051a0 + 0x400000 * i + 0x400 * j
def Fld.OTN_GFP_CMF_LO_COUNT : Fld := ⟨31, 0, .ro, 0⟩
def Reg.OTN_GFP_CMF_HI (i j : Nat) : Nat := 0x100051a4 + 0x400000 * i + 0x400 * j
def Fld.OTN_GFP_CMF_HI_COUNT : Fld := ⟨31, 0, .ro, 0⟩
def Reg.OTN_RX_SLOT_DROP_LO (i j : Nat) : Nat := 0x100051a8 + 0x400000 * i + 0x400 * j
def Fld.OTN_RX_SLOT_DROP_LO_COUNT : Fld := ⟨31, 0, .ro, 0⟩
def Reg.OTN_RX_SLOT_DROP_HI (i j : Nat) : Nat := 0x100051ac + 0x400000 * i + 0x400 * j
def Fld.OTN_RX_SLOT_DROP_HI_COUNT : Fld := ⟨31, 0, .ro, 0⟩
def Reg.OTN_CNT_OVF (i j : Nat) : Nat := 0x100051f0 + 0x400000 * i + 0x400 * j
def Fld.OTN_CNT_OVF_OVF : Fld := ⟨5, 0, .w1c, 0⟩
def Ctr.OTN_GFP_CHEC_CORR (i j : Nat) : Ctr := ⟨0x10005180 + 0x400000 * i + 0x400 * j, 0x100051f0 + 0x400000 * i + 0x400 * j, 0⟩
def Ctr.OTN_GFP_SYNC_LOSS (i j : Nat) : Ctr := ⟨0x10005188 + 0x400000 * i + 0x400 * j, 0x100051f0 + 0x400000 * i + 0x400 * j, 1⟩
def Ctr.OTN_GFP_THEC_DROP (i j : Nat) : Ctr := ⟨0x10005190 + 0x400000 * i + 0x400 * j, 0x100051f0 + 0x400000 * i + 0x400 * j, 2⟩
def Ctr.OTN_GFP_TYPE_DROP (i j : Nat) : Ctr := ⟨0x10005198 + 0x400000 * i + 0x400 * j, 0x100051f0 + 0x400000 * i + 0x400 * j, 3⟩
def Ctr.OTN_GFP_CMF (i j : Nat) : Ctr := ⟨0x100051a0 + 0x400000 * i + 0x400 * j, 0x100051f0 + 0x400000 * i + 0x400 * j, 4⟩
def Ctr.OTN_RX_SLOT_DROP (i j : Nat) : Ctr := ⟨0x100051a8 + 0x400000 * i + 0x400 * j, 0x100051f0 + 0x400000 * i + 0x400 * j, 5⟩

def regRowsOTN : List RegDef := [
  ⟨0x10005000, [(16, 0x400000), (8, 0x400)], .single,
    [Fld.OTN_CFG_FORCE_AIS, Fld.OTN_CFG_N]⟩,
  ⟨0x10005004, [(16, 0x400000), (8, 0x400)], .single,
    [Fld.OTN_STATUS_DEFECT_EVT, Fld.OTN_STATUS_IN_SERVICE, Fld.OTN_STATUS_DBDI_PM, Fld.OTN_STATUS_DBDI_SM, Fld.OTN_STATUS_DPLM, Fld.OTN_STATUS_DAIS, Fld.OTN_STATUS_DLOL, Fld.OTN_STATUS_DLOM, Fld.OTN_STATUS_DLOF, Fld.OTN_STATUS_DLOS]⟩,
  ⟨0x10005008, [(16, 0x400000), (8, 0x400)], .single,
    [Fld.OTN_INST_STATUS_STATE]⟩,
  ⟨0x1000500c, [(16, 0x400000), (8, 0x400)], .single,
    [Fld.OTN_SKEW_SKEW]⟩,
  ⟨0x10005100, [(16, 0x400000), (8, 0x400)], .lo,
    [Fld.OTN_PM_SEC_LO_SEC]⟩,
  ⟨0x10005104, [(16, 0x400000), (8, 0x400)], .hi,
    [Fld.OTN_PM_SEC_HI_SEC]⟩,
  ⟨0x10005108, [(16, 0x400000), (8, 0x400)], .single,
    [Fld.OTN_PM_SM_BIP_COUNT]⟩,
  ⟨0x1000510c, [(16, 0x400000), (8, 0x400)], .single,
    [Fld.OTN_PM_SM_BEI_COUNT]⟩,
  ⟨0x10005110, [(16, 0x400000), (8, 0x400)], .single,
    [Fld.OTN_PM_PM_BIP_COUNT]⟩,
  ⟨0x10005114, [(16, 0x400000), (8, 0x400)], .single,
    [Fld.OTN_PM_PM_BEI_COUNT]⟩,
  ⟨0x10005118, [(16, 0x400000), (8, 0x400)], .single,
    [Fld.OTN_PM_DEFECT_SEC_DEFECT]⟩,
  ⟨0x10005180, [(16, 0x400000), (8, 0x400)], .lo,
    [Fld.OTN_GFP_CHEC_CORR_LO_COUNT]⟩,
  ⟨0x10005184, [(16, 0x400000), (8, 0x400)], .hi,
    [Fld.OTN_GFP_CHEC_CORR_HI_COUNT]⟩,
  ⟨0x10005188, [(16, 0x400000), (8, 0x400)], .lo,
    [Fld.OTN_GFP_SYNC_LOSS_LO_COUNT]⟩,
  ⟨0x1000518c, [(16, 0x400000), (8, 0x400)], .hi,
    [Fld.OTN_GFP_SYNC_LOSS_HI_COUNT]⟩,
  ⟨0x10005190, [(16, 0x400000), (8, 0x400)], .lo,
    [Fld.OTN_GFP_THEC_DROP_LO_COUNT]⟩,
  ⟨0x10005194, [(16, 0x400000), (8, 0x400)], .hi,
    [Fld.OTN_GFP_THEC_DROP_HI_COUNT]⟩,
  ⟨0x10005198, [(16, 0x400000), (8, 0x400)], .lo,
    [Fld.OTN_GFP_TYPE_DROP_LO_COUNT]⟩,
  ⟨0x1000519c, [(16, 0x400000), (8, 0x400)], .hi,
    [Fld.OTN_GFP_TYPE_DROP_HI_COUNT]⟩,
  ⟨0x100051a0, [(16, 0x400000), (8, 0x400)], .lo,
    [Fld.OTN_GFP_CMF_LO_COUNT]⟩,
  ⟨0x100051a4, [(16, 0x400000), (8, 0x400)], .hi,
    [Fld.OTN_GFP_CMF_HI_COUNT]⟩,
  ⟨0x100051a8, [(16, 0x400000), (8, 0x400)], .lo,
    [Fld.OTN_RX_SLOT_DROP_LO_COUNT]⟩,
  ⟨0x100051ac, [(16, 0x400000), (8, 0x400)], .hi,
    [Fld.OTN_RX_SLOT_DROP_HI_COUNT]⟩,
  ⟨0x100051f0, [(16, 0x400000), (8, 0x400)], .single,
    [Fld.OTN_CNT_OVF_OVF]⟩]

/-! ### Block PRS (R135) -/

def Reg.PRS_CFG (i : Nat) : Nat := 0x10008000 + 0x400000 * i
def Fld.PRS_CFG_CSUM_ACTION : Fld := ⟨3, 2, .rw, 0⟩
def Fld.PRS_CFG_MPLS_PEEK : Fld := ⟨1, 1, .rw, 1⟩
def Fld.PRS_CFG_IPIP_EN : Fld := ⟨0, 0, .rw, 1⟩
def Reg.PRS_LIMITS (i : Nat) : Nat := 0x10008004 + 0x400000 * i
def Fld.PRS_LIMITS_HORIZON : Fld := ⟨24, 16, .ro, 0x140⟩
def Fld.PRS_LIMITS_MAX_HEADERS : Fld := ⟨15, 11, .ro, 0x18⟩
def Fld.PRS_LIMITS_MAX_LABELS : Fld := ⟨10, 6, .ro, 0x10⟩
def Fld.PRS_LIMITS_MAX_EXT : Fld := ⟨5, 3, .ro, 4⟩
def Fld.PRS_LIMITS_MAX_TAGS : Fld := ⟨2, 1, .ro, 2⟩
def Reg.PRS_UDP_PORTS (i : Nat) : Nat := 0x10008008 + 0x400000 * i
def Fld.PRS_UDP_PORTS_VXLAN : Fld := ⟨31, 16, .rw, 0x12b5⟩
def Fld.PRS_UDP_PORTS_GENEVE : Fld := ⟨15, 0, .rw, 0x17c1⟩
def Reg.PRS_MAL_ACTION (i : Nat) : Nat := 0x1000800c + 0x400000 * i
def Fld.PRS_MAL_ACTION_ACT : Fld := ⟨31, 0, .rw, 0x2024002⟩
def Reg.PRS_PORT_GUESS (i : Nat) : Nat := 0x10008010 + 0x400000 * i
def Fld.PRS_PORT_GUESS_PORT : Fld := ⟨31, 0, .rw, 0⟩
def Reg.PRS_HOST_GUESS (i : Nat) : Nat := 0x10008014 + 0x400000 * i
def Fld.PRS_HOST_GUESS_RECIRC : Fld := ⟨7, 4, .rw, 0⟩
def Fld.PRS_HOST_GUESS_HOST : Fld := ⟨3, 0, .rw, 0⟩
def Reg.PRS_SLOWPATH (i : Nat) : Nat := 0x10008018 + 0x400000 * i
def Fld.PRS_SLOWPATH_EN : Fld := ⟨31, 31, .rw, 0⟩
def Fld.PRS_SLOWPATH_HOST_PORT : Fld := ⟨15, 14, .rw, 0⟩
def Fld.PRS_SLOWPATH_RING : Fld := ⟨13, 0, .rw, 0⟩
def Reg.PRS_GUESS (i g : Nat) : Nat := 0x10008100 + 0x400000 * i + 0x4 * g
def Fld.PRS_GUESS_ITH : Fld := ⟨15, 15, .rw, 0⟩
def Fld.PRS_GUESS_TAGS : Fld := ⟨14, 13, .rw, 0⟩
def Fld.PRS_GUESS_LABELS : Fld := ⟨12, 8, .rw, 0⟩
def Fld.PRS_GUESS_L3 : Fld := ⟨7, 6, .rw, 1⟩
def Fld.PRS_GUESS_TUNNEL : Fld := ⟨5, 4, .rw, 0⟩
def Fld.PRS_GUESS_INNER_TAGS : Fld := ⟨3, 2, .rw, 0⟩
def Fld.PRS_GUESS_INNER_L3 : Fld := ⟨1, 0, .rw, 0⟩
def Reg.PRS_MAL_CNT_LO (i c : Nat) : Nat := 0x10008200 + 0x400000 * i + 0x8 * c
def Fld.PRS_MAL_CNT_LO_COUNT : Fld := ⟨31, 0, .ro, 0⟩
def Reg.PRS_MAL_CNT_HI (i c : Nat) : Nat := 0x10008204 + 0x400000 * i + 0x8 * c
def Fld.PRS_MAL_CNT_HI_COUNT : Fld := ⟨31, 0, .ro, 0⟩
def Reg.PRS_HORIZON_FWD_LO (i : Nat) : Nat := 0x10008280 + 0x400000 * i
def Fld.PRS_HORIZON_FWD_LO_COUNT : Fld := ⟨31, 0, .ro, 0⟩
def Reg.PRS_HORIZON_FWD_HI (i : Nat) : Nat := 0x10008284 + 0x400000 * i
def Fld.PRS_HORIZON_FWD_HI_COUNT : Fld := ⟨31, 0, .ro, 0⟩
def Reg.PRS_HORIZON_PUNT_LO (i : Nat) : Nat := 0x10008288 + 0x400000 * i
def Fld.PRS_HORIZON_PUNT_LO_COUNT : Fld := ⟨31, 0, .ro, 0⟩
def Reg.PRS_HORIZON_PUNT_HI (i : Nat) : Nat := 0x1000828c + 0x400000 * i
def Fld.PRS_HORIZON_PUNT_HI_COUNT : Fld := ⟨31, 0, .ro, 0⟩
def Reg.PRS_IPV4_CSUM_ERR_LO (i : Nat) : Nat := 0x10008290 + 0x400000 * i
def Fld.PRS_IPV4_CSUM_ERR_LO_COUNT : Fld := ⟨31, 0, .ro, 0⟩
def Reg.PRS_IPV4_CSUM_ERR_HI (i : Nat) : Nat := 0x10008294 + 0x400000 * i
def Fld.PRS_IPV4_CSUM_ERR_HI_COUNT : Fld := ⟨31, 0, .ro, 0⟩
def Reg.PRS_SLOWPATH_DROP_LO (i : Nat) : Nat := 0x10008298 + 0x400000 * i
def Fld.PRS_SLOWPATH_DROP_LO_COUNT : Fld := ⟨31, 0, .ro, 0⟩
def Reg.PRS_SLOWPATH_DROP_HI (i : Nat) : Nat := 0x1000829c + 0x400000 * i
def Fld.PRS_SLOWPATH_DROP_HI_COUNT : Fld := ⟨31, 0, .ro, 0⟩
def Reg.PRS_CNT_OVF (i : Nat) : Nat := 0x100082f0 + 0x400000 * i
def Fld.PRS_CNT_OVF_OVF : Fld := ⟨19, 0, .w1c, 0⟩
def Ctr.PRS_MAL_CNT (i c : Nat) : Ctr := ⟨0x10008200 + 0x400000 * i + 0x8 * c, 0x100082f0 + 0x400000 * i, c⟩
def Ctr.PRS_HORIZON_FWD (i : Nat) : Ctr := ⟨0x10008280 + 0x400000 * i, 0x100082f0 + 0x400000 * i, 16⟩
def Ctr.PRS_HORIZON_PUNT (i : Nat) : Ctr := ⟨0x10008288 + 0x400000 * i, 0x100082f0 + 0x400000 * i, 17⟩
def Ctr.PRS_IPV4_CSUM_ERR (i : Nat) : Ctr := ⟨0x10008290 + 0x400000 * i, 0x100082f0 + 0x400000 * i, 18⟩
def Ctr.PRS_SLOWPATH_DROP (i : Nat) : Ctr := ⟨0x10008298 + 0x400000 * i, 0x100082f0 + 0x400000 * i, 19⟩

def regRowsPRS : List RegDef := [
  ⟨0x10008000, [(16, 0x400000)], .single,
    [Fld.PRS_CFG_CSUM_ACTION, Fld.PRS_CFG_MPLS_PEEK, Fld.PRS_CFG_IPIP_EN]⟩,
  ⟨0x10008004, [(16, 0x400000)], .single,
    [Fld.PRS_LIMITS_HORIZON, Fld.PRS_LIMITS_MAX_HEADERS, Fld.PRS_LIMITS_MAX_LABELS, Fld.PRS_LIMITS_MAX_EXT, Fld.PRS_LIMITS_MAX_TAGS]⟩,
  ⟨0x10008008, [(16, 0x400000)], .single,
    [Fld.PRS_UDP_PORTS_VXLAN, Fld.PRS_UDP_PORTS_GENEVE]⟩,
  ⟨0x1000800c, [(16, 0x400000)], .single,
    [Fld.PRS_MAL_ACTION_ACT]⟩,
  ⟨0x10008010, [(16, 0x400000)], .single,
    [Fld.PRS_PORT_GUESS_PORT]⟩,
  ⟨0x10008014, [(16, 0x400000)], .single,
    [Fld.PRS_HOST_GUESS_RECIRC, Fld.PRS_HOST_GUESS_HOST]⟩,
  ⟨0x10008018, [(16, 0x400000)], .single,
    [Fld.PRS_SLOWPATH_EN, Fld.PRS_SLOWPATH_HOST_PORT, Fld.PRS_SLOWPATH_RING]⟩,
  ⟨0x10008100, [(16, 0x400000), (16, 0x4)], .single,
    [Fld.PRS_GUESS_ITH, Fld.PRS_GUESS_TAGS, Fld.PRS_GUESS_LABELS, Fld.PRS_GUESS_L3, Fld.PRS_GUESS_TUNNEL, Fld.PRS_GUESS_INNER_TAGS, Fld.PRS_GUESS_INNER_L3]⟩,
  ⟨0x10008200, [(16, 0x400000), (16, 0x8)], .lo,
    [Fld.PRS_MAL_CNT_LO_COUNT]⟩,
  ⟨0x10008204, [(16, 0x400000), (16, 0x8)], .hi,
    [Fld.PRS_MAL_CNT_HI_COUNT]⟩,
  ⟨0x10008280, [(16, 0x400000)], .lo,
    [Fld.PRS_HORIZON_FWD_LO_COUNT]⟩,
  ⟨0x10008284, [(16, 0x400000)], .hi,
    [Fld.PRS_HORIZON_FWD_HI_COUNT]⟩,
  ⟨0x10008288, [(16, 0x400000)], .lo,
    [Fld.PRS_HORIZON_PUNT_LO_COUNT]⟩,
  ⟨0x1000828c, [(16, 0x400000)], .hi,
    [Fld.PRS_HORIZON_PUNT_HI_COUNT]⟩,
  ⟨0x10008290, [(16, 0x400000)], .lo,
    [Fld.PRS_IPV4_CSUM_ERR_LO_COUNT]⟩,
  ⟨0x10008294, [(16, 0x400000)], .hi,
    [Fld.PRS_IPV4_CSUM_ERR_HI_COUNT]⟩,
  ⟨0x10008298, [(16, 0x400000)], .lo,
    [Fld.PRS_SLOWPATH_DROP_LO_COUNT]⟩,
  ⟨0x1000829c, [(16, 0x400000)], .hi,
    [Fld.PRS_SLOWPATH_DROP_HI_COUNT]⟩,
  ⟨0x100082f0, [(16, 0x400000)], .single,
    [Fld.PRS_CNT_OVF_OVF]⟩]

/-! ### Block PRSF (R135) -/

def Reg.PRS_FRAG_CFG : Nat := 0x1fc08000
def Fld.PRS_FRAG_CFG_EN : Fld := ⟨6, 6, .rw, 1⟩
def Fld.PRS_FRAG_CFG_LIFE : Fld := ⟨5, 0, .rw, 0x3d⟩
def Reg.PRS_FRAG_STATUS : Nat := 0x1fc08004
def Fld.PRS_FRAG_STATUS_OCCUPANCY : Fld := ⟨16, 0, .ro, 0⟩
def Reg.PRS_FRAG_INSERT_LO : Nat := 0x1fc08100
def Fld.PRS_FRAG_INSERT_LO_COUNT : Fld := ⟨31, 0, .ro, 0⟩
def Reg.PRS_FRAG_INSERT_HI : Nat := 0x1fc08104
def Fld.PRS_FRAG_INSERT_HI_COUNT : Fld := ⟨31, 0, .ro, 0⟩
def Reg.PRS_FRAG_REFRESH_LO : Nat := 0x1fc08108
def Fld.PRS_FRAG_REFRESH_LO_COUNT : Fld := ⟨31, 0, .ro, 0⟩
def Reg.PRS_FRAG_REFRESH_HI : Nat := 0x1fc0810c
def Fld.PRS_FRAG_REFRESH_HI_COUNT : Fld := ⟨31, 0, .ro, 0⟩
def Reg.PRS_FRAG_HIT_LO : Nat := 0x1fc08110
def Fld.PRS_FRAG_HIT_LO_COUNT : Fld := ⟨31, 0, .ro, 0⟩
def Reg.PRS_FRAG_HIT_HI : Nat := 0x1fc08114
def Fld.PRS_FRAG_HIT_HI_COUNT : Fld := ⟨31, 0, .ro, 0⟩
def Reg.PRS_FRAG_MISS_LO : Nat := 0x1fc08118
def Fld.PRS_FRAG_MISS_LO_COUNT : Fld := ⟨31, 0, .ro, 0⟩
def Reg.PRS_FRAG_MISS_HI : Nat := 0x1fc0811c
def Fld.PRS_FRAG_MISS_HI_COUNT : Fld := ⟨31, 0, .ro, 0⟩
def Reg.PRS_FRAG_FULL_LO : Nat := 0x1fc08120
def Fld.PRS_FRAG_FULL_LO_COUNT : Fld := ⟨31, 0, .ro, 0⟩
def Reg.PRS_FRAG_FULL_HI : Nat := 0x1fc08124
def Fld.PRS_FRAG_FULL_HI_COUNT : Fld := ⟨31, 0, .ro, 0⟩
def Reg.PRS_FRAG_EXPIRE_LO : Nat := 0x1fc08128
def Fld.PRS_FRAG_EXPIRE_LO_COUNT : Fld := ⟨31, 0, .ro, 0⟩
def Reg.PRS_FRAG_EXPIRE_HI : Nat := 0x1fc0812c
def Fld.PRS_FRAG_EXPIRE_HI_COUNT : Fld := ⟨31, 0, .ro, 0⟩
def Reg.PRS_FRAG_CNT_OVF : Nat := 0x1fc081f0
def Fld.PRS_FRAG_CNT_OVF_OVF : Fld := ⟨5, 0, .w1c, 0⟩
def Ctr.PRS_FRAG_INSERT : Ctr := ⟨0x1fc08100, 0x1fc081f0, 0⟩
def Ctr.PRS_FRAG_REFRESH : Ctr := ⟨0x1fc08108, 0x1fc081f0, 1⟩
def Ctr.PRS_FRAG_HIT : Ctr := ⟨0x1fc08110, 0x1fc081f0, 2⟩
def Ctr.PRS_FRAG_MISS : Ctr := ⟨0x1fc08118, 0x1fc081f0, 3⟩
def Ctr.PRS_FRAG_FULL : Ctr := ⟨0x1fc08120, 0x1fc081f0, 4⟩
def Ctr.PRS_FRAG_EXPIRE : Ctr := ⟨0x1fc08128, 0x1fc081f0, 5⟩

def regRowsPRSF : List RegDef := [
  ⟨0x1fc08000, [], .single,
    [Fld.PRS_FRAG_CFG_EN, Fld.PRS_FRAG_CFG_LIFE]⟩,
  ⟨0x1fc08004, [], .single,
    [Fld.PRS_FRAG_STATUS_OCCUPANCY]⟩,
  ⟨0x1fc08100, [], .lo,
    [Fld.PRS_FRAG_INSERT_LO_COUNT]⟩,
  ⟨0x1fc08104, [], .hi,
    [Fld.PRS_FRAG_INSERT_HI_COUNT]⟩,
  ⟨0x1fc08108, [], .lo,
    [Fld.PRS_FRAG_REFRESH_LO_COUNT]⟩,
  ⟨0x1fc0810c, [], .hi,
    [Fld.PRS_FRAG_REFRESH_HI_COUNT]⟩,
  ⟨0x1fc08110, [], .lo,
    [Fld.PRS_FRAG_HIT_LO_COUNT]⟩,
  ⟨0x1fc08114, [], .hi,
    [Fld.PRS_FRAG_HIT_HI_COUNT]⟩,
  ⟨0x1fc08118, [], .lo,
    [Fld.PRS_FRAG_MISS_LO_COUNT]⟩,
  ⟨0x1fc0811c, [], .hi,
    [Fld.PRS_FRAG_MISS_HI_COUNT]⟩,
  ⟨0x1fc08120, [], .lo,
    [Fld.PRS_FRAG_FULL_LO_COUNT]⟩,
  ⟨0x1fc08124, [], .hi,
    [Fld.PRS_FRAG_FULL_HI_COUNT]⟩,
  ⟨0x1fc08128, [], .lo,
    [Fld.PRS_FRAG_EXPIRE_LO_COUNT]⟩,
  ⟨0x1fc0812c, [], .hi,
    [Fld.PRS_FRAG_EXPIRE_HI_COUNT]⟩,
  ⟨0x1fc081f0, [], .single,
    [Fld.PRS_FRAG_CNT_OVF_OVF]⟩]

/-! ### Block FWH (R155) -/

def Reg.FWH_CFG (i : Nat) : Nat := 0x1000c000 + 0x400000 * i
def Fld.FWH_CFG_DRAM_WAIT : Fld := ⟨9, 0, .rw, 0xb4⟩
def Reg.FWH_STATUS (i : Nat) : Nat := 0x1000c004 + 0x400000 * i
def Fld.FWH_STATUS_RESPIN_OCC : Fld := ⟨13, 8, .ro, 0⟩
def Fld.FWH_STATUS_LEARN_OCC : Fld := ⟨6, 0, .ro, 0⟩
def Reg.FWH_COMMIT_LO (i : Nat) : Nat := 0x1000c100 + 0x400000 * i
def Fld.FWH_COMMIT_LO_COUNT : Fld := ⟨31, 0, .ro, 0⟩
def Reg.FWH_COMMIT_HI (i : Nat) : Nat := 0x1000c104 + 0x400000 * i
def Fld.FWH_COMMIT_HI_COUNT : Fld := ⟨31, 0, .ro, 0⟩
def Reg.FWH_RESPIN_LO (i : Nat) : Nat := 0x1000c108 + 0x400000 * i
def Fld.FWH_RESPIN_LO_COUNT : Fld := ⟨31, 0, .ro, 0⟩
def Reg.FWH_RESPIN_HI (i : Nat) : Nat := 0x1000c10c + 0x400000 * i
def Fld.FWH_RESPIN_HI_COUNT : Fld := ⟨31, 0, .ro, 0⟩
def Reg.FWH_DROP_CNT_LO (i c : Nat) : Nat := 0x1000c110 + 0x400000 * i + 0x8 * (c - 1)
def Fld.FWH_DROP_CNT_LO_COUNT : Fld := ⟨31, 0, .ro, 0⟩
def Reg.FWH_DROP_CNT_HI (i c : Nat) : Nat := 0x1000c114 + 0x400000 * i + 0x8 * (c - 1)
def Fld.FWH_DROP_CNT_HI_COUNT : Fld := ⟨31, 0, .ro, 0⟩
def Reg.FWH_LEARN_DISCARD_LO (i : Nat) : Nat := 0x1000c150 + 0x400000 * i
def Fld.FWH_LEARN_DISCARD_LO_COUNT : Fld := ⟨31, 0, .ro, 0⟩
def Reg.FWH_LEARN_DISCARD_HI (i : Nat) : Nat := 0x1000c154 + 0x400000 * i
def Fld.FWH_LEARN_DISCARD_HI_COUNT : Fld := ⟨31, 0, .ro, 0⟩
def Reg.FWH_SETTLE_LO (i : Nat) : Nat := 0x1000c158 + 0x400000 * i
def Fld.FWH_SETTLE_LO_COUNT : Fld := ⟨31, 0, .ro, 0⟩
def Reg.FWH_SETTLE_HI (i : Nat) : Nat := 0x1000c15c + 0x400000 * i
def Fld.FWH_SETTLE_HI_COUNT : Fld := ⟨31, 0, .ro, 0⟩
def Reg.FWH_CNT_OVF (i : Nat) : Nat := 0x1000c1f0 + 0x400000 * i
def Fld.FWH_CNT_OVF_OVF : Fld := ⟨11, 0, .w1c, 0⟩
def Ctr.FWH_COMMIT (i : Nat) : Ctr := ⟨0x1000c100 + 0x400000 * i, 0x1000c1f0 + 0x400000 * i, 0⟩
def Ctr.FWH_RESPIN (i : Nat) : Ctr := ⟨0x1000c108 + 0x400000 * i, 0x1000c1f0 + 0x400000 * i, 1⟩
def Ctr.FWH_DROP_CNT (i c : Nat) : Ctr := ⟨0x1000c110 + 0x400000 * i + 0x8 * (c - 1), 0x1000c1f0 + 0x400000 * i, c + 1⟩
def Ctr.FWH_LEARN_DISCARD (i : Nat) : Ctr := ⟨0x1000c150 + 0x400000 * i, 0x1000c1f0 + 0x400000 * i, 10⟩
def Ctr.FWH_SETTLE (i : Nat) : Ctr := ⟨0x1000c158 + 0x400000 * i, 0x1000c1f0 + 0x400000 * i, 11⟩

def regRowsFWH : List RegDef := [
  ⟨0x1000c000, [(16, 0x400000)], .single,
    [Fld.FWH_CFG_DRAM_WAIT]⟩,
  ⟨0x1000c004, [(16, 0x400000)], .single,
    [Fld.FWH_STATUS_RESPIN_OCC, Fld.FWH_STATUS_LEARN_OCC]⟩,
  ⟨0x1000c100, [(16, 0x400000)], .lo,
    [Fld.FWH_COMMIT_LO_COUNT]⟩,
  ⟨0x1000c104, [(16, 0x400000)], .hi,
    [Fld.FWH_COMMIT_HI_COUNT]⟩,
  ⟨0x1000c108, [(16, 0x400000)], .lo,
    [Fld.FWH_RESPIN_LO_COUNT]⟩,
  ⟨0x1000c10c, [(16, 0x400000)], .hi,
    [Fld.FWH_RESPIN_HI_COUNT]⟩,
  ⟨0x1000c110, [(16, 0x400000), (8, 0x8)], .lo,
    [Fld.FWH_DROP_CNT_LO_COUNT]⟩,
  ⟨0x1000c114, [(16, 0x400000), (8, 0x8)], .hi,
    [Fld.FWH_DROP_CNT_HI_COUNT]⟩,
  ⟨0x1000c150, [(16, 0x400000)], .lo,
    [Fld.FWH_LEARN_DISCARD_LO_COUNT]⟩,
  ⟨0x1000c154, [(16, 0x400000)], .hi,
    [Fld.FWH_LEARN_DISCARD_HI_COUNT]⟩,
  ⟨0x1000c158, [(16, 0x400000)], .lo,
    [Fld.FWH_SETTLE_LO_COUNT]⟩,
  ⟨0x1000c15c, [(16, 0x400000)], .hi,
    [Fld.FWH_SETTLE_HI_COUNT]⟩,
  ⟨0x1000c1f0, [(16, 0x400000)], .single,
    [Fld.FWH_CNT_OVF_OVF]⟩]

/-! ### Block FWHE (R155) -/

def Reg.FWH_EPOCH_CUR : Nat := 0x1fc04000
def Fld.FWH_EPOCH_CUR_EPOCH : Fld := ⟨31, 0, .ro, 0⟩
def Reg.FWH_EPOCH_STATUS : Nat := 0x1fc04004
def Fld.FWH_EPOCH_STATUS_TURN_PENDING : Fld := ⟨31, 31, .ro, 0⟩
def Fld.FWH_EPOCH_STATUS_PREV_LIVE : Fld := ⟨30, 30, .ro, 0⟩
def Fld.FWH_EPOCH_STATUS_PREV_INFLIGHT : Fld := ⟨15, 0, .ro, 0⟩
def Reg.FWH_TURN : Nat := 0x1fc04008
def Fld.FWH_TURN_CLOSE : Fld := ⟨0, 0, .wo, 0⟩
def Reg.FWH_DRAIN_MAX : Nat := 0x1fc0400c
def Fld.FWH_DRAIN_MAX_CYCLES : Fld := ⟨15, 0, .rc, 0⟩
def Reg.FWH_EEPOCH_CUR : Nat := 0x1fc04010
def Fld.FWH_EEPOCH_CUR_EPOCH : Fld := ⟨31, 0, .ro, 0⟩
def Reg.FWH_EEPOCH_STATUS : Nat := 0x1fc04014
def Fld.FWH_EEPOCH_STATUS_TURN_PENDING : Fld := ⟨31, 31, .ro, 0⟩
def Fld.FWH_EEPOCH_STATUS_PREV_LIVE : Fld := ⟨30, 30, .ro, 0⟩
def Fld.FWH_EEPOCH_STATUS_PREV_INFLIGHT : Fld := ⟨15, 0, .ro, 0⟩
def Reg.FWH_ETURN : Nat := 0x1fc04018
def Fld.FWH_ETURN_CLOSE : Fld := ⟨0, 0, .wo, 0⟩
def Reg.FWH_EDRAIN_MAX : Nat := 0x1fc0401c
def Fld.FWH_EDRAIN_MAX_CYCLES : Fld := ⟨15, 0, .rc, 0⟩

def regRowsFWHE : List RegDef := [
  ⟨0x1fc04000, [], .single,
    [Fld.FWH_EPOCH_CUR_EPOCH]⟩,
  ⟨0x1fc04004, [], .single,
    [Fld.FWH_EPOCH_STATUS_TURN_PENDING, Fld.FWH_EPOCH_STATUS_PREV_LIVE, Fld.FWH_EPOCH_STATUS_PREV_INFLIGHT]⟩,
  ⟨0x1fc04008, [], .single,
    [Fld.FWH_TURN_CLOSE]⟩,
  ⟨0x1fc0400c, [], .single,
    [Fld.FWH_DRAIN_MAX_CYCLES]⟩,
  ⟨0x1fc04010, [], .single,
    [Fld.FWH_EEPOCH_CUR_EPOCH]⟩,
  ⟨0x1fc04014, [], .single,
    [Fld.FWH_EEPOCH_STATUS_TURN_PENDING, Fld.FWH_EEPOCH_STATUS_PREV_LIVE, Fld.FWH_EEPOCH_STATUS_PREV_INFLIGHT]⟩,
  ⟨0x1fc04018, [], .single,
    [Fld.FWH_ETURN_CLOSE]⟩,
  ⟨0x1fc0401c, [], .single,
    [Fld.FWH_EDRAIN_MAX_CYCLES]⟩]

/-! ### Block LPMS (R187) -/

def Reg.LPM_PORT_TABLE (i j : Nat) : Nat := 0x10010000 + 0x400000 * i + 0x4 * j
def Fld.LPM_PORT_TABLE_VID_MAP_EN : Fld := ⟨31, 31, .rw, 0⟩
def Fld.LPM_PORT_TABLE_TABLE : Fld := ⟨11, 0, .rw, 0⟩
def Reg.LPM_HOST_CFG (i : Nat) : Nat := 0x10010020 + 0x400000 * i
def Fld.LPM_HOST_CFG_TABLE : Fld := ⟨11, 0, .rw, 0⟩
def Reg.LPM_VID_MAP (i v : Nat) : Nat := 0x10012000 + 0x400000 * i + 0x4 * v
def Fld.LPM_VID_MAP_VAL : Fld := ⟨31, 0, .rw, 0⟩

def regRowsLPMS : List RegDef := [
  ⟨0x10010000, [(16, 0x400000), (8, 0x4)], .single,
    [Fld.LPM_PORT_TABLE_VID_MAP_EN, Fld.LPM_PORT_TABLE_TABLE]⟩,
  ⟨0x10010020, [(16, 0x400000)], .single,
    [Fld.LPM_HOST_CFG_TABLE]⟩,
  ⟨0x10012000, [(16, 0x400000), (2048, 0x4)], .single,
    [Fld.LPM_VID_MAP_VAL]⟩]

/-! ### Block LPM (R187) -/

def Reg.LPM_V6_CONT : Nat := 0x1fc0c000
def Fld.LPM_V6_CONT_LEN3 : Fld := ⟨31, 24, .rw, 0⟩
def Fld.LPM_V6_CONT_LEN2 : Fld := ⟨23, 16, .rw, 0⟩
def Fld.LPM_V6_CONT_LEN1 : Fld := ⟨15, 8, .rw, 0⟩
def Fld.LPM_V6_CONT_LEN0 : Fld := ⟨7, 0, .rw, 0⟩
def Reg.LPM_STATUS : Nat := 0x1fc0c004
def Fld.LPM_STATUS_CONT_REFUSED : Fld := ⟨31, 31, .w1c, 0⟩
def Fld.LPM_STATUS_UNITS_USED : Fld := ⟨23, 0, .ro, 0⟩
def Reg.LPM_STAGED : Nat := 0x1fc0c008
def Fld.LPM_STAGED_ENTRIES : Fld := ⟨18, 0, .ro, 0⟩
def Reg.LPM_ROUTE_OK_LO : Nat := 0x1fc0c100
def Fld.LPM_ROUTE_OK_LO_COUNT : Fld := ⟨31, 0, .ro, 0⟩
def Reg.LPM_ROUTE_OK_HI : Nat := 0x1fc0c104
def Fld.LPM_ROUTE_OK_HI_COUNT : Fld := ⟨31, 0, .ro, 0⟩
def Reg.LPM_FULL_LO : Nat := 0x1fc0c108
def Fld.LPM_FULL_LO_COUNT : Fld := ⟨31, 0, .ro, 0⟩
def Reg.LPM_FULL_HI : Nat := 0x1fc0c10c
def Fld.LPM_FULL_HI_COUNT : Fld := ⟨31, 0, .ro, 0⟩
def Reg.LPM_MISS_LO : Nat := 0x1fc0c110
def Fld.LPM_MISS_LO_COUNT : Fld := ⟨31, 0, .ro, 0⟩
def Reg.LPM_MISS_HI : Nat := 0x1fc0c114
def Fld.LPM_MISS_HI_COUNT : Fld := ⟨31, 0, .ro, 0⟩
def Reg.LPM_CNT_OVF : Nat := 0x1fc0c1f0
def Fld.LPM_CNT_OVF_OVF : Fld := ⟨2, 0, .w1c, 0⟩
def Ctr.LPM_ROUTE_OK : Ctr := ⟨0x1fc0c100, 0x1fc0c1f0, 0⟩
def Ctr.LPM_FULL : Ctr := ⟨0x1fc0c108, 0x1fc0c1f0, 1⟩
def Ctr.LPM_MISS : Ctr := ⟨0x1fc0c110, 0x1fc0c1f0, 2⟩

def regRowsLPM : List RegDef := [
  ⟨0x1fc0c000, [], .single,
    [Fld.LPM_V6_CONT_LEN3, Fld.LPM_V6_CONT_LEN2, Fld.LPM_V6_CONT_LEN1, Fld.LPM_V6_CONT_LEN0]⟩,
  ⟨0x1fc0c004, [], .single,
    [Fld.LPM_STATUS_CONT_REFUSED, Fld.LPM_STATUS_UNITS_USED]⟩,
  ⟨0x1fc0c008, [], .single,
    [Fld.LPM_STAGED_ENTRIES]⟩,
  ⟨0x1fc0c100, [], .lo,
    [Fld.LPM_ROUTE_OK_LO_COUNT]⟩,
  ⟨0x1fc0c104, [], .hi,
    [Fld.LPM_ROUTE_OK_HI_COUNT]⟩,
  ⟨0x1fc0c108, [], .lo,
    [Fld.LPM_FULL_LO_COUNT]⟩,
  ⟨0x1fc0c10c, [], .hi,
    [Fld.LPM_FULL_HI_COUNT]⟩,
  ⟨0x1fc0c110, [], .lo,
    [Fld.LPM_MISS_LO_COUNT]⟩,
  ⟨0x1fc0c114, [], .hi,
    [Fld.LPM_MISS_HI_COUNT]⟩,
  ⟨0x1fc0c1f0, [], .single,
    [Fld.LPM_CNT_OVF_OVF]⟩]

/-! ### Block EXM (R187) -/

def Reg.EXM_CFG : Nat := 0x1fc10000
def Fld.EXM_CFG_EVICT : Fld := ⟨0, 0, .rw, 0⟩
def Reg.EXM_STATUS : Nat := 0x1fc10004
def Fld.EXM_STATUS_USED : Fld := ⟨25, 0, .ro, 0⟩
def Reg.EXM_INSERT_LO : Nat := 0x1fc10100
def Fld.EXM_INSERT_LO_COUNT : Fld := ⟨31, 0, .ro, 0⟩
def Reg.EXM_INSERT_HI : Nat := 0x1fc10104
def Fld.EXM_INSERT_HI_COUNT : Fld := ⟨31, 0, .ro, 0⟩
def Reg.EXM_MOVE_LO : Nat := 0x1fc10108
def Fld.EXM_MOVE_LO_COUNT : Fld := ⟨31, 0, .ro, 0⟩
def Reg.EXM_MOVE_HI : Nat := 0x1fc1010c
def Fld.EXM_MOVE_HI_COUNT : Fld := ⟨31, 0, .ro, 0⟩
def Reg.EXM_EVICT_LO : Nat := 0x1fc10110
def Fld.EXM_EVICT_LO_COUNT : Fld := ⟨31, 0, .ro, 0⟩
def Reg.EXM_EVICT_HI : Nat := 0x1fc10114
def Fld.EXM_EVICT_HI_COUNT : Fld := ⟨31, 0, .ro, 0⟩
def Reg.EXM_LEARN_FAIL_LO : Nat := 0x1fc10118
def Fld.EXM_LEARN_FAIL_LO_COUNT : Fld := ⟨31, 0, .ro, 0⟩
def Reg.EXM_LEARN_FAIL_HI : Nat := 0x1fc1011c
def Fld.EXM_LEARN_FAIL_HI_COUNT : Fld := ⟨31, 0, .ro, 0⟩
def Reg.EXM_FULL_LO : Nat := 0x1fc10120
def Fld.EXM_FULL_LO_COUNT : Fld := ⟨31, 0, .ro, 0⟩
def Reg.EXM_FULL_HI : Nat := 0x1fc10124
def Fld.EXM_FULL_HI_COUNT : Fld := ⟨31, 0, .ro, 0⟩
def Reg.EXM_EXTRA_READ_LO : Nat := 0x1fc10128
def Fld.EXM_EXTRA_READ_LO_COUNT : Fld := ⟨31, 0, .ro, 0⟩
def Reg.EXM_EXTRA_READ_HI : Nat := 0x1fc1012c
def Fld.EXM_EXTRA_READ_HI_COUNT : Fld := ⟨31, 0, .ro, 0⟩
def Reg.EXM_CNT_OVF : Nat := 0x1fc101f0
def Fld.EXM_CNT_OVF_OVF : Fld := ⟨5, 0, .w1c, 0⟩
def Ctr.EXM_INSERT : Ctr := ⟨0x1fc10100, 0x1fc101f0, 0⟩
def Ctr.EXM_MOVE : Ctr := ⟨0x1fc10108, 0x1fc101f0, 1⟩
def Ctr.EXM_EVICT : Ctr := ⟨0x1fc10110, 0x1fc101f0, 2⟩
def Ctr.EXM_LEARN_FAIL : Ctr := ⟨0x1fc10118, 0x1fc101f0, 3⟩
def Ctr.EXM_FULL : Ctr := ⟨0x1fc10120, 0x1fc101f0, 4⟩
def Ctr.EXM_EXTRA_READ : Ctr := ⟨0x1fc10128, 0x1fc101f0, 5⟩

def regRowsEXM : List RegDef := [
  ⟨0x1fc10000, [], .single,
    [Fld.EXM_CFG_EVICT]⟩,
  ⟨0x1fc10004, [], .single,
    [Fld.EXM_STATUS_USED]⟩,
  ⟨0x1fc10100, [], .lo,
    [Fld.EXM_INSERT_LO_COUNT]⟩,
  ⟨0x1fc10104, [], .hi,
    [Fld.EXM_INSERT_HI_COUNT]⟩,
  ⟨0x1fc10108, [], .lo,
    [Fld.EXM_MOVE_LO_COUNT]⟩,
  ⟨0x1fc1010c, [], .hi,
    [Fld.EXM_MOVE_HI_COUNT]⟩,
  ⟨0x1fc10110, [], .lo,
    [Fld.EXM_EVICT_LO_COUNT]⟩,
  ⟨0x1fc10114, [], .hi,
    [Fld.EXM_EVICT_HI_COUNT]⟩,
  ⟨0x1fc10118, [], .lo,
    [Fld.EXM_LEARN_FAIL_LO_COUNT]⟩,
  ⟨0x1fc1011c, [], .hi,
    [Fld.EXM_LEARN_FAIL_HI_COUNT]⟩,
  ⟨0x1fc10120, [], .lo,
    [Fld.EXM_FULL_LO_COUNT]⟩,
  ⟨0x1fc10124, [], .hi,
    [Fld.EXM_FULL_HI_COUNT]⟩,
  ⟨0x1fc10128, [], .lo,
    [Fld.EXM_EXTRA_READ_LO_COUNT]⟩,
  ⟨0x1fc1012c, [], .hi,
    [Fld.EXM_EXTRA_READ_HI_COUNT]⟩,
  ⟨0x1fc101f0, [], .single,
    [Fld.EXM_CNT_OVF_OVF]⟩]

/-! ### Block EGT (R187) -/

def Reg.EGT_HASH_SEED : Nat := 0x1fc14000
def Fld.EGT_HASH_SEED_SEED : Fld := ⟨31, 0, .rw, 0⟩
def Reg.EGT_V6_SRC (m w : Nat) : Nat := 0x1fc14200 + 0x10 * m + 0x4 * w
def Fld.EGT_V6_SRC_W : Fld := ⟨31, 0, .rw, 0⟩
def Reg.EGT_KIND_DROP_LO : Nat := 0x1fc14100
def Fld.EGT_KIND_DROP_LO_COUNT : Fld := ⟨31, 0, .ro, 0⟩
def Reg.EGT_KIND_DROP_HI : Nat := 0x1fc14104
def Fld.EGT_KIND_DROP_HI_COUNT : Fld := ⟨31, 0, .ro, 0⟩
def Reg.EGT_CHAIN_DROP_LO : Nat := 0x1fc14108
def Fld.EGT_CHAIN_DROP_LO_COUNT : Fld := ⟨31, 0, .ro, 0⟩
def Reg.EGT_CHAIN_DROP_HI : Nat := 0x1fc1410c
def Fld.EGT_CHAIN_DROP_HI_COUNT : Fld := ⟨31, 0, .ro, 0⟩
def Reg.EGT_CNT_OVF : Nat := 0x1fc141f0
def Fld.EGT_CNT_OVF_OVF : Fld := ⟨1, 0, .w1c, 0⟩
def Ctr.EGT_KIND_DROP : Ctr := ⟨0x1fc14100, 0x1fc141f0, 0⟩
def Ctr.EGT_CHAIN_DROP : Ctr := ⟨0x1fc14108, 0x1fc141f0, 1⟩

def regRowsEGT : List RegDef := [
  ⟨0x1fc14000, [], .single,
    [Fld.EGT_HASH_SEED_SEED]⟩,
  ⟨0x1fc14200, [(16, 0x10), (4, 0x4)], .single,
    [Fld.EGT_V6_SRC_W]⟩,
  ⟨0x1fc14100, [], .lo,
    [Fld.EGT_KIND_DROP_LO_COUNT]⟩,
  ⟨0x1fc14104, [], .hi,
    [Fld.EGT_KIND_DROP_HI_COUNT]⟩,
  ⟨0x1fc14108, [], .lo,
    [Fld.EGT_CHAIN_DROP_LO_COUNT]⟩,
  ⟨0x1fc1410c, [], .hi,
    [Fld.EGT_CHAIN_DROP_HI_COUNT]⟩,
  ⟨0x1fc141f0, [], .single,
    [Fld.EGT_CNT_OVF_OVF]⟩]

end Sys2Proof.Machine
end

