-- ==== Sys2Proof/Machine/RegMapB.lean ====
section
/-! DEFINITION. The register definitions of the blocks LRN, ACL, ACLS, PAT, FAB, FABB, BUF, ADM, MCR, SCH, GATE, GATEC, one address function, one set of
fields and one row each, copied from the field tables of the chapters that define them at the bases of
R537 and R538 (spec/23_register_map.md). Index-dependent resets are in RegReset.lean. -/

namespace Sys2Proof.Machine

/-! ### Block LRN (R209) -/

def Reg.LRN_CFG : Nat := 0x1fc18000
def Fld.LRN_CFG_EN : Fld := ⟨31, 31, .rw, 0⟩
def Fld.LRN_CFG_HOLDOFF : Fld := ⟨27, 22, .rw, 0x33⟩
def Fld.LRN_CFG_AGE_PERIOD : Fld := ⟨21, 16, .rw, 8⟩
def Fld.LRN_CFG_AGE_EN : Fld := ⟨15, 15, .rw, 1⟩
def Fld.LRN_CFG_FREEZE_SPAN : Fld := ⟨9, 4, .rw, 6⟩
def Fld.LRN_CFG_NOTIFY : Fld := ⟨3, 0, .rw, 0⟩
def Reg.LRN_STATUS : Nat := 0x1fc18004
def Fld.LRN_STATUS_TRACK_OCC : Fld := ⟨27, 14, .ro, 0⟩
def Fld.LRN_STATUS_QUEUE_OCC : Fld := ⟨12, 0, .ro, 0⟩
def Reg.LRN_SWEEP_NUM : Nat := 0x1fc18008
def Fld.LRN_SWEEP_NUM_NUM : Fld := ⟨31, 0, .ro, 0⟩
def Reg.LRN_UNFREEZE : Nat := 0x1fc1800c
def Fld.LRN_UNFREEZE_ALL : Fld := ⟨0, 0, .wo, 0⟩
def Reg.LRN_MISS_RESULT : Nat := 0x1fc18010
def Fld.LRN_MISS_RESULT_RESULT : Fld := ⟨31, 0, .rw, 0⟩
def Reg.LRN_PORT (p : Nat) : Nat := 0x1fc18400 + 0x4 * p
def Fld.LRN_PORT_LEARN_EN : Fld := ⟨31, 31, .rw, 0⟩
def Fld.LRN_PORT_NH : Fld := ⟨19, 0, .rw, 0⟩
def Reg.LRN_NEW_LO : Nat := 0x1fc18100
def Fld.LRN_NEW_LO_COUNT : Fld := ⟨31, 0, .ro, 0⟩
def Reg.LRN_NEW_HI : Nat := 0x1fc18104
def Fld.LRN_NEW_HI_COUNT : Fld := ⟨31, 0, .ro, 0⟩
def Reg.LRN_MOVE_LO : Nat := 0x1fc18108
def Fld.LRN_MOVE_LO_COUNT : Fld := ⟨31, 0, .ro, 0⟩
def Reg.LRN_MOVE_HI : Nat := 0x1fc1810c
def Fld.LRN_MOVE_HI_COUNT : Fld := ⟨31, 0, .ro, 0⟩
def Reg.LRN_FLAP_LO : Nat := 0x1fc18110
def Fld.LRN_FLAP_LO_COUNT : Fld := ⟨31, 0, .ro, 0⟩
def Reg.LRN_FLAP_HI : Nat := 0x1fc18114
def Fld.LRN_FLAP_HI_COUNT : Fld := ⟨31, 0, .ro, 0⟩
def Reg.LRN_FREEZE_LO : Nat := 0x1fc18118
def Fld.LRN_FREEZE_LO_COUNT : Fld := ⟨31, 0, .ro, 0⟩
def Reg.LRN_FREEZE_HI : Nat := 0x1fc1811c
def Fld.LRN_FREEZE_HI_COUNT : Fld := ⟨31, 0, .ro, 0⟩
def Reg.LRN_STALE_LO : Nat := 0x1fc18120
def Fld.LRN_STALE_LO_COUNT : Fld := ⟨31, 0, .ro, 0⟩
def Reg.LRN_STALE_HI : Nat := 0x1fc18124
def Fld.LRN_STALE_HI_COUNT : Fld := ⟨31, 0, .ro, 0⟩
def Reg.LRN_FROZEN_DROP_LO : Nat := 0x1fc18128
def Fld.LRN_FROZEN_DROP_LO_COUNT : Fld := ⟨31, 0, .ro, 0⟩
def Reg.LRN_FROZEN_DROP_HI : Nat := 0x1fc1812c
def Fld.LRN_FROZEN_DROP_HI_COUNT : Fld := ⟨31, 0, .ro, 0⟩
def Reg.LRN_STATIC_DROP_LO : Nat := 0x1fc18130
def Fld.LRN_STATIC_DROP_LO_COUNT : Fld := ⟨31, 0, .ro, 0⟩
def Reg.LRN_STATIC_DROP_HI : Nat := 0x1fc18134
def Fld.LRN_STATIC_DROP_HI_COUNT : Fld := ⟨31, 0, .ro, 0⟩
def Reg.LRN_QUEUE_DROP_LO : Nat := 0x1fc18138
def Fld.LRN_QUEUE_DROP_LO_COUNT : Fld := ⟨31, 0, .ro, 0⟩
def Reg.LRN_QUEUE_DROP_HI : Nat := 0x1fc1813c
def Fld.LRN_QUEUE_DROP_HI_COUNT : Fld := ⟨31, 0, .ro, 0⟩
def Reg.LRN_TRACK_FULL_LO : Nat := 0x1fc18140
def Fld.LRN_TRACK_FULL_LO_COUNT : Fld := ⟨31, 0, .ro, 0⟩
def Reg.LRN_TRACK_FULL_HI : Nat := 0x1fc18144
def Fld.LRN_TRACK_FULL_HI_COUNT : Fld := ⟨31, 0, .ro, 0⟩
def Reg.LRN_AGED_LO : Nat := 0x1fc18148
def Fld.LRN_AGED_LO_COUNT : Fld := ⟨31, 0, .ro, 0⟩
def Reg.LRN_AGED_HI : Nat := 0x1fc1814c
def Fld.LRN_AGED_HI_COUNT : Fld := ⟨31, 0, .ro, 0⟩
def Reg.LRN_CNT_OVF : Nat := 0x1fc181f0
def Fld.LRN_CNT_OVF_OVF : Fld := ⟨9, 0, .w1c, 0⟩
def Ctr.LRN_NEW : Ctr := ⟨0x1fc18100, 0x1fc181f0, 0⟩
def Ctr.LRN_MOVE : Ctr := ⟨0x1fc18108, 0x1fc181f0, 1⟩
def Ctr.LRN_FLAP : Ctr := ⟨0x1fc18110, 0x1fc181f0, 2⟩
def Ctr.LRN_FREEZE : Ctr := ⟨0x1fc18118, 0x1fc181f0, 3⟩
def Ctr.LRN_STALE : Ctr := ⟨0x1fc18120, 0x1fc181f0, 4⟩
def Ctr.LRN_FROZEN_DROP : Ctr := ⟨0x1fc18128, 0x1fc181f0, 5⟩
def Ctr.LRN_STATIC_DROP : Ctr := ⟨0x1fc18130, 0x1fc181f0, 6⟩
def Ctr.LRN_QUEUE_DROP : Ctr := ⟨0x1fc18138, 0x1fc181f0, 7⟩
def Ctr.LRN_TRACK_FULL : Ctr := ⟨0x1fc18140, 0x1fc181f0, 8⟩
def Ctr.LRN_AGED : Ctr := ⟨0x1fc18148, 0x1fc181f0, 9⟩

def regRowsLRN : List RegDef := [
  ⟨0x1fc18000, [], .single,
    [Fld.LRN_CFG_EN, Fld.LRN_CFG_HOLDOFF, Fld.LRN_CFG_AGE_PERIOD, Fld.LRN_CFG_AGE_EN, Fld.LRN_CFG_FREEZE_SPAN, Fld.LRN_CFG_NOTIFY]⟩,
  ⟨0x1fc18004, [], .single,
    [Fld.LRN_STATUS_TRACK_OCC, Fld.LRN_STATUS_QUEUE_OCC]⟩,
  ⟨0x1fc18008, [], .single,
    [Fld.LRN_SWEEP_NUM_NUM]⟩,
  ⟨0x1fc1800c, [], .single,
    [Fld.LRN_UNFREEZE_ALL]⟩,
  ⟨0x1fc18010, [], .single,
    [Fld.LRN_MISS_RESULT_RESULT]⟩,
  ⟨0x1fc18400, [(132, 0x4)], .single,
    [Fld.LRN_PORT_LEARN_EN, Fld.LRN_PORT_NH]⟩,
  ⟨0x1fc18100, [], .lo,
    [Fld.LRN_NEW_LO_COUNT]⟩,
  ⟨0x1fc18104, [], .hi,
    [Fld.LRN_NEW_HI_COUNT]⟩,
  ⟨0x1fc18108, [], .lo,
    [Fld.LRN_MOVE_LO_COUNT]⟩,
  ⟨0x1fc1810c, [], .hi,
    [Fld.LRN_MOVE_HI_COUNT]⟩,
  ⟨0x1fc18110, [], .lo,
    [Fld.LRN_FLAP_LO_COUNT]⟩,
  ⟨0x1fc18114, [], .hi,
    [Fld.LRN_FLAP_HI_COUNT]⟩,
  ⟨0x1fc18118, [], .lo,
    [Fld.LRN_FREEZE_LO_COUNT]⟩,
  ⟨0x1fc1811c, [], .hi,
    [Fld.LRN_FREEZE_HI_COUNT]⟩,
  ⟨0x1fc18120, [], .lo,
    [Fld.LRN_STALE_LO_COUNT]⟩,
  ⟨0x1fc18124, [], .hi,
    [Fld.LRN_STALE_HI_COUNT]⟩,
  ⟨0x1fc18128, [], .lo,
    [Fld.LRN_FROZEN_DROP_LO_COUNT]⟩,
  ⟨0x1fc1812c, [], .hi,
    [Fld.LRN_FROZEN_DROP_HI_COUNT]⟩,
  ⟨0x1fc18130, [], .lo,
    [Fld.LRN_STATIC_DROP_LO_COUNT]⟩,
  ⟨0x1fc18134, [], .hi,
    [Fld.LRN_STATIC_DROP_HI_COUNT]⟩,
  ⟨0x1fc18138, [], .lo,
    [Fld.LRN_QUEUE_DROP_LO_COUNT]⟩,
  ⟨0x1fc1813c, [], .hi,
    [Fld.LRN_QUEUE_DROP_HI_COUNT]⟩,
  ⟨0x1fc18140, [], .lo,
    [Fld.LRN_TRACK_FULL_LO_COUNT]⟩,
  ⟨0x1fc18144, [], .hi,
    [Fld.LRN_TRACK_FULL_HI_COUNT]⟩,
  ⟨0x1fc18148, [], .lo,
    [Fld.LRN_AGED_LO_COUNT]⟩,
  ⟨0x1fc1814c, [], .hi,
    [Fld.LRN_AGED_HI_COUNT]⟩,
  ⟨0x1fc181f0, [], .single,
    [Fld.LRN_CNT_OVF_OVF]⟩]

/-! ### Block ACL (R234) -/

def Reg.ACL_BANK_CFG (b : Nat) : Nat := 0x1fc1c000 + 0x4 * b
def Fld.ACL_BANK_CFG_EN : Fld := ⟨31, 31, .rw, 0⟩
def Fld.ACL_BANK_CFG_STAGE : Fld := ⟨30, 30, .rw, 0⟩
def Fld.ACL_BANK_CFG_WIDTH : Fld := ⟨29, 28, .rw, 0⟩
def Fld.ACL_BANK_CFG_LAYOUT : Fld := ⟨27, 26, .rw, 0⟩
def Fld.ACL_BANK_CFG_LEVEL : Fld := ⟨25, 25, .rw, 0⟩
def Fld.ACL_BANK_CFG_TAG_OFFSET : Fld := ⟨24, 16, .rw, 0⟩
def Reg.ACL_STAGE_CFG : Nat := 0x1fc1c020
def Fld.ACL_STAGE_CFG_MISS2_DENY : Fld := ⟨1, 1, .rw, 0⟩
def Fld.ACL_STAGE_CFG_MISS1_DENY : Fld := ⟨0, 0, .rw, 0⟩
def Reg.ACL_STATUS : Nat := 0x1fc1c024
def Fld.ACL_STATUS_BUSY : Fld := ⟨31, 31, .ro, 0⟩
def Fld.ACL_STATUS_BATCH_HELD : Fld := ⟨30, 30, .ro, 0⟩
def Fld.ACL_STATUS_ERR : Fld := ⟨29, 24, .ro, 0⟩
def Fld.ACL_STATUS_STAGED : Fld := ⟨12, 0, .ro, 0⟩
def Reg.ACL_MIRROR (m : Nat) : Nat := 0x1fc1c040 + 0x4 * m
def Fld.ACL_MIRROR_EN : Fld := ⟨31, 31, .rw, 0⟩
def Fld.ACL_MIRROR_NH : Fld := ⟨19, 0, .rw, 0⟩
def Reg.ACL_WR_KEY (w : Nat) : Nat := 0x1fc1c100 + 0x4 * w
def Fld.ACL_WR_KEY_VALUE : Fld := ⟨31, 0, .rw, 0⟩
def Reg.ACL_WR_MASK (w : Nat) : Nat := 0x1fc1c140 + 0x4 * w
def Fld.ACL_WR_MASK_MASK : Fld := ⟨31, 0, .rw, 0⟩
def Reg.ACL_WR_ACT_LO : Nat := 0x1fc1c180
def Fld.ACL_WR_ACT_LO_ACT : Fld := ⟨31, 0, .rw, 0⟩
def Reg.ACL_WR_ACT_HI : Nat := 0x1fc1c184
def Fld.ACL_WR_ACT_HI_ACT : Fld := ⟨31, 0, .rw, 0⟩
def Reg.ACL_WR_CMD : Nat := 0x1fc1c188
def Fld.ACL_WR_CMD_OP : Fld := ⟨31, 30, .wo, 0⟩
def Fld.ACL_WR_CMD_SLICE : Fld := ⟨19, 16, .wo, 0⟩
def Fld.ACL_WR_CMD_BANK : Fld := ⟨14, 12, .wo, 0⟩
def Fld.ACL_WR_CMD_UNIT : Fld := ⟨11, 0, .wo, 0⟩
def Reg.ACL_GROUP_TAG (b g : Nat) : Nat := 0x1fc1c400 + 0x80 * b + 0x4 * g
def Fld.ACL_GROUP_TAG_VAL : Fld := ⟨31, 0, .rw, 0⟩

def regRowsACL : List RegDef := [
  ⟨0x1fc1c000, [(8, 0x4)], .single,
    [Fld.ACL_BANK_CFG_EN, Fld.ACL_BANK_CFG_STAGE, Fld.ACL_BANK_CFG_WIDTH, Fld.ACL_BANK_CFG_LAYOUT, Fld.ACL_BANK_CFG_LEVEL, Fld.ACL_BANK_CFG_TAG_OFFSET]⟩,
  ⟨0x1fc1c020, [], .single,
    [Fld.ACL_STAGE_CFG_MISS2_DENY, Fld.ACL_STAGE_CFG_MISS1_DENY]⟩,
  ⟨0x1fc1c024, [], .single,
    [Fld.ACL_STATUS_BUSY, Fld.ACL_STATUS_BATCH_HELD, Fld.ACL_STATUS_ERR, Fld.ACL_STATUS_STAGED]⟩,
  ⟨0x1fc1c040, [(8, 0x4)], .single,
    [Fld.ACL_MIRROR_EN, Fld.ACL_MIRROR_NH]⟩,
  ⟨0x1fc1c100, [(10, 0x4)], .single,
    [Fld.ACL_WR_KEY_VALUE]⟩,
  ⟨0x1fc1c140, [(10, 0x4)], .single,
    [Fld.ACL_WR_MASK_MASK]⟩,
  ⟨0x1fc1c180, [], .single,
    [Fld.ACL_WR_ACT_LO_ACT]⟩,
  ⟨0x1fc1c184, [], .single,
    [Fld.ACL_WR_ACT_HI_ACT]⟩,
  ⟨0x1fc1c188, [], .single,
    [Fld.ACL_WR_CMD_OP, Fld.ACL_WR_CMD_SLICE, Fld.ACL_WR_CMD_BANK, Fld.ACL_WR_CMD_UNIT]⟩,
  ⟨0x1fc1c400, [(8, 0x80), (32, 0x4)], .single,
    [Fld.ACL_GROUP_TAG_VAL]⟩]

/-! ### Block ACLS (R234) -/

def Reg.ACL_SLICE_STATUS (i : Nat) : Nat := 0x10014000 + 0x400000 * i
def Fld.ACL_SLICE_STATUS_INVALID_ROWS : Fld := ⟨12, 0, .ro, 0⟩
def Reg.ACL_CNT_OVF (i w : Nat) : Nat := 0x10015800 + 0x400000 * i + 0x4 * w
def Fld.ACL_CNT_OVF_OVF : Fld := ⟨31, 0, .w1c, 0⟩
def Reg.ACL_CNT_LO (i c : Nat) : Nat := 0x10016000 + 0x400000 * i + 0x8 * c
def Fld.ACL_CNT_LO_VAL : Fld := ⟨31, 0, .ro, 0⟩
def Reg.ACL_CNT_HI (i c : Nat) : Nat := 0x10016004 + 0x400000 * i + 0x8 * c
def Fld.ACL_CNT_HI_VAL : Fld := ⟨31, 0, .ro, 0⟩
def Reg.ACL_FALSE_HIT_LO (i : Nat) : Nat := 0x10014100 + 0x400000 * i
def Fld.ACL_FALSE_HIT_LO_COUNT : Fld := ⟨31, 0, .ro, 0⟩
def Reg.ACL_FALSE_HIT_HI (i : Nat) : Nat := 0x10014104 + 0x400000 * i
def Fld.ACL_FALSE_HIT_HI_COUNT : Fld := ⟨31, 0, .ro, 0⟩
def Reg.ACL_SCRUB_ERR_LO (i : Nat) : Nat := 0x10014108 + 0x400000 * i
def Fld.ACL_SCRUB_ERR_LO_COUNT : Fld := ⟨31, 0, .ro, 0⟩
def Reg.ACL_SCRUB_ERR_HI (i : Nat) : Nat := 0x1001410c + 0x400000 * i
def Fld.ACL_SCRUB_ERR_HI_COUNT : Fld := ⟨31, 0, .ro, 0⟩
def Reg.ACL_SLOTS_EXHAUSTED_LO (i : Nat) : Nat := 0x10014110 + 0x400000 * i
def Fld.ACL_SLOTS_EXHAUSTED_LO_COUNT : Fld := ⟨31, 0, .ro, 0⟩
def Reg.ACL_SLOTS_EXHAUSTED_HI (i : Nat) : Nat := 0x10014114 + 0x400000 * i
def Fld.ACL_SLOTS_EXHAUSTED_HI_COUNT : Fld := ⟨31, 0, .ro, 0⟩
def Reg.ACL_SLICE_OVF (i : Nat) : Nat := 0x100141f0 + 0x400000 * i
def Fld.ACL_SLICE_OVF_OVF : Fld := ⟨2, 0, .w1c, 0⟩
def Ctr.ACL_FALSE_HIT (i : Nat) : Ctr := ⟨0x10014100 + 0x400000 * i, 0x100141f0 + 0x400000 * i, 0⟩
def Ctr.ACL_SCRUB_ERR (i : Nat) : Ctr := ⟨0x10014108 + 0x400000 * i, 0x100141f0 + 0x400000 * i, 1⟩
def Ctr.ACL_SLOTS_EXHAUSTED (i : Nat) : Ctr := ⟨0x10014110 + 0x400000 * i, 0x100141f0 + 0x400000 * i, 2⟩

def regRowsACLS : List RegDef := [
  ⟨0x10014000, [(16, 0x400000)], .single,
    [Fld.ACL_SLICE_STATUS_INVALID_ROWS]⟩,
  ⟨0x10015800, [(16, 0x400000), (32, 0x4)], .single,
    [Fld.ACL_CNT_OVF_OVF]⟩,
  ⟨0x10016000, [(16, 0x400000), (1024, 0x8)], .lo,
    [Fld.ACL_CNT_LO_VAL]⟩,
  ⟨0x10016004, [(16, 0x400000), (1024, 0x8)], .hi,
    [Fld.ACL_CNT_HI_VAL]⟩,
  ⟨0x10014100, [(16, 0x400000)], .lo,
    [Fld.ACL_FALSE_HIT_LO_COUNT]⟩,
  ⟨0x10014104, [(16, 0x400000)], .hi,
    [Fld.ACL_FALSE_HIT_HI_COUNT]⟩,
  ⟨0x10014108, [(16, 0x400000)], .lo,
    [Fld.ACL_SCRUB_ERR_LO_COUNT]⟩,
  ⟨0x1001410c, [(16, 0x400000)], .hi,
    [Fld.ACL_SCRUB_ERR_HI_COUNT]⟩,
  ⟨0x10014110, [(16, 0x400000)], .lo,
    [Fld.ACL_SLOTS_EXHAUSTED_LO_COUNT]⟩,
  ⟨0x10014114, [(16, 0x400000)], .hi,
    [Fld.ACL_SLOTS_EXHAUSTED_HI_COUNT]⟩,
  ⟨0x100141f0, [(16, 0x400000)], .single,
    [Fld.ACL_SLICE_OVF_OVF]⟩]

/-! ### Block PAT (R234) -/

def Reg.PAT_CFG : Nat := 0x1fc20000
def Fld.PAT_CFG_EN : Fld := ⟨31, 31, .rw, 0⟩
def Fld.PAT_CFG_MATCH_EVT : Fld := ⟨30, 30, .rw, 0⟩
def Fld.PAT_CFG_VERDICT_LIFE : Fld := ⟨5, 0, .rw, 4⟩
def Reg.PAT_STATUS : Nat := 0x1fc20004
def Fld.PAT_STATUS_VERDICT_OCC : Fld := ⟨16, 0, .ro, 0⟩
def Reg.PAT_VERDICT_FLUSH : Nat := 0x1fc20008
def Fld.PAT_VERDICT_FLUSH_ALL : Fld := ⟨0, 0, .wo, 0⟩
def Reg.PAT_SET_CFG (s : Nat) : Nat := 0x1fc20040 + 0x4 * s
def Fld.PAT_SET_CFG_EN : Fld := ⟨31, 31, .rw, 0⟩
def Fld.PAT_SET_CFG_FIRST_BANK : Fld := ⟨30, 26, .rw, 0⟩
def Fld.PAT_SET_CFG_BANK_COUNT : Fld := ⟨25, 20, .rw, 0⟩
def Fld.PAT_SET_CFG_START : Fld := ⟨17, 0, .rw, 0⟩
def Reg.PAT_SET_STATUS (s : Nat) : Nat := 0x1fc20060 + 0x4 * s
def Fld.PAT_SET_STATUS_OLD_BUSY : Fld := ⟨31, 31, .ro, 0⟩
def Fld.PAT_SET_STATUS_ACTIVE : Fld := ⟨7, 0, .ro, 0⟩
def Reg.PAT_WR_KEY (w : Nat) : Nat := 0x1fc20100 + 0x4 * w
def Fld.PAT_WR_KEY_VALUE : Fld := ⟨31, 0, .rw, 0⟩
def Reg.PAT_WR_MASK (w : Nat) : Nat := 0x1fc2010c + 0x4 * w
def Fld.PAT_WR_MASK_MASK : Fld := ⟨31, 0, .rw, 0⟩
def Reg.PAT_WR_RES_LO : Nat := 0x1fc20118
def Fld.PAT_WR_RES_LO_RES : Fld := ⟨31, 0, .rw, 0⟩
def Reg.PAT_WR_RES_HI : Nat := 0x1fc2011c
def Fld.PAT_WR_RES_HI_RES : Fld := ⟨15, 0, .rw, 0⟩
def Reg.PAT_WR_CMD : Nat := 0x1fc20120
def Fld.PAT_WR_CMD_OP : Fld := ⟨31, 30, .wo, 0⟩
def Fld.PAT_WR_CMD_BANK : Fld := ⟨16, 12, .wo, 0⟩
def Fld.PAT_WR_CMD_ROW : Fld := ⟨11, 0, .wo, 0⟩
def Reg.PAT_WR_STATUS : Nat := 0x1fc20124
def Fld.PAT_WR_STATUS_BUSY : Fld := ⟨31, 31, .ro, 0⟩
def Fld.PAT_WR_STATUS_ERR : Fld := ⟨5, 0, .ro, 0⟩
def Reg.PAT_RESULT (r : Nat) : Nat := 0x1fc21000 + 0x4 * r
def Fld.PAT_RESULT_RESULT : Fld := ⟨31, 0, .rw, 0⟩
def Reg.PAT_CLASS_MAP (s w : Nat) : Nat := 0x1fc22000 + 0x100 * s + 0x4 * w
def Fld.PAT_CLASS_MAP_W : Fld := ⟨31, 0, .rw, 0⟩
def Reg.PAT_INSPECT_LO : Nat := 0x1fc20300
def Fld.PAT_INSPECT_LO_COUNT : Fld := ⟨31, 0, .ro, 0⟩
def Reg.PAT_INSPECT_HI : Nat := 0x1fc20304
def Fld.PAT_INSPECT_HI_COUNT : Fld := ⟨31, 0, .ro, 0⟩
def Reg.PAT_MATCH_LO : Nat := 0x1fc20308
def Fld.PAT_MATCH_LO_COUNT : Fld := ⟨31, 0, .ro, 0⟩
def Reg.PAT_MATCH_HI : Nat := 0x1fc2030c
def Fld.PAT_MATCH_HI_COUNT : Fld := ⟨31, 0, .ro, 0⟩
def Reg.PAT_SKIP_LO : Nat := 0x1fc20310
def Fld.PAT_SKIP_LO_COUNT : Fld := ⟨31, 0, .ro, 0⟩
def Reg.PAT_SKIP_HI : Nat := 0x1fc20314
def Fld.PAT_SKIP_HI_COUNT : Fld := ⟨31, 0, .ro, 0⟩
def Reg.PAT_TAIL_BAD_LO : Nat := 0x1fc20318
def Fld.PAT_TAIL_BAD_LO_COUNT : Fld := ⟨31, 0, .ro, 0⟩
def Reg.PAT_TAIL_BAD_HI : Nat := 0x1fc2031c
def Fld.PAT_TAIL_BAD_HI_COUNT : Fld := ⟨31, 0, .ro, 0⟩
def Reg.PAT_NO_TRANSITION_LO : Nat := 0x1fc20320
def Fld.PAT_NO_TRANSITION_LO_COUNT : Fld := ⟨31, 0, .ro, 0⟩
def Reg.PAT_NO_TRANSITION_HI : Nat := 0x1fc20324
def Fld.PAT_NO_TRANSITION_HI_COUNT : Fld := ⟨31, 0, .ro, 0⟩
def Reg.PAT_FALSE_HIT_LO : Nat := 0x1fc20328
def Fld.PAT_FALSE_HIT_LO_COUNT : Fld := ⟨31, 0, .ro, 0⟩
def Reg.PAT_FALSE_HIT_HI : Nat := 0x1fc2032c
def Fld.PAT_FALSE_HIT_HI_COUNT : Fld := ⟨31, 0, .ro, 0⟩
def Reg.PAT_VERDICT_HIT_LO : Nat := 0x1fc20330
def Fld.PAT_VERDICT_HIT_LO_COUNT : Fld := ⟨31, 0, .ro, 0⟩
def Reg.PAT_VERDICT_HIT_HI : Nat := 0x1fc20334
def Fld.PAT_VERDICT_HIT_HI_COUNT : Fld := ⟨31, 0, .ro, 0⟩
def Reg.PAT_VERDICT_REPLACE_LO : Nat := 0x1fc20338
def Fld.PAT_VERDICT_REPLACE_LO_COUNT : Fld := ⟨31, 0, .ro, 0⟩
def Reg.PAT_VERDICT_REPLACE_HI : Nat := 0x1fc2033c
def Fld.PAT_VERDICT_REPLACE_HI_COUNT : Fld := ⟨31, 0, .ro, 0⟩
def Reg.PAT_VERDICT_EXPIRE_LO : Nat := 0x1fc20340
def Fld.PAT_VERDICT_EXPIRE_LO_COUNT : Fld := ⟨31, 0, .ro, 0⟩
def Reg.PAT_VERDICT_EXPIRE_HI : Nat := 0x1fc20344
def Fld.PAT_VERDICT_EXPIRE_HI_COUNT : Fld := ⟨31, 0, .ro, 0⟩
def Reg.PAT_CNT_OVF : Nat := 0x1fc201f0
def Fld.PAT_CNT_OVF_OVF : Fld := ⟨8, 0, .w1c, 0⟩
def Ctr.PAT_INSPECT : Ctr := ⟨0x1fc20300, 0x1fc201f0, 0⟩
def Ctr.PAT_MATCH : Ctr := ⟨0x1fc20308, 0x1fc201f0, 1⟩
def Ctr.PAT_SKIP : Ctr := ⟨0x1fc20310, 0x1fc201f0, 2⟩
def Ctr.PAT_TAIL_BAD : Ctr := ⟨0x1fc20318, 0x1fc201f0, 3⟩
def Ctr.PAT_NO_TRANSITION : Ctr := ⟨0x1fc20320, 0x1fc201f0, 4⟩
def Ctr.PAT_FALSE_HIT : Ctr := ⟨0x1fc20328, 0x1fc201f0, 5⟩
def Ctr.PAT_VERDICT_HIT : Ctr := ⟨0x1fc20330, 0x1fc201f0, 6⟩
def Ctr.PAT_VERDICT_REPLACE : Ctr := ⟨0x1fc20338, 0x1fc201f0, 7⟩
def Ctr.PAT_VERDICT_EXPIRE : Ctr := ⟨0x1fc20340, 0x1fc201f0, 8⟩

def regRowsPAT : List RegDef := [
  ⟨0x1fc20000, [], .single,
    [Fld.PAT_CFG_EN, Fld.PAT_CFG_MATCH_EVT, Fld.PAT_CFG_VERDICT_LIFE]⟩,
  ⟨0x1fc20004, [], .single,
    [Fld.PAT_STATUS_VERDICT_OCC]⟩,
  ⟨0x1fc20008, [], .single,
    [Fld.PAT_VERDICT_FLUSH_ALL]⟩,
  ⟨0x1fc20040, [(8, 0x4)], .single,
    [Fld.PAT_SET_CFG_EN, Fld.PAT_SET_CFG_FIRST_BANK, Fld.PAT_SET_CFG_BANK_COUNT, Fld.PAT_SET_CFG_START]⟩,
  ⟨0x1fc20060, [(8, 0x4)], .single,
    [Fld.PAT_SET_STATUS_OLD_BUSY, Fld.PAT_SET_STATUS_ACTIVE]⟩,
  ⟨0x1fc20100, [(3, 0x4)], .single,
    [Fld.PAT_WR_KEY_VALUE]⟩,
  ⟨0x1fc2010c, [(3, 0x4)], .single,
    [Fld.PAT_WR_MASK_MASK]⟩,
  ⟨0x1fc20118, [], .single,
    [Fld.PAT_WR_RES_LO_RES]⟩,
  ⟨0x1fc2011c, [], .single,
    [Fld.PAT_WR_RES_HI_RES]⟩,
  ⟨0x1fc20120, [], .single,
    [Fld.PAT_WR_CMD_OP, Fld.PAT_WR_CMD_BANK, Fld.PAT_WR_CMD_ROW]⟩,
  ⟨0x1fc20124, [], .single,
    [Fld.PAT_WR_STATUS_BUSY, Fld.PAT_WR_STATUS_ERR]⟩,
  ⟨0x1fc21000, [(1024, 0x4)], .single,
    [Fld.PAT_RESULT_RESULT]⟩,
  ⟨0x1fc22000, [(8, 0x100), (64, 0x4)], .single,
    [Fld.PAT_CLASS_MAP_W]⟩,
  ⟨0x1fc20300, [], .lo,
    [Fld.PAT_INSPECT_LO_COUNT]⟩,
  ⟨0x1fc20304, [], .hi,
    [Fld.PAT_INSPECT_HI_COUNT]⟩,
  ⟨0x1fc20308, [], .lo,
    [Fld.PAT_MATCH_LO_COUNT]⟩,
  ⟨0x1fc2030c, [], .hi,
    [Fld.PAT_MATCH_HI_COUNT]⟩,
  ⟨0x1fc20310, [], .lo,
    [Fld.PAT_SKIP_LO_COUNT]⟩,
  ⟨0x1fc20314, [], .hi,
    [Fld.PAT_SKIP_HI_COUNT]⟩,
  ⟨0x1fc20318, [], .lo,
    [Fld.PAT_TAIL_BAD_LO_COUNT]⟩,
  ⟨0x1fc2031c, [], .hi,
    [Fld.PAT_TAIL_BAD_HI_COUNT]⟩,
  ⟨0x1fc20320, [], .lo,
    [Fld.PAT_NO_TRANSITION_LO_COUNT]⟩,
  ⟨0x1fc20324, [], .hi,
    [Fld.PAT_NO_TRANSITION_HI_COUNT]⟩,
  ⟨0x1fc20328, [], .lo,
    [Fld.PAT_FALSE_HIT_LO_COUNT]⟩,
  ⟨0x1fc2032c, [], .hi,
    [Fld.PAT_FALSE_HIT_HI_COUNT]⟩,
  ⟨0x1fc20330, [], .lo,
    [Fld.PAT_VERDICT_HIT_LO_COUNT]⟩,
  ⟨0x1fc20334, [], .hi,
    [Fld.PAT_VERDICT_HIT_HI_COUNT]⟩,
  ⟨0x1fc20338, [], .lo,
    [Fld.PAT_VERDICT_REPLACE_LO_COUNT]⟩,
  ⟨0x1fc2033c, [], .hi,
    [Fld.PAT_VERDICT_REPLACE_HI_COUNT]⟩,
  ⟨0x1fc20340, [], .lo,
    [Fld.PAT_VERDICT_EXPIRE_LO_COUNT]⟩,
  ⟨0x1fc20344, [], .hi,
    [Fld.PAT_VERDICT_EXPIRE_HI_COUNT]⟩,
  ⟨0x1fc201f0, [], .single,
    [Fld.PAT_CNT_OVF_OVF]⟩]

/-! ### Block FAB (R272) -/

def Reg.FAB_DEV_CFG : Nat := 0x2fc00000
def Fld.FAB_DEV_CFG_EN : Fld := ⟨31, 31, .rw, 0⟩
def Fld.FAB_DEV_CFG_DEVICE_ID : Fld := ⟨26, 16, .rw, 0⟩
def Fld.FAB_DEV_CFG_INCARNATION : Fld := ⟨15, 0, .ro, 0⟩
def Reg.FAB_FLOW_CFG : Nat := 0x2fc00004
def Fld.FAB_FLOW_CFG_REORDER : Fld := ⟨29, 24, .rw, 0x2d⟩
def Fld.FAB_FLOW_CFG_HOLD : Fld := ⟨21, 16, .rw, 0x32⟩
def Fld.FAB_FLOW_CFG_QUANTUM : Fld := ⟨15, 8, .rw, 0x10⟩
def Reg.FAB_DER_CFG : Nat := 0x2fc00008
def Fld.FAB_DER_CFG_EN : Fld := ⟨31, 31, .rw, 1⟩
def Fld.FAB_DER_CFG_HIGH : Fld := ⟨30, 24, .rw, 0x50⟩
def Fld.FAB_DER_CFG_LOW : Fld := ⟨23, 17, .rw, 0x28⟩
def Fld.FAB_DER_CFG_DWELL : Fld := ⟨16, 11, .rw, 0x36⟩
def Fld.FAB_DER_CFG_MIN_LANES : Fld := ⟨10, 5, .rw, 8⟩
def Reg.FAB_CAP : Nat := 0x2fc0000c
def Fld.FAB_CAP_OUTSTANDING : Fld := ⟨31, 16, .ro, 0⟩
def Fld.FAB_CAP_CAP : Fld := ⟨15, 0, .ro, 0⟩
def Reg.FAB_CLASS_W : Nat := 0x2fc00010
def Fld.FAB_CLASS_W_W : Fld := ⟨31, 0, .rw, 0x11111111⟩
def Reg.FAB_MCL_DATA (w : Nat) : Nat := 0x2fc00400 + 0x4 * w
def Fld.FAB_MCL_DATA_DEV : Fld := ⟨31, 0, .rw, 0⟩
def Reg.FAB_MCL_CMD : Nat := 0x2fc00500
def Fld.FAB_MCL_CMD_OP : Fld := ⟨31, 30, .wo, 0⟩
def Fld.FAB_MCL_CMD_CLASS : Fld := ⟨18, 16, .wo, 0⟩
def Fld.FAB_MCL_CMD_LIST : Fld := ⟨15, 0, .wo, 0⟩
def Reg.FAB_MCL_STATUS : Nat := 0x2fc00504
def Fld.FAB_MCL_STATUS_BUSY : Fld := ⟨31, 31, .ro, 0⟩
def Fld.FAB_MCL_STATUS_CLASS : Fld := ⟨2, 0, .ro, 0⟩
def Reg.FAB_REACH (d : Nat) : Nat := 0x2fc02000 + 0x4 * d
def Fld.FAB_REACH_VAL : Fld := ⟨31, 0, .rw, 0⟩
def Reg.FAB_TX_CELLS_LO : Nat := 0x2fc00100
def Fld.FAB_TX_CELLS_LO_COUNT : Fld := ⟨31, 0, .ro, 0⟩
def Reg.FAB_TX_CELLS_HI : Nat := 0x2fc00104
def Fld.FAB_TX_CELLS_HI_COUNT : Fld := ⟨31, 0, .ro, 0⟩
def Reg.FAB_RX_CELLS_LO : Nat := 0x2fc00108
def Fld.FAB_RX_CELLS_LO_COUNT : Fld := ⟨31, 0, .ro, 0⟩
def Reg.FAB_RX_CELLS_HI : Nat := 0x2fc0010c
def Fld.FAB_RX_CELLS_HI_COUNT : Fld := ⟨31, 0, .ro, 0⟩
def Reg.FAB_RX_MISSING_LO : Nat := 0x2fc00110
def Fld.FAB_RX_MISSING_LO_COUNT : Fld := ⟨31, 0, .ro, 0⟩
def Reg.FAB_RX_MISSING_HI : Nat := 0x2fc00114
def Fld.FAB_RX_MISSING_HI_COUNT : Fld := ⟨31, 0, .ro, 0⟩
def Reg.FAB_RX_PKT_LOST_LO : Nat := 0x2fc00118
def Fld.FAB_RX_PKT_LOST_LO_COUNT : Fld := ⟨31, 0, .ro, 0⟩
def Reg.FAB_RX_PKT_LOST_HI : Nat := 0x2fc0011c
def Fld.FAB_RX_PKT_LOST_HI_COUNT : Fld := ⟨31, 0, .ro, 0⟩
def Reg.FAB_RX_STALE_LO : Nat := 0x2fc00120
def Fld.FAB_RX_STALE_LO_COUNT : Fld := ⟨31, 0, .ro, 0⟩
def Reg.FAB_RX_STALE_HI : Nat := 0x2fc00124
def Fld.FAB_RX_STALE_HI_COUNT : Fld := ⟨31, 0, .ro, 0⟩
def Reg.FAB_RX_MISROUTE_LO : Nat := 0x2fc00128
def Fld.FAB_RX_MISROUTE_LO_COUNT : Fld := ⟨31, 0, .ro, 0⟩
def Reg.FAB_RX_MISROUTE_HI : Nat := 0x2fc0012c
def Fld.FAB_RX_MISROUTE_HI_COUNT : Fld := ⟨31, 0, .ro, 0⟩
def Reg.FAB_RX_TYPE_DROP_LO : Nat := 0x2fc00130
def Fld.FAB_RX_TYPE_DROP_LO_COUNT : Fld := ⟨31, 0, .ro, 0⟩
def Reg.FAB_RX_TYPE_DROP_HI : Nat := 0x2fc00134
def Fld.FAB_RX_TYPE_DROP_HI_COUNT : Fld := ⟨31, 0, .ro, 0⟩
def Reg.FAB_RX_LATE_LO : Nat := 0x2fc00138
def Fld.FAB_RX_LATE_LO_COUNT : Fld := ⟨31, 0, .ro, 0⟩
def Reg.FAB_RX_LATE_HI : Nat := 0x2fc0013c
def Fld.FAB_RX_LATE_HI_COUNT : Fld := ⟨31, 0, .ro, 0⟩
def Reg.FAB_TX_UNREACH_DROP_LO : Nat := 0x2fc00140
def Fld.FAB_TX_UNREACH_DROP_LO_COUNT : Fld := ⟨31, 0, .ro, 0⟩
def Reg.FAB_TX_UNREACH_DROP_HI : Nat := 0x2fc00144
def Fld.FAB_TX_UNREACH_DROP_HI_COUNT : Fld := ⟨31, 0, .ro, 0⟩
def Reg.FAB_TX_PEER_DROP_LO : Nat := 0x2fc00148
def Fld.FAB_TX_PEER_DROP_LO_COUNT : Fld := ⟨31, 0, .ro, 0⟩
def Reg.FAB_TX_PEER_DROP_HI : Nat := 0x2fc0014c
def Fld.FAB_TX_PEER_DROP_HI_COUNT : Fld := ⟨31, 0, .ro, 0⟩
def Reg.FAB_CNT_OVF : Nat := 0x2fc001f0
def Fld.FAB_CNT_OVF_OVF : Fld := ⟨9, 0, .w1c, 0⟩
def Ctr.FAB_TX_CELLS : Ctr := ⟨0x2fc00100, 0x2fc001f0, 0⟩
def Ctr.FAB_RX_CELLS : Ctr := ⟨0x2fc00108, 0x2fc001f0, 1⟩
def Ctr.FAB_RX_MISSING : Ctr := ⟨0x2fc00110, 0x2fc001f0, 2⟩
def Ctr.FAB_RX_PKT_LOST : Ctr := ⟨0x2fc00118, 0x2fc001f0, 3⟩
def Ctr.FAB_RX_STALE : Ctr := ⟨0x2fc00120, 0x2fc001f0, 4⟩
def Ctr.FAB_RX_MISROUTE : Ctr := ⟨0x2fc00128, 0x2fc001f0, 5⟩
def Ctr.FAB_RX_TYPE_DROP : Ctr := ⟨0x2fc00130, 0x2fc001f0, 6⟩
def Ctr.FAB_RX_LATE : Ctr := ⟨0x2fc00138, 0x2fc001f0, 7⟩
def Ctr.FAB_TX_UNREACH_DROP : Ctr := ⟨0x2fc00140, 0x2fc001f0, 8⟩
def Ctr.FAB_TX_PEER_DROP : Ctr := ⟨0x2fc00148, 0x2fc001f0, 9⟩

def regRowsFAB : List RegDef := [
  ⟨0x2fc00000, [], .single,
    [Fld.FAB_DEV_CFG_EN, Fld.FAB_DEV_CFG_DEVICE_ID, Fld.FAB_DEV_CFG_INCARNATION]⟩,
  ⟨0x2fc00004, [], .single,
    [Fld.FAB_FLOW_CFG_REORDER, Fld.FAB_FLOW_CFG_HOLD, Fld.FAB_FLOW_CFG_QUANTUM]⟩,
  ⟨0x2fc00008, [], .single,
    [Fld.FAB_DER_CFG_EN, Fld.FAB_DER_CFG_HIGH, Fld.FAB_DER_CFG_LOW, Fld.FAB_DER_CFG_DWELL, Fld.FAB_DER_CFG_MIN_LANES]⟩,
  ⟨0x2fc0000c, [], .single,
    [Fld.FAB_CAP_OUTSTANDING, Fld.FAB_CAP_CAP]⟩,
  ⟨0x2fc00010, [], .single,
    [Fld.FAB_CLASS_W_W]⟩,
  ⟨0x2fc00400, [(64, 0x4)], .single,
    [Fld.FAB_MCL_DATA_DEV]⟩,
  ⟨0x2fc00500, [], .single,
    [Fld.FAB_MCL_CMD_OP, Fld.FAB_MCL_CMD_CLASS, Fld.FAB_MCL_CMD_LIST]⟩,
  ⟨0x2fc00504, [], .single,
    [Fld.FAB_MCL_STATUS_BUSY, Fld.FAB_MCL_STATUS_CLASS]⟩,
  ⟨0x2fc02000, [(512, 0x4)], .single,
    [Fld.FAB_REACH_VAL]⟩,
  ⟨0x2fc00100, [], .lo,
    [Fld.FAB_TX_CELLS_LO_COUNT]⟩,
  ⟨0x2fc00104, [], .hi,
    [Fld.FAB_TX_CELLS_HI_COUNT]⟩,
  ⟨0x2fc00108, [], .lo,
    [Fld.FAB_RX_CELLS_LO_COUNT]⟩,
  ⟨0x2fc0010c, [], .hi,
    [Fld.FAB_RX_CELLS_HI_COUNT]⟩,
  ⟨0x2fc00110, [], .lo,
    [Fld.FAB_RX_MISSING_LO_COUNT]⟩,
  ⟨0x2fc00114, [], .hi,
    [Fld.FAB_RX_MISSING_HI_COUNT]⟩,
  ⟨0x2fc00118, [], .lo,
    [Fld.FAB_RX_PKT_LOST_LO_COUNT]⟩,
  ⟨0x2fc0011c, [], .hi,
    [Fld.FAB_RX_PKT_LOST_HI_COUNT]⟩,
  ⟨0x2fc00120, [], .lo,
    [Fld.FAB_RX_STALE_LO_COUNT]⟩,
  ⟨0x2fc00124, [], .hi,
    [Fld.FAB_RX_STALE_HI_COUNT]⟩,
  ⟨0x2fc00128, [], .lo,
    [Fld.FAB_RX_MISROUTE_LO_COUNT]⟩,
  ⟨0x2fc0012c, [], .hi,
    [Fld.FAB_RX_MISROUTE_HI_COUNT]⟩,
  ⟨0x2fc00130, [], .lo,
    [Fld.FAB_RX_TYPE_DROP_LO_COUNT]⟩,
  ⟨0x2fc00134, [], .hi,
    [Fld.FAB_RX_TYPE_DROP_HI_COUNT]⟩,
  ⟨0x2fc00138, [], .lo,
    [Fld.FAB_RX_LATE_LO_COUNT]⟩,
  ⟨0x2fc0013c, [], .hi,
    [Fld.FAB_RX_LATE_HI_COUNT]⟩,
  ⟨0x2fc00140, [], .lo,
    [Fld.FAB_TX_UNREACH_DROP_LO_COUNT]⟩,
  ⟨0x2fc00144, [], .hi,
    [Fld.FAB_TX_UNREACH_DROP_HI_COUNT]⟩,
  ⟨0x2fc00148, [], .lo,
    [Fld.FAB_TX_PEER_DROP_LO_COUNT]⟩,
  ⟨0x2fc0014c, [], .hi,
    [Fld.FAB_TX_PEER_DROP_HI_COUNT]⟩,
  ⟨0x2fc001f0, [], .single,
    [Fld.FAB_CNT_OVF_OVF]⟩]

/-! ### Block FABB (R272) -/

def Reg.FAB_BUNDLE_CFG (b : Nat) : Nat := 0x22000000 + 0x400000 * b
def Fld.FAB_BUNDLE_CFG_EN : Fld := ⟨31, 31, .rw, 0⟩
def Fld.FAB_BUNDLE_CFG_LANE_EN : Fld := ⟨23, 0, .rw, 0xffffff⟩
def Reg.FAB_BUNDLE_STATUS (b : Nat) : Nat := 0x22000004 + 0x400000 * b
def Fld.FAB_BUNDLE_STATUS_MISMATCH : Fld := ⟨31, 31, .w1c, 0⟩
def Fld.FAB_BUNDLE_STATUS_LANE_EVT : Fld := ⟨30, 30, .w1c, 0⟩
def Fld.FAB_BUNDLE_STATUS_ACTIVE : Fld := ⟨29, 24, .ro, 0⟩
def Fld.FAB_BUNDLE_STATUS_PEER_BUNDLE : Fld := ⟨21, 19, .ro, 0⟩
def Fld.FAB_BUNDLE_STATUS_PEER_DEV : Fld := ⟨10, 0, .ro, 0⟩
def Reg.FAB_LANE_STATE (b k : Nat) : Nat := 0x22000010 + 0x400000 * b + 0x4 * k
def Fld.FAB_LANE_STATE_STATE : Fld := ⟨23, 0, .ro, 0⟩
def Reg.FAB_TIME_TX (b : Nat) : Nat := 0x22000020 + 0x400000 * b
def Fld.FAB_TIME_TX_LANE : Fld := ⟨20, 16, .wo, 0⟩
def Fld.FAB_TIME_TX_TAG : Fld := ⟨15, 0, .wo, 0⟩
def Reg.FAB_FEC_CORR_LO (b : Nat) : Nat := 0x22000100 + 0x400000 * b
def Fld.FAB_FEC_CORR_LO_COUNT : Fld := ⟨31, 0, .ro, 0⟩
def Reg.FAB_FEC_CORR_HI (b : Nat) : Nat := 0x22000104 + 0x400000 * b
def Fld.FAB_FEC_CORR_HI_COUNT : Fld := ⟨31, 0, .ro, 0⟩
def Reg.FAB_FEC_UNCORR_LO (b : Nat) : Nat := 0x22000108 + 0x400000 * b
def Fld.FAB_FEC_UNCORR_LO_COUNT : Fld := ⟨31, 0, .ro, 0⟩
def Reg.FAB_FEC_UNCORR_HI (b : Nat) : Nat := 0x2200010c + 0x400000 * b
def Fld.FAB_FEC_UNCORR_HI_COUNT : Fld := ⟨31, 0, .ro, 0⟩
def Reg.FAB_HEC_ERR_LO (b : Nat) : Nat := 0x22000110 + 0x400000 * b
def Fld.FAB_HEC_ERR_LO_COUNT : Fld := ⟨31, 0, .ro, 0⟩
def Reg.FAB_HEC_ERR_HI (b : Nat) : Nat := 0x22000114 + 0x400000 * b
def Fld.FAB_HEC_ERR_HI_COUNT : Fld := ⟨31, 0, .ro, 0⟩
def Reg.FAB_SHIFT_DOWN_LO (b : Nat) : Nat := 0x22000118 + 0x400000 * b
def Fld.FAB_SHIFT_DOWN_LO_COUNT : Fld := ⟨31, 0, .ro, 0⟩
def Reg.FAB_SHIFT_DOWN_HI (b : Nat) : Nat := 0x2200011c + 0x400000 * b
def Fld.FAB_SHIFT_DOWN_HI_COUNT : Fld := ⟨31, 0, .ro, 0⟩
def Reg.FAB_SHIFT_UP_LO (b : Nat) : Nat := 0x22000120 + 0x400000 * b
def Fld.FAB_SHIFT_UP_LO_COUNT : Fld := ⟨31, 0, .ro, 0⟩
def Reg.FAB_SHIFT_UP_HI (b : Nat) : Nat := 0x22000124 + 0x400000 * b
def Fld.FAB_SHIFT_UP_HI_COUNT : Fld := ⟨31, 0, .ro, 0⟩
def Reg.FAB_SHIFT_NAK_LO (b : Nat) : Nat := 0x22000128 + 0x400000 * b
def Fld.FAB_SHIFT_NAK_LO_COUNT : Fld := ⟨31, 0, .ro, 0⟩
def Reg.FAB_SHIFT_NAK_HI (b : Nat) : Nat := 0x2200012c + 0x400000 * b
def Fld.FAB_SHIFT_NAK_HI_COUNT : Fld := ⟨31, 0, .ro, 0⟩
def Reg.FAB_LANE_FAIL_LO (b : Nat) : Nat := 0x22000130 + 0x400000 * b
def Fld.FAB_LANE_FAIL_LO_COUNT : Fld := ⟨31, 0, .ro, 0⟩
def Reg.FAB_LANE_FAIL_HI (b : Nat) : Nat := 0x22000134 + 0x400000 * b
def Fld.FAB_LANE_FAIL_HI_COUNT : Fld := ⟨31, 0, .ro, 0⟩
def Reg.FAB_CW_UNKNOWN_LO (b : Nat) : Nat := 0x22000138 + 0x400000 * b
def Fld.FAB_CW_UNKNOWN_LO_COUNT : Fld := ⟨31, 0, .ro, 0⟩
def Reg.FAB_CW_UNKNOWN_HI (b : Nat) : Nat := 0x2200013c + 0x400000 * b
def Fld.FAB_CW_UNKNOWN_HI_COUNT : Fld := ⟨31, 0, .ro, 0⟩
def Reg.FAB_BUNDLE_OVF (b : Nat) : Nat := 0x220001f0 + 0x400000 * b
def Fld.FAB_BUNDLE_OVF_OVF : Fld := ⟨7, 0, .w1c, 0⟩
def Ctr.FAB_FEC_CORR (b : Nat) : Ctr := ⟨0x22000100 + 0x400000 * b, 0x220001f0 + 0x400000 * b, 0⟩
def Ctr.FAB_FEC_UNCORR (b : Nat) : Ctr := ⟨0x22000108 + 0x400000 * b, 0x220001f0 + 0x400000 * b, 1⟩
def Ctr.FAB_HEC_ERR (b : Nat) : Ctr := ⟨0x22000110 + 0x400000 * b, 0x220001f0 + 0x400000 * b, 2⟩
def Ctr.FAB_SHIFT_DOWN (b : Nat) : Ctr := ⟨0x22000118 + 0x400000 * b, 0x220001f0 + 0x400000 * b, 3⟩
def Ctr.FAB_SHIFT_UP (b : Nat) : Ctr := ⟨0x22000120 + 0x400000 * b, 0x220001f0 + 0x400000 * b, 4⟩
def Ctr.FAB_SHIFT_NAK (b : Nat) : Ctr := ⟨0x22000128 + 0x400000 * b, 0x220001f0 + 0x400000 * b, 5⟩
def Ctr.FAB_LANE_FAIL (b : Nat) : Ctr := ⟨0x22000130 + 0x400000 * b, 0x220001f0 + 0x400000 * b, 6⟩
def Ctr.FAB_CW_UNKNOWN (b : Nat) : Ctr := ⟨0x22000138 + 0x400000 * b, 0x220001f0 + 0x400000 * b, 7⟩

def regRowsFABB : List RegDef := [
  ⟨0x22000000, [(8, 0x400000)], .single,
    [Fld.FAB_BUNDLE_CFG_EN, Fld.FAB_BUNDLE_CFG_LANE_EN]⟩,
  ⟨0x22000004, [(8, 0x400000)], .single,
    [Fld.FAB_BUNDLE_STATUS_MISMATCH, Fld.FAB_BUNDLE_STATUS_LANE_EVT, Fld.FAB_BUNDLE_STATUS_ACTIVE, Fld.FAB_BUNDLE_STATUS_PEER_BUNDLE, Fld.FAB_BUNDLE_STATUS_PEER_DEV]⟩,
  ⟨0x22000010, [(8, 0x400000), (3, 0x4)], .single,
    [Fld.FAB_LANE_STATE_STATE]⟩,
  ⟨0x22000020, [(8, 0x400000)], .single,
    [Fld.FAB_TIME_TX_LANE, Fld.FAB_TIME_TX_TAG]⟩,
  ⟨0x22000100, [(8, 0x400000)], .lo,
    [Fld.FAB_FEC_CORR_LO_COUNT]⟩,
  ⟨0x22000104, [(8, 0x400000)], .hi,
    [Fld.FAB_FEC_CORR_HI_COUNT]⟩,
  ⟨0x22000108, [(8, 0x400000)], .lo,
    [Fld.FAB_FEC_UNCORR_LO_COUNT]⟩,
  ⟨0x2200010c, [(8, 0x400000)], .hi,
    [Fld.FAB_FEC_UNCORR_HI_COUNT]⟩,
  ⟨0x22000110, [(8, 0x400000)], .lo,
    [Fld.FAB_HEC_ERR_LO_COUNT]⟩,
  ⟨0x22000114, [(8, 0x400000)], .hi,
    [Fld.FAB_HEC_ERR_HI_COUNT]⟩,
  ⟨0x22000118, [(8, 0x400000)], .lo,
    [Fld.FAB_SHIFT_DOWN_LO_COUNT]⟩,
  ⟨0x2200011c, [(8, 0x400000)], .hi,
    [Fld.FAB_SHIFT_DOWN_HI_COUNT]⟩,
  ⟨0x22000120, [(8, 0x400000)], .lo,
    [Fld.FAB_SHIFT_UP_LO_COUNT]⟩,
  ⟨0x22000124, [(8, 0x400000)], .hi,
    [Fld.FAB_SHIFT_UP_HI_COUNT]⟩,
  ⟨0x22000128, [(8, 0x400000)], .lo,
    [Fld.FAB_SHIFT_NAK_LO_COUNT]⟩,
  ⟨0x2200012c, [(8, 0x400000)], .hi,
    [Fld.FAB_SHIFT_NAK_HI_COUNT]⟩,
  ⟨0x22000130, [(8, 0x400000)], .lo,
    [Fld.FAB_LANE_FAIL_LO_COUNT]⟩,
  ⟨0x22000134, [(8, 0x400000)], .hi,
    [Fld.FAB_LANE_FAIL_HI_COUNT]⟩,
  ⟨0x22000138, [(8, 0x400000)], .lo,
    [Fld.FAB_CW_UNKNOWN_LO_COUNT]⟩,
  ⟨0x2200013c, [(8, 0x400000)], .hi,
    [Fld.FAB_CW_UNKNOWN_HI_COUNT]⟩,
  ⟨0x220001f0, [(8, 0x400000)], .single,
    [Fld.FAB_BUNDLE_OVF_OVF]⟩]

/-! ### Block BUF (R293) -/

def Reg.BUF_CFG (q : Nat) : Nat := 0x20000000 + 0x400000 * q
def Fld.BUF_CFG_EN : Fld := ⟨31, 31, .rw, 0⟩
def Reg.BUF_POOL_CFG0 (q : Nat) : Nat := 0x20000004 + 0x400000 * q
def Fld.BUF_POOL_CFG0_N256 : Fld := ⟨17, 0, .rw, 0x10000⟩
def Reg.BUF_POOL_CFG1 (q : Nat) : Nat := 0x20000008 + 0x400000 * q
def Fld.BUF_POOL_CFG1_N16K : Fld := ⟨27, 16, .rw, 0x300⟩
def Fld.BUF_POOL_CFG1_N2K : Fld := ⟨14, 0, .rw, 0x1000⟩
def Reg.BUF_HBM_PAGES (q : Nat) : Nat := 0x2000000c + 0x400000 * q
def Fld.BUF_HBM_PAGES_PAGES : Fld := ⟨24, 0, .rw, 0x1000000⟩
def Reg.BUF_STATUS (q : Nat) : Nat := 0x20000010 + 0x400000 * q
def Fld.BUF_STATUS_CFG_REFUSED : Fld := ⟨31, 31, .w1c, 0⟩
def Fld.BUF_STATUS_CAP_LOW : Fld := ⟨30, 30, .ro, 0⟩
def Fld.BUF_STATUS_QUAR : Fld := ⟨29, 26, .ro, 0⟩
def Reg.BUF_FREE256 (q : Nat) : Nat := 0x20000020 + 0x400000 * q
def Fld.BUF_FREE256_COUNT : Fld := ⟨17, 0, .ro, 0⟩
def Reg.BUF_FREE2K (q : Nat) : Nat := 0x20000024 + 0x400000 * q
def Fld.BUF_FREE2K_COUNT : Fld := ⟨14, 0, .ro, 0⟩
def Reg.BUF_FREE16K (q : Nat) : Nat := 0x20000028 + 0x400000 * q
def Fld.BUF_FREE16K_COUNT : Fld := ⟨11, 0, .ro, 0⟩
def Reg.BUF_HBM_FREE (q : Nat) : Nat := 0x2000002c + 0x400000 * q
def Fld.BUF_HBM_FREE_COUNT : Fld := ⟨24, 0, .ro, 0⟩
def Reg.BUF_PD_FREE (q : Nat) : Nat := 0x20000030 + 0x400000 * q
def Fld.BUF_PD_FREE_COUNT : Fld := ⟨18, 0, .ro, 0⟩
def Reg.BUF_FALLBACK_LO (q : Nat) : Nat := 0x20000100 + 0x400000 * q
def Fld.BUF_FALLBACK_LO_COUNT : Fld := ⟨31, 0, .ro, 0⟩
def Reg.BUF_FALLBACK_HI (q : Nat) : Nat := 0x20000104 + 0x400000 * q
def Fld.BUF_FALLBACK_HI_COUNT : Fld := ⟨31, 0, .ro, 0⟩
def Reg.BUF_SPILL_FORCED_LO (q : Nat) : Nat := 0x20000108 + 0x400000 * q
def Fld.BUF_SPILL_FORCED_LO_COUNT : Fld := ⟨31, 0, .ro, 0⟩
def Reg.BUF_SPILL_FORCED_HI (q : Nat) : Nat := 0x2000010c + 0x400000 * q
def Fld.BUF_SPILL_FORCED_HI_COUNT : Fld := ⟨31, 0, .ro, 0⟩
def Reg.BUF_NO_BUFFER_LO (q : Nat) : Nat := 0x20000110 + 0x400000 * q
def Fld.BUF_NO_BUFFER_LO_COUNT : Fld := ⟨31, 0, .ro, 0⟩
def Reg.BUF_NO_BUFFER_HI (q : Nat) : Nat := 0x20000114 + 0x400000 * q
def Fld.BUF_NO_BUFFER_HI_COUNT : Fld := ⟨31, 0, .ro, 0⟩
def Reg.BUF_TAIL_BAD_LO (q : Nat) : Nat := 0x20000118 + 0x400000 * q
def Fld.BUF_TAIL_BAD_LO_COUNT : Fld := ⟨31, 0, .ro, 0⟩
def Reg.BUF_TAIL_BAD_HI (q : Nat) : Nat := 0x2000011c + 0x400000 * q
def Fld.BUF_TAIL_BAD_HI_COUNT : Fld := ⟨31, 0, .ro, 0⟩
def Reg.BUF_REBUILD_LO (q : Nat) : Nat := 0x20000120 + 0x400000 * q
def Fld.BUF_REBUILD_LO_COUNT : Fld := ⟨31, 0, .ro, 0⟩
def Reg.BUF_REBUILD_HI (q : Nat) : Nat := 0x20000124 + 0x400000 * q
def Fld.BUF_REBUILD_HI_COUNT : Fld := ⟨31, 0, .ro, 0⟩
def Reg.BUF_CNT_OVF (q : Nat) : Nat := 0x200001f0 + 0x400000 * q
def Fld.BUF_CNT_OVF_OVF : Fld := ⟨4, 0, .w1c, 0⟩
def Ctr.BUF_FALLBACK (q : Nat) : Ctr := ⟨0x20000100 + 0x400000 * q, 0x200001f0 + 0x400000 * q, 0⟩
def Ctr.BUF_SPILL_FORCED (q : Nat) : Ctr := ⟨0x20000108 + 0x400000 * q, 0x200001f0 + 0x400000 * q, 1⟩
def Ctr.BUF_NO_BUFFER (q : Nat) : Ctr := ⟨0x20000110 + 0x400000 * q, 0x200001f0 + 0x400000 * q, 2⟩
def Ctr.BUF_TAIL_BAD (q : Nat) : Ctr := ⟨0x20000118 + 0x400000 * q, 0x200001f0 + 0x400000 * q, 3⟩
def Ctr.BUF_REBUILD (q : Nat) : Ctr := ⟨0x20000120 + 0x400000 * q, 0x200001f0 + 0x400000 * q, 4⟩

def regRowsBUF : List RegDef := [
  ⟨0x20000000, [(4, 0x400000)], .single,
    [Fld.BUF_CFG_EN]⟩,
  ⟨0x20000004, [(4, 0x400000)], .single,
    [Fld.BUF_POOL_CFG0_N256]⟩,
  ⟨0x20000008, [(4, 0x400000)], .single,
    [Fld.BUF_POOL_CFG1_N16K, Fld.BUF_POOL_CFG1_N2K]⟩,
  ⟨0x2000000c, [(4, 0x400000)], .single,
    [Fld.BUF_HBM_PAGES_PAGES]⟩,
  ⟨0x20000010, [(4, 0x400000)], .single,
    [Fld.BUF_STATUS_CFG_REFUSED, Fld.BUF_STATUS_CAP_LOW, Fld.BUF_STATUS_QUAR]⟩,
  ⟨0x20000020, [(4, 0x400000)], .single,
    [Fld.BUF_FREE256_COUNT]⟩,
  ⟨0x20000024, [(4, 0x400000)], .single,
    [Fld.BUF_FREE2K_COUNT]⟩,
  ⟨0x20000028, [(4, 0x400000)], .single,
    [Fld.BUF_FREE16K_COUNT]⟩,
  ⟨0x2000002c, [(4, 0x400000)], .single,
    [Fld.BUF_HBM_FREE_COUNT]⟩,
  ⟨0x20000030, [(4, 0x400000)], .single,
    [Fld.BUF_PD_FREE_COUNT]⟩,
  ⟨0x20000100, [(4, 0x400000)], .lo,
    [Fld.BUF_FALLBACK_LO_COUNT]⟩,
  ⟨0x20000104, [(4, 0x400000)], .hi,
    [Fld.BUF_FALLBACK_HI_COUNT]⟩,
  ⟨0x20000108, [(4, 0x400000)], .lo,
    [Fld.BUF_SPILL_FORCED_LO_COUNT]⟩,
  ⟨0x2000010c, [(4, 0x400000)], .hi,
    [Fld.BUF_SPILL_FORCED_HI_COUNT]⟩,
  ⟨0x20000110, [(4, 0x400000)], .lo,
    [Fld.BUF_NO_BUFFER_LO_COUNT]⟩,
  ⟨0x20000114, [(4, 0x400000)], .hi,
    [Fld.BUF_NO_BUFFER_HI_COUNT]⟩,
  ⟨0x20000118, [(4, 0x400000)], .lo,
    [Fld.BUF_TAIL_BAD_LO_COUNT]⟩,
  ⟨0x2000011c, [(4, 0x400000)], .hi,
    [Fld.BUF_TAIL_BAD_HI_COUNT]⟩,
  ⟨0x20000120, [(4, 0x400000)], .lo,
    [Fld.BUF_REBUILD_LO_COUNT]⟩,
  ⟨0x20000124, [(4, 0x400000)], .hi,
    [Fld.BUF_REBUILD_HI_COUNT]⟩,
  ⟨0x200001f0, [(4, 0x400000)], .single,
    [Fld.BUF_CNT_OVF_OVF]⟩]

/-! ### Block ADM (R294) -/

def Reg.ADM_SHARED (q : Nat) : Nat := 0x20004000 + 0x400000 * q
def Fld.ADM_SHARED_SIZE : Fld := ⟨25, 0, .rw, 0⟩
def Reg.ADM_SHARED_FREE (q : Nat) : Nat := 0x20004004 + 0x400000 * q
def Fld.ADM_SHARED_FREE_FREE : Fld := ⟨25, 0, .ro, 0⟩
def Reg.ADM_QCMD (q : Nat) : Nat := 0x20004010 + 0x400000 * q
def Fld.ADM_QCMD_OP : Fld := ⟨31, 30, .wo, 0⟩
def Fld.ADM_QCMD_QUEUE : Fld := ⟨16, 0, .wo, 0⟩
def Reg.ADM_QSTATUS (q : Nat) : Nat := 0x20004014 + 0x400000 * q
def Fld.ADM_QSTATUS_BUSY : Fld := ⟨31, 31, .ro, 0⟩
def Fld.ADM_QSTATUS_ERR : Fld := ⟨30, 30, .w1c, 0⟩
def Reg.ADM_QDATA (q w : Nat) : Nat := 0x20004020 + 0x400000 * q + 0x4 * w
def Fld.ADM_QDATA_DATA : Fld := ⟨31, 0, .rw, 0⟩
def Reg.ADM_RED (q p : Nat) : Nat := 0x20004400 + 0x400000 * q + 0x8 * p
def Fld.ADM_RED_MAX_P : Fld := ⟨31, 24, .rw, 0⟩
def Fld.ADM_RED_MIN_TH : Fld := ⟨23, 0, .rw, 0xffffff⟩
def Reg.ADM_RED_HI (q p : Nat) : Nat := 0x20004404 + 0x400000 * q + 0x8 * p
def Fld.ADM_RED_HI_ECN : Fld := ⟨31, 31, .rw, 0⟩
def Fld.ADM_RED_HI_MAX_TH : Fld := ⟨23, 0, .rw, 0xffffff⟩
def Reg.ADM_ADMIT_PKTS_LO (q : Nat) : Nat := 0x20004100 + 0x400000 * q
def Fld.ADM_ADMIT_PKTS_LO_COUNT : Fld := ⟨31, 0, .ro, 0⟩
def Reg.ADM_ADMIT_PKTS_HI (q : Nat) : Nat := 0x20004104 + 0x400000 * q
def Fld.ADM_ADMIT_PKTS_HI_COUNT : Fld := ⟨31, 0, .ro, 0⟩
def Reg.ADM_ADMIT_BYTES_LO (q : Nat) : Nat := 0x20004108 + 0x400000 * q
def Fld.ADM_ADMIT_BYTES_LO_COUNT : Fld := ⟨31, 0, .ro, 0⟩
def Reg.ADM_ADMIT_BYTES_HI (q : Nat) : Nat := 0x2000410c + 0x400000 * q
def Fld.ADM_ADMIT_BYTES_HI_COUNT : Fld := ⟨31, 0, .ro, 0⟩
def Reg.ADM_DROP_RED_G_LO (q : Nat) : Nat := 0x20004110 + 0x400000 * q
def Fld.ADM_DROP_RED_G_LO_COUNT : Fld := ⟨31, 0, .ro, 0⟩
def Reg.ADM_DROP_RED_G_HI (q : Nat) : Nat := 0x20004114 + 0x400000 * q
def Fld.ADM_DROP_RED_G_HI_COUNT : Fld := ⟨31, 0, .ro, 0⟩
def Reg.ADM_DROP_RED_Y_LO (q : Nat) : Nat := 0x20004118 + 0x400000 * q
def Fld.ADM_DROP_RED_Y_LO_COUNT : Fld := ⟨31, 0, .ro, 0⟩
def Reg.ADM_DROP_RED_Y_HI (q : Nat) : Nat := 0x2000411c + 0x400000 * q
def Fld.ADM_DROP_RED_Y_HI_COUNT : Fld := ⟨31, 0, .ro, 0⟩
def Reg.ADM_DROP_RED_R_LO (q : Nat) : Nat := 0x20004120 + 0x400000 * q
def Fld.ADM_DROP_RED_R_LO_COUNT : Fld := ⟨31, 0, .ro, 0⟩
def Reg.ADM_DROP_RED_R_HI (q : Nat) : Nat := 0x20004124 + 0x400000 * q
def Fld.ADM_DROP_RED_R_HI_COUNT : Fld := ⟨31, 0, .ro, 0⟩
def Reg.ADM_MARK_ECN_LO (q : Nat) : Nat := 0x20004128 + 0x400000 * q
def Fld.ADM_MARK_ECN_LO_COUNT : Fld := ⟨31, 0, .ro, 0⟩
def Reg.ADM_MARK_ECN_HI (q : Nat) : Nat := 0x2000412c + 0x400000 * q
def Fld.ADM_MARK_ECN_HI_COUNT : Fld := ⟨31, 0, .ro, 0⟩
def Reg.ADM_DROP_NO_ROOM_LO (q : Nat) : Nat := 0x20004130 + 0x400000 * q
def Fld.ADM_DROP_NO_ROOM_LO_COUNT : Fld := ⟨31, 0, .ro, 0⟩
def Reg.ADM_DROP_NO_ROOM_HI (q : Nat) : Nat := 0x20004134 + 0x400000 * q
def Fld.ADM_DROP_NO_ROOM_HI_COUNT : Fld := ⟨31, 0, .ro, 0⟩
def Reg.ADM_DROP_DISABLED_LO (q : Nat) : Nat := 0x20004138 + 0x400000 * q
def Fld.ADM_DROP_DISABLED_LO_COUNT : Fld := ⟨31, 0, .ro, 0⟩
def Reg.ADM_DROP_DISABLED_HI (q : Nat) : Nat := 0x2000413c + 0x400000 * q
def Fld.ADM_DROP_DISABLED_HI_COUNT : Fld := ⟨31, 0, .ro, 0⟩
def Reg.ADM_CNT_OVF (q : Nat) : Nat := 0x200041f0 + 0x400000 * q
def Fld.ADM_CNT_OVF_OVF : Fld := ⟨7, 0, .w1c, 0⟩
def Ctr.ADM_ADMIT_PKTS (q : Nat) : Ctr := ⟨0x20004100 + 0x400000 * q, 0x200041f0 + 0x400000 * q, 0⟩
def Ctr.ADM_ADMIT_BYTES (q : Nat) : Ctr := ⟨0x20004108 + 0x400000 * q, 0x200041f0 + 0x400000 * q, 1⟩
def Ctr.ADM_DROP_RED_G (q : Nat) : Ctr := ⟨0x20004110 + 0x400000 * q, 0x200041f0 + 0x400000 * q, 2⟩
def Ctr.ADM_DROP_RED_Y (q : Nat) : Ctr := ⟨0x20004118 + 0x400000 * q, 0x200041f0 + 0x400000 * q, 3⟩
def Ctr.ADM_DROP_RED_R (q : Nat) : Ctr := ⟨0x20004120 + 0x400000 * q, 0x200041f0 + 0x400000 * q, 4⟩
def Ctr.ADM_MARK_ECN (q : Nat) : Ctr := ⟨0x20004128 + 0x400000 * q, 0x200041f0 + 0x400000 * q, 5⟩
def Ctr.ADM_DROP_NO_ROOM (q : Nat) : Ctr := ⟨0x20004130 + 0x400000 * q, 0x200041f0 + 0x400000 * q, 6⟩
def Ctr.ADM_DROP_DISABLED (q : Nat) : Ctr := ⟨0x20004138 + 0x400000 * q, 0x200041f0 + 0x400000 * q, 7⟩

def regRowsADM : List RegDef := [
  ⟨0x20004000, [(4, 0x400000)], .single,
    [Fld.ADM_SHARED_SIZE]⟩,
  ⟨0x20004004, [(4, 0x400000)], .single,
    [Fld.ADM_SHARED_FREE_FREE]⟩,
  ⟨0x20004010, [(4, 0x400000)], .single,
    [Fld.ADM_QCMD_OP, Fld.ADM_QCMD_QUEUE]⟩,
  ⟨0x20004014, [(4, 0x400000)], .single,
    [Fld.ADM_QSTATUS_BUSY, Fld.ADM_QSTATUS_ERR]⟩,
  ⟨0x20004020, [(4, 0x400000), (4, 0x4)], .single,
    [Fld.ADM_QDATA_DATA]⟩,
  ⟨0x20004400, [(4, 0x400000), (64, 0x8)], .single,
    [Fld.ADM_RED_MAX_P, Fld.ADM_RED_MIN_TH]⟩,
  ⟨0x20004404, [(4, 0x400000), (64, 0x8)], .single,
    [Fld.ADM_RED_HI_ECN, Fld.ADM_RED_HI_MAX_TH]⟩,
  ⟨0x20004100, [(4, 0x400000)], .lo,
    [Fld.ADM_ADMIT_PKTS_LO_COUNT]⟩,
  ⟨0x20004104, [(4, 0x400000)], .hi,
    [Fld.ADM_ADMIT_PKTS_HI_COUNT]⟩,
  ⟨0x20004108, [(4, 0x400000)], .lo,
    [Fld.ADM_ADMIT_BYTES_LO_COUNT]⟩,
  ⟨0x2000410c, [(4, 0x400000)], .hi,
    [Fld.ADM_ADMIT_BYTES_HI_COUNT]⟩,
  ⟨0x20004110, [(4, 0x400000)], .lo,
    [Fld.ADM_DROP_RED_G_LO_COUNT]⟩,
  ⟨0x20004114, [(4, 0x400000)], .hi,
    [Fld.ADM_DROP_RED_G_HI_COUNT]⟩,
  ⟨0x20004118, [(4, 0x400000)], .lo,
    [Fld.ADM_DROP_RED_Y_LO_COUNT]⟩,
  ⟨0x2000411c, [(4, 0x400000)], .hi,
    [Fld.ADM_DROP_RED_Y_HI_COUNT]⟩,
  ⟨0x20004120, [(4, 0x400000)], .lo,
    [Fld.ADM_DROP_RED_R_LO_COUNT]⟩,
  ⟨0x20004124, [(4, 0x400000)], .hi,
    [Fld.ADM_DROP_RED_R_HI_COUNT]⟩,
  ⟨0x20004128, [(4, 0x400000)], .lo,
    [Fld.ADM_MARK_ECN_LO_COUNT]⟩,
  ⟨0x2000412c, [(4, 0x400000)], .hi,
    [Fld.ADM_MARK_ECN_HI_COUNT]⟩,
  ⟨0x20004130, [(4, 0x400000)], .lo,
    [Fld.ADM_DROP_NO_ROOM_LO_COUNT]⟩,
  ⟨0x20004134, [(4, 0x400000)], .hi,
    [Fld.ADM_DROP_NO_ROOM_HI_COUNT]⟩,
  ⟨0x20004138, [(4, 0x400000)], .lo,
    [Fld.ADM_DROP_DISABLED_LO_COUNT]⟩,
  ⟨0x2000413c, [(4, 0x400000)], .hi,
    [Fld.ADM_DROP_DISABLED_HI_COUNT]⟩,
  ⟨0x200041f0, [(4, 0x400000)], .single,
    [Fld.ADM_CNT_OVF_OVF]⟩]

/-! ### Block MCR (R295) -/

def Reg.MCR_RESIDUE_LO (q : Nat) : Nat := 0x20008000 + 0x400000 * q
def Fld.MCR_RESIDUE_LO_SPAN : Fld := ⟨31, 0, .rw, 0x83126f⟩
def Reg.MCR_RESIDUE_HI (q : Nat) : Nat := 0x20008004 + 0x400000 * q
def Fld.MCR_RESIDUE_HI_SPAN : Fld := ⟨31, 0, .rw, 0⟩
def Reg.MCR_STATUS (q : Nat) : Nat := 0x20008008 + 0x400000 * q
def Fld.MCR_STATUS_SAFE : Fld := ⟨31, 31, .ro, 1⟩
def Fld.MCR_STATUS_BUSY : Fld := ⟨30, 30, .ro, 0⟩
def Fld.MCR_STATUS_ERR : Fld := ⟨29, 29, .w1c, 0⟩
def Fld.MCR_STATUS_RESIDUE_OCC : Fld := ⟨16, 0, .ro, 0⟩
def Reg.MCR_WR_DATA_LO (q : Nat) : Nat := 0x20008010 + 0x400000 * q
def Fld.MCR_WR_DATA_LO_DATA : Fld := ⟨31, 0, .rw, 0⟩
def Reg.MCR_WR_DATA_HI (q : Nat) : Nat := 0x20008014 + 0x400000 * q
def Fld.MCR_WR_DATA_HI_DATA : Fld := ⟨31, 0, .rw, 0⟩
def Reg.MCR_WR_CMD (q : Nat) : Nat := 0x20008018 + 0x400000 * q
def Fld.MCR_WR_CMD_OP : Fld := ⟨31, 30, .wo, 0⟩
def Fld.MCR_WR_CMD_INDEX : Fld := ⟨17, 0, .wo, 0⟩
def Reg.MCR_PACKETS_LO (q : Nat) : Nat := 0x20008100 + 0x400000 * q
def Fld.MCR_PACKETS_LO_COUNT : Fld := ⟨31, 0, .ro, 0⟩
def Reg.MCR_PACKETS_HI (q : Nat) : Nat := 0x20008104 + 0x400000 * q
def Fld.MCR_PACKETS_HI_COUNT : Fld := ⟨31, 0, .ro, 0⟩
def Reg.MCR_COPIES_LO (q : Nat) : Nat := 0x20008108 + 0x400000 * q
def Fld.MCR_COPIES_LO_COUNT : Fld := ⟨31, 0, .ro, 0⟩
def Reg.MCR_COPIES_HI (q : Nat) : Nat := 0x2000810c + 0x400000 * q
def Fld.MCR_COPIES_HI_COUNT : Fld := ⟨31, 0, .ro, 0⟩
def Reg.MCR_RESIDUE_EXPIRED_LO (q : Nat) : Nat := 0x20008110 + 0x400000 * q
def Fld.MCR_RESIDUE_EXPIRED_LO_COUNT : Fld := ⟨31, 0, .ro, 0⟩
def Reg.MCR_RESIDUE_EXPIRED_HI (q : Nat) : Nat := 0x20008114 + 0x400000 * q
def Fld.MCR_RESIDUE_EXPIRED_HI_COUNT : Fld := ⟨31, 0, .ro, 0⟩
def Reg.MCR_RESIDUE_FULL_LO (q : Nat) : Nat := 0x20008118 + 0x400000 * q
def Fld.MCR_RESIDUE_FULL_LO_COUNT : Fld := ⟨31, 0, .ro, 0⟩
def Reg.MCR_RESIDUE_FULL_HI (q : Nat) : Nat := 0x2000811c + 0x400000 * q
def Fld.MCR_RESIDUE_FULL_HI_COUNT : Fld := ⟨31, 0, .ro, 0⟩
def Reg.MCR_NO_LIST_LO (q : Nat) : Nat := 0x20008120 + 0x400000 * q
def Fld.MCR_NO_LIST_LO_COUNT : Fld := ⟨31, 0, .ro, 0⟩
def Reg.MCR_NO_LIST_HI (q : Nat) : Nat := 0x20008124 + 0x400000 * q
def Fld.MCR_NO_LIST_HI_COUNT : Fld := ⟨31, 0, .ro, 0⟩
def Reg.MCR_CNT_OVF (q : Nat) : Nat := 0x200081f0 + 0x400000 * q
def Fld.MCR_CNT_OVF_OVF : Fld := ⟨4, 0, .w1c, 0⟩
def Ctr.MCR_PACKETS (q : Nat) : Ctr := ⟨0x20008100 + 0x400000 * q, 0x200081f0 + 0x400000 * q, 0⟩
def Ctr.MCR_COPIES (q : Nat) : Ctr := ⟨0x20008108 + 0x400000 * q, 0x200081f0 + 0x400000 * q, 1⟩
def Ctr.MCR_RESIDUE_EXPIRED (q : Nat) : Ctr := ⟨0x20008110 + 0x400000 * q, 0x200081f0 + 0x400000 * q, 2⟩
def Ctr.MCR_RESIDUE_FULL (q : Nat) : Ctr := ⟨0x20008118 + 0x400000 * q, 0x200081f0 + 0x400000 * q, 3⟩
def Ctr.MCR_NO_LIST (q : Nat) : Ctr := ⟨0x20008120 + 0x400000 * q, 0x200081f0 + 0x400000 * q, 4⟩

def regRowsMCR : List RegDef := [
  ⟨0x20008000, [(4, 0x400000)], .lo,
    [Fld.MCR_RESIDUE_LO_SPAN]⟩,
  ⟨0x20008004, [(4, 0x400000)], .hi,
    [Fld.MCR_RESIDUE_HI_SPAN]⟩,
  ⟨0x20008008, [(4, 0x400000)], .single,
    [Fld.MCR_STATUS_SAFE, Fld.MCR_STATUS_BUSY, Fld.MCR_STATUS_ERR, Fld.MCR_STATUS_RESIDUE_OCC]⟩,
  ⟨0x20008010, [(4, 0x400000)], .single,
    [Fld.MCR_WR_DATA_LO_DATA]⟩,
  ⟨0x20008014, [(4, 0x400000)], .single,
    [Fld.MCR_WR_DATA_HI_DATA]⟩,
  ⟨0x20008018, [(4, 0x400000)], .single,
    [Fld.MCR_WR_CMD_OP, Fld.MCR_WR_CMD_INDEX]⟩,
  ⟨0x20008100, [(4, 0x400000)], .lo,
    [Fld.MCR_PACKETS_LO_COUNT]⟩,
  ⟨0x20008104, [(4, 0x400000)], .hi,
    [Fld.MCR_PACKETS_HI_COUNT]⟩,
  ⟨0x20008108, [(4, 0x400000)], .lo,
    [Fld.MCR_COPIES_LO_COUNT]⟩,
  ⟨0x2000810c, [(4, 0x400000)], .hi,
    [Fld.MCR_COPIES_HI_COUNT]⟩,
  ⟨0x20008110, [(4, 0x400000)], .lo,
    [Fld.MCR_RESIDUE_EXPIRED_LO_COUNT]⟩,
  ⟨0x20008114, [(4, 0x400000)], .hi,
    [Fld.MCR_RESIDUE_EXPIRED_HI_COUNT]⟩,
  ⟨0x20008118, [(4, 0x400000)], .lo,
    [Fld.MCR_RESIDUE_FULL_LO_COUNT]⟩,
  ⟨0x2000811c, [(4, 0x400000)], .hi,
    [Fld.MCR_RESIDUE_FULL_HI_COUNT]⟩,
  ⟨0x20008120, [(4, 0x400000)], .lo,
    [Fld.MCR_NO_LIST_LO_COUNT]⟩,
  ⟨0x20008124, [(4, 0x400000)], .hi,
    [Fld.MCR_NO_LIST_HI_COUNT]⟩,
  ⟨0x200081f0, [(4, 0x400000)], .single,
    [Fld.MCR_CNT_OVF_OVF]⟩]

/-! ### Block SCH (R318) -/

def Reg.SCH_CFG (q : Nat) : Nat := 0x2000c000 + 0x400000 * q
def Fld.SCH_CFG_EN : Fld := ⟨31, 31, .rw, 0⟩
def Reg.SCH_WHEEL_CFG (q : Nat) : Nat := 0x2000c004 + 0x400000 * q
def Fld.SCH_WHEEL_CFG_SLOT : Fld := ⟨5, 0, .rw, 0x26⟩
def Reg.SCH_NCMD (q : Nat) : Nat := 0x2000c010 + 0x400000 * q
def Fld.SCH_NCMD_OP : Fld := ⟨31, 30, .wo, 0⟩
def Fld.SCH_NCMD_LEVEL : Fld := ⟨18, 17, .wo, 0⟩
def Fld.SCH_NCMD_INDEX : Fld := ⟨16, 0, .wo, 0⟩
def Reg.SCH_NSTATUS (q : Nat) : Nat := 0x2000c014 + 0x400000 * q
def Fld.SCH_NSTATUS_BUSY : Fld := ⟨31, 31, .ro, 0⟩
def Fld.SCH_NSTATUS_ERR : Fld := ⟨30, 30, .w1c, 0⟩
def Reg.SCH_NDATA (q w : Nat) : Nat := 0x2000c020 + 0x400000 * q + 0x4 * w
def Fld.SCH_NDATA_DATA : Fld := ⟨31, 0, .rw, 0⟩
def Reg.SCH_SAMPLE_CFG (q : Nat) : Nat := 0x2000c040 + 0x400000 * q
def Fld.SCH_SAMPLE_CFG_EN : Fld := ⟨31, 31, .rw, 0⟩
def Fld.SCH_SAMPLE_CFG_INTERVAL : Fld := ⟨30, 25, .rw, 0x38⟩
def Fld.SCH_SAMPLE_CFG_HOST_PORT : Fld := ⟨15, 14, .rw, 0⟩
def Fld.SCH_SAMPLE_CFG_RING : Fld := ⟨13, 0, .rw, 0⟩
def Reg.SCH_SAMPLE_RANGE (q : Nat) : Nat := 0x2000c044 + 0x400000 * q
def Fld.SCH_SAMPLE_RANGE_COUNT : Fld := ⟨31, 17, .rw, 0⟩
def Fld.SCH_SAMPLE_RANGE_FIRST : Fld := ⟨16, 0, .rw, 0⟩
def Reg.SCH_PORT_CFG (q k : Nat) : Nat := 0x2000c400 + 0x400000 * q + 0x4 * k
def Fld.SCH_PORT_CFG_BYTE_EN : Fld := ⟨31, 31, .rw, 1⟩
def Fld.SCH_PORT_CFG_OVERHEAD : Fld := ⟨7, 0, .rw, 0x14⟩
def Reg.SCH_DEQ_PKTS_LO (q : Nat) : Nat := 0x2000c100 + 0x400000 * q
def Fld.SCH_DEQ_PKTS_LO_COUNT : Fld := ⟨31, 0, .ro, 0⟩
def Reg.SCH_DEQ_PKTS_HI (q : Nat) : Nat := 0x2000c104 + 0x400000 * q
def Fld.SCH_DEQ_PKTS_HI_COUNT : Fld := ⟨31, 0, .ro, 0⟩
def Reg.SCH_DRAIN_PKTS_LO (q : Nat) : Nat := 0x2000c108 + 0x400000 * q
def Fld.SCH_DRAIN_PKTS_LO_COUNT : Fld := ⟨31, 0, .ro, 0⟩
def Reg.SCH_DRAIN_PKTS_HI (q : Nat) : Nat := 0x2000c10c + 0x400000 * q
def Fld.SCH_DRAIN_PKTS_HI_COUNT : Fld := ⟨31, 0, .ro, 0⟩
def Reg.SCH_SAMPLE_DROP_LO (q : Nat) : Nat := 0x2000c110 + 0x400000 * q
def Fld.SCH_SAMPLE_DROP_LO_COUNT : Fld := ⟨31, 0, .ro, 0⟩
def Reg.SCH_SAMPLE_DROP_HI (q : Nat) : Nat := 0x2000c114 + 0x400000 * q
def Fld.SCH_SAMPLE_DROP_HI_COUNT : Fld := ⟨31, 0, .ro, 0⟩
def Reg.SCH_SAMPLE_SKIP_LO (q : Nat) : Nat := 0x2000c118 + 0x400000 * q
def Fld.SCH_SAMPLE_SKIP_LO_COUNT : Fld := ⟨31, 0, .ro, 0⟩
def Reg.SCH_SAMPLE_SKIP_HI (q : Nat) : Nat := 0x2000c11c + 0x400000 * q
def Fld.SCH_SAMPLE_SKIP_HI_COUNT : Fld := ⟨31, 0, .ro, 0⟩
def Reg.SCH_CNT_OVF (q : Nat) : Nat := 0x2000c1f0 + 0x400000 * q
def Fld.SCH_CNT_OVF_OVF : Fld := ⟨3, 0, .w1c, 0⟩
def Ctr.SCH_DEQ_PKTS (q : Nat) : Ctr := ⟨0x2000c100 + 0x400000 * q, 0x2000c1f0 + 0x400000 * q, 0⟩
def Ctr.SCH_DRAIN_PKTS (q : Nat) : Ctr := ⟨0x2000c108 + 0x400000 * q, 0x2000c1f0 + 0x400000 * q, 1⟩
def Ctr.SCH_SAMPLE_DROP (q : Nat) : Ctr := ⟨0x2000c110 + 0x400000 * q, 0x2000c1f0 + 0x400000 * q, 2⟩
def Ctr.SCH_SAMPLE_SKIP (q : Nat) : Ctr := ⟨0x2000c118 + 0x400000 * q, 0x2000c1f0 + 0x400000 * q, 3⟩

def regRowsSCH : List RegDef := [
  ⟨0x2000c000, [(4, 0x400000)], .single,
    [Fld.SCH_CFG_EN]⟩,
  ⟨0x2000c004, [(4, 0x400000)], .single,
    [Fld.SCH_WHEEL_CFG_SLOT]⟩,
  ⟨0x2000c010, [(4, 0x400000)], .single,
    [Fld.SCH_NCMD_OP, Fld.SCH_NCMD_LEVEL, Fld.SCH_NCMD_INDEX]⟩,
  ⟨0x2000c014, [(4, 0x400000)], .single,
    [Fld.SCH_NSTATUS_BUSY, Fld.SCH_NSTATUS_ERR]⟩,
  ⟨0x2000c020, [(4, 0x400000), (4, 0x4)], .single,
    [Fld.SCH_NDATA_DATA]⟩,
  ⟨0x2000c040, [(4, 0x400000)], .single,
    [Fld.SCH_SAMPLE_CFG_EN, Fld.SCH_SAMPLE_CFG_INTERVAL, Fld.SCH_SAMPLE_CFG_HOST_PORT, Fld.SCH_SAMPLE_CFG_RING]⟩,
  ⟨0x2000c044, [(4, 0x400000)], .single,
    [Fld.SCH_SAMPLE_RANGE_COUNT, Fld.SCH_SAMPLE_RANGE_FIRST]⟩,
  ⟨0x2000c400, [(4, 0x400000), (36, 0x4)], .single,
    [Fld.SCH_PORT_CFG_BYTE_EN, Fld.SCH_PORT_CFG_OVERHEAD]⟩,
  ⟨0x2000c100, [(4, 0x400000)], .lo,
    [Fld.SCH_DEQ_PKTS_LO_COUNT]⟩,
  ⟨0x2000c104, [(4, 0x400000)], .hi,
    [Fld.SCH_DEQ_PKTS_HI_COUNT]⟩,
  ⟨0x2000c108, [(4, 0x400000)], .lo,
    [Fld.SCH_DRAIN_PKTS_LO_COUNT]⟩,
  ⟨0x2000c10c, [(4, 0x400000)], .hi,
    [Fld.SCH_DRAIN_PKTS_HI_COUNT]⟩,
  ⟨0x2000c110, [(4, 0x400000)], .lo,
    [Fld.SCH_SAMPLE_DROP_LO_COUNT]⟩,
  ⟨0x2000c114, [(4, 0x400000)], .hi,
    [Fld.SCH_SAMPLE_DROP_HI_COUNT]⟩,
  ⟨0x2000c118, [(4, 0x400000)], .lo,
    [Fld.SCH_SAMPLE_SKIP_LO_COUNT]⟩,
  ⟨0x2000c11c, [(4, 0x400000)], .hi,
    [Fld.SCH_SAMPLE_SKIP_HI_COUNT]⟩,
  ⟨0x2000c1f0, [(4, 0x400000)], .single,
    [Fld.SCH_CNT_OVF_OVF]⟩]

/-! ### Block GATE (R319) -/

def Reg.GATE_CFG (i j : Nat) : Nat := 0x10019000 + 0x400000 * i + 0x400 * j
def Fld.GATE_CFG_EN : Fld := ⟨31, 31, .rw, 0⟩
def Reg.GATE_STATUS (i j : Nat) : Nat := 0x10019004 + 0x400000 * i + 0x400 * j
def Fld.GATE_STATUS_PENDING : Fld := ⟨31, 31, .ro, 0⟩
def Fld.GATE_STATUS_ERR : Fld := ⟨30, 30, .w1c, 0⟩
def Fld.GATE_STATUS_HOLD : Fld := ⟨29, 29, .ro, 0⟩
def Fld.GATE_STATUS_OPEN : Fld := ⟨23, 16, .ro, 0xff⟩
def Fld.GATE_STATUS_TX_LAT : Fld := ⟨15, 0, .ro, 0⟩
def Reg.GATE_CHANGE (i j : Nat) : Nat := 0x10019008 + 0x400000 * i + 0x400 * j
def Fld.GATE_CHANGE_GO : Fld := ⟨0, 0, .wo, 0⟩
def Reg.GATE_ADMIN_BASE_FRAC (i j : Nat) : Nat := 0x10019010 + 0x400000 * i + 0x400 * j
def Fld.GATE_ADMIN_BASE_FRAC_VAL : Fld := ⟨31, 0, .rw, 0⟩
def Reg.GATE_ADMIN_BASE_SEC_LO (i j : Nat) : Nat := 0x10019014 + 0x400000 * i + 0x400 * j
def Fld.GATE_ADMIN_BASE_SEC_LO_VAL : Fld := ⟨31, 0, .rw, 0⟩
def Reg.GATE_ADMIN_BASE_SEC_HI (i j : Nat) : Nat := 0x10019018 + 0x400000 * i + 0x400 * j
def Fld.GATE_ADMIN_BASE_SEC_HI_VAL : Fld := ⟨15, 0, .rw, 0⟩
def Reg.GATE_ADMIN_CYCLE (i j : Nat) : Nat := 0x1001901c + 0x400000 * i + 0x400 * j
def Fld.GATE_ADMIN_CYCLE_VAL : Fld := ⟨31, 0, .rw, 0⟩
def Reg.GATE_ADMIN_LEN (i j : Nat) : Nat := 0x10019020 + 0x400000 * i + 0x400 * j
def Fld.GATE_ADMIN_LEN_VAL : Fld := ⟨8, 0, .rw, 0⟩
def Reg.GATE_TOO_LONG_LO (i j : Nat) : Nat := 0x10019100 + 0x400000 * i + 0x400 * j
def Fld.GATE_TOO_LONG_LO_VAL : Fld := ⟨31, 0, .ro, 0⟩
def Reg.GATE_TOO_LONG_HI (i j : Nat) : Nat := 0x10019104 + 0x400000 * i + 0x400 * j
def Fld.GATE_TOO_LONG_HI_VAL : Fld := ⟨31, 0, .ro, 0⟩
def Reg.GATE_LIST_SWITCH_LO (i j : Nat) : Nat := 0x10019108 + 0x400000 * i + 0x400 * j
def Fld.GATE_LIST_SWITCH_LO_VAL : Fld := ⟨31, 0, .ro, 0⟩
def Reg.GATE_LIST_SWITCH_HI (i j : Nat) : Nat := 0x1001910c + 0x400000 * i + 0x400 * j
def Fld.GATE_LIST_SWITCH_HI_VAL : Fld := ⟨31, 0, .ro, 0⟩
def Reg.GATE_CNT_OVF (i j : Nat) : Nat := 0x100191f0 + 0x400000 * i + 0x400 * j
def Fld.GATE_CNT_OVF_OVF : Fld := ⟨1, 0, .w1c, 0⟩
def Ctr.GATE_TOO_LONG (i j : Nat) : Ctr := ⟨0x10019100 + 0x400000 * i + 0x400 * j, 0x100191f0 + 0x400000 * i + 0x400 * j, 0⟩
def Ctr.GATE_LIST_SWITCH (i j : Nat) : Ctr := ⟨0x10019108 + 0x400000 * i + 0x400 * j, 0x100191f0 + 0x400000 * i + 0x400 * j, 1⟩

def regRowsGATE : List RegDef := [
  ⟨0x10019000, [(16, 0x400000), (8, 0x400)], .single,
    [Fld.GATE_CFG_EN]⟩,
  ⟨0x10019004, [(16, 0x400000), (8, 0x400)], .single,
    [Fld.GATE_STATUS_PENDING, Fld.GATE_STATUS_ERR, Fld.GATE_STATUS_HOLD, Fld.GATE_STATUS_OPEN, Fld.GATE_STATUS_TX_LAT]⟩,
  ⟨0x10019008, [(16, 0x400000), (8, 0x400)], .single,
    [Fld.GATE_CHANGE_GO]⟩,
  ⟨0x10019010, [(16, 0x400000), (8, 0x400)], .single,
    [Fld.GATE_ADMIN_BASE_FRAC_VAL]⟩,
  ⟨0x10019014, [(16, 0x400000), (8, 0x400)], .lo,
    [Fld.GATE_ADMIN_BASE_SEC_LO_VAL]⟩,
  ⟨0x10019018, [(16, 0x400000), (8, 0x400)], .hi,
    [Fld.GATE_ADMIN_BASE_SEC_HI_VAL]⟩,
  ⟨0x1001901c, [(16, 0x400000), (8, 0x400)], .single,
    [Fld.GATE_ADMIN_CYCLE_VAL]⟩,
  ⟨0x10019020, [(16, 0x400000), (8, 0x400)], .single,
    [Fld.GATE_ADMIN_LEN_VAL]⟩,
  ⟨0x10019100, [(16, 0x400000), (8, 0x400)], .lo,
    [Fld.GATE_TOO_LONG_LO_VAL]⟩,
  ⟨0x10019104, [(16, 0x400000), (8, 0x400)], .hi,
    [Fld.GATE_TOO_LONG_HI_VAL]⟩,
  ⟨0x10019108, [(16, 0x400000), (8, 0x400)], .lo,
    [Fld.GATE_LIST_SWITCH_LO_VAL]⟩,
  ⟨0x1001910c, [(16, 0x400000), (8, 0x400)], .hi,
    [Fld.GATE_LIST_SWITCH_HI_VAL]⟩,
  ⟨0x100191f0, [(16, 0x400000), (8, 0x400)], .single,
    [Fld.GATE_CNT_OVF_OVF]⟩]

/-! ### Block GATEC (R319) -/

def Reg.GATE_LIST_WR_LO (i : Nat) : Nat := 0x10018000 + 0x400000 * i
def Fld.GATE_LIST_WR_LO_INTERVAL : Fld := ⟨31, 0, .rw, 0⟩
def Reg.GATE_LIST_WR_HI (i : Nat) : Nat := 0x10018004 + 0x400000 * i
def Fld.GATE_LIST_WR_HI_OP : Fld := ⟨10, 8, .rw, 0⟩
def Fld.GATE_LIST_WR_HI_GATES : Fld := ⟨7, 0, .rw, 0⟩
def Reg.GATE_LIST_CMD (i : Nat) : Nat := 0x10018008 + 0x400000 * i
def Fld.GATE_LIST_CMD_PORT : Fld := ⟨13, 11, .wo, 0⟩
def Fld.GATE_LIST_CMD_READ : Fld := ⟨10, 10, .wo, 0⟩
def Fld.GATE_LIST_CMD_ENTRY : Fld := ⟨7, 0, .wo, 0⟩
def Reg.GATE_LIST_STATUS (i : Nat) : Nat := 0x1001800c + 0x400000 * i
def Fld.GATE_LIST_STATUS_REFUSED : Fld := ⟨0, 0, .w1c, 0⟩

def regRowsGATEC : List RegDef := [
  ⟨0x10018000, [(16, 0x400000)], .lo,
    [Fld.GATE_LIST_WR_LO_INTERVAL]⟩,
  ⟨0x10018004, [(16, 0x400000)], .hi,
    [Fld.GATE_LIST_WR_HI_OP, Fld.GATE_LIST_WR_HI_GATES]⟩,
  ⟨0x10018008, [(16, 0x400000)], .single,
    [Fld.GATE_LIST_CMD_PORT, Fld.GATE_LIST_CMD_READ, Fld.GATE_LIST_CMD_ENTRY]⟩,
  ⟨0x1001800c, [(16, 0x400000)], .single,
    [Fld.GATE_LIST_STATUS_REFUSED]⟩]

end Sys2Proof.Machine
end

