-- ==== Sys2Proof/Machine/RegMapC.lean ====
section
/-! DEFINITION. The register definitions of the blocks TDC, TDCC, HBMC, HBMS, HIF, HIFP, RING, RINGS, CPX, KVCP, KVC, ICR, one address function, one set of
fields and one row each, copied from the field tables of the chapters that define them at the bases of
R537 and R538 (spec/23_register_map.md). Index-dependent resets are in RegReset.lean. -/

namespace Sys2Proof.Machine

/-! ### Block TDC (R339) -/

def Reg.TDC_CFG : Nat := 0x1fc24000
def Fld.TDC_CFG_AGE : Fld := ⟨31, 16, .rw, 0x218e⟩
def Fld.TDC_CFG_NR_K : Fld := ⟨15, 12, .rw, 9⟩
def Fld.TDC_CFG_SCRUB : Fld := ⟨11, 6, .rw, 8⟩
def Reg.TDC_CE_CFG : Nat := 0x1fc24004
def Fld.TDC_CE_CFG_THRESH : Fld := ⟨15, 0, .rw, 0x400⟩
def Reg.TDC_ERR_LOC : Nat := 0x1fc24010
def Fld.TDC_ERR_LOC_CHANNEL : Fld := ⟨31, 27, .ro, 0⟩
def Fld.TDC_ERR_LOC_RANK : Fld := ⟨26, 26, .ro, 0⟩
def Fld.TDC_ERR_LOC_BANK : Fld := ⟨25, 22, .ro, 0⟩
def Fld.TDC_ERR_LOC_WORD : Fld := ⟨19, 0, .ro, 0⟩
def Reg.TDC_ERR_INFO : Nat := 0x1fc24014
def Fld.TDC_ERR_INFO_VALID : Fld := ⟨31, 31, .w1c, 0⟩
def Fld.TDC_ERR_INFO_OVERRUN : Fld := ⟨30, 30, .w1c, 0⟩
def Fld.TDC_ERR_INFO_CLASS : Fld := ⟨29, 28, .ro, 0⟩
def Reg.TDC_SRAM_CORR_LO : Nat := 0x1fc24100
def Fld.TDC_SRAM_CORR_LO_COUNT : Fld := ⟨31, 0, .ro, 0⟩
def Reg.TDC_SRAM_CORR_HI : Nat := 0x1fc24104
def Fld.TDC_SRAM_CORR_HI_COUNT : Fld := ⟨31, 0, .ro, 0⟩
def Reg.TDC_SRAM_UNCORR_LO : Nat := 0x1fc24108
def Fld.TDC_SRAM_UNCORR_LO_COUNT : Fld := ⟨31, 0, .ro, 0⟩
def Reg.TDC_SRAM_UNCORR_HI : Nat := 0x1fc2410c
def Fld.TDC_SRAM_UNCORR_HI_COUNT : Fld := ⟨31, 0, .ro, 0⟩
def Reg.TDC_CNT_OVF : Nat := 0x1fc240f0
def Fld.TDC_CNT_OVF_OVF : Fld := ⟨1, 0, .w1c, 0⟩
def Ctr.TDC_SRAM_CORR : Ctr := ⟨0x1fc24100, 0x1fc240f0, 0⟩
def Ctr.TDC_SRAM_UNCORR : Ctr := ⟨0x1fc24108, 0x1fc240f0, 1⟩

def regRowsTDC : List RegDef := [
  ⟨0x1fc24000, [], .single,
    [Fld.TDC_CFG_AGE, Fld.TDC_CFG_NR_K, Fld.TDC_CFG_SCRUB]⟩,
  ⟨0x1fc24004, [], .single,
    [Fld.TDC_CE_CFG_THRESH]⟩,
  ⟨0x1fc24010, [], .single,
    [Fld.TDC_ERR_LOC_CHANNEL, Fld.TDC_ERR_LOC_RANK, Fld.TDC_ERR_LOC_BANK, Fld.TDC_ERR_LOC_WORD]⟩,
  ⟨0x1fc24014, [], .single,
    [Fld.TDC_ERR_INFO_VALID, Fld.TDC_ERR_INFO_OVERRUN, Fld.TDC_ERR_INFO_CLASS]⟩,
  ⟨0x1fc24100, [], .lo,
    [Fld.TDC_SRAM_CORR_LO_COUNT]⟩,
  ⟨0x1fc24104, [], .hi,
    [Fld.TDC_SRAM_CORR_HI_COUNT]⟩,
  ⟨0x1fc24108, [], .lo,
    [Fld.TDC_SRAM_UNCORR_LO_COUNT]⟩,
  ⟨0x1fc2410c, [], .hi,
    [Fld.TDC_SRAM_UNCORR_HI_COUNT]⟩,
  ⟨0x1fc240f0, [], .single,
    [Fld.TDC_CNT_OVF_OVF]⟩]

/-! ### Block TDCC (R339) -/

def Reg.TDC_CH_CFG (c : Nat) : Nat := 0x1fc25000 + 0x100 * c
def Fld.TDC_CH_CFG_EN : Fld := ⟨31, 31, .rw, 0⟩
def Fld.TDC_CH_CFG_RANKS : Fld := ⟨30, 30, .rw, 0⟩
def Fld.TDC_CH_CFG_DENSITY : Fld := ⟨29, 29, .rw, 0⟩
def Fld.TDC_CH_CFG_SPARE_REGIONS : Fld := ⟨23, 20, .rw, 1⟩
def Reg.TDC_CH_STATUS (c : Nat) : Nat := 0x1fc25004 + 0x100 * c
def Fld.TDC_CH_STATUS_UP : Fld := ⟨31, 31, .ro, 0⟩
def Fld.TDC_CH_STATUS_LINK_FAIL : Fld := ⟨30, 30, .ro, 0⟩
def Fld.TDC_CH_STATUS_RETIRED : Fld := ⟨23, 16, .ro, 0⟩
def Fld.TDC_CH_STATUS_SPARE_LEFT : Fld := ⟨15, 8, .ro, 0⟩
def Fld.TDC_CH_STATUS_REGIONS : Fld := ⟨7, 0, .ro, 0⟩
def Reg.TDC_CA_DLY (c : Nat) : Nat := 0x1fc25008 + 0x100 * c
def Fld.TDC_CA_DLY_DLY : Fld := ⟨11, 0, .rw, 0⟩
def Reg.TDC_DLY (c r l : Nat) : Nat := 0x1fc25010 + 0x100 * c + 0x10 * r + 0x4 * l
def Fld.TDC_DLY_RD_LAT : Fld := ⟨31, 28, .rw, 0⟩
def Fld.TDC_DLY_RD_DLY : Fld := ⟨27, 16, .rw, 0⟩
def Fld.TDC_DLY_WR_DLY : Fld := ⟨11, 0, .rw, 0⟩
def Reg.TDC_CORR_LO (c : Nat) : Nat := 0x1fc25040 + 0x100 * c
def Fld.TDC_CORR_LO_COUNT : Fld := ⟨31, 0, .ro, 0⟩
def Reg.TDC_CORR_HI (c : Nat) : Nat := 0x1fc25044 + 0x100 * c
def Fld.TDC_CORR_HI_COUNT : Fld := ⟨31, 0, .ro, 0⟩
def Reg.TDC_UNCORR_LO (c : Nat) : Nat := 0x1fc25048 + 0x100 * c
def Fld.TDC_UNCORR_LO_COUNT : Fld := ⟨31, 0, .ro, 0⟩
def Reg.TDC_UNCORR_HI (c : Nat) : Nat := 0x1fc2504c + 0x100 * c
def Fld.TDC_UNCORR_HI_COUNT : Fld := ⟨31, 0, .ro, 0⟩
def Reg.TDC_PROMOTED_LO (c : Nat) : Nat := 0x1fc25050 + 0x100 * c
def Fld.TDC_PROMOTED_LO_COUNT : Fld := ⟨31, 0, .ro, 0⟩
def Reg.TDC_PROMOTED_HI (c : Nat) : Nat := 0x1fc25054 + 0x100 * c
def Fld.TDC_PROMOTED_HI_COUNT : Fld := ⟨31, 0, .ro, 0⟩
def Reg.TDC_NR_REFRESH_LO (c : Nat) : Nat := 0x1fc25058 + 0x100 * c
def Fld.TDC_NR_REFRESH_LO_COUNT : Fld := ⟨31, 0, .ro, 0⟩
def Reg.TDC_NR_REFRESH_HI (c : Nat) : Nat := 0x1fc2505c + 0x100 * c
def Fld.TDC_NR_REFRESH_HI_COUNT : Fld := ⟨31, 0, .ro, 0⟩
def Reg.TDC_CH_OVF (c : Nat) : Nat := 0x1fc250f0 + 0x100 * c
def Fld.TDC_CH_OVF_OVF : Fld := ⟨3, 0, .w1c, 0⟩
def Ctr.TDC_CORR (c : Nat) : Ctr := ⟨0x1fc25040 + 0x100 * c, 0x1fc250f0 + 0x100 * c, 0⟩
def Ctr.TDC_UNCORR (c : Nat) : Ctr := ⟨0x1fc25048 + 0x100 * c, 0x1fc250f0 + 0x100 * c, 1⟩
def Ctr.TDC_PROMOTED (c : Nat) : Ctr := ⟨0x1fc25050 + 0x100 * c, 0x1fc250f0 + 0x100 * c, 2⟩
def Ctr.TDC_NR_REFRESH (c : Nat) : Ctr := ⟨0x1fc25058 + 0x100 * c, 0x1fc250f0 + 0x100 * c, 3⟩

def regRowsTDCC : List RegDef := [
  ⟨0x1fc25000, [(24, 0x100)], .single,
    [Fld.TDC_CH_CFG_EN, Fld.TDC_CH_CFG_RANKS, Fld.TDC_CH_CFG_DENSITY, Fld.TDC_CH_CFG_SPARE_REGIONS]⟩,
  ⟨0x1fc25004, [(24, 0x100)], .single,
    [Fld.TDC_CH_STATUS_UP, Fld.TDC_CH_STATUS_LINK_FAIL, Fld.TDC_CH_STATUS_RETIRED, Fld.TDC_CH_STATUS_SPARE_LEFT, Fld.TDC_CH_STATUS_REGIONS]⟩,
  ⟨0x1fc25008, [(24, 0x100)], .single,
    [Fld.TDC_CA_DLY_DLY]⟩,
  ⟨0x1fc25010, [(24, 0x100), (2, 0x10), (4, 0x4)], .single,
    [Fld.TDC_DLY_RD_LAT, Fld.TDC_DLY_RD_DLY, Fld.TDC_DLY_WR_DLY]⟩,
  ⟨0x1fc25040, [(24, 0x100)], .lo,
    [Fld.TDC_CORR_LO_COUNT]⟩,
  ⟨0x1fc25044, [(24, 0x100)], .hi,
    [Fld.TDC_CORR_HI_COUNT]⟩,
  ⟨0x1fc25048, [(24, 0x100)], .lo,
    [Fld.TDC_UNCORR_LO_COUNT]⟩,
  ⟨0x1fc2504c, [(24, 0x100)], .hi,
    [Fld.TDC_UNCORR_HI_COUNT]⟩,
  ⟨0x1fc25050, [(24, 0x100)], .lo,
    [Fld.TDC_PROMOTED_LO_COUNT]⟩,
  ⟨0x1fc25054, [(24, 0x100)], .hi,
    [Fld.TDC_PROMOTED_HI_COUNT]⟩,
  ⟨0x1fc25058, [(24, 0x100)], .lo,
    [Fld.TDC_NR_REFRESH_LO_COUNT]⟩,
  ⟨0x1fc2505c, [(24, 0x100)], .hi,
    [Fld.TDC_NR_REFRESH_HI_COUNT]⟩,
  ⟨0x1fc250f0, [(24, 0x100)], .single,
    [Fld.TDC_CH_OVF_OVF]⟩]

/-! ### Block HBMC (R339) -/

def Reg.HBMC_CFG : Nat := 0x2fc04000
def Fld.HBMC_CFG_AGE : Fld := ⟨31, 16, .rw, 0x218e⟩
def Fld.HBMC_CFG_NR_K : Fld := ⟨15, 12, .rw, 9⟩
def Fld.HBMC_CFG_SCRUB : Fld := ⟨11, 6, .rw, 8⟩
def Reg.HBMC_CE_CFG : Nat := 0x2fc04004
def Fld.HBMC_CE_CFG_THRESH : Fld := ⟨15, 0, .rw, 0x400⟩
def Reg.HBMC_ERR_LOC : Nat := 0x2fc04010
def Fld.HBMC_ERR_LOC_STACK : Fld := ⟨31, 29, .ro, 0⟩
def Fld.HBMC_ERR_LOC_PC : Fld := ⟨28, 24, .ro, 0⟩
def Fld.HBMC_ERR_LOC_BANK : Fld := ⟨23, 20, .ro, 0⟩
def Fld.HBMC_ERR_LOC_WORD : Fld := ⟨19, 0, .ro, 0⟩
def Reg.HBMC_ERR_INFO : Nat := 0x2fc04014
def Fld.HBMC_ERR_INFO_VALID : Fld := ⟨31, 31, .w1c, 0⟩
def Fld.HBMC_ERR_INFO_OVERRUN : Fld := ⟨30, 30, .w1c, 0⟩
def Fld.HBMC_ERR_INFO_CLASS : Fld := ⟨29, 28, .ro, 0⟩
def Reg.HBMC_SRAM_CORR_LO : Nat := 0x2fc04100
def Fld.HBMC_SRAM_CORR_LO_COUNT : Fld := ⟨31, 0, .ro, 0⟩
def Reg.HBMC_SRAM_CORR_HI : Nat := 0x2fc04104
def Fld.HBMC_SRAM_CORR_HI_COUNT : Fld := ⟨31, 0, .ro, 0⟩
def Reg.HBMC_SRAM_UNCORR_LO : Nat := 0x2fc04108
def Fld.HBMC_SRAM_UNCORR_LO_COUNT : Fld := ⟨31, 0, .ro, 0⟩
def Reg.HBMC_SRAM_UNCORR_HI : Nat := 0x2fc0410c
def Fld.HBMC_SRAM_UNCORR_HI_COUNT : Fld := ⟨31, 0, .ro, 0⟩
def Reg.HBMC_CNT_OVF : Nat := 0x2fc043f0
def Fld.HBMC_CNT_OVF_OVF : Fld := ⟨1, 0, .w1c, 0⟩
def Ctr.HBMC_SRAM_CORR : Ctr := ⟨0x2fc04100, 0x2fc043f0, 0⟩
def Ctr.HBMC_SRAM_UNCORR : Ctr := ⟨0x2fc04108, 0x2fc043f0, 1⟩

def regRowsHBMC : List RegDef := [
  ⟨0x2fc04000, [], .single,
    [Fld.HBMC_CFG_AGE, Fld.HBMC_CFG_NR_K, Fld.HBMC_CFG_SCRUB]⟩,
  ⟨0x2fc04004, [], .single,
    [Fld.HBMC_CE_CFG_THRESH]⟩,
  ⟨0x2fc04010, [], .single,
    [Fld.HBMC_ERR_LOC_STACK, Fld.HBMC_ERR_LOC_PC, Fld.HBMC_ERR_LOC_BANK, Fld.HBMC_ERR_LOC_WORD]⟩,
  ⟨0x2fc04014, [], .single,
    [Fld.HBMC_ERR_INFO_VALID, Fld.HBMC_ERR_INFO_OVERRUN, Fld.HBMC_ERR_INFO_CLASS]⟩,
  ⟨0x2fc04100, [], .lo,
    [Fld.HBMC_SRAM_CORR_LO_COUNT]⟩,
  ⟨0x2fc04104, [], .hi,
    [Fld.HBMC_SRAM_CORR_HI_COUNT]⟩,
  ⟨0x2fc04108, [], .lo,
    [Fld.HBMC_SRAM_UNCORR_LO_COUNT]⟩,
  ⟨0x2fc0410c, [], .hi,
    [Fld.HBMC_SRAM_UNCORR_HI_COUNT]⟩,
  ⟨0x2fc043f0, [], .single,
    [Fld.HBMC_CNT_OVF_OVF]⟩]

/-! ### Block HBMS (R339) -/

def Reg.HBMC_ST_CFG (s : Nat) : Nat := 0x2fc05000 + 0x400 * s
def Fld.HBMC_ST_CFG_EN : Fld := ⟨31, 31, .rw, 0⟩
def Reg.HBMC_ST_STATUS (s : Nat) : Nat := 0x2fc05004 + 0x400 * s
def Fld.HBMC_ST_STATUS_UP : Fld := ⟨31, 31, .ro, 0⟩
def Fld.HBMC_ST_STATUS_LINK_FAIL : Fld := ⟨30, 30, .ro, 0⟩
def Fld.HBMC_ST_STATUS_HOT : Fld := ⟨29, 29, .ro, 0⟩
def Fld.HBMC_ST_STATUS_RETIRED : Fld := ⟨23, 16, .ro, 0⟩
def Fld.HBMC_ST_STATUS_TEMP : Fld := ⟨7, 0, .ro, 0⟩
def Reg.HBMC_DLY (s p l : Nat) : Nat := 0x2fc05100 + 0x400 * s + 0x10 * p + 0x4 * l
def Fld.HBMC_DLY_VAL : Fld := ⟨31, 0, .rw, 0⟩
def Reg.HBMC_CORR_LO (s : Nat) : Nat := 0x2fc05300 + 0x400 * s
def Fld.HBMC_CORR_LO_COUNT : Fld := ⟨31, 0, .ro, 0⟩
def Reg.HBMC_CORR_HI (s : Nat) : Nat := 0x2fc05304 + 0x400 * s
def Fld.HBMC_CORR_HI_COUNT : Fld := ⟨31, 0, .ro, 0⟩
def Reg.HBMC_UNCORR_LO (s : Nat) : Nat := 0x2fc05308 + 0x400 * s
def Fld.HBMC_UNCORR_LO_COUNT : Fld := ⟨31, 0, .ro, 0⟩
def Reg.HBMC_UNCORR_HI (s : Nat) : Nat := 0x2fc0530c + 0x400 * s
def Fld.HBMC_UNCORR_HI_COUNT : Fld := ⟨31, 0, .ro, 0⟩
def Reg.HBMC_PROMOTED_LO (s : Nat) : Nat := 0x2fc05310 + 0x400 * s
def Fld.HBMC_PROMOTED_LO_COUNT : Fld := ⟨31, 0, .ro, 0⟩
def Reg.HBMC_PROMOTED_HI (s : Nat) : Nat := 0x2fc05314 + 0x400 * s
def Fld.HBMC_PROMOTED_HI_COUNT : Fld := ⟨31, 0, .ro, 0⟩
def Reg.HBMC_NR_REFRESH_LO (s : Nat) : Nat := 0x2fc05318 + 0x400 * s
def Fld.HBMC_NR_REFRESH_LO_COUNT : Fld := ⟨31, 0, .ro, 0⟩
def Reg.HBMC_NR_REFRESH_HI (s : Nat) : Nat := 0x2fc0531c + 0x400 * s
def Fld.HBMC_NR_REFRESH_HI_COUNT : Fld := ⟨31, 0, .ro, 0⟩
def Reg.HBMC_REPAIR_LO (s : Nat) : Nat := 0x2fc05320 + 0x400 * s
def Fld.HBMC_REPAIR_LO_COUNT : Fld := ⟨31, 0, .ro, 0⟩
def Reg.HBMC_REPAIR_HI (s : Nat) : Nat := 0x2fc05324 + 0x400 * s
def Fld.HBMC_REPAIR_HI_COUNT : Fld := ⟨31, 0, .ro, 0⟩
def Reg.HBMC_ST_OVF (s : Nat) : Nat := 0x2fc053f0 + 0x400 * s
def Fld.HBMC_ST_OVF_OVF : Fld := ⟨4, 0, .w1c, 0⟩
def Ctr.HBMC_CORR (s : Nat) : Ctr := ⟨0x2fc05300 + 0x400 * s, 0x2fc053f0 + 0x400 * s, 0⟩
def Ctr.HBMC_UNCORR (s : Nat) : Ctr := ⟨0x2fc05308 + 0x400 * s, 0x2fc053f0 + 0x400 * s, 1⟩
def Ctr.HBMC_PROMOTED (s : Nat) : Ctr := ⟨0x2fc05310 + 0x400 * s, 0x2fc053f0 + 0x400 * s, 2⟩
def Ctr.HBMC_NR_REFRESH (s : Nat) : Ctr := ⟨0x2fc05318 + 0x400 * s, 0x2fc053f0 + 0x400 * s, 3⟩
def Ctr.HBMC_REPAIR (s : Nat) : Ctr := ⟨0x2fc05320 + 0x400 * s, 0x2fc053f0 + 0x400 * s, 4⟩

def regRowsHBMS : List RegDef := [
  ⟨0x2fc05000, [(8, 0x400)], .single,
    [Fld.HBMC_ST_CFG_EN]⟩,
  ⟨0x2fc05004, [(8, 0x400)], .single,
    [Fld.HBMC_ST_STATUS_UP, Fld.HBMC_ST_STATUS_LINK_FAIL, Fld.HBMC_ST_STATUS_HOT, Fld.HBMC_ST_STATUS_RETIRED, Fld.HBMC_ST_STATUS_TEMP]⟩,
  ⟨0x2fc05100, [(8, 0x400), (32, 0x10), (4, 0x4)], .single,
    [Fld.HBMC_DLY_VAL]⟩,
  ⟨0x2fc05300, [(8, 0x400)], .lo,
    [Fld.HBMC_CORR_LO_COUNT]⟩,
  ⟨0x2fc05304, [(8, 0x400)], .hi,
    [Fld.HBMC_CORR_HI_COUNT]⟩,
  ⟨0x2fc05308, [(8, 0x400)], .lo,
    [Fld.HBMC_UNCORR_LO_COUNT]⟩,
  ⟨0x2fc0530c, [(8, 0x400)], .hi,
    [Fld.HBMC_UNCORR_HI_COUNT]⟩,
  ⟨0x2fc05310, [(8, 0x400)], .lo,
    [Fld.HBMC_PROMOTED_LO_COUNT]⟩,
  ⟨0x2fc05314, [(8, 0x400)], .hi,
    [Fld.HBMC_PROMOTED_HI_COUNT]⟩,
  ⟨0x2fc05318, [(8, 0x400)], .lo,
    [Fld.HBMC_NR_REFRESH_LO_COUNT]⟩,
  ⟨0x2fc0531c, [(8, 0x400)], .hi,
    [Fld.HBMC_NR_REFRESH_HI_COUNT]⟩,
  ⟨0x2fc05320, [(8, 0x400)], .lo,
    [Fld.HBMC_REPAIR_LO_COUNT]⟩,
  ⟨0x2fc05324, [(8, 0x400)], .hi,
    [Fld.HBMC_REPAIR_HI_COUNT]⟩,
  ⟨0x2fc053f0, [(8, 0x400)], .single,
    [Fld.HBMC_ST_OVF_OVF]⟩]

/-! ### Block HIF (R362) -/

def Reg.HIF_CFG : Nat := 0x1fc80000
def Fld.HIF_CFG_QUAR_SPAN : Fld := ⟨5, 0, .rw, 0x3e⟩
def Reg.HIF_IERR_STATUS : Nat := 0x1fc80010
def Fld.HIF_IERR_STATUS_SRC : Fld := ⟨8, 0, .w1c, 0⟩
def Reg.HIF_IERR_MASK : Nat := 0x1fc80014
def Fld.HIF_IERR_MASK_SRC : Fld := ⟨8, 0, .rw, 0⟩
def Reg.HIF_IERR_SEV : Nat := 0x1fc80018
def Fld.HIF_IERR_SEV_CLASS : Fld := ⟨17, 0, .rw, 0x6408⟩
def Reg.HIF_IERR_LOG0 : Nat := 0x1fc80020
def Fld.HIF_IERR_LOG0_VALID : Fld := ⟨31, 31, .ro, 0⟩
def Fld.HIF_IERR_LOG0_SOURCE : Fld := ⟨27, 24, .ro, 0⟩
def Fld.HIF_IERR_LOG0_DIE : Fld := ⟨23, 22, .ro, 0⟩
def Fld.HIF_IERR_LOG0_CLUSTER : Fld := ⟨21, 16, .ro, 0⟩
def Fld.HIF_IERR_LOG0_EVENT : Fld := ⟨15, 0, .ro, 0⟩
def Reg.HIF_IERR_LOG1 : Nat := 0x1fc80024
def Fld.HIF_IERR_LOG1_LOCATION : Fld := ⟨31, 0, .ro, 0⟩
def Reg.HIF_IERR_LOG2 : Nat := 0x1fc80028
def Fld.HIF_IERR_LOG2_SEC : Fld := ⟨31, 0, .ro, 0⟩
def Reg.HIF_IERR_LOG3 : Nat := 0x1fc8002c
def Fld.HIF_IERR_LOG3_FRAC : Fld := ⟨31, 0, .ro, 0⟩
def Reg.HIF_APT_CMD : Nat := 0x1fc80030
def Fld.HIF_APT_CMD_PORT_HI : Fld := ⟨11, 11, .wo, 0⟩
def Fld.HIF_APT_CMD_PORT_LO : Fld := ⟨10, 10, .wo, 0⟩
def Fld.HIF_APT_CMD_READ : Fld := ⟨9, 9, .wo, 0⟩
def Reg.HIF_APT_CMD_IDX : Nat := 0x1fc80034
def Fld.HIF_APT_CMD_IDX_INDEX : Fld := ⟨20, 0, .rw, 0⟩
def Reg.HIF_APT_DATA : Nat := 0x1fc80038
def Fld.HIF_APT_DATA_VALID : Fld := ⟨31, 31, .rw, 0⟩
def Fld.HIF_APT_DATA_MEM : Fld := ⟨30, 30, .rw, 0⟩
def Fld.HIF_APT_DATA_LOC : Fld := ⟨10, 0, .rw, 0⟩
def Reg.HIF_APT_STATUS : Nat := 0x1fc8003c
def Fld.HIF_APT_STATUS_ERR : Fld := ⟨31, 31, .w1c, 0⟩

def regRowsHIF : List RegDef := [
  ⟨0x1fc80000, [], .single,
    [Fld.HIF_CFG_QUAR_SPAN]⟩,
  ⟨0x1fc80010, [], .single,
    [Fld.HIF_IERR_STATUS_SRC]⟩,
  ⟨0x1fc80014, [], .single,
    [Fld.HIF_IERR_MASK_SRC]⟩,
  ⟨0x1fc80018, [], .single,
    [Fld.HIF_IERR_SEV_CLASS]⟩,
  ⟨0x1fc80020, [], .single,
    [Fld.HIF_IERR_LOG0_VALID, Fld.HIF_IERR_LOG0_SOURCE, Fld.HIF_IERR_LOG0_DIE, Fld.HIF_IERR_LOG0_CLUSTER, Fld.HIF_IERR_LOG0_EVENT]⟩,
  ⟨0x1fc80024, [], .single,
    [Fld.HIF_IERR_LOG1_LOCATION]⟩,
  ⟨0x1fc80028, [], .single,
    [Fld.HIF_IERR_LOG2_SEC]⟩,
  ⟨0x1fc8002c, [], .single,
    [Fld.HIF_IERR_LOG3_FRAC]⟩,
  ⟨0x1fc80030, [], .single,
    [Fld.HIF_APT_CMD_PORT_HI, Fld.HIF_APT_CMD_PORT_LO, Fld.HIF_APT_CMD_READ]⟩,
  ⟨0x1fc80034, [], .single,
    [Fld.HIF_APT_CMD_IDX_INDEX]⟩,
  ⟨0x1fc80038, [], .single,
    [Fld.HIF_APT_DATA_VALID, Fld.HIF_APT_DATA_MEM, Fld.HIF_APT_DATA_LOC]⟩,
  ⟨0x1fc8003c, [], .single,
    [Fld.HIF_APT_STATUS_ERR]⟩]

/-! ### Block HIFP (R362) -/

def Reg.HIF_PORT_CFG (h : Nat) : Nat := 0x1fc90000 + 0x10000 * h
def Fld.HIF_PORT_CFG_EN : Fld := ⟨31, 31, .rw, 0⟩
def Fld.HIF_PORT_CFG_VF_VECTORS : Fld := ⟨10, 0, .rw, 7⟩
def Reg.HIF_PORT_STATUS (h : Nat) : Nat := 0x1fc90004 + 0x10000 * h
def Fld.HIF_PORT_STATUS_LINK_UP : Fld := ⟨31, 31, .ro, 0⟩
def Fld.HIF_PORT_STATUS_FLIT : Fld := ⟨30, 30, .ro, 0⟩
def Fld.HIF_PORT_STATUS_SPEED : Fld := ⟨29, 26, .ro, 0⟩
def Fld.HIF_PORT_STATUS_WIDTH : Fld := ⟨25, 21, .ro, 0⟩
def Fld.HIF_PORT_STATUS_TOTAL_VFS : Fld := ⟨20, 13, .ro, 0xff⟩
def Fld.HIF_PORT_STATUS_TAGS_QUAR : Fld := ⟨12, 0, .ro, 0⟩
def Reg.HIF_APT_FUNC (h v : Nat) : Nat := 0x1fc90400 + 0x10000 * h + 0x4 * v
def Fld.HIF_APT_FUNC_BASE : Fld := ⟨26, 16, .rw, 0⟩
def Fld.HIF_APT_FUNC_COUNT : Fld := ⟨11, 0, .rw, 0⟩
def Reg.HIF_FUNC_CFG (h v : Nat) : Nat := 0x1fc90800 + 0x10000 * h + 0x4 * v
def Fld.HIF_FUNC_CFG_CYC_READ : Fld := ⟨1, 1, .rw, 0⟩
def Fld.HIF_FUNC_CFG_PMC_READ : Fld := ⟨0, 0, .rw, 0⟩
def Reg.HIF_FUNC_STATUS (h v : Nat) : Nat := 0x1fc90c00 + 0x10000 * h + 0x4 * v
def Fld.HIF_FUNC_STATUS_FLR_BUSY : Fld := ⟨2, 2, .ro, 0⟩
def Fld.HIF_FUNC_STATUS_QUIESCED : Fld := ⟨1, 1, .ro, 0⟩
def Fld.HIF_FUNC_STATUS_BME : Fld := ⟨0, 0, .ro, 0⟩
def Reg.HIF_LATE_CPL_LO (h : Nat) : Nat := 0x1fc90100 + 0x10000 * h
def Fld.HIF_LATE_CPL_LO_COUNT : Fld := ⟨31, 0, .ro, 0⟩
def Reg.HIF_LATE_CPL_HI (h : Nat) : Nat := 0x1fc90104 + 0x10000 * h
def Fld.HIF_LATE_CPL_HI_COUNT : Fld := ⟨31, 0, .ro, 0⟩
def Reg.HIF_CPL_TIMEOUT_LO (h : Nat) : Nat := 0x1fc90108 + 0x10000 * h
def Fld.HIF_CPL_TIMEOUT_LO_COUNT : Fld := ⟨31, 0, .ro, 0⟩
def Reg.HIF_CPL_TIMEOUT_HI (h : Nat) : Nat := 0x1fc9010c + 0x10000 * h
def Fld.HIF_CPL_TIMEOUT_HI_COUNT : Fld := ⟨31, 0, .ro, 0⟩
def Reg.HIF_VIEW_REFUSED_LO (h : Nat) : Nat := 0x1fc90110 + 0x10000 * h
def Fld.HIF_VIEW_REFUSED_LO_COUNT : Fld := ⟨31, 0, .ro, 0⟩
def Reg.HIF_VIEW_REFUSED_HI (h : Nat) : Nat := 0x1fc90114 + 0x10000 * h
def Fld.HIF_VIEW_REFUSED_HI_COUNT : Fld := ⟨31, 0, .ro, 0⟩
def Reg.HIF_APT_OUTSIDE_LO (h : Nat) : Nat := 0x1fc90118 + 0x10000 * h
def Fld.HIF_APT_OUTSIDE_LO_COUNT : Fld := ⟨31, 0, .ro, 0⟩
def Reg.HIF_APT_OUTSIDE_HI (h : Nat) : Nat := 0x1fc9011c + 0x10000 * h
def Fld.HIF_APT_OUTSIDE_HI_COUNT : Fld := ⟨31, 0, .ro, 0⟩
def Reg.HIF_DB_MALFORMED_LO (h : Nat) : Nat := 0x1fc90120 + 0x10000 * h
def Fld.HIF_DB_MALFORMED_LO_COUNT : Fld := ⟨31, 0, .ro, 0⟩
def Reg.HIF_DB_MALFORMED_HI (h : Nat) : Nat := 0x1fc90124 + 0x10000 * h
def Fld.HIF_DB_MALFORMED_HI_COUNT : Fld := ⟨31, 0, .ro, 0⟩
def Reg.HIF_CNT_OVF (h : Nat) : Nat := 0x1fc901f0 + 0x10000 * h
def Fld.HIF_CNT_OVF_OVF : Fld := ⟨4, 0, .w1c, 0⟩
def Ctr.HIF_LATE_CPL (h : Nat) : Ctr := ⟨0x1fc90100 + 0x10000 * h, 0x1fc901f0 + 0x10000 * h, 0⟩
def Ctr.HIF_CPL_TIMEOUT (h : Nat) : Ctr := ⟨0x1fc90108 + 0x10000 * h, 0x1fc901f0 + 0x10000 * h, 1⟩
def Ctr.HIF_VIEW_REFUSED (h : Nat) : Ctr := ⟨0x1fc90110 + 0x10000 * h, 0x1fc901f0 + 0x10000 * h, 2⟩
def Ctr.HIF_APT_OUTSIDE (h : Nat) : Ctr := ⟨0x1fc90118 + 0x10000 * h, 0x1fc901f0 + 0x10000 * h, 3⟩
def Ctr.HIF_DB_MALFORMED (h : Nat) : Ctr := ⟨0x1fc90120 + 0x10000 * h, 0x1fc901f0 + 0x10000 * h, 4⟩

def regRowsHIFP : List RegDef := [
  ⟨0x1fc90000, [(4, 0x10000)], .single,
    [Fld.HIF_PORT_CFG_EN, Fld.HIF_PORT_CFG_VF_VECTORS]⟩,
  ⟨0x1fc90004, [(4, 0x10000)], .single,
    [Fld.HIF_PORT_STATUS_LINK_UP, Fld.HIF_PORT_STATUS_FLIT, Fld.HIF_PORT_STATUS_SPEED, Fld.HIF_PORT_STATUS_WIDTH, Fld.HIF_PORT_STATUS_TOTAL_VFS, Fld.HIF_PORT_STATUS_TAGS_QUAR]⟩,
  ⟨0x1fc90400, [(4, 0x10000), (256, 0x4)], .single,
    [Fld.HIF_APT_FUNC_BASE, Fld.HIF_APT_FUNC_COUNT]⟩,
  ⟨0x1fc90800, [(4, 0x10000), (256, 0x4)], .single,
    [Fld.HIF_FUNC_CFG_CYC_READ, Fld.HIF_FUNC_CFG_PMC_READ]⟩,
  ⟨0x1fc90c00, [(4, 0x10000), (256, 0x4)], .single,
    [Fld.HIF_FUNC_STATUS_FLR_BUSY, Fld.HIF_FUNC_STATUS_QUIESCED, Fld.HIF_FUNC_STATUS_BME]⟩,
  ⟨0x1fc90100, [(4, 0x10000)], .lo,
    [Fld.HIF_LATE_CPL_LO_COUNT]⟩,
  ⟨0x1fc90104, [(4, 0x10000)], .hi,
    [Fld.HIF_LATE_CPL_HI_COUNT]⟩,
  ⟨0x1fc90108, [(4, 0x10000)], .lo,
    [Fld.HIF_CPL_TIMEOUT_LO_COUNT]⟩,
  ⟨0x1fc9010c, [(4, 0x10000)], .hi,
    [Fld.HIF_CPL_TIMEOUT_HI_COUNT]⟩,
  ⟨0x1fc90110, [(4, 0x10000)], .lo,
    [Fld.HIF_VIEW_REFUSED_LO_COUNT]⟩,
  ⟨0x1fc90114, [(4, 0x10000)], .hi,
    [Fld.HIF_VIEW_REFUSED_HI_COUNT]⟩,
  ⟨0x1fc90118, [(4, 0x10000)], .lo,
    [Fld.HIF_APT_OUTSIDE_LO_COUNT]⟩,
  ⟨0x1fc9011c, [(4, 0x10000)], .hi,
    [Fld.HIF_APT_OUTSIDE_HI_COUNT]⟩,
  ⟨0x1fc90120, [(4, 0x10000)], .lo,
    [Fld.HIF_DB_MALFORMED_LO_COUNT]⟩,
  ⟨0x1fc90124, [(4, 0x10000)], .hi,
    [Fld.HIF_DB_MALFORMED_HI_COUNT]⟩,
  ⟨0x1fc901f0, [(4, 0x10000)], .single,
    [Fld.HIF_CNT_OVF_OVF]⟩]

/-! ### Block RING (R386) -/

def Reg.RING_WAIT : Nat := 0x1fc48000
def Fld.RING_WAIT_SPAN : Fld := ⟨31, 0, .rw, 0x346dd⟩
def Reg.RING_HDB_LO : Nat := 0x1fc48010
def Fld.RING_HDB_LO_DB : Fld := ⟨31, 0, .wo, 0⟩
def Reg.RING_HDB_HI : Nat := 0x1fc48014
def Fld.RING_HDB_HI_DB : Fld := ⟨31, 0, .wo, 0⟩
def Reg.RING_RX_NODESC_DROP_LO (h : Nat) : Nat := 0x1fc48200 + 0x40 * h
def Fld.RING_RX_NODESC_DROP_LO_COUNT : Fld := ⟨31, 0, .ro, 0⟩
def Reg.RING_RX_NODESC_DROP_HI (h : Nat) : Nat := 0x1fc48204 + 0x40 * h
def Fld.RING_RX_NODESC_DROP_HI_COUNT : Fld := ⟨31, 0, .ro, 0⟩
def Reg.RING_RX_NORING_LO (h : Nat) : Nat := 0x1fc48208 + 0x40 * h
def Fld.RING_RX_NORING_LO_COUNT : Fld := ⟨31, 0, .ro, 0⟩
def Reg.RING_RX_NORING_HI (h : Nat) : Nat := 0x1fc4820c + 0x40 * h
def Fld.RING_RX_NORING_HI_COUNT : Fld := ⟨31, 0, .ro, 0⟩
def Reg.RING_TRUNC_LO (h : Nat) : Nat := 0x1fc48210 + 0x40 * h
def Fld.RING_TRUNC_LO_COUNT : Fld := ⟨31, 0, .ro, 0⟩
def Reg.RING_TRUNC_HI (h : Nat) : Nat := 0x1fc48214 + 0x40 * h
def Fld.RING_TRUNC_HI_COUNT : Fld := ⟨31, 0, .ro, 0⟩
def Reg.RING_PUNT_BUSY_LO (h : Nat) : Nat := 0x1fc48218 + 0x40 * h
def Fld.RING_PUNT_BUSY_LO_COUNT : Fld := ⟨31, 0, .ro, 0⟩
def Reg.RING_PUNT_BUSY_HI (h : Nat) : Nat := 0x1fc4821c + 0x40 * h
def Fld.RING_PUNT_BUSY_HI_COUNT : Fld := ⟨31, 0, .ro, 0⟩
def Reg.RING_DB_REFUSED_LO (h : Nat) : Nat := 0x1fc48220 + 0x40 * h
def Fld.RING_DB_REFUSED_LO_COUNT : Fld := ⟨31, 0, .ro, 0⟩
def Reg.RING_DB_REFUSED_HI (h : Nat) : Nat := 0x1fc48224 + 0x40 * h
def Fld.RING_DB_REFUSED_HI_COUNT : Fld := ⟨31, 0, .ro, 0⟩
def Reg.RING_DB_RANGE_LO (h : Nat) : Nat := 0x1fc48228 + 0x40 * h
def Fld.RING_DB_RANGE_LO_COUNT : Fld := ⟨31, 0, .ro, 0⟩
def Reg.RING_DB_RANGE_HI (h : Nat) : Nat := 0x1fc4822c + 0x40 * h
def Fld.RING_DB_RANGE_HI_COUNT : Fld := ⟨31, 0, .ro, 0⟩
def Reg.RING_EVT_DROP_LO (h : Nat) : Nat := 0x1fc48230 + 0x40 * h
def Fld.RING_EVT_DROP_LO_COUNT : Fld := ⟨31, 0, .ro, 0⟩
def Reg.RING_EVT_DROP_HI (h : Nat) : Nat := 0x1fc48234 + 0x40 * h
def Fld.RING_EVT_DROP_HI_COUNT : Fld := ⟨31, 0, .ro, 0⟩
def Reg.RING_CNT_OVF : Nat := 0x1fc481f0
def Fld.RING_CNT_OVF_OVF : Fld := ⟨30, 0, .w1c, 0⟩
def Ctr.RING_RX_NODESC_DROP (h : Nat) : Ctr := ⟨0x1fc48200 + 0x40 * h, 0x1fc481f0, 8 * h + 0⟩
def Ctr.RING_RX_NORING (h : Nat) : Ctr := ⟨0x1fc48208 + 0x40 * h, 0x1fc481f0, 8 * h + 1⟩
def Ctr.RING_TRUNC (h : Nat) : Ctr := ⟨0x1fc48210 + 0x40 * h, 0x1fc481f0, 8 * h + 2⟩
def Ctr.RING_PUNT_BUSY (h : Nat) : Ctr := ⟨0x1fc48218 + 0x40 * h, 0x1fc481f0, 8 * h + 3⟩
def Ctr.RING_DB_REFUSED (h : Nat) : Ctr := ⟨0x1fc48220 + 0x40 * h, 0x1fc481f0, 8 * h + 4⟩
def Ctr.RING_DB_RANGE (h : Nat) : Ctr := ⟨0x1fc48228 + 0x40 * h, 0x1fc481f0, 8 * h + 5⟩
def Ctr.RING_EVT_DROP (h : Nat) : Ctr := ⟨0x1fc48230 + 0x40 * h, 0x1fc481f0, 8 * h + 6⟩

def regRowsRING : List RegDef := [
  ⟨0x1fc48000, [], .single,
    [Fld.RING_WAIT_SPAN]⟩,
  ⟨0x1fc48010, [], .lo,
    [Fld.RING_HDB_LO_DB]⟩,
  ⟨0x1fc48014, [], .hi,
    [Fld.RING_HDB_HI_DB]⟩,
  ⟨0x1fc48200, [(4, 0x40)], .lo,
    [Fld.RING_RX_NODESC_DROP_LO_COUNT]⟩,
  ⟨0x1fc48204, [(4, 0x40)], .hi,
    [Fld.RING_RX_NODESC_DROP_HI_COUNT]⟩,
  ⟨0x1fc48208, [(4, 0x40)], .lo,
    [Fld.RING_RX_NORING_LO_COUNT]⟩,
  ⟨0x1fc4820c, [(4, 0x40)], .hi,
    [Fld.RING_RX_NORING_HI_COUNT]⟩,
  ⟨0x1fc48210, [(4, 0x40)], .lo,
    [Fld.RING_TRUNC_LO_COUNT]⟩,
  ⟨0x1fc48214, [(4, 0x40)], .hi,
    [Fld.RING_TRUNC_HI_COUNT]⟩,
  ⟨0x1fc48218, [(4, 0x40)], .lo,
    [Fld.RING_PUNT_BUSY_LO_COUNT]⟩,
  ⟨0x1fc4821c, [(4, 0x40)], .hi,
    [Fld.RING_PUNT_BUSY_HI_COUNT]⟩,
  ⟨0x1fc48220, [(4, 0x40)], .lo,
    [Fld.RING_DB_REFUSED_LO_COUNT]⟩,
  ⟨0x1fc48224, [(4, 0x40)], .hi,
    [Fld.RING_DB_REFUSED_HI_COUNT]⟩,
  ⟨0x1fc48228, [(4, 0x40)], .lo,
    [Fld.RING_DB_RANGE_LO_COUNT]⟩,
  ⟨0x1fc4822c, [(4, 0x40)], .hi,
    [Fld.RING_DB_RANGE_HI_COUNT]⟩,
  ⟨0x1fc48230, [(4, 0x40)], .lo,
    [Fld.RING_EVT_DROP_LO_COUNT]⟩,
  ⟨0x1fc48234, [(4, 0x40)], .hi,
    [Fld.RING_EVT_DROP_HI_COUNT]⟩,
  ⟨0x1fc481f0, [], .single,
    [Fld.RING_CNT_OVF_OVF]⟩]

/-! ### Block RINGS (R386) -/

def Reg.RING_CFG (g : Nat) : Nat := 0x1fd00000 + 0x20 * g
def Fld.RING_CFG_KIND : Fld := ⟨31, 29, .rw, 0⟩
def Fld.RING_CFG_LOG2SIZE : Fld := ⟨28, 24, .rw, 0⟩
def Fld.RING_CFG_INTR_EN : Fld := ⟨23, 23, .rw, 0⟩
def Fld.RING_CFG_VECTOR : Fld := ⟨21, 11, .rw, 0⟩
def Reg.RING_OWNER (g : Nat) : Nat := 0x1fd00004 + 0x20 * g
def Fld.RING_OWNER_HART : Fld := ⟨31, 31, .rw, 0⟩
def Fld.RING_OWNER_ID : Fld := ⟨9, 0, .rw, 0⟩
def Reg.RING_DESC_BASE_LO (g : Nat) : Nat := 0x1fd00008 + 0x20 * g
def Fld.RING_DESC_BASE_LO_ADDR : Fld := ⟨31, 0, .rw, 0⟩
def Reg.RING_DESC_BASE_HI (g : Nat) : Nat := 0x1fd0000c + 0x20 * g
def Fld.RING_DESC_BASE_HI_ADDR : Fld := ⟨31, 0, .rw, 0⟩
def Reg.RING_CPL_BASE_LO (g : Nat) : Nat := 0x1fd00010 + 0x20 * g
def Fld.RING_CPL_BASE_LO_ADDR : Fld := ⟨31, 0, .rw, 0⟩
def Reg.RING_CPL_BASE_HI (g : Nat) : Nat := 0x1fd00014 + 0x20 * g
def Fld.RING_CPL_BASE_HI_ADDR : Fld := ⟨31, 0, .rw, 0⟩
def Reg.RING_CTRL (g : Nat) : Nat := 0x1fd00018 + 0x20 * g
def Fld.RING_CTRL_CMD : Fld := ⟨31, 30, .wo, 0⟩
def Fld.RING_CTRL_STATE : Fld := ⟨29, 27, .ro, 0⟩
def Fld.RING_CTRL_REFUSED : Fld := ⟨26, 26, .w1c, 0⟩
def Fld.RING_CTRL_CPL_PROD : Fld := ⟨16, 0, .ro, 0⟩
def Reg.RING_IDX (g : Nat) : Nat := 0x1fd0001c + 0x20 * g
def Fld.RING_IDX_DESC_CONS : Fld := ⟨16, 0, .ro, 0⟩

def regRowsRINGS : List RegDef := [
  ⟨0x1fd00000, [(65536, 0x20)], .single,
    [Fld.RING_CFG_KIND, Fld.RING_CFG_LOG2SIZE, Fld.RING_CFG_INTR_EN, Fld.RING_CFG_VECTOR]⟩,
  ⟨0x1fd00004, [(65536, 0x20)], .single,
    [Fld.RING_OWNER_HART, Fld.RING_OWNER_ID]⟩,
  ⟨0x1fd00008, [(65536, 0x20)], .lo,
    [Fld.RING_DESC_BASE_LO_ADDR]⟩,
  ⟨0x1fd0000c, [(65536, 0x20)], .hi,
    [Fld.RING_DESC_BASE_HI_ADDR]⟩,
  ⟨0x1fd00010, [(65536, 0x20)], .lo,
    [Fld.RING_CPL_BASE_LO_ADDR]⟩,
  ⟨0x1fd00014, [(65536, 0x20)], .hi,
    [Fld.RING_CPL_BASE_HI_ADDR]⟩,
  ⟨0x1fd00018, [(65536, 0x20)], .single,
    [Fld.RING_CTRL_CMD, Fld.RING_CTRL_STATE, Fld.RING_CTRL_REFUSED, Fld.RING_CTRL_CPL_PROD]⟩,
  ⟨0x1fd0001c, [(65536, 0x20)], .single,
    [Fld.RING_IDX_DESC_CONS]⟩]

/-! ### Block CPX (R418) -/

def Reg.CPX_HART_DOM (h : Nat) : Nat := 0x1fc28000 + 0x4 * h
def Fld.CPX_HART_DOM_DOMAIN : Fld := ⟨5, 0, .rw, 0⟩
def Reg.CPX_HART_CTRL (h : Nat) : Nat := 0x1fc28200 + 0x4 * h
def Fld.CPX_HART_CTRL_RESET : Fld := ⟨1, 1, .w1s, 0⟩
def Fld.CPX_HART_CTRL_RUN : Fld := ⟨0, 0, .rw, 0⟩
def Reg.CPX_CAP (n : Nat) : Nat := 0x1fc28400 + 0x4 * n
def Fld.CPX_CAP_POWERED : Fld := ⟨8, 8, .ro, 1⟩
def Fld.CPX_CAP_SPARES : Fld := ⟨7, 4, .ro, 2⟩
def Fld.CPX_CAP_HARTS : Fld := ⟨3, 0, .ro, 8⟩
def Reg.CPX_DOM_VEC_LO (d : Nat) : Nat := 0x1fc28800 + 0x10 * d
def Fld.CPX_DOM_VEC_LO_ADDR : Fld := ⟨31, 0, .rw, 0⟩
def Reg.CPX_DOM_VEC_HI (d : Nat) : Nat := 0x1fc28804 + 0x10 * d
def Fld.CPX_DOM_VEC_HI_ADDR : Fld := ⟨5, 0, .rw, 0⟩
def Reg.CPX_DOM_CFG (d : Nat) : Nat := 0x1fc28808 + 0x10 * d
def Fld.CPX_DOM_CFG_EQX_U : Fld := ⟨0, 0, .rw, 1⟩
def Reg.CPX_DOM_WIN_LO (d w : Nat) : Nat := 0x1fc29000 + 0x40 * d + 0x8 * w
def Fld.CPX_DOM_WIN_LO_VALID : Fld := ⟨31, 31, .rw, 0⟩
def Fld.CPX_DOM_WIN_LO_W : Fld := ⟨30, 30, .rw, 0⟩
def Fld.CPX_DOM_WIN_LO_X : Fld := ⟨29, 29, .rw, 0⟩
def Fld.CPX_DOM_WIN_LO_BASE : Fld := ⟨17, 0, .rw, 0⟩
def Reg.CPX_DOM_WIN_HI (d w : Nat) : Nat := 0x1fc29004 + 0x40 * d + 0x8 * w
def Fld.CPX_DOM_WIN_HI_SIZE : Fld := ⟨17, 0, .rw, 0⟩

def regRowsCPX : List RegDef := [
  ⟨0x1fc28000, [(128, 0x4)], .single,
    [Fld.CPX_HART_DOM_DOMAIN]⟩,
  ⟨0x1fc28200, [(128, 0x4)], .single,
    [Fld.CPX_HART_CTRL_RESET, Fld.CPX_HART_CTRL_RUN]⟩,
  ⟨0x1fc28400, [(16, 0x4)], .single,
    [Fld.CPX_CAP_POWERED, Fld.CPX_CAP_SPARES, Fld.CPX_CAP_HARTS]⟩,
  ⟨0x1fc28800, [(64, 0x10)], .lo,
    [Fld.CPX_DOM_VEC_LO_ADDR]⟩,
  ⟨0x1fc28804, [(64, 0x10)], .hi,
    [Fld.CPX_DOM_VEC_HI_ADDR]⟩,
  ⟨0x1fc28808, [(64, 0x10)], .single,
    [Fld.CPX_DOM_CFG_EQX_U]⟩,
  ⟨0x1fc29000, [(64, 0x40), (8, 0x8)], .lo,
    [Fld.CPX_DOM_WIN_LO_VALID, Fld.CPX_DOM_WIN_LO_W, Fld.CPX_DOM_WIN_LO_X, Fld.CPX_DOM_WIN_LO_BASE]⟩,
  ⟨0x1fc29004, [(64, 0x40), (8, 0x8)], .hi,
    [Fld.CPX_DOM_WIN_HI_SIZE]⟩]

/-! ### Block KVCP (R419) -/

def Reg.KVC_CMD (p : Nat) : Nat := 0x40000000 + 0x4000 * p
def Fld.KVC_CMD_OP : Fld := ⟨31, 28, .wo, 0⟩
def Fld.KVC_CMD_SLOT : Fld := ⟨7, 0, .wo, 0⟩
def Reg.KVC_ARG (p : Nat) : Nat := 0x40000004 + 0x4000 * p
def Fld.KVC_ARG_DIR : Fld := ⟨31, 31, .rw, 0⟩
def Fld.KVC_ARG_KLEN : Fld := ⟨16, 16, .rw, 0⟩
def Fld.KVC_ARG_INDEX : Fld := ⟨15, 0, .rw, 0⟩
def Reg.KVC_STATUS (p : Nat) : Nat := 0x40000008 + 0x4000 * p
def Fld.KVC_STATUS_BUSY : Fld := ⟨31, 31, .ro, 0⟩
def Fld.KVC_STATUS_REFUSED : Fld := ⟨30, 30, .w1c, 0⟩
def Fld.KVC_STATUS_CODE : Fld := ⟨23, 16, .ro, 0⟩
def Fld.KVC_STATUS_GEN : Fld := ⟨15, 0, .ro, 0⟩
def Reg.KVC_DIN (p i : Nat) : Nat := 0x40000010 + 0x4000 * p + 0x4 * i
def Fld.KVC_DIN_VAL : Fld := ⟨31, 0, .wo, 0⟩
def Reg.KVC_KCV (p i : Nat) : Nat := 0x40000030 + 0x4000 * p + 0x4 * i
def Fld.KVC_KCV_VAL : Fld := ⟨31, 0, .wo, 0⟩
def Reg.KVC_DOUT (p i : Nat) : Nat := 0x40000040 + 0x4000 * p + 0x4 * i
def Fld.KVC_DOUT_VAL : Fld := ⟨31, 0, .ro, 0⟩

def regRowsKVCP : List RegDef := [
  ⟨0x40000000, [(64, 0x4000)], .single,
    [Fld.KVC_CMD_OP, Fld.KVC_CMD_SLOT]⟩,
  ⟨0x40000004, [(64, 0x4000)], .single,
    [Fld.KVC_ARG_DIR, Fld.KVC_ARG_KLEN, Fld.KVC_ARG_INDEX]⟩,
  ⟨0x40000008, [(64, 0x4000)], .single,
    [Fld.KVC_STATUS_BUSY, Fld.KVC_STATUS_REFUSED, Fld.KVC_STATUS_CODE, Fld.KVC_STATUS_GEN]⟩,
  ⟨0x40000010, [(64, 0x4000), (8, 0x4)], .single,
    [Fld.KVC_DIN_VAL]⟩,
  ⟨0x40000030, [(64, 0x4000), (2, 0x4)], .single,
    [Fld.KVC_KCV_VAL]⟩,
  ⟨0x40000040, [(64, 0x4000), (4, 0x4)], .single,
    [Fld.KVC_DOUT_VAL]⟩]

/-! ### Block KVC (R419) -/

def Reg.KVC_PAGE_BIND (p : Nat) : Nat := 0x40100000 + 0x4 * p
def Fld.KVC_PAGE_BIND_VALID : Fld := ⟨31, 31, .rw, 0⟩
def Fld.KVC_PAGE_BIND_HART : Fld := ⟨30, 30, .rw, 0⟩
def Fld.KVC_PAGE_BIND_CYC : Fld := ⟨29, 29, .ro, 0⟩
def Fld.KVC_PAGE_BIND_ID : Fld := ⟨9, 0, .rw, 0⟩
def Reg.KVC_SLOT_CFG (s : Nat) : Nat := 0x40100400 + 0x4 * s
def Fld.KVC_SLOT_CFG_DATA : Fld := ⟨31, 31, .rw, 0⟩
def Fld.KVC_SLOT_CFG_KEK : Fld := ⟨30, 30, .rw, 0⟩
def Fld.KVC_SLOT_CFG_ICR : Fld := ⟨29, 29, .rw, 0⟩
def Fld.KVC_SLOT_CFG_USER : Fld := ⟨13, 8, .rw, 0⟩
def Fld.KVC_SLOT_CFG_OWNER : Fld := ⟨5, 0, .rw, 0⟩
def Reg.KVC_SLOT_STATUS (s : Nat) : Nat := 0x40100800 + 0x4 * s
def Fld.KVC_SLOT_STATUS_LOADED : Fld := ⟨31, 31, .ro, 0⟩
def Fld.KVC_SLOT_STATUS_KLEN : Fld := ⟨16, 16, .ro, 0⟩
def Fld.KVC_SLOT_STATUS_GEN : Fld := ⟨15, 0, .ro, 0⟩
def Reg.KVC_CFG : Nat := 0x40100c00
def Fld.KVC_CFG_ENTROPY_OK : Fld := ⟨31, 31, .ro, 1⟩
def Fld.KVC_CFG_MODE : Fld := ⟨30, 30, .ro, 1⟩
def Reg.KVC_OPS_LO : Nat := 0x40100100
def Fld.KVC_OPS_LO_COUNT : Fld := ⟨31, 0, .ro, 0⟩
def Reg.KVC_OPS_HI : Nat := 0x40100104
def Fld.KVC_OPS_HI_COUNT : Fld := ⟨31, 0, .ro, 0⟩
def Reg.KVC_FAULT_LO : Nat := 0x40100108
def Fld.KVC_FAULT_LO_COUNT : Fld := ⟨31, 0, .ro, 0⟩
def Reg.KVC_FAULT_HI : Nat := 0x4010010c
def Fld.KVC_FAULT_HI_COUNT : Fld := ⟨31, 0, .ro, 0⟩
def Reg.KVC_UNWRAP_FAIL_LO : Nat := 0x40100110
def Fld.KVC_UNWRAP_FAIL_LO_COUNT : Fld := ⟨31, 0, .ro, 0⟩
def Reg.KVC_UNWRAP_FAIL_HI : Nat := 0x40100114
def Fld.KVC_UNWRAP_FAIL_HI_COUNT : Fld := ⟨31, 0, .ro, 0⟩
def Reg.KVC_CNT_OVF : Nat := 0x401001f0
def Fld.KVC_CNT_OVF_OVF : Fld := ⟨2, 0, .w1c, 0⟩
def Ctr.KVC_OPS : Ctr := ⟨0x40100100, 0x401001f0, 0⟩
def Ctr.KVC_FAULT : Ctr := ⟨0x40100108, 0x401001f0, 1⟩
def Ctr.KVC_UNWRAP_FAIL : Ctr := ⟨0x40100110, 0x401001f0, 2⟩

def regRowsKVC : List RegDef := [
  ⟨0x40100000, [(64, 0x4)], .single,
    [Fld.KVC_PAGE_BIND_VALID, Fld.KVC_PAGE_BIND_HART, Fld.KVC_PAGE_BIND_CYC, Fld.KVC_PAGE_BIND_ID]⟩,
  ⟨0x40100400, [(256, 0x4)], .single,
    [Fld.KVC_SLOT_CFG_DATA, Fld.KVC_SLOT_CFG_KEK, Fld.KVC_SLOT_CFG_ICR, Fld.KVC_SLOT_CFG_USER, Fld.KVC_SLOT_CFG_OWNER]⟩,
  ⟨0x40100800, [(256, 0x4)], .single,
    [Fld.KVC_SLOT_STATUS_LOADED, Fld.KVC_SLOT_STATUS_KLEN, Fld.KVC_SLOT_STATUS_GEN]⟩,
  ⟨0x40100c00, [], .single,
    [Fld.KVC_CFG_ENTROPY_OK, Fld.KVC_CFG_MODE]⟩,
  ⟨0x40100100, [], .lo,
    [Fld.KVC_OPS_LO_COUNT]⟩,
  ⟨0x40100104, [], .hi,
    [Fld.KVC_OPS_HI_COUNT]⟩,
  ⟨0x40100108, [], .lo,
    [Fld.KVC_FAULT_LO_COUNT]⟩,
  ⟨0x4010010c, [], .hi,
    [Fld.KVC_FAULT_HI_COUNT]⟩,
  ⟨0x40100110, [], .lo,
    [Fld.KVC_UNWRAP_FAIL_LO_COUNT]⟩,
  ⟨0x40100114, [], .hi,
    [Fld.KVC_UNWRAP_FAIL_HI_COUNT]⟩,
  ⟨0x401001f0, [], .single,
    [Fld.KVC_CNT_OVF_OVF]⟩]

/-! ### Block ICR (R420) -/

def Reg.ICR_CMD : Nat := 0x1fc2c000
def Fld.ICR_CMD_WRITE : Fld := ⟨31, 31, .wo, 0⟩
def Fld.ICR_CMD_TABLE : Fld := ⟨30, 28, .wo, 0⟩
def Fld.ICR_CMD_INDEX : Fld := ⟨16, 0, .wo, 0⟩
def Reg.ICR_STATUS : Nat := 0x1fc2c004
def Fld.ICR_STATUS_BUSY : Fld := ⟨31, 31, .ro, 0⟩
def Fld.ICR_STATUS_ERR : Fld := ⟨30, 30, .w1c, 0⟩
def Reg.ICR_DATA (i : Nat) : Nat := 0x1fc2c040 + 0x4 * i
def Fld.ICR_DATA_VAL : Fld := ⟨31, 0, .rw, 0⟩
def Reg.ICR_PORT_CFG (p : Nat) : Nat := 0x1fc2c400 + 0x4 * p
def Fld.ICR_PORT_CFG_EN : Fld := ⟨31, 31, .rw, 0⟩
def Fld.ICR_PORT_CFG_SCI_EN : Fld := ⟨30, 30, .rw, 1⟩
def Fld.ICR_PORT_CFG_VALIDATE : Fld := ⟨29, 28, .rw, 2⟩
def Fld.ICR_PORT_CFG_OFFSET : Fld := ⟨27, 26, .rw, 0⟩
def Fld.ICR_PORT_CFG_BYPASS_PTP : Fld := ⟨25, 25, .rw, 0⟩
def Fld.ICR_PORT_CFG_TX_AN : Fld := ⟨23, 22, .rw, 0⟩
def Fld.ICR_PORT_CFG_TX_SA : Fld := ⟨15, 0, .rw, 0⟩
def Reg.ICR_RX_ICV_FAIL_LO : Nat := 0x1fc2c100
def Fld.ICR_RX_ICV_FAIL_LO_COUNT : Fld := ⟨31, 0, .ro, 0⟩
def Reg.ICR_RX_ICV_FAIL_HI : Nat := 0x1fc2c104
def Fld.ICR_RX_ICV_FAIL_HI_COUNT : Fld := ⟨31, 0, .ro, 0⟩
def Reg.ICR_RX_REPLAY_LO : Nat := 0x1fc2c108
def Fld.ICR_RX_REPLAY_LO_COUNT : Fld := ⟨31, 0, .ro, 0⟩
def Reg.ICR_RX_REPLAY_HI : Nat := 0x1fc2c10c
def Fld.ICR_RX_REPLAY_HI_COUNT : Fld := ⟨31, 0, .ro, 0⟩
def Reg.ICR_RX_NOSA_LO : Nat := 0x1fc2c110
def Fld.ICR_RX_NOSA_LO_COUNT : Fld := ⟨31, 0, .ro, 0⟩
def Reg.ICR_RX_NOSA_HI : Nat := 0x1fc2c114
def Fld.ICR_RX_NOSA_HI_COUNT : Fld := ⟨31, 0, .ro, 0⟩
def Reg.ICR_RX_UNTAGGED_LO : Nat := 0x1fc2c118
def Fld.ICR_RX_UNTAGGED_LO_COUNT : Fld := ⟨31, 0, .ro, 0⟩
def Reg.ICR_RX_UNTAGGED_HI : Nat := 0x1fc2c11c
def Fld.ICR_RX_UNTAGGED_HI_COUNT : Fld := ⟨31, 0, .ro, 0⟩
def Reg.ICR_TX_PN_EXHAUSTED_LO : Nat := 0x1fc2c120
def Fld.ICR_TX_PN_EXHAUSTED_LO_COUNT : Fld := ⟨31, 0, .ro, 0⟩
def Reg.ICR_TX_PN_EXHAUSTED_HI : Nat := 0x1fc2c124
def Fld.ICR_TX_PN_EXHAUSTED_HI_COUNT : Fld := ⟨31, 0, .ro, 0⟩
def Reg.ICR_TX_PROTECTED_LO : Nat := 0x1fc2c128
def Fld.ICR_TX_PROTECTED_LO_COUNT : Fld := ⟨31, 0, .ro, 0⟩
def Reg.ICR_TX_PROTECTED_HI : Nat := 0x1fc2c12c
def Fld.ICR_TX_PROTECTED_HI_COUNT : Fld := ⟨31, 0, .ro, 0⟩
def Reg.ICR_CNT_OVF : Nat := 0x1fc2c1f0
def Fld.ICR_CNT_OVF_OVF : Fld := ⟨5, 0, .w1c, 0⟩
def Ctr.ICR_RX_ICV_FAIL : Ctr := ⟨0x1fc2c100, 0x1fc2c1f0, 0⟩
def Ctr.ICR_RX_REPLAY : Ctr := ⟨0x1fc2c108, 0x1fc2c1f0, 1⟩
def Ctr.ICR_RX_NOSA : Ctr := ⟨0x1fc2c110, 0x1fc2c1f0, 2⟩
def Ctr.ICR_RX_UNTAGGED : Ctr := ⟨0x1fc2c118, 0x1fc2c1f0, 3⟩
def Ctr.ICR_TX_PN_EXHAUSTED : Ctr := ⟨0x1fc2c120, 0x1fc2c1f0, 4⟩
def Ctr.ICR_TX_PROTECTED : Ctr := ⟨0x1fc2c128, 0x1fc2c1f0, 5⟩

def regRowsICR : List RegDef := [
  ⟨0x1fc2c000, [], .single,
    [Fld.ICR_CMD_WRITE, Fld.ICR_CMD_TABLE, Fld.ICR_CMD_INDEX]⟩,
  ⟨0x1fc2c004, [], .single,
    [Fld.ICR_STATUS_BUSY, Fld.ICR_STATUS_ERR]⟩,
  ⟨0x1fc2c040, [(16, 0x4)], .single,
    [Fld.ICR_DATA_VAL]⟩,
  ⟨0x1fc2c400, [(128, 0x4)], .single,
    [Fld.ICR_PORT_CFG_EN, Fld.ICR_PORT_CFG_SCI_EN, Fld.ICR_PORT_CFG_VALIDATE, Fld.ICR_PORT_CFG_OFFSET, Fld.ICR_PORT_CFG_BYPASS_PTP, Fld.ICR_PORT_CFG_TX_AN, Fld.ICR_PORT_CFG_TX_SA]⟩,
  ⟨0x1fc2c100, [], .lo,
    [Fld.ICR_RX_ICV_FAIL_LO_COUNT]⟩,
  ⟨0x1fc2c104, [], .hi,
    [Fld.ICR_RX_ICV_FAIL_HI_COUNT]⟩,
  ⟨0x1fc2c108, [], .lo,
    [Fld.ICR_RX_REPLAY_LO_COUNT]⟩,
  ⟨0x1fc2c10c, [], .hi,
    [Fld.ICR_RX_REPLAY_HI_COUNT]⟩,
  ⟨0x1fc2c110, [], .lo,
    [Fld.ICR_RX_NOSA_LO_COUNT]⟩,
  ⟨0x1fc2c114, [], .hi,
    [Fld.ICR_RX_NOSA_HI_COUNT]⟩,
  ⟨0x1fc2c118, [], .lo,
    [Fld.ICR_RX_UNTAGGED_LO_COUNT]⟩,
  ⟨0x1fc2c11c, [], .hi,
    [Fld.ICR_RX_UNTAGGED_HI_COUNT]⟩,
  ⟨0x1fc2c120, [], .lo,
    [Fld.ICR_TX_PN_EXHAUSTED_LO_COUNT]⟩,
  ⟨0x1fc2c124, [], .hi,
    [Fld.ICR_TX_PN_EXHAUSTED_HI_COUNT]⟩,
  ⟨0x1fc2c128, [], .lo,
    [Fld.ICR_TX_PROTECTED_LO_COUNT]⟩,
  ⟨0x1fc2c12c, [], .hi,
    [Fld.ICR_TX_PROTECTED_HI_COUNT]⟩,
  ⟨0x1fc2c1f0, [], .single,
    [Fld.ICR_CNT_OVF_OVF]⟩]

end Sys2Proof.Machine
end

