-- ==== Sys2Proof/Machine/RegMapD.lean ====
section
/-! DEFINITION. The register definitions of the blocks CYC, CYCW, TRU, PMC, BOOT, OTP, TDM, THM, PWR, one address function, one set of
fields and one row each, copied from the field tables of the chapters that define them at the bases of
R537 and R538 (spec/23_register_map.md). Index-dependent resets are in RegReset.lean. -/

namespace Sys2Proof.Machine

/-! ### Block CYC (R444) -/

def Reg.CYC_STATUS : Nat := 0x25000000
def Fld.CYC_STATUS_ENABLED : Fld := ⟨31, 31, .ro, 0⟩
def Fld.CYC_STATUS_SEALED : Fld := ⟨30, 30, .ro, 1⟩
def Fld.CYC_STATUS_COUNTING : Fld := ⟨29, 29, .ro, 0⟩
def Fld.CYC_STATUS_DUAL : Fld := ⟨28, 28, .ro, 0⟩
def Fld.CYC_STATUS_STORE_FULL : Fld := ⟨27, 27, .ro, 0⟩
def Fld.CYC_STATUS_FORMAT : Fld := ⟨23, 16, .ro, 1⟩
def Fld.CYC_STATUS_SEAL_COUNT : Fld := ⟨6, 0, .ro, 0⟩
def Reg.CYC_INTERVAL : Nat := 0x25000004
def Fld.CYC_INTERVAL_SECONDS : Fld := ⟨16, 0, .sl, 0⟩
def Reg.CYC_PHASE : Nat := 0x25000008
def Fld.CYC_PHASE_SECONDS : Fld := ⟨16, 0, .sl, 0⟩
def Reg.CYC_NONCE (i : Nat) : Nat := 0x25000010 + 0x4 * i
def Fld.CYC_NONCE_VAL : Fld := ⟨31, 0, .ro, 0⟩
def Reg.CYC_AUTH_CTRL : Nat := 0x25000020
def Fld.CYC_AUTH_CTRL_GO : Fld := ⟨31, 31, .wo, 0⟩
def Fld.CYC_AUTH_CTRL_BUSY : Fld := ⟨30, 30, .ro, 0⟩
def Fld.CYC_AUTH_CTRL_STATUS : Fld := ⟨7, 0, .ro, 0⟩
def Reg.CYC_ACK : Nat := 0x25000024
def Fld.CYC_ACK_SEQ : Fld := ⟨31, 0, .rw, 0⟩
def Reg.CYC_ACK_OLD : Nat := 0x25000028
def Fld.CYC_ACK_OLD_OLD_RUNS : Fld := ⟨0, 0, .wo, 0⟩
def Reg.CYC_BP_STATUS : Nat := 0x2500002c
def Fld.CYC_BP_STATUS_SLICE : Fld := ⟨15, 0, .ro, 0⟩
def Reg.CYC_MAP_CMD : Nat := 0x25000030
def Fld.CYC_MAP_CMD_WRITE : Fld := ⟨31, 31, .sl, 0⟩
def Fld.CYC_MAP_CMD_READ : Fld := ⟨30, 30, .wo, 0⟩
def Fld.CYC_MAP_CMD_QUEUE : Fld := ⟨18, 0, .wo, 0⟩
def Reg.CYC_MAP_DATA : Nat := 0x25000034
def Fld.CYC_MAP_DATA_ENTRY : Fld := ⟨31, 0, .sl, 0⟩
def Reg.CYC_MAP_STATUS : Nat := 0x25000038
def Fld.CYC_MAP_STATUS_BUSY : Fld := ⟨31, 31, .ro, 0⟩
def Fld.CYC_MAP_STATUS_ERR : Fld := ⟨30, 30, .w1c, 0⟩
def Reg.CYC_AUTH_MBOX (w : Nat) : Nat := 0x25000200 + 0x4 * w
def Fld.CYC_AUTH_MBOX_VAL : Fld := ⟨31, 0, .rw, 0⟩
def Reg.CYC_PORT_OVH (p : Nat) : Nat := 0x25000400 + 0x4 * p
def Fld.CYC_PORT_OVH_OVH : Fld := ⟨7, 0, .sl, 0⟩
def Reg.CYC_CH_CFG (c : Nat) : Nat := 0x25000800 + 0x100 * (c - 24)
def Fld.CYC_CH_CFG_EN : Fld := ⟨31, 31, .rwo, 0⟩
def Reg.CYC_CH_STATUS (c : Nat) : Nat := 0x25000804 + 0x100 * (c - 24)
def Fld.CYC_CH_STATUS_UP : Fld := ⟨31, 31, .ro, 0⟩
def Fld.CYC_CH_STATUS_LINK_FAIL : Fld := ⟨30, 30, .ro, 0⟩
def Reg.CYC_CA_DLY (c : Nat) : Nat := 0x25000808 + 0x100 * (c - 24)
def Fld.CYC_CA_DLY_DLY : Fld := ⟨11, 0, .rwo, 0⟩
def Reg.CYC_DLY (c r l : Nat) : Nat := 0x25000810 + 0x100 * (c - 24) + 0x10 * r + 0x4 * l
def Fld.CYC_DLY_VAL : Fld := ⟨31, 0, .rwo, 0⟩
def Reg.CYC_NOTICES_LO : Nat := 0x25000100
def Fld.CYC_NOTICES_LO_COUNT : Fld := ⟨31, 0, .ro, 0⟩
def Reg.CYC_NOTICES_HI : Nat := 0x25000104
def Fld.CYC_NOTICES_HI_COUNT : Fld := ⟨31, 0, .ro, 0⟩
def Reg.CYC_WRITEBACKS_LO : Nat := 0x25000108
def Fld.CYC_WRITEBACKS_LO_COUNT : Fld := ⟨31, 0, .ro, 0⟩
def Reg.CYC_WRITEBACKS_HI : Nat := 0x2500010c
def Fld.CYC_WRITEBACKS_HI_COUNT : Fld := ⟨31, 0, .ro, 0⟩
def Reg.CYC_BP_CYCLES_LO : Nat := 0x25000110
def Fld.CYC_BP_CYCLES_LO_COUNT : Fld := ⟨31, 0, .ro, 0⟩
def Reg.CYC_BP_CYCLES_HI : Nat := 0x25000114
def Fld.CYC_BP_CYCLES_HI_COUNT : Fld := ⟨31, 0, .ro, 0⟩
def Reg.CYC_REFUSED_LO : Nat := 0x25000118
def Fld.CYC_REFUSED_LO_COUNT : Fld := ⟨31, 0, .ro, 0⟩
def Reg.CYC_REFUSED_HI : Nat := 0x2500011c
def Fld.CYC_REFUSED_HI_COUNT : Fld := ⟨31, 0, .ro, 0⟩
def Reg.CYC_CNT_OVF : Nat := 0x250001f0
def Fld.CYC_CNT_OVF_OVF : Fld := ⟨3, 0, .w1c, 0⟩
def Ctr.CYC_NOTICES : Ctr := ⟨0x25000100, 0x250001f0, 0⟩
def Ctr.CYC_WRITEBACKS : Ctr := ⟨0x25000108, 0x250001f0, 1⟩
def Ctr.CYC_BP_CYCLES : Ctr := ⟨0x25000110, 0x250001f0, 2⟩
def Ctr.CYC_REFUSED : Ctr := ⟨0x25000118, 0x250001f0, 3⟩

def regRowsCYC : List RegDef := [
  ⟨0x25000000, [], .single,
    [Fld.CYC_STATUS_ENABLED, Fld.CYC_STATUS_SEALED, Fld.CYC_STATUS_COUNTING, Fld.CYC_STATUS_DUAL, Fld.CYC_STATUS_STORE_FULL, Fld.CYC_STATUS_FORMAT, Fld.CYC_STATUS_SEAL_COUNT]⟩,
  ⟨0x25000004, [], .single,
    [Fld.CYC_INTERVAL_SECONDS]⟩,
  ⟨0x25000008, [], .single,
    [Fld.CYC_PHASE_SECONDS]⟩,
  ⟨0x25000010, [(4, 0x4)], .single,
    [Fld.CYC_NONCE_VAL]⟩,
  ⟨0x25000020, [], .single,
    [Fld.CYC_AUTH_CTRL_GO, Fld.CYC_AUTH_CTRL_BUSY, Fld.CYC_AUTH_CTRL_STATUS]⟩,
  ⟨0x25000024, [], .single,
    [Fld.CYC_ACK_SEQ]⟩,
  ⟨0x25000028, [], .single,
    [Fld.CYC_ACK_OLD_OLD_RUNS]⟩,
  ⟨0x2500002c, [], .single,
    [Fld.CYC_BP_STATUS_SLICE]⟩,
  ⟨0x25000030, [], .single,
    [Fld.CYC_MAP_CMD_WRITE, Fld.CYC_MAP_CMD_READ, Fld.CYC_MAP_CMD_QUEUE]⟩,
  ⟨0x25000034, [], .single,
    [Fld.CYC_MAP_DATA_ENTRY]⟩,
  ⟨0x25000038, [], .single,
    [Fld.CYC_MAP_STATUS_BUSY, Fld.CYC_MAP_STATUS_ERR]⟩,
  ⟨0x25000200, [(64, 0x4)], .single,
    [Fld.CYC_AUTH_MBOX_VAL]⟩,
  ⟨0x25000400, [(132, 0x4)], .single,
    [Fld.CYC_PORT_OVH_OVH]⟩,
  ⟨0x25000800, [(2, 0x100)], .single,
    [Fld.CYC_CH_CFG_EN]⟩,
  ⟨0x25000804, [(2, 0x100)], .single,
    [Fld.CYC_CH_STATUS_UP, Fld.CYC_CH_STATUS_LINK_FAIL]⟩,
  ⟨0x25000808, [(2, 0x100)], .single,
    [Fld.CYC_CA_DLY_DLY]⟩,
  ⟨0x25000810, [(2, 0x100), (2, 0x10), (4, 0x4)], .single,
    [Fld.CYC_DLY_VAL]⟩,
  ⟨0x25000100, [], .lo,
    [Fld.CYC_NOTICES_LO_COUNT]⟩,
  ⟨0x25000104, [], .hi,
    [Fld.CYC_NOTICES_HI_COUNT]⟩,
  ⟨0x25000108, [], .lo,
    [Fld.CYC_WRITEBACKS_LO_COUNT]⟩,
  ⟨0x2500010c, [], .hi,
    [Fld.CYC_WRITEBACKS_HI_COUNT]⟩,
  ⟨0x25000110, [], .lo,
    [Fld.CYC_BP_CYCLES_LO_COUNT]⟩,
  ⟨0x25000114, [], .hi,
    [Fld.CYC_BP_CYCLES_HI_COUNT]⟩,
  ⟨0x25000118, [], .lo,
    [Fld.CYC_REFUSED_LO_COUNT]⟩,
  ⟨0x2500011c, [], .hi,
    [Fld.CYC_REFUSED_HI_COUNT]⟩,
  ⟨0x250001f0, [], .single,
    [Fld.CYC_CNT_OVF_OVF]⟩]

/-! ### Block CYCW (R445) -/

def Reg.CYC_WIN_STATUS : Nat := 0x30000000
def Fld.CYC_WIN_STATUS_VALID : Fld := ⟨31, 31, .ro, 0⟩
def Fld.CYC_WIN_STATUS_RECORDS : Fld := ⟨8, 0, .ro, 0⟩
def Reg.CYC_WIN_OLDEST : Nat := 0x30000004
def Fld.CYC_WIN_OLDEST_SLOT : Fld := ⟨7, 0, .ro, 0⟩
def Reg.CYC_WIN_FREE : Nat := 0x30000008
def Fld.CYC_WIN_FREE_UNITS : Fld := ⟨21, 0, .ro, 0x380000⟩
def Reg.CYC_DIR_SEQ (i : Nat) : Nat := 0x30001000 + 0x10 * i
def Fld.CYC_DIR_SEQ_SEQ : Fld := ⟨31, 0, .ro, 0⟩
def Reg.CYC_DIR_FMT (i : Nat) : Nat := 0x30001004 + 0x10 * i
def Fld.CYC_DIR_FMT_FORMAT : Fld := ⟨31, 16, .ro, 0⟩
def Fld.CYC_DIR_FMT_FLAGS : Fld := ⟨15, 0, .ro, 0⟩
def Reg.CYC_DIR_OFFSET (i : Nat) : Nat := 0x30001008 + 0x10 * i
def Fld.CYC_DIR_OFFSET_OFFSET : Fld := ⟨31, 0, .ro, 0⟩
def Reg.CYC_DIR_LENGTH (i : Nat) : Nat := 0x3000100c + 0x10 * i
def Fld.CYC_DIR_LENGTH_LENGTH : Fld := ⟨31, 0, .ro, 0⟩

def regRowsCYCW : List RegDef := [
  ⟨0x30000000, [], .single,
    [Fld.CYC_WIN_STATUS_VALID, Fld.CYC_WIN_STATUS_RECORDS]⟩,
  ⟨0x30000004, [], .single,
    [Fld.CYC_WIN_OLDEST_SLOT]⟩,
  ⟨0x30000008, [], .single,
    [Fld.CYC_WIN_FREE_UNITS]⟩,
  ⟨0x30001000, [(256, 0x10)], .single,
    [Fld.CYC_DIR_SEQ_SEQ]⟩,
  ⟨0x30001004, [(256, 0x10)], .single,
    [Fld.CYC_DIR_FMT_FORMAT, Fld.CYC_DIR_FMT_FLAGS]⟩,
  ⟨0x30001008, [(256, 0x10)], .single,
    [Fld.CYC_DIR_OFFSET_OFFSET]⟩,
  ⟨0x3000100c, [(256, 0x10)], .single,
    [Fld.CYC_DIR_LENGTH_LENGTH]⟩]

/-! ### Block TRU (R464) -/

def Reg.TRU_CFG : Nat := 0x2fc08000
def Fld.TRU_CFG_EN : Fld := ⟨31, 31, .rw, 1⟩
def Fld.TRU_CFG_LEDGER_EN : Fld := ⟨9, 0, .rw, 0x3ff⟩
def Reg.TRU_STATUS : Nat := 0x2fc08004
def Fld.TRU_STATUS_FAULT : Fld := ⟨31, 31, .w1c, 0⟩
def Fld.TRU_STATUS_BUSY : Fld := ⟨30, 30, .ro, 0⟩
def Fld.TRU_STATUS_PENDING : Fld := ⟨9, 0, .ro, 0⟩
def Reg.TRU_LAST_FRAC : Nat := 0x2fc08008
def Fld.TRU_LAST_FRAC_FRAC : Fld := ⟨31, 0, .ro, 0⟩
def Reg.TRU_LAST_SEC : Nat := 0x2fc0800c
def Fld.TRU_LAST_SEC_SEC : Fld := ⟨31, 0, .ro, 0⟩
def Reg.TRU_FAULT_LOG : Nat := 0x2fc08010
def Fld.TRU_FAULT_LOG_VALID : Fld := ⟨31, 31, .ro, 0⟩
def Fld.TRU_FAULT_LOG_LEDGER : Fld := ⟨23, 16, .ro, 0⟩
def Fld.TRU_FAULT_LOG_SCOPE : Fld := ⟨15, 0, .ro, 0⟩
def Reg.TRU_FAULT_DELTA_LO : Nat := 0x2fc08014
def Fld.TRU_FAULT_DELTA_LO_DELTA : Fld := ⟨31, 0, .ro, 0⟩
def Reg.TRU_FAULT_DELTA_HI : Nat := 0x2fc08018
def Fld.TRU_FAULT_DELTA_HI_DELTA : Fld := ⟨31, 0, .ro, 0⟩
def Reg.TRU_PURGE_FIRST : Nat := 0x2fc08020
def Fld.TRU_PURGE_FIRST_QUEUE : Fld := ⟨18, 0, .rw, 0⟩
def Reg.TRU_PURGE_COUNT : Nat := 0x2fc08024
def Fld.TRU_PURGE_COUNT_COUNT : Fld := ⟨17, 0, .rw, 0⟩
def Reg.TRU_PURGE_CMD : Nat := 0x2fc08028
def Fld.TRU_PURGE_CMD_OP : Fld := ⟨31, 30, .wo, 0⟩
def Reg.TRU_PURGE_STATUS : Nat := 0x2fc0802c
def Fld.TRU_PURGE_STATUS_BUSY : Fld := ⟨31, 31, .ro, 0⟩
def Fld.TRU_PURGE_STATUS_ERR : Fld := ⟨30, 30, .w1c, 0⟩
def Reg.TRU_LOSS_ITEMS_LO (c : Nat) : Nat := 0x2fc08100 + 0x10 * (c - 1)
def Fld.TRU_LOSS_ITEMS_LO_VAL : Fld := ⟨31, 0, .ro, 0⟩
def Reg.TRU_LOSS_ITEMS_HI (c : Nat) : Nat := 0x2fc08104 + 0x10 * (c - 1)
def Fld.TRU_LOSS_ITEMS_HI_VAL : Fld := ⟨31, 0, .ro, 0⟩
def Reg.TRU_LOSS_UNITS_LO (c : Nat) : Nat := 0x2fc08108 + 0x10 * (c - 1)
def Fld.TRU_LOSS_UNITS_LO_VAL : Fld := ⟨31, 0, .ro, 0⟩
def Reg.TRU_LOSS_UNITS_HI (c : Nat) : Nat := 0x2fc0810c + 0x10 * (c - 1)
def Fld.TRU_LOSS_UNITS_HI_VAL : Fld := ⟨31, 0, .ro, 0⟩
def Reg.TRU_AUDITS_LO : Nat := 0x2fc08160
def Fld.TRU_AUDITS_LO_COUNT : Fld := ⟨31, 0, .ro, 0⟩
def Reg.TRU_AUDITS_HI : Nat := 0x2fc08164
def Fld.TRU_AUDITS_HI_COUNT : Fld := ⟨31, 0, .ro, 0⟩
def Reg.TRU_FAULTS_LO : Nat := 0x2fc08168
def Fld.TRU_FAULTS_LO_COUNT : Fld := ⟨31, 0, .ro, 0⟩
def Reg.TRU_FAULTS_HI : Nat := 0x2fc0816c
def Fld.TRU_FAULTS_HI_COUNT : Fld := ⟨31, 0, .ro, 0⟩
def Reg.TRU_SKIP_LO : Nat := 0x2fc08170
def Fld.TRU_SKIP_LO_COUNT : Fld := ⟨31, 0, .ro, 0⟩
def Reg.TRU_SKIP_HI : Nat := 0x2fc08174
def Fld.TRU_SKIP_HI_COUNT : Fld := ⟨31, 0, .ro, 0⟩
def Reg.TRU_CNT_OVF : Nat := 0x2fc081f0
def Fld.TRU_CNT_OVF_OVF : Fld := ⟨2, 0, .w1c, 0⟩
def Ctr.TRU_AUDITS : Ctr := ⟨0x2fc08160, 0x2fc081f0, 0⟩
def Ctr.TRU_FAULTS : Ctr := ⟨0x2fc08168, 0x2fc081f0, 1⟩
def Ctr.TRU_SKIP : Ctr := ⟨0x2fc08170, 0x2fc081f0, 2⟩

def regRowsTRU : List RegDef := [
  ⟨0x2fc08000, [], .single,
    [Fld.TRU_CFG_EN, Fld.TRU_CFG_LEDGER_EN]⟩,
  ⟨0x2fc08004, [], .single,
    [Fld.TRU_STATUS_FAULT, Fld.TRU_STATUS_BUSY, Fld.TRU_STATUS_PENDING]⟩,
  ⟨0x2fc08008, [], .single,
    [Fld.TRU_LAST_FRAC_FRAC]⟩,
  ⟨0x2fc0800c, [], .single,
    [Fld.TRU_LAST_SEC_SEC]⟩,
  ⟨0x2fc08010, [], .single,
    [Fld.TRU_FAULT_LOG_VALID, Fld.TRU_FAULT_LOG_LEDGER, Fld.TRU_FAULT_LOG_SCOPE]⟩,
  ⟨0x2fc08014, [], .lo,
    [Fld.TRU_FAULT_DELTA_LO_DELTA]⟩,
  ⟨0x2fc08018, [], .hi,
    [Fld.TRU_FAULT_DELTA_HI_DELTA]⟩,
  ⟨0x2fc08020, [], .single,
    [Fld.TRU_PURGE_FIRST_QUEUE]⟩,
  ⟨0x2fc08024, [], .single,
    [Fld.TRU_PURGE_COUNT_COUNT]⟩,
  ⟨0x2fc08028, [], .single,
    [Fld.TRU_PURGE_CMD_OP]⟩,
  ⟨0x2fc0802c, [], .single,
    [Fld.TRU_PURGE_STATUS_BUSY, Fld.TRU_PURGE_STATUS_ERR]⟩,
  ⟨0x2fc08100, [(6, 0x10)], .lo,
    [Fld.TRU_LOSS_ITEMS_LO_VAL]⟩,
  ⟨0x2fc08104, [(6, 0x10)], .hi,
    [Fld.TRU_LOSS_ITEMS_HI_VAL]⟩,
  ⟨0x2fc08108, [(6, 0x10)], .lo,
    [Fld.TRU_LOSS_UNITS_LO_VAL]⟩,
  ⟨0x2fc0810c, [(6, 0x10)], .hi,
    [Fld.TRU_LOSS_UNITS_HI_VAL]⟩,
  ⟨0x2fc08160, [], .lo,
    [Fld.TRU_AUDITS_LO_COUNT]⟩,
  ⟨0x2fc08164, [], .hi,
    [Fld.TRU_AUDITS_HI_COUNT]⟩,
  ⟨0x2fc08168, [], .lo,
    [Fld.TRU_FAULTS_LO_COUNT]⟩,
  ⟨0x2fc0816c, [], .hi,
    [Fld.TRU_FAULTS_HI_COUNT]⟩,
  ⟨0x2fc08170, [], .lo,
    [Fld.TRU_SKIP_LO_COUNT]⟩,
  ⟨0x2fc08174, [], .hi,
    [Fld.TRU_SKIP_HI_COUNT]⟩,
  ⟨0x2fc081f0, [], .single,
    [Fld.TRU_CNT_OVF_OVF]⟩]

/-! ### Block PMC (R465) -/

def Reg.PMC_CTRL (d : Nat) : Nat := 0x50000000 + 0x100000 * d
def Fld.PMC_CTRL_FREEZE : Fld := ⟨31, 31, .rw, 0⟩
def Fld.PMC_CTRL_SNAP : Fld := ⟨30, 30, .wo, 0⟩
def Fld.PMC_CTRL_AT : Fld := ⟨29, 29, .rw, 0⟩
def Fld.PMC_CTRL_OVF_EVT : Fld := ⟨28, 28, .rw, 0⟩
def Reg.PMC_SNAP_AT_FRAC (d : Nat) : Nat := 0x50000004 + 0x100000 * d
def Fld.PMC_SNAP_AT_FRAC_FRAC : Fld := ⟨31, 0, .rw, 0⟩
def Reg.PMC_SNAP_AT_SEC (d : Nat) : Nat := 0x50000008 + 0x100000 * d
def Fld.PMC_SNAP_AT_SEC_SEC : Fld := ⟨31, 0, .rw, 0⟩
def Reg.PMC_OVF (d w : Nat) : Nat := 0x50001000 + 0x100000 * d + 0x4 * w
def Fld.PMC_OVF_OVF : Fld := ⟨31, 0, .w1c, 0⟩
def Reg.PMC_FIX_CYCLES_LO (d : Nat) : Nat := 0x50002000 + 0x100000 * d
def Fld.PMC_FIX_CYCLES_LO_VAL : Fld := ⟨31, 0, .ro, 0⟩
def Reg.PMC_FIX_CYCLES_HI (d : Nat) : Nat := 0x50002004 + 0x100000 * d
def Fld.PMC_FIX_CYCLES_HI_VAL : Fld := ⟨31, 0, .ro, 0⟩
def Reg.PMC_FIX_AUDITS_LO (d : Nat) : Nat := 0x50002008 + 0x100000 * d
def Fld.PMC_FIX_AUDITS_LO_VAL : Fld := ⟨31, 0, .ro, 0⟩
def Reg.PMC_FIX_AUDITS_HI (d : Nat) : Nat := 0x5000200c + 0x100000 * d
def Fld.PMC_FIX_AUDITS_HI_VAL : Fld := ⟨31, 0, .ro, 0⟩
def Reg.PMC_FIX_FAULTS_LO (d : Nat) : Nat := 0x50002010 + 0x100000 * d
def Fld.PMC_FIX_FAULTS_LO_VAL : Fld := ⟨31, 0, .ro, 0⟩
def Reg.PMC_FIX_FAULTS_HI (d : Nat) : Nat := 0x50002014 + 0x100000 * d
def Fld.PMC_FIX_FAULTS_HI_VAL : Fld := ⟨31, 0, .ro, 0⟩
def Reg.PMC_VAL_LO (d n : Nat) : Nat := 0x50010000 + 0x100000 * d + 0x8 * n
def Fld.PMC_VAL_LO_VAL : Fld := ⟨31, 0, .rw, 0⟩
def Reg.PMC_VAL_HI (d n : Nat) : Nat := 0x50010004 + 0x100000 * d + 0x8 * n
def Fld.PMC_VAL_HI_VAL : Fld := ⟨31, 0, .rw, 0⟩
def Reg.PMC_SNAPV_LO (d n : Nat) : Nat := 0x50020000 + 0x100000 * d + 0x8 * n
def Fld.PMC_SNAPV_LO_VAL : Fld := ⟨31, 0, .ro, 0⟩
def Reg.PMC_SNAPV_HI (d n : Nat) : Nat := 0x50020004 + 0x100000 * d + 0x8 * n
def Fld.PMC_SNAPV_HI_VAL : Fld := ⟨31, 0, .ro, 0⟩
def Reg.PMC_SEL (d n : Nat) : Nat := 0x50030000 + 0x100000 * d + 0x4 * n
def Fld.PMC_SEL_EN : Fld := ⟨31, 31, .rw, 0⟩
def Fld.PMC_SEL_MODE : Fld := ⟨30, 29, .rw, 0⟩
def Fld.PMC_SEL_LATCH : Fld := ⟨28, 28, .rw, 0⟩
def Fld.PMC_SEL_USER : Fld := ⟨27, 27, .rw, 0⟩
def Fld.PMC_SEL_CLUSTER : Fld := ⟨26, 21, .rw, 0⟩
def Fld.PMC_SEL_BLOCK : Fld := ⟨20, 13, .rw, 0⟩
def Fld.PMC_SEL_SUB : Fld := ⟨12, 8, .rw, 0⟩
def Fld.PMC_SEL_EVENT : Fld := ⟨7, 0, .rw, 0⟩
def Reg.PMC_THR (d n : Nat) : Nat := 0x50040000 + 0x100000 * d + 0x4 * n
def Fld.PMC_THR_N : Fld := ⟨31, 0, .rw, 0⟩

def regRowsPMC : List RegDef := [
  ⟨0x50000000, [(2, 0x100000)], .single,
    [Fld.PMC_CTRL_FREEZE, Fld.PMC_CTRL_SNAP, Fld.PMC_CTRL_AT, Fld.PMC_CTRL_OVF_EVT]⟩,
  ⟨0x50000004, [(2, 0x100000)], .single,
    [Fld.PMC_SNAP_AT_FRAC_FRAC]⟩,
  ⟨0x50000008, [(2, 0x100000)], .single,
    [Fld.PMC_SNAP_AT_SEC_SEC]⟩,
  ⟨0x50001000, [(2, 0x100000), (128, 0x4)], .single,
    [Fld.PMC_OVF_OVF]⟩,
  ⟨0x50002000, [(2, 0x100000)], .lo,
    [Fld.PMC_FIX_CYCLES_LO_VAL]⟩,
  ⟨0x50002004, [(2, 0x100000)], .hi,
    [Fld.PMC_FIX_CYCLES_HI_VAL]⟩,
  ⟨0x50002008, [(2, 0x100000)], .lo,
    [Fld.PMC_FIX_AUDITS_LO_VAL]⟩,
  ⟨0x5000200c, [(2, 0x100000)], .hi,
    [Fld.PMC_FIX_AUDITS_HI_VAL]⟩,
  ⟨0x50002010, [(2, 0x100000)], .lo,
    [Fld.PMC_FIX_FAULTS_LO_VAL]⟩,
  ⟨0x50002014, [(2, 0x100000)], .hi,
    [Fld.PMC_FIX_FAULTS_HI_VAL]⟩,
  ⟨0x50010000, [(2, 0x100000), (4096, 0x8)], .lo,
    [Fld.PMC_VAL_LO_VAL]⟩,
  ⟨0x50010004, [(2, 0x100000), (4096, 0x8)], .hi,
    [Fld.PMC_VAL_HI_VAL]⟩,
  ⟨0x50020000, [(2, 0x100000), (4096, 0x8)], .lo,
    [Fld.PMC_SNAPV_LO_VAL]⟩,
  ⟨0x50020004, [(2, 0x100000), (4096, 0x8)], .hi,
    [Fld.PMC_SNAPV_HI_VAL]⟩,
  ⟨0x50030000, [(2, 0x100000), (4096, 0x4)], .single,
    [Fld.PMC_SEL_EN, Fld.PMC_SEL_MODE, Fld.PMC_SEL_LATCH, Fld.PMC_SEL_USER, Fld.PMC_SEL_CLUSTER, Fld.PMC_SEL_BLOCK, Fld.PMC_SEL_SUB, Fld.PMC_SEL_EVENT]⟩,
  ⟨0x50040000, [(2, 0x100000), (4096, 0x4)], .single,
    [Fld.PMC_THR_N]⟩]

/-! ### Block BOOT (R487) -/

def Reg.BOOT_CTRL : Nat := 0x1fc30000
def Fld.BOOT_CTRL_GO : Fld := ⟨31, 31, .wo, 0⟩
def Fld.BOOT_CTRL_CONFIRM : Fld := ⟨30, 30, .wo, 0⟩
def Fld.BOOT_CTRL_RESTART : Fld := ⟨29, 29, .wo, 0⟩
def Fld.BOOT_CTRL_FAIL_CLEAR : Fld := ⟨28, 28, .wo, 0⟩
def Fld.BOOT_CTRL_RING_LOAD : Fld := ⟨27, 27, .rw, 0⟩
def Reg.BOOT_STATUS : Nat := 0x1fc30004
def Fld.BOOT_STATUS_STATE : Fld := ⟨31, 28, .ro, 0⟩
def Fld.BOOT_STATUS_KICKSTAND : Fld := ⟨27, 27, .ro, 0⟩
def Fld.BOOT_STATUS_LEASE_EXPIRED : Fld := ⟨26, 26, .ro, 0⟩
def Fld.BOOT_STATUS_REFUSED : Fld := ⟨25, 25, .w1c, 0⟩
def Fld.BOOT_STATUS_FAILS : Fld := ⟨24, 22, .ro, 0⟩
def Fld.BOOT_STATUS_LIMIT : Fld := ⟨21, 19, .ro, 3⟩
def Reg.BOOT_CAUSE : Nat := 0x1fc30008
def Fld.BOOT_CAUSE_CAUSE : Fld := ⟨31, 24, .ro, 0⟩
def Fld.BOOT_CAUSE_DETAIL : Fld := ⟨15, 0, .ro, 0⟩
def Reg.BOOT_CFG : Nat := 0x1fc3000c
def Fld.BOOT_CFG_WINDOW : Fld := ⟨7, 0, .rw, 0xa⟩
def Reg.BOOT_ABORT : Nat := 0x1fc30010
def Fld.BOOT_ABORT_CODE : Fld := ⟨7, 0, .wo, 0⟩
def Reg.BOOT_IMAGE_VER : Nat := 0x1fc30014
def Fld.BOOT_IMAGE_VER_VERSION : Fld := ⟨31, 0, .ro, 0⟩
def Reg.BOOT_STATE_VER : Nat := 0x1fc30018
def Fld.BOOT_STATE_VER_VERSION : Fld := ⟨31, 0, .ro, 0⟩
def Reg.BOOT_LEASE_CFG : Nat := 0x1fc30030
def Fld.BOOT_LEASE_CFG_SPAN : Fld := ⟨9, 0, .rw, 0x1e⟩
def Reg.BOOT_LEASE_RENEW : Nat := 0x1fc30034
def Fld.BOOT_LEASE_RENEW_GO : Fld := ⟨0, 0, .wo, 0⟩
def Reg.BOOT_LEASE_END_FRAC : Nat := 0x1fc30038
def Fld.BOOT_LEASE_END_FRAC_FRAC : Fld := ⟨31, 0, .ro, 0⟩
def Reg.BOOT_LEASE_END_SEC : Nat := 0x1fc3003c
def Fld.BOOT_LEASE_END_SEC_SEC : Fld := ⟨31, 0, .ro, 0⟩
def Reg.BOOT_UPG_CMD : Nat := 0x1fc30040
def Fld.BOOT_UPG_CMD_START : Fld := ⟨31, 31, .wo, 0⟩
def Fld.BOOT_UPG_CMD_LOC : Fld := ⟨10, 0, .wo, 0⟩
def Reg.BOOT_UPG_STATUS : Nat := 0x1fc30044
def Fld.BOOT_UPG_STATUS_STATE : Fld := ⟨31, 28, .ro, 0⟩
def Fld.BOOT_UPG_STATUS_CODE : Fld := ⟨27, 20, .ro, 0⟩
def Fld.BOOT_UPG_STATUS_DETAIL : Fld := ⟨15, 0, .ro, 0⟩
def Reg.BOOT_UPG_BUF : Nat := 0x1fc30048
def Fld.BOOT_UPG_BUF_VALID : Fld := ⟨31, 31, .rw, 0⟩
def Fld.BOOT_UPG_BUF_LOC : Fld := ⟨10, 0, .rw, 0⟩
def Reg.BOOT_NONCE (i : Nat) : Nat := 0x1fc30050 + 0x4 * i
def Fld.BOOT_NONCE_VAL : Fld := ⟨31, 0, .ro, 0⟩
def Reg.BOOT_AUTH_CTRL : Nat := 0x1fc30060
def Fld.BOOT_AUTH_CTRL_GO : Fld := ⟨31, 31, .wo, 0⟩
def Fld.BOOT_AUTH_CTRL_BUSY : Fld := ⟨30, 30, .ro, 0⟩
def Fld.BOOT_AUTH_CTRL_STATUS : Fld := ⟨7, 0, .ro, 0⟩
def Reg.BOOT_AUTH_MBOX (w : Nat) : Nat := 0x1fc30200 + 0x4 * w
def Fld.BOOT_AUTH_MBOX_VAL : Fld := ⟨31, 0, .rw, 0⟩

def regRowsBOOT : List RegDef := [
  ⟨0x1fc30000, [], .single,
    [Fld.BOOT_CTRL_GO, Fld.BOOT_CTRL_CONFIRM, Fld.BOOT_CTRL_RESTART, Fld.BOOT_CTRL_FAIL_CLEAR, Fld.BOOT_CTRL_RING_LOAD]⟩,
  ⟨0x1fc30004, [], .single,
    [Fld.BOOT_STATUS_STATE, Fld.BOOT_STATUS_KICKSTAND, Fld.BOOT_STATUS_LEASE_EXPIRED, Fld.BOOT_STATUS_REFUSED, Fld.BOOT_STATUS_FAILS, Fld.BOOT_STATUS_LIMIT]⟩,
  ⟨0x1fc30008, [], .single,
    [Fld.BOOT_CAUSE_CAUSE, Fld.BOOT_CAUSE_DETAIL]⟩,
  ⟨0x1fc3000c, [], .single,
    [Fld.BOOT_CFG_WINDOW]⟩,
  ⟨0x1fc30010, [], .single,
    [Fld.BOOT_ABORT_CODE]⟩,
  ⟨0x1fc30014, [], .single,
    [Fld.BOOT_IMAGE_VER_VERSION]⟩,
  ⟨0x1fc30018, [], .single,
    [Fld.BOOT_STATE_VER_VERSION]⟩,
  ⟨0x1fc30030, [], .single,
    [Fld.BOOT_LEASE_CFG_SPAN]⟩,
  ⟨0x1fc30034, [], .single,
    [Fld.BOOT_LEASE_RENEW_GO]⟩,
  ⟨0x1fc30038, [], .single,
    [Fld.BOOT_LEASE_END_FRAC_FRAC]⟩,
  ⟨0x1fc3003c, [], .single,
    [Fld.BOOT_LEASE_END_SEC_SEC]⟩,
  ⟨0x1fc30040, [], .single,
    [Fld.BOOT_UPG_CMD_START, Fld.BOOT_UPG_CMD_LOC]⟩,
  ⟨0x1fc30044, [], .single,
    [Fld.BOOT_UPG_STATUS_STATE, Fld.BOOT_UPG_STATUS_CODE, Fld.BOOT_UPG_STATUS_DETAIL]⟩,
  ⟨0x1fc30048, [], .single,
    [Fld.BOOT_UPG_BUF_VALID, Fld.BOOT_UPG_BUF_LOC]⟩,
  ⟨0x1fc30050, [(4, 0x4)], .single,
    [Fld.BOOT_NONCE_VAL]⟩,
  ⟨0x1fc30060, [], .single,
    [Fld.BOOT_AUTH_CTRL_GO, Fld.BOOT_AUTH_CTRL_BUSY, Fld.BOOT_AUTH_CTRL_STATUS]⟩,
  ⟨0x1fc30200, [(64, 0x4)], .single,
    [Fld.BOOT_AUTH_MBOX_VAL]⟩]

/-! ### Block OTP (R488) -/

def Reg.OTP_WR_CMD : Nat := 0x1fc34000
def Fld.OTP_WR_CMD_GO : Fld := ⟨31, 31, .wo, 0⟩
def Fld.OTP_WR_CMD_RECORD : Fld := ⟨30, 28, .wo, 0⟩
def Reg.OTP_STATUS : Nat := 0x1fc34004
def Fld.OTP_STATUS_BUSY : Fld := ⟨31, 31, .ro, 0⟩
def Fld.OTP_STATUS_CODE : Fld := ⟨30, 27, .ro, 0⟩
def Fld.OTP_STATUS_OWNER_GEN : Fld := ⟨26, 24, .ro, 0⟩
def Fld.OTP_STATUS_POLICY_GEN : Fld := ⟨23, 21, .ro, 0⟩
def Fld.OTP_STATUS_SEAL_GEN : Fld := ⟨20, 18, .ro, 0⟩
def Fld.OTP_STATUS_REPAIR_USED : Fld := ⟨8, 0, .ro, 0⟩
def Reg.OTP_WR_DATA (w : Nat) : Nat := 0x1fc34100 + 0x4 * w
def Fld.OTP_WR_DATA_VAL : Fld := ⟨31, 0, .rw, 0⟩
def Reg.OTP_RD_IDENTITY (w : Nat) : Nat := 0x1fc34400 + 0x4 * w
def Fld.OTP_RD_IDENTITY_VAL : Fld := ⟨31, 0, .ro, 0⟩
def Reg.OTP_RD_OWNER (w : Nat) : Nat := 0x1fc34480 + 0x4 * w
def Fld.OTP_RD_OWNER_VAL : Fld := ⟨31, 0, .ro, 0⟩
def Reg.OTP_RD_POLICY (w : Nat) : Nat := 0x1fc344c0 + 0x4 * w
def Fld.OTP_RD_POLICY_VAL : Fld := ⟨31, 0, .ro, 0⟩
def Reg.OTP_RD_SEAL (w : Nat) : Nat := 0x1fc34500 + 0x4 * w
def Fld.OTP_RD_SEAL_VAL : Fld := ⟨31, 0, .ro, 0⟩
def Reg.OTP_RD_REPAIR (i : Nat) : Nat := 0x1fc34800 + 0x4 * i
def Fld.OTP_RD_REPAIR_VAL : Fld := ⟨31, 0, .ro, 0⟩

def regRowsOTP : List RegDef := [
  ⟨0x1fc34000, [], .single,
    [Fld.OTP_WR_CMD_GO, Fld.OTP_WR_CMD_RECORD]⟩,
  ⟨0x1fc34004, [], .single,
    [Fld.OTP_STATUS_BUSY, Fld.OTP_STATUS_CODE, Fld.OTP_STATUS_OWNER_GEN, Fld.OTP_STATUS_POLICY_GEN, Fld.OTP_STATUS_SEAL_GEN, Fld.OTP_STATUS_REPAIR_USED]⟩,
  ⟨0x1fc34100, [(32, 0x4)], .single,
    [Fld.OTP_WR_DATA_VAL]⟩,
  ⟨0x1fc34400, [(32, 0x4)], .single,
    [Fld.OTP_RD_IDENTITY_VAL]⟩,
  ⟨0x1fc34480, [(16, 0x4)], .single,
    [Fld.OTP_RD_OWNER_VAL]⟩,
  ⟨0x1fc344c0, [(4, 0x4)], .single,
    [Fld.OTP_RD_POLICY_VAL]⟩,
  ⟨0x1fc34500, [(34, 0x4)], .single,
    [Fld.OTP_RD_SEAL_VAL]⟩,
  ⟨0x1fc34800, [(256, 0x4)], .single,
    [Fld.OTP_RD_REPAIR_VAL]⟩]

/-! ### Block TDM (R500) -/

def Reg.TDM_CFG : Nat := 0x1fc38000
def Fld.TDM_CFG_EN : Fld := ⟨31, 31, .rw, 1⟩
def Fld.TDM_CFG_HOLD : Fld := ⟨15, 8, .rw, 0x3c⟩
def Fld.TDM_CFG_HB_SPAN : Fld := ⟨5, 0, .rw, 0x3a⟩
def Reg.TDM_CTRL : Nat := 0x1fc38004
def Fld.TDM_CTRL_FORCE_SWITCH : Fld := ⟨3, 3, .wo, 0⟩
def Fld.TDM_CTRL_RELEASE : Fld := ⟨2, 2, .wo, 0⟩
def Fld.TDM_CTRL_CLAIM : Fld := ⟨1, 1, .wo, 0⟩
def Fld.TDM_CTRL_HEARTBEAT : Fld := ⟨0, 0, .wo, 0⟩
def Reg.TDM_STATUS : Nat := 0x1fc38008
def Fld.TDM_STATUS_ACTIVE : Fld := ⟨31, 31, .ro, 0⟩
def Fld.TDM_STATUS_SWITCHING : Fld := ⟨30, 30, .ro, 0⟩
def Fld.TDM_STATUS_OVERLAP : Fld := ⟨29, 29, .ro, 0⟩
def Fld.TDM_STATUS_REFUSED : Fld := ⟨28, 28, .w1c, 0⟩
def Fld.TDM_STATUS_PRIMARY : Fld := ⟨27, 25, .ro, 0⟩
def Fld.TDM_STATUS_SELFTEST_FAILS : Fld := ⟨1, 0, .ro, 0⟩
def Reg.TDM_CKPT_BASE_LO : Nat := 0x1fc38010
def Fld.TDM_CKPT_BASE_LO_ADDR : Fld := ⟨31, 0, .rw, 0⟩
def Reg.TDM_CKPT_BASE_HI : Nat := 0x1fc38014
def Fld.TDM_CKPT_BASE_HI_ADDR : Fld := ⟨5, 0, .rw, 0⟩
def Reg.TDM_CKPT_PERIOD_LO : Nat := 0x1fc38018
def Fld.TDM_CKPT_PERIOD_LO_SPAN : Fld := ⟨31, 0, .rw, 0x28f5c29⟩
def Reg.TDM_CKPT_PERIOD_HI : Nat := 0x1fc3801c
def Fld.TDM_CKPT_PERIOD_HI_SPAN : Fld := ⟨31, 0, .rw, 0⟩
def Reg.TDM_SEQ_LO : Nat := 0x1fc38020
def Fld.TDM_SEQ_LO_SEQ : Fld := ⟨31, 0, .rw, 0⟩
def Reg.TDM_SEQ_HI : Nat := 0x1fc38024
def Fld.TDM_SEQ_HI_SEQ : Fld := ⟨31, 0, .rw, 0⟩
def Reg.TDM_LAST_SWITCH_FRAC : Nat := 0x1fc38028
def Fld.TDM_LAST_SWITCH_FRAC_FRAC : Fld := ⟨31, 0, .ro, 0⟩
def Reg.TDM_LAST_SWITCH_SEC : Nat := 0x1fc3802c
def Fld.TDM_LAST_SWITCH_SEC_SEC : Fld := ⟨31, 0, .ro, 0⟩
def Reg.TDM_OVL_COUNT : Nat := 0x1fc38030
def Fld.TDM_OVL_COUNT_COUNT : Fld := ⟨8, 0, .ro, 0⟩
def Reg.TDM_OVL_IDX : Nat := 0x1fc38034
def Fld.TDM_OVL_IDX_INDEX : Fld := ⟨7, 0, .rw, 0⟩
def Reg.TDM_OVL_ADDR : Nat := 0x1fc38038
def Fld.TDM_OVL_ADDR_ADDR : Fld := ⟨31, 0, .ro, 0⟩
def Reg.TDM_OVL_VALUE : Nat := 0x1fc3803c
def Fld.TDM_OVL_VALUE_VALUE : Fld := ⟨31, 0, .ro, 0⟩
def Reg.TDM_OVL_HART : Nat := 0x1fc38040
def Fld.TDM_OVL_HART_HART : Fld := ⟨24, 18, .ro, 0⟩
def Reg.TDM_OVL_FRAC : Nat := 0x1fc38044
def Fld.TDM_OVL_FRAC_FRAC : Fld := ⟨31, 0, .ro, 0⟩
def Reg.TDM_FAILOVERS_LO : Nat := 0x1fc38100
def Fld.TDM_FAILOVERS_LO_COUNT : Fld := ⟨31, 0, .ro, 0⟩
def Reg.TDM_FAILOVERS_HI : Nat := 0x1fc38104
def Fld.TDM_FAILOVERS_HI_COUNT : Fld := ⟨31, 0, .ro, 0⟩
def Reg.TDM_HANDOVERS_LO : Nat := 0x1fc38108
def Fld.TDM_HANDOVERS_LO_COUNT : Fld := ⟨31, 0, .ro, 0⟩
def Reg.TDM_HANDOVERS_HI : Nat := 0x1fc3810c
def Fld.TDM_HANDOVERS_HI_COUNT : Fld := ⟨31, 0, .ro, 0⟩
def Reg.TDM_BLOCKED_LO : Nat := 0x1fc38110
def Fld.TDM_BLOCKED_LO_COUNT : Fld := ⟨31, 0, .ro, 0⟩
def Reg.TDM_BLOCKED_HI : Nat := 0x1fc38114
def Fld.TDM_BLOCKED_HI_COUNT : Fld := ⟨31, 0, .ro, 0⟩
def Reg.TDM_OVL_WRITES_LO : Nat := 0x1fc38118
def Fld.TDM_OVL_WRITES_LO_COUNT : Fld := ⟨31, 0, .ro, 0⟩
def Reg.TDM_OVL_WRITES_HI : Nat := 0x1fc3811c
def Fld.TDM_OVL_WRITES_HI_COUNT : Fld := ⟨31, 0, .ro, 0⟩
def Reg.TDM_OVL_LOST_LO : Nat := 0x1fc38120
def Fld.TDM_OVL_LOST_LO_COUNT : Fld := ⟨31, 0, .ro, 0⟩
def Reg.TDM_OVL_LOST_HI : Nat := 0x1fc38124
def Fld.TDM_OVL_LOST_HI_COUNT : Fld := ⟨31, 0, .ro, 0⟩
def Reg.TDM_CNT_OVF : Nat := 0x1fc381f0
def Fld.TDM_CNT_OVF_OVF : Fld := ⟨4, 0, .w1c, 0⟩
def Ctr.TDM_FAILOVERS : Ctr := ⟨0x1fc38100, 0x1fc381f0, 0⟩
def Ctr.TDM_HANDOVERS : Ctr := ⟨0x1fc38108, 0x1fc381f0, 1⟩
def Ctr.TDM_BLOCKED : Ctr := ⟨0x1fc38110, 0x1fc381f0, 2⟩
def Ctr.TDM_OVL_WRITES : Ctr := ⟨0x1fc38118, 0x1fc381f0, 3⟩
def Ctr.TDM_OVL_LOST : Ctr := ⟨0x1fc38120, 0x1fc381f0, 4⟩

def regRowsTDM : List RegDef := [
  ⟨0x1fc38000, [], .single,
    [Fld.TDM_CFG_EN, Fld.TDM_CFG_HOLD, Fld.TDM_CFG_HB_SPAN]⟩,
  ⟨0x1fc38004, [], .single,
    [Fld.TDM_CTRL_FORCE_SWITCH, Fld.TDM_CTRL_RELEASE, Fld.TDM_CTRL_CLAIM, Fld.TDM_CTRL_HEARTBEAT]⟩,
  ⟨0x1fc38008, [], .single,
    [Fld.TDM_STATUS_ACTIVE, Fld.TDM_STATUS_SWITCHING, Fld.TDM_STATUS_OVERLAP, Fld.TDM_STATUS_REFUSED, Fld.TDM_STATUS_PRIMARY, Fld.TDM_STATUS_SELFTEST_FAILS]⟩,
  ⟨0x1fc38010, [], .lo,
    [Fld.TDM_CKPT_BASE_LO_ADDR]⟩,
  ⟨0x1fc38014, [], .hi,
    [Fld.TDM_CKPT_BASE_HI_ADDR]⟩,
  ⟨0x1fc38018, [], .lo,
    [Fld.TDM_CKPT_PERIOD_LO_SPAN]⟩,
  ⟨0x1fc3801c, [], .hi,
    [Fld.TDM_CKPT_PERIOD_HI_SPAN]⟩,
  ⟨0x1fc38020, [], .lo,
    [Fld.TDM_SEQ_LO_SEQ]⟩,
  ⟨0x1fc38024, [], .hi,
    [Fld.TDM_SEQ_HI_SEQ]⟩,
  ⟨0x1fc38028, [], .single,
    [Fld.TDM_LAST_SWITCH_FRAC_FRAC]⟩,
  ⟨0x1fc3802c, [], .single,
    [Fld.TDM_LAST_SWITCH_SEC_SEC]⟩,
  ⟨0x1fc38030, [], .single,
    [Fld.TDM_OVL_COUNT_COUNT]⟩,
  ⟨0x1fc38034, [], .single,
    [Fld.TDM_OVL_IDX_INDEX]⟩,
  ⟨0x1fc38038, [], .single,
    [Fld.TDM_OVL_ADDR_ADDR]⟩,
  ⟨0x1fc3803c, [], .single,
    [Fld.TDM_OVL_VALUE_VALUE]⟩,
  ⟨0x1fc38040, [], .single,
    [Fld.TDM_OVL_HART_HART]⟩,
  ⟨0x1fc38044, [], .single,
    [Fld.TDM_OVL_FRAC_FRAC]⟩,
  ⟨0x1fc38100, [], .lo,
    [Fld.TDM_FAILOVERS_LO_COUNT]⟩,
  ⟨0x1fc38104, [], .hi,
    [Fld.TDM_FAILOVERS_HI_COUNT]⟩,
  ⟨0x1fc38108, [], .lo,
    [Fld.TDM_HANDOVERS_LO_COUNT]⟩,
  ⟨0x1fc3810c, [], .hi,
    [Fld.TDM_HANDOVERS_HI_COUNT]⟩,
  ⟨0x1fc38110, [], .lo,
    [Fld.TDM_BLOCKED_LO_COUNT]⟩,
  ⟨0x1fc38114, [], .hi,
    [Fld.TDM_BLOCKED_HI_COUNT]⟩,
  ⟨0x1fc38118, [], .lo,
    [Fld.TDM_OVL_WRITES_LO_COUNT]⟩,
  ⟨0x1fc3811c, [], .hi,
    [Fld.TDM_OVL_WRITES_HI_COUNT]⟩,
  ⟨0x1fc38120, [], .lo,
    [Fld.TDM_OVL_LOST_LO_COUNT]⟩,
  ⟨0x1fc38124, [], .hi,
    [Fld.TDM_OVL_LOST_HI_COUNT]⟩,
  ⟨0x1fc381f0, [], .single,
    [Fld.TDM_CNT_OVF_OVF]⟩]

/-! ### Block THM (R515) -/

def Reg.THM_CFG : Nat := 0x1fc3c000
def Fld.THM_CFG_GOV_EN : Fld := ⟨31, 31, .rw, 1⟩
def Fld.THM_CFG_GOV_TEMP : Fld := ⟨30, 24, .rw, 0x64⟩
def Fld.THM_CFG_HYST : Fld := ⟨23, 20, .rw, 3⟩
def Reg.THM_STATUS : Nat := 0x1fc3c004
def Fld.THM_STATUS_THROTTLE : Fld := ⟨31, 31, .ro, 0⟩
def Fld.THM_STATUS_OVER_MAX : Fld := ⟨30, 30, .ro, 0⟩
def Fld.THM_STATUS_HBM_OVER : Fld := ⟨29, 29, .ro, 0⟩
def Fld.THM_STATUS_EVT : Fld := ⟨28, 28, .w1c, 0⟩
def Fld.THM_STATUS_LEVEL : Fld := ⟨27, 24, .ro, 0⟩
def Fld.THM_STATUS_THERM_LEVEL : Fld := ⟨23, 20, .ro, 0⟩
def Fld.THM_STATUS_ELEC_LEVEL : Fld := ⟨19, 16, .ro, 0⟩
def Fld.THM_STATUS_FDIE_TEMP : Fld := ⟨15, 8, .ro, 0⟩
def Fld.THM_STATUS_TDIE_TEMP : Fld := ⟨7, 0, .ro, 0⟩
def Reg.THM_MAX : Nat := 0x1fc3c008
def Fld.THM_MAX_FDIE : Fld := ⟨15, 8, .rc, 0⟩
def Fld.THM_MAX_TDIE : Fld := ⟨7, 0, .rc, 0⟩
def Reg.THM_TRIP_LOG : Nat := 0x1fc3c00c
def Fld.THM_TRIP_LOG_TRIPPED : Fld := ⟨31, 31, .ro, 0⟩
def Fld.THM_TRIP_LOG_SOURCE : Fld := ⟨30, 29, .ro, 0⟩
def Fld.THM_TRIP_LOG_TEMP : Fld := ⟨23, 16, .ro, 0⟩
def Fld.THM_TRIP_LOG_STACK : Fld := ⟨2, 0, .ro, 0⟩
def Reg.THM_ALERT_MASK : Nat := 0x1fc3c010
def Fld.THM_ALERT_MASK_EN : Fld := ⟨4, 0, .rw, 0x1e⟩

def regRowsTHM : List RegDef := [
  ⟨0x1fc3c000, [], .single,
    [Fld.THM_CFG_GOV_EN, Fld.THM_CFG_GOV_TEMP, Fld.THM_CFG_HYST]⟩,
  ⟨0x1fc3c004, [], .single,
    [Fld.THM_STATUS_THROTTLE, Fld.THM_STATUS_OVER_MAX, Fld.THM_STATUS_HBM_OVER, Fld.THM_STATUS_EVT, Fld.THM_STATUS_LEVEL, Fld.THM_STATUS_THERM_LEVEL, Fld.THM_STATUS_ELEC_LEVEL, Fld.THM_STATUS_FDIE_TEMP, Fld.THM_STATUS_TDIE_TEMP]⟩,
  ⟨0x1fc3c008, [], .single,
    [Fld.THM_MAX_FDIE, Fld.THM_MAX_TDIE]⟩,
  ⟨0x1fc3c00c, [], .single,
    [Fld.THM_TRIP_LOG_TRIPPED, Fld.THM_TRIP_LOG_SOURCE, Fld.THM_TRIP_LOG_TEMP, Fld.THM_TRIP_LOG_STACK]⟩,
  ⟨0x1fc3c010, [], .single,
    [Fld.THM_ALERT_MASK_EN]⟩]

/-! ### Block PWR (R516) -/

def Reg.PWR_CFG : Nat := 0x1fc40000
def Fld.PWR_CFG_ICC_EN : Fld := ⟨31, 31, .rw, 1⟩
def Fld.PWR_CFG_ICC_MAX : Fld := ⟨11, 0, .rw, 0x320⟩
def Reg.PWR_STATUS : Nat := 0x1fc40004
def Fld.PWR_STATUS_MARGIN_ALARM : Fld := ⟨31, 31, .ro, 0⟩
def Fld.PWR_STATUS_EVT : Fld := ⟨30, 30, .w1c, 0⟩
def Fld.PWR_STATUS_RAIL_OUT : Fld := ⟨7, 0, .ro, 0⟩
def Reg.PWR_ICC_AVG : Nat := 0x1fc40008
def Fld.PWR_ICC_AVG_AMPS : Fld := ⟨11, 0, .ro, 0⟩
def Reg.PWR_FENCE : Nat := 0x1fc4000c
def Fld.PWR_FENCE_EGRESS : Fld := ⟨31, 16, .ro, 0⟩
def Fld.PWR_FENCE_INGRESS : Fld := ⟨15, 0, .ro, 0⟩
def Reg.PWR_SPARE_STAGE : Nat := 0x1fc40010
def Fld.PWR_SPARE_STAGE_EGRESS : Fld := ⟨31, 16, .ro, 0⟩
def Fld.PWR_SPARE_STAGE_INGRESS : Fld := ⟨15, 0, .ro, 0⟩
def Reg.PWR_FENCE_DROP_LO (i : Nat) : Nat := 0x1fc40100 + 0x8 * i
def Fld.PWR_FENCE_DROP_LO_COUNT : Fld := ⟨31, 0, .ro, 0⟩
def Reg.PWR_FENCE_DROP_HI (i : Nat) : Nat := 0x1fc40104 + 0x8 * i
def Fld.PWR_FENCE_DROP_HI_COUNT : Fld := ⟨31, 0, .ro, 0⟩
def Reg.PWR_THROTTLE_PERIODS_LO : Nat := 0x1fc40180
def Fld.PWR_THROTTLE_PERIODS_LO_COUNT : Fld := ⟨31, 0, .ro, 0⟩
def Reg.PWR_THROTTLE_PERIODS_HI : Nat := 0x1fc40184
def Fld.PWR_THROTTLE_PERIODS_HI_COUNT : Fld := ⟨31, 0, .ro, 0⟩
def Reg.PWR_CNT_OVF : Nat := 0x1fc401f0
def Fld.PWR_CNT_OVF_OVF : Fld := ⟨16, 0, .w1c, 0⟩
def Ctr.PWR_FENCE_DROP (i : Nat) : Ctr := ⟨0x1fc40100 + 0x8 * i, 0x1fc401f0, i⟩
def Ctr.PWR_THROTTLE_PERIODS : Ctr := ⟨0x1fc40180, 0x1fc401f0, 16⟩

def regRowsPWR : List RegDef := [
  ⟨0x1fc40000, [], .single,
    [Fld.PWR_CFG_ICC_EN, Fld.PWR_CFG_ICC_MAX]⟩,
  ⟨0x1fc40004, [], .single,
    [Fld.PWR_STATUS_MARGIN_ALARM, Fld.PWR_STATUS_EVT, Fld.PWR_STATUS_RAIL_OUT]⟩,
  ⟨0x1fc40008, [], .single,
    [Fld.PWR_ICC_AVG_AMPS]⟩,
  ⟨0x1fc4000c, [], .single,
    [Fld.PWR_FENCE_EGRESS, Fld.PWR_FENCE_INGRESS]⟩,
  ⟨0x1fc40010, [], .single,
    [Fld.PWR_SPARE_STAGE_EGRESS, Fld.PWR_SPARE_STAGE_INGRESS]⟩,
  ⟨0x1fc40100, [(16, 0x8)], .lo,
    [Fld.PWR_FENCE_DROP_LO_COUNT]⟩,
  ⟨0x1fc40104, [(16, 0x8)], .hi,
    [Fld.PWR_FENCE_DROP_HI_COUNT]⟩,
  ⟨0x1fc40180, [], .lo,
    [Fld.PWR_THROTTLE_PERIODS_LO_COUNT]⟩,
  ⟨0x1fc40184, [], .hi,
    [Fld.PWR_THROTTLE_PERIODS_HI_COUNT]⟩,
  ⟨0x1fc401f0, [], .single,
    [Fld.PWR_CNT_OVF_OVF]⟩]

end Sys2Proof.Machine
end

