-- ==== Sys2Proof/Machine/RegTable.lean ====
section
/-! DEFINITION. The register table of the whole device: the blocks of R537 and R538 with their rows, and the word
every register holds after reset. -/

namespace Sys2Proof.Machine

/-- A block of the register map: its base, the count and stride of its instances, its size in bytes and its rows. -/
structure RegBlock where
  base : Nat
  dims : List (Nat × Nat)
  size : Nat
  rows : List RegDef

/-- Whether an offset lies in some instance of a block. -/
def blockMatch (size : Nat) : List (Nat × Nat) → Nat → Bool
  | [], o => decide (o < size)
  | (count, stride) :: rest, o => decide (o / stride < count) && blockMatch size rest (o % stride)

def RegBlock.holds (b : RegBlock) (a : Nat) : Bool := decide (b.base ≤ a) && blockMatch b.size b.dims (a - b.base)

/-- Every register block of R537 and R538. -/
def regBlocks : List RegBlock :=
  [⟨0x0, [], 0x10000, regRowsDEV⟩,
   ⟨0x1fc44000, [(2, 0xffc8000)], 0x4000, regRowsD2D⟩,
   ⟨0x1fc00000, [], 0x4000, regRowsTIME⟩,
   ⟨0x10000000, [(16, 0x400000)], 0x4000, regRowsPORT⟩,
   ⟨0x10004000, [(16, 0x400000)], 0x4000, regRowsOTN⟩,
   ⟨0x10008000, [(16, 0x400000)], 0x4000, regRowsPRS⟩,
   ⟨0x1fc08000, [], 0x4000, regRowsPRSF⟩,
   ⟨0x1000c000, [(16, 0x400000)], 0x4000, regRowsFWH⟩,
   ⟨0x1fc04000, [], 0x4000, regRowsFWHE⟩,
   ⟨0x10010000, [(16, 0x400000)], 0x4000, regRowsLPMS⟩,
   ⟨0x1fc0c000, [], 0x4000, regRowsLPM⟩,
   ⟨0x1fc10000, [], 0x4000, regRowsEXM⟩,
   ⟨0x1fc14000, [], 0x4000, regRowsEGT⟩,
   ⟨0x1fc18000, [], 0x4000, regRowsLRN⟩,
   ⟨0x1fc1c000, [], 0x4000, regRowsACL⟩,
   ⟨0x10014000, [(16, 0x400000)], 0x4000, regRowsACLS⟩,
   ⟨0x1fc20000, [], 0x4000, regRowsPAT⟩,
   ⟨0x2fc00000, [], 0x4000, regRowsFAB⟩,
   ⟨0x22000000, [(8, 0x400000)], 0x4000, regRowsFABB⟩,
   ⟨0x20000000, [(4, 0x400000)], 0x4000, regRowsBUF⟩,
   ⟨0x20004000, [(4, 0x400000)], 0x4000, regRowsADM⟩,
   ⟨0x20008000, [(4, 0x400000)], 0x4000, regRowsMCR⟩,
   ⟨0x2000c000, [(4, 0x400000)], 0x4000, regRowsSCH⟩,
   ⟨0x10018000, [(16, 0x400000)], 0x4000, regRowsGATE⟩,
   ⟨0x10018000, [(16, 0x400000)], 0x4000, regRowsGATEC⟩,
   ⟨0x1fc24000, [], 0x4000, regRowsTDC⟩,
   ⟨0x1fc24000, [], 0x4000, regRowsTDCC⟩,
   ⟨0x2fc04000, [], 0x4000, regRowsHBMC⟩,
   ⟨0x2fc04000, [], 0x4000, regRowsHBMS⟩,
   ⟨0x1fc80000, [], 0x4000, regRowsHIF⟩,
   ⟨0x1fc90000, [(4, 0x10000)], 0x10000, regRowsHIFP⟩,
   ⟨0x1fc48000, [], 0x4000, regRowsRING⟩,
   ⟨0x1fd00000, [], 0x200000, regRowsRINGS⟩,
   ⟨0x1fc28000, [], 0x4000, regRowsCPX⟩,
   ⟨0x40000000, [(64, 0x4000)], 0x4000, regRowsKVCP⟩,
   ⟨0x40100000, [], 0x4000, regRowsKVC⟩,
   ⟨0x1fc2c000, [], 0x4000, regRowsICR⟩,
   ⟨0x25000000, [], 0x4000, regRowsCYC⟩,
   ⟨0x30000000, [], 0x4000, regRowsCYCW⟩,
   ⟨0x2fc08000, [], 0x4000, regRowsTRU⟩,
   ⟨0x50000000, [(2, 0x100000)], 0x100000, regRowsPMC⟩,
   ⟨0x1fc30000, [], 0x4000, regRowsBOOT⟩,
   ⟨0x1fc34000, [], 0x4000, regRowsOTP⟩,
   ⟨0x1fc38000, [], 0x4000, regRowsTDM⟩,
   ⟨0x1fc3c000, [], 0x4000, regRowsTHM⟩,
   ⟨0x1fc40000, [], 0x4000, regRowsPWR⟩]

/-- The first definition, among the rows of the blocks that hold `a`, that covers `a`. -/
def findDef : List RegBlock → Nat → Option RegDef
  | [], _ => none
  | b :: r, a =>
    if b.holds a then
      match b.rows.find? (fun d => d.covers a) with
      | some d => some d
      | none => findDef r a
    else findDef r a

/-- The register definition at an address, none where the address is unassigned (R534). -/
def regDef (a : Nat) : Option RegDef := findDef regBlocks a

end Sys2Proof.Machine
end

