-- ==== Sys2Proof/Machine/RegReset.lean ====
section
/-! DEFINITION. The word each register holds after reset: its table's Reset column, and the resets that depend on
an index or that the hardware draws. -/

namespace Sys2Proof.Machine

/-- The capacity word after PORST_N (R544): die 1 is the Forwarding die, 2 the Traffic die. -/
def capReset (d c : Nat) : Word :=
  if d = 1 then
    if c < 32 then 0x01640001
    else if c < 48 then 0x02640008
    else if c = 63 then 0x02640000
    else 0
  else
    if c < 4 then 0x00640000
    else if 8 ≤ c ∧ c < 16 then 0x00640018
    else if c = 20 then 0x00640000
    else if c = 63 then 0x04640000
    else 0

/-- The resets that depend on an index: R340 (host port 0 enabled), R418 (k15 unpowered), R419 (page 0 of the
Cyclometer), R544; and those the hardware draws at a start (R251, R439, R480): the first three draws. -/
def resetFix (a : Nat) (w : Word) : Word :=
  if a = Reg.HIF_PORT_CFG 0 then Fld.HIF_PORT_CFG_EN.put w 1
  else if a = Reg.DEV_ID then Fld.DEV_ID_METER.put w 1
  else if a = Reg.CYC_STATUS then Fld.CYC_STATUS_ENABLED.put w 1
  else if a = Reg.DEV_CORE_TARGET then
    Fld.DEV_CORE_TARGET_FCORE.put (Fld.DEV_CORE_TARGET_TCORE.put w (20 + (Config.coreTarget true).val)) (20 + (Config.coreTarget false).val)
  else if a = Reg.CPX_CAP 15 then Fld.CPX_CAP_POWERED.put w 0
  else if a = Reg.KVC_PAGE_BIND 0 then Fld.KVC_PAGE_BIND_CYC.put w 1
  else if 0x1000 ≤ a ∧ a < 0x1200 then capReset (1 + (a - 0x1000) / 256) ((a - 0x1000) / 4 % 64)
  else if a = Reg.FAB_DEV_CFG then Fld.FAB_DEV_CFG_INCARNATION.put w ((Config.draw 0).toNat % 65535 + 1)
  else if Reg.CYC_NONCE 0 ≤ a ∧ a ≤ Reg.CYC_NONCE 3 then
    BitVec.ofNat 32 ((Config.draw 1).toNat >>> (8 * (a - Reg.CYC_NONCE 0)))
  else if Reg.BOOT_NONCE 0 ≤ a ∧ a ≤ Reg.BOOT_NONCE 3 then
    BitVec.ofNat 32 ((Config.draw 2).toNat >>> (8 * (a - Reg.BOOT_NONCE 0)))
  else w

/-- The word at an address after reset; an unassigned address reads zero (R10). -/
def resetWord (a : Nat) : Word :=
  match regDef a with
  | none => 0
  | some d => resetFix a d.resetWord

end Sys2Proof.Machine
end

