-- ==== Sys2Proof/Machine/ParseTypes.lean ====
section
/-! DEFINITION. The data types of the header parser (R119 to R130). -/

namespace Sys2Proof.Machine

/-- The headers of R119. -/
inductive HKind where
  | ith | eth | tag | mpls | ipv4 | ipv6 | ext | udp | tcp | gre | vxlan | geneve | esp | ptp
  deriving DecidableEq, Repr

/-- A header followed: where it lies, its length and its level (R120). -/
structure Hdr where
  kind : HKind
  off : Nat
  len : Nat
  level : Nat
  deriving DecidableEq, Repr

/-- What the parser takes from its slice's registers (R135). -/
structure PrsCfg where
  mplsPeek : Bool
  ipipEn : Bool
  vxlan : Nat
  geneve : Nat
  deriving DecidableEq, Repr

/-- What comes next in the chain. -/
inductive Nxt where
  | ith
  | eth
  /-- a header named by an EtherType -/
  | ethertype (t : Nat)
  | mplsPayload
  /-- a header named by an IP protocol or next header number -/
  | proto (p : Nat)
  /-- the next extension header or upper layer of an IPv6 header -/
  | v6next (p : Nat)
  | vxlan | geneve | ptp
  | done
  deriving DecidableEq, Repr

/-- The fragment key of R131. -/
structure FragKey where
  v6 : Bool
  src : Nat
  dst : Nat
  proto : Nat
  ident : Nat
  deriving DecidableEq, Repr

/-- The running state and result of the parse. -/
structure Parse where
  hdrs : List Hdr
  /-- a failing or cut header whose fixed fields count as parsed (R125) -/
  partHdr : Option Hdr
  horizon : Bool
  mal : Option Nat
  /-- comparisons that wait for the tail, in chain order: class and frame end needed (R126) -/
  waits : List (Nat × Nat)
  csumErr : Bool
  /-- the fragment result: the key, and whether it is a first fragment (R130) -/
  frag : Option (FragKey × Bool)
  /-- the chain ended before its end because the horizon cut it -/
  off : Nat
  level : Nat
  tags : Nat
  labels : Nat
  exts : Nat
  /-- the IPv6 header the extension chain belongs to: its offset and payload length -/
  v6off : Nat
  v6len : Nat
  fragHdr : Bool
  /-- end of the payload of the header that carries what follows (R124) -/
  payEnd : Option Nat
  nxt : Nxt
  deriving DecidableEq, Repr

end Sys2Proof.Machine
end

