-- ==== Sys2Proof/Machine/KMap.lean ====
section
/-! DEFINITION. A sparse table: a list of (key, value) pairs with strictly rising keys in which no entry equals
what an unlisted key reads as. It is the one container of State for memories, register words and tables. -/

namespace Sys2Proof.Machine

/-- A sparse table keyed by natural numbers. -/
structure KMap (α : Type) where
  l : List (Nat × α)
  deriving DecidableEq, Repr

/-- The empty table: every key reads as its default. -/
def KMap.empty {α : Type} : KMap α := ⟨[]⟩

/-- The entry listed for a key. -/
def lfind {α : Type} : List (Nat × α) → Nat → Option α
  | [], _ => none
  | (j, v) :: r, k => if j = k then some v else lfind r k

/-- Replaces or inserts an entry, keeping the keys rising. -/
def lins {α : Type} : List (Nat × α) → Nat → α → List (Nat × α)
  | [], k, v => [(k, v)]
  | (j, w) :: r, k, v =>
    if k < j then (k, v) :: (j, w) :: r
    else if k = j then (k, v) :: r
    else (j, w) :: lins r k v

/-- Removes what is listed for a key. -/
def ldel {α : Type} : List (Nat × α) → Nat → List (Nat × α)
  | [], _ => []
  | (j, w) :: r, k => if k = j then ldel r k else (j, w) :: ldel r k

/-- The value at a key; `d` is what an unlisted key reads as. -/
def KMap.get {α : Type} (d : α) (m : KMap α) (k : Nat) : α := (lfind m.l k).getD d

/-- Sets the value at a key, keeping the canonical form: the unlisted value removes the entry. -/
def KMap.set {α : Type} [DecidableEq α] (d : α) (m : KMap α) (k : Nat) (v : α) : KMap α :=
  if v = d then ⟨ldel m.l k⟩ else ⟨lins m.l k v⟩

/-- The keys listed, in rising order. -/
def KMap.keys {α : Type} (m : KMap α) : List Nat := m.l.map (·.1)

/-- Keeps the entries that satisfy a test. -/
def KMap.filter {α : Type} (m : KMap α) (p : Nat → α → Bool) : KMap α := ⟨m.l.filter (fun e => p e.1 e.2)⟩

/-- Whether a list's keys rise strictly. -/
def lsorted {α : Type} : List (Nat × α) → Bool
  | [] => true
  | [_] => true
  | (j, _) :: (k, w) :: r => decide (j < k) && lsorted ((k, w) :: r)

/-- The canonical form: keys rise strictly and no entry equals what its unlisted key reads as. -/
def KMap.wf {α : Type} [DecidableEq α] (d : Nat → α) (m : KMap α) : Bool :=
  lsorted m.l && m.l.all (fun e => decide (e.2 ≠ d e.1))

end Sys2Proof.Machine
end

