-- ==== Sys2Proof/Machine/TypesA.lean ====
section
/-! DEFINITION. The state of the register bus, the two dies, the time block, the host ports and the rings, as far
as no register holds it. -/

namespace Sys2Proof.Machine

/-- The AER errors of R354 that the device records for a function. -/
inductive AerErr where
  | receiverError | badTlp | badDllp | replayTimeout | replayRollover | advisoryNonFatal | correctedInternal
  | completionTimeout | unsupportedRequest | completerAbort | unexpectedCompletion | poisonedTlp
  | uncorrectableInternal | dataLinkProtocol | surpriseDown | flowControl | receiverOverflow | malformedTlp
  deriving DecidableEq, Repr

/-- The classes of R354. -/
inductive ErrClass where
  | correctable | nonFatal | fatal
  deriving DecidableEq, Repr

/-- The exceptions of a hart that the rules name (R390, R395 to R399). -/
inductive HartExc where
  | illegal | fetchFault | loadFault | storeFault | loadMisaligned | storeMisaligned | counterOverflow
  deriving DecidableEq, Repr

/-- What the device presents outside itself, in order: its completions, host writes, messages, pins and words on
its lanes (the model's own field, assumption 3). -/
inductive Output where
  /-- the value a register read returns -/
  | regData (r : Req) (a : Nat) (v : Word)
  /-- a posted write to the memory of a function's host (R353) -/
  | hostWrite (f : Nat) (addr : Nat) (data : List Byte)
  /-- a memory read request of the device, with its tag (R359) -/
  | hostRead (f tag : Nat) (addr len : Nat)
  /-- an MSI-X message of a function's vector (R345) -/
  | msix (f vector : Nat)
  /-- ERR_COR, ERR_NONFATAL or ERR_FATAL of a function (R354, R356) -/
  | errMsg (f : Nat) (c : ErrClass)
  /-- a completion of the device for a host read: data, or Unsupported Request, with the EP bit (R335, R350) -/
  | hostCpl (f : Nat) (ok poisoned : Bool) (data : List Byte)
  /-- a hart's trap, with the instruction and the address it names (R390, R395 to R399) -/
  | trap (h : Nat) (c : HartExc) (epc addr : Nat)
  /-- a configuration request answered with Configuration Request Retry Status (R341, R358) -/
  | crs (f : Nat)
  /-- a cell on a fabric lane: its header, what the internal header of a first cell says, and its payload behind it (R238, R240) -/
  | cell (lane : Nat) (hdr : BitVec 128) (ith : Option Ith) (payload : List Byte)
  /-- a control word on a fabric lane (R255) -/
  | ctrlWord (lane : Nat) (w : List Byte)
  /-- a frame whose transmission begins on a line port as an express or a preemptable frame, padding included, without its FCS (R80) -/
  | frame (p : Nat) (pre : Bool) (data : List Byte)
  /-- a verify mPacket on a line port (R86) -/
  | verify (p : Nat)
  /-- the timer interrupt of a core cluster (R492) -/
  | timerIrq (k : Nat)
  /-- an answer of the management port, or none (R530) -/
  | smb (data : Option (List Byte))
  /-- the bits that a JTAG scan shifts out of TDO, the first first (R529) -/
  | tdo (bits : List Bool)
  deriving DecidableEq, Repr

/-- The holding state of one requester (R14). -/
structure HoldSt where
  /-- the `_HI` half latched by a `_LO` read, and the address it belongs to -/
  readHi : Option (Nat × Word)
  /-- the `_LO` write held, and its address -/
  writeLo : Option (Nat × Word)
  deriving DecidableEq, Repr

def HoldSt.none : HoldSt := ⟨.none, .none⟩

/-- The die-to-die link and the dies, beyond their registers (R36 to R42, R542). -/
structure DieSt where
  /-- consecutive CRC failures of the flit in the replay buffer of each end (R37): Forwarding die, Traffic die -/
  crcF : Nat
  crcT : Nat
  /-- elapsed time at which the running link outage began: t0 of R39 -/
  t0 : Option Nat
  /-- the die whose reset or failure opened the outage; both after a failure seen by both -/
  lostF : Bool
  lostT : Bool
  /-- elapsed time at which the reset die left reset and the retrain began (R39, R542) -/
  retrainAt : Option Nat
  deriving DecidableEq, Repr

def DieSt.init : DieSt := ⟨0, 0, .none, false, false, .none⟩

/-- The time block (R46 to R68), beyond its registers. Instants are counts of 2^-32 s. -/
structure TimeSt where
  /-- the master accumulator: 48 bits of seconds, 32 of fraction, 32 of sub-fraction (R46) -/
  master : BitVec 112
  /-- the follower accumulator of the Traffic die (R51) -/
  follower : BitVec 112
  /-- the increment that the follower applies -/
  followerInc : BitVec 64
  /-- time elapsed since start, in units of 2^-64 s: the master's advance without its steps, so that a target
  that is a start plus a span moves with a step (R49) -/
  mono : Nat
  /-- the increment written and not yet in force, with the elapsed time of its target (R48) -/
  pendInc : Option (BitVec 64 × Nat)
  /-- the step captured and not yet in force: the instant and the elapsed time of its target (R49) -/
  pendStep : Option (Nat × Nat)
  /-- elapsed time of the last accepted TIME_INC write (R67) -/
  lastInc : Nat
  /-- the instant captured by each requester's read of TIME_NOW_FRAC (R68), by requester key -/
  nowCap : KMap Nat
  /-- the seconds captured by each requester's read of TIME_PPS_IN_FRAC (R68) -/
  ppsCap : KMap Nat
  /-- the instant of the last 1PPS capture (R54) -/
  ppsAt : Nat
  /-- elapsed time of the last accepted 1PPS edge -/
  ppsEdge : Option Nat
  /-- the level of PTP_PPS_OUT (R57) -/
  ppsOut : Bool
  /-- elapsed time at which the running pulse falls -/
  ppsFall : Nat
  /-- the last index fired of each absolute trigger (R63), by trigger number -/
  trig : KMap Nat
  /-- the once-per-second latch is between its close and its publication: the second closed, and the elapsed time of its
  publication (R64) -/
  latch : Option (Nat × Nat)
  /-- the latched quantities cover a step: the next latch marks a discontinuity (R49) -/
  discont : Bool
  /-- the recovered-clock counts of the closing bank (R56) -/
  rclk0 : Word
  rclk1 : Word
  /-- whether RCLK_OUT0 and RCLK_OUT1 have run in the open window (R56) -/
  rclkOn0 : Bool
  rclkOn1 : Bool
  /-- elapsed time at which the forwarding lease ends (R483) -/
  lease : Option Nat
  /-- 3.0 GHz cycles since PORST_N -/
  cycles : Nat
  deriving DecidableEq, Repr

/-- The time block after PORST_N (R47). -/
def TimeSt.init : TimeSt :=
  { master := 0, follower := 0, followerInc := 0x16E80FE03, mono := 0, pendInc := .none, pendStep := .none,
    lastInc := 0, nowCap := .empty, ppsCap := .empty, ppsAt := 0, ppsEdge := .none, ppsOut := false, ppsFall := 0,
    trig := .empty, latch := .none, discont := false, rclk0 := 0, rclk1 := 0, rclkOn0 := false, rclkOn1 := false, lease := .none, cycles := 0 }

/-- What a device-issued read was for (R360). -/
inductive ReadFor where
  /-- `n` descriptors of ring `g` from index `i` -/
  | descFetch (g i n : Nat)
  /-- the data at offset `o` of the TX frame of ring `g` that begins at descriptor index `i` -/
  | txData (g i o : Nat)
  /-- the shadow data of the compare in progress on ring `g` -/
  | shadow (g : Nat)
  /-- discarded when it arrives (R357) -/
  | stale
  deriving DecidableEq, Repr

/-- One outstanding device-issued read (R359). -/
structure TagSt where
  func : Nat
  use : ReadFor
  len : Nat
  /-- elapsed time at which it times out -/
  deadline : Nat
  /-- completion data received so far -/
  got : List Byte
  deriving DecidableEq, Repr

/-- An unlisted tag. -/
def TagSt.none : TagSt := ⟨0, .stale, 0, 0, []⟩

/-- What the configuration space of a function holds (R340, R343, R345, R346, R353, R354). -/
structure FuncSt where
  bme : Bool
  msixEn : Bool
  /-- Enable Relaxed Ordering -/
  relaxed : Bool
  /-- Completion Timeout Value of Device Control 2 (R359); a PF's governs its VFs -/
  ctoValue : Nat
  /-- VF Enable, of a PF -/
  vfEnable : Bool
  /-- log2 of the BAR0 size in 256 MiB units, 0 to 4 (R347) -/
  bar0 : Nat
  /-- log2 of the Max Read Request Size in 128-byte units, 0 to 5 (R340) -/
  mrrs : Nat
  /-- HIF_DVSEC_WIN (R346) -/
  win : Word
  /-- the AER errors recorded (R354) -/
  aer : List AerErr
  /-- reads outstanding when Bus Master Enable was cleared are still out (R357) -/
  draining : Bool
  /-- elapsed time at which the Function Level Reset began (R358) -/
  flrAt : Option Nat
  deriving DecidableEq, Repr

def FuncSt.init : FuncSt :=
  { bme := false, msixEn := false, relaxed := false, ctoValue := 0, vfEnable := false, bar0 := 0, mrrs := 2, win := 0, aer := [],
    draining := false, flrAt := .none }

/-- One MSI-X vector: its table entry and pending bit (R345). -/
structure VecSt where
  addr : Dword
  data : Word
  masked : Bool
  pend : Bool
  deriving DecidableEq, Repr

/-- A vector after reset: masked, as MSI-X has it (assumption 4). -/
def VecSt.init : VecSt := ⟨0, 0, true, false⟩

/-- An entry of the aperture map of a host port (R350). -/
structure AptEntry where
  valid : Bool
  /-- false: table DRAM; true: HBM -/
  hbm : Bool
  loc : Nat
  deriving DecidableEq, Repr

def AptEntry.init : AptEntry := ⟨false, false, 0⟩

/-- The host ports and functions, beyond their registers (R340 to R362). -/
structure HifSt where
  funcs : KMap FuncSt
  /-- MSI-X vectors, by function × 2,048 + vector -/
  vecs : KMap VecSt
  /-- outstanding tags, by host port × 16,384 + tag -/
  tags : KMap TagSt
  /-- quarantined tags, by host port × 16,384 + tag: the elapsed time at which they leave (R361) -/
  quar : KMap Nat
  /-- aperture entries, by host port × 2,048 + index -/
  apt : KMap AptEntry
  /-- HPh_PERST_N is asserted, by host port: 1 -/
  perst : KMap Nat
  deriving DecidableEq, Repr

def HifSt.init : HifSt :=
  { funcs := .empty, vecs := .empty, tags := .empty, quar := .empty, apt := .empty, perst := .empty }

/-- A TX frame whose descriptors are taken (R375). -/
structure TxFrame where
  /-- index of its first descriptor -/
  first : Nat
  /-- buffers: address and length -/
  bufs : List (Nat × Nat)
  ith : Bool
  ts : Bool
  ptpTag : Nat
  /-- data read so far, by its offset in the frame's data -/
  data : KMap (List Byte)
  /-- status of R376 found so far: 0 while good -/
  status : Nat
  /-- a pause discarded its reads: it is read again when the ring restarts (R370) -/
  reread : Bool
  deriving DecidableEq, Repr

/-- A read of TX data that waits for a tag: the frame, the offset in its data, the address and the length. -/
structure Chunk where
  first : Nat
  off : Nat
  addr : Nat
  len : Nat
  deriving DecidableEq, Repr

/-- A receive descriptor in use: its buffer, the bytes written there, and whether it broke the limits of R377. -/
structure RxUsed where
  addr : Nat
  len : Nat
  written : Nat
  bad : Bool
  deriving DecidableEq, Repr

/-- What a ring is writing for a frame or a punt (R379, R380). -/
structure RxWrite where
  /-- the ingress packet of a punt, or none for a queued frame -/
  punt : Option Nat
  /-- the copy whose frame it is, until its egress commit -/
  eg : Option Nat
  /-- the descriptors used -/
  used : List RxUsed
  /-- descriptors reserved at the dequeue of a queued frame (R379) -/
  descs : List (List Byte)
  /-- bytes not yet written -/
  rest : List Byte
  reason : Nat
  source : Nat
  instant : Nat
  /-- elapsed time at which the ring-wait window of the dry ring closes -/
  dry : Option Nat
  /-- the whole frame has arrived -/
  whole : Bool
  /-- the punt ends with this status on the descriptors it used (R380) -/
  endSt : Option Nat
  /-- the slice of a punt, and the room it holds in the slice's punt buffer -/
  slice : Nat
  room : Nat
  /-- a pause found it under reservation: it is written no further (R370) -/
  cut : Bool
  deriving DecidableEq, Repr

/-- A closed batch of a ring whose turn entry waits for its completion (R153, R382). -/
structure TurnWait where
  tag : Nat
  side : Nat
  deriving DecidableEq, Repr

/-- A shadow compare in progress (R205 to R208). -/
structure ShadowJob where
  table : Nat
  maxReport : Nat
  /-- the SLICE field -/
  slice : Nat
  tag : Nat
  /-- the next entry compared, and the entries left -/
  next : Nat
  left : Nat
  addr : Nat
  /-- the ingress epoch at the start -/
  epoch : Nat
  found : Nat
  /-- shadow bytes that have arrived and are not yet compared -/
  got : List Byte
  /-- a read is out -/
  reading : Bool
  failed : Bool
  deriving DecidableEq, Repr

/-- A ring, beyond its registers (R363 to R386). -/
structure RingSt where
  /-- descriptor producer index and completion consumer index, as accepted from doorbells (R367) -/
  descProd : Nat
  cplCons : Nat
  armed : Bool
  /-- completion slots reserved and not yet written (R373) -/
  reserved : Nat
  /-- completions written since the last index word -/
  unreported : Bool
  /-- descriptors fetched and not yet taken: their 32 bytes, from DESC_CONS on -/
  pre : List (List Byte)
  /-- a descriptor fetch is outstanding -/
  fetching : Bool
  tx : List TxFrame
  /-- reads of TX data that wait for a tag -/
  todo : List Chunk
  rx : List RxWrite
  shadow : Option ShadowJob
  /-- completions held while Bus Master Enable is clear, with the index of their slot (R357, R370) -/
  held : List (List Byte)
  /-- TURN entries whose turn-complete entry is not written -/
  turns : List TurnWait
  /-- the state to return to on START of a PAUSED ring whose turn has not published (R370) -/
  turnOut : Bool
  deriving DecidableEq, Repr

def RingSt.init : RingSt :=
  { descProd := 0, cplCons := 0, armed := false, reserved := 0, unreported := false, pre := [], fetching := false, tx := [],
    todo := [], rx := [], shadow := none, held := [], turns := [], turnOut := false }

end Sys2Proof.Machine
end

