-- ==== Sys2Proof/Machine/TypesB.lean ====
section
/-! DEFINITION. The state of the forwarding tables and their staged batches (R149 to R187). -/

namespace Sys2Proof.Machine

/-- A published prefix of a route table (R159, R161, R165): the first epoch that sees it and, once removed, the first that no
longer does. `pfx` is left-aligned in 32 or 128 bits; `units` become available again when the route is freed (R164). -/
structure Route where
  v6 : Bool
  table : Nat
  len : Nat
  pfx : Nat
  result : Word
  birth : Nat
  death : Option Nat
  units : Nat
  deriving DecidableEq, Repr

/-- An exact-match key (R166, R167). -/
structure ExmKey where
  ktype : Nat
  table : Nat
  key : Nat
  deriving DecidableEq, Repr

/-- An exact-match entry in its slot (R166, R168), with its summary's HIT bit. `batch` numbers the batch of an entry that is
staged and not yet published. -/
structure ExmEntry where
  key : ExmKey
  isStatic : Bool
  learned : Bool
  frozen : Bool
  result : Word
  birth : Nat
  death : Option Nat
  hit : Bool
  /-- the aging mark: 0 for none, otherwise the number of the sweep that found the entry idle (R198) -/
  mark : Nat
  batch : Option Nat
  deriving DecidableEq, Repr

/-- An unlisted exact-match slot. -/
def ExmEntry.free : ExmEntry :=
  { key := ⟨0, 0, 0⟩, isStatic := false, learned := false, frozen := false, result := 0, birth := 0, death := none, hit := false,
    mark := 0, batch := none }

/-- One staged change of a batch (R152). -/
inductive StOp where
  | routeAdd (v6 : Bool) (table len pfx : Nat) (result : Word) (units : Nat)
  | routeDel (v6 : Bool) (table len pfx : Nat)
  /-- the batch's own slot of the key is published -/
  | exmAdd (k : ExmKey)
  | exmDel (k : ExmKey)
  deriving DecidableEq, Repr

/-- A staging batch: its number and its staged changes in order. -/
structure Batch where
  num : Nat
  src : Nat
  ops : List StOp
  deriving DecidableEq, Repr

/-- The source number of the device firmware's batch; a ring's batch has the ring's number (R152). -/
def fwBatch : Nat := 65536

/-- The insert of the exact-match engine that waits for a moved-from slot (R171). -/
structure ExmJob where
  /-- slots still to be moved, the next one first -/
  path : List Nat
  /-- the slot vacated last -/
  hole : Nat
  /-- the 3.0 GHz cycle before which the vacated slot is not reused -/
  release : Nat
  entry : ExmEntry
  /-- the update ring whose entry this is, with the completion of the entry and the changes it stages -/
  ring : Option Nat
  cpl : List Byte
  ops : List StOp
  route : Bool
  deriving DecidableEq, Repr

/-- The forwarding tables (R156 to R187). -/
structure TabSt where
  routes : List Route
  /-- exact-match slots in use, by bucket × 4 + slot -/
  exm : KMap ExmEntry
  /-- the draw that seeded the exact-match hashes (R168) -/
  exmSeed : Nat
  job : Option ExmJob
  /-- egress table entries (R175) -/
  egt : KMap (BitVec 128)
  /-- open batches -/
  openB : List Batch
  /-- closed batches in the order they closed -/
  closedB : List Batch
  /-- the number of the next batch opened -/
  nextB : Nat
  deriving DecidableEq, Repr

def TabSt.init : TabSt :=
  { routes := [], exm := .empty, exmSeed := 3, job := none, egt := .empty, openB := [], closedB := [], nextB := 0 }

/-- A learn event (R188). -/
structure LearnEv where
  domain : Nat
  mac : Nat
  /-- the source port: line port 0 to 127, or 128 + h for host port h -/
  port : Nat
  /-- the frame's ingress timestamp -/
  inst : Nat
  deriving DecidableEq, Repr

/-- A record of the flap tracker (R194, R196). -/
structure FlapRec where
  key : ExmKey
  /-- last move instant M, flap count C and the second N in which C counts -/
  m : Nat
  c : Nat
  n : Nat
  /-- elapsed time at which the hold-off window closes -/
  close : Nat
  /-- elapsed time at which a frozen entry unfreezes -/
  freeze : Option Nat
  deriving DecidableEq, Repr

/-- The learning engine (R190 to R202), beyond its registers. -/
structure LrnSt where
  queue : List LearnEv
  recs : List FlapRec
  /-- the running sweep: the next bucket, and whether it is a clearing sweep -/
  sweep : Option (Nat × Bool)
  /-- removals found by the sweeper: the key and its mark at the visit -/
  removals : List (ExmKey × Nat)
  deriving DecidableEq, Repr

def LrnSt.init : LrnSt := ⟨[], [], none, []⟩

end Sys2Proof.Machine
end

