-- ==== Sys2Proof/Machine/TypesC.lean ====
section
/-! DEFINITION. The state of the ACL arrays, the pattern automaton engine and its verdicts (R210 to R234). -/

namespace Sys2Proof.Machine

/-- An entry of the ACL arrays (R215, R219, R222): the row of all slices, with its two plane bits. -/
structure AclRow where
  key : Nat
  mask : Nat
  act : Nat
  plane0 : Bool
  plane1 : Bool
  deriving DecidableEq, Repr

/-- A free row: both plane bits clear. -/
def AclRow.free : AclRow := ⟨0, 0, 0, false, false⟩

/-- A captured command of ACL_WR_CMD (R223). -/
structure AclCmd where
  op : Nat
  slice : Nat
  bank : Nat
  unit : Nat
  key : Nat
  mask : Nat
  act : Nat
  deriving DecidableEq, Repr

/-- Where the closed ACL batch stands (R222). -/
inductive AclPhase where
  /-- no closed batch -/
  | idle
  /-- closed and not yet applied -/
  | closed
  /-- applied to the next plane, waiting for its turn -/
  | applied
  /-- published: the planes are copied after the drain -/
  | published
  deriving DecidableEq, Repr

/-- The ACL arrays (R215 to R224). -/
structure AclSt where
  /-- rows by address bank × 4,096 + unit -/
  rows : KMap AclRow
  /-- rows invalidated in one slice and awaiting refresh, by slice × 32,768 + address: 1 (R213, R224) -/
  invalid : KMap Nat
  /-- the staging list of the open firmware batch: an address with its row, or none for a delete -/
  staged : List (Nat × Option AclRow)
  /-- the closed batch -/
  batch : List (Nat × Option AclRow)
  phase : AclPhase
  /-- a command that waits for the held batch -/
  cmd : Option AclCmd
  deriving DecidableEq, Repr

def AclSt.init : AclSt := ⟨.empty, .empty, [], [], .idle, none⟩

/-- A transition entry of an automaton bank (R225). -/
structure PatRow where
  used : Bool
  valid : Bool
  key : Nat
  mask : Nat
  res : Nat
  deriving DecidableEq, Repr

def PatRow.free : PatRow := ⟨false, false, 0, 0, 0⟩

/-- A packet under inspection, or waiting in a lane's queue (R227 to R229). -/
structure PatCtx where
  pkt : Nat
  set : Nat
  flow : Nat
  /-- the payload bytes that have arrived, and whether all have -/
  data : List Byte
  whole : Bool
  /-- how the tail arrived: good or bad -/
  tail : Option Bool
  /-- the first search has captured the configuration (R231): its generation, first bank, banks and start state -/
  started : Bool
  gen : Nat
  bank0 : Nat
  banks : Nat
  start : Nat
  st : Nat
  pos : Nat
  /-- the match found: action and rule -/
  hit : Option (Nat × Nat)
  /-- the 3.0 GHz cycle of the search result -/
  at_ : Nat
  deriving DecidableEq, Repr

/-- A verdict (R230). -/
structure Verdict where
  flow : Nat
  drop : Bool
  rule : Nat
  /-- elapsed time at which its window closes -/
  close : Nat
  deriving DecidableEq, Repr

/-- The pattern automaton engine (R225 to R231). -/
structure PatSt where
  /-- entries by bank × 4,096 + row -/
  rows : KMap PatRow
  /-- contexts by lane × 8 + context; queues by lane -/
  ctxs : KMap (Option PatCtx)
  queues : KMap (List PatCtx)
  /-- inspections that ended with a match and wait for their tail or their verdict -/
  ended : List PatCtx
  /-- how often each set has been configured -/
  gen : KMap Nat
  verdicts : List Verdict
  /-- the draw that seeded the flow IDs -/
  seed : Nat
  deriving DecidableEq, Repr

def PatSt.init : PatSt := ⟨.empty, .empty, .empty, [], .empty, [], 4⟩

/-- A security association (R401, R420). `key` enters only through LOAD_ICR, in the form of Aes.lean; `win` marks the numbers received below NEXT_PN. -/
structure Sa where
  flags : Nat
  keyGen : Nat
  spi : Nat
  salt : Nat
  nextPn : Nat
  thresh : Nat
  outerDst : Nat
  outerSrc : Nat
  key : Nat
  win : Nat
  deriving DecidableEq, Repr

def Sa.none : Sa := ⟨0, 0, 0, 0, 0, 0, 0, 0, 0, 0⟩

/-- A receive SC of a line port (R403, R420). -/
structure RxSc where
  valid : Bool
  sci : Nat
  sa : Nat
  deriving DecidableEq, Repr

def RxSc.none : RxSc := ⟨false, 0, 0⟩

/-- An egress binding (R404, R420). -/
structure Binding where
  valid : Bool
  encap : Nat
  sa : Nat
  deriving DecidableEq, Repr

def Binding.none : Binding := ⟨false, 0, 0⟩

/-- An inbound entry (R405, R420). -/
structure Inbound where
  valid : Bool
  spi : Nat
  table : Nat
  sa : Nat
  dst : Nat
  deriving DecidableEq, Repr

def Inbound.none : Inbound := ⟨false, 0, 0, 0, 0⟩

/-- The tables of inline crypto (R401 to R405). -/
structure IcrSt where
  /-- egress SAs at their number, ingress SAs at 65,536 + number -/
  sas : KMap Sa
  scs : KMap RxSc
  binds : KMap Binding
  inbound : KMap Inbound
  deriving DecidableEq, Repr

def IcrSt.init : IcrSt := ⟨.empty, .empty, .empty, .empty⟩

end Sys2Proof.Machine
end

