-- ==== Sys2Proof/Machine/TypesD.lean ====
section
/-! DEFINITION. The state of the ingress slices: packets between slice entry and the transit FIFO, the fragment table, policers and
holds (R136 to R148, R129 to R132). -/

namespace Sys2Proof.Machine

/-- A MACsec frame on its way in: what its decryption and its ICV need (R403). -/
structure SecRx where
  sa : Nat
  pn : Nat
  key : Nat
  nonce : Nat
  /-- the data is encrypted after the confidentiality offset -/
  enc : Bool
  skip : Nat
  aad : List Byte
  /-- secure data received so far, as received -/
  raw : List Byte
  deriving DecidableEq, Repr

/-- Where a packet stands in its slice (R136). -/
inductive IStage where
  /-- waits for slice entry -/
  | queued
  /-- took its epoch at stage 0 -/
  | entered
  /-- keys launched at stage 4 -/
  | launched
  /-- parsed, stages 4 to 27 -/
  | parsed
  /-- in the 92-cycle respin loop -/
  | loop
  /-- in the respin queue -/
  | respinQ
  /-- compared at stage 28: waits for its results -/
  | compared
  /-- joined at stage 44 -/
  | joined
  | acl1
  | acl2
  | policed
  /-- results read, stages 96 to 111 -/
  | read
  /-- passed stage 112 -/
  | committed
  /-- handed to the die-to-die link after stage 143; kept while its tail or a further pass is outstanding -/
  | handed
  deriving DecidableEq, Repr

/-- A table-DRAM read that a packet waits for (R169, R184). -/
inductive Rd where
  | stage4
  | stage5
  /-- an exact-match slot read for a key -/
  | exm (slot : Nat) (k : ExmKey)
  deriving DecidableEq, Repr

/-- A resolved forwarding result (R157). -/
inductive Fwd where
  | drop
  /-- the NEXTHOP entry -/
  | nh (e : BitVec 128)
  /-- ring and reason -/
  | punt (g reason : Nat)
  /-- next level and its number -/
  | term (level num : Nat)
  | mcast (g : Nat)
  /-- ESP receive: the packet commits as a recirculation to be decrypted with an SA (R405) -/
  | esp (sa : Nat)
  deriving DecidableEq, Repr

/-- The combined ACL outcome of R220. -/
structure AclOut where
  redirect : Option Word
  inspect : Option Nat
  mirrors : List Nat
  counts : List Nat
  deriving DecidableEq, Repr

def AclOut.none : AclOut := ⟨.none, .none, [], []⟩

/-- The tokens a packet took from one policer (R145). -/
structure Charge where
  policer : Nat
  amount : Int
  /-- green takes from both buckets, yellow from the peak bucket only -/
  committed : Bool
  /-- the bucket sizes, which bound what is returned -/
  cbs : Int
  pbs : Int
  deriving DecidableEq, Repr

/-- The receive errors of R78 and R403. -/
inductive RxErr where
  | fcs | mac | preAsm | icv | oversize
  deriving DecidableEq, Repr

/-- A packet of an ingress slice. -/
structure IPkt where
  slice : Nat
  /-- source port: line port, or 128 + h -/
  port : Nat
  /-- a received line frame on this pass: its tail and its port counters are the port's -/
  line : Bool
  pre : Bool
  recirc : Bool
  /-- an internal header stands at offset 0 (R133) -/
  hasIth : Bool
  /-- what the internal header of a recirculated packet names: next level and number (R157, R159) -/
  term : Option (Nat × Nat)
  /-- bytes that have arrived, without the FCS once the tail is in -/
  bytes : List Byte
  /-- the frame length of R75, once known -/
  len : Option Nat
  /-- the length was known at slice entry (R123) -/
  known : Bool
  ts : Nat
  maxFrame : Nat
  /-- a group address, or a station-address miss with L2_EN (R82, R122) -/
  bridged : Bool
  stage : IStage
  epoch : Nat
  respun : Bool
  /-- profile selected at stage 4 -/
  prof : Word
  parse : Option Parse
  /-- reason code of the slow path (R129) -/
  slow : Option Nat
  reads : List Rd
  /-- forwarding result word of the lookups, and of the source lookup of a bridged frame -/
  res : Option Word
  srcRes : Option Word
  /-- a fragment-table hit (R132) -/
  frag : Option (Fwd × AclOut)
  acl : AclOut
  aclDone : Bool
  charges : List Charge
  /-- the charge length of R146 -/
  charge : Nat
  fwd : Option Fwd
  learn : Option LearnEv
  mirror : List (BitVec 128)
  /-- a receive error found after commit -/
  err : Option RxErr
  /-- how the tail arrived -/
  tail : Option Bool
  sec : Option SecRx
  reserved : Nat
  /-- handed over after stage 143 -/
  left : Bool
  /-- the colour of the policers: 0 green, 1 yellow, 2 red (R145, R284) -/
  colour : Nat
  /-- the function and tag of a host frame whose transmit timestamp is wanted (R60) -/
  ptp : Option (BitVec 11 × BitVec 16)
  /-- a lookup read met an uncorrectable word: its result is DROP (R335) -/
  lost : Bool
  deriving DecidableEq, Repr

/-- Where a copy goes: the NEXTHOP's device and queue, or a multicast group (R242, R254). -/
inductive TDest where
  | uni (dev queue : Nat)
  | mc (g : Nat)
  deriving DecidableEq, Repr

/-- The cells of a copy to one device: payload bytes sent, and its context and packet number once its first cell is sent (R241). -/
structure TProg where
  dev : Nat
  sent : Nat
  started : Bool
  ctx : Nat
  pseq : Nat
  deriving DecidableEq, Repr

/-- A committed copy in the transit FIFO of its slice, from commit until its cells have been sent (R22, R148). -/
structure TCopy where
  pkt : Nat
  dest : TDest
  ith : Ith
  data : List Byte
  /-- how the tail arrived: good, or marked bad -/
  tail : Option Bool
  /-- the transit room it holds -/
  room : Nat
  cls : Nat
  /-- how far each copy of its cells has come, in rising device order; fixed when the first cell reaches the Traffic die (R253, R254) -/
  prog : Option (List TProg)
  deriving DecidableEq, Repr

/-- A two-rate policer bucket pair (R145, R146): tokens in bytes, and the instant of the last refill. -/
structure Bucket where
  tc : Int
  tp : Int
  at_ : Nat
  deriving DecidableEq, Repr

def Bucket.init : Bucket := ⟨0, 0, 0⟩

/-- An entry of the fragment table (R131). -/
structure FragEnt where
  key : FragKey
  fwd : Fwd
  acl : AclOut
  /-- elapsed time at which its window closes -/
  close : Nat
  deriving DecidableEq, Repr

/-- A preemptable frame under reassembly in a port (R88). -/
structure PreRx where
  frame : Nat
  next : Nat
  data : List Byte
  at_ : Nat
  /-- its first bytes went to the slice -/
  handed : Bool
  /-- the MAX_FRAME in force at its start -/
  maxFrame : Nat
  /-- its error has been counted: the rest is discarded -/
  failed : Bool
  deriving DecidableEq, Repr

/-- The tokens of the policer ledger: generated, consumed and capped (R146, R448). -/
structure TokenLedger where
  gen : Int
  used : Int
  capped : Int
  deriving DecidableEq, Repr

def TokenLedger.init : TokenLedger := ⟨0, 0, 0⟩

/-- The ingress slices. -/
structure IngSt where
  pkts : KMap (Option IPkt)
  nextId : Nat
  /-- the frame in progress of each line port, express (2p) and preemptable (2p + 1): its packet, plus one -/
  cur : KMap Nat
  /-- packets that wait for entry, by slice: respins, line frames, host frames, recirculated packets -/
  respinQ : KMap (List Nat)
  lineQ : KMap (List Nat)
  hostQ : KMap (List Nat)
  recircQ : KMap (List Nat)
  /-- copies in the transit FIFO, by slice -/
  transit : KMap (List TCopy)
  /-- the 3.0 GHz cycle before which a slice admits no packet after a lowered DRAM_WAIT (R137) -/
  hold : KMap Nat
  /-- the learning hold of each slice: packet and event (R147) -/
  learnHold : KMap (List (Nat × LearnEv))
  /-- bytes reserved in the punt buffer of each slice (R380) -/
  puntRoom : KMap Nat
  buckets : KMap Bucket
  tokens : KMap TokenLedger
  /-- how each slice stands: 0 serves its lane group, 1 fenced and waiting for its partner, 2 taken over by its partner,
  3 without a slice (R512, R513) -/
  fence : KMap Nat
  frags : List FragEnt
  pre : KMap (Option PreRx)
  deriving DecidableEq, Repr

def IngSt.init : IngSt :=
  { pkts := .empty, nextId := 0, cur := .empty, respinQ := .empty, lineQ := .empty, hostQ := .empty, recircQ := .empty,
    transit := .empty, hold := .empty, learnHold := .empty, puntRoom := .empty, buckets := .empty, tokens := .empty, fence := .empty,
    frags := [], pre := .empty }

end Sys2Proof.Machine
end

