-- ==== Sys2Proof/Machine/TypesE.lean ====
section
/-! DEFINITION. The state of the line ports and the OTN framers beyond their registers (R69 to R117). -/

namespace Sys2Proof.Machine

/-- A frame in transmission on a line port (R73, R80, R87). -/
structure TxNow where
  /-- its length with its FCS, padding included -/
  octets : Nat
  /-- bytes sent in fragments that have ended -/
  sent : Nat
  /-- elapsed time at which its running fragment began -/
  since : Nat
  /-- interrupted: an express frame, a shut gate or hold stands before the rest of it -/
  cut : Bool
  /-- its class -/
  cls : Nat
  deriving DecidableEq, Repr

/-- The line ports. -/
structure PortSt where
  /-- frames in transmission: express 2p, preemptable 2p + 1 -/
  tx : KMap (Option TxNow)
  /-- elapsed time at which a pause ends: 9p + c for class c, 9p + 8 for the whole port; 0 when none (R84) -/
  pause : KMap Nat
  /-- verify mPackets sent, and elapsed time at which the next is due (R86) -/
  tries : KMap Nat
  due : KMap Nat
  deriving DecidableEq, Repr

def PortSt.init : PortSt := ⟨.empty, .empty, .empty, .empty⟩

/-- A received OTUC frame in the deskew buffer (R100): its MFAS, the error counts found with it, and its arrival. -/
structure OtnRec where
  mfas : Nat
  smBip : Nat
  pmBip : Nat
  smBei : Nat
  pmBei : Nat
  at_ : Nat
  deriving DecidableEq, Repr

/-- Counts of consecutive frames with and without a condition, and whether the condition is declared (R106). -/
structure Persist where
  on : Nat
  off : Nat
  flag : Bool
  deriving DecidableEq, Repr

def Persist.init : Persist := ⟨0, 0, false⟩

/-- One OTUC instance (R96 to R106). -/
structure OtnInst where
  /-- the state of R97: 0 SEARCH, 1 CANDIDATE, 2 FRAME_LOCK, 3 MF_LOCK -/
  st : Nat
  /-- byte position of the search, or of the open candidate -/
  pos : Nat
  misses : Nat
  mfBad : Nat
  mfas : Option Nat
  /-- computed BIP-8 of the last frame and of the one before -/
  bip1 : Option (BitVec 8)
  bip2 : Option (BitVec 8)
  /-- elapsed time since which the instance is in or out of frame, and in or out of multi-frame -/
  frameSince : Nat
  mfSince : Nat
  ais : Persist
  plm : Persist
  bdiSm : Persist
  bdiPm : Persist
  /-- BIP error counts that the next transmitted frame returns as BEI (R104) -/
  beiSm : Nat
  beiPm : Nat
  queue : List OtnRec
  deriving DecidableEq, Repr

def OtnInst.init : OtnInst :=
  { st := 0, pos := 0, misses := 0, mfBad := 0, mfas := none, bip1 := none, bip2 := none, frameSince := 0, mfSince := 0, ais := .init,
    plm := .init, bdiSm := .init, bdiPm := .init, beiSm := 0, beiPm := 0, queue := [] }

/-- The counts of one second (R115). -/
structure OtnCnt where
  smBip : Nat
  smBei : Nat
  pmBip : Nat
  pmBei : Nat
  defects : Nat
  deriving DecidableEq, Repr

def OtnCnt.init : OtnCnt := ⟨0, 0, 0, 0, 0⟩

/-- The OTN framer of one port. -/
structure OtnPort where
  insts : KMap OtnInst
  /-- deskew within 4 µs has been achieved -/
  aligned : Bool
  /-- the condition of dLOL -/
  lol : Bool
  disagree : Nat
  /-- the GFP demapper: 0 HUNT, 1 PRESYNC, 2 SYNC, and the PLI of the last core header (R110) -/
  gfp : Nat
  pli : Nat
  run : OtnCnt
  closed : OtnCnt
  deriving DecidableEq, Repr

def OtnPort.init : OtnPort :=
  { insts := .empty, aligned := false, lol := false, disagree := 0, gfp := 0, pli := 0, run := .init, closed := .init }

end Sys2Proof.Machine
end

