-- ==== Sys2Proof/Machine/TypesF.lean ====
section
/-! DEFINITION. The state of the Traffic die: the fabric interface, buffers and queues, replication, the scheduler, gates and the egress
slices (R235 to R319). -/

namespace Sys2Proof.Machine

/-! ### Fabric (R235 to R272) -/

/-- A data cell as it is released (R238). -/
structure RxCell where
  mc : Bool
  cls : Nat
  dest : Nat
  seq : Nat
  ctx : Nat
  pseq : Nat
  first : Bool
  last : Bool
  bad : Bool
  hdr : Ith
  data : List Byte
  deriving DecidableEq, Repr

/-- A stream as its source keeps it (R241, R248). -/
structure SrcStream where
  sent : Nat
  returned : Nat
  granted : Nat
  seq : Nat
  pseq : Nat
  ctxs : List Nat
  /-- elapsed time at which it last had a backlog -/
  busy : Nat
  deriving DecidableEq, Repr

def SrcStream.init : SrcStream := ⟨0, 0, 0, 0, 0, [], 0⟩

/-- A stream as its destination keeps it (R249, R267, R269). -/
structure DstStream where
  granted : Nat
  returned : Nat
  received : Nat
  missing : Nat
  backlog : Nat
  exp : Nat
  pexp : Nat
  /-- held cells with their arrival -/
  held : List (RxCell × Nat)
  /-- open contexts and their reassemblies -/
  opened : List (Nat × Nat)
  deriving DecidableEq, Repr

def DstStream.init : DstStream := ⟨0, 0, 0, 0, 0, 0, 0, [], []⟩

/-- A lane (R256): its state, the state of its receive direction, and what its peer has sent. -/
structure LaneSt where
  st : Nat
  rx : Nat
  aligns : Nat
  readies : Nat
  dev : Nat
  bundle : Nat
  lane : Nat
  ver : Nat
  seen : Bool
  /-- elapsed time of the failure, and at which the next burst of a quiet lane is due -/
  failAt : Nat
  burst : Nat
  /-- uncorrectable codewords in the window of that index (R268) -/
  unc : Nat
  uncWin : Nat
  deriving DecidableEq, Repr

def LaneSt.init : LaneSt := ⟨0, 0, 0, 0, 0, 0, 0, 0, false, 0, 0, 0, 0⟩

/-- A shift request (R258, R260). -/
structure Shift where
  pair : Nat
  num : Nat
  at_ : Nat
  tries : Nat
  acked : Bool
  deriving DecidableEq, Repr

/-- A bundle, beyond its registers (R259 to R263). -/
structure BundSt where
  /-- the shed that this end asked for, the shed that the peer asked for, and the restore that this end asked for -/
  down : Option Shift
  rxDown : Option Shift
  up : Option Shift
  /-- the number of the next request, and the last answered request with its answer -/
  num : Nat
  ans : Option (Nat × Bool)
  /-- cell bytes sent in the running window, windows below LOW in a row, and the elapsed time of the last shed -/
  bytes : Nat
  low : Nat
  shed : Option Nat
  capable : Bool
  deriving DecidableEq, Repr

def BundSt.init : BundSt := ⟨none, none, none, 0, none, 0, 0, none, false⟩

/-- A packet under reassembly (R275): the quadrants that store it, their buffers, and whether a quadrant lacked one. -/
structure Asm where
  mc : Bool
  cls : Nat
  dest : Nat
  hdr : Ith
  data : List Byte
  parts : List (Nat × List Nat × Bool)
  deriving DecidableEq, Repr

/-- The fabric interface. -/
structure FabSt where
  src : KMap SrcStream
  dst : KMap DstStream
  /-- the incarnations seen: of destinations in GRANTs, of sources in DEMANDs -/
  incOut : KMap Nat
  incIn : KMap Nat
  /-- sources that have completed R251: 1 -/
  synced : KMap Nat
  /-- device lists: members as a bit set, and class (R253) -/
  lists : KMap (Nat × Nat)
  lanes : KMap LaneSt
  bund : KMap BundSt
  asms : KMap (Option Asm)
  nextAsm : Nat
  /-- the last stream served of each class, plus one (R250) -/
  rr : KMap Nat
  /-- the instant since which CAP has limited the grants -/
  limited : Option Nat
  refresh : Nat
  deriving DecidableEq, Repr

def FabSt.init : FabSt := ⟨.empty, .empty, .empty, .empty, .empty, .empty, .empty, .empty, .empty, 0, .empty, none, 0⟩

/-! ### Buffers, queues and replication (R273 to R295) -/

/-- A packet stored in packet SRAM (R280): its buffers by pool, 0 for 256 bytes, 1 for 2 KiB, 2 for 16 KiB; its enqueued descriptors;
and the hold of a replication or of copies in residue. -/
structure SPkt where
  q : Nat
  bufs : List Nat
  refs : Nat
  hold : Bool
  deriving DecidableEq, Repr

/-- A queued copy. -/
structure Copy where
  /-- its stored packet, or none for a copy in HBM -/
  pkt : Option Nat
  queue : Nat
  size : Nat
  hdr : Ith
  data : List Byte
  mark : Bool
  encap : Option Nat
  pages : List Nat
  /-- elapsed time of its tail instant -/
  ta : Nat
  deriving DecidableEq, Repr

/-- A queue, beyond its configuration (R283, R285, R294). -/
structure QSt where
  copies : List Copy
  depth : Nat
  avg : Rat
  drops : Nat
  /-- tail page of its chain and the bytes used in it -/
  tail : Option (Nat × Nat)
  deriving DecidableEq, Repr

def QSt.init : QSt := ⟨[], 0, 0, 0, none⟩

/-- A copy in residue (R291). -/
structure Residue where
  pkt : Nat
  queue : Nat
  encap : Option Nat
  hdr : Ith
  data : List Byte
  ta : Nat
  deadline : Nat
  deriving DecidableEq, Repr

/-- A quadrant's buffers (R274 to R281). -/
structure QuadSt where
  /-- buffers in use, by pool part: 0 for 256 bytes, 1 for 2 KiB, 2 for 16 KiB -/
  use : KMap Nat
  /-- packet descriptors in use -/
  pd : Nat
  /-- buffers that retired regions have taken, and that they still take as buffers free (R338) -/
  gone : KMap Nat
  owe : KMap Nat
  residue : List Residue
  /-- the imbalance of the ledger of each pool part that a fault has left (R281): 256 B, 2 KiB SRAM, 16 KiB, 2 KiB HBM -/
  bias : KMap Int
  /-- frees held by a quarantined part, and elapsed time at which its rebuild ends -/
  heldFree : KMap Nat
  rebuild : KMap Nat
  deriving DecidableEq, Repr

def QuadSt.init : QuadSt := ⟨.empty, 0, .empty, .empty, [], .empty, .empty, .empty⟩

/-- The traffic manager's memories. -/
structure TmSt where
  quads : KMap QuadSt
  store : KMap (Option SPkt)
  nextPkt : Nat
  /-- queue configurations and queues, by queue number -/
  qcfg : KMap (BitVec 128)
  queues : KMap QSt
  /-- reference counts of HBM pages, by quadrant × 2^24 + page, and the retired HBM regions by stack × 128 + region: 1 -/
  pages : KMap Nat
  hbmGone : KMap Nat
  /-- replication heads and elements, by quadrant × 2^18 + index -/
  heads : KMap (BitVec 32)
  elems : KMap (BitVec 64)
  deriving DecidableEq, Repr

def TmSt.init : TmSt := ⟨.empty, .empty, 0, .empty, .empty, .empty, .empty, .empty, .empty⟩

/-! ### Scheduler and gates (R296 to R319) -/

/-- A node's shaper and deficit (R300, R305): credit in units of 2^-16 byte or packet, the instant of its update, and while it is on the
wheel its t_e and slot instant. -/
structure NodeSt where
  credit : Int
  upd : Nat
  wheel : Option (Nat × Nat)
  deficit : Int
  deriving DecidableEq, Repr

def NodeSt.init : NodeSt := ⟨0, 0, none, 0⟩

/-- A sampling round (R316): the queue visited next and the visits left. -/
structure Round where
  next : Nat
  left : Nat
  deriving DecidableEq, Repr

/-- A gate control list: entries of interval, operation and gate bits; cycle time; base (R310). -/
structure GateList where
  entries : List (Nat × Nat × Nat)
  cycle : Nat
  base : Nat
  deriving DecidableEq, Repr

/-- The gates of a line port (R310 to R315). -/
structure GateSt where
  oper : Option GateList
  /-- the administrative entries, by number -/
  admin : KMap (Nat × Nat × Nat)
  /-- the change that waits for its instant X -/
  pend : Option (GateList × Nat)
  /-- the instant of the last entry boundary acted on -/
  at_ : Nat
  /-- the asserted hold has delayed a frame -/
  delayed : Bool
  deriving DecidableEq, Repr

def GateSt.init : GateSt := ⟨none, .empty, none, 0, false⟩

/-- The scheduler. -/
structure SchSt where
  /-- node configurations, and nodes, by level × 2^20 + global number: 0 port, 1 channel, 2 subscriber, 3 class -/
  cfg : KMap (BitVec 128)
  node : KMap NodeSt
  /-- the child each node's deficit pointer names, plus one, by node × 8 + PRIO; and the port each egress slice served last, plus one -/
  ptr : KMap Nat
  slicePtr : KMap Nat
  rounds : KMap (Option Round)
  gates : KMap GateSt
  /-- elapsed time at which the ring wait of a queue's head frame began, plus one (R379) -/
  waits : KMap Nat
  /-- queues whose ring wait has expired: 1 -/
  waitOver : KMap Nat
  deriving DecidableEq, Repr

def SchSt.init : SchSt := ⟨.empty, .empty, .empty, .empty, .empty, .empty, .empty, .empty⟩

/-! ### Egress slices -/

/-- Where a dequeued copy stands. -/
inductive EgStage where
  /-- crossing the die-to-die link -/
  | crossing
  /-- in the egress slice, at the gate stage -/
  | staged
  /-- released by the gate stage: at egress commit -/
  | released
  /-- past egress commit, or discarded: kept until its buffers are released -/
  | done
  deriving DecidableEq, Repr

/-- A dequeued copy on its way through an egress slice. -/
structure EgCopy where
  copy : Copy
  slice : Nat
  /-- scheduler port 0 to 143 -/
  port : Nat
  stage : EgStage
  /-- its last byte has crossed -/
  crossed : Bool
  epoch : Nat
  /-- the frame after edits, without its FCS, and its final length -/
  frame : List Byte
  len : Nat
  /-- bytes that its edits put before its contents -/
  shift : Int
  /-- discarded at slice entry: the ring wait of its class expired -/
  expired : Bool
  /-- the transmit instant at the ball plane (R309) -/
  txInst : Nat
  deriving DecidableEq, Repr

/-- A commit notice (R425). -/
structure Notice where
  queue : Nat
  len : Nat
  port : Nat
  vid : Option Nat
  label : Option Nat
  inst : Nat
  deriving DecidableEq, Repr

/-- The egress slices. -/
structure EgSt where
  copies : KMap (Option EgCopy)
  next : Nat
  /-- notices held or crossing, by egress slice: those that wait for the link, and those in the island's FIFO (R40, R429) -/
  wait : KMap (List Notice)
  fifo : KMap (List Notice)
  /-- how each egress slice stands, as for the ingress slices (R513) -/
  fence : KMap Nat
  deriving DecidableEq, Repr

def EgSt.init : EgSt := ⟨.empty, 0, .empty, .empty, .empty⟩

end Sys2Proof.Machine
end

