-- ==== Sys2Proof/Machine/TypesG.lean ====
section
/-! DEFINITION. The state of the memory protection (R320 to R339), beyond the registers. -/

namespace Sys2Proof.Machine

/-- Memory protection. -/
structure MemSt where
  /-- corrected errors of each memory kind: the second counted, plus one, and the count (R334) -/
  ce : KMap (Nat × Nat)
  /-- the scrub pass in which a row last yielded a corrected error, plus one, by kind × 2^32 + region × 2^16 + row (R337) -/
  rows : KMap Nat
  /-- spare rows used, by kind × 2^16 + region -/
  spare : KMap Nat
  /-- retired regions, by kind × 2^16 + region: 1 replaced or empty, 2 with its contents lost (R338) -/
  gone : KMap Nat
  /-- table DRAM regions whose copy to a spare region runs, by channel × 16 + region: 1 -/
  copying : KMap Nat
  deriving DecidableEq, Repr

def MemSt.init : MemSt := ⟨.empty, .empty, .empty, .empty, .empty⟩

end Sys2Proof.Machine
end

