-- ==== Sys2Proof/Machine/TypesH.lean ====
section
/-! DEFINITION. The state of the harts, the key vault and the epoch turns (R149 to R154, R387 to R419). -/

namespace Sys2Proof.Machine

/-- One side's epoch turns, beyond their registers (R150 to R154). -/
structure TurnSt where
  /-- rings in TURN_WAIT for the next turn, with their TAGs -/
  wait : List (Nat × Nat)
  /-- rings whose batch the last turn published: their turn-complete entries wait for the drain -/
  done : List (Nat × Nat)
  /-- the 3.0 GHz cycle of the last turn -/
  at_ : Nat
  deriving DecidableEq, Repr

def TurnSt.init : TurnSt := ⟨[], [], 0⟩

/-- A hart, as far as the rules of this device name its state (R387, R393, R395 to R399): pc, integer registers, the instant of its last EQXRD,
and the counters whose overflow has been raised. -/
structure HartSt where
  pc : Nat
  x : KMap Dword
  eqx : Nat
  ovf : Nat
  deriving DecidableEq, Repr

def HartSt.init : HartSt := ⟨0, .empty, 0, 0⟩

/-- An operation of a key vault page (R410, R414). -/
structure KvcOp where
  /-- the captured KVC_CMD -/
  cmd : Word
  running : Bool
  /-- captured at the start: the status found so far, KVC_ARG, the slot's generation, its key, the KEK, DIN and KCV -/
  code : Nat
  arg : Word
  gen : Nat
  key : Nat
  kek : Nat
  din : Nat
  kcv : Nat
  deriving DecidableEq, Repr

/-- The key vault, beyond its registers (R407 to R416): the operation of each page, the key of each slot in the form of Aes.lean. -/
structure KvcSt where
  ops : KMap (Option KvcOp)
  keys : KMap Nat
  deriving DecidableEq, Repr

def KvcSt.init : KvcSt := ⟨.empty, .empty⟩

end Sys2Proof.Machine
end

