-- ==== Sys2Proof/Machine/TypesI.lean ====
section
/-! DEFINITION. The state of the Cyclometer, Truing, the performance counters, the boot controller, the OTP array, the Tandem block, the
thermal and power block, the always-on domain and the JTAG port, beyond their registers (R421 to R532). -/

namespace Sys2Proof.Machine

/-! ### Cyclometer (R421 to R443) -/

/-- A counter cache entry (R428), or a write-back on its way: subject, interval parity, packets, bytes. -/
structure CycEnt where
  subject : Nat
  par : Bool
  pkts : Nat
  bytes : Nat
  deriving DecidableEq, Repr

/-- What the Cyclometer keeps of an interval beside its counts (R434). -/
structure CycWin where
  openAt : Nat
  extended : Bool
  late : Bool
  discont : Bool
  unsealed : Bool
  first : Bool
  unmetered : Nat
  latePkts : Nat
  lateBytes : Nat
  memErr : Nat
  /-- CYC_REFUSED when it opened -/
  refused : Nat
  /-- metered packets and bytes taken: the totals of R453 -/
  taken : Nat
  takenBytes : Nat
  deriving DecidableEq, Repr

def CycWin.init : CycWin := ⟨0, false, false, false, false, false, 0, 0, 0, 0, 0, 0, 0⟩

/-- An interval that is closing (R432): its window, its boundary and the island cycle of it, whether the seal was set at the close, whether its
bank is frozen; and the version, the format and the other format of the image that closes it. -/
structure CycClose where
  win : CycWin
  boundary : Nat
  tick : Nat
  isSealed : Bool
  frozen : Bool
  ver : Nat
  fmt : Nat
  dual : Option Nat
  deriving DecidableEq, Repr

/-- A record in the store (R436): its run, number, format, flags, place and length, directory slot, and whether it is published. -/
structure CycRec where
  run : BitVec 64
  seq : Nat
  fmt : Nat
  flags : Nat
  off : Nat
  len : Nat
  slot : Nat
  published : Bool
  deriving DecidableEq, Repr

/-- A Cyclometer section: its SHA-384 and the version of its header (R441, R471). -/
structure CycSec where
  hash : Nat
  ver : Nat
  deriving DecidableEq, Repr

/-- The Cyclometer. -/
structure CycSt where
  /-- the island's own time (R431) and its increment, per cycle of 1.0 GHz -/
  island : BitVec 112
  inc : Nat
  /-- the phase still to correct and the island cycles left for it -/
  corr : Int
  corrLeft : Nat
  /-- island cycles since the island reset, and at the last marker taken -/
  ticks : Nat
  marker : Option Nat
  /-- it takes no time from the dies: no marker has come for 2^-18 s -/
  alone : Bool
  /-- subject map entries that differ from the configuration block's -/
  map : KMap (Option Word)
  /-- caches by egress slice, least recently updated first, and write-backs pending -/
  cache : KMap (List CycEnt)
  wb : KMap (List CycEnt)
  /-- counter words: packets and bytes, by subject × 2 + bank; and the damaged ones: 1 -/
  bank : KMap (Nat × Nat)
  damaged : KMap Nat
  win : CycWin
  par : Bool
  /-- the boundary that closes the open interval, and the schedule in force -/
  next : Nat
  interval : Nat
  phase : Nat
  closing : Option CycClose
  run : BitVec 64
  seq : Nat
  recs : List CycRec
  /-- the record store, and the offset at which the next record begins -/
  store : KMap Byte
  tail : Nat
  /-- the running section, the one that takes over at the next boundary, and the format that dual writing keeps beside the new one -/
  sec : Option CycSec
  newSec : Option CycSec
  dual : Option Nat
  deriving DecidableEq, Repr

def CycSt.init : CycSt :=
  { island := 0, inc := 0, corr := 0, corrLeft := 0, ticks := 0, marker := none, alone := true, map := .empty, cache := .empty,
    wb := .empty, bank := .empty, damaged := .empty, win := .init, par := false, next := 0, interval := 1, phase := 0, closing := none,
    run := 0, seq := 0, recs := [], store := .empty, tail := 0, sec := none, newSec := none, dual := none }

/-! ### Truing and performance counters (R446 to R462) -/

/-- An imbalance of a ledger's equation: ledger, scope, amount. -/
structure LedgerDelta where
  ledger : Nat
  scope : Nat
  delta : Int
  deriving DecidableEq, Repr

/-- Truing, beyond its registers. -/
structure TruSt where
  /-- the snapshot under evaluation: its instant and the imbalances it shows -/
  snap : Option (Nat × List LedgerDelta)
  /-- imbalances already reported or entered, by ledger × 2^16 + scope (R455) -/
  base : KMap Int
  /-- scopes PENDING, by ledger × 2^16 + scope: 1 (R453) -/
  pend : KMap Nat
  /-- the running purge: first queue and count -/
  purge : Option (Nat × Nat)
  deriving DecidableEq, Repr

def TruSt.init : TruSt := ⟨none, .empty, .empty, none⟩

/-- The counter set of a die (R461): the targets of a snapshot and of a freeze or release, each an Equinox instant (true) or an elapsed time, and whether
the counters are held; the values at the last latch of the counters with LATCH, and what the closing banks hold (R64). -/
structure PmcSt where
  snap : Option (Bool × Nat)
  freeze : Option (Bool × Nat × Bool)
  frozen : Bool
  base : KMap Nat
  closed : KMap Nat
  deriving DecidableEq, Repr

def PmcSt.init : PmcSt := ⟨none, none, false, .empty, .empty⟩

/-! ### Boot controller and OTP (R466 to R486) -/

/-- A section of an image, decrypted: its kind and its bytes (R469, R471). -/
structure ImgSec where
  kind : Nat
  data : List Byte
  deriving DecidableEq, Repr

/-- A verified image. -/
structure Img where
  version : Nat
  state : Nat
  secs : List ImgSec
  deriving DecidableEq, Repr

/-- The boot controller, beyond its registers. -/
structure BootSt where
  /-- the staging area (R468) and the place of the next ring-loaded byte -/
  staging : KMap Byte
  fill : Nat
  /-- elapsed time at which the start window closes (R467) -/
  window : Option Nat
  /-- the verified image of this start, and of a running upgrade -/
  img : Option Img
  upg : Option Img
  /-- an UPGRADE_UNLOCK is pending (R480) -/
  unlock : Bool
  /-- the lease span in force, in seconds (R482) -/
  span : Nat
  /-- the region of the running upgrade's image -/
  loc : Nat
  deriving DecidableEq, Repr

def BootSt.init : BootSt := ⟨.empty, 0, none, none, none, false, 30, 0⟩

/-- An OTP write (R477): its record 1 OWNER, 2 POLICY, 4 REPAIR, its data, whether an owner command ordered it, and the generation or entry
that it burns once it runs. -/
structure OtpWrite where
  record : Nat
  data : Nat
  auth : Bool
  gen : Option Nat
  deriving DecidableEq, Repr

structure OtpSt where
  bits : BitVec 16384
  writes : List OtpWrite
  deriving DecidableEq, Repr

/-! ### Tandem (R489 to R499) -/

/-- A write of the overlap log (R496). -/
structure OvlEntry where
  addr : Nat
  value : Word
  hart : Nat
  frac : Nat
  deriving DecidableEq, Repr

structure TdmSt where
  /-- elapsed time of the last heartbeat of k0 and of k15; none before the cluster's first start -/
  hb0 : Option Nat
  hb15 : Option Nat
  /-- elapsed time of the detection instant of the running switchover, and whether its lateness has been raised -/
  td : Option Nat
  late : Bool
  /-- elapsed time of the claim that opened the overlap window -/
  tc : Option Nat
  ovl : List OvlEntry
  /-- elapsed time at which an outgoing k15 powers down -/
  down : Option Nat
  /-- elapsed time at which k0 passed its self-test -/
  hold : Option Nat
  /-- k0 is held in RESET, since k15 failed after an upgrade's handover -/
  heldReset : Bool
  deriving DecidableEq, Repr

def TdmSt.init : TdmSt := ⟨none, none, none, false, none, [], none, none, false⟩

/-! ### Thermal and power (R503 to R513) -/

structure ThmSt where
  /-- working junction sensors that failed, by die 1 and 2 -/
  lost : KMap Nat
  /-- evaluations in a row at or below GOV_TEMP − HYST, and below 95 % of ICC_MAX -/
  cool : Nat
  low : Nat
  /-- the last currents estimated, newest first -/
  icc : List Nat
  /-- stacks above 95 °C: 1 -/
  hbmOver : KMap Nat
  deriving DecidableEq, Repr

def ThmSt.init : ThmSt := ⟨.empty, 0, 0, [], .empty⟩

/-! ### Always-on domain and JTAG (R509, R522 to R530) -/

/-- The JTAG instructions (R529). -/
inductive JtagIr where
  | bypass | idcode | sample | extest | extestPulse | extestTrain | clamp | highz
  deriving DecidableEq, Repr

/-- The always-on domain: it keeps its state through warm resets. -/
structure AonSt where
  /-- it runs: 64 edges of REFCLK_25M have passed since its supply came up -/
  up : Bool
  /-- the level of PORST_N, and whether the internal reset is held -/
  porst : Bool
  held : Bool
  /-- rails of R520 outside their windows, by bit: 0 to 7 as RAIL_OUT, 8 the Cyclometer island's -/
  railsOut : Nat
  gateTimeout : Bool
  /-- THERMTRIP_N is driven low -/
  trip : Bool
  /-- SYSREF is lost; REFCLK_25M is lost, and the internal oscillator runs -/
  sysrefLost : Bool
  ownOsc : Bool
  /-- the hottest reading of the always-on sensor, in °C -/
  temp : Nat
  /-- the current JTAG instruction and the boundary cells -/
  ir : JtagIr
  cells : List Bool
  deriving DecidableEq, Repr

def AonSt.init : AonSt := ⟨true, true, false, 0, false, false, false, false, 0, .idcode, []⟩

end Sys2Proof.Machine
end

