-- ==== Sys2Proof/Machine/State.lean ====
section
/-! DEFINITION. The state of the device, its faults and refusals, and the state after reset. -/

namespace Sys2Proof.Machine

/-- The reasons the machine stops. No command of this device stops it: every occurrence of the table has an effect
or is without effect in the state it meets, so the type has the one constructor that no meaning answers with. -/
inductive Fault where
  /-- raised by no command; kept so that the type is inhabited; safe -/
  | none
  deriving DecidableEq, Repr

/-- The reasons a command is turned away. -/
inductive Refusal where
  /-- raised by the dispatch for a command that the model gives no meaning; safe: nothing is claimed of it -/
  | notModelled (mnemonic : String)
  deriving DecidableEq, Repr

/-- The whole state of the device. -/
structure State where
  /-- the commands that wait, first in, first out -/
  pending : List Instr
  /-- every register word that differs from its reset word, by address (R9) -/
  regs : KMap Word
  /-- how many values the hardware has drawn (the model's own field, assumption 1) -/
  draws : Nat
  /-- what the device has presented outside itself, oldest first (the model's own field, assumption 3) -/
  out : List Output
  /-- the holding state of each requester, by requester key (R14) -/
  hold : KMap HoldSt
  /-- the RWO registers written since reset, by address: 1 (R12) -/
  written : KMap Nat
  /-- the counts that cross to the performance counters: overflow register, bit and amount (R457) -/
  pmcIn : List (Nat × Nat × Nat)
  die : DieSt
  time : TimeSt
  hif : HifSt
  /-- the rings, by global ring number (R363) -/
  rings : KMap RingSt
  /-- events dropped since the last event entry, by party key (R383) -/
  evLost : KMap Nat
  /-- the bytes of the device address space (R389): table DRAM, HBM and packet buffers, unlisted bytes zero -/
  ram : KMap Byte
  tab : TabSt
  lrn : LrnSt
  acl : AclSt
  pat : PatSt
  icr : IcrSt
  ing : IngSt
  port : PortSt
  /-- the OTN framers, by port -/
  otn : KMap OtnPort
  fab : FabSt
  tm : TmSt
  sch : SchSt
  eg : EgSt
  mem : MemSt
  /-- the epoch turns of the ingress and the egress side -/
  turnIn : TurnSt
  turnOut : TurnSt
  /-- the harts, by number -/
  harts : KMap HartSt
  kvc : KvcSt
  boot : BootSt
  otp : OtpSt
  cyc : CycSt
  tru : TruSt
  /-- the counter sets, by die: 0 Forwarding, 1 Traffic -/
  pmc : KMap PmcSt
  tdm : TdmSt
  thm : ThmSt
  aon : AonSt
  /-- the counts of the ledgers of R448 that no other structure keeps, by ledger × 2^24 + scope × 16 + term -/
  led : KMap Int
  deriving DecidableEq, Repr

/-- The OTP array as this model's device leaves the factory (assumption 20): a valid identity record and seal record whose fields are all zero,
with their CHECKs and VALID bits. -/
def otpFactory : BitVec 16384 :=
  BitVec.ofNat 16384 (0x15d70e0c * 2 ^ 736 + 0xc589851e * 2 ^ (3584 + 1024) + 2 ^ 16192 + 2 ^ 16210)

/-- The device right after PORST_N is released at its first start: registers at the Reset column of their tables,
all memories empty, nothing waiting. -/
def State.reset : State :=
  { pending := [], regs := .empty, draws := 8, out := [], hold := .empty, written := .empty, pmcIn := [],
    die := .init, time := .init, hif := .init, rings := .empty, evLost := .empty, ram := .empty, tab := .init, lrn := .init, acl := .init, pat := .init, icr := .init, ing := .init, port := .init,
    otn := .empty, fab := .init, tm := .init, sch := .init, eg := .init, mem := .init, turnIn := .init, turnOut := .init, harts := .empty, kvc := .init,
    boot := .init, otp := ⟨otpFactory, []⟩, cyc := .init, tru := .init, pmc := .empty, tdm := .init, thm := .init, aon := .init, led := .empty }

end Sys2Proof.Machine
end

