-- ==== Sys2Proof/Machine/Ops.lean ====
section
/-! DEFINITION. The operations that all families share: registers and fields, counters, time, free values, what the
device presents, rings and events, internal errors, capacity words, the repair log and the loss ledger. -/

namespace Sys2Proof.Machine

/-! ### Registers -/

/-- The word a register holds. -/
def State.reg (s : State) (a : Nat) : Word := KMap.get (resetWord a) s.regs a

/-- Sets the word a register holds. -/
def State.setReg (s : State) (a : Nat) (w : Word) : State := { s with regs := KMap.set (resetWord a) s.regs a w }

/-- The value of a field of a register. -/
def State.fld (s : State) (a : Nat) (f : Fld) : Nat := f.get (s.reg a)

/-- Sets one field of a register. -/
def State.setFld (s : State) (a : Nat) (f : Fld) (v : Nat) : State := s.setReg a (f.put (s.reg a) v)

/-- Whether a one-bit field is set. -/
def State.flag (s : State) (a : Nat) (f : Fld) : Bool := s.fld a f == 1

/-- Sets or clears a one-bit field. -/
def State.setFlag (s : State) (a : Nat) (f : Fld) (b : Bool) : State := s.setFld a f b.toNat

/-- The 64-bit value of a register pair whose `_LO` half is at `lo` (R8). -/
def State.reg64 (s : State) (lo : Nat) : Nat := (s.reg (lo + 4)).toNat * 2 ^ 32 + (s.reg lo).toNat

/-- Sets a register pair, modulo 2^64. -/
def State.setReg64 (s : State) (lo v : Nat) : State :=
  (s.setReg lo (BitVec.ofNat 32 v)).setReg (lo + 4) (BitVec.ofNat 32 (v >>> 32))

/-- A counter takes a value: it wraps at 2^64 and then sets its overflow bit (R89). -/
def State.setCtr (s : State) (c : Ctr) (v : Nat) : State :=
  if v < 2 ^ 64 then s.setReg64 c.lo v
  else (s.setReg64 c.lo v).setReg c.ovf ((s.setReg64 c.lo v).reg c.ovf ||| BitVec.ofNat 32 (2 ^ c.bit))

/-- A count on its way to the performance counters (R457). -/
def State.noteCount (s : State) (x : Nat × Nat × Nat) : State := { s with pmcIn := s.pmcIn ++ [x] }

/-- Adds to a 64-bit counter (R89); the count also crosses to the performance counters that name it (R457, R458). -/
def State.bump (s : State) (c : Ctr) (n : Nat) : State := (s.setCtr c (s.reg64 c.lo + n)).noteCount (c.ovf, c.bit, n)

/-! ### The dies and the registers that they hold (R539) -/

/-- Whether each die is out of reset, and whether the link between them is marked quiesced (R39, R542). -/
def State.fdieUp (s : State) : Bool := !s.flag Reg.DEV_DIE_STATUS Fld.DEV_DIE_STATUS_FDIE_IN_RESET
def State.tdieUp (s : State) : Bool := !s.flag Reg.DEV_DIE_STATUS Fld.DEV_DIE_STATUS_TDIE_IN_RESET
def State.linkQuiesced (s : State) : Bool := s.flag Reg.DEV_DIE_STATUS Fld.DEV_DIE_STATUS_QUIESCED

/-- A register write to a block within the Forwarding die reset: ignored while that die is in reset. -/
def onF (f : State → State) (s : State) : State := if s.fdieUp then f s else s

/-- A register write to a block of the Traffic die: ignored while that die is in reset or the link is quiesced (R539). -/
def onT (f : State → State) (s : State) : State := if s.tdieUp && !s.linkQuiesced then f s else s

/-- A register write to a die's own copy of a block: 0 Forwarding, 1 Traffic. -/
def onDie (d : Fin 2) (f : State → State) (s : State) : State := if d = 0 then onF f s else onT f s

/-! ### Byte strings -/

/-- The `n` low bytes of a number in network byte order (R5). -/
def beBytes : Nat → Nat → List Byte
  | 0, _ => []
  | n + 1, v => BitVec.ofNat 8 (v >>> (8 * n)) :: beBytes n v

/-- The number that bytes in network byte order spell. -/
def ofBE (l : List Byte) : Nat := l.foldl (fun a b => a * 256 + b.toNat) 0

/-- `n` bytes of a byte string from offset `o`, as a number; bytes past the end read zero. -/
def beAt (l : List Byte) (o n : Nat) : Nat :=
  ofBE ((List.range n).map (fun i => l.getD (o + i) 0))

/-- `n` zero bytes. -/
def zeros (n : Nat) : List Byte := List.replicate n 0

/-! ### Time -/

/-- The Equinox time of the Forwarding die, in units of 2^-32 s: the top 80 bits of the master (R46). -/
def State.now (s : State) : Nat := s.time.master.toNat >>> 32

/-- The Equinox time of the Traffic die (R51). -/
def State.nowT (s : State) : Nat := s.time.follower.toNat >>> 32

/-- Elapsed time in units of 2^-32 s, unmoved by steps: the base of every target that is a start plus a span (R49). -/
def State.mono (s : State) : Nat := s.time.mono >>> 32

/-- A span field in the exponent encoding of R45, `e` the 6-bit two's complement exponent, in units of 2^-32 s. -/
def expSpan (e : Nat) : Nat := if e < 32 then 2 ^ (32 + e) else 2 ^ (e - 32)

/-- The signed value of a 6-bit exponent field. -/
def expVal (e : Nat) : Int := if e < 32 then (e : Int) else (e : Int) - 64

/-- An exponent span whose exponent acts as at least `lo` and at most `hi`. -/
def expSpanIn (lo hi : Int) (e : Nat) : Nat :=
  let x := expVal e
  let y := if x < lo then lo else if hi < x then hi else x
  2 ^ (y + 32).toNat

/-- The short instant of R44: the low 32 bits of the seconds, then the fraction. -/
def shortInstant (t : Nat) : Nat := t % 2 ^ 64

/-- Spans in units of 2^-32 s. -/
def second : Nat := 2 ^ 32
def spanExp (k : Nat) : Nat := 2 ^ (32 - k)

/-! ### Free values and outputs -/

/-- A fresh free value of the hardware and the state that has used it. -/
def State.draw (s : State) : Nat × State := ((Config.draw s.draws).toNat, { s with draws := s.draws + 1 })

/-- Presents something outside the device. -/
def State.emit (s : State) (o : Output) : State := { s with out := s.out ++ [o] }

/-! ### Requesters and parties -/

/-- The key of a requester: a function's ID, or 1,024 plus the hart number. -/
def reqKey : Req → Nat
  | .func f => f.val
  | .hart h => 1024 + h.val

/-- The domain of a hart (R389). -/
def State.hartDom (s : State) (h : Nat) : Nat := s.fld (Reg.CPX_HART_DOM h) Fld.CPX_HART_DOM_DOMAIN

/-- The party of a requester: its function ID, or 1,024 plus its hart domain. -/
def State.party (s : State) : Req → Nat
  | .func f => f.val
  | .hart h => 1024 + s.hartDom h.val

/-- What a command answers: the state after its effect `t`. The queue is not a command's to change, so it is that of the state `s` before. -/
def answer (s t : State) : Host.Outcome State Fault Refusal := .next { t with pending := s.pending }

/-- A hart of the inactive supervisor cluster, outside the overlap window: its writes to register space are dropped (R489). -/
def State.tdmBlocked (s : State) (h : Nat) : Bool :=
  let k15 := s.flag Reg.TDM_STATUS Fld.TDM_STATUS_ACTIVE
  !s.flag Reg.TDM_STATUS Fld.TDM_STATUS_OVERLAP && ((h / 8 == 0 && k15) || (h / 8 == 15 && !k15))

def State.reqBlocked (s : State) : Req → Bool
  | .hart h => s.tdmBlocked h.val
  | .func _ => false

/-- A register write of the outgoing supervisor cluster in the overlap window is entered in the overlap log, or counted when the log is full (R496). -/
def State.ovlNote (s : State) (r : Req) (a : Nat) (v : Word) : State :=
  match r with
  | .func _ => s
  | .hart h =>
    if s.flag Reg.TDM_STATUS Fld.TDM_STATUS_OVERLAP && h.val / 8 == (if s.flag Reg.TDM_STATUS Fld.TDM_STATUS_ACTIVE then 15 else 0) then
      let n := s.tdm.ovl.length
      if n < 256 then
        (({ s with tdm := { s.tdm with ovl := s.tdm.ovl ++ [(⟨a, v, h.val, (s.time.master.toNat >>> 32) % 2 ^ 32⟩ : OvlEntry)] } }).setFld Reg.TDM_OVL_COUNT
          Fld.TDM_OVL_COUNT_COUNT (n + 1)).bump Ctr.TDM_OVL_WRITES 1
      else s.bump Ctr.TDM_OVL_LOST 1
    else s

/-- The same for the two writes of a register pair. -/
def State.ovlNote64 (s : State) (r : Req) (lo v : Nat) : State :=
  (s.ovlNote r lo (BitVec.ofNat 32 v)).ovlNote r (lo + 4) (BitVec.ofNat 32 (v / 2 ^ 32))

/-- Whether a requester's write is the owner function's or that of a hart of domain 0 (R344, R489, R540). -/
def State.isOwner (s : State) (r : Req) : Bool := (s.party r == 0 || s.party r == 1024) && !s.reqBlocked r

/-! ### Functions of the host ports -/

def State.fn (s : State) (f : Nat) : FuncSt := KMap.get .init s.hif.funcs f
def State.setFn (s : State) (f : Nat) (x : FuncSt) : State :=
  { s with hif := { s.hif with funcs := KMap.set .init s.hif.funcs f x } }

/-- Records an AER error of a function (R354). -/
def State.aer (s : State) (f : Nat) (e : AerErr) : State :=
  if e ∈ (s.fn f).aer then s else s.setFn f { s.fn f with aer := (s.fn f).aer ++ [e] }

/-- Reports an error of a class on a function: its AER status and its message. -/
def State.report (s : State) (f : Nat) (e : AerErr) (c : ErrClass) : State := (s.aer f e).emit (.errMsg f c)

/-! ### Rings -/

def State.ring (s : State) (g : Nat) : RingSt := KMap.get .init s.rings g
def State.setRing (s : State) (g : Nat) (r : RingSt) : State := { s with rings := KMap.set .init s.rings g r }

def State.ringKind (s : State) (g : Nat) : Nat := s.fld (Reg.RING_CFG g) Fld.RING_CFG_KIND
def State.ringState (s : State) (g : Nat) : Nat := s.fld (Reg.RING_CTRL g) Fld.RING_CTRL_STATE
def State.setRingState (s : State) (g st : Nat) : State := s.setFld (Reg.RING_CTRL g) Fld.RING_CTRL_STATE st
/-- The number of slots of a ring, 2^n (R364). -/
def State.ringSlots (s : State) (g : Nat) : Nat := 2 ^ s.fld (Reg.RING_CFG g) Fld.RING_CFG_LOG2SIZE
def State.cplProd (s : State) (g : Nat) : Nat := s.fld (Reg.RING_CTRL g) Fld.RING_CTRL_CPL_PROD
def State.descCons (s : State) (g : Nat) : Nat := s.fld (Reg.RING_IDX g) Fld.RING_IDX_DESC_CONS

/-- The ring states of R369. -/
def rsStopped : Nat := 0
def rsRunning : Nat := 1
def rsPaused : Nat := 2
def rsTurnWait : Nat := 3
def rsStopping : Nat := 4
def rsError : Nat := 5

/-- The ring kinds of R363. -/
def rkTx : Nat := 1
def rkRx : Nat := 2
def rkUpdate : Nat := 3
def rkEvent : Nat := 4
def rkSample : Nat := 5
def rkShadow : Nat := 6

/-- Difference of two 17-bit indices (R364). -/
def idxDiff (a b : Nat) : Nat := (a + 2 ^ 17 - b % 2 ^ 17) % 2 ^ 17

/-- The party that owns a ring: a function ID, or 1,024 plus a hart domain (R365). -/
def State.ringOwner (s : State) (g : Nat) : Nat :=
  (if s.flag (Reg.RING_OWNER g) Fld.RING_OWNER_HART then 1024 else 0) + s.fld (Reg.RING_OWNER g) Fld.RING_OWNER_ID

/-- The size of the entries the device writes to a ring (R363). -/
def entrySize (kind : Nat) : Nat := if kind = rkEvent then 64 else 16

/-- Completion slots of a ring that are neither written and unconsumed nor reserved (R373). -/
def State.freeSlots (s : State) (g : Nat) : Nat :=
  s.ringSlots g - (idxDiff (s.cplProd g) (s.ring g).cplCons + (s.ring g).reserved)

/-- Writes bytes to the memory of a party: a posted write to the host of a function, or the device address space of a
hart domain (R353, R365). -/
def State.partyWrite (s : State) (p addr : Nat) (d : List Byte) : State :=
  if p < 1024 then s.emit (.hostWrite p addr d)
  else { s with ram := (d.zipIdx).foldl (fun m (b, i) => KMap.set 0 m (addr + i) b) s.ram }

/-- The bytes of the device address space from an address. -/
def State.ramBytes (s : State) (addr n : Nat) : List Byte := (List.range n).map (fun i => KMap.get 0 s.ram (addr + i))

/-- Writes the next entry of a ring and advances CPL_PROD (R364). -/
def State.writeEntry (s : State) (g : Nat) (d : List Byte) : State :=
  let i := s.cplProd g
  let addr := s.reg64 (Reg.RING_CPL_BASE_LO g) + entrySize (s.ringKind g) * (i % s.ringSlots g)
  let s1 := s.partyWrite (s.ringOwner g) addr d
  let s2 := s1.setFld (Reg.RING_CTRL g) Fld.RING_CTRL_CPL_PROD ((i + 1) % 2 ^ 17)
  s2.setRing g { s2.ring g with unreported := true }

/-- Writes a completion into a reserved slot; while the ring is PAUSED it is held (R357). -/
def State.writeCpl (s : State) (g : Nat) (d : List Byte) : State :=
  let r := s.ring g
  let s1 := s.setRing g { r with reserved := r.reserved - 1 }
  if s.ringState g = rsPaused then s1.setRing g { s1.ring g with held := r.held ++ [d], reserved := r.reserved }
  else s1.writeEntry g d

/-! ### Events -/

/-- The rings whose set-up registers differ from reset, in rising order. -/
def State.ringsUsed (s : State) : List Nat :=
  s.regs.keys.filterMap (fun a =>
    if 0x1FD00000 ≤ a ∧ a < 0x1FF00000 ∧ (a - 0x1FD00000) % 32 = 0 then some ((a - 0x1FD00000) / 32) else none)

/-- The lowest-numbered RUNNING EVENT ring of a party (R383). -/
def State.eventRing (s : State) (p : Nat) : Option Nat :=
  s.ringsUsed.find? (fun g => s.ringKind g == rkEvent && s.ringState g == rsRunning && s.ringOwner g == p)

/-- The host port on which a party's dropped events count (R383). -/
def partyPort (p : Nat) : Nat := if p < 1024 then p / 256 else 0

/-- The 64 bytes of an event entry (R384). -/
def eventBytes (code die cluster lost inst loc : Nat) (payload : List Byte) : List Byte :=
  beBytes 2 code ++ beBytes 1 die ++ beBytes 1 cluster ++ beBytes 1 (if lost = 0 then 0 else 0x80) ++
    beBytes 3 (min lost 0xFFFFFF) ++ beBytes 8 (shortInstant inst) ++ beBytes 4 loc ++
    (payload ++ zeros 44).take 44

/-- Drops an event of a party: counted on its host port, and for the party until its next entry (R383). -/
def State.eventDrop (s : State) (p : Nat) : State :=
  let s1 := s.bump (Ctr.RING_EVT_DROP (partyPort p)) 1
  { s1 with evLost := KMap.set 0 s1.evLost p (KMap.get 0 s1.evLost p + 1) }

/-- Raises an event of a party at an instant: an entry on its event ring, or a dropped event (R383, R384). -/
def State.eventAt (s : State) (p code die cluster inst loc : Nat) (payload : List Byte) : State :=
  match s.eventRing p with
  | none => s.eventDrop p
  | some g =>
    if s.freeSlots g = 0 then s.eventDrop p
    else
      let s1 := s.writeEntry g (eventBytes code die cluster (KMap.get 0 s.evLost p) inst loc payload)
      { s1 with evLost := KMap.set 0 s1.evLost p 0 }

/-- Raises an event now. -/
def State.event (s : State) (p code die cluster loc : Nat) (payload : List Byte) : State :=
  s.eventAt p code die cluster s.now loc payload

/-- Raises an event of the device-owner function, function 0 (R383). -/
def State.ownerEvent (s : State) (code die cluster loc : Nat) (payload : List Byte) : State :=
  s.event 0 code die cluster loc payload

/-! ### Internal errors -/

/-- The class an internal error source has in HIF_IERR_SEV (R355, R356). -/
def State.ierrClass (s : State) (src : Nat) : ErrClass :=
  match (s.reg Reg.HIF_IERR_SEV).toNat >>> (2 * src) % 4 with
  | 0 => .correctable
  | 1 => .nonFatal
  | _ => .fatal

/-- Records an internal error: its status bit; unmasked, also the log if it is free, the AER status and message of the
owner function (R356). -/
def State.ierrLog (s : State) (src die cluster code loc : Nat) : State :=
  let s1 := s.setFld Reg.HIF_IERR_STATUS Fld.HIF_IERR_STATUS_SRC (s.fld Reg.HIF_IERR_STATUS Fld.HIF_IERR_STATUS_SRC ||| 2 ^ src)
  if (s.fld Reg.HIF_IERR_MASK Fld.HIF_IERR_MASK_SRC).testBit src then s1
  else
    let s2 :=
      if s1.flag Reg.HIF_IERR_LOG0 Fld.HIF_IERR_LOG0_VALID then s1
      else
        (((s1.setReg Reg.HIF_IERR_LOG0
          (BitVec.ofNat 32 (2 ^ 31 + src * 2 ^ 24 + die * 2 ^ 22 + cluster * 2 ^ 16 + code))).setReg
          Reg.HIF_IERR_LOG1 (BitVec.ofNat 32 loc)).setReg
          Reg.HIF_IERR_LOG2 (BitVec.ofNat 32 (s.now >>> 32))).setReg
          Reg.HIF_IERR_LOG3 (BitVec.ofNat 32 s.now)
    let c := s.ierrClass src
    s2.report 0 (if c = .correctable then .correctedInternal else .uncorrectableInternal) c

/-- The internal error sources of R355. -/
def ieD2dRetry : Nat := 0
def ieD2dFail : Nat := 1
def ieUnassigned : Nat := 2
def ieDieAlign : Nat := 3
def ieMemCorr : Nat := 4
def ieMemUncorr : Nat := 5
def ieMemLink : Nat := 6
def ieConservation : Nat := 7
def ieCapacity : Nat := 8

/-- Raises an internal error of a source that has no event of its own: the matching event, of a code the spec does not
give (assumption 2), goes to the owner function while the source is unmasked (R356). -/
def State.ierr (s : State) (src die cluster loc : Nat) : State :=
  let code := (Config.ierrEventCode src).toNat
  let s1 := s.ierrLog src die cluster code loc
  if (s.fld Reg.HIF_IERR_MASK Fld.HIF_IERR_MASK_SRC).testBit src then s1
  else s1.ownerEvent code die cluster loc []

/-! ### Capacity words, the repair log and the loss ledger -/

/-- The fields of a capacity word (R544), REDUCED apart. -/
structure CapWord where
  fenced : Bool
  spare : Nat
  percent : Nat
  count : Nat
  deriving DecidableEq, Repr

/-- The fields a capacity word holds. -/
def capOf (w : Word) : CapWord :=
  ⟨w.toNat.testBit 31, (w.toNat >>> 24) % 64, (w.toNat >>> 16) % 256, w.toNat % 65536⟩

/-- A capacity word from its fields; REDUCED stays once set, and sets when PERCENT falls below 100 or FENCED sets. -/
def capWord (old : Word) (c : CapWord) : Word :=
  let red := old.toNat.testBit 30 || decide (c.percent < 100) || c.fenced
  BitVec.ofNat 32 (c.fenced.toNat * 2 ^ 31 + red.toNat * 2 ^ 30 + (c.spare % 64) * 2 ^ 24 + (c.percent % 256) * 2 ^ 16 +
    c.count % 65536)

/-- Sets a cluster's capacity word; any change raises the CAPACITY event and internal error in the same cycle
(R17, R355, R385, R544). -/
def State.setCap (s : State) (d c : Nat) (w : CapWord) : State :=
  let a := Reg.DEV_CAP d c
  let nw := capWord (s.reg a) w
  if nw = s.reg a then s
  else
    let s1 := (s.setReg a nw).ierrLog ieCapacity d c 0x0100 0
    s1.ownerEvent 0x0100 d c 0 (beBytes 4 nw.toNat)

/-- Changes a cluster's capacity word through its fields. -/
def State.modCap (s : State) (d c : Nat) (f : CapWord → CapWord) : State := s.setCap d c (f (capOf (s.reg (Reg.DEV_CAP d c))))

/-- The kinds of repair log entries (R541). -/
def rlMemory : Nat := 0
def rlCore : Nat := 1
def rlStage : Nat := 2
def rlFence : Nat := 3
def rlSensor : Nat := 4

/-- Appends an entry to the repair log unless it is full; SOFT entries carry the instant of the event (R541). -/
def State.logRepair (s : State) (record kind : Nat) (soft : Bool) (die cluster engine : Nat) : State :=
  let n := s.fld Reg.DEV_REPAIR_STATUS Fld.DEV_REPAIR_STATUS_COUNT
  if n ≥ 1024 then s
  else
    let t := if soft then s.now else 0
    let s1 := s.setReg (Reg.DEV_REPAIR_LOG n 0) (BitVec.ofNat 32 (2 ^ 31 + record))
    let s2 := s1.setReg (Reg.DEV_REPAIR_LOG n 1)
      (BitVec.ofNat 32 (kind * 2 ^ 28 + soft.toNat * 2 ^ 27 + die * 2 ^ 25 + cluster * 2 ^ 19 + engine))
    let s3 := s2.setReg (Reg.DEV_REPAIR_LOG n 2) (BitVec.ofNat 32 (t >>> 32))
    let s4 := s3.setReg (Reg.DEV_REPAIR_LOG n 3) (BitVec.ofNat 32 t)
    let s5 := s4.setFld Reg.DEV_REPAIR_STATUS Fld.DEV_REPAIR_STATUS_COUNT (n + 1)
    s5.setFlag Reg.DEV_REPAIR_STATUS Fld.DEV_REPAIR_STATUS_FULL (n + 1 == 1024)

/-- The ledgers of R448. -/
def ldIngress : Nat := 1
def ldFabTx : Nat := 2
def ldFabRx : Nat := 3
def ldEgress : Nat := 4
def ldPool : Nat := 5
def ldPolicer : Nat := 6
def ldShaper : Nat := 7
def ldCredit : Nat := 8
def ldRing : Nat := 9
def ldNotice : Nat := 10

/-- The loss causes of R456. -/
def lcUncorr : Nat := 1
def lcDieReset : Nat := 2
def lcPurge : Nat := 3
def lcRebuild : Nat := 4
def lcUnexplained : Nat := 5
def lcMetered : Nat := 6

/-- Enters amounts into the loss ledger: the accumulators of the cause, and the event TRU_LOSS (R456). -/
def State.loss (s : State) (ledger cause scope : Nat) (items units : Int) (subject : Nat) (discont : Bool) : State :=
  let add (s : State) (lo : Nat) (x : Int) : State := s.setReg64 lo ((s.reg64 lo + (BitVec.ofInt 64 x).toNat) % 2 ^ 64)
  let s1 := add (add s (Reg.TRU_LOSS_ITEMS_LO cause) items) (Reg.TRU_LOSS_UNITS_LO cause) units
  s1.ownerEvent 0x0B01 2 63 scope
    (beBytes 1 ledger ++ beBytes 1 cause ++ beBytes 1 (discont.toNat * 128) ++ [0] ++
      beBytes 8 (BitVec.ofInt 64 items).toNat ++ beBytes 8 (BitVec.ofInt 64 units).toNat ++ beBytes 4 subject)

/-! ### Absolute triggers -/

/-- The triggers that fall at whole multiples of a period (R63), by number. -/
def tgSecond : Nat := 0
def tgMarker : Nat := 1
def tgPps : Nat := 2
def tgAudit : Nat := 3
/-- The sweeps: their index is the last instant looked at, since their period is written by the host (R202). -/
def tgAge : Nat := 4
/-- The checkpoints: as the sweeps (R492). -/
def tgCheckpoint : Nat := 5
/-- The governor's evaluations (R505). -/
def tgGov : Nat := 6
/-- The windows of a bundle (R259). -/
def tgDer (b : Nat) : Nat := 16 + b
/-- The sampling rounds of a quadrant; the index is the last instant looked at (R316). -/
def tgSample (q : Nat) : Nat := 32 + q

/-- Whether the next multiple of a period has been reached. -/
def State.trigDue (s : State) (id period : Nat) : Bool := decide ((KMap.get 0 s.time.trig id + 1) * period ≤ s.now)

/-- Notes that a trigger has fired for the multiples reached so far; a multiple that a forward step skipped fires
once (R49). -/
def State.trigFire (s : State) (id period : Nat) : State :=
  { s with time := { s.time with trig := KMap.set 0 s.time.trig id (s.now / period) } }

end Sys2Proof.Machine
end

