-- ==== Sys2Proof/Machine/FabBase.lean ====
section
/-! DEFINITION. What the fabric interface and the ingress slices share: lanes, cell headers, the copies that wait and the DEMAND cells
that tell of them (R238 to R254). -/

namespace Sys2Proof.Machine

/-! ### The device and its lanes -/

def State.devId (s : State) : Nat := s.fld Reg.FAB_DEV_CFG Fld.FAB_DEV_CFG_DEVICE_ID
def State.fabEn (s : State) : Bool := s.flag Reg.FAB_DEV_CFG Fld.FAB_DEV_CFG_EN
def State.incarnation (s : State) : Nat := s.fld Reg.FAB_DEV_CFG Fld.FAB_DEV_CFG_INCARNATION

/-- Whether the fabric interface runs. -/
def State.fabOn (s : State) : Bool := s.tdieUp && s.fabEn

/-- The lane states of R256. -/
def lnDown : Nat := 0
def lnSignal : Nat := 1
def lnCwLock : Nat := 2
def lnPeer : Nat := 3
def lnActive : Nat := 4
def lnQuiet : Nat := 5
def lnWaking : Nat := 6
def lnFailed : Nat := 7

/-- Lane l of bundle b, as one number. -/
def laneNo (b l : Nat) : Nat := b * 24 + l
def State.lane (s : State) (n : Nat) : LaneSt := KMap.get .init s.fab.lanes n
def State.putLane (s : State) (n : Nat) (x : LaneSt) : State := { s with fab := { s.fab with lanes := KMap.set .init s.fab.lanes n x } }
def State.bund (s : State) (b : Nat) : BundSt := KMap.get .init s.fab.bund b
def State.setBund (s : State) (b : Nat) (x : BundSt) : State := { s with fab := { s.fab with bund := KMap.set .init s.fab.bund b x } }

def bundleLanes (b : Nat) : List Nat := (List.range 24).map (laneNo b)

/-- Transmit lanes ACTIVE of a bundle. -/
def State.activeTx (s : State) (b : Nat) : Nat := ((bundleLanes b).filter (fun n => (s.lane n).st == lnActive)).length

/-! ### The cell header (R238) -/

/-- CRC-16 of x^16 + x^12 + x^5 + 1 from 0xFFFF over bytes. -/
def crc16 (l : List Byte) : Nat :=
  l.foldl (fun c b =>
    (List.range 8).foldl (fun c _ => if 32768 ≤ c then (c * 2 % 65536) ^^^ 0x1021 else c * 2) (c ^^^ (b.toNat * 256))) 0xFFFF

def hdrHec (h : BitVec 128) : Nat := crc16 (beBytes 14 (h.toNat >>> 16))

/-- A cell header from its fields, its HEC included. -/
def cellHdr (ty src dst cls dest seq ctx pos bad len pseq : Nat) : BitVec 128 :=
  let hi := ty * 2 ^ 124 + src % 2048 * 2 ^ 113 + dst % 2048 * 2 ^ 102 + cls % 8 * 2 ^ 99 + dest % 2 ^ 20 * 2 ^ 79 + seq % 2 ^ 24 * 2 ^ 55 +
    ctx % 1024 * 2 ^ 45 + pos * 2 ^ 43 + bad * 2 ^ 42 + len % 256 * 2 ^ 34 + pseq % 2 ^ 16 * 2 ^ 16
  BitVec.ofNat 128 (hi + hdrHec (BitVec.ofNat 128 hi))

def hBits (h : BitVec 128) (hi lo : Nat) : Nat := (h.toNat >>> lo) % 2 ^ (hi - lo + 1)

/-! ### Streams and the copies that wait (R241 to R254) -/

def strm (d c : Nat) : Nat := d * 8 + c
def State.srcS (s : State) (d c : Nat) : SrcStream := KMap.get .init s.fab.src (strm d c)
def State.setSrcS (s : State) (d c : Nat) (x : SrcStream) : State := { s with fab := { s.fab with src := KMap.set .init s.fab.src (strm d c) x } }

/-- The device list of a group (R253). -/
def State.devList (s : State) (g : Nat) : Nat × Nat := KMap.get (0, 0) s.fab.lists (g % 65536)
def listMembers (m : Nat) : List Nat := (List.range 2048).filter m.testBit

/-- The devices and class of a copy as they stand now. -/
def State.targets (s : State) (c : TCopy) : List TProg × Nat :=
  match c.prog with
  | some l => (l, c.cls)
  | none =>
    match c.dest with
    | .uni d q => ([⟨d, 0, false, 0, 0⟩], q % 8)
    | .mc g => let (m, k) := s.devList g; ((listMembers m).map (fun d => ⟨d, 0, false, 0, 0⟩), k)

/-- Payload bytes of a copy, its internal header included: those known, and whether that is all. -/
def TCopy.payload (c : TCopy) : Nat × Bool :=
  match c.tail with
  | some _ => (16 + c.data.length, true)
  | none => (16 + (c.data.length - 4), false)

/-- Data cells that a copy has still to send to a device, as far as its bytes are known. -/
def TCopy.cellsLeft (c : TCopy) (x : TProg) : Nat := (c.payload.1 - x.sent + 255) / 256

/-- BACKLOG of a stream (R246). -/
def State.backlog (s : State) (d k : Nat) : Nat :=
  ((List.range 16).flatMap (fun i => KMap.get [] s.ing.transit i)).foldl (fun a c =>
    let (l, cls) := s.targets c
    if cls = k then a + ((l.filter (fun x => x.dev == d)).map c.cellsLeft).sum else a) 0

/-- The bundles that reach a device, as a bit set (R244). -/
def State.reach (s : State) (d : Nat) : Nat := (s.reg (Reg.FAB_REACH d)).toNat >>> (8 * (d % 4)) % 256

def State.transitOf (s : State) (i : Nat) : List TCopy := KMap.get [] s.ing.transit i
def State.setTransit (s : State) (i : Nat) (l : List TCopy) : State := { s with ing := { s.ing with transit := KMap.set [] s.ing.transit i l } }

/-- The lane on which a message for a device goes: the lowest active lane of a bundle that reaches it (R244). -/
def State.msgLane (s : State) (d : Nat) : Option Nat :=
  (List.range 192).find? (fun n => (s.reach d).testBit (n / 24) && (s.lane n).st == lnActive)

/-- A DEMAND cell for a device with the totals as they stand (R246); none goes to a device that no active lane reaches. -/
def State.sendDemand (s : State) (d : Nat) : State :=
  match s.msgLane d with
  | none => s
  | some n =>
    let inc := KMap.get 0 s.fab.incOut d
    let body := beBytes 2 s.incarnation ++ beBytes 2 inc ++ zeros 4 ++ (List.range 8).flatMap (fun c =>
      let x := s.srcS d c
      beBytes 2 (min 0xFFFF (s.backlog d c)) ++ beBytes 4 x.returned ++ beBytes 3 x.seq ++ zeros 3)
    s.emit (.cell n (cellHdr 3 s.devId d 0 0 0 0 3 0 103 0) none body)

/-- A DEMAND to every device whose BACKLOG has changed since an earlier state (R250). -/
def State.demandAfter (s old : State) : State :=
  if !s.fabOn then s
  else
    let devs := ((List.range 16).flatMap (fun i => (old.transitOf i ++ s.transitOf i).flatMap (fun c =>
      ((old.targets c).1 ++ (s.targets c).1).map (·.dev)))).eraseDups
    let due := devs.filter (fun d => (List.range 8).any (fun c => min 0xFFFF (old.backlog d c) != min 0xFFFF (s.backlog d c)))
    due.foldl (fun s d => s.sendDemand d) s

end Sys2Proof.Machine
end

