-- ==== Sys2Proof/Machine/PortBase.lean ====
section
/-! DEFINITION. What the line ports share: their registers by port number, lanes, speeds and rates (R69 to R71, R91 to R94). -/

namespace Sys2Proof.Machine

/-- The registers of line port `p` = 8i + j lie in the block of slice i at the set of port j (R69, R90). -/
def portCfg (p : Nat) : Nat := Reg.PORT_CFG (p / 8) (p % 8)
def portStatus (p : Nat) : Nat := Reg.PORT_STATUS (p / 8) (p % 8)
def otnCfg (p : Nat) : Nat := Reg.OTN_CFG (p / 8) (p % 8)
def otnStatus (p : Nat) : Nat := Reg.OTN_STATUS (p / 8) (p % 8)

def State.portEn (s : State) (p : Nat) : Bool := s.flag (portCfg p) Fld.PORT_CFG_EN
def State.portOtn (s : State) (p : Nat) : Bool := s.fld (portCfg p) Fld.PORT_CFG_KIND == 1
def State.linkUp (s : State) (p : Nat) : Bool := s.flag (portStatus p) Fld.PORT_STATUS_LINK_UP
def State.maxFrame (s : State) (p : Nat) : Nat := s.fld (portCfg p) Fld.PORT_CFG_MAX_FRAME

/-- Lanes of an Ethernet speed (R69). -/
def speedLanes (sp : Nat) : Nat := if sp = 5 then 2 else if sp = 6 then 4 else if sp = 7 then 8 else 1

/-- Lanes of an OTN port of `n` instances (R91). -/
def otnLanes (n : Nat) : Nat := if n ≤ 2 then 1 else if n ≤ 4 then 2 else if n ≤ 8 then 4 else 8

/-- The instances of an OTN port (R91, R118). -/
def State.otnN (s : State) (p : Nat) : Nat := s.fld (otnCfg p) Fld.OTN_CFG_N + 1

/-- Lanes of a port with a given configuration word. -/
def State.lanesOf (s : State) (p : Nat) (w : Word) : Nat :=
  if Fld.PORT_CFG_KIND.get w = 1 then otnLanes (s.otnN p) else speedLanes (Fld.PORT_CFG_SPEED.get w)

/-- The rate of an Ethernet speed in bits per second (R69). -/
def speedRate (sp : Nat) : Nat :=
  match sp with
  | 0 => 10000000000
  | 1 => 25000000000
  | 2 => 50000000000
  | 3 => 100000000000
  | 4 => 200000000000
  | 5 => 400000000000
  | 6 => 800000000000
  | _ => 1600000000000

/-- The rate of a line port as a fraction of bits per second: numerator and denominator. An OTN port carries
n × 19/20 × 238/226 × 99.5328 Gb/s (R94). -/
def State.portRate (s : State) (p : Nat) : Nat × Nat :=
  if s.portOtn p then (s.otnN p * 99532800000 * 19 * 238, 20 * 226)
  else (speedRate (s.fld (portCfg p) Fld.PORT_CFG_SPEED), 1)

/-- The time of `n` bits at a port's rate, in units of 2^-32 s, rounded up to a whole unit. -/
def State.bitTime (s : State) (p n : Nat) : Nat :=
  let (num, den) := s.portRate p
  (n * den * 2 ^ 32 + num - 1) / num

/-- The lanes of its group that port `p` owns while enabled. -/
def State.ownsLane (s : State) (p lane : Nat) : Bool :=
  s.portEn p && decide (p % 8 ≤ lane ∧ lane < p % 8 + s.lanesOf p (s.reg (portCfg p)))

/-- Whether RCLK_OUT0 or RCLK_OUT1 runs: it is enabled, and its port is an Ethernet port that is up (R56). -/
def State.rclkRuns (s : State) (m : Fin 2) : Bool :=
  let (en, pt) := if m = 0 then (Fld.TIME_SYNCE_CFG_RCLK0_EN, Fld.TIME_SYNCE_CFG_RCLK0_PORT) else (Fld.TIME_SYNCE_CFG_RCLK1_EN, Fld.TIME_SYNCE_CFG_RCLK1_PORT)
  let p := s.fld Reg.TIME_SYNCE_CFG pt
  s.flag Reg.TIME_SYNCE_CFG en && !s.portOtn p && s.linkUp p

/-- Notes the recovered-clock outputs that have run in the open window. -/
def State.rclkNote (s : State) : State :=
  { s with time := { s.time with rclkOn0 := s.time.rclkOn0 || s.rclkRuns 0, rclkOn1 := s.time.rclkOn1 || s.rclkRuns 1 } }

/-- Whether any enabled port of the group but `p` owns a lane (R70). -/
def State.laneTaken (s : State) (p lane : Nat) : Bool :=
  (List.range 8).any (fun j => j != p % 8 && s.ownsLane (p / 8 * 8 + j) lane)

/-- The bits of PORT_GROUP_STATUS.LANE_USED (R90). -/
def State.laneUsed (s : State) (i : Nat) : Nat :=
  (List.range 8).foldl (fun m lane => m + (if (List.range 8).any (fun j => s.ownsLane (i * 8 + j) lane) then 2 ^ lane else 0)) 0

end Sys2Proof.Machine
end

