-- ==== Sys2Proof/Machine/GateBase.lean ====
section
/-! DEFINITION. Gate control lists and what a port reads of them (R309 to R312). -/

namespace Sys2Proof.Machine

def gateCfg (p : Nat) : Nat := Reg.GATE_CFG (p / 8) (p % 8)
def gateStatus (p : Nat) : Nat := Reg.GATE_STATUS (p / 8) (p % 8)
def State.gate (s : State) (p : Nat) : GateSt := KMap.get .init s.sch.gates p
def State.setGate (s : State) (p : Nat) (g : GateSt) : State := { s with sch := { s.sch with gates := KMap.set .init s.sch.gates p g } }
def State.gateEn (s : State) (p : Nat) : Bool := s.flag (gateCfg p) Fld.GATE_CFG_EN

/-- The latency λ of a port (R309). -/
def State.txLat (s : State) (p : Nat) : Nat :=
  (Config.txLat (s.fld (portCfg p) Fld.PORT_CFG_SPEED) (s.fld (portCfg p) Fld.PORT_CFG_FEC)).toNat

/-- The spans of a list within one cycle: start, end, operation and gate bits; the last entry holds to the cycle's end, and what lies beyond
it is cut (R310). -/
def GateList.spans (l : GateList) : List (Nat × Nat × Nat × Nat) :=
  let rec go (es : List (Nat × Nat × Nat)) (at_ : Nat) : List (Nat × Nat × Nat × Nat) :=
    match es with
    | [] => []
    | (i, op, g) :: r =>
      if l.cycle ≤ at_ then []
      else
        let e := if r.isEmpty then l.cycle else min l.cycle (at_ + i)
        (at_, e, op, g) :: go r (at_ + i)
  go l.entries 0

/-- The place of an instant within its cycle. -/
def GateList.phase (l : GateList) (t : Nat) : Nat := if l.cycle = 0 then 0 else (t - l.base) % l.cycle

/-- The entry in force at an instant at or after the base: its start within the cycle, operation and gate bits. -/
def GateList.at_ (l : GateList) (t : Nat) : Option (Nat × Nat × Nat) :=
  (l.spans.find? (fun x => decide (x.1 ≤ l.phase t ∧ l.phase t < x.2.1))).map (fun x => (x.1, x.2.2.1, x.2.2.2))

/-- The list that governs an instant: the one that waits for its change instant governs from that instant on (R315). -/
def State.listAt (s : State) (p t : Nat) : Option GateList :=
  match (s.gate p).pend with
  | some (l, x) => if x ≤ t then some l else (s.gate p).oper
  | none => (s.gate p).oper

/-- Whether a list opens the gate of a class at an instant; before its base every gate is open (R310, R315). -/
def GateList.openAt (l : GateList) (c t : Nat) : Bool :=
  if t < l.base then true else match l.at_ t with | some (_, _, g) => g.testBit c | none => true

/-- Whether the gate of a class is open at an instant (R310). -/
def State.gateOpen (s : State) (p c t : Nat) : Bool :=
  if !s.gateEn p then true
  else
    match s.listAt p t with
    | none => true
    | some l => l.openAt c t

/-- The next instant after `t` at which a list shuts the gate of a class; none if it never does. -/
def GateList.nextShut (l : GateList) (c t : Nat) : Option Nat :=
  let ph := l.phase t
  let shut (x : Nat × Nat × Nat × Nat) : Bool := !x.2.2.2.testBit c
  match l.spans.find? (fun x => decide (ph < x.1) && shut x) with
  | some x => some (t + x.1 - ph)
  | none => (l.spans.find? shut).map (fun x => t + l.cycle + x.1 - ph)

/-- The next instant at or after `t` at which the gate of a class shuts; none if it never does. A list that waits for its change instant cuts
the running one there (R315). -/
def State.nextShut (s : State) (p c t : Nat) : Option Nat :=
  if !s.gateEn p then none
  else
    let run := (s.listAt p t).bind (fun l => l.nextShut c t)
    match (s.gate p).pend with
    | none => run
    | some (l, x) =>
      if x ≤ t then run
      else
        let later := if l.openAt c x then l.nextShut c x else some x
        match run with
        | some y => if y < x then some y else later
        | none => later

/-- The longest open span of a class in a list, across the cycle's end; none if it is always open (R311). -/
def GateList.longestOpen (l : GateList) (c : Nat) : Option Nat :=
  if l.spans.all (fun x => x.2.2.2.testBit c) then none
  else
    let two := l.spans ++ l.spans.map (fun x => (x.1 + l.cycle, x.2.1 + l.cycle, x.2.2.1, x.2.2.2))
    let (best, _) := two.foldl (fun (best, run) x =>
      if x.2.2.2.testBit c then (max best (run + (x.2.1 - x.1)), run + (x.2.1 - x.1)) else (best, 0)) (0, 0)
    some best

/-- Hold is asserted on a port (R313). -/
def State.held (s : State) (p : Nat) : Bool := s.flag (gateStatus p) Fld.GATE_STATUS_HOLD

end Sys2Proof.Machine
end

