-- ==== Sys2Proof/Machine/Aes.lean ====
section
/-! DEFINITION. AES (FIPS 197) and AES-GCM (NIST SP 800-38D, with a 96-bit nonce), as the key vault and inline crypto use them (R400, R410).
A key is one number: bit 256 says that it has 256 bits, and its bits stand left-aligned below. -/

namespace Sys2Proof.Machine

/-! ### The field of 256 elements -/

def gfDouble (a : Nat) : Nat := if a < 128 then 2 * a else (2 * a) ^^^ 0x11B

/-- Product of two bytes: `n` bits of the second remain. -/
def gfMulGo : Nat → Nat → Nat → Nat
  | 0, _, _ => 0
  | n + 1, a, b => (if b % 2 = 1 then a else 0) ^^^ gfMulGo n (gfDouble a) (b / 2)

def gfMul (a b : Nat) : Nat := gfMulGo 8 a b

/-- The inverse of a byte, a^254; zero for zero. -/
def gfInv (a : Nat) : Nat :=
  let a2 := gfMul a a
  let a3 := gfMul a2 a
  let a6 := gfMul a3 a3
  let a12 := gfMul a6 a6
  let a15 := gfMul a12 a3
  let a30 := gfMul a15 a15
  let a60 := gfMul a30 a30
  let a63 := gfMul a60 a3
  let a126 := gfMul a63 a63
  let a127 := gfMul a126 a
  gfMul a127 a127

/-- A byte rotated left. -/
def rot8 (a n : Nat) : Nat := (a * 2 ^ n) % 256 + a / 2 ^ (8 - n)

def sBox (a : Nat) : Nat := let b := gfInv a; b ^^^ rot8 b 1 ^^^ rot8 b 2 ^^^ rot8 b 3 ^^^ rot8 b 4 ^^^ 0x63
def sBoxInv (a : Nat) : Nat := gfInv (rot8 a 1 ^^^ rot8 a 3 ^^^ rot8 a 6 ^^^ 0x05)

/-! ### The cipher -/

def xorList (a b : List Nat) : List Nat := List.zipWith (· ^^^ ·) a b

/-- Column `c` of a block of 16 bytes. -/
def blockCol (b : List Nat) (c : Nat) : List Nat := (b.drop (4 * c)).take 4

/-- The next word of the key schedule after the words `w`, newest first; `nk` words make the key. -/
def nextKeyWord (nk : Nat) (w : List (List Nat)) (rcon : Nat) : List Nat :=
  let i := w.length
  let t := w.headD []
  let t1 :=
    if i % nk = 0 then
      match (t.drop 1 ++ t.take 1).map sBox with
      | a :: r => (a ^^^ rcon) :: r
      | [] => []
    else if nk = 8 ∧ i % nk = 4 then t.map sBox
    else t
  xorList (w.getD (nk - 1) []) t1

def keyGo (nk : Nat) : Nat → Nat → List (List Nat) → List (List Nat)
  | 0, _, w => w
  | n + 1, rcon, w => keyGo nk n (if w.length % nk = 0 then gfDouble rcon else rcon) (nextKeyWord nk w rcon :: w)

/-- The round keys of 16 bytes, in order. -/
def roundKeys (nk : Nat) (key : List Nat) : List (List Nat) :=
  let rounds := nk + 6
  let first := ((List.range nk).map (blockCol key)).reverse
  let w := (keyGo nk (4 * (rounds + 1) - nk) 1 first).reverse
  (List.range (rounds + 1)).map (fun r => ((w.drop (4 * r)).take 4).flatten)

/-- ShiftRows, and its inverse: byte `i` of the result comes from the place given. -/
def shiftRows (b : List Nat) : List Nat := (List.range 16).map (fun i => b.getD ((i + 4 * (i % 4)) % 16) 0)
def shiftRowsInv (b : List Nat) : List Nat := (List.range 16).map (fun i => b.getD ((i + 16 - 4 * (i % 4)) % 16) 0)

/-- A column multiplied by the circulant of four coefficients. -/
def mixCol (m : List Nat) (c : List Nat) : List Nat :=
  (List.range 4).map (fun i => (List.range 4).foldl (fun x j => x ^^^ gfMul (c.getD j 0) (m.getD ((j + 4 - i) % 4) 0)) 0)
def mixColumns (m : List Nat) (b : List Nat) : List Nat := (List.range 4).flatMap (fun c => mixCol m (blockCol b c))

def aesRounds : List (List Nat) → List Nat → List Nat
  | [], b => b
  | [k], b => xorList (shiftRows (b.map sBox)) k
  | k :: r, b => aesRounds r (xorList (mixColumns [2, 3, 1, 1] (shiftRows (b.map sBox))) k)

def aesRoundsInv : List (List Nat) → List Nat → List Nat
  | [], b => b
  | [k], b => xorList ((shiftRowsInv b).map sBoxInv) k
  | k :: r, b => aesRoundsInv r (mixColumns [14, 11, 13, 9] (xorList ((shiftRowsInv b).map sBoxInv) k))

/-- The bytes of a number, most significant first. -/
def natBytes (n v : Nat) : List Nat := (List.range n).map (fun i => v / 256 ^ (n - 1 - i) % 256)
def natOf (l : List Nat) : Nat := l.foldl (fun a b => a * 256 + b) 0

/-- The round keys of a key. -/
def keysOf (key : Nat) : List (List Nat) :=
  if key / 2 ^ 256 % 2 = 1 then roundKeys 8 (natBytes 32 (key % 2 ^ 256)) else roundKeys 4 (natBytes 16 (key % 2 ^ 256 / 2 ^ 128))

/-- Encryption and decryption of one block of 128 bits. -/
def aesEnc (key block : Nat) : Nat :=
  match keysOf key with
  | [] => 0
  | k :: r => natOf (aesRounds r (xorList (natBytes 16 block) k))
def aesDec (key block : Nat) : Nat :=
  match (keysOf key).reverse with
  | [] => 0
  | k :: r => natOf (aesRoundsInv r (xorList (natBytes 16 block) k))

/-! ### Galois/Counter Mode -/

/-- Key stream of `n` blocks, from counter 2 of a 96-bit nonce on. -/
def gcmKeyStream (key nonce n : Nat) : List Byte :=
  (List.range n).flatMap (fun i => (natBytes 16 (aesEnc key (nonce % 2 ^ 96 * 2 ^ 32 + (i + 2) % 2 ^ 32))).map (BitVec.ofNat 8))

/-- Data with the key stream applied: encryption and decryption alike. -/
def gcmXor (key nonce : Nat) (d : List Byte) : List Byte :=
  List.zipWith (fun a b => a ^^^ b) d (gcmKeyStream key nonce ((d.length + 15) / 16))

/-- Product in the field of 2^128 elements, bit 127 being the coefficient of 1. -/
def ghashMulGo : Nat → Nat → Nat → Nat
  | 0, _, _ => 0
  | n + 1, x, v => (if x.testBit n then v else 0) ^^^ ghashMulGo n x (if v % 2 = 1 then (v / 2) ^^^ (0xE1 * 2 ^ 120) else v / 2)
def ghashMul (x y : Nat) : Nat := ghashMulGo 128 x y

/-- The blocks of a byte string, the last one filled with zeros. -/
def ghashBlocks (d : List Byte) : List Nat :=
  (List.range ((d.length + 15) / 16)).map (fun i => natOf ((List.range 16).map (fun j => (d.getD (16 * i + j) 0).toNat)))

/-- The tag of associated data and ciphertext. -/
def gcmTag (key nonce : Nat) (aad ct : List Byte) : Nat :=
  let h := aesEnc key 0
  let blocks := ghashBlocks aad ++ ghashBlocks ct ++ [aad.length * 8 * 2 ^ 64 + ct.length * 8]
  blocks.foldl (fun y b => ghashMul (y ^^^ b) h) 0 ^^^ aesEnc key (nonce % 2 ^ 96 * 2 ^ 32 + 1)

def gcmTagBytes (key nonce : Nat) (aad ct : List Byte) : List Byte := (natBytes 16 (gcmTag key nonce aad ct)).map (BitVec.ofNat 8)

end Sys2Proof.Machine
end

