-- ==== Sys2Proof/Machine/Icr.lean ====
section
/-! DEFINITION. Inline crypto: its tables, packet numbers, MACsec receive and the ESP replay window (R400 to R406, R420). -/

namespace Sys2Proof.Machine

/-! ### Tables (R420) -/

/-- SA number `n`, egress or ingress. -/
def saIdx (ingress : Bool) (n : Nat) : Nat := if ingress then 65536 + n else n
def State.sa (s : State) (i : Nat) : Sa := KMap.get .none s.icr.sas i
def State.setSa (s : State) (i : Nat) (x : Sa) : State := { s with icr := { s.icr with sas := KMap.set .none s.icr.sas i x } }

def Sa.valid (a : Sa) : Bool := a.flags.testBit 7
def Sa.esp (a : Sa) : Bool := a.flags.testBit 6
def Sa.tunnel (a : Sa) : Bool := a.flags.testBit 5
def Sa.outerV6 (a : Sa) : Bool := a.flags.testBit 4
/-- XPN or ESN: numbers of 64 bits. -/
def Sa.wide (a : Sa) : Bool := a.flags.testBit 3

/-- The 64 bytes of an SA entry. -/
def Sa.bytes (a : Sa) : List Byte :=
  beBytes 1 a.flags ++ [0] ++ beBytes 2 a.keyGen ++ beBytes 4 a.spi ++ beBytes 12 a.salt ++ beBytes 8 a.nextPn ++ beBytes 8 a.thresh ++
    zeros 4 ++ beBytes 16 a.outerDst ++ beBytes 4 a.outerSrc ++ zeros 4

/-- The 64 bytes of ICR_DATA. -/
def State.icrData (s : State) : List Byte := (List.range 16).flatMap (fun i => beBytes 4 (s.reg (Reg.ICR_DATA i)).toNat)

/-- Puts 64 bytes into ICR_DATA. -/
def State.setIcrData (s : State) (d : List Byte) : State :=
  (List.range 16).foldl (fun s i => s.setReg (Reg.ICR_DATA i) (BitVec.ofNat 32 (beAt d (4 * i) 4))) s

/-- The entries of a table of R420. -/
def icrSize (t : Nat) : Nat := if t = 2 then 1024 else if t < 5 then 65536 else 0

/-- The bytes of an entry, as ICR_TABLE_READ gives them. -/
def State.icrEntry (s : State) (t i : Nat) : List Byte :=
  match t with
  | 0 => (s.sa (saIdx false i)).bytes
  | 1 => (s.sa (saIdx true i)).bytes
  | 2 => let e := KMap.get .none s.icr.scs i
         beBytes 8 e.sci ++ beBytes 1 (e.valid.toNat * 128) ++ [0] ++ beBytes 2 e.sa ++ zeros 52
  | 3 => let e := KMap.get .none s.icr.binds i
         beBytes 4 (e.valid.toNat * 2 ^ 31 + e.encap) ++ beBytes 2 e.sa ++ zeros 58
  | _ => let e := KMap.get .none s.icr.inbound i
         beBytes 4 e.spi ++ beBytes 2 e.table ++ beBytes 1 (e.valid.toNat * 128) ++ [0] ++ beBytes 2 e.sa ++ zeros 6 ++ beBytes 16 e.dst ++ zeros 32

/-- Whether a set of four ways holds no free one. -/
def fullSet (valid : Nat → Bool) (i : Nat) : Bool := (slots4 i).all valid
where
  slots4 (i : Nat) : List Nat := [i / 4 * 4, i / 4 * 4 + 1, i / 4 * 4 + 2, i / 4 * 4 + 3]

/-- A write of an entry from its bytes; none where it is refused for a reserved value or a full set (R420). -/
def State.icrStore (s : State) (t i : Nat) (d : List Byte) : Option State :=
  match t with
  | 0 | 1 =>
    if beAt d 0 1 % 4 ≠ 0 ∨ beAt d 1 1 ≠ 0 ∨ beAt d 36 4 ≠ 0 ∨ beAt d 60 4 ≠ 0 then none
    else
      let k := saIdx (t == 1) i
      let old := s.sa k
      some (s.setSa k { flags := beAt d 0 1, keyGen := old.keyGen, spi := beAt d 4 4, salt := beAt d 8 12, nextPn := beAt d 20 8,
                        thresh := beAt d 28 8, outerDst := beAt d 40 16, outerSrc := beAt d 56 4, key := old.key, win := 0 })
  | 2 =>
    if beAt d 8 1 % 128 ≠ 0 ∨ beAt d 9 1 ≠ 0 ∨ beAt d 12 52 ≠ 0 then none
    else some { s with icr := { s.icr with scs := KMap.set .none s.icr.scs i ⟨beAt d 8 1 == 128, beAt d 0 8, beAt d 10 2⟩ } }
  | 3 =>
    let w := beAt d 0 4
    let valid := w.testBit 31
    if w / 2 ^ 20 % 2 ^ 11 ≠ 0 ∨ beAt d 6 58 ≠ 0 ∨ (valid && fullSet (fun j => (KMap.get .none s.icr.binds j).valid) i) then none
    else some { s with icr := { s.icr with binds := KMap.set .none s.icr.binds i ⟨valid, w % 2 ^ 20, beAt d 4 2⟩ } }
  | 4 =>
    let valid := beAt d 6 1 == 128
    if beAt d 6 1 % 128 ≠ 0 ∨ beAt d 7 1 ≠ 0 ∨ beAt d 10 6 ≠ 0 ∨ beAt d 32 32 ≠ 0 ∨
        (valid && fullSet (fun j => (KMap.get .none s.icr.inbound j).valid) i) then none
    else some { s with icr := { s.icr with
      inbound := KMap.set .none s.icr.inbound i ⟨valid, beAt d 0 4, beAt d 4 2, beAt d 8 2, beAt d 16 16⟩ } }
  | _ => none

def State.icrRefuse (s : State) : State := s.setFlag Reg.ICR_STATUS Fld.ICR_STATUS_ERR true

/-- A write of ICR_CMD (R420). -/
def icrCmdWrite (v : Word) (s : State) : State :=
  let t := Fld.ICR_CMD_TABLE.get v
  let i := Fld.ICR_CMD_INDEX.get v
  if icrSize t ≤ i then s.icrRefuse
  else if Fld.ICR_CMD_WRITE.get v = 1 then
    match s.icrStore t i s.icrData with
    | some s1 => s1
    | none => s.icrRefuse
  else s.setIcrData (s.icrEntry t i)

/-- A write of ICR_PORT_CFG: VALIDATE 0b11 and a reserved OFFSET are refused (R420). -/
def icrPortCfgWrite (p : Nat) (v : Word) (s : State) : State :=
  if Fld.ICR_PORT_CFG_VALIDATE.get v = 3 ∨ Fld.ICR_PORT_CFG_OFFSET.get v = 3 then s
  else s.setReg (Reg.ICR_PORT_CFG p) (v &&& 0xFEC0FFFF)

/-! ### Packet numbers (R401, R406) -/

/-- The last number of an SA. -/
def Sa.last (a : Sa) : Nat := if a.wide then 2 ^ 64 - 1 else 2 ^ 32 - 1

/-- Draws the next number of an egress SA; none beyond the last one. When the next number reaches PN_THRESH, ICR_PN_THRESH is
raised (R401, R406). -/
def State.drawPn (s : State) (n : Nat) : Option Nat × State :=
  let a := s.sa (saIdx false n)
  if a.last < a.nextPn then (none, s.bump Ctr.ICR_TX_PN_EXHAUSTED 1)
  else
    let s1 := s.setSa (saIdx false n) { a with nextPn := a.nextPn + 1 }
    let s2 := if a.nextPn + 1 = a.thresh then s1.ownerEvent 0x0A01 1 63 n [] else s1
    (some a.nextPn, s2)

/-- The full number of a received 32-bit number: with XPN or ESN the upper half is the one that brings it nearest above the window
(IEEE 802.1AE, RFC 4303). -/
def Sa.fullPn (a : Sa) (low : Nat) : Nat :=
  if a.wide then
    let hi := a.nextPn / 2 ^ 32
    let lo := a.nextPn % 2 ^ 32
    if low + 2 ^ 31 < lo then (hi + 1) * 2 ^ 32 + low
    else if lo + 2 ^ 31 < low ∧ 0 < hi then (hi - 1) * 2 ^ 32 + low
    else hi * 2 ^ 32 + low
  else low

/-- Notes a received number as seen. -/
def Sa.accept (a : Sa) (pn : Nat) : Sa :=
  if a.nextPn ≤ pn then { a with nextPn := pn + 1, win := (a.win * 2 ^ (pn + 1 - a.nextPn) + 1) % 2 ^ 1024 }
  else { a with win := a.win ||| 2 ^ (a.nextPn - 1 - pn) }

/-- Whether ESP's window of 1,024 packets admits a number (R405). -/
def Sa.espFresh (a : Sa) (pn : Nat) : Bool :=
  decide (a.nextPn ≤ pn) || (decide (a.nextPn ≤ pn + 1024) && !a.win.testBit (a.nextPn - 1 - pn))

/-! ### AES-GCM -/

/-- The nonce of a MACsec frame: SCI and PN, or with XPN the SSCI and PN added to the salt. -/
def Sa.macNonce (a : Sa) (sci pn : Nat) : Nat := if a.wide then (a.spi * 2 ^ 64 + pn) ^^^ a.salt else sci * 2 ^ 32 + pn

/-- The nonce of an ESP packet: the salt of bytes 8 to 11 and the IV. -/
def Sa.espNonce (a : Sa) (iv : Nat) : Nat := a.salt / 2 ^ 64 * 2 ^ 64 + iv

/-- The key that the engines use for an SA: the key loaded, in the length of the SA's AES-256 flag (R400, R420). -/
def Sa.engineKey (a : Sa) : Nat :=
  let k256 := a.flags.testBit 2
  if k256 == a.key.testBit 256 then a.key else Config.icrKey k256 a.key

/-! ### MACsec receive (R403) -/

def secTagLen (hasSci : Bool) : Nat := if hasSci then 16 else 8
def icvLen : Nat := 16

/-- Decrypts secure data from its first byte. -/
def SecRx.plain (x : SecRx) (d : List Byte) : List Byte :=
  if x.enc then d.take x.skip ++ gcmXor x.key x.nonce (d.drop x.skip) else d

/-- What MACsec receive makes of a frame's first bytes (R403). -/
inductive SecIn where
  /-- the frame goes on as it is -/
  | clear
  | noSa
  | replay
  | untagged (drop : Bool)
  | secure (x : SecRx)
  deriving DecidableEq, Repr

def confOffset (f : Nat) : Nat := match f with | 1 => 30 | 2 => 50 | _ => 0

/-- Matches a frame with its port's receive SCs and SAs (R403). -/
def State.secMatch (s : State) (p : Nat) (b : List Byte) : SecIn :=
  let w := s.reg (Reg.ICR_PORT_CFG p)
  if Fld.ICR_PORT_CFG_EN.get w = 0 then .clear
  else
    let et := beAt b 12 2
    if et ≠ 0x88E5 then
      if et = 0x888E then .clear
      else
        match Fld.ICR_PORT_CFG_VALIDATE.get w with
        | 0 => .clear
        | 1 => .untagged false
        | _ => .untagged true
    else
      let tci := beAt b 14 1
      let hasSci := tci.testBit 5
      let sci := beAt b 20 8
      let sc := if hasSci then
          (List.range 8).findSome? (fun n =>
            let e := KMap.get .none s.icr.scs (8 * p + n)
            if e.valid && e.sci == sci then some e else none)
        else
          let e := KMap.get .none s.icr.scs (8 * p)
          if e.valid then some e else none
      match sc with
      | none => .noSa
      | some c =>
        let n := (c.sa + tci % 4) % 65536
        let a := s.sa (saIdx true n)
        if !a.valid || a.esp then .noSa
        else
          let pn := a.fullPn (beAt b 16 4)
          if pn + Config.macsecWindow < a.nextPn then .replay
          else
            let hl := 12 + secTagLen hasSci
            .secure { sa := n, pn := pn, key := a.engineKey, nonce := a.macNonce c.sci pn, enc := tci.testBit 3,
                      skip := confOffset (Fld.ICR_PORT_CFG_OFFSET.get w), aad := b.take hl, raw := b.drop hl }

/-- The check of the ICV once all secure data and the ICV have arrived: the frame's plain bytes after its addresses, and whether the ICV
holds (R403). -/
def SecRx.finish (x : SecRx) : List Byte × Bool :=
  let n := x.raw.length - icvLen
  let data := x.raw.take n
  let icv := x.raw.drop n
  let aad := x.aad ++ (if x.enc then data.take x.skip else data)
  let ct := if x.enc then data.drop x.skip else []
  (x.plain data, icv == gcmTagBytes x.key x.nonce aad ct)

/-- Notes the number of a frame whose ICV held. -/
def State.secAccept (s : State) (x : SecRx) : State :=
  let i := saIdx true x.sa
  s.setSa i ((s.sa i).accept x.pn)

/-- The inbound entry that an ESP packet hits: by SPI, outer destination and route table (R405). -/
def State.espInbound (s : State) (spi dst table : Nat) : Option Inbound :=
  (s.icr.inbound.l.find? (fun (_, e) => e.valid && e.spi == spi && e.dst == dst && e.table == table)).map (·.2)

/-- ICR_TABLE_WRITE: a write of ICR_CMD with WRITE set. -/
def execIcrTableWrite (v : Word) (s : State) : Host.Outcome State Fault Refusal := answer s (onF (icrCmdWrite (Fld.ICR_CMD_WRITE.put v 1)) s)
/-- ICR_TABLE_READ: a write of ICR_CMD with WRITE clear. -/
def execIcrTableRead (v : Word) (s : State) : Host.Outcome State Fault Refusal := answer s (onF (icrCmdWrite (Fld.ICR_CMD_WRITE.put v 0)) s)

end Sys2Proof.Machine
end

