-- ==== Sys2Proof/Machine/Tables.lean ====
section
/-! DEFINITION. The route tables, the exact-match table and the egress tables (R156 to R187): visibility by epoch, lookups,
staging of update entries, placement and relocation, and what a turn publishes. -/

namespace Sys2Proof.Machine

/-! ### Epochs -/

def State.epoch (s : State) : Nat := (s.reg Reg.FWH_EPOCH_CUR).toNat

/-- Epoch `a` precedes epoch `b`, modulo 2^32 (R170). -/
def precedes (a b : Nat) : Bool :=
  let d := (b + 2 ^ 32 - a % 2 ^ 32) % 2 ^ 32
  decide (1 ≤ d) && decide (d ≤ 2 ^ 31 - 1)

/-- Whether an object of a birth and a death epoch is visible to a packet of epoch `p` (R170). -/
def visible (birth : Nat) (death : Option Nat) (p : Nat) : Bool :=
  (birth == p || precedes birth p) && (match death with | none => true | some d => precedes p d)

/-- Whether the previous ingress epoch is live (R150). -/
def State.prevLive (s : State) : Bool := s.flag Reg.FWH_EPOCH_STATUS Fld.FWH_EPOCH_STATUS_PREV_LIVE

def prevOf (e : Nat) : Nat := (e + 2 ^ 32 - 1) % 2 ^ 32

/-! ### Result words (R157, R158) -/

/-- Whether an update may carry a result word (R158). -/
def resultOk (w : Word) : Bool :=
  let n := w.toNat
  match n >>> 28 with
  | 0 => n == 0
  | 1 => n / 2 ^ 20 % 2 ^ 8 == 0
  | 2 => n / 2 ^ 20 % 2 ^ 8 == 0
  | 3 => n / 2 ^ 26 % 4 == 0 && n / 2 ^ 8 % 4 == 0 && decide (n % 2 ^ 8 ≤ 0x0F)
  | 4 => n / 2 ^ 16 % 2 ^ 10 == 0 && (decide (2 ≤ n / 2 ^ 26 % 4) || decide (n % 2 ^ 16 ≤ 4095))
  | 5 => n / 2 ^ 20 % 2 ^ 8 == 0
  | _ => false

/-! ### Address prefixes -/

/-- The first `len` bits of an address of `w` bits, left-aligned. -/
def maskPfx (w len a : Nat) : Nat := if len ≤ w then a >>> (w - len) <<< (w - len) else a

def famW (v6 : Bool) : Nat := if v6 then 128 else 32

/-- Whether a route covers an address. -/
def Route.covers (r : Route) (a : Nat) : Bool := maskPfx (famW r.v6) r.len a == r.pfx

/-- The routes of a table and family visible in an epoch. -/
def State.visRoutes (s : State) (p : Nat) (v6 : Bool) (table : Nat) : List Route :=
  s.tab.routes.filter (fun r => r.v6 == v6 && r.table == table && visible r.birth r.death p)

/-- The longer of two routes. -/
def longer (a : Option Route) (r : Route) : Option Route :=
  match a with
  | none => some r
  | some x => if x.len < r.len then some r else some x

/-- The longest matching prefix in the trie: up to /32, or up to /64 of IPv6 (R161, R162). -/
def State.trieLookup (s : State) (p : Nat) (v6 : Bool) (table a : Nat) : Option Route :=
  ((s.visRoutes p v6 table).filter (fun r => decide (r.len ≤ 64) && r.covers a)).foldl longer none

/-- Whether the walk of an address goes beyond the first `n` bits: a visible prefix beyond them lies under its first `n` bits,
a continuation counting as the /64 that leads to it (R161, R163). -/
def State.trieBeyond (s : State) (p : Nat) (v6 : Bool) (table a n : Nat) : Bool :=
  (s.visRoutes p v6 table).any (fun r =>
    decide (n < r.len) && maskPfx (famW v6) n r.pfx == maskPfx (famW v6) n a)

/-- The continuation lengths configured (R163). -/
def State.contLens (s : State) : List Nat :=
  [Fld.LPM_V6_CONT_LEN0, .LPM_V6_CONT_LEN1, .LPM_V6_CONT_LEN2, .LPM_V6_CONT_LEN3].map (s.fld Reg.LPM_V6_CONT) |>.filter (· ≠ 0)

/-- The configured lengths present under the /64 of an address: the mask of its stage-5 leaf (R163). -/
def State.contMask (s : State) (p table a : Nat) : List Nat :=
  s.contLens.dedup.filter (fun n => (s.visRoutes p true table).any (fun r => r.len == n && maskPfx 128 64 r.pfx == maskPfx 128 64 a))

/-- The exact-match key of a continuation of a length (R167). -/
def contKey (table len a : Nat) : ExmKey := ⟨0x40 + (len - 65), table, maskPfx 128 len a⟩
def hostKey (table a : Nat) : ExmKey := ⟨2, table, a⟩
def macKey (domain mac : Nat) : ExmKey := ⟨1, domain, mac * 2 ^ 80⟩
def mplsKey (space label : Nat) : ExmKey := ⟨3, space, label * 2 ^ 104⟩

/-! ### The exact-match table -/

def exmBuckets : Nat := 8388608

/-- A candidate bucket of a key: b0 or b1 (R168). -/
def State.bucket (s : State) (second : Bool) (k : ExmKey) : Nat :=
  (Config.exmBucket (Config.draw s.tab.exmSeed) second k.ktype k.table k.key).toNat

/-- The fingerprint of a key (R168). -/
def State.finger (s : State) (k : ExmKey) : Nat := (Config.exmPrint (Config.draw s.tab.exmSeed) k.ktype k.table k.key).toNat

def slotsOf (b : Nat) : List Nat := [4 * b, 4 * b + 1, 4 * b + 2, 4 * b + 3]

/-- The slots of the two candidate buckets of a key, b0 first. -/
def State.candidates (s : State) (k : ExmKey) : List Nat :=
  let b0 := s.bucket false k
  let b1 := s.bucket true k
  if b0 = b1 then slotsOf b0 else slotsOf b0 ++ slotsOf b1

def State.slot (s : State) (i : Nat) : Option ExmEntry := lfind s.tab.exm.l i
def State.setSlot (s : State) (i : Nat) (e : ExmEntry) : State :=
  { s with tab := { s.tab with exm := KMap.set .free s.tab.exm i e } }
def State.clearSlot (s : State) (i : Nat) : State := s.setSlot i .free

/-- The slots a lookup reads from table DRAM: occupied, with the key's fingerprint (R169). -/
def State.exmReads (s : State) (k : ExmKey) : List Nat :=
  (s.candidates k).filter (fun i => match s.slot i with | some e => s.finger e.key == s.finger k | none => false)

/-- The slot a lookup of epoch `p` hits (R169, R170). -/
def State.exmHit (s : State) (p : Nat) (k : ExmKey) : Option Nat :=
  (s.exmReads k).find? (fun i => match s.slot i with
    | some e => e.key == k && e.batch.isNone && visible e.birth e.death p
    | none => false)

/-- The result of the visible entry of a key. -/
def State.exmResult (s : State) (p : Nat) (k : ExmKey) : Option Word :=
  (s.exmHit p k).bind (fun i => (s.slot i).map (·.result))

/-- Sets HIT in the summary of the slot a lookup hits (R169). -/
def State.exmTouch (s : State) (p : Nat) (k : ExmKey) : State :=
  match s.exmHit p k with
  | none => s
  | some i => match s.slot i with
    | none => s
    | some e => s.setSlot i { e with hit := true }

/-- The published version of a key that no turn has ended yet: the one the learning engine and the host work on. -/
def State.exmLive (s : State) (k : ExmKey) : Option (Nat × ExmEntry) :=
  (s.candidates k).findSome? (fun i => match s.slot i with
    | some e => if e.key = k ∧ e.batch = none ∧ e.death = none then some (i, e) else none
    | none => none)

/-- How a memory region stands: 0 in use, 1 retired, 2 retired with its contents lost (R338). -/
def goneKey (kind region : Nat) : Nat := kind * 2 ^ 16 + region
def State.regionLost (s : State) (kind region : Nat) : Bool := KMap.get 0 s.mem.gone (goneKey kind region) == 2

/-- A table DRAM region, channel × 16 + region, from the number of its place among the 48 that hold tables (R322). -/
def tableRegion (x : Nat) : Nat := x % 48 / 2 * 16 + x % 2

/-- The place of an exact-match slot, and of the summary of its bucket, in table DRAM and table SRAM. -/
def State.exmDram (s : State) (i : Nat) : Nat := tableRegion (Config.exmPlace (Config.draw s.tab.exmSeed) i).toNat
def exmSram (i : Nat) : Nat := 32 + i / 4 / 131072

/-- Whether a slot lies in a region whose contents are lost: it stays full (R338). -/
def State.slotLost (s : State) (i : Nat) : Bool := s.regionLost 0 (s.exmDram i) || s.regionLost 2 (exmSram i)

/-- The lowest free slot of b0, otherwise of b1 (R171). -/
def State.exmFreeSlot (s : State) (k : ExmKey) : Option Nat :=
  (s.candidates k).find? (fun i => (s.slot i).isNone && !s.slotLost i)

/-- One choice among `n`, drawn (R171, R173). -/
def State.choose (s : State) (n : Nat) : Nat × State :=
  let (x, s1) := s.draw
  (x % n, s1)

/-- The random walk of R171: at most `n` more moves from bucket `b`; answers the path, its last slot first, and the free slot it
reaches. -/
def State.walk : Nat → State → Nat → List Nat → Option (List Nat × Nat) × State
  | 0, s, _, _ => (none, s)
  | n + 1, s, b, path =>
    let cands := (slotsOf b).filter (fun i => !path.contains i && !s.slotLost i)
    if cands.isEmpty then (none, s)
    else
      let (x, s1) := s.choose cands.length
      let c := cands.getD x 0
      match s1.slot c with
      | none => (none, s1)
      | some e =>
        let b0 := s1.bucket false e.key
        let ob := if b = b0 then s1.bucket true e.key else b0
        match (slotsOf ob).find? (fun i => (s1.slot i).isNone && !s1.slotLost i) with
        | some f => (some (c :: path, f), s1)
        | none => State.walk n s1 ob (c :: path)

/-- The relocation chain of an insert: from b0 or b1, drawn, at most 32 moves (R171). -/
def State.exmChain (s : State) (k : ExmKey) : Option (List Nat × Nat) × State :=
  let (x, s1) := s.choose 2
  State.walk 32 s1 (s1.bucket (x == 1) k) []

/-- Moves an entry to a free slot and clears its source (R171). -/
def State.exmMove (s : State) (src dst : Nat) : State :=
  match s.slot src with
  | none => s
  | some e => ((s.setSlot dst e).clearSlot src).bump Ctr.EXM_MOVE 1

/-- How long a moved-from slot keeps its contents, in 3.0 GHz cycles (R171). -/
def moveHold : Nat := 2048

/-- Frees the dead entries that no live epoch precedes (R170). -/
def State.exmReap (s : State) : State :=
  let cur := s.epoch
  let prev := s.prevLive
  { s with tab := { s.tab with
      exm := s.tab.exm.filter (fun _ e => match e.death with
        | none => true
        | some d => precedes cur d || (prev && precedes (prevOf cur) d)),
      routes := s.tab.routes.filter (fun r => match r.death with
        | none => true
        | some d => precedes cur d || (prev && precedes (prevOf cur) d)) } }

/-! ### Batches (R152) -/

/-- The open batch of a source, if it has staged anything. -/
def State.openBatch (s : State) (src : Nat) : Option Batch := s.tab.openB.find? (fun b => b.src == src)

/-- The number that the open batch of a source has or takes. -/
def State.batchNum (s : State) (src : Nat) : Nat := match s.openBatch src with | some b => b.num | none => s.tab.nextB

def State.openOps (s : State) (src : Nat) : List StOp := match s.openBatch src with | some b => b.ops | none => []

/-- Replaces the staged changes of a source's open batch. -/
def State.setOps (s : State) (src : Nat) (ops : List StOp) : State :=
  match s.openBatch src with
  | some b => { s with tab := { s.tab with openB := s.tab.openB.map (fun x => if x.num = b.num then { x with ops := ops } else x) } }
  | none => { s with tab := { s.tab with openB := s.tab.openB ++ [⟨s.tab.nextB, src, ops⟩], nextB := s.tab.nextB + 1 } }

/-- Closes the open batch of a source, an empty one as well. -/
def State.closeBatch (s : State) (src : Nat) : State :=
  match s.openBatch src with
  | some b => { s with tab := { s.tab with openB := s.tab.openB.filter (fun x => x.num ≠ b.num), closedB := s.tab.closedB ++ [b] } }
  | none => s

/-- All staged changes, open and closed. -/
def State.stagedOps (s : State) : List StOp := (s.tab.closedB ++ s.tab.openB).flatMap (·.ops)

/-- Whether a staged change is an update entry of its own: the key of a continuation is part of its route's (R163). -/
def StOp.counts : StOp → Bool
  | .exmAdd k => decide (k.ktype < 0x40)
  | .exmDel k => decide (k.ktype < 0x40)
  | _ => true

/-- LPM_STAGED.ENTRIES (R187). -/
def State.stagedCount (s : State) : Nat := (s.stagedOps.filter StOp.counts).length

def maxStaged : Nat := 262144

def StOp.units : StOp → Nat
  | .routeAdd _ _ _ _ _ u => u
  | _ => 0

/-- Units in use: staged additions and undrained deletions included (R164, R165, R187). -/
def State.unitsUsed (s : State) : Nat :=
  (s.tab.routes.map (·.units)).sum + (s.stagedOps.map StOp.units).sum

def maxUnits : Nat := 8388608

/-- EXM_STATUS.USED (R187). -/
def State.exmUsed (s : State) : Nat := s.tab.exm.l.length

/-- What a staged change says of a prefix. -/
def StOp.onRoute (v6 : Bool) (table len pfx : Nat) : StOp → Option Bool
  | .routeAdd v t l p _ _ => if v = v6 ∧ t = table ∧ l = len ∧ p = pfx then some true else none
  | .routeDel v t l p => if v = v6 ∧ t = table ∧ l = len ∧ p = pfx then some false else none
  | _ => none

def StOp.onKey (k : ExmKey) : StOp → Option Bool
  | .exmAdd j => if j = k then some true else none
  | .exmDel j => if j = k then some false else none
  | _ => none

/-- The last staged word on a prefix or key in the closed batches and then in `own`, or what is published. -/
def State.effective (s : State) (own : List StOp) (f : StOp → Option Bool) (pub : Bool) : Bool :=
  ((s.tab.closedB.flatMap (·.ops)) ++ own).foldl (fun a o => (f o).getD a) pub

def State.routePublished (s : State) (v6 : Bool) (table len pfx : Nat) : Bool :=
  s.tab.routes.any (fun r => r.v6 == v6 && r.table == table && r.len == len && r.pfx == pfx && r.death.isNone)

/-! ### Publication by a turn (R152, R165, R170) -/

/-- Applies one staged change of a batch in epoch `e`. -/
def State.publishOp (e num : Nat) (s : State) : StOp → State
  | .routeAdd v6 table len pfx result units =>
    let same (r : Route) : Bool := r.v6 == v6 && r.table == table && r.len == len && r.pfx == pfx && r.death.isNone
    let u := match s.tab.routes.find? same with | some r => r.units | none => units
    let kept := s.tab.routes.filterMap (fun r =>
      if same r then (if r.birth = e then none else some { r with death := some e, units := 0 }) else some r)
    { s with tab := { s.tab with routes := kept ++ [⟨v6, table, len, pfx, result, e, none, u⟩] } }
  | .routeDel v6 table len pfx =>
    { s with tab := { s.tab with routes := s.tab.routes.filterMap (fun r =>
        if r.v6 == v6 && r.table == table && r.len == len && r.pfx == pfx && r.death.isNone then
          (if r.birth = e then none else some { r with death := some e })
        else some r) } }
  | .exmAdd k =>
    let s1 := match s.exmLive k with
      | some (i, x) => if x.birth = e then s.clearSlot i else s.setSlot i { x with death := some e }
      | none => s
    match (s1.candidates k).find? (fun i => match s1.slot i with
        | some x => x.key == k && x.batch == some num
        | none => false) with
    | none => s1
    | some i => match s1.slot i with
      | none => s1
      | some x => s1.setSlot i { x with batch := none, birth := e }
  | .exmDel k =>
    match s.exmLive k with
    | some (i, x) => if x.birth = e then s.clearSlot i else s.setSlot i { x with death := some e }
    | none => s

/-- Publishes every closed batch, in the order in which they closed (R152). -/
def State.publish (s : State) (e : Nat) : State :=
  let s1 := s.tab.closedB.foldl (fun s b => b.ops.foldl (State.publishOp e b.num) s) s
  { s1 with tab := { s1.tab with closedB := [] } }

/-! ### Update entries (R180 to R183) -/

/-- The status codes of R182. -/
def usOk : Nat := 0
def usFull : Nat := 1
def usNotFound : Nat := 2
def usInvalid : Nat := 3
def usBatchFull : Nat := 4
def usLength : Nat := 5

/-- An update completion (R382). -/
def updCpl (status op tag epoch : Nat) : List Byte :=
  beBytes 1 0x30 ++ beBytes 1 status ++ beBytes 1 op ++ [0] ++ beBytes 4 tag ++ beBytes 4 epoch ++ zeros 4

/-- The descriptor a ring offers next, if the ring runs and a completion slot is free (R369, R373). -/
def State.headDesc (s : State) (g : Nat) : Option (List Byte) :=
  if s.ringState g = rsRunning ∧ 0 < s.freeSlots g then (s.ring g).pre.head? else none

/-- Takes the head descriptor of a ring: its completion slot is reserved and DESC_CONS advances (R364, R373). -/
def State.takeDesc (s : State) (g : Nat) : State :=
  let s1 := s.setFld (Reg.RING_IDX g) Fld.RING_IDX_DESC_CONS ((s.descCons g + 1) % 2 ^ 17)
  s1.setRing g { s1.ring g with pre := (s1.ring g).pre.drop 1, reserved := (s1.ring g).reserved + 1 }

/-- The fields of an update entry (R180). -/
def uOp (d : List Byte) : Nat := beAt d 0 1
def uFlags (d : List Byte) : Nat := beAt d 1 1
def uTable (d : List Byte) : Nat := beAt d 2 2
def uTag (d : List Byte) : Nat := beAt d 4 4
def uSub (d : List Byte) : Nat := beAt d 8 1
def uIndex (d : List Byte) : Nat := beAt d 9 3
def uResult (d : List Byte) : Word := BitVec.ofNat 32 (beAt d 12 4)
def uData (d : List Byte) : Nat := beAt d 16 16

/-- The head entry of an update ring, if it has one of the opcode wanted and the exact-match engine does not hold it back: the
engine carries out one operation at a time, and a ring's entries go in ring order (R174, R183). -/
def State.updHead (s : State) (g : Nat) (op : Nat → Bool) (engine : List Byte → Bool) : Option (List Byte) :=
  if s.ringKind g = rkUpdate then
    match s.headDesc g with
    | none => none
    | some d =>
      let held := match s.tab.job with
        | none => false
        | some j => j.ring == some g || engine d
      if op (uOp d) && !held then some d else none
  else none

/-- Completes a taken entry. -/
def State.updDone (s : State) (g status : Nat) (d : List Byte) (epoch : Nat) : State :=
  s.writeCpl g (updCpl status (uOp d) (uTag d) epoch)

def State.nextEpoch (s : State) : Nat := (s.epoch + 1) % 2 ^ 32

/-- Counts a route entry's completion (R187). -/
def State.countRoute (s : State) (status : Nat) : State :=
  if status = usOk then s.bump Ctr.LPM_ROUTE_OK 1 else if status = usFull then s.bump Ctr.LPM_FULL 1 else s

/-- The outcome of an attempt to insert an exact-match entry (R171, R173). -/
inductive Ins where
  | placed | chain (path : List Nat) (free : Nat) | none
  deriving DecidableEq, Repr

/-- Places an entry in a free slot of its buckets, or finds its relocation chain. -/
def State.exmInsert (s : State) (e : ExmEntry) : Ins × State :=
  match s.exmFreeSlot e.key with
  | some i => (.placed, (s.setSlot i e).bump Ctr.EXM_INSERT 1)
  | none =>
    match s.exmChain e.key with
    | (some (path, f), s1) => (.chain path f, s1)
    | (none, s1) => (.none, s1)

/-- Starts the moves of a chain: its last slot moves to the free one, and the rest waits for the vacated slot (R171). -/
def State.startJob (s : State) (path : List Nat) (f : Nat) (e : ExmEntry) (ring : Option Nat) (cpl : List Byte) (ops : List StOp)
    (route : Bool) : State :=
  match path with
  | [] => s
  | p :: rest =>
    let s1 := s.exmMove p f
    { s1 with tab := { s1.tab with
        job := some { path := rest, hole := p, release := s1.time.cycles + moveHold, entry := e, ring := ring, cpl := cpl, ops := ops,
                      route := route } } }

/-- Stages the changes of an entry that completes OK in its ring's open batch. -/
def State.stage (s : State) (src : Nat) (ops : List StOp) : State := s.setOps src (s.openOps src ++ ops)

/-- EXM_SLOT_RELEASE (R171): 2,048 cycles after the last move the vacated slot is reused: the next entry of the chain moves into it,
or, at the end of the chain, the new entry is written and its update entry completes. -/
def exmSlotRelease (s : State) : State :=
  match s.tab.job with
  | none => s
  | some j =>
    if s.time.cycles < j.release then s
    else
      match j.path with
      | p :: rest =>
        let s1 := s.exmMove p j.hole
        { s1 with tab := { s1.tab with job := some { j with path := rest, hole := p, release := s1.time.cycles + moveHold } } }
      | [] =>
        let s1 := ({ s with tab := { s.tab with job := none } }.setSlot j.hole j.entry).bump Ctr.EXM_INSERT 1
        match j.ring with
        | none => s1
        | some g =>
          let s2 := (s1.stage g j.ops).writeCpl g j.cpl
          if j.route then s2.countRoute usOk else s2

/-- Stages an add of an exact-match key for a ring (R170, R171, R173): an own staged version changes in place, another key takes a
slot; `pre` are changes staged with it. -/
def State.exmStageAdd (s : State) (g : Nat) (d : List Byte) (k : ExmKey) (isStatic : Bool) (result : Word) (pre : List StOp)
    (route : Bool) : State :=
  let num := s.batchNum g
  let own := (s.candidates k).find? (fun i => match s.slot i with
    | some x => x.key == k && x.batch == some num
    | none => false)
  let cpl := updCpl usOk (uOp d) (uTag d) s.nextEpoch
  let fin (s : State) (st : Nat) (ops : List StOp) : State :=
    let s1 := if st = usOk then s.stage g ops else s
    let s2 := s1.updDone g st d (if st = usOk then s.nextEpoch else 0)
    if route then s2.countRoute st else s2
  match own.bind (fun i => (s.slot i).map (fun x => (i, x))) with
  | some (i, x) => fin (s.setSlot i { x with result := result, isStatic := isStatic }) usOk pre
  | none =>
    let e : ExmEntry :=
      { key := k, isStatic := isStatic, learned := false, frozen := false, result := result, birth := s.nextEpoch, death := none,
        hit := false, mark := 0, batch := some num }
    match s.exmInsert e with
    | (.placed, s1) => fin s1 usOk (pre ++ [.exmAdd k])
    | (.chain path f, s1) => s1.startJob path f e (some g) cpl (pre ++ [.exmAdd k]) route
    | (.none, s1) => fin (s1.bump Ctr.EXM_FULL 1) usFull []

/-- Stages a delete of an exact-match key for a source: an own staged version is freed at once, and a version that stays visible
without it is ended by the turn (R170). -/
def State.exmStageDel (s : State) (src : Nat) (k : ExmKey) : State :=
  let num := s.batchNum src
  let own := (s.candidates k).find? (fun i => match s.slot i with
    | some x => x.key == k && x.batch == some num
    | none => false)
  let ops := (s.openOps src).filter (fun o => o ≠ .exmAdd k)
  let s1 := match own with | some i => s.clearSlot i | none => s
  let still := s1.effective ops (StOp.onKey k) (s1.exmLive k).isSome
  s1.setOps src (if still then ops ++ [.exmDel k] else ops)

/-- Whether a key is there for a delete of a source. -/
def State.exmThere (s : State) (src : Nat) (k : ExmKey) : Bool :=
  s.effective (s.openOps src) (StOp.onKey k) (s.exmLive k).isSome

/-- Whether a route entry is well formed (R180, R181). -/
def routeEntryOk (d : List Byte) (add : Bool) : Bool :=
  let v6 := uFlags d % 2 == 1
  let data := if v6 then uData d else uData d >>> 96
  decide (uFlags d < 2) && decide (uTable d ≤ 4095) && uIndex d == 0 && decide (uSub d ≤ famW v6) &&
    (v6 || uData d % 2 ^ 96 == 0) && maskPfx (famW v6) (uSub d) data == data &&
    (if add then resultOk (uResult d) else uResult d == 0)

/-- Whether a route entry uses the exact-match engine. -/
def routeUsesExm (d : List Byte) : Bool := uFlags d % 2 == 1 && decide (64 < uSub d)

/-- The units a new prefix takes (R164). -/
def routeUnits (v6 : Bool) (len : Nat) : Nat := if !v6 then 1 else if len = 128 then 0 else 2

/-- ROUTE_ADD (R162 to R165, R181, R182). -/
def routeAdd (g : Nat) (s : State) : State :=
  match s.updHead g (· == 0x01) routeUsesExm with
  | none => s
  | some d =>
    let s0 := s.takeDesc g
    let v6 := uFlags d % 2 == 1
    let len := uSub d
    let table := uTable d
    let pfx := if v6 then uData d else uData d >>> 96
    let own := s0.openOps g
    let isOwn (o : StOp) : Bool := match o with
      | .routeAdd v t l p _ _ => v == v6 && t == table && l == len && p == pfx
      | _ => false
    let fail (s : State) (st : Nat) : State := (s.updDone g st d 0).countRoute st
    if !routeEntryOk d true then fail s0 usInvalid
    else if v6 ∧ 65 ≤ len ∧ len ≤ 127 ∧ len ∉ s0.contLens then fail s0 usLength
    else if v6 ∧ len = 128 then
      if maxStaged ≤ s0.stagedCount ∧ StOp.exmAdd (hostKey table pfx) ∉ own then fail s0 usBatchFull
      else s0.exmStageAdd g d (hostKey table pfx) false (uResult d) [] true
    else if own.any isOwn then
      let ops := own.map (fun o => match o with
        | .routeAdd v t l p r u => if v == v6 && t == table && l == len && p == pfx then .routeAdd v t l p (uResult d) u
          else .routeAdd v t l p r u
        | o => o)
      let s1 := s0.setOps g ops
      if v6 ∧ 64 < len then s1.exmStageAdd g d (contKey table len pfx) false (uResult d) [] true
      else (s1.updDone g usOk d s0.nextEpoch).countRoute usOk
    else if maxStaged ≤ s0.stagedCount then fail s0 usBatchFull
    else
      let there := s0.effective own (StOp.onRoute v6 table len pfx) (s0.routePublished v6 table len pfx)
      let u := if there then 0 else routeUnits v6 len
      if maxUnits < s0.unitsUsed + u then fail s0 usFull
      else
        let op := StOp.routeAdd v6 table len pfx (uResult d) u
        if v6 ∧ 64 < len then s0.exmStageAdd g d (contKey table len pfx) false (uResult d) [op] true
        else ((s0.stage g [op]).updDone g usOk d s0.nextEpoch).countRoute usOk

/-- ROUTE_DEL (R165, R170, R181, R182). -/
def routeDel (g : Nat) (s : State) : State :=
  match s.updHead g (· == 0x02) routeUsesExm with
  | none => s
  | some d =>
    let s0 := s.takeDesc g
    let v6 := uFlags d % 2 == 1
    let len := uSub d
    let table := uTable d
    let pfx := if v6 then uData d else uData d >>> 96
    let own := s0.openOps g
    let isOwn (o : StOp) : Bool := match o with
      | .routeAdd v t l p _ _ => v == v6 && t == table && l == len && p == pfx
      | _ => false
    let fail (s : State) (st : Nat) : State := (s.updDone g st d 0).countRoute st
    let ok (s : State) : State := (s.updDone g usOk d s0.nextEpoch).countRoute usOk
    if !routeEntryOk d false then fail s0 usInvalid
    else if v6 ∧ len = 128 then
      if !s0.exmThere g (hostKey table pfx) then fail s0 usNotFound
      else if maxStaged ≤ s0.stagedCount ∧ StOp.exmAdd (hostKey table pfx) ∉ own then fail s0 usBatchFull
      else ok (s0.exmStageDel g (hostKey table pfx))
    else if !s0.effective own (StOp.onRoute v6 table len pfx) (s0.routePublished v6 table len pfx) then fail s0 usNotFound
    else if maxStaged ≤ s0.stagedCount ∧ !own.any isOwn then fail s0 usBatchFull
    else
      let ops := own.filter (fun o => !isOwn o)
      let still := s0.effective ops (StOp.onRoute v6 table len pfx) (s0.routePublished v6 table len pfx)
      let s1 := s0.setOps g (if still then ops ++ [.routeDel v6 table len pfx] else ops)
      ok (if v6 ∧ 64 < len then s1.exmStageDel g (contKey table len pfx) else s1)

/-- Whether an exact-match entry's key is one an EXM_ADD or EXM_DEL may name: its type, table and unused bytes (R167). -/
def exmEntryOk (d : List Byte) (add : Bool) : Bool :=
  uIndex d == 0 &&
    (if add then (uFlags d == 0 || uFlags d == 2) && resultOk (uResult d) else uFlags d == 0 && uResult d == 0) &&
    (match uSub d with
     | 1 => uData d % 2 ^ 80 == 0
     | 2 => decide (uTable d ≤ 4095)
     | 3 => uData d % 2 ^ 104 == 0 && decide (uData d < 2 ^ 124)
     | _ => false)

/-- EXM_ADD (R167, R170 to R173, R181, R182). -/
def exmAdd (g : Nat) (s : State) : State :=
  match s.updHead g (· == 0x03) (fun _ => true) with
  | none => s
  | some d =>
    let s0 := s.takeDesc g
    let k : ExmKey := ⟨uSub d, uTable d, uData d⟩
    if !exmEntryOk d true then s0.updDone g usInvalid d 0
    else if maxStaged ≤ s0.stagedCount ∧ StOp.exmAdd k ∉ s0.openOps g then s0.updDone g usBatchFull d 0
    else s0.exmStageAdd g d k (uFlags d == 2) (uResult d) [] false

/-- EXM_DEL (R167, R170, R181, R182). -/
def exmDel (g : Nat) (s : State) : State :=
  match s.updHead g (· == 0x04) (fun _ => true) with
  | none => s
  | some d =>
    let s0 := s.takeDesc g
    let k : ExmKey := ⟨uSub d, uTable d, uData d⟩
    if !exmEntryOk d false then s0.updDone g usInvalid d 0
    else if !s0.exmThere g k then s0.updDone g usNotFound d 0
    else if maxStaged ≤ s0.stagedCount ∧ StOp.exmAdd k ∉ s0.openOps g then s0.updDone g usBatchFull d 0
    else (s0.exmStageDel g k).updDone g usOk d s0.nextEpoch

/-! ### The egress tables (R175, R176, R179) -/

def State.egt (s : State) (i : Nat) : BitVec 128 := KMap.get 0 s.tab.egt i

/-- The kind of an egress entry (R175). -/
def egtKind (e : BitVec 128) : Nat := e.toNat >>> 124

/-- Bits `hi` to `lo` of an egress entry. -/
def egtBits (e : BitVec 128) (hi lo : Nat) : Nat := e.toNat >>> lo % 2 ^ (hi + 1 - lo)

/-- The index of the last egress entry. -/
def egtLast : Nat := 1048575

/-- Whether an entry of a kind may be written: no reserved kind, value or bit (R175, R176). -/
def egtOk (i : Nat) (e : BitVec 128) : Bool :=
  match egtKind e with
  | 0x0 => e == 0
  | 0x1 => egtBits e 72 0 == 0
  | 0x2 => egtBits e 97 96 != 3 && egtBits e 95 0 == 0
  | 0x8 => egtBits e 56 0 == 0
  | 0x9 => egtBits e 50 0 == 0
  | 0xA => egtBits e 59 58 != 3 && egtBits e 12 0 == 0
  | 0xB => egtBits e 119 118 != 3 && egtBits e 72 0 == 0 && decide (i ≠ egtLast)
  | _ => false

/-- Whether an index is the second of a TUNNEL_V6 entry (R176). -/
def State.egtSecond (s : State) (i : Nat) : Bool := decide (0 < i) && egtKind (s.egt (i - 1)) == 0xB

/-- The 1 MiB region of table SRAM that holds an egress entry. -/
def egtSram (i : Nat) : Nat := 96 + i / 65536

/-- EGT_WRITE (R175, R176, R179, R338). -/
def egtWrite (g : Nat) (s : State) : State :=
  match s.updHead g (· == 0x05) (fun _ => false) with
  | none => s
  | some d =>
    let s0 := s.takeDesc g
    let i := uIndex d
    let e : BitVec 128 := BitVec.ofNat 128 (uData d)
    if uFlags d ≠ 0 ∨ uTable d ≠ 0 ∨ uSub d ≠ 0 ∨ uResult d ≠ 0 ∨ egtLast < i ∨ (!s0.egtSecond i && !egtOk i e) then
      s0.updDone g usInvalid d 0
    else if s0.regionLost 2 (egtSram i) then s0.updDone g usFull d 0
    else ({ s0 with tab := { s0.tab with egt := KMap.set 0 s0.tab.egt i e } }).updDone g usOk d 0

/-- UPDATE_RESERVED_OPCODE (R181, R381): a reserved opcode completes with INVALID. -/
def updateReservedOpcode (g : Nat) (s : State) : State :=
  match s.updHead g (fun o => o == 0 || (decide (0x06 ≤ o) && o != 0xF0 && o != 0xF1)) (fun _ => false) with
  | none => s
  | some d => (s.takeDesc g).updDone g usInvalid d 0

/-- NOP (R381): completes OK, or INVALID when a byte that must be zero is not. -/
def nop (g : Nat) (s : State) : State :=
  match s.updHead g (· == 0xF1) (fun _ => false) with
  | none => s
  | some d =>
    let clean := (d.take 4).drop 1 ++ d.drop 8
    if clean.all (· == 0) then (s.takeDesc g).updDone g usOk d s.nextEpoch else (s.takeDesc g).updDone g usInvalid d 0

/-- EXM_BIRTH_REBASE (R170): while the engine is idle it visits a slot and raises to the previous epoch the BIRTH of an entry more
than 2^29 epochs old. -/
def exmBirthRebase (i : Nat) (s : State) : State :=
  match s.tab.job, s.slot i with
  | none, some e =>
    if e.batch.isNone && decide (2 ^ 29 < (s.epoch + 2 ^ 32 - e.birth % 2 ^ 32) % 2 ^ 32) then s.setSlot i { e with birth := prevOf s.epoch }
    else s
  | _, _ => s

/-- Whether continuation entries of a length exist, staged ones included (R187). -/
def State.contExists (s : State) (len : Nat) : Bool :=
  s.tab.exm.l.any (fun e => e.2.key.ktype == 0x40 + len - 65) ||
    (match s.tab.job with | some j => j.entry.key.ktype == 0x40 + len - 65 | none => false)

/-- LPM_V6_CONT_WRITE (R187): the write takes effect, or is refused whole. -/
def lpmV6ContWrite (v : Word) (s : State) : State :=
  let old := s.reg Reg.LPM_V6_CONT
  let lens := [Fld.LPM_V6_CONT_LEN0, .LPM_V6_CONT_LEN1, .LPM_V6_CONT_LEN2, .LPM_V6_CONT_LEN3]
  let bad := lens.any (fun f =>
    let n := f.get v
    let o := f.get old
    (decide (1 ≤ n) && decide (n ≤ 64)) || decide (127 < n) || (n != o && o != 0 && s.contExists o))
  if bad then s.setFlag Reg.LPM_STATUS Fld.LPM_STATUS_CONT_REFUSED true else s.setReg Reg.LPM_V6_CONT v

/-! ### The load-balancing hash (R177) -/

/-- One bit of the reflected Castagnoli CRC. -/
def crcBit (c : Nat) : Nat := if c % 2 = 1 then (c / 2) ^^^ 0x82F63B78 else c / 2

/-- CRC-32C of a byte string (R6, R177). -/
def crc32c (l : List Byte) : Nat :=
  (l.foldl (fun c b => (List.range 8).foldl (fun c _ => crcBit c) (c ^^^ b.toNat)) 0xFFFFFFFF) ^^^ 0xFFFFFFFF

/-- The member of an ECMP entry (R177). -/
def State.ecmpMember (s : State) (e : BitVec 128) (fields : List Byte) : Nat :=
  let h := crc32c fields ^^^ (s.reg Reg.EGT_HASH_SEED).toNat
  egtBits e 123 104 + ((h >>> 16) * (egtBits e 103 98 + 1)) >>> 16

/-- ROUTE_ADD. -/
def execRouteAdd (g : BitVec 16) (s : State) : Host.Outcome State Fault Refusal := answer s (routeAdd g.toNat s)
/-- ROUTE_DEL. -/
def execRouteDel (g : BitVec 16) (s : State) : Host.Outcome State Fault Refusal := answer s (routeDel g.toNat s)
/-- EXM_ADD. -/
def execExmAdd (g : BitVec 16) (s : State) : Host.Outcome State Fault Refusal := answer s (exmAdd g.toNat s)
/-- EXM_DEL. -/
def execExmDel (g : BitVec 16) (s : State) : Host.Outcome State Fault Refusal := answer s (exmDel g.toNat s)
/-- EGT_WRITE. -/
def execEgtWrite (g : BitVec 16) (s : State) : Host.Outcome State Fault Refusal := answer s (egtWrite g.toNat s)
/-- UPDATE_RESERVED_OPCODE. -/
def execUpdateReservedOpcode (g : BitVec 16) (s : State) : Host.Outcome State Fault Refusal := answer s (updateReservedOpcode g.toNat s)
/-- NOP. -/
def execNop (g : BitVec 16) (s : State) : Host.Outcome State Fault Refusal := answer s (nop g.toNat s)
/-- EXM_SLOT_RELEASE. -/
def execExmSlotRelease (s : State) : Host.Outcome State Fault Refusal := answer s (exmSlotRelease s)
/-- EXM_BIRTH_REBASE. -/
def execExmBirthRebase (i : Fin 33554432) (s : State) : Host.Outcome State Fault Refusal := answer s (exmBirthRebase i.val s)
/-- LPM_V6_CONT_WRITE. -/
def execLpmV6ContWrite (v : Word) (s : State) : Host.Outcome State Fault Refusal := answer s (onF (lpmV6ContWrite v) s)

end Sys2Proof.Machine
end

