-- ==== Sys2Proof/Machine/Learn.lean ====
section
/-! DEFINITION. Address learning, flaps and freezing, aging and eviction (R188 to R203). -/

namespace Sys2Proof.Machine

/-- The learn result of a port: a NEXTHOP result word with the port's index (R189). -/
def State.learnResult (s : State) (p : Nat) : Word := BitVec.ofNat 32 (2 ^ 28 + s.fld (Reg.LRN_PORT p) Fld.LRN_PORT_NH)

/-- The port that a result word names as a learn result: the lowest such port, or 0xFFFF (R203). -/
def State.portOf (s : State) (w : Word) : Nat := ((List.range 132).find? (fun p => s.learnResult p == w)).getD 0xFFFF

/-- A learning event (R203, R385): the payload is the bridge domain, the address, the old and the new port. -/
def State.learnNote (s : State) (code : Nat) (k : ExmKey) (old new : Nat) : State :=
  s.ownerEvent code 1 63 k.table (beBytes 2 k.table ++ beBytes 6 (k.key >>> 80) ++ beBytes 2 old ++ beBytes 2 new)

/-- A learning event that a mask bit of NOTIFY admits. -/
def State.learnMask (s : State) (bit : Nat) (k : ExmKey) (old new : Nat) : State :=
  if (s.fld Reg.LRN_CFG Fld.LRN_CFG_NOTIFY).testBit bit then s.learnNote (0x0300 + bit) k old new else s

/-- LRN_CFG.HOLDOFF, FREEZE_SPAN and AGE_PERIOD, within the bounds of R209. -/
def State.holdoff (s : State) : Nat := expSpanIn (-20) 0 (s.fld Reg.LRN_CFG Fld.LRN_CFG_HOLDOFF)
def State.freezeSpan (s : State) : Nat := expSpanIn 0 12 (s.fld Reg.LRN_CFG Fld.LRN_CFG_FREEZE_SPAN)
def State.agePeriod (s : State) : Nat := expSpanIn (-4) 12 (s.fld Reg.LRN_CFG Fld.LRN_CFG_AGE_PERIOD)

def learnQueueMax : Nat := 4096
def trackerMax : Nat := 8192
def removalMax : Nat := 65536

/-- Hands a learn event to the engine's queue (R190); while LRN_CFG.EN is clear events are discarded (R209). -/
def State.learnEnqueue (s : State) (e : LearnEv) : State :=
  if !s.flag Reg.LRN_CFG Fld.LRN_CFG_EN then s
  else if learnQueueMax ≤ s.lrn.queue.length then s.bump Ctr.LRN_QUEUE_DROP 1
  else { s with lrn := { s.lrn with queue := s.lrn.queue ++ [e] } }

/-! ### The flap tracker (R194 to R197) -/

def State.flapRec (s : State) (k : ExmKey) : Option FlapRec := s.lrn.recs.find? (fun r => r.key == k)

/-- Replaces or adds the record of a key. -/
def State.setRec (s : State) (r : FlapRec) : State :=
  if (s.flapRec r.key).isSome then
    { s with lrn := { s.lrn with recs := s.lrn.recs.map (fun x => if x.key = r.key then r else x) } }
  else { s with lrn := { s.lrn with recs := s.lrn.recs ++ [r] } }

def State.dropRec (s : State) (k : ExmKey) : State :=
  { s with lrn := { s.lrn with recs := s.lrn.recs.filter (fun x => x.key ≠ k) } }

/-- Frees the record of a frozen entry that aging or eviction removed (R197). -/
def State.dropFrozenRec (s : State) (k : ExmKey) (frozen : Bool) : State := if frozen then s.dropRec k else s

/-- Unfreezes a key: clears FROZEN, frees the record and raises LEARN_UNFREEZE (R197). -/
def State.unfreeze (s : State) (k : ExmKey) : State :=
  match s.exmLive k with
  | some (i, e) =>
    if e.frozen then ((s.setSlot i { e with frozen := false }).dropRec k).learnNote 0x0306 k 0xFFFF (s.portOf e.result) else s
  | none => s

/-- Whether a key is frozen: its record holds the end of the freeze. -/
def State.isFrozen (s : State) (k : ExmKey) : Bool := match s.flapRec k with | some r => r.freeze.isSome | none => false

/-- Unfreezes the keys that a turn is about to publish a host write of (R197). -/
def State.unfreezePublished (s : State) : State :=
  (s.tab.closedB.flatMap (·.ops)).foldl (fun s o => match o with
    | .exmAdd k => if s.isFrozen k then s.unfreeze k else s
    | .exmDel k => if s.isFrozen k then s.unfreeze k else s
    | _ => s) s

/-- The elapsed time at which an instant plus a span falls. -/
def State.monoAt (s : State) (inst span : Nat) : Nat := s.mono + inst + span - s.now

/-- Writes the learn result in place: LEARNED set, the mark cleared, BIRTH unchanged (R191). -/
def State.applyMove (s : State) (i : Nat) (e : ExmEntry) (w : Word) : State :=
  (s.setSlot i { e with result := w, learned := true, mark := 0 }).bump Ctr.LRN_MOVE 1

/-- Counts a flap dated `d`; the fourth in one second freezes the entry (R195, R196). -/
def State.countFlap (s : State) (k : ExmKey) (r : FlapRec) (m d old new : Nat) : State :=
  let same := d / second == r.n
  let c := if same then r.c + 1 else 1
  let s1 := (s.bump Ctr.LRN_FLAP 1).learnNote 0x0304 k old new
  let r1 : FlapRec := { r with m := m, c := c, n := d / second, close := s.monoAt m s.holdoff }
  if c = 4 then
    match s1.exmLive k with
    | some (i, e) =>
      (((s1.setRec { r1 with freeze := some (s1.monoAt d s1.freezeSpan) }).setSlot i { e with frozen := true }).bump
        Ctr.LRN_FREEZE 1).learnNote 0x0305 k 0xFFFF (s1.portOf e.result)
    | none => s1.setRec r1
  else s1.setRec r1

/-- Judges a move under the flap rules (R194, R195). -/
def State.learnMove (s : State) (k : ExmKey) (i : Nat) (e : ExmEntry) (t port : Nat) : State :=
  let w := s.learnResult port
  let old := s.portOf e.result
  let h := s.holdoff
  match s.flapRec k with
  | none =>
    let s1 := (s.applyMove i e w).learnMask 1 k old port
    if trackerMax ≤ s.lrn.recs.length then s1.bump Ctr.LRN_TRACK_FULL 1
    else s1.setRec ⟨k, t, 0, t / second, s.monoAt t h, none⟩
  | some r =>
    if r.m ≤ t then
      if t < r.m + h then (s.applyMove i e w).countFlap k r t t old port
      else ((s.applyMove i e w).setRec { r with m := t, close := s.monoAt t h }).learnMask 1 k old port
    else if r.m - t < h then s.countFlap k r r.m r.m old port
    else s.bump Ctr.LRN_STALE 1

/-! ### Inserts and evictions (R173, R191) -/

/-- Whether an occupant may be evicted. -/
def ExmEntry.evictable (e : ExmEntry) : Bool := e.learned && !e.isStatic && e.death.isNone && e.batch.isNone

/-- The occupant with the earlier BIRTH; the first one on a tie. -/
def older (a : Option (Nat × ExmEntry)) (x : Nat × ExmEntry) : Option (Nat × ExmEntry) :=
  match a with
  | none => some x
  | some y => if precedes x.2.birth y.2.birth then some x else some y

/-- The occupant a learned insert evicts, if any (R173). -/
def State.victim (s : State) (k : ExmKey) : Option (Nat × ExmEntry) × State :=
  let l := (s.candidates k).filterMap (fun i => match s.slot i with
    | some e => if e.evictable then some (i, e) else none
    | none => none)
  if s.flag Reg.EXM_CFG Fld.EXM_CFG_EVICT then (l.foldl older none, s)
  else if l.isEmpty then (none, s)
  else
    let (x, s1) := s.choose l.length
    (l[x]?, s1)

/-- Inserts a learned entry, by eviction where no chain is found (R173, R191). -/
def State.learnInsert (s : State) (k : ExmKey) (port : Nat) : State :=
  let e : ExmEntry :=
    { key := k, isStatic := false, learned := true, frozen := false, result := s.learnResult port, birth := s.epoch, death := none,
      hit := false, mark := 0, batch := none }
  let ok (s : State) : State := (s.bump Ctr.LRN_NEW 1).learnMask 0 k 0xFFFF port
  match s.exmInsert e with
  | (.placed, s1) => ok s1
  | (.chain path f, s1) => ok (s1.startJob path f e none [] [] false)
  | (.none, s1) =>
    match s1.victim k with
    | (none, s2) => s2.bump Ctr.EXM_LEARN_FAIL 1
    | (some (i, v), s2) =>
      let s3 := ((s2.bump Ctr.EXM_EVICT 1).learnMask 3 v.key (s2.portOf v.result) 0xFFFF).dropFrozenRec v.key v.frozen
      ok ((s3.setSlot i e).bump Ctr.EXM_INSERT 1)

/-- LEARN_EVENT (R190, R191): the engine takes the head of its queue, once it is free and no removal waits, and judges it against the
entry as it stands. -/
def learnEvent (s : State) : State :=
  match s.lrn.queue, s.tab.job, s.lrn.removals with
  | ev :: rest, none, [] =>
    let s1 : State := { s with lrn := { s.lrn with queue := rest } }
    if !s.flag Reg.LRN_CFG Fld.LRN_CFG_EN then s1
    else
      let k := macKey ev.domain ev.mac
      match s1.exmLive k with
      | none => s1.learnInsert k ev.port
      | some (i, e) =>
        if e.result = s1.learnResult ev.port then s1
        else if e.isStatic then s1.bump Ctr.LRN_STATIC_DROP 1
        else if e.frozen then s1.bump Ctr.LRN_FROZEN_DROP 1
        else s1.learnMove k i e ev.inst ev.port
  | _, _, _ => s

/-- LEARN_UNFREEZE (R197): the freeze window of a key closes. -/
def learnUnfreeze (domain mac : Nat) (s : State) : State :=
  let k := macKey domain mac
  match (s.flapRec k).bind (·.freeze) with
  | some t => if t ≤ s.mono then s.unfreeze k else s
  | none => s

/-- ALL (R197): a write of 1 to LRN_UNFREEZE.ALL unfreezes every frozen entry. -/
def learnUnfreezeAll (s : State) : State :=
  (s.lrn.recs.filter (fun r => r.freeze.isSome)).foldl (fun s r => s.unfreeze r.key) s

/-- FLAP_RECORD_FREE (R194): a record is freed once its hold-off window and its second have closed, unless the entry is frozen. -/
def flapRecordFree (domain mac : Nat) (s : State) : State :=
  let k := macKey domain mac
  match s.flapRec k with
  | some r => if r.freeze.isNone && decide (r.close ≤ s.mono) && decide ((r.n + 1) * second ≤ s.now) then s.dropRec k else s
  | none => s

/-! ### Aging (R198 to R202) -/

/-- AGING_SWEEP_START (R198, R202): at a multiple of the period a sweep starts; the one after number 0xFFFF_FFFF clears the marks and
numbering restarts at 1 after it. -/
def agingSweepStart (s : State) : State :=
  let p := s.agePeriod
  if (KMap.get 0 s.time.trig tgAge / p + 1) * p ≤ s.now then
    let s1 := s.trigFire tgAge 1
    if !s.flag Reg.LRN_CFG Fld.LRN_CFG_AGE_EN then s1
    else
      let n := (s.reg Reg.LRN_SWEEP_NUM).toNat
      let clear := n == 0xFFFFFFFF
      { s1 with lrn := { s1.lrn with sweep := some (0, clear) } }
        |>.setReg Reg.LRN_SWEEP_NUM (if clear then 0 else BitVec.ofNat 32 (n + 1))
  else s

/-- Whether an entry is aged (R198). -/
def State.aged (s : State) (e : ExmEntry) : Bool :=
  e.learned && !e.isStatic && e.death.isNone && e.batch.isNone && s.flag Reg.LRN_CFG Fld.LRN_CFG_AGE_EN

/-- The visit of one slot (R199, R201). -/
def State.visitSlot (s : State) (i : Nat) : State :=
  match s.slot i with
  | none => s
  | some e =>
    let n := (s.reg Reg.LRN_SWEEP_NUM).toNat
    if e.hit then s.setSlot i { e with hit := false }
    else if !s.aged e then s
    else if e.mark ≠ 0 ∧ e.mark + 1 = n ∧ s.lrn.removals.length < removalMax then
      { s with lrn := { s.lrn with removals := s.lrn.removals ++ [(e.key, e.mark)] } }
    else s.setSlot i { e with mark := n }

/-- AGING_VISIT (R198, R199, R202): the sweeper visits the next bucket of the running sweep; a clearing sweep writes 0 to every mark
and clears no HIT bit. -/
def agingVisit (s : State) : State :=
  match s.lrn.sweep with
  | none => s
  | some (b, clear) =>
    let s1 := (slotsOf b).foldl (fun s i =>
      if clear then (match s.slot i with | some e => if e.learned then s.setSlot i { e with mark := 0 } else s | none => s)
      else s.visitSlot i) s
    { s1 with lrn := { s1.lrn with sweep := if b + 1 < exmBuckets then some (b + 1, clear) else none } }

/-- LEARN_AGED (R201): the engine takes the head of the removal list, reads the mark again and ends the entry in the current epoch. -/
def learnAged (s : State) : State :=
  match s.lrn.removals, s.tab.job with
  | (k, mark) :: rest, none =>
    let s1 : State := { s with lrn := { s.lrn with removals := rest } }
    match s1.exmLive k with
    | some (i, e) =>
      if e.mark = mark ∧ e.learned then
        let s2 := (s1.setSlot i { e with death := some s1.epoch }).bump Ctr.LRN_AGED 1
        ((s2.learnMask 2 k (s2.portOf e.result) 0xFFFF).dropFrozenRec k e.frozen).exmReap
      else s1
    | none => s1
  | _, _ => s

/-- LEARN_EVENT. -/
def execLearnEvent (s : State) : Host.Outcome State Fault Refusal := answer s (learnEvent s)
/-- LEARN_UNFREEZE. -/
def execLearnUnfreeze (domain : BitVec 16) (mac : BitVec 48) (s : State) : Host.Outcome State Fault Refusal :=
  answer s (learnUnfreeze domain.toNat mac.toNat s)
/-- ALL. -/
def execAll (s : State) : Host.Outcome State Fault Refusal := answer s (onF learnUnfreezeAll s)
/-- FLAP_RECORD_FREE. -/
def execFlapRecordFree (domain : BitVec 16) (mac : BitVec 48) (s : State) : Host.Outcome State Fault Refusal :=
  answer s (flapRecordFree domain.toNat mac.toNat s)
/-- AGING_SWEEP_START. -/
def execAgingSweepStart (s : State) : Host.Outcome State Fault Refusal := answer s (agingSweepStart s)
/-- AGING_VISIT. -/
def execAgingVisit (s : State) : Host.Outcome State Fault Refusal := answer s (agingVisit s)
/-- LEARN_AGED. -/
def execLearnAged (s : State) : Host.Outcome State Fault Refusal := answer s (learnAged s)

end Sys2Proof.Machine
end

