-- ==== Sys2Proof/Machine/Parser.lean ====
section
/-! DEFINITION. The header parser of R119 to R128, the fragment key of R130 and the guess profiles of R133, as pure
functions of the packet's bytes. -/

namespace Sys2Proof.Machine

/-- The parse of a packet before its first header. -/
def Parse.start (ith : Bool) : Parse :=
  { hdrs := [], partHdr := none, horizon := false, mal := none, waits := [], csumErr := false, frag := none, off := 0, level := 0,
    tags := 0, labels := 0, exts := 0, v6off := 0, v6len := 0, fragHdr := false, payEnd := none,
    nxt := if ith then .ith else .eth }

/-- The parse horizon and the limits of R119, R121 and PRS_LIMITS. -/
def horizonBytes : Nat := 320
def maxHeaders : Nat := 24
def maxLabels : Nat := 16
def maxExts : Nat := 4
def maxTags : Nat := 2

/-- Ends the parse with a malformed class (R125); `h` is the failing header when its fixed part counts as parsed. -/
def Parse.fail (p : Parse) (c : Nat) (h : Option Hdr) : Parse := { p with mal := some c, partHdr := h, nxt := .done }

/-- Ends the parse at the horizon (R121). -/
def Parse.cut (p : Parse) : Parse := { p with horizon := true, nxt := .done }

/-- Follows a header of length `len` and continues with `nxt` after it. -/
def Parse.follow (p : Parse) (k : HKind) (len : Nat) (nxt : Nxt) : Parse :=
  { p with hdrs := p.hdrs ++ [⟨k, p.off, len, p.level⟩], off := p.off + len, nxt := nxt }

/-- Compares a claimed end with the frame end (R124, R126): class `c` fails now, waits for the tail, or holds. -/
def Parse.within (p : Parse) (fend : Option Nat) (c need : Nat) (h : Option Hdr) : Parse :=
  match fend with
  | some e => if need ≤ e then p else p.fail c h
  | none => { p with waits := p.waits ++ [(c, need)] }

/-- Continues unless the parse has ended. -/
def Parse.andThen (p : Parse) (f : Parse → Parse) : Parse := if p.nxt = .done then p else f p

/-- The test of a header's fixed part (R121, R123): beyond a known frame end it is class 1, beyond the horizon, the 24th
header or its own limit it is not followed. `lim` says that the header's own limit is not exceeded. -/
def Parse.fixed (p : Parse) (fend : Option Nat) (n : Nat) (lim : Bool) (f : Parse → Parse) : Parse :=
  if (match fend with | some e => decide (e < p.off + n) | none => false) then p.fail 1 none
  else if horizonBytes < p.off + n ∨ maxHeaders ≤ p.hdrs.length ∨ lim = false then p.cut
  else f p

/-- The ones' complement sum of R127 over the 16-bit words of a header: zero remainder when the checksum is right. -/
def csumOk (b : List Byte) (o n : Nat) : Bool :=
  ((List.range (n / 2)).foldl (fun a i => a + beAt b (o + 2 * i) 2) 0) % 65535 == 0 &&
    ((List.range (n / 2)).any (fun i => beAt b (o + 2 * i) 2 != 0))

/-- A new level begins at an Ethernet or IP header reached through a tunnel or label stack (R120). -/
def Parse.newLevel (p : Parse) : Parse := { p with level := p.level + 1, tags := 0, labels := 0 }

/-- IPv4 at the current offset (R119, R124, R127, R130). `bound` is the end of the outer payload that carries it. -/
def parseIpv4 (b : List Byte) (fend bound : Option Nat) (p : Parse) : Parse :=
  p.fixed fend 20 true fun p =>
    let o := p.off
    let ihl := beAt b o 1 % 16 * 4
    let total := beAt b (o + 2) 2
    let fo := beAt b (o + 6) 2
    let foff := fo % 8192 * 8
    let mf := fo / 8192 % 2 == 1
    let part : Option Hdr := some ⟨.ipv4, o, 20, p.level⟩
    let p1 := p.within fend 1 (o + ihl) part
    p1.andThen fun p =>
    if horizonBytes < o + ihl ∧ 20 ≤ ihl then p.cut
    else if ihl < 20 then p.fail 2 part
    else
      (p.within fend 3 (o + total) part).andThen fun p =>
      if total < ihl then p.fail 4 part
      else if 65535 < foff + total - ihl then p.fail 5 part
      else if (match bound with | some e => decide (e < o + total) | none => false) then p.fail 14 part
      else
        let later := foff != 0
        let fr := mf || later
        let key : FragKey := ⟨false, beAt b (o + 12) 4, beAt b (o + 16) 4, beAt b (o + 9) 1, beAt b (o + 4) 2⟩
        let p := { p with csumErr := p.csumErr || !csumOk b o ihl,
                          frag := if fr && p.frag.isNone then some (key, !later) else p.frag,
                          payEnd := some (o + total) }
        p.follow .ipv4 ihl (if later then .done else .proto (beAt b (o + 9) 1))

/-- IPv6 at the current offset (R119, R124). -/
def parseIpv6 (b : List Byte) (fend bound : Option Nat) (p : Parse) : Parse :=
  p.fixed fend 40 true fun p =>
    let o := p.off
    let plen := beAt b (o + 4) 2
    let part : Option Hdr := some ⟨.ipv6, o, 40, p.level⟩
    (p.within fend 6 (o + 40 + plen) part).andThen fun p =>
    if plen = 0 then p.fail 7 part
    else if (match bound with | some e => decide (e < o + 40 + plen) | none => false) then p.fail 14 part
    else
      { (p.follow .ipv6 40 (.v6next (beAt b (o + 6) 1))) with
          exts := 0, v6off := o, v6len := plen, fragHdr := false, payEnd := some (o + 40 + plen) }

/-- Whether a next header number names an extension header of R119. -/
def isExt (n : Nat) : Bool := n == 0 || n == 43 || n == 44 || n == 60

/-- An IPv6 extension header (R119, R121, R124, R130). -/
def parseExt (b : List Byte) (fend : Option Nat) (nh : Nat) (p : Parse) : Parse :=
  let o := p.off
  if (match fend with | some e => decide (e < o + 8) | none => false) then p.fail 1 none
  else if maxExts ≤ p.exts ∨ maxHeaders ≤ p.hdrs.length ∨ horizonBytes < o + 8 then { (p.fail 8 none) with horizon := true }
  else
    let len := if nh = 44 then 8 else (beAt b (o + 1) 1 + 1) * 8
    let part : Option Hdr := some ⟨.ext, o, 8, p.level⟩
    (p.within fend 1 (o + len) part).andThen fun p =>
    if horizonBytes < o + len then { (p.fail 8 part) with horizon := true }
    else if (nh = 0 ∧ p.exts ≠ 0) ∨ (nh = 44 ∧ p.fragHdr) then p.fail 9 part
    else if p.v6len < o + len - (p.v6off + 40) then p.fail 10 part
    else if nh = 43 ∧ beAt b (o + 2) 1 = 4 ∧
        (beAt b (o + 1) 1 < 2 * (beAt b (o + 4) 1 + 1) ∨ beAt b (o + 4) 1 + 1 < beAt b (o + 3) 1) then p.fail 11 part
    else
      let fw := beAt b (o + 2) 2
      let later := nh == 44 && decide (fw / 8 ≠ 0)
      let fr := nh == 44 && (later || fw % 2 == 1)
      let key : FragKey := ⟨true, beAt b (p.v6off + 8) 16, beAt b (p.v6off + 24) 16, beAt b o 1, beAt b (o + 4) 4⟩
      let p := { p with exts := p.exts + 1, fragHdr := p.fragHdr || nh == 44,
                        frag := if fr && p.frag.isNone then some (key, !later) else p.frag }
      p.follow .ext len (if later then .done else .v6next (beAt b o 1))

/-- The headers named by an IP protocol (R119). -/
def parseProto (c : PrsCfg) (b : List Byte) (fend : Option Nat) (pr : Nat) (p : Parse) : Parse :=
  let o := p.off
  let pe := p.payEnd.getD 0
  if pr = 17 then
    p.fixed fend 8 true fun p =>
      let ul := beAt b (o + 4) 2
      let dp := beAt b (o + 2) 2
      let part : Option Hdr := some ⟨.udp, o, 8, p.level⟩
      if ul < 8 ∨ pe < o + ul then p.fail 12 part
      else
        { (p.follow .udp 8
            (if dp = c.vxlan then .vxlan else if dp = c.geneve then .geneve else if dp = 319 ∨ dp = 320 then .ptp else .done)) with
            payEnd := some (o + ul) }
  else if pr = 6 then
    p.fixed fend 20 true fun p =>
      let dof := beAt b (o + 12) 1 / 16 * 4
      let part : Option Hdr := some ⟨.tcp, o, 20, p.level⟩
      (p.within fend 1 (o + dof) part).andThen fun p =>
      if dof < 20 ∨ pe < o + dof then p.fail 12 part
      else if horizonBytes < o + dof then p.cut
      else p.follow .tcp dof .done
  else if pr = 47 then
    p.fixed fend 4 true fun p =>
      let fl := beAt b o 2
      let len := 4 + (if fl.testBit 15 then 4 else 0) + (if fl.testBit 13 then 4 else 0) + (if fl.testBit 12 then 4 else 0)
      let part : Option Hdr := some ⟨.gre, o, 4, p.level⟩
      if fl % 8 ≠ 0 then p.follow .gre 4 .done
      else
        (p.within fend 1 (o + len) part).andThen fun p =>
        if pe < o + len then p.fail 13 part
        else if horizonBytes < o + len then p.cut
        else
          let t := beAt b (o + 2) 2
          let p1 := p.follow .gre len .done
          if t = 0x6558 then { p1.newLevel with nxt := .eth }
          else if t = 0x0800 ∨ t = 0x86DD then { p1.newLevel with nxt := .ethertype t }
          else if t = 0x8847 then { p1 with labels := 0, nxt := .ethertype t }
          else p1
  else if pr = 50 then p.fixed fend 8 true fun p => p.follow .esp 8 .done
  else if pr = 4 ∧ c.ipipEn then { p.newLevel with nxt := .ethertype 0x0800 }
  else if pr = 41 ∧ c.ipipEn then { p.newLevel with nxt := .ethertype 0x86DD }
  else { p with nxt := .done }

/-- The header named by an EtherType, or the payload of an IEEE 802.3 length (R119, R124). -/
def parseEthertype (b : List Byte) (fend : Option Nat) (t : Nat) (p : Parse) : Parse :=
  let o := p.off
  if t = 0x8100 ∨ t = 0x88A8 then
    p.fixed fend 4 (decide (p.tags < maxTags)) fun p =>
      { (p.follow .tag 4 (.ethertype (beAt b (o + 2) 2))) with tags := p.tags + 1 }
  else if t = 0x8847 ∨ t = 0x8848 then
    p.fixed fend 4 (decide (p.labels < maxLabels)) fun p =>
      { (p.follow .mpls 4 (if beAt b (o + 2) 1 % 2 = 1 then .mplsPayload else .ethertype t)) with labels := p.labels + 1 }
  else if t = 0x0800 then parseIpv4 b fend (if p.level = 0 then none else p.payEnd) p
  else if t = 0x86DD then parseIpv6 b fend (if p.level = 0 then none else p.payEnd) p
  else if t = 0x88F7 then { p with nxt := .ptp, payEnd := if p.level = 0 then none else p.payEnd }
  else if t ≤ 0x05FF then { (p.within fend 0 (o + t) p.hdrs.getLast?) with nxt := .done }
  else { p with nxt := .done }

/-- One step of the chain (R119). -/
def parseStep (c : PrsCfg) (b : List Byte) (fend : Option Nat) (p : Parse) : Parse :=
  let o := p.off
  match p.nxt with
  | .done => p
  | .ith => p.fixed fend 16 true fun p => p.follow .ith 16 .eth
  | .eth => p.fixed fend 14 true fun p => p.follow .eth 14 (.ethertype (beAt b (o + 12) 2))
  | .ethertype t => parseEthertype b fend t p
  | .mplsPayload =>
    if !c.mplsPeek || decide (horizonBytes ≤ o) || (match fend with | some e => decide (e ≤ o) | none => false) then
      { p with nxt := .done }
    else
      let nib := beAt b o 1 / 16
      if nib = 4 then { p.newLevel with nxt := .ethertype 0x0800 }
      else if nib = 6 then { p.newLevel with nxt := .ethertype 0x86DD }
      else { p with nxt := .done }
  | .proto pr => parseProto c b fend pr p
  | .v6next n => if isExt n then parseExt b fend n p else parseProto c b fend n p
  | .vxlan =>
    p.fixed fend 8 true fun p =>
      if p.payEnd.getD 0 < o + 8 then p.fail 13 (some ⟨.vxlan, o, 8, p.level⟩)
      else (p.follow .vxlan 8 .eth).newLevel
  | .geneve =>
    p.fixed fend 8 true fun p =>
      let len := 8 + beAt b o 1 % 64 * 4
      let part : Option Hdr := some ⟨.geneve, o, 8, p.level⟩
      (p.within fend 1 (o + len) part).andThen fun p =>
      if p.payEnd.getD 0 < o + len then p.fail 13 part
      else if horizonBytes < o + len then p.cut
      else
        let t := beAt b (o + 2) 2
        let p1 := p.follow .geneve len .done
        if t = 0x6558 then { p1.newLevel with nxt := .eth }
        else if t = 0x0800 ∨ t = 0x86DD then { p1.newLevel with nxt := .ethertype t }
        else p1
  | .ptp =>
    p.fixed fend 34 true fun p =>
      let ml := beAt b (o + 2) 2
      let part : Option Hdr := some ⟨.ptp, o, 34, p.level⟩
      match p.payEnd with
      | some e => if e < o + ml then p.fail 15 part else p.follow .ptp 34 .done
      | none => (p.within fend 15 (o + ml) part).andThen fun p => p.follow .ptp 34 .done

/-- The whole chain: at most `n` steps. -/
def parseSteps (c : PrsCfg) (b : List Byte) (fend : Option Nat) : Nat → Parse → Parse
  | 0, p => p
  | n + 1, p => parseSteps c b fend n (parseStep c b fend p)

/-- The parse of a packet: `fend` is the end of the frame without its FCS where it is known at slice entry (R123), `ith`
whether an internal header stands at offset 0. A comparison that waits for the tail is abandoned when a class is found (R125). -/
def parse (c : PrsCfg) (b : List Byte) (fend : Option Nat) (ith : Bool) : Parse :=
  let p := parseSteps c b fend 64 (Parse.start ith)
  if p.mal.isSome then { p with waits := [] } else p

/-- The headers whose fields count as parsed: those followed, and a failing header's fixed part (R125). -/
def Parse.known (p : Parse) : List Hdr := p.hdrs ++ p.partHdr.toList

def Parse.findK (p : Parse) (k : HKind) : Option Hdr := p.known.find? (fun h => h.kind == k)

/-- The outermost header that carries L3: IPv4 or IPv6 (R122). -/
def Parse.l3 (p : Parse) : Option Hdr := p.known.find? (fun h => h.kind == .ipv4 || h.kind == .ipv6)

/-- L4_ABSENT: no UDP, TCP or ESP header at the outermost level that carries L3, or no such level (R128). -/
def Parse.l4Absent (p : Parse) : Bool :=
  match p.l3 with
  | none => true
  | some h => !p.known.any (fun x => x.level == h.level && (x.kind == .udp || x.kind == .tcp || x.kind == .esp))

/-- TUNNEL: a level beyond the first was reached (R128). -/
def Parse.tunnel (p : Parse) : Bool := p.hdrs.any (fun h => h.level != 0)

/-- The header that decides how a routed packet is forwarded: the first of MPLS, IPv4 and IPv6 (R122). -/
def Parse.routeHdr (p : Parse) : Option Hdr :=
  p.known.find? (fun h => h.kind == .mpls || h.kind == .ipv4 || h.kind == .ipv6)

/-- Whether the forwarding key of R122 is complete for a bridged or a routed packet. -/
def Parse.keyComplete (p : Parse) (bridged : Bool) : Bool :=
  if bridged then (p.findK .eth).isSome else p.routeHdr.isSome

/-- The offset of the start of the Ethernet frame within the packet: after an internal header (R133). -/
def Parse.ethOff (p : Parse) : Nat := match p.findK .eth with | some h => h.off | none => 0

/-- The outermost VLAN ID, none without a tag. -/
def Parse.vid (p : Parse) (b : List Byte) : Option Nat :=
  match p.known.find? (fun h => h.kind == .tag && h.level == 0) with
  | some h => some (beAt b h.off 2 % 4096)
  | none => none

/-- The layout fields of R133 in the order of PRS_GUESS. Tunnel 4 stands for a tunnel that no profile names. -/
structure Layout where
  ith : Bool
  tags : Nat
  labels : Nat
  l3 : Nat
  tunnel : Nat
  innerTags : Nat
  innerL3 : Nat
  deriving DecidableEq, Repr

/-- The L3 kind of a header: 1 IPv4, 2 IPv6 (R133). -/
def l3Code (h : Option Hdr) : Nat :=
  match h with
  | some x => if x.kind = .ipv4 then 1 else if x.kind = .ipv6 then 2 else 0
  | none => 0

/-- The layout the parser found (R133). -/
def Parse.layout (p : Parse) (b : List Byte) : Layout :=
  let isL3 (h : Hdr) : Bool := h.kind == .ipv4 || h.kind == .ipv6
  let isTun (h : Hdr) : Bool := h.kind == .vxlan || h.kind == .geneve || h.kind == .gre
  let before := p.hdrs.takeWhile (fun h => !isTun h)
  let tun := p.hdrs.find? isTun
  let after := (p.hdrs.dropWhile (fun h => !isTun h)).drop 1
  let outer := before.find? isL3
  let t := match tun with
    | none => if 1 < (before.filter isL3).length then 4 else 0
    | some h =>
      let proto := beAt b (h.off + 2) 2
      if 1 < (before.filter isL3).length then 4
      else if h.kind = .vxlan then 1
      else if h.kind = .geneve then (if h.len = 8 ∧ (proto = 0x6558) then 2 else 4)
      else if h.len = 4 ∧ proto ≠ 0x6558 then 3 else 4
  { ith := p.hdrs.any (fun h => h.kind == .ith), tags := (before.filter (fun h => h.kind == .tag)).length,
    labels := (before.filter (fun h => h.kind == .mpls)).length, l3 := l3Code outer, tunnel := t,
    innerTags := (after.filter (fun h => h.kind == .tag)).length, innerL3 := l3Code (after.find? isL3) }

/-- Whether IPv4 options or IPv6 extension headers stand in a header that a tunnel header follows (R133). -/
def Parse.optsBeforeTunnel (p : Parse) : Bool :=
  let isTun (h : Hdr) : Bool := h.kind == .vxlan || h.kind == .geneve || h.kind == .gre
  p.hdrs.any isTun &&
    (p.hdrs.takeWhile (fun h => !isTun h)).any (fun h => (h.kind == .ipv4 && h.len != 20) || h.kind == .ext)

/-- Whether the layout found matches a guess profile word (R133); a reserved profile never matches. -/
def guessMatch (w : Word) (p : Parse) (b : List Byte) : Bool :=
  let l := p.layout b
  let g : Layout :=
    { ith := Fld.PRS_GUESS_ITH.get w == 1, tags := Fld.PRS_GUESS_TAGS.get w, labels := Fld.PRS_GUESS_LABELS.get w,
      l3 := Fld.PRS_GUESS_L3.get w, tunnel := Fld.PRS_GUESS_TUNNEL.get w, innerTags := Fld.PRS_GUESS_INNER_TAGS.get w,
      innerL3 := Fld.PRS_GUESS_INNER_L3.get w }
  decide (g.tags ≠ 3) && decide (g.innerTags ≠ 3) && decide (g.l3 ≠ 3) && decide (g.innerL3 ≠ 3) && decide (g.labels ≤ 16) &&
    decide (l = g) && !p.optsBeforeTunnel

end Sys2Proof.Machine
end

