-- ==== Sys2Proof/Machine/Acl.lean ====
section
/-! DEFINITION. The ACL arrays: keys, searches, false hits, commands, batches and planes (R210 to R224). -/

namespace Sys2Proof.Machine

/-! ### Keys (R216, R217) -/

/-- What the key fields need beside the packet's parse. -/
structure KeyCtx where
  bytes : List Byte
  parse : Parse
  /-- MCAST, BCAST, PARSE_HORIZON, L4_ABSENT, MALFORMED, CSUM_ERR, FRAG_FIRST, FRAG_LATER, TUNNEL, from high bit to low -/
  flags : Nat
  srcPort : Nat
  table : Nat

/-- The outermost or innermost followed header that carries L3 (R216). -/
def Parse.l3At (p : Parse) (inner : Bool) : Option Hdr :=
  let l := p.known.filter (fun h => h.kind == .ipv4 || h.kind == .ipv6)
  if inner then l.getLast? else l.head?

/-- The first UDP or TCP header after an L3 header (R217). -/
def Parse.l4After (p : Parse) (h : Hdr) : Option Hdr :=
  p.known.find? (fun x => (x.kind == .udp || x.kind == .tcp) && decide (h.off < x.off))

/-- The next-header value of the last extension header of an IPv6 header, or of the header itself (R217). -/
def Parse.nextHdr (p : Parse) (b : List Byte) (h : Hdr) : Nat :=
  match (p.known.filter (fun x => x.kind == .ext && x.level == h.level && decide (h.off < x.off))).getLast? with
  | some x => beAt b x.off 1
  | none => beAt b (h.off + 6) 1

/-- The protocol byte of an L3 header: NEXT_HDR for IPv6. -/
def Parse.protoOf (p : Parse) (b : List Byte) (h : Hdr) : Nat :=
  if h.kind = .ipv4 then beAt b (h.off + 9) 1 else p.nextHdr b h

/-- Source and destination ports of an L4 header; zero where there is none. -/
def l4Ports (b : List Byte) (h : Option Hdr) : Nat × Nat :=
  match h with
  | some x => (beAt b x.off 2, beAt b (x.off + 2) 2)
  | none => (0, 0)

/-- The L2 key (R217). -/
def keyL2 (c : KeyCtx) (inner : Bool) : Option Nat :=
  let p := c.parse
  let eths := p.known.filter (fun h => h.kind == .eth)
  let eth := if inner then eths.getLast? else eths.find? (fun h => h.level == 0)
  let level := match eth with | some h => h.level | none => 0
  let tags := p.known.filter (fun h => h.kind == .tag && h.level == level)
  let da := match eth with | some h => beAt c.bytes h.off 6 | none => 0
  let vid := match tags.head? with | some h => beAt c.bytes h.off 2 % 4096 | none => 0
  let pcp := match tags.head? with | some h => beAt c.bytes h.off 2 / 2 ^ 13 | none => 0
  let et := match tags.getLast?, eth with
    | some h, _ => beAt c.bytes (h.off + 2) 2
    | none, some h => beAt c.bytes (h.off + 12) 2
    | none, none => 0
  some (da * 2 ^ 32 + vid * 2 ^ 20 + et * 2 ^ 4 + pcp * 2 + c.flags / 256 % 2)

/-- The IPV4 key; none when the selected level does not carry IPv4 (R216, R217). -/
def keyV4 (c : KeyCtx) (inner : Bool) : Option Nat :=
  match c.parse.l3At inner with
  | some h =>
    if h.kind = .ipv4 then
      let b := c.bytes
      let l4 := c.parse.l4After h
      let (sp, dp) := l4Ports b l4
      let fl := match l4 with | some x => if x.kind = .tcp then beAt b (x.off + 13) 1 else 0 | none => 0
      some (beAt b (h.off + 12) 4 * 2 ^ 128 + beAt b (h.off + 16) 4 * 2 ^ 96 + beAt b (h.off + 9) 1 * 2 ^ 88 + sp * 2 ^ 72 +
        dp * 2 ^ 56 + beAt b (h.off + 1) 1 / 4 * 2 ^ 50 + fl * 2 ^ 42 + c.srcPort * 2 ^ 34 + c.flags * 2 ^ 25 + c.table * 2 ^ 13)
    else none
  | none => none

/-- The IPV6 key (R217). -/
def keyV6 (c : KeyCtx) (inner : Bool) : Option Nat :=
  match c.parse.l3At inner with
  | some h =>
    if h.kind = .ipv6 then
      let b := c.bytes
      let (sp, dp) := l4Ports b (c.parse.l4After h)
      some (beAt b (h.off + 8) 16 * 2 ^ 192 + beAt b (h.off + 24) 16 * 2 ^ 64 + c.parse.nextHdr b h * 2 ^ 56 + sp * 2 ^ 40 +
        dp * 2 ^ 24 + beAt b h.off 2 / 2 ^ 6 % 64 * 2 ^ 18 + c.srcPort * 2 ^ 10 + c.flags * 2)
    else none
  | none => none

/-- The IPV6_DST key (R217). -/
def keyV6Dst (c : KeyCtx) (inner : Bool) : Option Nat :=
  match c.parse.l3At inner with
  | some h =>
    if h.kind = .ipv6 then
      let b := c.bytes
      let (_, dp) := l4Ports b (c.parse.l4After h)
      some (beAt b (h.off + 24) 16 * 2 ^ 32 + c.parse.nextHdr b h * 2 ^ 24 + dp * 2 ^ 8 + c.srcPort)
    else none
  | none => none

/-- The key a bank searches (R216). -/
def aclKey (c : KeyCtx) (layout : Nat) (inner : Bool) : Option Nat :=
  match layout with
  | 0 => keyL2 c inner
  | 1 => keyV4 c inner
  | 2 => keyV6 c inner
  | _ => keyV6Dst c inner

/-! ### Searches (R210 to R213, R218) -/

def State.aclRow (s : State) (a : Nat) : AclRow := KMap.get .free s.acl.rows a
def State.setAclRow (s : State) (a : Nat) (r : AclRow) : State := { s with acl := { s.acl with rows := KMap.set .free s.acl.rows a r } }

def AclRow.held (r : AclRow) : Bool := r.plane0 || r.plane1
def AclRow.plane (r : AclRow) (e : Nat) : Bool := if e % 2 = 0 then r.plane0 else r.plane1
def AclRow.setPlane (r : AclRow) (e : Nat) (b : Bool) : AclRow :=
  if e % 2 = 0 then { r with plane0 := b } else { r with plane1 := b }

def invKey (i a : Nat) : Nat := i * 32768 + a
/-- Whether a row is valid in a slice. -/
def State.aclValid (s : State) (i a : Nat) : Bool := KMap.get 0 s.acl.invalid (invKey i a) == 0
def State.setAclValid (s : State) (i a : Nat) (b : Bool) : State :=
  { s with acl := { s.acl with invalid := KMap.set 0 s.acl.invalid (invKey i a) (if b then 0 else 1) } }

/-- A field of a bank's configuration. -/
def State.bankFld (s : State) (b : Nat) (f : Fld) : Nat := s.fld (Reg.ACL_BANK_CFG b) f

/-- The tag and tag mask of a row group (R212, R234). -/
def State.groupTag (s : State) (b g : Nat) : Nat × Nat :=
  let w := (s.reg (Reg.ACL_GROUP_TAG b (g / 2))).toNat >>> (16 * (g % 2)) % 2 ^ 16
  (w / 2 ^ 6 % 2 ^ 6, w % 2 ^ 6)

/-- Whether a row matches a key of its bank (R210, R212). -/
def State.aclMatch (s : State) (i e b a : Nat) (r : AclRow) (key : Nat) : Bool :=
  let st := key >>> s.bankFld b Fld.ACL_BANK_CFG_TAG_OFFSET % 2 ^ 6
  let (tag, msk) := s.groupTag b (a % 4096 / 64)
  s.aclValid i a && r.plane e && (st ^^^ tag) &&& msk == 0 && (key ^^^ r.key) &&& r.mask == 0

/-- Whether a packet searches a bank in a stage: the bank is enabled there, and the packet has its key (R216, R218). -/
def State.bankKey (s : State) (c : KeyCtx) (stage b : Nat) : Option Nat :=
  if s.bankFld b Fld.ACL_BANK_CFG_EN = 1 ∧ s.bankFld b Fld.ACL_BANK_CFG_STAGE = stage then
    aclKey c (s.bankFld b Fld.ACL_BANK_CFG_LAYOUT) (s.bankFld b Fld.ACL_BANK_CFG_LEVEL == 1)
  else none

/-- The lowest matching address of a stage in a slice for a packet of epoch `e` (R211, R218). -/
def State.aclSearch (s : State) (i e stage : Nat) (c : KeyCtx) : Option Nat :=
  (s.acl.rows.l.find? (fun (a, r) => match s.bankKey c stage (a / 4096) with
    | some k => s.aclMatch i e (a / 4096) a r k
    | none => false)).map (·.1)

/-- Invalidates a row of a slice: event ACL_FALSE_HIT, found by a search (0) or a scrub (1) (R213, R224). -/
def State.aclFalse (s : State) (i a by_ : Nat) : State :=
  (s.setAclValid i a false).ownerEvent 0x0400 1 63 a (beBytes 1 i ++ beBytes 1 by_)

/-- The false hits of a stage's search slots: rows, of those named, that the stage searches in the slice and that are still valid, at most
three; each is invalidated and counted (R213, R218). Answers how many slots they took. -/
def State.aclFalseHits (s : State) (i e stage : Nat) (c : KeyCtx) (bad : List Nat) : Nat × State :=
  bad.foldl (fun (n, s) a =>
    if n < 3 ∧ s.aclValid i a ∧ (s.aclRow a).plane e ∧ (s.bankKey c stage (a / 4096)).isSome then
      (n + 1, (s.aclFalse i a 0).bump (Ctr.ACL_FALSE_HIT i) 1)
    else (n, s)) (0, s)

/-- The fields of an action word (R219). -/
def actBit (act b : Nat) : Bool := act.testBit b
def actResult (act : Nat) : Word := BitVec.ofNat 32 act
def actOk (act : Nat) : Bool := act / 2 ^ 32 % 2 ^ 11 == 0 && resultOk (actResult act)

/-- ACL_SCRUB (R224): a row of a slice that differs from its protected copy is invalidated, reported and counted. -/
def aclScrub (i a : Nat) (differs : Bool) (s : State) : State :=
  if differs && (s.aclRow a).held && s.aclValid i a then (s.aclFalse i a 1).bump (Ctr.ACL_SCRUB_ERR i) 1 else s

/-! ### Commands (R222, R223) -/

/-- The codes of ACL_STATUS.ERR. -/
def aeOk : Nat := 0
def aeInUse : Nat := 1
def aeNotFound : Nat := 2
def aeAlign : Nat := 3
def aeBatchFull : Nat := 4
def aeBankOff : Nat := 5
def aeInvalid : Nat := 6
def aeBankInUse : Nat := 7

def State.aclErr (s : State) (c : Nat) : State := s.setFld Reg.ACL_STATUS Fld.ACL_STATUS_ERR c

/-- The width of a bank in units (R216). -/
def State.bankWidth (s : State) (b : Nat) : Nat := 2 ^ s.bankFld b Fld.ACL_BANK_CFG_WIDTH

def aclStagedMax : Nat := 4096

/-- Carries out a captured command (R222, R223). -/
def State.aclRun (s : State) (c : AclCmd) : State :=
  let a := c.bank * 4096 + c.unit
  let w := s.bankWidth c.bank
  let fin (s : State) (code : Nat) : State := (s.setFlag Reg.ACL_STATUS Fld.ACL_STATUS_BUSY false).aclErr code
  if c.op = 3 ∨ (c.op = 0 ∧ (!actOk c.act ∨ c.key >>> (80 * w) ≠ 0 ∨ c.mask >>> (80 * w) ≠ 0)) then fin s aeInvalid
  else if s.bankFld c.bank Fld.ACL_BANK_CFG_EN = 0 then fin s aeBankOff
  else if c.unit % w ≠ 0 then fin s aeAlign
  else if c.op = 2 then
    if (s.aclRow a).held then fin (s.setAclValid c.slice a true) aeOk else fin s aeNotFound
  else if c.op = 0 ∧ (s.aclRow a).held then fin s aeInUse
  else if c.op = 1 ∧ !(s.aclRow a).held then fin s aeNotFound
  else if aclStagedMax ≤ s.acl.staged.length then fin s aeBatchFull
  else
    let op : Option AclRow := if c.op = 0 then some ⟨c.key, c.mask, c.act, false, false⟩ else none
    fin { s with acl := { s.acl with staged := s.acl.staged ++ [(a, op)] } } aeOk

/-- The value of a row of 32-bit registers, the first the least significant. -/
def State.regWords (s : State) (f : Nat → Nat) (n : Nat) : Nat :=
  (List.range n).foldl (fun v w => v + (s.reg (f w)).toNat * 2 ^ (32 * w)) 0

/-- A write of ACL_WR_CMD (R223): the operands are captured; the command runs, or waits while a closed batch is held or copied; while BUSY
is set the write is ignored. -/
def aclCmdWrite (v : Word) (s : State) : State :=
  if s.flag Reg.ACL_STATUS Fld.ACL_STATUS_BUSY then s
  else
    let c : AclCmd :=
      { op := Fld.ACL_WR_CMD_OP.get v, slice := Fld.ACL_WR_CMD_SLICE.get v, bank := Fld.ACL_WR_CMD_BANK.get v,
        unit := Fld.ACL_WR_CMD_UNIT.get v, key := s.regWords Reg.ACL_WR_KEY 10, mask := s.regWords Reg.ACL_WR_MASK 10,
        act := s.reg64 Reg.ACL_WR_ACT_LO }
    let s1 := s.setFlag Reg.ACL_STATUS Fld.ACL_STATUS_BUSY true
    if s.acl.phase = .idle then s1.aclRun c else { s1 with acl := { s1.acl with cmd := some c } }

/-- Closes the firmware's ACL batch with FWH_TURN.CLOSE: a batch that stages entries is held until its turn (R222). -/
def State.aclClose (s : State) : State :=
  if s.acl.staged.isEmpty ∨ s.acl.phase ≠ .idle then s
  else { s with acl := { s.acl with batch := s.acl.staged, staged := [], phase := .closed } }
    |>.setFlag Reg.ACL_STATUS Fld.ACL_STATUS_BATCH_HELD true

/-- Applies one staged entry to the plane of epoch `e`. -/
def State.aclApplyOne (e : Nat) (s : State) (o : Nat × Option AclRow) : State :=
  match o.2 with
  | some r =>
    let s1 := s.setAclRow o.1 (r.setPlane e true)
    (List.range 16).foldl (fun s i => s.setAclValid i o.1 true) s1
  | none => s.setAclRow o.1 ((s.aclRow o.1).setPlane e false)

/-- ACL_BATCH_APPLY (R222): the closed batch is applied to the next plane, once no previous epoch is live. -/
def aclBatchApply (s : State) : State :=
  if s.acl.phase = .closed ∧ !s.prevLive then
    let s1 := s.acl.batch.foldl (State.aclApplyOne (s.nextEpoch)) s
    { s1 with acl := { s1.acl with phase := .applied } }
  else s

/-- The turn that publishes the applied batch (R222). -/
def State.aclPublish (s : State) : State :=
  if s.acl.phase = .applied then
    { s with acl := { s.acl with phase := .published } } |>.setFlag Reg.ACL_STATUS Fld.ACL_STATUS_BATCH_HELD false
  else s

/-- Copies the current plane of a changed row into the other, and frees a row that neither shows. -/
def State.aclCopyOne (s : State) (a : Nat) : State :=
  let r := s.aclRow a
  let b := r.plane s.epoch
  if b then s.setAclRow a (r.setPlane (s.epoch + 1) b)
  else (List.range 16).foldl (fun s i => s.setAclValid i a true) (s.setAclRow a .free)

/-- ACL_PLANE_COPY (R222): after the turn and its drain the planes of the changed rows are made equal, and a waiting command runs. -/
def aclPlaneCopy (s : State) : State :=
  if s.acl.phase = .published ∧ !s.prevLive then
    let s1 := s.acl.batch.foldl (fun s o => s.aclCopyOne o.1) s
    let s2 : State := { s1 with acl := { s1.acl with phase := .idle, batch := [], cmd := none } }
    match s.acl.cmd with
    | some c => s2.aclRun c
    | none => s2
  else s

/-- Whether a bank, or one of its row groups, holds an entry (R223). -/
def State.bankHolds (s : State) (b : Nat) : Bool := s.acl.rows.l.any (fun (a, r) => a / 4096 == b && r.held)
def State.groupHolds (s : State) (b g : Nat) : Bool := s.acl.rows.l.any (fun (a, r) => a / 64 == b * 64 + g && r.held)

/-- The width that a layout fixes, as its code (R216). -/
def layoutWidth (l : Nat) : Nat := match l with | 0 => 0 | 1 => 1 | 2 => 2 | _ => 1

/-- A write of ACL_BANK_CFG (R223, R234). -/
def aclBankWrite (b : Nat) (v : Word) (s : State) : State :=
  let a := Reg.ACL_BANK_CFG b
  let old := s.reg a
  let w := Fld.ACL_BANK_CFG_WIDTH.get v
  let same (f : Fld) : Bool := f.get v == f.get old
  let fixed := same Fld.ACL_BANK_CFG_WIDTH && same Fld.ACL_BANK_CFG_LAYOUT && same Fld.ACL_BANK_CFG_LEVEL &&
    same Fld.ACL_BANK_CFG_TAG_OFFSET
  if w ≠ layoutWidth (Fld.ACL_BANK_CFG_LAYOUT.get v) ∨ 2 ^ w * 80 - 6 < Fld.ACL_BANK_CFG_TAG_OFFSET.get v ∨
      (s.bankHolds b ∧ !fixed) then s.aclErr aeBankInUse
  else s.setReg a (v &&& 0xFFFF0000)

/-- A write of a word of group tags (R223, R234). -/
def aclTagWrite (b w : Nat) (v : Word) (s : State) : State :=
  let a := Reg.ACL_GROUP_TAG b w
  let nv := v &&& 0x0FFF0FFF
  let d := (s.reg a ^^^ nv).toNat
  if (d % 2 ^ 16 ≠ 0 ∧ s.groupHolds b (2 * w)) ∨ (d / 2 ^ 16 ≠ 0 ∧ s.groupHolds b (2 * w + 1)) then s.aclErr aeBankInUse
  else s.setReg a nv

/-- ACL_BANK_CFG_WRITE (R223): a write of ACL_BANK_CFG or of a word of group tags. -/
def aclBankCfgWrite (c : AclCfg) (v : Word) (s : State) : State :=
  match c with
  | .bank b => aclBankWrite b.val v s
  | .tags b w => aclTagWrite b.val w.val v s

/-- ACL_SCRUB. -/
def execAclScrub (i : Fin 16) (a : BitVec 15) (differs : Bool) (s : State) : Host.Outcome State Fault Refusal :=
  answer s (aclScrub i.val a.toNat differs s)
/-- ACL_WRITE: a write of ACL_WR_CMD with OP WRITE. -/
def execAclWrite (v : Word) (s : State) : Host.Outcome State Fault Refusal := answer s (onF (aclCmdWrite (Fld.ACL_WR_CMD_OP.put v 0)) s)
/-- ACL_DELETE. -/
def execAclDelete (v : Word) (s : State) : Host.Outcome State Fault Refusal := answer s (onF (aclCmdWrite (Fld.ACL_WR_CMD_OP.put v 1)) s)
/-- ACL_REFRESH. -/
def execAclRefresh (v : Word) (s : State) : Host.Outcome State Fault Refusal := answer s (onF (aclCmdWrite (Fld.ACL_WR_CMD_OP.put v 2)) s)
/-- ACL_BATCH_APPLY. -/
def execAclBatchApply (s : State) : Host.Outcome State Fault Refusal := answer s (aclBatchApply s)
/-- ACL_PLANE_COPY. -/
def execAclPlaneCopy (s : State) : Host.Outcome State Fault Refusal := answer s (aclPlaneCopy s)
/-- ACL_BANK_CFG_WRITE. -/
def execAclBankCfgWrite (c : AclCfg) (v : Word) (s : State) : Host.Outcome State Fault Refusal := answer s (onF (aclBankCfgWrite c v) s)

end Sys2Proof.Machine
end

