-- ==== Sys2Proof/Machine/Pat.lean ====
section
/-! DEFINITION. The pattern automaton engine: its entries, sets, lanes, searches and verdicts (R225 to R231). -/

namespace Sys2Proof.Machine

def State.patRow (s : State) (a : Nat) : PatRow := KMap.get .free s.pat.rows a
def State.setPatRow (s : State) (a : Nat) (r : PatRow) : State := { s with pat := { s.pat with rows := KMap.set .free s.pat.rows a r } }

def State.patErr (s : State) (c : Nat) : State := s.setFld Reg.PAT_WR_STATUS Fld.PAT_WR_STATUS_ERR c

/-- A write of PAT_WR_CMD (R231, R223): the operands are captured and the command runs to its end. -/
def patCmdWrite (v : Word) (s : State) : State :=
  let op := Fld.PAT_WR_CMD_OP.get v
  let a := Fld.PAT_WR_CMD_BANK.get v * 4096 + Fld.PAT_WR_CMD_ROW.get v
  let key := s.regWords Reg.PAT_WR_KEY 3 % 2 ^ 80
  let mask := s.regWords Reg.PAT_WR_MASK 3 % 2 ^ 80
  let res := s.reg64 Reg.PAT_WR_RES_LO % 2 ^ 48
  let r := s.patRow a
  if op = 3 ∨ (op = 0 ∧ (key >>> 50 ≠ 0 ∨ res >>> 25 % 4 = 3 ∨ res % 2 ^ 15 ≠ 0)) then s.patErr aeInvalid
  else if op = 0 then (s.setPatRow a ⟨true, true, key, mask, res⟩).patErr aeOk
  else if !r.used then s.patErr aeNotFound
  else if op = 1 then (s.setPatRow a .free).patErr aeOk
  else (s.setPatRow a { r with valid := true }).patErr aeOk

/-- PAT_SET_CFG_WRITE (R226, R231, R234): a bank count of 0 or past bank 31 is refused; packets under the old configuration keep it. -/
def patSetCfgWrite (i : Nat) (v : Word) (s : State) : State :=
  let n := Fld.PAT_SET_CFG_BANK_COUNT.get v
  if n = 0 ∨ 32 < Fld.PAT_SET_CFG_FIRST_BANK.get v + n then s
  else
    { s with pat := { s.pat with gen := KMap.set 0 s.pat.gen i (KMap.get 0 s.pat.gen i + 1) } }
      |>.setReg (Reg.PAT_SET_CFG i) (v &&& 0xFFF3FFFF)

/-! ### Lanes (R227, R228) -/

def State.patCtx (s : State) (i c : Nat) : Option PatCtx := KMap.get none s.pat.ctxs (8 * i + c)
def State.setPatCtx (s : State) (i c : Nat) (x : Option PatCtx) : State :=
  { s with pat := { s.pat with ctxs := KMap.set none s.pat.ctxs (8 * i + c) x } }
def State.patQueue (s : State) (i : Nat) : List PatCtx := KMap.get [] s.pat.queues i
def State.setPatQueue (s : State) (i : Nat) (q : List PatCtx) : State :=
  { s with pat := { s.pat with queues := KMap.set [] s.pat.queues i q } }

/-- All contexts in use. -/
def State.patAll (s : State) : List PatCtx := s.pat.ctxs.l.filterMap (·.2)

/-- PAT_SET_STATUS.ACTIVE and OLD_BUSY (R231, R234). -/
def State.patActive (s : State) (set : Nat) : Nat := (s.patAll.filter (fun x => x.set == set)).length
def State.patOldBusy (s : State) (set : Nat) : Bool :=
  s.patAll.any (fun x => x.set == set && x.started && x.gen != KMap.get 0 s.pat.gen set)

/-- Gives a selected packet a free context of its lane, or a place in the lane's queue, or forwards it uninspected (R227). -/
def State.patAdmit (s : State) (i : Nat) (x : PatCtx) : State :=
  match (List.range 8).find? (fun c => (s.patCtx i c).isNone) with
  | some c => (s.setPatCtx i c (some x)).bump Ctr.PAT_INSPECT 1
  | none =>
    let q := s.patQueue i
    if q.length < 8 then s.setPatQueue i (q ++ [x]) else s.bump Ctr.PAT_SKIP 1

/-- Frees a context: the head of the lane's queue takes it. -/
def State.patFree (s : State) (i c : Nat) : State :=
  match s.patQueue i with
  | [] => s.setPatCtx i c none
  | x :: q => ((s.setPatCtx i c (some x)).setPatQueue i q).bump Ctr.PAT_INSPECT 1

/-- The inspected bytes are at most the first 4,096 of the payload (R228). -/
def inspectMax : Nat := 4096

/-- The class of a byte in a set (R226). -/
def State.patClass (s : State) (set b : Nat) : Nat := (s.reg (Reg.PAT_CLASS_MAP set (b / 4))).toNat >>> (8 * (b % 4)) % 256

/-- The lowest matching entry of a stride: only the row group whose tag is the state's low six bits takes part (R212, R225). -/
def State.patLookup (s : State) (x : PatCtx) (key : Nat) : Option PatRow :=
  (s.pat.rows.l.find? (fun (a, r) =>
    decide (x.bank0 ≤ a / 4096) && decide (a / 4096 < x.bank0 + x.banks) && a % 4096 / 64 == x.st % 64 && r.valid &&
      (key ^^^ r.key) &&& r.mask == 0)).map (·.2)

/-- The event of a match whose packet's tail is good (R229). -/
def State.patMatchEvent (s : State) (x : PatCtx) : State :=
  match x.hit with
  | some (_, rule) =>
    if s.flag Reg.PAT_CFG Fld.PAT_CFG_MATCH_EVT then s.ownerEvent 0x0500 1 63 x.flow (beBytes 1 x.set ++ beBytes 2 rule) else s
  | none => s

/-- Ends an inspection with a match: what it raises waits for a good tail (R229). -/
def State.patMatch (s : State) (x : PatCtx) : State :=
  let s1 := s.bump Ctr.PAT_MATCH 1
  let event := match x.hit with | some (0, _) => true | _ => false
  match x.tail with
  | some true =>
    let s2 := s1.patMatchEvent x
    if event then s2 else { s2 with pat := { s2.pat with ended := s2.pat.ended ++ [x] } }
  | _ => { s1 with pat := { s1.pat with ended := s1.pat.ended ++ [x] } }

/-- PAT_SEARCH (R225 to R229): one stride of a context whose bytes are present. `bad` names a row that the search hits falsely: it is
invalidated for the whole device and the context retries. -/
def patSearch (i c : Nat) (bad : Option Nat) (s : State) : State :=
  match s.patCtx i c with
  | none => s
  | some x0 =>
    let w := s.reg (Reg.PAT_SET_CFG x0.set)
    let x := if x0.started then x0 else
      { x0 with started := true, gen := KMap.get 0 s.pat.gen x0.set, bank0 := Fld.PAT_SET_CFG_FIRST_BANK.get w,
                banks := Fld.PAT_SET_CFG_BANK_COUNT.get w, start := Fld.PAT_SET_CFG_START.get w, st := Fld.PAT_SET_CFG_START.get w }
    let len := min x.data.length inspectMax
    let all := x.whole || decide (inspectMax ≤ x.data.length)
    let n := min 4 (len - x.pos)
    if n = 0 ∧ all then s.patFree i c
    else if n < 4 ∧ !all then s
    else
      let cls := (List.range 4).map (fun j => if j < n then s.patClass x.set (x.data.getD (x.pos + j) 0).toNat else 0xFF)
      let key := x.st * 2 ^ 32 + cls.foldl (fun a b => a * 256 + b) 0
      let isFalse := match bad with
        | some a => (s.patRow a).used && (s.patRow a).valid && decide (x.bank0 ≤ a / 4096) && decide (a / 4096 < x.bank0 + x.banks)
        | none => false
      if isFalse then
        let a := bad.getD 0
        (((s.setPatCtx i c (some x)).setPatRow a { s.patRow a with valid := false }).bump Ctr.PAT_FALSE_HIT 1).ownerEvent 0x0501 1 63 a []
      else
        match s.patLookup x key with
        | none =>
          let s1 := (s.setPatCtx i c (some { x with st := x.start, pos := x.pos + n })).bump Ctr.PAT_NO_TRANSITION 1
          if all && x.pos + n == len then s1.patFree i c else s1
        | some r =>
          if r.res.testBit 29 && decide (r.res >>> 27 % 4 < n) then
            (s.patMatch { x with pos := x.pos + n, hit := some (r.res >>> 25 % 4, r.res >>> 15 % 1024), at_ := s.time.cycles }).patFree i c
          else
            let s1 := s.setPatCtx i c (some { x with st := r.res >>> 30 % 2 ^ 18, pos := x.pos + n })
            if all && x.pos + n == len then s1.patFree i c else s1

/-- The tail of a packet reaches its inspection: its whole payload, good or bad (R229). -/
def State.patTail (s : State) (p : Nat) (payload : List Byte) (good : Bool) : State :=
  let upd (x : PatCtx) : PatCtx := { x with data := payload, whole := true, tail := some good }
  if good then
    let s1 := { s with pat := { s.pat with
      ctxs := ⟨s.pat.ctxs.l.map (fun (k, o) => (k, o.map (fun x => if x.pkt = p then upd x else x)))⟩,
      queues := ⟨s.pat.queues.l.map (fun (k, q) => (k, q.map (fun x => if x.pkt = p then upd x else x)))⟩ } }
    match s.pat.ended.find? (fun x => x.pkt == p) with
    | none => s1
    | some x =>
      let s2 := s1.patMatchEvent x
      let event := match x.hit with | some (0, _) => true | _ => false
      let marked := s2.pat.ended.map (fun y => if y.pkt = p then { y with tail := some true } else y)
      { s2 with pat := { s2.pat with ended := if event then s2.pat.ended.filter (fun y => y.pkt ≠ p) else marked } }
  else
    let inCtx := s.pat.ctxs.l.find? (fun (_, o) => match o with | some x => x.pkt == p | none => false)
    match inCtx with
    | some (k, _) => (s.patFree (k / 8) (k % 8)).bump Ctr.PAT_TAIL_BAD 1
    | none =>
      match s.pat.queues.l.find? (fun (_, q) => q.any (fun x => x.pkt == p)) with
      | some (i, q) => (s.setPatQueue i (q.filter (fun x => x.pkt ≠ p))).bump Ctr.PAT_TAIL_BAD 1
      | none =>
        if s.pat.ended.any (fun x => x.pkt == p) then
          { s with pat := { s.pat with ended := s.pat.ended.filter (fun x => x.pkt ≠ p) } } |>.bump Ctr.PAT_TAIL_BAD 1
        else s

/-! ### Verdicts (R229, R230) -/

/-- The flow ID of a packet (R230). -/
def State.flowId (s : State) (c : KeyCtx) : Nat :=
  let b := c.bytes
  let p := c.parse
  let seed := (Config.draw s.pat.seed).toNat % 2 ^ 32
  let l3 := match p.l3At false with
    | none => []
    | some h =>
      let (sp, dp) := l4Ports b (p.l4After h)
      let adr := if h.kind = .ipv4 then beBytes 4 (beAt b (h.off + 12) 4) ++ beBytes 4 (beAt b (h.off + 16) 4)
        else beBytes 16 (beAt b (h.off + 8) 16) ++ beBytes 16 (beAt b (h.off + 24) 16)
      adr ++ beBytes 1 (p.protoOf b h) ++ beBytes 2 sp ++ beBytes 2 dp
  crc32c (beBytes 2 c.table ++ l3) ^^^ seed

def verdictSet (flow : Nat) : Nat := flow % 16384

/-- The live verdict of a flow (R230, R61). -/
def State.verdict (s : State) (flow : Nat) : Option Verdict := s.pat.verdicts.find? (fun v => v.flow == flow && decide (s.mono < v.close))

/-- The verdict that expires first. -/
def sooner (a : Option Verdict) (v : Verdict) : Option Verdict :=
  match a with
  | none => some v
  | some x => if v.close < x.close then some v else some x

/-- Writes a verdict: it renews the flow's own, takes a free entry of its set, or replaces the one that expires first (R230). -/
def State.writeVerdict (s : State) (v : Verdict) : State :=
  let l := s.pat.verdicts
  let put (l : List Verdict) (s : State) : State := { s with pat := { s.pat with verdicts := l ++ [v] } }
  if l.any (fun x => x.flow == v.flow) then put (l.filter (fun x => x.flow ≠ v.flow)) s
  else
    let set := l.filter (fun x => verdictSet x.flow == verdictSet v.flow)
    if set.length < 4 then put l s
    else
      match set.foldl sooner none with
      | none => put l s
      | some o => (put (l.filter (fun x => x ≠ o)) s).bump Ctr.PAT_VERDICT_REPLACE 1

def State.verdictLife (s : State) : Nat := expSpanIn (-10) 12 (s.fld Reg.PAT_CFG Fld.PAT_CFG_VERDICT_LIFE)

/-- PAT_VERDICT_WRITE (R229, R230): 4 cycles after the search result, and with the tail good, the match of a packet writes its verdict. -/
def patVerdictWrite (p : Nat) (s : State) : State :=
  match s.pat.ended.find? (fun x => x.pkt == p) with
  | none => s
  | some x =>
    match x.hit with
    | none => s
    | some (action, rule) =>
      if x.tail = some true ∧ x.at_ + 4 ≤ s.time.cycles then
        let s1 : State := { s with pat := { s.pat with ended := s.pat.ended.filter (fun y => y.pkt ≠ p) } }
        s1.writeVerdict ⟨x.flow, action == 1, rule, s.mono + s.verdictLife⟩
      else s

/-- PAT_VERDICT_EXPIRE (R230). -/
def patVerdictExpire (flow : Nat) (s : State) : State :=
  if s.pat.verdicts.any (fun v => v.flow == flow && decide (v.close ≤ s.mono)) then
    { s with pat := { s.pat with verdicts := s.pat.verdicts.filter (fun v => v.flow ≠ flow) } } |>.bump Ctr.PAT_VERDICT_EXPIRE 1
  else s

/-- PAT_VERDICT_FLUSH (R230): the table is emptied. -/
def patVerdictFlush (s : State) : State := { s with pat := { s.pat with verdicts := [] } }

/-- PAT_SEARCH. -/
def execPatSearch (i : Fin 16) (c : Fin 8) (bad : Option (BitVec 17)) (s : State) : Host.Outcome State Fault Refusal :=
  answer s (patSearch i.val c.val (bad.map (·.toNat)) s)
/-- PAT_VERDICT_WRITE. -/
def execPatVerdictWrite (p : BitVec 32) (s : State) : Host.Outcome State Fault Refusal := answer s (patVerdictWrite p.toNat s)
/-- PAT_VERDICT_EXPIRE. -/
def execPatVerdictExpire (flow : BitVec 32) (s : State) : Host.Outcome State Fault Refusal := answer s (patVerdictExpire flow.toNat s)
/-- PAT_VERDICT_FLUSH. -/
def execPatVerdictFlush (s : State) : Host.Outcome State Fault Refusal := answer s (onF patVerdictFlush s)
/-- PAT_WRITE: a write of PAT_WR_CMD with OP WRITE. -/
def execPatWrite (v : Word) (s : State) : Host.Outcome State Fault Refusal := answer s (onF (patCmdWrite (Fld.PAT_WR_CMD_OP.put v 0)) s)
/-- PAT_DELETE. -/
def execPatDelete (v : Word) (s : State) : Host.Outcome State Fault Refusal := answer s (onF (patCmdWrite (Fld.PAT_WR_CMD_OP.put v 1)) s)
/-- PAT_REFRESH. -/
def execPatRefresh (v : Word) (s : State) : Host.Outcome State Fault Refusal := answer s (onF (patCmdWrite (Fld.PAT_WR_CMD_OP.put v 2)) s)
/-- PAT_SET_CFG_WRITE. -/
def execPatSetCfgWrite (i : Fin 8) (v : Word) (s : State) : Host.Outcome State Fault Refusal := answer s (onF (patSetCfgWrite i.val v) s)

end Sys2Proof.Machine
end

