-- ==== Sys2Proof/Machine/Ingress.lean ====
section
/-! DEFINITION. The ingress slices: entry, keys, parser outcomes, respins, joins, ACL stages, policers, result reads, commit and the
tail (R119 to R148, R157 to R163, R177, R188). -/

namespace Sys2Proof.Machine

/-! ### Packets -/

def State.pkt (s : State) (p : Nat) : Option IPkt := KMap.get none s.ing.pkts p
def State.setPkt (s : State) (p : Nat) (k : IPkt) : State := { s with ing := { s.ing with pkts := KMap.set none s.ing.pkts p (some k) } }

/-- Forgets a packet, and that its port was receiving it. -/
def State.delPkt (s : State) (p : Nat) : State :=
  { s with ing := { s.ing with pkts := KMap.set none s.ing.pkts p none, cur := s.ing.cur.filter (fun _ v => v != p + 1) } }

/-- All packets of the slices. -/
def State.allPkts (s : State) : List (Nat × IPkt) := s.ing.pkts.l.filterMap (fun (k, o) => o.map (fun x => (k, x)))

/-- Whether a packet is in flight: between stage 0 and the end of stage 143, respin path included (R150). -/
def IPkt.inFlight (k : IPkt) : Bool := decide (k.stage ≠ .queued) && !k.left

/-- The in-flight count of an epoch (R150). -/
def State.inFlight (s : State) (e : Nat) : Nat := (s.allPkts.filter (fun x => x.2.inFlight && x.2.epoch == e)).length

/-- Room held in the transit FIFO of a slice: reserved by packets and held by committed copies (R22, R139). -/
def State.transitUsed (s : State) (i : Nat) : Nat :=
  ((s.allPkts.filter (fun x => x.2.slice == i)).map (fun x => x.2.reserved)).sum + ((KMap.get [] s.ing.transit i).map (·.room)).sum

/-- 3 µs of the lane group's line rate of 1.6 Tb/s, in bytes (R22). -/
def transitBytes : Nat := 600000

/-- Whether the forwarding lease has expired (R484). -/
def State.leaseOver (s : State) : Bool :=
  s.flag Reg.BOOT_STATUS Fld.BOOT_STATUS_LEASE_EXPIRED || (match s.time.lease with | some e => decide (e ≤ s.mono) | none => false)

/-! ### Tokens (R145, R146) -/

def State.tokens (s : State) (i : Nat) : TokenLedger := KMap.get .init s.ing.tokens i
def State.setTokens (s : State) (i : Nat) (t : TokenLedger) : State :=
  { s with ing := { s.ing with tokens := KMap.set .init s.ing.tokens i t } }

def bucketKey (i n : Nat) : Nat := i * 65536 + n
def State.bucketOf (s : State) (i n : Nat) : Bucket := KMap.get .init s.ing.buckets (bucketKey i n)
def State.setBucket (s : State) (i n : Nat) (b : Bucket) : State :=
  { s with ing := { s.ing with buckets := KMap.set .init s.ing.buckets (bucketKey i n) b } }

/-- Returns tokens to the buckets they came from; what a bucket cannot hold is counted as capped (R145, R146). `final` says that the
charge was already consumed, so that the return lowers what was consumed. -/
def State.giveBack (s : State) (i : Nat) (c : Charge) (n : Int) (final : Bool) : State :=
  let b := s.bucketOf i c.policer
  let tp := min (b.tp + n) (max b.tp c.pbs)
  let tc := if c.committed then min (b.tc + n) (max b.tc c.cbs) else b.tc
  let excess := (b.tp + n - tp) + (if c.committed then b.tc + n - tc else 0)
  let units := if c.committed then 2 * n else n
  let t := s.tokens i
  (s.setBucket i c.policer { b with tp := tp, tc := tc }).setTokens i
    { t with capped := t.capped + excess, used := if final then t.used - units else t.used }

/-- Takes a shortfall from the same buckets (R146). -/
def State.takeMore (s : State) (i : Nat) (c : Charge) (n : Int) : State :=
  let b := s.bucketOf i c.policer
  let t := s.tokens i
  (s.setBucket i c.policer { b with tp := b.tp - n, tc := if c.committed then b.tc - n else b.tc }).setTokens i
    { t with used := t.used + (if c.committed then 2 * n else n) }

/-- TOKEN_RETURN (R145): a packet dropped before commit returns its speculative tokens. -/
def State.returnTokens (s : State) (k : IPkt) : State := k.charges.foldl (fun s c => s.giveBack k.slice c c.amount false) s

/-- Settles the charges of a packet at its tail: the true length, or a refund of all when the tail is bad (R146). -/
def State.settle (s : State) (k : IPkt) (len : Nat) (good : Bool) : State :=
  k.charges.foldl (fun s c =>
    let d : Int := (len : Int) - c.amount
    if good && d == 0 then s
    else
      let s1 := if !good then s.giveBack k.slice c c.amount true
        else if 0 < d then s.takeMore k.slice c d else s.giveBack k.slice c (-d) true
      s1.bump (Ctr.FWH_SETTLE k.slice) 1) s

/-! ### Drops before commit (R140, R143) -/

/-- Releases what a packet holds before commit and forgets it. -/
def State.forget (s : State) (p : Nat) (k : IPkt) : State :=
  let s1 := s.returnTokens k
  let s2 := match k.fwd with
    | some (.punt _ _) =>
      let left := KMap.get 0 s1.ing.puntRoom k.slice - k.charge
      { s1 with ing := { s1.ing with puntRoom := KMap.set 0 s1.ing.puntRoom k.slice left } }
    | _ => s1
  s2.delPkt p

/-- Drops a packet before commit: it counts in one counter and changes nothing else. -/
def State.dropPkt (s : State) (p : Nat) (k : IPkt) (c : Ctr) : State := (s.forget p k).bump c 1

/-- Drops with a cause of R140. -/
def State.dropCause (s : State) (p : Nat) (k : IPkt) (c : Nat) : State := s.dropPkt p k (Ctr.FWH_DROP_CNT k.slice c)

/-- The drop causes of R140. -/
def dcTransitFull : Nat := 1
def dcTdieDown : Nat := 2
def dcLease : Nat := 3
def dcRespinFull : Nat := 4
def dcLookupLate : Nat := 5
def dcAclDeny : Nat := 6
def dcRed : Nat := 7
def dcFwdDrop : Nat := 8

/-! ### Slice entry (R139, R150) -/

def qGet (m : KMap (List Nat)) (i : Nat) : List Nat := KMap.get [] m i
def qSet (m : KMap (List Nat)) (i : Nat) (l : List Nat) : KMap (List Nat) := KMap.set [] m i l

/-- A new packet of a slice, before its entry. -/
def IPkt.new (slice port : Nat) (bytes : List Byte) (len : Option Nat) (ts maxFrame : Nat) : IPkt :=
  { slice := slice, port := port, line := false, pre := false, recirc := false, hasIth := false, term := none, bytes := bytes, len := len,
    known := len.isSome, ts := ts, maxFrame := maxFrame, bridged := false, stage := .queued, epoch := 0, respun := false, prof := 0,
    parse := none, slow := none, reads := [], res := none, srcRes := none, frag := none, acl := .none, aclDone := false, charges := [],
    charge := 0, fwd := none, learn := none, mirror := [], err := none, tail := if len.isSome then some true else none, sec := none,
    reserved := 0, left := false, colour := 0, ptp := none, lost := false }

/-- Adds a packet to a queue of its slice: line frames, host frames or recirculated packets. Answers its number. -/
def State.enqueue (s : State) (k : IPkt) : Nat × State :=
  let p := s.ing.nextId
  let s1 := { s with ing := { s.ing with nextId := p + 1 } }.setPkt p k
  if k.recirc then (p, { s1 with ing := { s1.ing with recircQ := qSet s1.ing.recircQ k.slice (qGet s1.ing.recircQ k.slice ++ [p]) } })
  else if k.port < 128 then (p, { s1 with ing := { s1.ing with lineQ := qSet s1.ing.lineQ k.slice (qGet s1.ing.lineQ k.slice ++ [p]) } })
  else (p, { s1 with ing := { s1.ing with hostQ := qSet s1.ing.hostQ k.slice (qGet s1.ing.hostQ k.slice ++ [p]) } })

/-- Takes the next packet for stage 0: the head of the respin queue, then line frames, host frames and recirculated packets (R139). -/
def State.nextEntry (s : State) (i : Nat) : Option (Nat × State) :=
  match qGet s.ing.respinQ i, qGet s.ing.lineQ i, qGet s.ing.hostQ i, qGet s.ing.recircQ i with
  | p :: r, _, _, _ => some (p, { s with ing := { s.ing with respinQ := qSet s.ing.respinQ i r } })
  | [], p :: r, _, _ => some (p, { s with ing := { s.ing with lineQ := qSet s.ing.lineQ i r } })
  | [], [], p :: r, _ => some (p, { s with ing := { s.ing with hostQ := qSet s.ing.hostQ i r } })
  | [], [], [], p :: r => some (p, { s with ing := { s.ing with recircQ := qSet s.ing.recircQ i r } })
  | [], [], [], [] => none

/-- SLICE_ENTRY (R139): one packet enters stage 0; the stage-0 drops are tested, in the order of their causes; a respin keeps its epoch. -/
def sliceEntry (i : Nat) (s : State) : State :=
  if !s.fdieUp || KMap.get 0 s.ing.fence i == 1 || KMap.get 0 s.ing.fence i == 3 ||
      decide (s.time.cycles < KMap.get 0 s.ing.hold i) then s
  else
    match s.nextEntry i with
    | none => s
    | some (p, s1) =>
      match s1.pkt p with
      | none => s1
      | some k =>
        let need := match k.len with | some n => n | none => k.maxFrame
        if !k.respun && decide (transitBytes < s1.transitUsed i + need) then s1.dropCause p k dcTransitFull
        else if !s1.tdieUp then s1.dropCause p k dcTdieDown
        else if k.line && s1.leaseOver then s1.dropCause p k dcLease
        else s1.setPkt p { k with stage := .entered, reserved := need, epoch := if k.respun then k.epoch else s1.epoch }

/-! ### Keys (R133, R134, R159 to R163) -/

def State.prsCfg (s : State) (i : Nat) : PrsCfg :=
  { mplsPeek := s.flag (Reg.PRS_CFG i) Fld.PRS_CFG_MPLS_PEEK, ipipEn := s.flag (Reg.PRS_CFG i) Fld.PRS_CFG_IPIP_EN,
    vxlan := s.fld (Reg.PRS_UDP_PORTS i) Fld.PRS_UDP_PORTS_VXLAN, geneve := s.fld (Reg.PRS_UDP_PORTS i) Fld.PRS_UDP_PORTS_GENEVE }

/-- The headers that a guess profile names, at the offsets of their fixed sizes (R133). -/
def profileParse (w : Word) : Parse :=
  let put (p : Parse) (k : HKind) (n : Nat) : Parse := p.follow k n .done
  let reps (n : Nat) (k : HKind) (p : Parse) : Parse := (List.range n).foldl (fun p _ => put p k 4) p
  let l3 (c : Nat) (p : Parse) : Parse := if c = 1 then put p .ipv4 20 else if c = 2 then put p .ipv6 40 else p
  let p0 := Parse.start false
  let p1 := if Fld.PRS_GUESS_ITH.get w = 1 then put p0 .ith 16 else p0
  let p2 := reps (Fld.PRS_GUESS_LABELS.get w) .mpls (reps (Fld.PRS_GUESS_TAGS.get w) .tag (put p1 .eth 14))
  let p3 := l3 (Fld.PRS_GUESS_L3.get w) p2
  let inner (p : Parse) : Parse := reps (Fld.PRS_GUESS_INNER_TAGS.get w) .tag (put p .eth 14)
  match Fld.PRS_GUESS_TUNNEL.get w with
  | 1 => l3 (Fld.PRS_GUESS_INNER_L3.get w) (inner (put (put p3 .udp 8) .vxlan 8).newLevel)
  | 2 => l3 (Fld.PRS_GUESS_INNER_L3.get w) (inner (put (put p3 .udp 8) .geneve 8).newLevel)
  | 3 => l3 (Fld.PRS_GUESS_INNER_L3.get w) (put p3 .gre 4).newLevel
  | _ => p3

/-- The profile selected for a packet (R134). -/
def State.profileOf (s : State) (k : IPkt) : Word :=
  let g := if k.recirc then s.fld (Reg.PRS_HOST_GUESS k.slice) Fld.PRS_HOST_GUESS_RECIRC
    else if k.port < 128 then (s.reg (Reg.PRS_PORT_GUESS k.slice)).toNat >>> (4 * (k.port % 8)) % 16
    else s.fld (Reg.PRS_HOST_GUESS k.slice) Fld.PRS_HOST_GUESS_HOST
  s.reg (Reg.PRS_GUESS k.slice g)

/-- The route table of a packet (R159). -/
def State.tableOf (s : State) (k : IPkt) (p : Parse) : Nat :=
  match k.term with
  | some (l, n) => if l < 2 then n else 0
  | none =>
    if k.port < 128 then
      let a := Reg.LPM_PORT_TABLE k.slice (k.port % 8)
      let port := s.fld a Fld.LPM_PORT_TABLE_TABLE
      match p.vid k.bytes with
      | some v =>
        let e := (s.reg (Reg.LPM_VID_MAP k.slice (v / 2))).toNat >>> (16 * (v % 2)) % 2 ^ 16
        if s.flag a Fld.LPM_PORT_TABLE_VID_MAP_EN && e.testBit 15 then e % 2 ^ 12 else port
      | none => port
    else if k.hasIth then (Config.ithTable (BitVec.ofNat 128 (beAt k.bytes 0 16))).toNat
    else s.fld (Reg.LPM_HOST_CFG k.slice) Fld.LPM_HOST_CFG_TABLE

/-- The bridge domain (R160). -/
def IPkt.domain (k : IPkt) (p : Parse) : Nat :=
  match k.term with
  | some (2, n) => n
  | _ => (p.vid k.bytes).getD 0

/-- The label space (R160). -/
def IPkt.space (k : IPkt) : Nat := match k.term with | some (3, n) => n | _ => 0

/-- Whether the packet is bridged on this pass (R122, R157). -/
def IPkt.isBridged (k : IPkt) : Bool := match k.term with | some (l, _) => l == 2 | none => k.bridged

/-- The lookups of a packet. -/
inductive LKey where
  | bridge (da sa : ExmKey)
  | mpls (k : ExmKey)
  | v4 (table a : Nat)
  | v6 (table a : Nat)
  | none
  deriving DecidableEq, Repr

/-- The keys at the offsets of a parse: the guess profile's or the parser's (R122, R136). -/
def State.keysOf (s : State) (k : IPkt) (p : Parse) : LKey :=
  let b := k.bytes
  if k.isBridged then
    let o := p.ethOff
    let d := k.domain p
    .bridge (macKey d (beAt b o 6)) (macKey d (beAt b (o + 6) 6))
  else
    match p.routeHdr with
    | some h =>
      if h.kind = .mpls then .mpls (mplsKey k.space (beAt b h.off 3 / 16))
      else if h.kind = .ipv4 then .v4 (s.tableOf k p) (beAt b (h.off + 16) 4)
      else .v6 (s.tableOf k p) (beAt b (h.off + 24) 16)
    | none => .none

/-- The table-DRAM reads that the lookups issue first (R161, R169, R184). -/
def State.firstReads (s : State) (e : Nat) : LKey → List Rd
  | .bridge da sa => (s.exmReads da).map (.exm · da) ++ (s.exmReads sa).map (.exm · sa)
  | .mpls k => (s.exmReads k).map (.exm · k)
  | .v4 t a => if s.trieBeyond e false t a 28 then [.stage4] else []
  | .v6 t a => (s.exmReads (hostKey t a)).map (.exm · (hostKey t a)) ++ (if s.trieBeyond e true t a 48 then [.stage4] else [])
  | .none => []

/-- The exact-match keys that the first lookups probe. -/
def LKey.exmKeys : LKey → List ExmKey
  | .bridge da sa => [da, sa]
  | .mpls k => [k]
  | .v6 t a => [hostKey t a]
  | _ => []

/-- Reads that are not the hit: false fingerprints and second versions (R169, R187). -/
def State.extraReads (s : State) (e : Nat) (ks : List ExmKey) : Nat :=
  (ks.map (fun k => (s.exmReads k).length - (s.exmHit e k).isSome.toNat)).sum

/-- KEY_LAUNCH (R136, R141): the lookups start at the profile's offsets, or on the second pass at those the parser found. -/
def keyLaunch (p : Nat) (s : State) : State :=
  match s.pkt p with
  | none => s
  | some k =>
    if k.stage ≠ .entered then s
    else
      let prof := if k.respun then k.prof else s.profileOf k
      let ps := if k.respun then k.parse.getD (profileParse prof) else profileParse prof
      let lk := s.keysOf k ps
      (s.setPkt p { k with stage := .launched, prof := prof, reads := s.firstReads k.epoch lk }).bump Ctr.EXM_EXTRA_READ
        (s.extraReads k.epoch lk.exmKeys)

/-- PARSE_HEADERS (R119 to R130): the parser follows the chain; a respin is not parsed again. -/
def parseHeaders (p : Nat) (s : State) : State :=
  match s.pkt p with
  | none => s
  | some k =>
    if k.stage ≠ .launched then s
    else
      let ps := if k.respun then k.parse
        else some (parse (s.prsCfg k.slice) k.bytes (if k.known then some k.bytes.length else none) k.hasIth)
      s.setPkt p { k with stage := .parsed, parse := ps }

/-! ### Parser outcomes at stage 28 (R124 to R132) -/

def IPkt.ps (k : IPkt) : Parse := k.parse.getD (Parse.start false)

/-- The flags of R128 in the order of PARSE_FLAGS (R217). -/
def IPkt.flags (k : IPkt) : Nat :=
  let p := k.ps
  let da := beAt k.bytes p.ethOff 6
  let mc := (da >>> 40) % 2
  let bc := (da == 0xFFFFFFFFFFFF).toNat
  let first := match p.frag with | some (_, f) => f | none => false
  let later := match p.frag with | some (_, f) => !f | none => false
  mc * 256 + bc * 128 + p.horizon.toNat * 64 + p.l4Absent.toNat * 32 + p.mal.isSome.toNat * 16 + p.csumErr.toNat * 8 + first.toNat * 4 +
    later.toNat * 2 + p.tunnel.toNat

def State.keyCtx (s : State) (k : IPkt) : KeyCtx :=
  { bytes := k.bytes, parse := k.ps, flags := k.flags, srcPort := k.port, table := s.tableOf k k.ps }

/-- The action of a malformed class: 3 acts as DROP (R125). -/
def State.malAction (s : State) (i c : Nat) : Nat :=
  let a := (s.reg (Reg.PRS_MAL_ACTION i)).toNat >>> (2 * c) % 4
  if a = 3 then 0 else a

/-- The slow-path ring of a slice, if the slow path is enabled and its ring runs (R129). -/
def State.slowRing (s : State) (i : Nat) : Option Nat :=
  let g := s.fld (Reg.PRS_SLOWPATH i) Fld.PRS_SLOWPATH_HOST_PORT * 16384 + s.fld (Reg.PRS_SLOWPATH i) Fld.PRS_SLOWPATH_RING
  if s.flag (Reg.PRS_SLOWPATH i) Fld.PRS_SLOWPATH_EN && s.ringState g == rsRunning then some g else none

/-- Sends a packet to the slow path, or drops it and counts it in PRS_SLOWPATH_DROP (R129). -/
def State.toSlow (s : State) (p : Nat) (k : IPkt) (reason : Nat) : State :=
  match s.slowRing k.slice with
  | some _ => s.setPkt p { k with slow := some reason }
  | none => s.dropPkt p k (Ctr.PRS_SLOWPATH_DROP k.slice)

/-- The live fragment-table entry of a key for a packet's timestamp (R132, R61). -/
def State.fragHit (s : State) (key : FragKey) (ts : Nat) : Option FragEnt :=
  if s.flag Reg.PRS_FRAG_CFG Fld.PRS_FRAG_CFG_EN then
    s.ing.frags.find? (fun f => f.key == key && decide (s.mono + ts < f.close + s.now))
  else none

/-- FRAGMENT_LOOKUP (R132): a later fragment takes the stored results or goes to the slow path. `act` is false when an earlier outcome
governs: a miss then neither acts nor counts. -/
def State.fragLookup (s : State) (p : Nat) (k : IPkt) (act : Bool) : State :=
  match k.ps.frag with
  | some (key, false) =>
    match s.fragHit key k.ts with
    | some f => (s.setPkt p { k with frag := some (f.fwd, f.acl) }).bump Ctr.PRS_FRAG_HIT 1
    | none => if act then (s.bump Ctr.PRS_FRAG_MISS 1).toSlow p k 0x11 else s
  | _ => s

/-- The parser outcomes in their order of precedence (R125, R127, R128): a malformed class, a checksum error, an incomplete key at the
horizon, a fragment-table miss. -/
def State.outcomes (s : State) (p : Nat) (k : IPkt) : State :=
  let i := k.slice
  let ps := k.ps
  let complete := ps.keyComplete k.isBridged
  match ps.mal with
  | some c =>
    let s1 := s.bump (Ctr.PRS_MAL_CNT i c) 1
    let a := s.malAction i c
    if a = 0 then s1.forget p k
    else if a = 2 && complete then s1.fragLookup p k false
    else s1.toSlow p k (0x20 + c)
  | none =>
    if ps.csumErr then
      let s1 := s.bump (Ctr.PRS_IPV4_CSUM_ERR i) 1
      let a := s.fld (Reg.PRS_CFG i) Fld.PRS_CFG_CSUM_ACTION
      if a = 0 ∨ a = 3 then s1.forget p k
      else if a = 2 && complete then s1.fragLookup p k false
      else s1.toSlow p k 0x12
    else if ps.horizon && !complete then (s.bump (Ctr.PRS_HORIZON_PUNT i) 1).toSlow p k 0x10
    else
      let s1 := if ps.horizon then s.bump (Ctr.PRS_HORIZON_FWD i) 1 else s
      s1.fragLookup p k true

/-- ESP receive: an ESP packet that hits the inbound table commits as a recirculation (R405). -/
def State.espHit (s : State) (k : IPkt) : Option Nat :=
  let p := k.ps
  match p.l3At false, p.findK .esp with
  | some h, some e =>
    if e.level = h.level then
      let dst := if h.kind = .ipv4 then beAt k.bytes (h.off + 16) 4 * 2 ^ 96 else beAt k.bytes (h.off + 24) 16
      (s.espInbound (beAt k.bytes e.off 4) dst (s.tableOf k p)).map (·.sa)
    else none
  | _, _ => none

/-- LAYOUT_COMPARE (R125 to R132, R141): the parser outcomes of a first pass, then the comparison with the guess; a mismatch leaves for the
respin path and its speculative results are discarded. -/
def layoutCompare (p : Nat) (s : State) : State :=
  match s.pkt p with
  | none => s
  | some k =>
    if k.stage ≠ .parsed then s
    else if k.respun then s.setPkt p { k with stage := .compared }
    else
      let s1 := s.outcomes p k
      match s1.pkt p with
      | none => s1
      | some k1 =>
        let esp := if k1.slow.isNone && k1.frag.isNone then s1.espHit k1 else none
        let k2 := match esp with | some n => { k1 with fwd := some (.esp n) } | none => k1
        if guessMatch k.prof k.ps k.bytes then s1.setPkt p { k2 with stage := .compared }
        else (s1.setPkt p { k2 with stage := .loop, reads := [] }).bump (Ctr.FWH_RESPIN k.slice) 1

/-- RESPIN (R141): at the end of the loop the packet joins the respin queue, or is dropped when 32 packets wait. -/
def respin (p : Nat) (s : State) : State :=
  match s.pkt p with
  | none => s
  | some k =>
    if k.stage ≠ .loop then s
    else
      let q := qGet s.ing.respinQ k.slice
      if 32 ≤ q.length then s.dropCause p k dcRespinFull
      else
        let s1 := s.setPkt p { k with stage := .respinQ, respun := true }
        { s1 with ing := { s1.ing with respinQ := qSet s1.ing.respinQ k.slice (q ++ [p]) } }

/-! ### Lookup results (R138, R161 to R163, R169) -/

/-- Whether a packet's lookups and ACL stages are skipped: it goes to the slow path, hit the fragment table or is to be decrypted. -/
def IPkt.skips (k : IPkt) : Bool := k.slow.isSome || k.frag.isSome || k.fwd.isSome

/-- A read's data returns to its packet: the next trie stage and the continuation probes issue, and a hit sets HIT (R163, R169). -/
def State.readReturn (s : State) (p n : Nat) : State :=
  match s.pkt p with
  | none => s
  | some k =>
    match k.reads[n]? with
    | none => s
    | some r =>
      let rest := k.reads.eraseIdx n
      let ps := if k.respun then k.ps else profileParse k.prof
      let lk := s.keysOf k ps
      let conts (t a : Nat) : List ExmKey := (s.contMask k.epoch t a).map (fun l => contKey t l a)
      match r with
      | .exm slot key =>
        let s1 := s.setPkt p { k with reads := rest }
        if s.exmHit k.epoch key = some slot then s1.exmTouch k.epoch key else s1
      | .stage4 =>
        match lk with
        | .v6 t a => s.setPkt p { k with reads := rest ++ (if s.trieBeyond k.epoch true t a 56 then [.stage5] else []) }
        | _ => s.setPkt p { k with reads := rest }
      | .stage5 =>
        match lk with
        | .v6 t a =>
          let ks := conts t a
          (s.setPkt p { k with reads := rest ++ ks.flatMap (fun c => (s.exmReads c).map (.exm · c)) }).bump Ctr.EXM_EXTRA_READ
            (s.extraReads k.epoch ks)
        | _ => s.setPkt p { k with reads := rest }

/-- The longest continuation entry that covers an address (R162, R163). -/
def State.contResult (s : State) (e t a : Nat) : Option Word :=
  let ls := (s.contMask e t a).mergeSort (fun x y => decide (y ≤ x))
  ls.findSome? (fun l => s.exmResult e (contKey t l a))

/-- The results of the lookups in the packet's epoch: of its forwarding key, and of the source of a bridged frame (R162, R169). -/
def State.lookupResult (s : State) (e : Nat) : LKey → Option Word × Option Word
  | .bridge da sa => (s.exmResult e da, s.exmResult e sa)
  | .mpls k => (s.exmResult e k, none)
  | .v4 t a => ((s.trieLookup e false t a).map (·.result), none)
  | .v6 t a =>
    (match s.exmResult e (hostKey t a) with
     | some w => some w
     | none => match s.contResult e t a with
       | some w => some w
       | none => (s.trieLookup e true t a).map (·.result), none)
  | .none => (none, none)

/-- RESULT_JOIN (R138, R162): a packet whose results have not all returned is dropped with LOOKUP_LATE; the others take them. -/
def resultJoin (p : Nat) (s : State) : State :=
  match s.pkt p with
  | none => s
  | some k =>
    if k.stage ≠ .compared then s
    else if k.skips then s.setPkt p { k with stage := .joined, reads := [] }
    else if k.reads ≠ [] then s.dropCause p k dcLookupLate
    else if k.lost then s.setPkt p { k with stage := .joined, res := some 0, srcRes := none }
    else
      let lk := s.keysOf k k.ps
      let (r, src) := s.lookupResult k.epoch lk
      let isRoute := match lk with | .v4 _ _ => true | .v6 _ _ => true | _ => false
      let s1 := if isRoute && r.isNone then s.bump Ctr.LPM_MISS 1 else s
      let res := match lk with
        | .bridge _ _ => some (r.getD (s.reg Reg.LRN_MISS_RESULT))
        | _ => r
      s1.setPkt p { k with stage := .joined, res := res, srcRes := src }

/-! ### ACL stages and verdicts (R218 to R221, R230) -/

/-- Applies the first match of a stage, or its miss, to a packet; `first` says that the first stage's MIRROR and COUNT stand beside it. -/
def State.aclApply (s : State) (p : Nat) (k : IPkt) (hit : Option Nat) (missDeny : Bool) (nxt : IStage) : State :=
  match hit with
  | none => if missDeny then s.dropCause p k dcAclDeny else s.setPkt p { k with stage := nxt }
  | some a =>
    let act := (s.aclRow a).act
    if actBit act 63 then s.dropCause p k dcAclDeny
    else
      let o := k.acl
      let o1 : AclOut :=
        { redirect := if actBit act 62 then some (actResult act) else o.redirect,
          inspect := if actBit act 61 then some (act / 2 ^ 58 % 8) else o.inspect,
          mirrors := if actBit act 57 then o.mirrors ++ [act / 2 ^ 54 % 8] else o.mirrors,
          counts := if actBit act 53 then o.counts ++ [act / 2 ^ 43 % 1024] else o.counts }
      s.setPkt p { k with stage := nxt, acl := o1 }

/-- One ACL stage: its false hits, its search, its outcome; three false hits drop the packet (R218). -/
def State.aclStage (s : State) (p stage : Nat) (bad : List Nat) (k : IPkt) (nxt : IStage) : State :=
  let c := s.keyCtx k
  let (n, s1) := s.aclFalseHits k.slice k.epoch stage c bad
  if 3 ≤ n then (s1.bump (Ctr.ACL_SLOTS_EXHAUSTED k.slice) 1).dropCause p k dcAclDeny
  else
    let miss := if stage = 0 then s.flag Reg.ACL_STAGE_CFG Fld.ACL_STAGE_CFG_MISS1_DENY
      else s.flag Reg.ACL_STAGE_CFG Fld.ACL_STAGE_CFG_MISS2_DENY
    s1.aclApply p k (s1.aclSearch k.slice k.epoch stage c) miss nxt

/-- ACL_STAGE1 (R218, R220, R230): the first stage's banks are searched and the verdict table is looked up. -/
def aclStage1 (p : Nat) (bad : List Nat) (s : State) : State :=
  match s.pkt p with
  | none => s
  | some k =>
    if k.stage ≠ .joined then s
    else if k.skips then s.setPkt p { k with stage := .acl1 }
    else
      let v := s.verdict (s.flowId (s.keyCtx k))
      let s1 := if v.isSome then s.bump Ctr.PAT_VERDICT_HIT 1 else s
      let s2 := s1.aclStage p 0 bad k .acl1
      match v, s2.pkt p with
      | some x, some k2 => if x.drop then s2.dropCause p k2 dcAclDeny else s2
      | _, _ => s2

/-- ACL_STAGE2 (R218, R220): the second stage; a REDIRECT verdict overrides both stages. -/
def aclStage2 (p : Nat) (bad : List Nat) (s : State) : State :=
  match s.pkt p with
  | none => s
  | some k =>
    if k.stage ≠ .acl1 then s
    else if k.skips then s.setPkt p { k with stage := .acl2, acl := (match k.frag with | some (_, a) => a | none => k.acl) }
    else
      let s1 := s.aclStage p 1 bad k .acl2
      match s.verdict (s.flowId (s.keyCtx k)), s1.pkt p with
      | some x, some k1 =>
        if x.drop then s1
        else s1.setPkt p { k1 with acl := { k1.acl with redirect := some (s1.reg (Reg.PAT_RESULT x.rule)) } }
      | _, _ => s1

/-! ### Policers (R145, R146) -/

/-- The charge length of R146: the length where it is known, otherwise the declared length. -/
def IPkt.chargeLen (k : IPkt) : Nat :=
  match k.known, k.len with
  | true, some n => n
  | _, _ =>
    match k.ps.hdrs.find? (fun h => h.kind == .ipv4 || h.kind == .ipv6) with
    | some h => if h.kind = .ipv4 then h.off + beAt k.bytes (h.off + 2) 2 else h.off + 40 + beAt k.bytes (h.off + 4) 2
    | none => k.maxFrame

/-- Tokens that a rate yields in a span of 2^-32 s units. -/
def tokensFor (rate span : Nat) : Int := ((rate * span) >>> 32 : Nat)

/-- Refills a policer's buckets up to an instant; what a full bucket cannot hold is capped (R145, R450). -/
def State.refill (s : State) (i : Nat) (u : PolicerUse) (t : Nat) : State :=
  let b := s.bucketOf i u.num.toNat
  if t ≤ b.at_ then s
  else
    let gc := tokensFor u.cir.toNat (t - b.at_)
    let gp := tokensFor u.pir.toNat (t - b.at_)
    let tc := min (b.tc + gc) (max b.tc u.cbs.toNat)
    let tp := min (b.tp + gp) (max b.tp u.pbs.toNat)
    let l := s.tokens i
    (s.setBucket i u.num.toNat ⟨tc, tp, t⟩).setTokens i
      { l with gen := l.gen + gc + gp, capped := l.capped + (b.tc + gc - tc) + (b.tp + gp - tp) }

/-- One policer of a packet: refill, colour and take, by RFC 2698; answers whether the packet is red. -/
def State.colour (s : State) (k : IPkt) (u : PolicerUse) : Nat × Option Charge × State :=
  let i := k.slice
  let s1 := s.refill i u k.ts
  let b := s1.bucketOf i u.num.toNat
  let n : Int := k.charge
  if b.tp < n then (2, none, s1)
  else
    let green := decide (n ≤ b.tc)
    let s2 := s1.setBucket i u.num.toNat { b with tp := b.tp - n, tc := if green then b.tc - n else b.tc }
    (if green then 0 else 1, some ⟨u.num.toNat, n, green, u.cbs.toNat, u.pbs.toNat⟩, s2)

/-- POLICER_COLOUR (R140, R145, R146): at most two policers colour the packet, the worse colour counting, and take tokens speculatively. A
packet that is red at a policer that drops red is dropped; another red packet goes on, having taken nothing there. -/
def policerColour (p : Nat) (us : List PolicerUse) (s : State) : State :=
  match s.pkt p with
  | none => s
  | some k0 =>
    if k0.stage ≠ .acl2 then s
    else
      let k := { k0 with charge := k0.chargeLen }
      let (drop, col, cs, s1) := (us.take 2).foldl (fun (d, col, cs, s) u =>
        if d then (d, col, cs, s)
        else
          let (c1, c, s1) := s.colour k u
          (c1 == 2 && u.redDrop, max col c1, cs ++ c.toList, s1)) (false, 0, [], s)
      let k1 := { k with charges := cs, stage := .policed, colour := col }
      if drop then s1.dropCause p k1 dcRed else s1.setPkt p k1

/-! ### Result reads (R157, R158, R177, R188, R380) -/

/-- The bytes that HASH_SEL names (R177). -/
def IPkt.hashFields (k : IPkt) (sel : Nat) : List Byte :=
  let p := k.ps
  let b := k.bytes
  if sel = 2 then ((p.hdrs.filter (fun h => h.kind == .mpls)).drop 1).take 4 |>.flatMap (fun h => beBytes 3 (beAt b h.off 3 / 16))
  else
    let h := p.hdrs.find? (fun h => h.kind == .ipv4 || h.kind == .ipv6)
    let adr := match h with
      | none => []
      | some h => if h.kind = .ipv4 then beBytes 4 (beAt b (h.off + 12) 4) ++ beBytes 4 (beAt b (h.off + 16) 4)
        else beBytes 16 (beAt b (h.off + 8) 16) ++ beBytes 16 (beAt b (h.off + 24) 16)
    if sel = 1 then adr
    else
      let pr := match h with | none => [] | some h => beBytes 1 (p.protoOf b h)
      let (sp, dp) := match h with
        | none => (0, 0)
        | some h => if p.l4Absent || p.frag.isSome then (0, 0) else l4Ports b (p.l4After h)
      adr ++ pr ++ beBytes 2 sp ++ beBytes 2 dp

/-- Resolves a result word (R157, R158, R177). -/
def State.resolve (s : State) (k : IPkt) (w : Word) : Fwd :=
  if !resultOk w then .drop
  else
    let n := w.toNat
    let nexthop (i : Nat) : Fwd := if egtKind (s.egt i) = 1 then .nh (s.egt i) else .drop
    match n >>> 28 with
    | 1 => nexthop (n % 2 ^ 20)
    | 2 =>
      let e := s.egt (n % 2 ^ 20)
      if egtKind e = 2 then nexthop (s.ecmpMember e (k.hashFields (egtBits e 97 96)) % 2 ^ 20) else .drop
    | 3 => .punt (n / 2 ^ 24 % 4 * 16384 + n / 2 ^ 10 % 2 ^ 14) (n % 256)
    | 4 => .term (n / 2 ^ 26 % 4) (n % 2 ^ 16)
    | 5 => .mcast (n % 2 ^ 20)
    | _ => .drop

/-- The punt buffer of a slice (R380). -/
def puntBuffer : Nat := 65536

/-- The frame that the next level of a TERMINATE result leaves (R157): from the first header of that level after the key's header, behind the
outer addresses where it is not Ethernet itself. -/
def IPkt.nextLevel (k : IPkt) (level : Nat) : Option (List Byte) :=
  let p := k.ps
  let b := k.bytes
  let key := if k.isBridged then p.findK .eth else p.routeHdr
  let want : HKind := match level with | 0 => .ipv4 | 1 => .ipv6 | 2 => .eth | _ => .mpls
  match key with
  | none => none
  | some h =>
    match p.hdrs.find? (fun x => x.kind == want && decide (h.off < x.off)) with
    | none => none
    | some x =>
      let body := b.drop x.off
      if level = 2 then some body
      else some ((b.drop p.ethOff).take 12 ++ beBytes 2 (match level with | 0 => 0x0800 | 1 => 0x86DD | _ => 0x8847) ++ body)

/-- The learn event of a packet (R188). -/
def State.learnOf (s : State) (k : IPkt) : Option LearnEv :=
  let o := k.ps.ethOff
  let sa := beAt k.bytes (o + 6) 6
  if k.isBridged && !k.skips && s.flag (Reg.LRN_PORT k.port) Fld.LRN_PORT_LEARN_EN && !sa.testBit 40 && sa != 0 &&
      k.srcRes != some (s.learnResult k.port) then
    some ⟨k.domain k.ps, sa, k.port, k.ts⟩
  else none

/-- The mirror copies of a packet: sessions that are enabled and name a NEXTHOP entry (R219). -/
def State.mirrorsOf (s : State) (o : AclOut) : List (BitVec 128) :=
  o.mirrors.filterMap (fun m =>
    let e := s.egt (s.fld (Reg.ACL_MIRROR m) Fld.ACL_MIRROR_NH)
    if s.flag (Reg.ACL_MIRROR m) Fld.ACL_MIRROR_EN && egtKind e == 1 then some e else none)

/-- The forwarding result of a packet at stages 96 to 111. -/
def State.forward (s : State) (k : IPkt) : Fwd :=
  match k.slow, k.frag, k.fwd with
  | some r, _, _ => (match s.slowRing k.slice with | some g => .punt g r | none => .drop)
  | none, some (f, _), _ => f
  | none, none, some f => f
  | none, none, none =>
    match k.acl.redirect, k.res with
    | some w, _ => s.resolve k w
    | none, some w => s.resolve k w
    | none, none => .drop

/-- RESULT_READ (R157, R188, R380): the next hop is read and the side-effect record completed; a drop result, a next level that is not
there and a punt that cannot be taken drop the packet. -/
def resultRead (p : Nat) (s : State) : State :=
  match s.pkt p with
  | none => s
  | some k =>
    if k.stage ≠ .policed then s
    else
      let f := s.forward k
      let k1 := { k with stage := .read, learn := s.learnOf k, mirror := s.mirrorsOf k.acl }
      match f with
      | .drop => s.dropCause p k dcFwdDrop
      | .punt g _ =>
        let used := KMap.get 0 s.ing.puntRoom k.slice
        if s.ringKind g ≠ rkRx ∨ s.ringState g ≠ rsRunning then s.dropCause p k dcFwdDrop
        else if puntBuffer < used + k.charge then (s.bump (Ctr.RING_PUNT_BUSY (g / 16384)) 1).dropCause p k dcFwdDrop
        else { s with ing := { s.ing with puntRoom := KMap.set 0 s.ing.puntRoom k.slice (used + k.charge) } }.setPkt p { k1 with fwd := some f }
      | .term l _ => if (k.nextLevel l).isNone then s.dropCause p k dcFwdDrop else s.setPkt p { k1 with fwd := some f }
      | _ => s.setPkt p { k1 with fwd := some f }

/-! ### Commit (R143, R144, R147) -/

/-- The counter ACL_CNT of a slice (R219, R234). -/
def aclCnt (i c : Nat) : Ctr := ⟨Reg.ACL_CNT_LO i c, Reg.ACL_CNT_OVF i (c / 32), c % 32⟩

/-- The frame's bytes without its internal header. -/
def IPkt.frame (k : IPkt) : List Byte := if k.hasIth then k.bytes.drop 16 else k.bytes

/-- The PTP event message of a frame that asks for one-step operation: one whose twoStepFlag is clear (R60, IEEE 1588). -/
def IPkt.oneStep (k : IPkt) : Option Nat :=
  match k.ps.findK .ptp with
  | some h => if beAt k.bytes h.off 1 % 16 < 4 ∧ !(beAt k.bytes (h.off + 6) 1).testBit 1 then some h.off else none
  | none => none

/-- The internal header of a packet (R240). -/
def IPkt.ith (k : IPkt) (encap : Option Nat) : Ith :=
  let at_ (o : Nat) : BitVec 15 := BitVec.ofNat 15 (o - k.ps.ethOff)
  { encap := encap.map (BitVec.ofNat 20), ts := BitVec.ofNat 80 k.ts, srcPort := BitVec.ofNat 8 k.port, colour := BitVec.ofNat 2 k.colour,
    hint := BitVec.ofNat 15 k.charge, oneStep := k.oneStep.map at_,
    ip := (k.ps.hdrs.find? (fun h => h.kind == .ipv4 || h.kind == .ipv6)).map (fun h => at_ h.off), ptp := k.ptp }

/-- A copy for the transit FIFO. -/
def State.copyOf (p : Nat) (k : IPkt) (dest : TDest) (encap : Option Nat) (room : Nat) : TCopy :=
  { pkt := p, dest := dest, ith := k.ith encap, data := k.frame, tail := k.tail, room := room, cls := 0, prog := none }

/-- A copy to a NEXTHOP entry (R176, R242). -/
def State.nhCopy (p : Nat) (k : IPkt) (e : BitVec 128) (room : Nat) : TCopy :=
  State.copyOf p k (.uni (egtBits e 123 113) (egtBits e 112 94)) (if egtBits e 73 73 = 1 then some (egtBits e 93 74) else none) room

/-- Hands a learning event to the engine, or to the learning hold while the frame still arrives (R147). -/
def State.learnCommit (s : State) (p : Nat) (k : IPkt) : State :=
  match k.learn with
  | none => s
  | some e =>
    if k.tail = some true then s.learnEnqueue e
    else
      let l := KMap.get [] s.ing.learnHold k.slice
      if 64 ≤ l.length then s.bump (Ctr.FWH_LEARN_DISCARD k.slice) 1
      else { s with ing := { s.ing with learnHold := KMap.set [] s.ing.learnHold k.slice (l ++ [(p, e)]) } }

/-- FRAGMENT_INSERT (R131): a first fragment writes or refreshes its entry. -/
def State.fragInsert (s : State) (k : IPkt) : State :=
  match k.ps.frag, k.slow, k.fwd with
  | some (key, true), none, some f =>
    if !s.flag Reg.PRS_FRAG_CFG Fld.PRS_FRAG_CFG_EN then s
    else
      let life := expSpanIn (-20) 2 (s.fld Reg.PRS_FRAG_CFG Fld.PRS_FRAG_CFG_LIFE)
      let e : FragEnt := ⟨key, f, k.acl, s.mono + life⟩
      let set (x : FragKey) : BitVec 14 := Config.fragSet x.v6 x.src x.dst x.proto x.ident
      if s.ing.frags.any (fun x => x.key == key) then
        { s with ing := { s.ing with frags := s.ing.frags.map (fun (x : FragEnt) => if x.key = key then e else x) } } |>.bump Ctr.PRS_FRAG_REFRESH 1
      else if 4 ≤ (s.ing.frags.filter (fun (x : FragEnt) => set x.key == set key)).length then s.bump Ctr.PRS_FRAG_FULL 1
      else { s with ing := { s.ing with frags := s.ing.frags ++ [e] } } |>.bump Ctr.PRS_FRAG_INSERT 1
  | _, _, _ => s

/-- PUNT_START (R380): a committed punt starts on its receive ring, behind what the ring is writing. -/
def State.puntStart (s : State) (p : Nat) (k : IPkt) (g reason : Nat) : State :=
  let r := s.ring g
  s.setRing g { r with rx := r.rx ++ [{ punt := some p, eg := none, used := [], descs := [], rest := k.frame, reason := reason, source := k.port, instant := k.ts,
                                         dry := none, whole := k.tail == some true, endSt := none, slice := k.slice, room := k.charge, cut := false }] }

/-- COMMIT (R140, R143, R144, R250): the lease is tested, then the whole record applies at once. -/
def commit (p : Nat) (s : State) : State :=
  match s.pkt p with
  | none => s
  | some k =>
    if k.stage ≠ .read then s
    else if k.line && s.leaseOver then s.dropCause p k dcLease
    else
      let i := k.slice
      let copies := (match k.fwd with
        | some (.nh e) => [State.nhCopy p k e k.reserved]
        | some (.mcast g) => [State.copyOf p k (.mc g) none k.reserved]
        | _ => []) ++ k.mirror.map (fun e => State.nhCopy p k e 0)
      let s1 := s.bump (Ctr.FWH_COMMIT i) 1
      let s2 := if k.line then s1.bump (Ctr.PORT_RX_COMMIT_FRAMES (k.port / 8) (k.port % 8)) 1 else s1
      let s3 := k.acl.counts.foldl (fun s c => s.bump (aclCnt i c) 1) s2
      let t := s3.tokens i
      let used := (k.charges.map (fun c => if c.committed then 2 * c.amount else c.amount)).sum
      let s4 := s3.setTokens i { t with used := t.used + used }
      let s5 := (s4.learnCommit p k).fragInsert k
      let s6 := match k.fwd with | some (.punt g r) => s5.puntStart p k g r | _ => s5
      let holdsRoom := match k.fwd with | some (.term _ _) => true | some (.esp _) => true | _ => false
      let s7 := { s6 with
        ing := { s6.ing with transit := KMap.set [] s6.ing.transit i (KMap.get [] s6.ing.transit i ++ copies) }
        led := KMap.set 0 s6.led (ldIngress * 2 ^ 24 + i * 16) (KMap.get 0 s6.led (ldIngress * 2 ^ 24 + i * 16) + copies.length) }
      (s7.setPkt p { k with stage := .committed, reserved := if holdsRoom then k.reserved else 0 }).demandAfter s

/-- FRAGMENT_EXPIRE (R131): the entries whose window has closed are freed. -/
def fragmentExpire (s : State) : State :=
  let dead := s.ing.frags.filter (fun f => decide (f.close ≤ s.mono))
  if dead.isEmpty then s
  else { s with ing := { s.ing with frags := s.ing.frags.filter (fun f => decide (s.mono < f.close)) } } |>.bump Ctr.PRS_FRAG_EXPIRE dead.length

/-- PAT_INSPECT_START (R227, R228): a committed packet whose ACL outcome selects inspection takes a context or waits. -/
def patInspectStart (i p : Nat) (s : State) : State :=
  match s.pkt p with
  | none => s
  | some k =>
    match k.acl.inspect with
    | none => s
    | some set =>
      let ok := k.slice == i && (k.stage == .committed || k.stage == .handed) && !k.aclDone && !k.ps.horizon &&
        s.flag Reg.PAT_CFG Fld.PAT_CFG_EN && s.flag (Reg.PAT_SET_CFG set) Fld.PAT_SET_CFG_EN
      if !ok then s
      else
        let x : PatCtx :=
          { pkt := p, set := set, flow := s.flowId (s.keyCtx k), data := k.bytes.drop k.ps.off, whole := k.tail.isSome, tail := k.tail,
            started := false, gen := 0, bank0 := 0, banks := 0, start := 0, st := 0, pos := 0, hit := none, at_ := 0 }
        (s.setPkt p { k with aclDone := true }).patAdmit i x

/-! ### Leaving the slice (R136, R150) -/

/-- The recirculated packet that a TERMINATE result makes (R157): its internal header names the next level. -/
def IPkt.again (k : IPkt) (level num : Nat) (frame : List Byte) : IPkt :=
  { (IPkt.new k.slice k.port (beBytes 16 (Config.ithBytes level num).toNat ++ frame) (some (frame.length + 4)) k.ts k.maxFrame) with
      recirc := true, hasIth := true, term := some (level, num) }

/-- A packet that has left the slice with a good tail and is bound for a second pass re-enters (R157, R405). -/
def State.afterTail (s : State) (p : Nat) (k : IPkt) : State :=
  if !k.left || k.tail != some true then s
  else
    match k.fwd with
    | some (.term l n) =>
      match k.nextLevel l with
      | some f => ((s.delPkt p).enqueue (k.again l n f)).2
      | none => s.delPkt p
    | some (.esp _) => s
    | _ => s.delPkt p

/-- TRANSIT_HANDOFF (R136, R150): after stage 143 the packet is handed to the die-to-die link and leaves its epoch's in-flight count. -/
def transitHandoff (p : Nat) (s : State) : State :=
  match s.pkt p with
  | none => s
  | some k =>
    if k.stage ≠ .committed then s
    else
      let k1 := { k with stage := .handed, left := true }
      (s.setPkt p k1).afterTail p k1

/-! ### The tail (R79, R126, R143, R146, R147) -/

/-- The counter of a receive error's cause. -/
def rxCtr (port : Nat) : RxErr → Ctr
  | .fcs => Ctr.PORT_RX_FCS_ERR (port / 8) (port % 8)
  | .mac => Ctr.PORT_RX_MAC_ERR (port / 8) (port % 8)
  | .preAsm => Ctr.PORT_RX_PRE_ASM_ERR (port / 8) (port % 8)
  | .oversize => Ctr.PORT_RX_OVERSIZE (port / 8) (port % 8)
  | .icv => Ctr.ICR_RX_ICV_FAIL

/-- Whether a packet has passed stage 112. -/
def IPkt.isCommitted (k : IPkt) : Bool := k.stage == .committed || k.stage == .handed

/-- A receive error's status reaches the slice (R78): the packet is dropped before commit, or its tail will be marked bad. -/
def State.rxError (s : State) (p : Nat) (k : IPkt) (e : RxErr) : State :=
  if !k.isCommitted then s.dropPkt p k (rxCtr k.port e)
  else if k.err.isSome then s
  else
    ((s.setPkt p { k with err := some e }).bump (rxCtr k.port e) 1).bump (Ctr.PORT_RX_TAIL_BAD (k.port / 8) (k.port % 8)) 1

/-- The whole frame, known at its tail, reaches its copies in the transit FIFO and its punt. A punt that proves longer than its charge takes
free room of the punt buffer for the excess, or ends (R148, R380). -/
def State.spread (s : State) (p : Nat) (k : IPkt) (good : Bool) : State :=
  let i := k.slice
  let l := (KMap.get [] s.ing.transit i).map (fun c => if c.pkt = p then { c with data := k.frame, tail := some good } else c)
  let isPunt := s.rings.l.any (fun (_, r) => r.rx.any (fun x => x.punt == some p))
  let excess := if isPunt then k.frame.length - k.charge else 0
  let used := KMap.get 0 s.ing.puntRoom i
  let fits := decide (used + excess ≤ puntBuffer)
  let fix (x : RxWrite) : RxWrite :=
    if x.punt = some p then
      let done := (x.used.map (·.written)).sum
      { x with rest := k.frame.drop done, whole := true, room := if fits then x.room + excess else x.room,
               endSt := if !good then some 0x06 else if fits then x.endSt else some 0x05 }
    else x
  { s with ing := { s.ing with transit := KMap.set [] s.ing.transit i l,
                               puntRoom := if fits then KMap.set 0 s.ing.puntRoom i (used + excess) else s.ing.puntRoom },
           rings := ⟨s.rings.l.map (fun (g, r) => (g, { r with rx := r.rx.map fix }))⟩ }

/-- LEARN_HOLD_RELEASE (R147): a good tail releases the held event, a bad tail discards it. -/
def State.learnTail (s : State) (p : Nat) (k : IPkt) (good : Bool) : State :=
  let l := KMap.get [] s.ing.learnHold k.slice
  match l.find? (fun x => x.1 == p) with
  | none => s
  | some (_, e) =>
    let s1 := { s with ing := { s.ing with learnHold := KMap.set [] s.ing.learnHold k.slice (l.filter (fun x => x.1 != p)) } }
    if good then s1.learnEnqueue e else s1.bump (Ctr.FWH_LEARN_DISCARD k.slice) 1

/-- The tail of a committed packet: octets, settlement, learning, inspection, copies and punt. -/
def State.tailCommitted (s : State) (p : Nat) (k : IPkt) (len : Nat) (good : Bool) : State :=
  let j := k.port
  let s1 := if k.line then s.bump (Ctr.PORT_RX_COMMIT_OCTETS (j / 8) (j % 8)) len else s
  let s2 := (s1.settle k len good).learnTail p k good
  let s3 := s2.patTail p (k.bytes.drop k.ps.off) good
  let s4 := (s3.spread p k good).demandAfter s3
  let k1 := { k with tail := some good, len := some len }
  if good then (s4.setPkt p k1).afterTail p k1
  else if k.left then s4.delPkt p
  else s4.setPkt p k1

/-- The classes that waited for the tail: the first header whose claim exceeds the frame (R126). -/
def IPkt.tailClass (k : IPkt) : Option Nat := (k.ps.waits.find? (fun w => decide (k.bytes.length < w.2))).map (·.1)

/-- A class decided at the tail (R126). Before commit its action is that of R125; after commit DROP and PUNT mark the tail bad. -/
def State.tailClassify (s : State) (p : Nat) (k : IPkt) (len : Nat) : State :=
  match k.parse.bind (fun _ => k.tailClass) with
  | none => if k.isCommitted then s.tailCommitted p k len true else s.setPkt p { k with tail := some true, len := some len }
  | some c =>
    let i := k.slice
    let a := s.malAction i c
    let s1 := s.bump (Ctr.PRS_MAL_CNT i c) 1
    let fwdOk := a == 2 && (k.isCommitted || k.ps.keyComplete k.isBridged)
    if fwdOk then (if k.isCommitted then s1.tailCommitted p k len true else s1.setPkt p { k with tail := some true, len := some len })
    else if k.isCommitted then
      (s1.bump (Ctr.PORT_RX_TAIL_BAD (k.port / 8) (k.port % 8)) 1).tailCommitted p { k with err := some .mac } len false
    else if a = 0 then s1.forget p k
    else
      let k1 := { k with tail := some true, len := some len, fwd := none, learn := none, mirror := [],
                         stage := if k.stage = .read then .policed else k.stage }
      s1.toSlow p k1 (0x20 + c)

/-- The rest of a frame has arrived (R79): `all` are its bytes to the last before the FCS position, `len` its length; a receive error known
with the tail governs first, and of several the one whose status came first. -/
def State.tailArrives (s : State) (p : Nat) (k : IPkt) (all : List Byte) (len : Nat) (e : Option RxErr) : State :=
  let k1 := { k with bytes := all }
  match k.err, e with
  | some _, _ => s.tailCommitted p k1 len false
  | none, some x =>
    let s1 := s.rxError p k1 x
    if k.isCommitted then s1.tailCommitted p { k1 with err := some x } len false else s1
  | none, none => s.tailClassify p k1 len

/-! ### ESP receive (R405) -/

/-- Replaces the payload of an IP packet behind its addresses: the header's length, protocol and checksum follow. -/
def csumOf (h : List Byte) : Nat :=
  let t := (List.range (h.length / 2)).foldl (fun a i => a + beAt h (2 * i) 2) 0
  let f := t % 65535
  if f = 0 ∧ t ≠ 0 then 0 else 65535 - f

/-- Overwrites bytes from an offset. -/
def splice (b : List Byte) (o : Nat) (x : List Byte) : List Byte := b.take o ++ x ++ b.drop (o + x.length)

/-- An IPv4 header with its total length, protocol and checksum set. -/
def v4Fix (h : List Byte) (total proto : Nat) : List Byte :=
  let h1 := splice (splice (splice h 2 (beBytes 2 total)) 9 (beBytes 1 proto)) 10 [0, 0]
  splice h1 10 (beBytes 2 (csumOf h1))

/-- ESP_RX_CHECK (R405): with the tail present the ICV and the replay window are checked; the packet re-enters with ESP removed, in tunnel
mode with the outer header too. -/
def espRxCheck (p : Nat) (s : State) : State :=
  match s.pkt p with
  | none => s
  | some k =>
    match k.fwd, k.left, k.tail, k.ps.l3At false, k.ps.findK .esp with
    | some (.esp n), true, some true, some h, some e =>
      let idx := saIdx true n
      let a := s.sa idx
      let b := k.bytes
      let tot := if h.kind = .ipv4 then h.off + beAt b (h.off + 2) 2 else h.off + 40 + beAt b (h.off + 4) 2
      let esp := (b.take tot).drop e.off
      let pn := a.fullPn (beAt esp 4 4)
      let ct := (esp.drop 16).take (esp.length - 32)
      let icv := esp.drop (esp.length - 16)
      let aad := if a.wide then beBytes 4 (beAt esp 0 4) ++ beBytes 8 pn else esp.take 8
      let nonce := a.espNonce (beAt esp 8 8)
      if esp.length < 32 || icv != gcmTagBytes a.engineKey nonce aad ct then (s.delPkt p).bump Ctr.ICR_RX_ICV_FAIL 1
      else if !a.espFresh pn then (s.delPkt p).bump Ctr.ICR_RX_REPLAY 1
      else
        let pl := gcmXor a.engineKey nonce ct
        let m := pl.length
        let nh := beAt pl (m - 1) 1
        let data := pl.take (m - 2 - beAt pl (m - 2) 1)
        let o := k.ps.ethOff
        let mac := (b.drop o).take 12
        let (v6, frame) :=
          if a.tunnel then (nh == 41, mac ++ beBytes 2 (if nh = 41 then 0x86DD else 0x0800) ++ data)
          else if h.kind = .ipv4 then
            (false, (b.take h.off).drop o ++ v4Fix ((b.take e.off).drop h.off) (e.off - h.off + data.length) nh ++ data)
          else
            let ip := (b.take e.off).drop h.off
            let ip1 := splice ip 4 (beBytes 2 (e.off - h.off - 40 + data.length))
            let at_ := match (k.ps.hdrs.filter (fun x => x.kind == .ext && x.level == h.level)).getLast? with
              | some x => x.off - h.off
              | none => 6
            (true, (b.take h.off).drop o ++ splice ip1 at_ (beBytes 1 nh) ++ data)
        let s1 := (s.delPkt p).setSa idx (a.accept pn)
        (s1.enqueue (k.again (if v6 then 1 else 0) (s.tableOf k k.ps) frame)).2
    | _, _, _, _, _ => s

/-- SLICE_ENTRY. -/
def execSliceEntry (i : Fin 16) (s : State) : Host.Outcome State Fault Refusal := answer s (sliceEntry i.val s)
/-- KEY_LAUNCH. -/
def execKeyLaunch (p : BitVec 32) (s : State) : Host.Outcome State Fault Refusal := answer s (keyLaunch p.toNat s)
/-- PARSE_HEADERS. -/
def execParseHeaders (p : BitVec 32) (s : State) : Host.Outcome State Fault Refusal := answer s (parseHeaders p.toNat s)
/-- LAYOUT_COMPARE. -/
def execLayoutCompare (p : BitVec 32) (s : State) : Host.Outcome State Fault Refusal := answer s (layoutCompare p.toNat s)
/-- RESPIN. -/
def execRespin (p : BitVec 32) (s : State) : Host.Outcome State Fault Refusal := answer s (respin p.toNat s)
/-- RESULT_JOIN. -/
def execResultJoin (p : BitVec 32) (s : State) : Host.Outcome State Fault Refusal := answer s (resultJoin p.toNat s)
/-- ACL_STAGE1; `bad` names rows that the search slots hit falsely. -/
def execAclStage1 (p : BitVec 32) (bad : List (BitVec 15)) (s : State) : Host.Outcome State Fault Refusal :=
  answer s (aclStage1 p.toNat (bad.map (·.toNat)) s)
/-- ACL_STAGE2. -/
def execAclStage2 (p : BitVec 32) (bad : List (BitVec 15)) (s : State) : Host.Outcome State Fault Refusal :=
  answer s (aclStage2 p.toNat (bad.map (·.toNat)) s)
/-- POLICER_COLOUR. -/
def execPolicerColour (p : BitVec 32) (us : List PolicerUse) (s : State) : Host.Outcome State Fault Refusal :=
  answer s (policerColour p.toNat us s)
/-- RESULT_READ. -/
def execResultRead (p : BitVec 32) (s : State) : Host.Outcome State Fault Refusal := answer s (resultRead p.toNat s)
/-- COMMIT. -/
def execCommit (p : BitVec 32) (s : State) : Host.Outcome State Fault Refusal := answer s (commit p.toNat s)
/-- FRAGMENT_EXPIRE. -/
def execFragmentExpire (s : State) : Host.Outcome State Fault Refusal := answer s (fragmentExpire s)
/-- PAT_INSPECT_START. -/
def execPatInspectStart (i : Fin 16) (p : BitVec 32) (s : State) : Host.Outcome State Fault Refusal :=
  answer s (patInspectStart i.val p.toNat s)
/-- TRANSIT_HANDOFF. -/
def execTransitHandoff (p : BitVec 32) (s : State) : Host.Outcome State Fault Refusal := answer s (transitHandoff p.toNat s)
/-- ESP_RX_CHECK. -/
def execEspRxCheck (p : BitVec 32) (s : State) : Host.Outcome State Fault Refusal := answer s (espRxCheck p.toNat s)

end Sys2Proof.Machine
end

