-- ==== Sys2Proof/Machine/Port.lean ====
section
/-! DEFINITION. The line ports (R69 to R90): configuration, link state, received frames, pause, preemption and the end of a
transmission. -/

namespace Sys2Proof.Machine

/-! ### Link state and transmission (R70, R72, R73, R86) -/

def State.txNow (s : State) (p : Nat) (pre : Bool) : Option TxNow := KMap.get none s.port.tx (2 * p + pre.toNat)
def State.setTx (s : State) (p : Nat) (pre : Bool) (x : Option TxNow) : State :=
  { s with port := { s.port with tx := KMap.set none s.port.tx (2 * p + pre.toNat) x } }

/-- Cuts a frame in transmission: it ends with an error and counts in PORT_TX_ABORT (R70, R73). -/
def State.cutTx1 (s : State) (p : Nat) (pre : Bool) : State :=
  match s.txNow p pre with
  | some _ => (s.setTx p pre none).bump (Ctr.PORT_TX_ABORT (p / 8) (p % 8)) 1
  | none => s

def State.cutTx (s : State) (p : Nat) : State := (s.cutTx1 p false).cutTx1 p true

def preCfg (p : Nat) : Nat := Reg.PORT_PRE_CFG (p / 8) (p % 8)
def preStatus (p : Nat) : Nat := Reg.PORT_PRE_STATUS (p / 8) (p % 8)

/-- The verify states of R86. -/
def vfInit : Nat := 0
def vfVerifying : Nat := 1
def vfSucceeded : Nat := 2
def vfFailed : Nat := 3
def vfDisabled : Nat := 4

def State.verify (s : State) (p : Nat) : Nat := s.fld (preStatus p) Fld.PORT_PRE_STATUS_VERIFY
def State.setVerify (s : State) (p v : Nat) : State := s.setFld (preStatus p) Fld.PORT_PRE_STATUS_VERIFY v
def State.preEn (s : State) (p : Nat) : Bool := s.flag (portCfg p) Fld.PORT_CFG_PREEMPT_EN

/-- Preemption is active only in SUCCEEDED (R86). -/
def State.preActive (s : State) (p : Nat) : Bool := s.preEn p && s.verify p == vfSucceeded

/-- Starts verification over: SUCCEEDED at once with VERIFY_DIS, otherwise INIT with no attempt made (R86). -/
def State.restartVerify (s : State) (p : Nat) : State :=
  let s1 := { s with port := { s.port with tries := KMap.set 0 s.port.tries p 0, due := KMap.set 0 s.port.due p 0 } }
  if !s1.preEn p then s1.setVerify p vfDisabled
  else s1.setVerify p (if s1.flag (preCfg p) Fld.PORT_PRE_CFG_VERIFY_DIS then vfSucceeded else vfInit)

/-- Sets LINK_UP (R72): each change sets LINK_EVT and raises PORT_LINK; a link that goes down cuts the frames in transmission (R73) and
returns verification to INIT (R86). -/
def State.linkSet (s : State) (p : Nat) (up : Bool) : State :=
  if s.linkUp p == up then s
  else
    let s1 := (s.setFlag (portStatus p) Fld.PORT_STATUS_LINK_UP up).setFlag (portStatus p) Fld.PORT_STATUS_LINK_EVT true
    let s2 := s1.ownerEvent 0x0101 1 (p / 8) p (beBytes 1 up.toNat)
    if up then (if s2.preEn p && s2.flag (preCfg p) Fld.PORT_PRE_CFG_VERIFY_DIS then s2.setVerify p vfSucceeded else s2)
    else
      let s3 := s2.cutTx p
      if s3.preEn p then
        { s3 with port := { s3.port with tries := KMap.set 0 s3.port.tries p 0, due := KMap.set 0 s3.port.due p 0 } }.setVerify p vfInit
      else s3

/-- PORT_LINK (R72, R109): the lane, FEC and PCS status of a port; an OTN port's link state follows from its framer. -/
def portLink (p : Nat) (l : LinkIn) (s : State) : State :=
  if !s.fdieUp then s
  else State.rclkNote (
    let en := s.portEn p
    let s1 := s.setFld (Reg.PORT_GROUP_STATUS (p / 8)) Fld.PORT_GROUP_STATUS_LANE_SIG l.sig.toNat
    let s2 := s1.setFlag (portStatus p) Fld.PORT_STATUS_FEC_LOCK (en && l.fec)
    if s2.portOtn p then s2
    else
      (((s2.setFlag (portStatus p) Fld.PORT_STATUS_PCS_LOCK (en && l.pcs)).setFlag (portStatus p) Fld.PORT_STATUS_LOCAL_FAULT
        l.localFault).setFlag (portStatus p) Fld.PORT_STATUS_REMOTE_FAULT l.remoteFault).linkSet p
        (en && l.pcs && l.fec && !l.localFault && !l.remoteFault))

/-! ### Pause (R84) -/

/-- The ingress timestamp of a line frame: the instant of its first byte with the board's correction, in units of 2^-36 s, truncated to
2^-32 s (R58, R59, R62). -/
def State.rxTs (s : State) (n inst : Nat) : Nat :=
  let adj := (BitVec.ofNat 16 (s.fld (Reg.TIME_TS_ADJ n) Fld.TIME_TS_ADJ_RX)).toInt
  (((inst * 16 : Nat) : Int) + adj).toNat / 16

/-- Whether a frame is a PAUSE or PFC frame. -/
def isPause (b : List Byte) : Bool := beAt b 12 2 == 0x8808 && (beAt b 14 2 == 0x0001 || beAt b 14 2 == 0x0101)

/-- Pauses a class, or with c = 8 the port, for q quanta from a receive timestamp; 0 ends the pause. -/
def State.pauseSet (s : State) (p c q ts : Nat) : State :=
  { s with port := { s.port with
      pause := KMap.set 0 s.port.pause (9 * p + c) (if q = 0 then 0 else s.mono + ts + s.bitTime p (q * 512) - s.now) } }

/-- A PAUSE or PFC frame is consumed: counted, and acted on with PAUSE_RX_EN. -/
def State.pauseFrame (s : State) (p : Nat) (b : List Byte) (ts : Nat) : State :=
  let s1 := s.bump (Ctr.PORT_RX_PAUSE (p / 8) (p % 8)) 1
  if !s1.flag (portCfg p) Fld.PORT_CFG_PAUSE_RX_EN then s1
  else if beAt b 14 2 = 1 then s1.pauseSet p 8 (beAt b 16 2) ts
  else (List.range 8).foldl (fun s c =>
    if (beAt b 16 2).testBit c then s.pauseSet p c (beAt b (18 + 2 * c) 2) ts else s) s1

/-- Whether scheduler output of a class to a port is paused now. -/
def State.paused (s : State) (p c : Nat) : Bool :=
  decide (s.mono < KMap.get 0 s.port.pause (9 * p + c)) || decide (s.mono < KMap.get 0 s.port.pause (9 * p + 8))

/-- PAUSE_END (R84): the window of a pause has closed. -/
def pauseEnd (p c : Nat) (s : State) : State :=
  if KMap.get 0 s.port.pause (9 * p + c) ≤ s.mono then
    { s with port := { s.port with pause := KMap.set 0 s.port.pause (9 * p + c) 0 } }
  else s

/-! ### Received frames (R76 to R83, R403) -/

/-- Whether a valid station-address entry of a port equals an address (R82). -/
def State.staMatch (s : State) (p da : Nat) : Bool :=
  (List.range 8).any (fun m =>
    let hi := Reg.PORT_STA_ADDR_HI (p / 8) (p % 8) m
    s.flag hi Fld.PORT_STA_ADDR_HI_VALID &&
      s.fld hi Fld.PORT_STA_ADDR_HI_ADDR * 2 ^ 32 + (s.reg (Reg.PORT_STA_ADDR_LO (p / 8) (p % 8) m)).toNat == da)

/-- The station-address filter (R82): none for a miss that drops, otherwise whether the frame is bridged. -/
def State.station (s : State) (p da : Nat) : Option Bool :=
  let l2 := s.flag (portCfg p) Fld.PORT_CFG_L2_EN
  if da.testBit 40 then some l2
  else if s.staMatch p da then some false
  else if l2 then some true
  else none

/-- The 32 KiB in which frames of a port wait for a fenced slice (R513). -/
def fenceBuffer : Nat := 32768

/-- Bytes of a port's frames that wait for slice entry. -/
def State.portWaiting (s : State) (p : Nat) : Nat :=
  ((s.allPkts.filter (fun x => x.2.port == p && x.2.line && x.2.stage == .queued)).map (fun x => x.2.bytes.length)).sum

/-- What a port hands over: source port, preemptable or not, bytes without FCS where whole, length where known, timestamp. -/
structure RxFrame where
  p : Nat
  pre : Bool
  data : List Byte
  whole : Bool
  len : Option Nat
  ts : Nat
  maxFrame : Nat
  sec : Option SecRx
  deriving DecidableEq, Repr

/-- The last steps of the hand-off: the station-address filter, a fenced slice, and the slice's queue (R77, R82, R513). -/
def State.toSlice (s : State) (f : RxFrame) : State :=
  let i := f.p / 8
  match s.station f.p (beAt f.data 0 6) with
  | none => s.bump (Ctr.PORT_RX_DA_MISS i (f.p % 8)) 1
  | some br =>
    let st := KMap.get 0 s.ing.fence i
    if st = 3 ∨ (st ≠ 0 ∧ fenceBuffer < s.portWaiting f.p + f.data.length) then s.bump (Ctr.PWR_FENCE_DROP i) 1
    else
      let k : IPkt := { (IPkt.new i f.p f.data f.len f.ts f.maxFrame) with
        line := true, pre := f.pre, bridged := br, sec := f.sec, tail := if f.whole then some true else none }
      let (id, s1) := s.enqueue k
      if f.whole then s1
      else { s1 with ing := { s1.ing with cur := KMap.set 0 s1.ing.cur (2 * f.p + f.pre.toNat) (id + 1) } }

/-- MACsec receive ahead of the slice (R403), then the hand-off. `f.data` holds what arrived, without its FCS where whole. -/
def State.secIngest (s : State) (f : RxFrame) : State :=
  match s.secMatch f.p f.data with
  | .clear => s.toSlice f
  | .noSa => s.bump Ctr.ICR_RX_NOSA 1
  | .replay => s.bump Ctr.ICR_RX_REPLAY 1
  | .untagged drop => let s1 := s.bump Ctr.ICR_RX_UNTAGGED 1; if drop then s1 else s1.toSlice f
  | .secure x =>
    if f.whole then
      let (d, ok) := x.finish
      if ok then (s.secAccept x).toSlice { f with data := x.aad.take 12 ++ d } else s.bump Ctr.ICR_RX_ICV_FAIL 1
    else s.toSlice { f with data := x.aad.take 12 ++ x.plain x.raw, sec := some x }

def macErr : MacErr → RxErr
  | .fcs => .fcs
  | .mac => .mac

/-- A received Ethernet frame of which the first 320 bytes, or all, are held (R76 to R78, R84, R403): a runt, a frame whose error is
known and a pause frame never reach the slice. -/
def State.handoff (s : State) (p : Nat) (pre : Bool) (f : RxHead) (maxFrame : Nat) (e : Option RxErr) : State :=
  let b := f.data
  let ts := s.rxTs p f.inst.toNat
  if f.whole && decide (b.length < 64) then s.bump (Ctr.PORT_RX_RUNT (p / 8) (p % 8)) 1
  else
    match e with
    | some x => s.bump (rxCtr p x) 1
    | none =>
      if f.whole && isPause b then s.pauseFrame p b ts
      else
        s.secIngest { p := p, pre := pre, data := if f.whole then b.take (b.length - 4) else b, whole := f.whole,
                      len := if f.whole then some b.length else none, ts := ts, maxFrame := maxFrame, sec := none }

/-- Whether a port receives frames of its MAC. -/
def State.macOn (s : State) (p : Nat) : Bool := s.fdieUp && s.portEn p && !s.portOtn p

/-- FRAME_HANDOFF (R77). -/
def frameHandoff (p : Nat) (f : RxHead) (s : State) : State :=
  if s.macOn p then s.handoff p false f (s.maxFrame p) (f.err.map macErr) else s

/-- PAUSE_FRAME_RX (R84): a whole, good PAUSE or PFC frame is consumed. -/
def pauseFrameRx (p : Nat) (f : RxHead) (s : State) : State :=
  if s.macOn p && f.whole && f.err.isNone && decide (64 ≤ f.data.length) && isPause f.data then
    s.pauseFrame p f.data (s.rxTs p f.inst.toNat)
  else s

/-- The packet that a port is receiving. -/
def State.curPkt (s : State) (p : Nat) (pre : Bool) : Option (Nat × IPkt) :=
  match KMap.get 0 s.ing.cur (2 * p + pre.toNat) with
  | 0 => none
  | n + 1 => (s.pkt n).map (fun k => (n, k))

/-- The bytes of a frame as they arrived. -/
def IPkt.arrived (k : IPkt) : List Byte := match k.sec with | some x => x.aad ++ x.raw | none => k.bytes

def State.endRx (s : State) (p : Nat) (pre : Bool) : State :=
  { s with ing := { s.ing with cur := KMap.set 0 s.ing.cur (2 * p + pre.toNat) 0 } }

/-- The rest of a frame in reception: with more than MAX_FRAME bytes it ends there as oversize; its last four bytes stand in the FCS
position (R79). -/
def State.rxTail (s : State) (p : Nat) (pre : Bool) (rest : List Byte) (e : Option RxErr) : State :=
  match s.curPkt p pre with
  | none => s
  | some (n, k) =>
    let all := k.arrived ++ rest
    let isOver := decide (k.maxFrame < all.length)
    let fr := if isOver then all.take k.maxFrame else all
    let e1 := if isOver then some RxErr.oversize else e
    let body := fr.take (fr.length - 4)
    let s1 := s.endRx p pre
    match k.sec with
    | none => s1.tailArrives n k body fr.length e1
    | some x =>
      let x1 := { x with raw := body.drop x.aad.length }
      let (d, ok) := x1.finish
      let e2 := match e1 with | some a => some a | none => if ok then none else some RxErr.icv
      let s2 := if e2.isNone && k.err.isNone then s1.secAccept x1 else s1
      s2.tailArrives n k (x.aad.take 12 ++ d) fr.length e2

/-- FRAME_TAIL (R79). -/
def frameTail (p : Nat) (pre : Bool) (rest : List Byte) (e : Option MacErr) (s : State) : State :=
  if s.fdieUp then s.rxTail p pre rest (e.map macErr) else s

/-- OVERSIZE_CUT (R79): byte MAX_FRAME + 1 has arrived. -/
def oversizeCut (p : Nat) (pre : Bool) (rest : List Byte) (s : State) : State :=
  match s.curPkt p pre with
  | none => s
  | some (_, k) => if s.fdieUp && decide (k.maxFrame < k.arrived.length + rest.length) then s.rxTail p pre rest none else s

/-- RX_ERROR_STATUS (R78): an error found while a frame is in reception reaches the slice. -/
def rxErrorStatus (p : Nat) (pre : Bool) (e : MacErr) (s : State) : State :=
  match s.curPkt p pre with
  | none => s
  | some (n, k) => if s.fdieUp then s.rxError n k (macErr e) else s

/-! ### Preemption (R85 to R88) -/

def State.preRx (s : State) (p : Nat) : Option PreRx := KMap.get none s.ing.pre p
def State.setPreRx (s : State) (p : Nat) (x : Option PreRx) : State := { s with ing := { s.ing with pre := KMap.set none s.ing.pre p x } }

/-- An assembly error ends the frame under reassembly: it counts once, dropped before commit or with a bad tail (R78, R88). -/
def State.preFail (s : State) (p : Nat) (x : PreRx) (e : RxErr) : State :=
  let s1 := s.setPreRx p (some { x with failed := true })
  if x.failed then s1
  else if x.handed then s1.rxTail p true (x.data.drop 320) (some e)
  else if e = .mac ∧ x.data.length < 64 then s1.bump (Ctr.PORT_RX_RUNT (p / 8) (p % 8)) 1
  else s1.bump (rxCtr p e) 1

/-- The bytes reassembled so far go to the slice once 320 are held or the frame is whole (R77, R88). -/
def State.preHand (s : State) (p : Nat) (x : PreRx) (last : Bool) (e : Option RxErr) : State :=
  let s1 := s.setPreRx p (if last then none else some x)
  let small := last && decide (x.data.length ≤ 320)
  let s2 :=
    if x.handed || (!last && decide (x.data.length < 320)) then s1
    else s1.handoff p true ⟨if small then x.data else x.data.take 320, small, BitVec.ofNat 80 x.at_, none⟩ x.maxFrame
      (if small then e else none)
  let s3 := if last then s2 else s2.setPreRx p (some { x with handed := decide (320 ≤ x.data.length) })
  if last && !small then s3.rxTail p true (x.data.drop 320) e
  else if !last && decide (320 ≤ x.data.length ∧ x.maxFrame < x.data.length) then
    (s3.setPreRx p (some { x with handed := true, failed := true })).rxTail p true (x.data.drop 320) none
  else s3

/-- MPACKET_RX (R88). -/
def mpacketRx (p : Nat) (f : MFrag) (s : State) : State :=
  if !s.macOn p then s
  else if !s.preActive p then s.bump (Ctr.PORT_RX_PRE_SMD_ERR (p / 8) (p % 8)) 1
  else
    let s1 := s.bump (Ctr.PORT_RX_PRE_FRAG (p / 8) (p % 8)) 1
    let fresh : PreRx := { frame := f.frame.toNat, next := 0, data := f.data, at_ := f.inst.toNat, handed := false,
                           maxFrame := s.maxFrame p, failed := false }
    let old := s1.preRx p
    let (x, s2) : PreRx × State :=
      if f.start then
        (fresh, match old with | some y => s1.preFail p y .preAsm | none => s1)
      else
        match old with
        | none => let y := { fresh with failed := true }; (y, s1.bump (rxCtr p .preAsm) 1)
        | some y =>
          if y.failed then (y, s1)
          else if y.frame ≠ f.frame.toNat ∨ y.next ≠ f.count.toNat then ({ y with failed := true }, s1.preFail p y .preAsm)
          else ({ y with next := (y.next + 1) % 4, data := y.data ++ f.data }, s1)
    if x.failed then s2.setPreRx p (if f.last then none else some x)
    else if !f.last && !f.crcOk then s2.preFail p x .preAsm
    else s2.preHand p x f.last (if f.last && !f.crcOk then some .fcs else none)

/-- A span of milliseconds in units of 2^-32 s, rounded up. -/
def msSpan (n : Nat) : Nat := (n * 2 ^ 32 + 999) / 1000

/-- PREEMPT_VERIFY_SEND (R86): a verify mPacket goes out every VERIFY_TIME, at most three times; then the state is FAILED. -/
def preemptVerifySend (p : Nat) (s : State) : State :=
  let v := s.verify p
  if !(s.macOn p && s.preEn p && s.linkUp p) || decide (v ≠ vfInit ∧ v ≠ vfVerifying) ||
      decide (s.mono < KMap.get 0 s.port.due p) then s
  else if 3 ≤ KMap.get 0 s.port.tries p then s.setVerify p vfFailed
  else
    let t := max 1 (s.fld (preCfg p) Fld.PORT_PRE_CFG_VERIFY_TIME)
    ({ s with port := { s.port with tries := KMap.set 0 s.port.tries p (KMap.get 0 s.port.tries p + 1),
                                    due := KMap.set 0 s.port.due p (s.mono + msSpan t) } }.setVerify p vfVerifying).emit (.verify p)

/-- PREEMPT_VERIFY_RESPONSE (R86). -/
def preemptVerifyResponse (p : Nat) (s : State) : State :=
  if s.macOn p && s.preEn p && s.verify p == vfVerifying then s.setVerify p vfSucceeded else s

/-- A write of PORT_PRE_CFG: VERIFY_DIS acts at once (R86). -/
def portPreCfgWrite (p : Nat) (v : Word) (s : State) : State :=
  let s1 := s.setReg (preCfg p) (v &&& 0x1FFFF)
  if s1.preEn p && s1.flag (preCfg p) Fld.PORT_PRE_CFG_VERIFY_DIS then s1.setVerify p vfSucceeded else s1

/-! ### Configuration (R70, R81, R85, R93) -/

/-- Lanes allowed and free for a port under a configuration word. -/
def State.lanesOk (s : State) (p : Nat) (w : Word) : Bool :=
  let n := s.lanesOf p w
  p % 8 % n == 0 && (List.range n).all (fun k => !s.laneTaken p (p % 8 + k))

/-- The FEC modes of R69. -/
def fecOk (sp fec : Nat) : Bool :=
  match sp with
  | 0 => decide (fec ≤ 1)
  | 1 => decide (fec ≤ 2)
  | _ => fec == 3

/-- Whether a write of PORT_CFG is refused. -/
def State.portRefused (s : State) (p : Nat) (v : Word) : Bool :=
  let w := s.reg (portCfg p)
  let kind := Fld.PORT_CFG_KIND.get v
  let sp := Fld.PORT_CFG_SPEED.get v
  let pre := Fld.PORT_CFG_PREEMPT_EN.get v == 1
  let len := Fld.PORT_CFG_MAX_FRAME.get v
  decide (1 < kind) || decide (len < 1518 ∨ 16384 < len) || (pre && kind == 0 && decide (6 ≤ sp)) ||
    (Fld.PORT_CFG_EN.get w == 1 && (sp != Fld.PORT_CFG_SPEED.get w || kind != Fld.PORT_CFG_KIND.get w ||
      Fld.PORT_CFG_FEC.get v != Fld.PORT_CFG_FEC.get w)) ||
    (Fld.PORT_CFG_EN.get v == 1 &&
      (!s.lanesOk p v || (if kind = 1 then pre else !fecOk sp (Fld.PORT_CFG_FEC.get v))))

/-- The frames that a port was receiving end as MAC errors at the last byte received (R70). -/
def State.cutRx (s : State) (p : Nat) : State :=
  let s1 := s.rxTail p false [] (some .mac)
  match s1.preRx p with
  | some x => (s1.preFail p x .mac).setPreRx p none
  | none => s1.rxTail p true [] (some .mac)

/-- PORT_CFG_WRITE (R70). -/
def portCfgWrite (p : Nat) (v : Word) (s : State) : State :=
  if s.portRefused p v then s.setFlag (portStatus p) Fld.PORT_STATUS_CFG_REFUSED true
  else
    let w := s.reg (portCfg p)
    let nw := v &&& 0xFFFC7FFF
    let stop := Fld.PORT_CFG_EN.get w == 1 && Fld.PORT_CFG_EN.get nw == 0
    let start := Fld.PORT_CFG_EN.get w == 0 && Fld.PORT_CFG_EN.get nw == 1
    let s1 := if stop then (s.cutTx p).cutRx p else s
    let s2 := s1.setReg (portCfg p) nw
    let s3 := if Fld.PORT_CFG_PREEMPT_EN.get w ≠ Fld.PORT_CFG_PREEMPT_EN.get nw then s2.restartVerify p else s2
    if start && s3.portOtn p then
      { s3 with otn := KMap.set .init s3.otn p { KMap.get .init s3.otn p with
          insts := ⟨(List.range (s3.otnN p)).map (fun m => (m, { OtnInst.init with frameSince := s3.mono, mfSince := s3.mono }))⟩,
          aligned := false, lol := false, disagree := 0, gfp := 0, pli := 0 } }
    else s3

/-- Resumes an interrupted preemptable frame: no express frame is in transmission, no hold is asserted and its gate is open (R87, R313). -/
def State.resumePre (s : State) (p : Nat) : State :=
  match s.txNow p false, s.txNow p true with
  | none, some y =>
    if y.cut && !s.held p && s.gateOpen p y.cls s.now then s.setTx p true (some { y with cut := false, since := s.mono }) else s
  | _, _ => s

/-- Interrupts the preemptable frame in transmission at the first point where both conditions of R87 hold; answers whether it was
interrupted. -/
def State.cutPre (s : State) (p : Nat) : Bool × State :=
  match s.txNow p true with
  | none => (false, s)
  | some y =>
    let (num, den) := s.portRate p
    let run := (s.mono - y.since) * num / (den * 2 ^ 35)
    let frag := 64 * (1 + s.fld (preCfg p) Fld.PORT_PRE_CFG_ADD_FRAG_SIZE)
    let done := y.sent + max (frag - 4) run
    if !y.cut && decide (done + 64 ≤ y.octets) then
      (true, (s.setTx p true (some { y with sent := done, cut := true })).bump (Ctr.PORT_TX_PRE_FRAG (p / 8) (p % 8)) 1)
    else (false, s)

/-- FRAME_TX_END (R80, R87): a frame has been sent to its last byte; the rest of an interrupted frame goes on after an express frame. -/
def frameTxEnd (p : Nat) (pre : Bool) (s : State) : State :=
  match s.txNow p pre with
  | none => s
  | some x =>
    if x.cut then s
    else
      let s1 := ((s.setTx p pre none).bump (Ctr.PORT_TX_FRAMES (p / 8) (p % 8)) 1).bump (Ctr.PORT_TX_OCTETS (p / 8) (p % 8)) x.octets
      if pre then s1.bump (Ctr.PORT_TX_PRE_FRAG (p / 8) (p % 8)) 1
      else s1.resumePre p

/-- A frame of a class starts on a port (R73, R87): an express frame interrupts a preemptable one. -/
def State.startTx (s : State) (p c : Nat) (pre : Bool) (octets : Nat) : State :=
  let s1 := s.setTx p pre (some ⟨octets, 0, s.mono, false, c⟩)
  if pre then s1 else (s1.cutPre p).2

/-- PORT_CFG_WRITE. -/
def execPortCfgWrite (p : Fin 128) (v : Word) (s : State) : Host.Outcome State Fault Refusal := answer s (onF (portCfgWrite p.val v) s)
/-- PORT_LINK. -/
def execPortLink (p : Fin 128) (l : LinkIn) (s : State) : Host.Outcome State Fault Refusal := answer s (portLink p.val l s)
/-- FRAME_HANDOFF. -/
def execFrameHandoff (p : Fin 128) (f : RxHead) (s : State) : Host.Outcome State Fault Refusal := answer s (frameHandoff p.val f s)
/-- RX_ERROR_STATUS. -/
def execRxErrorStatus (p : Fin 128) (pre : Bool) (e : MacErr) (s : State) : Host.Outcome State Fault Refusal :=
  answer s (rxErrorStatus p.val pre e s)
/-- OVERSIZE_CUT. -/
def execOversizeCut (p : Fin 128) (pre : Bool) (rest : List Byte) (s : State) : Host.Outcome State Fault Refusal :=
  answer s (oversizeCut p.val pre rest s)
/-- FRAME_TAIL. -/
def execFrameTail (p : Fin 128) (pre : Bool) (rest : List Byte) (e : Option MacErr) (s : State) : Host.Outcome State Fault Refusal :=
  answer s (frameTail p.val pre rest e s)
/-- PAUSE_FRAME_RX. -/
def execPauseFrameRx (p : Fin 128) (f : RxHead) (s : State) : Host.Outcome State Fault Refusal := answer s (pauseFrameRx p.val f s)
/-- PAUSE_END. -/
def execPauseEnd (p : Fin 128) (c : Fin 9) (s : State) : Host.Outcome State Fault Refusal := answer s (pauseEnd p.val c.val s)
/-- PREEMPT_VERIFY_SEND. -/
def execPreemptVerifySend (p : Fin 128) (s : State) : Host.Outcome State Fault Refusal := answer s (preemptVerifySend p.val s)
/-- PREEMPT_VERIFY_RESPONSE. -/
def execPreemptVerifyResponse (p : Fin 128) (s : State) : Host.Outcome State Fault Refusal := answer s (preemptVerifyResponse p.val s)
/-- MPACKET_RX. -/
def execMpacketRx (p : Fin 128) (f : MFrag) (s : State) : Host.Outcome State Fault Refusal := answer s (mpacketRx p.val f s)
/-- FRAME_TX_END. -/
def execFrameTxEnd (p : Fin 128) (pre : Bool) (s : State) : Host.Outcome State Fault Refusal := answer s (frameTxEnd p.val pre s)

end Sys2Proof.Machine
end

