-- ==== Sys2Proof/Machine/Otn.lean ====
section
/-! DEFINITION. The OTN ports (R91 to R118): framers, deskew, overhead, defects and the GFP-F demapper. -/

namespace Sys2Proof.Machine

def State.otnP (s : State) (p : Nat) : OtnPort := KMap.get .init s.otn p
def State.setOtnP (s : State) (p : Nat) (x : OtnPort) : State := { s with otn := KMap.set .init s.otn p x }
def OtnPort.inst (o : OtnPort) (m : Nat) : OtnInst := KMap.get .init o.insts m
def OtnPort.setInst (o : OtnPort) (m : Nat) (x : OtnInst) : OtnPort := { o with insts := KMap.set .init o.insts m x }
def State.insts (s : State) (p : Nat) : List OtnInst := (List.range (s.otnN p)).map (s.otnP p).inst

/-- Whether an OTN port runs. -/
def State.otnOn (s : State) (p : Nat) : Bool := s.fdieUp && s.portEn p && s.portOtn p

def State.otnBit (s : State) (p d : Nat) : Bool := (s.reg (otnStatus p)).toNat.testBit d
/-- The defects of OTN_STATUS [7:0]. -/
def dLos : Nat := 0
def dLof : Nat := 1
def dLom : Nat := 2
def dLol : Nat := 3
def dAis : Nat := 4
def dPlm : Nat := 5
def dBdiSm : Nat := 6
def dBdiPm : Nat := 7

/-- An action of R107 is active: no frame is delivered. -/
def State.aisAction (s : State) (p : Nat) : Bool := (List.range 6).any (s.otnBit p)
/-- SM counting is suspended. -/
def State.smSuspended (s : State) (p : Nat) : Bool := (List.range 4).any (s.otnBit p)
def State.pmSuspended (s : State) (p : Nat) : Bool := (List.range 5).any (s.otnBit p)

/-- An instance is ready (R99). -/
def instReady (n : Nat) (x : OtnInst) : Bool := if n ≤ 4 then decide (2 ≤ x.st) else x.st == 3

/-- The status that follows from the framer (R97, R109): instance states, IN_SERVICE, LINK_UP, PCS_LOCK and the fault bits. -/
def State.otnRefresh (s : State) (p : Nat) : State :=
  let l := s.insts p
  let n := s.otnN p
  let word := ((l.zipIdx).map (fun (x, m) => x.st * 4 ^ m)).sum
  let svc := l.all (instReady n) && (s.otnP p).aligned && !s.aisAction p
  let s1 := (s.setReg (Reg.OTN_INST_STATUS (p / 8) (p % 8)) (BitVec.ofNat 32 word)).setFlag (otnStatus p) Fld.OTN_STATUS_IN_SERVICE svc
  (((s1.setFlag (portStatus p) Fld.PORT_STATUS_PCS_LOCK (l.all (fun x => decide (2 ≤ x.st)))).setFlag (portStatus p)
    Fld.PORT_STATUS_LOCAL_FAULT (s1.aisAction p)).setFlag (portStatus p) Fld.PORT_STATUS_REMOTE_FAULT (s1.otnBit p dBdiSm)).linkSet p svc

/-- OTN_CFG_WRITE (R93, R118): N is refused while the port is enabled; FORCE_AIS is written with it. -/
def otnCfgWrite (p : Nat) (v : Word) (s : State) : State :=
  if s.portEn p && Fld.OTN_CFG_N.get v != s.fld (otnCfg p) Fld.OTN_CFG_N then
    s.setFlag (portStatus p) Fld.PORT_STATUS_CFG_REFUSED true
  else s.setReg (otnCfg p) (v &&& 0x1F)

/-- Moves an instance to a state, noting when it entered or left frame and multi-frame lock. -/
def OtnInst.move (x : OtnInst) (st t : Nat) : OtnInst :=
  let inF (n : Nat) := decide (2 ≤ n)
  { x with st := st, frameSince := if inF x.st == inF st then x.frameSince else t, mfSince := if (x.st == 3) == (st == 3) then x.mfSince else t,
           queue := if st < 2 then [] else x.queue }

/-- FAS_MATCH (R96): a match at or after the search position opens a candidate while none is open. -/
def fasMatch (p m pos : Nat) (s : State) : State :=
  let o := s.otnP p
  let x := o.inst m
  if s.otnOn p && decide (m < s.otnN p) && x.st == 0 && decide (x.pos ≤ pos) then
    (s.setOtnP p (o.setInst m { (x.move 1 s.mono) with pos := pos })).otnRefresh p
  else s

/-- FAS_CANDIDATE_CHECK (R96, R97): FRAME_LOCK, or SEARCH from the byte after the candidate. `mfas` is that of the candidate's frame. -/
def fasCandidateCheck (p m : Nat) (ok : Bool) (mfas : Nat) (s : State) : State :=
  let o := s.otnP p
  let x := o.inst m
  if s.otnOn p && x.st == 1 then
    let y := if ok then { (x.move 2 s.mono) with misses := 0, mfBad := 0, mfas := some mfas, bip1 := none, bip2 := none }
      else { (x.move 0 s.mono) with pos := x.pos + 1 }
    (s.setOtnP p (o.setInst m y)).otnRefresh p
  else s

/-- The BIP-8 of bytes: their exclusive or (R103). -/
def bip8 (l : List Byte) : BitVec 8 := l.foldl (· ^^^ ·) 0

/-- Bit positions in which two BIP values differ. -/
def bitDiff (a b : BitVec 8) : Nat := ((List.range 8).filter (fun i => (a ^^^ b).getLsbD i)).length

/-- Counts a condition of one frame: `n` consecutive frames with it declare it, `n` without it clear it. -/
def Persist.note (x : Persist) (n : Nat) (b : Bool) : Persist :=
  let on := if b then min n (x.on + 1) else 0
  let off := if b then 0 else min n (x.off + 1)
  ⟨on, off, if on = n then true else if off = n then false else x.flag⟩

/-- The framer state after a frame (R97). -/
def OtnInst.framer (x : OtnInst) (f : OtnFrame) (t : Nat) : OtnInst :=
  let misses := if f.fas then 0 else x.misses + 1
  let good : Bool := match x.mfas with | some a => (a + 1) % 256 == f.mfas.toNat | none => false
  let bad := if good then 0 else x.mfBad + 1
  let y := { x with misses := misses, mfas := some f.mfas.toNat, mfBad := bad }
  if 5 ≤ misses then { (y.move 0 t) with misses := 0, mfBad := 0, mfas := none }
  else if x.st = 2 ∧ good then { (y.move 3 t) with mfBad := 0 }
  else if x.st = 3 ∧ 5 ≤ bad then { (y.move 2 t) with mfBad := 0 }
  else y

/-- Received BEI above 8 counts as 0 (R102, R104). -/
def beiCount (v : BitVec 4) : Nat := if v.toNat ≤ 8 then v.toNat else 0

/-- OTN_FRAME_RX (R97 to R106): the framer, the BIP comparison with the frame before the last, the overhead conditions, and the frame's
place in the deskew buffer. -/
def otnFrameRx (p m : Nat) (f : OtnFrame) (s : State) : State :=
  let o := s.otnP p
  let x := o.inst m
  if !s.otnOn p || decide (x.st < 2) then s
  else
    let err (r : BitVec 8) : Nat := match x.bip2 with | some b => bitDiff b r | none => 0
    let sm := if s.smSuspended p then 0 else err f.smBip
    let pm := if s.pmSuspended p then 0 else err f.pmBip
    let r : OtnRec := ⟨f.mfas.toNat, sm, pm, if s.smSuspended p then 0 else beiCount f.smBei,
      if s.pmSuspended p then 0 else beiCount f.pmBei, s.mono⟩
    let y : OtnInst := { x.framer f s.mono with
      bip1 := some (bip8 f.opu), bip2 := x.bip1, beiSm := sm, beiPm := pm, ais := x.ais.note 3 (f.stat == 7),
      bdiSm := x.bdiSm.note 5 f.smBdi, bdiPm := x.bdiPm.note 5 f.pmBdi,
      plm := if f.mfas = 0 then x.plm.note 3 (f.psi != 0x05) else x.plm }
    let z := if y.st < 2 then y else { y with queue := (y.queue ++ [r]).drop (y.queue.length + 1 - 256) }
    (s.setOtnP p (o.setInst m z)).otnRefresh p

/-- 4 µs in units of 2^-32 s (R118). -/
def skewLimit : Nat := 17180

/-- Adds the error counts of released frames to the running second (R105, R115). -/
def OtnCnt.add (c : OtnCnt) (r : OtnRec) : OtnCnt :=
  { c with smBip := c.smBip + r.smBip, smBei := c.smBei + r.smBei, pmBip := c.pmBip + r.pmBip, pmBei := c.pmBei + r.pmBei }

/-- Takes one frame of every instance out of the deskew buffer. -/
def OtnPort.release (o : OtnPort) (n : Nat) (cut : OtnInst → List OtnRec) : OtnPort :=
  (List.range n).foldl (fun o m =>
    let x := o.inst m
    match cut x with
    | r :: rest => { (o.setInst m { x with queue := rest }) with run := o.run.add r }
    | [] => o) o

/-- DESKEW_RELEASE (R100, R101): an unaligned port aligns on an MFAS that every instance holds, within 4 µs; an aligned port releases one
frame of each, and realigns after three disagreements. -/
def deskewRelease (p : Nat) (s : State) : State :=
  let o := s.otnP p
  let l := s.insts p
  let n := s.otnN p
  if !s.otnOn p || !l.all (instReady n) then s
  else if o.aligned then
    let heads := l.filterMap (fun x => x.queue.head?)
    if heads.length < n then s
    else
      let same := heads.all (fun r => r.mfas == (heads.headD ⟨0, 0, 0, 0, 0, 0⟩).mfas)
      let o1 := o.release n (·.queue)
      let d := if same then 0 else o.disagree + 1
      let o2 := if 3 ≤ d then { o1 with disagree := 0, aligned := false, lol := true } else { o1 with disagree := d }
      (s.setOtnP p o2).otnRefresh p
  else
    let has (x : OtnInst) (v : Nat) : Bool := x.queue.any (fun r => r.mfas == v)
    match l with
    | [] => s
    | x0 :: _ =>
      match x0.queue.find? (fun r => l.all (fun x => has x r.mfas)) with
      | none => s
      | some r0 =>
        let cut (x : OtnInst) : List OtnRec := x.queue.dropWhile (fun r => r.mfas != r0.mfas)
        let ats := l.filterMap (fun x => (cut x).head?.map (·.at_))
        let skew := ats.foldl max 0 - ats.foldl min (ats.headD 0)
        let s1 := s.setFld (Reg.OTN_SKEW (p / 8) (p % 8)) Fld.OTN_SKEW_SKEW (min skew 0xFFFF)
        if skewLimit < skew then
          (s1.setOtnP p { (o.release n cut) with lol := true, run := o.run }).otnRefresh p
        else (s1.setOtnP p { (o.release n cut) with aligned := true, lol := false, disagree := 0 }).otnRefresh p

/-- 3 ms (R106). -/
def ms3 : Nat := msSpan 3

/-- Whether a defect of a port is present now, given whether it was (R106). -/
def State.defectNow (s : State) (p d : Nat) (was : Bool) : Bool :=
  let l := s.insts p
  let n := s.otnN p
  let held (since : Nat) : Bool := decide (since + ms3 ≤ s.mono)
  match d with
  | 0 =>
    let sig := s.fld (Reg.PORT_GROUP_STATUS (p / 8)) Fld.PORT_GROUP_STATUS_LANE_SIG
    !((List.range (otnLanes n)).all (fun k => sig.testBit (p % 8 + k)) && s.flag (portStatus p) Fld.PORT_STATUS_FEC_LOCK)
  | 1 => if was then !l.all (fun x => decide (2 ≤ x.st) && held x.frameSince) else l.any (fun x => decide (x.st < 2) && held x.frameSince)
  | 2 =>
    if n < 5 then false
    else if was then !l.all (fun x => x.st == 3 && held x.mfSince) else l.any (fun x => x.st == 2 && held x.mfSince)
  | 3 => (s.otnP p).lol
  | 4 => l.any (·.ais.flag)
  | 5 => l.any (·.plm.flag)
  | 6 => l.any (·.bdiSm.flag)
  | _ => l.any (·.bdiPm.flag)

/-- OTN_DEFECT (R106, R107, R113): a defect that sets or clears raises its event and moves its consequent actions; the start of an action cuts
a frame that is being delivered. -/
def otnDefect (p d : Nat) (s : State) : State :=
  if !s.otnOn p then s
  else
    let was := s.otnBit p d
    let is_ := s.defectNow p d was
    if was == is_ then s
    else
      let acted := s.aisAction p
      let f : Fld := ⟨d, d, .ro, 0⟩
      let s1 := (s.setFlag (otnStatus p) f is_).setFlag (otnStatus p) Fld.OTN_STATUS_DEFECT_EVT true
      let o := s1.otnP p
      let s2 := s1.setOtnP p { o with run := { o.run with defects := o.run.defects ||| (if is_ then 2 ^ d else 0) } }
      let s3 := if !acted && s2.aisAction p then
          { s2 with otn := KMap.set .init s2.otn p { s2.otnP p with gfp := 0 } }.rxTail p false [] (some .mac) else s2
      let s4 := s3.otnRefresh p
      s4.ownerEvent 0x0102 1 (p / 8) p (beBytes 4 (s4.reg (otnStatus p)).toNat)

/-! ### GFP-F (R110 to R117) -/

/-- The CRC-16 of the header error checks of G.7041, x^16 + x^12 + x^5 + 1, over 16 bits. -/
def hec16 (v : Nat) : Nat :=
  (List.range 16).foldl (fun c i =>
    let b := (v.testBit (15 - i)).toNat ^^^ (c >>> 15)
    ((c <<< 1) % 65536) ^^^ (if b = 1 then 0x1021 else 0)) 0

/-- Checks a 16-bit field with its HEC: the field with a single wrong bit put right, and whether one was; none for a multi-bit error. -/
def hecCheck (w : Nat) : Option (Nat × Bool) :=
  let ok (x : Nat) : Bool := hec16 (x / 65536) == x % 65536
  if ok w then some (w / 65536, false)
  else
    match (List.range 32).find? (fun i => ok (w ^^^ 2 ^ i)) with
    | some i => some ((w ^^^ 2 ^ i) / 65536, true)
    | none => none

/-- GFP_CORE_HEADER (R110): the core header is descrambled and checked; single-bit errors are put right in SYNC only. -/
def gfpCoreHeader (p : Nat) (h : Word) (s : State) : State :=
  if !s.otnOn p || s.aisAction p then s
  else
    let o := s.otnP p
    let c := hecCheck (h ^^^ 0xB6AB31E0).toNat
    match o.gfp, c with
    | 0, some (l, false) => s.setOtnP p { o with gfp := 1, pli := l }
    | 0, _ => s
    | 1, some (l, false) => s.setOtnP p { o with gfp := 2, pli := l }
    | 1, _ => s.setOtnP p { o with gfp := 0 }
    | _, some (l, fixed) =>
      let s1 := s.setOtnP p { o with pli := l }
      if fixed then s1.bump (Ctr.OTN_GFP_CHEC_CORR (p / 8) (p % 8)) 1 else s1
    | _, none =>
      ((s.setOtnP p { o with gfp := 0 }).bump (Ctr.OTN_GFP_SYNC_LOSS (p / 8) (p % 8)) 1).rxTail p false [] (some .mac)

/-- GFP_FRAME (R110 to R113, R95, R117): the payload area of a frame in SYNC, descrambled; `f.data` holds its first bytes, or all of it. A
delivered frame goes the way of any received frame, its length known from the PLI; `slot` says that the slice has a slot for it. -/
def gfpFrame (p : Nat) (f : RxHead) (slot : Bool) (s : State) : State :=
  let o := s.otnP p
  let i := p / 8
  let j := p % 8
  if !s.otnOn p || s.aisAction p || decide (o.gfp ≠ 2) || decide (o.pli < 4) then s
  else
    match hecCheck (beAt f.data 0 4) with
    | none => s.bump (Ctr.OTN_GFP_THEC_DROP i j) 1
    | some (t, _) =>
      let pti := t >>> 13
      let pfi := t.testBit 12
      let exi := t / 256 % 16
      let upi := t % 256
      if pti = 4 then s.bump (Ctr.OTN_GFP_CMF i j) 1
      else if pti ≠ 0 ∨ exi ≠ 0 ∨ upi ≠ 1 then s.bump (Ctr.OTN_GFP_TYPE_DROP i j) 1
      else
        let len := o.pli - 4 - (if pfi then 4 else 0)
        let b := (f.data.drop 4).take len
        if len < 64 then s.bump (Ctr.PORT_RX_RUNT i j) 1
        else if s.maxFrame p < len then s.bump (Ctr.PORT_RX_OVERSIZE i j) 1
        else
          match f.err with
          | some x => s.bump (rxCtr p (macErr x)) 1
          | none =>
            let ts := f.inst.toNat
            if f.whole && isPause b then s.pauseFrame p b ts
            else if !slot then s.bump (Ctr.OTN_RX_SLOT_DROP i j) 1
            else
              s.secIngest { p := p, pre := false, data := if f.whole then b.take (b.length - 4) else b, whole := f.whole, len := some len,
                            ts := ts, maxFrame := s.maxFrame p, sec := none }

/-! ### Per-second counts (R115, R116) -/

/-- The ports that are OTN ports. -/
def State.otnPorts (s : State) : List Nat := s.otn.keys.filter s.portOtn

/-- At the close of second N the running counts become the closed ones; a defect that is present counts for the new second too. -/
def State.otnClose (s : State) : State :=
  s.otnPorts.foldl (fun s p =>
    let o := s.otnP p
    s.setOtnP p { o with closed := o.run, run := { OtnCnt.init with defects := (s.reg (otnStatus p)).toNat % 256 } }) s

/-- At the publish instant the closed counts become readable. -/
def State.otnPublish (s : State) (sec : Nat) : State :=
  s.otnPorts.foldl (fun s p =>
    let c := (s.otnP p).closed
    let i := p / 8
    let j := p % 8
    let put (s : State) (a v : Nat) : State := s.setReg a (BitVec.ofNat 32 v)
    put (put (put (put (put (put (put s (Reg.OTN_PM_SEC_LO i j) sec) (Reg.OTN_PM_SEC_HI i j) (sec / 2 ^ 32 % 2 ^ 16))
      (Reg.OTN_PM_SM_BIP i j) c.smBip) (Reg.OTN_PM_SM_BEI i j) c.smBei) (Reg.OTN_PM_PM_BIP i j) c.pmBip)
      (Reg.OTN_PM_PM_BEI i j) c.pmBei) (Reg.OTN_PM_DEFECT_SEC i j) c.defects) s

/-- OTN_CFG_WRITE. -/
def execOtnCfgWrite (p : Fin 128) (v : Word) (s : State) : Host.Outcome State Fault Refusal := answer s (onF (otnCfgWrite p.val v) s)
/-- FAS_MATCH. -/
def execFasMatch (p : Fin 128) (m : Fin 16) (pos : BitVec 64) (s : State) : Host.Outcome State Fault Refusal :=
  answer s (fasMatch p.val m.val pos.toNat s)
/-- FAS_CANDIDATE_CHECK. -/
def execFasCandidateCheck (p : Fin 128) (m : Fin 16) (ok : Bool) (mfas : BitVec 8) (s : State) : Host.Outcome State Fault Refusal :=
  answer s (fasCandidateCheck p.val m.val ok mfas.toNat s)
/-- OTN_FRAME_RX. -/
def execOtnFrameRx (p : Fin 128) (m : Fin 16) (f : OtnFrame) (s : State) : Host.Outcome State Fault Refusal :=
  answer s (otnFrameRx p.val m.val f s)
/-- DESKEW_RELEASE. -/
def execDeskewRelease (p : Fin 128) (s : State) : Host.Outcome State Fault Refusal := answer s (deskewRelease p.val s)
/-- OTN_DEFECT. -/
def execOtnDefect (p : Fin 128) (d : Fin 8) (s : State) : Host.Outcome State Fault Refusal := answer s (otnDefect p.val d.val s)
/-- GFP_CORE_HEADER. -/
def execGfpCoreHeader (p : Fin 128) (h : Word) (s : State) : Host.Outcome State Fault Refusal := answer s (gfpCoreHeader p.val h s)
/-- GFP_FRAME. -/
def execGfpFrame (p : Fin 128) (f : RxHead) (slot : Bool) (s : State) : Host.Outcome State Fault Refusal :=
  answer s (gfpFrame p.val f slot s)

end Sys2Proof.Machine
end

