-- ==== Sys2Proof/Machine/TmBase.lean ====
section
/-! DEFINITION. What the traffic manager shares: nodes and their configuration, the port and class of a queue, gate control lists and the
counts of the ledgers (R296 to R299, R310, R448). -/

namespace Sys2Proof.Machine

/-! ### Ledger counts -/

def ledKey (ledger scope term : Nat) : Nat := ledger * 2 ^ 24 + scope * 16 + term
def State.ledGet (s : State) (ledger scope term : Nat) : Int := KMap.get 0 s.led (ledKey ledger scope term)
def State.ledAdd (s : State) (ledger scope term : Nat) (n : Int) : State :=
  { s with led := KMap.set 0 s.led (ledKey ledger scope term) (s.ledGet ledger scope term + n) }

/-- A counted drop of a copy in the EGRESS ledger of a quadrant (R449). -/
def State.egDrop (s : State) (q : Nat) : State := s.ledAdd ldEgress q 1 1

/-! ### Nodes (R296, R297, R318) -/

def lvPort : Nat := 0
def lvChannel : Nat := 1
def lvSub : Nat := 2
def lvClass : Nat := 3

/-- Nodes of a level in one quadrant. -/
def levelSize (lv : Nat) : Nat := match lv with | 0 => 36 | 1 => 2048 | 2 => 16384 | _ => 131072
def nodeKey (lv n : Nat) : Nat := lv * 2 ^ 20 + n
/-- The global number of a quadrant's local node. -/
def nodeNum (lv q i : Nat) : Nat := q * levelSize lv + i

def State.nodeCfg (s : State) (lv n : Nat) : BitVec 128 := KMap.get 0 s.sch.cfg (nodeKey lv n)
def State.node (s : State) (lv n : Nat) : NodeSt := KMap.get .init s.sch.node (nodeKey lv n)
def State.setNode (s : State) (lv n : Nat) (x : NodeSt) : State :=
  { s with sch := { s.sch with node := KMap.set .init s.sch.node (nodeKey lv n) x } }

def bitsOf (w : BitVec 128) (hi lo : Nat) : Nat := (w.toNat >>> lo) % 2 ^ (hi - lo + 1)
def cfgEn (w : BitVec 128) : Bool := bitsOf w 127 127 == 1
def cfgShape (w : BitVec 128) : Bool := bitsOf w 126 126 == 1
def cfgPrio (w : BitVec 128) : Nat := bitsOf w 125 123
def cfgWeight (w : BitVec 128) : Nat := max 1 (bitsOf w 122 115)
/-- The rate ρ of R304. -/
def cfgRate (w : BitVec 128) : Nat := bitsOf w 114 103 * 2 ^ bitsOf w 102 98
def cfgBurst (w : BitVec 128) : Nat := bitsOf w 97 80

/-- The parent of a node of its quadrant, in global numbers: a class's subscriber, a subscriber's channel, a channel's port (R297). -/
def State.parent (s : State) (lv n : Nat) : Nat :=
  match lv with
  | 3 => n / 8
  | 2 => nodeNum 1 (n / 16384) (bitsOf (s.nodeCfg 2 n) 77 67)
  | _ => nodeNum 0 (n / 2048) (bitsOf (s.nodeCfg 1 n) 72 67)

/-- The port node of a queue: quadrant × 36 + local port k. -/
def State.queuePort (s : State) (queue : Nat) : Nat := s.parent 1 (s.parent 2 (s.parent 3 queue))

/-- The scheduler port 0 to 143 of a port node (R318). -/
def portOfNode (n : Nat) : Nat :=
  let q := n / 36
  let k := n % 36
  if k < 32 then 32 * q + k else if k = 32 then 128 + q else 132 + 3 * q + (k - 33)

/-- The port node of a scheduler port. -/
def nodeOfPort (p : Nat) : Nat :=
  if p < 128 then p / 32 * 36 + p % 32 else if p < 132 then (p - 128) * 36 + 32 else (p - 132) / 3 * 36 + 33 + (p - 132) % 3

/-- The egress slice that serves a queue's copies on a port (R25, R297, R298). -/
def sliceOf (p queue : Nat) : Nat :=
  if p < 128 then p / 8
  else if p < 132 then 4 * (p - 128) + queue % 131072 / 8 % 4
  else 4 * ((p - 132) / 3) + (p - 132) % 3

/-- Kickstand mode (R303). -/
def State.kickstand (s : State) : Bool := s.flag Reg.BOOT_STATUS Fld.BOOT_STATUS_KICKSTAND

/-- Packet mode of a port (R303). -/
def State.packetMode (s : State) (p : Nat) : Bool :=
  decide (132 ≤ p) || s.kickstand ||
    !s.flag (Reg.SCH_PORT_CFG (nodeOfPort p / 36) (nodeOfPort p % 36)) Fld.SCH_PORT_CFG_BYTE_EN

/-! ### Ports and gates (R290, R299) -/

/-- Whether a class of a port is paused (R84) and whether its gate is shut now for multicast readiness (R290, R312). -/
def State.classShut (s : State) (p c : Nat) : Bool := decide (p < 128) && !s.gateOpen p c (s.nowT + s.txLat p)

/-- Whether a port is down with DOWN_ACTION HOLD (R73). -/
def State.portHeld (s : State) (p : Nat) : Bool :=
  decide (p < 128) && (!s.portEn p || (!s.linkUp p && !s.flag (portCfg p) Fld.PORT_CFG_DOWN_ACTION))

end Sys2Proof.Machine
end

