-- ==== Sys2Proof/Machine/Tm.lean ====
section
/-! DEFINITION. Egress buffering, admission and replication (R273 to R295). -/

namespace Sys2Proof.Machine

/-! ### Pools (R274 to R281) -/

def State.quad (s : State) (q : Nat) : QuadSt := KMap.get .init s.tm.quads q
def State.setQuad (s : State) (q : Nat) (x : QuadSt) : State := { s with tm := { s.tm with quads := KMap.set .init s.tm.quads q x } }

/-- The pool parts: 0 for 256 bytes, 1 for 2 KiB in SRAM, 2 for 16 KiB, 3 for the 2 KiB HBM pages. -/
def partSize (i : Nat) : Nat := match i with | 0 => 256 | 2 => 16384 | _ => 2048

/-- The bit of a part in BUF_STATUS.QUAR. -/
def quarBit (i : Nat) : Nat := 3 - i
def State.quarantined (s : State) (q i : Nat) : Bool := (s.fld (Reg.BUF_STATUS q) Fld.BUF_STATUS_QUAR).testBit (quarBit i)
def State.bufEn (s : State) (q : Nat) : Bool := s.flag (Reg.BUF_CFG q) Fld.BUF_CFG_EN

/-- The entries configured for a part. -/
def State.partCfg (s : State) (q i : Nat) : Nat :=
  match i with
  | 0 => s.fld (Reg.BUF_POOL_CFG0 q) Fld.BUF_POOL_CFG0_N256
  | 1 => s.fld (Reg.BUF_POOL_CFG1 q) Fld.BUF_POOL_CFG1_N2K
  | 2 => s.fld (Reg.BUF_POOL_CFG1 q) Fld.BUF_POOL_CFG1_N16K
  | _ => s.fld (Reg.BUF_HBM_PAGES q) Fld.BUF_HBM_PAGES_PAGES

/-- The HBM stack and region of a page of a quadrant (R331): pages go round the 64 pseudo channels, 32 to a stack. -/
def pageRegion (q n : Nat) : Nat := (2 * q + n % 64 / 32) * 128 + n / 64 * 32 / 65536

/-- The pages of a region that the pool holds. -/
def State.regionPages (s : State) (q r : Nat) : Nat :=
  let m := min (s.partCfg q 3 - 131072 * (r % 128)) 131072
  m / 64 * 32 + min (m % 64 - 32 * (r / 128 % 2)) 32

/-- Pages of a quadrant's pool that lie in retired regions. -/
def State.pagesGone (s : State) (q : Nat) : Nat :=
  ((s.tm.hbmGone.keys.filter (fun r => r / 256 == q)).map (s.regionPages q)).sum

/-- The listed pages of a quadrant. -/
def State.pagesUsed (s : State) (q : Nat) : List Nat :=
  (s.tm.pages.keys.filter (fun k => k / 2 ^ 24 == q)).map (· % 2 ^ 24)

def State.pageGone (s : State) (q n : Nat) : Bool := KMap.get 0 s.tm.hbmGone (pageRegion q n) == 1

/-- Usable pages of a quadrant (R279). -/
def State.usablePages (s : State) (q : Nat) : Nat := s.partCfg q 3 - s.pagesGone q

/-- Free entries of a part; 0 while EN is clear (R293). -/
def State.freeOf (s : State) (q i : Nat) : Nat :=
  if !s.bufEn q then 0
  else if i = 3 then s.usablePages q - ((s.pagesUsed q).filter (fun n => !s.pageGone q n)).length
  else s.partCfg q i - KMap.get 0 (s.quad q).use i - KMap.get 0 (s.quad q).gone i

/-- Whether a part can serve a request. -/
def State.canTake (s : State) (q i : Nat) : Bool := !s.quarantined q i && decide (0 < s.freeOf q i)

/-- Takes or frees a buffer of an SRAM part. A retired region takes the buffers it is owed as they free (R338). -/
def State.takeBuf (s : State) (q i : Nat) : State :=
  let x := s.quad q
  s.setQuad q { x with use := KMap.set 0 x.use i (KMap.get 0 x.use i + 1) }

def State.freeBuf (s : State) (q i : Nat) : State :=
  let x := s.quad q
  if s.quarantined q i then s.setQuad q { x with heldFree := KMap.set 0 x.heldFree i (KMap.get 0 x.heldFree i + 1) }
  else
    let use := KMap.set 0 x.use i (KMap.get 0 x.use i - 1)
    let o := KMap.get 0 x.owe i
    if o = 0 then s.setQuad q { x with use := use }
    else s.setQuad q { x with use := use, owe := KMap.set 0 x.owe i (o - 1), gone := KMap.set 0 x.gone i (KMap.get 0 x.gone i + 1) }

/-- Requests a buffer of the first part at or after `i` that has one; each step to a larger pool counts in BUF_FALLBACK (R275). -/
def State.allocBuf (s : State) (q i : Nat) : Option Nat × State :=
  match ([0, 1, 2].filter (fun j => decide (i ≤ j))).find? (s.canTake q) with
  | none => (none, s)
  | some j => (some j, (if j = i then s else s.bump (Ctr.BUF_FALLBACK q) (j - i)).takeBuf q j)

/-- The smallest pool that holds a first request (R275). -/
def firstPool (n : Nat) : Nat := if n ≤ 256 then 0 else if n ≤ 2048 then 1 else 2

/-- Frees the buffers of a stored packet or a reassembly. -/
def State.freeBufs (s : State) (q : Nat) (l : List Nat) : State := l.foldl (fun s i => s.freeBuf q i) s

/-- The number of usable pages that the guarantee of R29 needs (R279). -/
def guaranteePages : Nat := 15887144

/-- CAP_LOW follows the usable pages; the capacity event is raised as it sets (R279). -/
def State.capLow (s : State) (q : Nat) : State :=
  let low := decide (s.usablePages q < guaranteePages)
  let was := s.flag (Reg.BUF_STATUS q) Fld.BUF_STATUS_CAP_LOW
  let s1 := s.setFlag (Reg.BUF_STATUS q) Fld.BUF_STATUS_CAP_LOW low
  if low && !was then
    (s1.ierrLog ieCapacity 2 q 0x0100 0).ownerEvent 0x0100 2 q 0 (beBytes 4 (s1.reg (Reg.DEV_CAP 2 q)).toNat)
  else s1

/-! ### Stored packets and pages (R278, R280) -/

def State.stored (s : State) (n : Nat) : Option SPkt := KMap.get none s.tm.store n
def State.setStored (s : State) (n : Nat) (x : Option SPkt) : State := { s with tm := { s.tm with store := KMap.set none s.tm.store n x } }

/-- Frees a stored packet whose references and hold are gone (R280). -/
def State.checkStored (s : State) (n : Nat) : State :=
  match s.stored n with
  | some x => if x.refs = 0 && !x.hold then (s.setStored n none).freeBufs x.q x.bufs else s
  | none => s

/-- Drops one reference of a stored packet. -/
def State.unref (s : State) (n : Nat) : State :=
  match s.stored n with
  | some x => (s.setStored n (some { x with refs := x.refs - 1 })).checkStored n
  | none => s

def pageKey (q n : Nat) : Nat := q * 2 ^ 24 + n
def State.pageRef (s : State) (q n : Nat) : Nat := KMap.get 0 s.tm.pages (pageKey q n)
def State.setPageRef (s : State) (q n v : Nat) : State := { s with tm := { s.tm with pages := KMap.set 0 s.tm.pages (pageKey q n) v } }

/-- The first free page at or after a number; which page the device takes is open (assumption 14). -/
def State.findPage (s : State) (q : Nat) : Nat → Nat → Option Nat
  | 0, _ => none
  | k + 1, n =>
    let m := n % max 1 (s.partCfg q 3)
    if s.pageRef q m = 0 && !s.pageGone q m then some m else s.findPage q k (m + 1)

def State.takePage (s : State) (q : Nat) : Option Nat × State :=
  if s.canTake q 3 then
    let s1 := { s with draws := s.draws + 1 }
    (s.findPage q (s.partCfg q 3) (Config.hbmPage s.draws), s1)
  else (none, s)

def State.queue (s : State) (n : Nat) : QSt := KMap.get .init s.tm.queues n
def State.setQueue (s : State) (n : Nat) (x : QSt) : State := { s with tm := { s.tm with queues := KMap.set .init s.tm.queues n x } }

/-- Appends the bytes of a copy to its queue's chain: the pages that hold some of them, each referenced once, the tail page once more; none
when a page is lacking (R278, R280). -/
def State.chain (s : State) (queue : Nat) : Nat → Nat → List Nat → Option (List Nat × State)
  | 0, _, _ => none
  | fuel + 1, left, acc =>
    let q := queue / 131072
    let x := s.queue queue
    if left = 0 then some (acc, s)
    else
      let room := match x.tail with
        | some (p, u) => if s.pageGone q p then 0 else 2048 - u
        | none => 0
      match x.tail, decide (0 < room) with
      | some (p, u), true =>
        let n := min left room
        let s1 := (s.setPageRef q p (s.pageRef q p + 1)).setQueue queue { x with tail := some (p, u + n) }
        s1.chain queue fuel (left - n) (acc ++ [p])
      | _, _ =>
        match s.takePage q with
        | (none, _) => none
        | (some p, s1) =>
          let s2 := match x.tail with | some (o, _) => s1.setPageRef q o (s1.pageRef q o - 1) | none => s1
          ((s2.setPageRef q p 1).setQueue queue { x with tail := some (p, 0) }).chain queue fuel left acc

/-! ### Admission (R283 to R285) -/

def State.qcfg (s : State) (n : Nat) : BitVec 128 := KMap.get 0 s.tm.qcfg n
def kib (n : Nat) : Nat := n * 1024
def qG (w : BitVec 128) : Nat := kib (bitsOf w 127 104)
def qSpill (w : BitVec 128) : Nat := kib (bitsOf w 103 80)
def qMax (w : BitVec 128) : Nat := kib (bitsOf w 79 56)
def qAlpha (w : BitVec 128) : Nat := bitsOf w 55 52
def qRed (w : BitVec 128) (colour : Nat) : Nat := match colour with | 0 => bitsOf w 51 46 | 1 => bitsOf w 45 40 | _ => bitsOf w 39 34
def qAvg (w : BitVec 128) : Nat := bitsOf w 33 30
def qEn (w : BitVec 128) : Bool := bitsOf w 29 29 == 1

/-- The room left in the shared region of a quadrant, F; it can be negative (R283). -/
def State.sharedFree (s : State) (q : Nat) : Int :=
  let used := (s.tm.queues.l.filter (fun x => x.1 / 131072 == q)).map (fun x => x.2.depth - qG (s.qcfg x.1))
  (kib (s.fld (Reg.ADM_SHARED q) Fld.ADM_SHARED_SIZE) : Nat) - (used.sum : Nat)

/-- Whether a copy of a size has room (R283). -/
def State.hasRoom (s : State) (queue size : Nat) : Bool :=
  let w := s.qcfg queue
  let d := (s.queue queue).depth
  let f := s.sharedFree (queue / 131072)
  (qMax w == 0 || decide (d + size ≤ qMax w)) &&
    (decide (d + size ≤ qG w) ||
      (decide ((size : Int) ≤ f) && decide ((((d + size - qG w) * 128 : Nat) : Int) ≤ f * (2 ^ qAlpha w : Nat))))

/-- The admitted size of a copy of a frame of length L (R279). -/
def admSize (len : Nat) (oneStep : Bool) : Nat := (len + 4 + 7) / 8 * 8 + (if oneStep then 8 else 0)

/-- ECT(0) or ECT(1) in the outermost IP header of a frame (R284). -/
def isEct (h : Ith) (b : List Byte) : Bool :=
  match h.ip with
  | none => false
  | some o =>
    let tos := if beAt b o.toNat 1 / 16 = 4 then beAt b (o.toNat + 1) 1 else beAt b o.toNat 2 / 16 % 256
    tos % 4 == 1 || tos % 4 == 2

inductive RedOut where
  | pass | mark | refuse
  deriving DecidableEq, Repr

/-- The RED test of a copy (R284): the average moves, and the profile of the colour decides; the quadrant's generator draws. -/
def State.redTest (s : State) (queue : Nat) (h : Ith) (b : List Byte) : RedOut × State :=
  let q := queue / 131072
  let w := s.qcfg queue
  let x := s.queue queue
  let a : Rat := x.avg + ((x.depth : Rat) - x.avg) / ((2 ^ qAvg w : Nat) : Rat)
  let s1 := s.setQueue queue { x with avg := a }
  let p := qRed w h.colour.toNat
  let lo := kib (s.fld (Reg.ADM_RED q p) Fld.ADM_RED_MIN_TH)
  let hi := kib (s.fld (Reg.ADM_RED_HI q p) Fld.ADM_RED_HI_MAX_TH)
  if a < (lo : Rat) then (.pass, s1)
  else
    let (sel, s2) : Bool × State :=
      if (hi : Rat) ≤ a ∨ hi ≤ lo then (true, s1)
      else
        let (d, s2) := s1.draw
        let u : Rat := ((d % 2 ^ 32 : Nat) : Rat) / ((2 ^ 32 : Nat) : Rat)
        let prob : Rat := ((s.fld (Reg.ADM_RED q p) Fld.ADM_RED_MAX_P + 1 : Nat) : Rat) / 256 * (a - lo) / ((hi - lo : Nat) : Rat)
        (decide (u < prob), s2)
    if !sel then (.pass, s2)
    else if s.flag (Reg.ADM_RED_HI q p) Fld.ADM_RED_HI_ECN && decide (a < (hi : Rat)) && isEct h b then
      (.mark, s2.bump (Ctr.ADM_MARK_ECN q) 1)
    else
      let c := match h.colour.toNat with | 0 => Ctr.ADM_DROP_RED_G q | 1 => Ctr.ADM_DROP_RED_Y q | _ => Ctr.ADM_DROP_RED_R q
      (.refuse, s2.bump c 1)

/-- Notes a copy dropped for a queue (R285, R294) and in the EGRESS ledger. -/
def State.queueDrop (s : State) (queue : Nat) : State :=
  let x := s.queue queue
  (s.setQueue queue { x with drops := (x.drops + 1) % 2 ^ 32 }).egDrop (queue / 131072)

/-- Packet descriptors of a quadrant (R277). -/
def packetDescs : Nat := 262144
def State.pdFree (s : State) (q : Nat) : Nat := if s.bufEn q then packetDescs - (s.quad q).pd else 0

/-- Enqueues an admitted copy of a stored packet: in SRAM with a descriptor and a reference, or spilled to HBM (R277, R278, R280, R285).
Answers whether it was enqueued. -/
def State.enqueueCopy (s : State) (queue pkt : Nat) (h : Ith) (b : List Byte) (mark : Bool) (encap : Option Nat) (ta : Nat) : Bool × State :=
  let q := queue / 131072
  let size := admSize (b.length + 4) h.oneStep.isSome
  let x := s.queue queue
  let s1 := ((s.bump (Ctr.ADM_ADMIT_PKTS q) 1).bump (Ctr.ADM_ADMIT_BYTES q) size).setQueue queue { x with depth := x.depth + size }
  let spill := decide (qSpill (s.qcfg queue) ≤ x.depth)
  let forced := !spill && (s.pdFree q == 0 || !s.canTake q 2)
  let c : Copy := { pkt := some pkt, queue := queue, size := size, hdr := h, data := b, mark := mark, encap := encap, pages := [], ta := ta }
  let put (s : State) (c : Copy) : State := s.setQueue queue { s.queue queue with copies := (s.queue queue).copies ++ [c] }
  if !spill && !forced then
    let y := s1.quad q
    let s2 := s1.setQuad q { y with pd := y.pd + 1 }
    let s3 := match s2.stored pkt with | some p => s2.setStored pkt (some { p with refs := p.refs + 1 }) | none => s2
    (true, put s3 c)
  else
    match s1.chain queue (2 * (size / 2048) + 8) size [] with
    | none => (false, ((s.bump (Ctr.ADM_ADMIT_PKTS q) 1).bump (Ctr.ADM_ADMIT_BYTES q) size).bump (Ctr.BUF_NO_BUFFER q) 1 |>.queueDrop queue)
    | some (pages, s2) =>
      let s3 := if forced then s2.bump (Ctr.BUF_SPILL_FORCED q) 1 else s2
      (true, put s3 { c with pkt := none, pages := pages })

/-- Whether a queue spills now (R278). -/
def State.spilling (s : State) (queue : Nat) : Bool := decide (qSpill (s.qcfg queue) ≤ (s.queue queue).depth)

/-- Takes the copy at the head of a queue: it leaves the queue and its depth; its buffers stay until it has crossed (R280, R301). -/
def State.takeCopy (s : State) (queue : Nat) : Option (Copy × State) :=
  let x := s.queue queue
  match x.copies with
  | [] => none
  | c :: r => some (c, s.setQueue queue { x with copies := r, depth := x.depth - c.size })

/-- Releases the buffers or pages of a dequeued copy (R280). -/
def State.releaseCopy (s : State) (c : Copy) : State :=
  let q := c.queue / 131072
  match c.pkt with
  | some n =>
    let y := s.quad q
    (s.setQuad q { y with pd := y.pd - 1 }).unref n
  | none => c.pages.foldl (fun s p => s.setPageRef q p (s.pageRef q p - 1)) s

/-! ### Replication (R287 to R292) -/

def mcrKey (q i : Nat) : Nat := q * 2 ^ 18 + i % 2 ^ 18
def State.head (s : State) (q g : Nat) : BitVec 32 := KMap.get 0 s.tm.heads (mcrKey q g)
def State.elem (s : State) (q i : Nat) : BitVec 64 := KMap.get 0 s.tm.elems (mcrKey q i)

/-- The quadrants that hold a list for a group (R287). -/
def State.listQuads (s : State) (g : Nat) : List Nat := (List.range 4).filter (fun q => (s.head q g).getLsbD 31)

/-- Whether a copy is ready (R290): room, no pause, an open gate, a port that is not held. `earlier` says that an earlier copy of its queue is in
residue. -/
def State.copyReady (s : State) (queue size : Nat) (earlier : Bool) : Bool :=
  let p := portOfNode (s.queuePort queue)
  let c := queue % 8
  qEn (s.qcfg queue) && s.hasRoom queue size && !(decide (p < 128) && s.paused p c) && !s.classShut p c && !s.portHeld p && !earlier

/-- The residue span R, at most 1 s (R295). -/
def State.residueSpan (s : State) (q : Nat) : Nat :=
  min second (s.reg64 (Reg.MCR_RESIDUE_LO q))

def residueMax : Nat := 65536

def State.setResidue (s : State) (q : Nat) (l : List Residue) : State :=
  (s.setQuad q { s.quad q with residue := l }).setFld (Reg.MCR_STATUS q) Fld.MCR_STATUS_RESIDUE_OCC l.length

/-- A ready copy of a multicast packet is tested and enqueued, or refused (R290). -/
def State.mcTest (s : State) (queue pkt : Nat) (h : Ith) (b : List Byte) (encap : Option Nat) (ta : Nat) : State :=
  let q := queue / 131072
  match s.redTest queue h b with
  | (.refuse, s1) => s1.queueDrop queue
  | (r, s1) =>
    match s1.enqueueCopy queue pkt h b (r == .mark) encap ta with
    | (true, s2) => s2.bump (Ctr.MCR_COPIES q) 1
    | (false, s2) => s2

/-- One element of a walk (R288, R290, R291). -/
def State.walkElem (s : State) (q : Nat) (e : BitVec 64) (pkt : Nat) (h : Ith) (b : List Byte) (ta : Nat) (first : Bool) : State :=
  let w := e.toNat
  let queue := w / 2 ^ 45
  let encap := if w.testBit 24 then some (w / 2 ^ 25 % 2 ^ 20) else none
  let s0 := if first then s else s.ledAdd ldEgress q 0 1
  if queue / 131072 ≠ q then (s0.bump (Ctr.MCR_NO_LIST q) 1).egDrop q
  else
    let res := (s0.quad q).residue
    if s0.copyReady queue (admSize (b.length + 4) h.oneStep.isSome) (res.any (fun r => r.queue == queue)) then
      s0.mcTest queue pkt h b encap ta
    else if s0.residueSpan q = 0 then (s0.bump (Ctr.MCR_RESIDUE_EXPIRED q) 1).queueDrop queue
    else if residueMax ≤ res.length then (s0.bump (Ctr.MCR_RESIDUE_FULL q) 1).queueDrop queue
    else s0.setResidue q (res ++ [⟨pkt, queue, encap, h, b, ta, ta + s0.residueSpan q⟩])

/-- A walk along a list from an element (R289). -/
def State.mcWalk (s : State) (q : Nat) (pkt : Nat) (h : Ith) (b : List Byte) (ta : Nat) : Nat → Nat → Bool → State
  | 0, _, _ => s
  | fuel + 1, i, first =>
    let e := s.elem q i
    let s1 := s.walkElem q e pkt h b ta first
    if e.getLsbD 5 then s1 else s1.mcWalk q pkt h b ta fuel (e.toNat / 64 % 2 ^ 18) false

/-- Ends the hold of a packet whose walk has ended and of which no copy is in residue (R280, R291). -/
def State.endHold (s : State) (q pkt : Nat) : State :=
  if (s.quad q).residue.any (fun r => r.pkt == pkt) then s
  else
    match s.stored pkt with
    | some x => (s.setStored pkt (some { x with hold := false })).checkStored pkt
    | none => s

/-! ### The tail (R282) -/

/-- Stores the buffers of a reassembled packet under a new number. -/
def State.store1 (s : State) (q : Nat) (bufs : List Nat) (hold : Bool) : Nat × State :=
  let n := s.tm.nextPkt
  (n, { s with tm := { s.tm with nextPkt := n + 1 } }.setStored n (some ⟨q, bufs, 0, hold⟩))

/-- EGRESS_TAIL (R282): the last cell of a packet has been released in a quadrant that stores it. -/
def State.egressTail (s : State) (a : Asm) (bad : Bool) (q : Nat) (bufs : List Nat) : State :=
  let s0 := s.ledAdd ldEgress q 0 1
  if bad then ((s0.freeBufs q bufs).bump (Ctr.BUF_TAIL_BAD q) 1).egDrop q
  else if a.mc then
    let (n, s1) := (s0.bump (Ctr.MCR_PACKETS q) 1).store1 q bufs true
    let s2 := s1.mcWalk q n a.hdr a.data s.mono (2 ^ 18) ((s.head q a.dest).toNat % 2 ^ 18) true
    s2.endHold q n
  else
    let queue := (a.dest / 16 % 2 ^ 16) * 8 + a.cls
    if !qEn (s.qcfg queue) then ((s0.freeBufs q bufs).bump (Ctr.ADM_DROP_DISABLED q) 1).queueDrop queue
    else if !s.hasRoom queue (admSize (a.data.length + 4) a.hdr.oneStep.isSome) then
      ((s0.freeBufs q bufs).bump (Ctr.ADM_DROP_NO_ROOM q) 1).queueDrop queue
    else
      match s0.redTest queue a.hdr a.data with
      | (.refuse, s1) => (s1.freeBufs q bufs).queueDrop queue
      | (r, s1) =>
        let (n, s2) := s1.store1 q bufs false
        ((s2.enqueueCopy queue n a.hdr a.data (r == .mark) (a.hdr.encap.map (·.toNat)) s.mono).2).checkStored n

/-! ### Reassembly (R275, R276, R287) -/

def State.asm (s : State) (n : Nat) : Option Asm := KMap.get none s.fab.asms n
def State.setAsm (s : State) (n : Nat) (x : Option Asm) : State := { s with fab := { s.fab with asms := KMap.set none s.fab.asms n x } }

/-- The first buffer of a packet in a quadrant. -/
def State.firstBuf (s : State) (q hint : Nat) : (Nat × List Nat × Bool) × State :=
  match s.allocBuf q (firstPool (hint + 12)) with
  | (some i, s1) => ((q, [i], true), s1)
  | (none, s1) => ((q, [], false), (s1.bump (Ctr.BUF_NO_BUFFER q) 1).egDrop q |>.ledAdd ldEgress q 0 1)

/-- BUFFER_ALLOCATE (R275, R276): chains buffers until the bytes that have arrived fit, or frees what the packet holds. -/
def State.chainBufs (s : State) (q : Nat) : Nat → List Nat → Nat → Option (List Nat) × State
  | 0, bufs, _ => (some bufs, s)
  | fuel + 1, bufs, need =>
    if need ≤ (bufs.map partSize).sum then (some bufs, s)
    else
      match s.allocBuf q 1 with
      | (some i, s1) => s1.chainBufs q fuel (bufs ++ [i]) need
      | (none, s1) => (none, (((s1.freeBufs q bufs).bump (Ctr.BUF_NO_BUFFER q) 1).egDrop q).ledAdd ldEgress q 0 1)

/-- The bytes of a further cell in every quadrant that stores the packet. -/
def State.growParts (s : State) (need : Nat) (l : List (Nat × List Nat × Bool)) : List (Nat × List Nat × Bool) × State :=
  l.foldl (fun (acc, s) (q, bufs, ok) =>
    if !ok then (acc ++ [(q, bufs, ok)], s)
    else
      match s.chainBufs q 16 bufs need with
      | (some b, s1) => (acc ++ [(q, b, true)], s1)
      | (none, s1) => (acc ++ [(q, [], false)], s1)) ([], s)

/-- Opens a reassembly for a first cell (R275, R287). -/
def State.openAsm (s : State) (c : RxCell) : Nat × State :=
  let n := s.fab.nextAsm
  let s0 := { s with fab := { s.fab with nextAsm := n + 1 } }
  let qs := if c.mc then s.listQuads c.dest else [((c.dest / 16 % 2 ^ 16) * 8 + c.cls) / 131072]
  let s1 := if qs.isEmpty then (s0.bump (Ctr.MCR_NO_LIST 0) 1).egDrop 0 |>.ledAdd ldEgress 0 0 1 else s0
  let (parts, s2) := qs.foldl (fun (l, s) q => let (p, s1) := s.firstBuf q c.hdr.hint.toNat; (l ++ [p], s1)) ([], s1)
  (n, s2.setAsm n (some ⟨c.mc, c.cls, c.dest, c.hdr, [], parts⟩))

/-- Adds a cell's bytes to a reassembly; its last cell ends it (R275, R282). -/
def State.asmCell (s : State) (n : Nat) (c : RxCell) : State :=
  match s.asm n with
  | none => s
  | some a =>
    let data := a.data ++ c.data
    let (parts, s1) := s.growParts (data.length + 16) a.parts
    let a1 := { a with data := data, parts := parts }
    if !c.last then s1.setAsm n (some a1)
    else parts.foldl (fun s (q, bufs, ok) => if ok then s.egressTail a1 c.bad q bufs else s) (s1.setAsm n none)

/-- Discards a reassembly whose packet is lost. -/
def State.dropAsm (s : State) (n : Nat) : State :=
  match s.asm n with
  | none => s
  | some a => a.parts.foldl (fun s (q, bufs, ok) => if ok then s.freeBufs q bufs else s) (s.setAsm n none)

/-! ### Residue commands (R291) -/

/-- Takes entry `n` out of a residue list and ends its packet's hold where it was the last. -/
def State.leaveResidue (s : State) (q n : Nat) (pkt : Nat) : State :=
  (s.setResidue q ((s.quad q).residue.eraseIdx n)).endHold q pkt

/-- Expires entry `n`. -/
def State.expire1 (s : State) (q n : Nat) (r : Residue) : State :=
  ((s.bump (Ctr.MCR_RESIDUE_EXPIRED q) 1).queueDrop r.queue).leaveResidue q n r.pkt

/-- RESIDUE_RETEST (R291): entry `n` is tested again; at or after its deadline it expires. -/
def residueRetest (q n : Nat) (s : State) : State :=
  let l := (s.quad q).residue
  match l[n]? with
  | none => s
  | some r =>
    if r.deadline ≤ s.mono then s.expire1 q n r
    else if s.copyReady r.queue (admSize (r.data.length + 4) r.hdr.oneStep.isSome) ((l.take n).any (fun x => x.queue == r.queue)) then
      (s.mcTest r.queue r.pkt r.hdr r.data r.encap r.ta).leaveResidue q n r.pkt
    else s

/-- RESIDUE_EXPIRE (R291): the entries whose window has closed expire, oldest first. -/
def residueExpire (q : Nat) (s : State) : State :=
  (List.range (s.quad q).residue.length).foldl (fun s _ =>
    match (s.quad q).residue.findIdx? (fun r => decide (r.deadline ≤ s.mono)) with
    | none => s
    | some n => match (s.quad q).residue[n]? with | some r => s.expire1 q n r | none => s) s

/-- COPY_LINK_CROSSED (R280): the last byte of a dequeued copy has crossed. -/
def copyLinkCrossed (n : Nat) (s : State) : State :=
  match KMap.get none s.eg.copies n with
  | none => s
  | some c =>
    if c.crossed then s
    else
      let keep := if c.stage = .done then none else some { c with crossed := true }
      { s with eg := { s.eg with copies := KMap.set none s.eg.copies n keep } }.releaseCopy c.copy

/-! ### Quarantine and rebuild (R281) -/

/-- BUF_POOL_QUARANTINE (R281). -/
def State.quarantine (s : State) (q i : Nat) : State :=
  if s.quarantined q i then s
  else
    let f := s.fld (Reg.BUF_STATUS q) Fld.BUF_STATUS_QUAR
    let x := s.quad q
    ((s.setFld (Reg.BUF_STATUS q) Fld.BUF_STATUS_QUAR (f ||| 2 ^ quarBit i)).setQuad q
      { x with rebuild := KMap.set 0 x.rebuild i (s.mono + spanExp 6) }).ownerEvent 0x0700 2 q
      (Config.eventLoc 0x0700 (4 * q + i)).toNat []

/-- BUF_POOL_REBUILT (R281): the sweep has ended; the held frees apply, the quarantine ends, and the difference enters the loss ledger. -/
def bufPoolRebuilt (q i : Nat) (s : State) : State :=
  if !s.quarantined q i then s
  else
    let f := s.fld (Reg.BUF_STATUS q) Fld.BUF_STATUS_QUAR
    let x := s.quad q
    let held := KMap.get 0 x.heldFree i
    let d := KMap.get 0 x.bias i
    let s1 := (s.setFld (Reg.BUF_STATUS q) Fld.BUF_STATUS_QUAR (f ^^^ 2 ^ quarBit i)).setQuad q
      { x with heldFree := KMap.set 0 x.heldFree i 0, bias := KMap.set 0 x.bias i 0, rebuild := KMap.set 0 x.rebuild i 0 }
    let s2 := (List.range held).foldl (fun s _ => s.freeBuf q i) s1
    ((s2.bump (Ctr.BUF_REBUILD q) 1).loss ldPool lcRebuild (4 * q + i) d (d * partSize i) 0 false).ownerEvent 0x0701 2 q
      (Config.eventLoc 0x0701 (4 * q + i)).toNat []

/-! ### Registers (R274, R293 to R295) -/

/-- What a write of a pool size register names. -/
def bufReg (q : Nat) : BufReg → Nat
  | .pool0 => Reg.BUF_POOL_CFG0 q
  | .pool1 => Reg.BUF_POOL_CFG1 q
  | .hbmPages => Reg.BUF_HBM_PAGES q

def bufMask : BufReg → Word
  | .pool0 => 0x3FFFF
  | .pool1 => 0x0FFF7FFF
  | .hbmPages => 0x1FFFFFF

/-- Bytes of packet SRAM that the pools of a quadrant take. -/
def State.sramBytes (s : State) (q : Nat) : Nat := s.partCfg q 0 * 256 + s.partCfg q 1 * 2048 + s.partCfg q 2 * 16384

/-- BUF_CFG_WRITE (R274): a write of a pool size is refused while EN is set or where the SRAM parts would exceed 36 MiB. -/
def bufCfgWrite (q : Nat) (r : BufReg) (v : Word) (s : State) : State :=
  let s1 := s.setReg (bufReg q r) (v &&& bufMask r)
  if s.bufEn q || decide (36 * 2 ^ 20 < s1.sramBytes q) then s.setFlag (Reg.BUF_STATUS q) Fld.BUF_STATUS_CFG_REFUSED true
  else s1.capLow q

def State.qdata (s : State) (q : Nat) : BitVec 128 :=
  BitVec.ofNat 128 ((s.reg (Reg.ADM_QDATA q 3)).toNat * 2 ^ 96 + (s.reg (Reg.ADM_QDATA q 2)).toNat * 2 ^ 64 +
    (s.reg (Reg.ADM_QDATA q 1)).toNat * 2 ^ 32 + (s.reg (Reg.ADM_QDATA q 0)).toNat)
def State.setQdata (s : State) (q w : Nat) : State :=
  (List.range 4).foldl (fun s i => s.setReg (Reg.ADM_QDATA q i) (BitVec.ofNat 32 (w >>> (32 * i)))) s

/-- Whether a node's state lay in a retired region that no spare replaced: it stays disabled (R338). -/
def nodePlace (lv n : Nat) : Nat := 160 + (Config.nodeRegion (nodeKey lv n)).toNat
def State.nodeLost (s : State) (lv n : Nat) : Bool := s.regionLost 4 (nodePlace lv n)

def State.admErr (s : State) (q : Nat) : State := s.setFlag (Reg.ADM_QSTATUS q) Fld.ADM_QSTATUS_ERR true

/-- A write of ADM_QCMD (R294). -/
def admCmdWrite (q : Nat) (v : Word) (s : State) : State :=
  let n := q * 131072 + Fld.ADM_QCMD_QUEUE.get v
  match Fld.ADM_QCMD_OP.get v with
  | 0 => s.setQdata q (s.qcfg n).toNat
  | 1 =>
    let w := s.qdata q
    if bitsOf w 28 0 ≠ 0 ∨ 12 ≤ qAlpha w then s.admErr q
    else { s with tm := { s.tm with qcfg := KMap.set 0 s.tm.qcfg n (if s.nodeLost lvClass n then w &&& ~~~ (0x20000000 : BitVec 128) else w) } }
  | 2 =>
    let x := s.queue n
    let inRes := (s.quad q).residue.any (fun r => r.queue == n)
    s.setQdata q (((s.spilling n).toNat * 2 ^ 31 + inRes.toNat * 2 ^ 30 + x.copies.length % 2 ^ 30) * 2 ^ 96 + x.drops * 2 ^ 64 +
      x.depth % 2 ^ 64)
  | _ => s.admErr q

/-- A write of MCR_WR_CMD (R289, R295). Walks end in the cycle of their tail in this model, so SAFE stays set. -/
def mcrCmdWrite (q : Nat) (v : Word) (s : State) : State :=
  let i := Fld.MCR_WR_CMD_INDEX.get v
  let lo := s.reg (Reg.MCR_WR_DATA_LO q)
  let hi := s.reg (Reg.MCR_WR_DATA_HI q)
  let err (s : State) : State := s.setFlag (Reg.MCR_STATUS q) Fld.MCR_STATUS_ERR true
  match Fld.MCR_WR_CMD_OP.get v with
  | 0 =>
    if lo.toNat % 32 ≠ 0 then err s
    else { s with tm := { s.tm with elems := KMap.set 0 s.tm.elems (mcrKey q i) (BitVec.ofNat 64 (hi.toNat * 2 ^ 32 + lo.toNat)) } }
  | 1 =>
    if lo.toNat / 2 ^ 18 % 2 ^ 13 ≠ 0 then err s
    else { s with tm := { s.tm with heads := KMap.set 0 s.tm.heads (mcrKey q i) lo } }
  | 2 =>
    let e := (s.elem q i).toNat
    (s.setReg (Reg.MCR_WR_DATA_LO q) (BitVec.ofNat 32 e)).setReg (Reg.MCR_WR_DATA_HI q) (BitVec.ofNat 32 (e / 2 ^ 32))
  | _ => s.setReg (Reg.MCR_WR_DATA_LO q) (s.head q i)

/-- A command register write with its operation. -/
def withOp (f : Fld) (op : Nat) (v : Word) : Word := f.put v op

/-- RESIDUE_RETEST. -/
def execResidueRetest (q : Fin 4) (n : BitVec 16) (s : State) : Host.Outcome State Fault Refusal := answer s (residueRetest q.val n.toNat s)
/-- RESIDUE_EXPIRE. -/
def execResidueExpire (q : Fin 4) (s : State) : Host.Outcome State Fault Refusal := answer s (residueExpire q.val s)
/-- COPY_LINK_CROSSED. -/
def execCopyLinkCrossed (c : BitVec 32) (s : State) : Host.Outcome State Fault Refusal := answer s (copyLinkCrossed c.toNat s)
/-- BUF_POOL_REBUILT. -/
def execBufPoolRebuilt (q : Fin 4) (i : Fin 4) (s : State) : Host.Outcome State Fault Refusal := answer s (bufPoolRebuilt q.val i.val s)
/-- BUF_CFG_WRITE. -/
def execBufCfgWrite (q : Fin 4) (r : BufReg) (v : Word) (s : State) : Host.Outcome State Fault Refusal := answer s (onT (bufCfgWrite q.val r v) s)
/-- READ_CFG of ADM_QCMD. -/
def execReadCfg (q : Fin 4) (v : Word) (s : State) : Host.Outcome State Fault Refusal :=
  answer s (onT (admCmdWrite q.val (withOp Fld.ADM_QCMD_OP 0 v)) s)
/-- WRITE_CFG of ADM_QCMD. -/
def execWriteCfg (q : Fin 4) (v : Word) (s : State) : Host.Outcome State Fault Refusal :=
  answer s (onT (admCmdWrite q.val (withOp Fld.ADM_QCMD_OP 1 v)) s)
/-- READ_STATE of ADM_QCMD. -/
def execReadState (q : Fin 4) (v : Word) (s : State) : Host.Outcome State Fault Refusal :=
  answer s (onT (admCmdWrite q.val (withOp Fld.ADM_QCMD_OP 2 v)) s)
/-- WRITE_ELEM of MCR_WR_CMD. -/
def execWriteElem (q : Fin 4) (v : Word) (s : State) : Host.Outcome State Fault Refusal :=
  answer s (onT (mcrCmdWrite q.val (withOp Fld.MCR_WR_CMD_OP 0 v)) s)
/-- WRITE_HEAD of MCR_WR_CMD. -/
def execWriteHead (q : Fin 4) (v : Word) (s : State) : Host.Outcome State Fault Refusal :=
  answer s (onT (mcrCmdWrite q.val (withOp Fld.MCR_WR_CMD_OP 1 v)) s)
/-- READ_ELEM of MCR_WR_CMD. -/
def execReadElem (q : Fin 4) (v : Word) (s : State) : Host.Outcome State Fault Refusal :=
  answer s (onT (mcrCmdWrite q.val (withOp Fld.MCR_WR_CMD_OP 2 v)) s)
/-- READ_HEAD of MCR_WR_CMD. -/
def execReadHead (q : Fin 4) (v : Word) (s : State) : Host.Outcome State Fault Refusal :=
  answer s (onT (mcrCmdWrite q.val (withOp Fld.MCR_WR_CMD_OP 3 v)) s)

end Sys2Proof.Machine
end

