-- ==== Sys2Proof/Machine/MemBase.lean ====
section
/-! DEFINITION. Corrected and uncorrectable words, row repair and region retirement (R333 to R338): what every read of a protected memory
shares. -/

namespace Sys2Proof.Machine

/-! ### Locations (R336, R541) -/

/-- The memory kind of a location. -/
def memKind : MemLoc → Nat
  | .tableDram .. => 0
  | .hbm .. => 1
  | .tableSram .. => 2
  | .packetSram .. => 3
  | .queueState .. => 4

/-- Die and cluster of a memory: cluster 63 for external memories and for the table SRAM that all slices share (R356). -/
def memHome : MemLoc → Nat × Nat
  | .tableDram .. => (1, 63)
  | .hbm .. => (2, 63)
  | .tableSram .. => (1, 63)
  | .packetSram q _ _ => (2, q.val)
  | .queueState q _ => (2, q.val)

/-- The word or index of an event's LOCATION (R385). -/
def memWord : MemLoc → Nat
  | .tableDram _ _ _ w => w.toNat
  | .hbm _ _ _ w => w.toNat
  | .tableSram _ i => i.toNat
  | .packetSram _ _ b => b.toNat
  | .queueState _ n => n.toNat

/-- A location as one number, within its kind. -/
def memKey : MemLoc → Nat
  | .tableDram c r b w => ((c.val * 2 + r.val) * 16 + b.val) * 2 ^ 20 + w.toNat
  | .hbm st pc b w => ((st.val * 32 + pc.val) * 16 + b.val) * 2 ^ 20 + w.toNat
  | .tableSram t i => t.toNat * 2 ^ 25 + i.toNat
  | .packetSram q p b => (q.val * 3 + p.val) * 2 ^ 18 + b.toNat
  | .queueState q n => q.val * 2 ^ 20 + n.toNat

/-- Words of one bank of a table DRAM device: 2 Gb or 4 Gb in 16 banks (R321). -/
def State.bankWords (s : State) (c : Nat) : Nat := if s.flag (Reg.TDC_CH_CFG c) Fld.TDC_CH_CFG_DENSITY then 2 ^ 20 else 2 ^ 19

/-- Regions of 64 MiB that a channel carries (R322). -/
def State.chRegions (s : State) (c : Nat) : Nat :=
  (if s.flag (Reg.TDC_CH_CFG c) Fld.TDC_CH_CFG_RANKS then 2 else 1) * (if s.flag (Reg.TDC_CH_CFG c) Fld.TDC_CH_CFG_DENSITY then 8 else 4)

/-- The first byte of a packet SRAM buffer within its quadrant: the parts lie one after another. -/
def State.bufByte (s : State) (q part i : Nat) : Nat :=
  ((List.range part).map (fun j => s.partCfg q j * partSize j)).sum + i * partSize part

/-- The region of a location, numbered as in the repair log: stack × 128 + region, channel × 16 + region, or the 1 MiB region of its die
(R541). -/
def State.memRegion (s : State) : MemLoc → Nat
  | .tableDram c r b w => c.val * 16 + (r.val * 16 * s.bankWords c.val + b.val * s.bankWords c.val + w.toNat) / 2 ^ 21
  | .hbm st _ b w => st.val * 128 + b.val * 8 + w.toNat / 2 ^ 17
  | .tableSram t i =>
    match t.toNat with
    | 0 => i.toNat / 32768 % 32
    | 1 => 32 + i.toNat / 131072
    | _ => egtSram i.toNat
  | .packetSram q p b => q.val * 40 + s.bufByte q.val p.val b.toNat / 2 ^ 20
  | .queueState q n => nodePlace lvClass (q.val * 131072 + n.toNat)

def memRow (l : MemLoc) : Nat := (Config.memRow (memKind l) (memKey l)).toNat

/-- An event of this chapter, to the owner function (R336, R385). -/
def State.memEvent (s : State) (code : Nat) (l : MemLoc) : State :=
  s.ownerEvent code (memHome l).1 (memHome l).2 (memWord l)
    (beBytes 1 (memKind l) ++ beBytes 7 (Config.memPayload code (memKind l) (memKey l)).toNat)

/-! ### Counts and logs (R334, R335) -/

/-- The corrected and uncorrectable counters of a location; a metering channel has none here (R320). -/
def corrCtr : MemLoc → Option Ctr
  | .tableDram c .. => if c.val < 24 then some (Ctr.TDC_CORR c.val) else none
  | .hbm st .. => some (Ctr.HBMC_CORR st.val)
  | .tableSram .. => some Ctr.TDC_SRAM_CORR
  | _ => some Ctr.HBMC_SRAM_CORR

def uncorrCtr : MemLoc → Option Ctr
  | .tableDram c .. => if c.val < 24 then some (Ctr.TDC_UNCORR c.val) else none
  | .hbm st .. => some (Ctr.HBMC_UNCORR st.val)
  | .tableSram .. => some Ctr.TDC_SRAM_UNCORR
  | _ => some Ctr.HBMC_SRAM_UNCORR

def State.bumpOpt (s : State) (c : Option Ctr) : State := match c with | some x => s.bump x 1 | none => s

/-- Whether a location lies in metering DRAM, which only the Cyclometer sees (R335). -/
def isMeter : MemLoc → Bool
  | .tableDram c .. => decide (24 ≤ c.val)
  | _ => false

/-- A corrected word: counted; at the threshold of its memory kind within one second MEM_CORR_THRESH is raised once (R334). -/
def State.memCorr (s : State) (l : MemLoc) : State :=
  if isMeter l then s
  else
    let s1 := s.bumpOpt (corrCtr l)
    let k := memKind l
    let sec := (if (memHome l).1 = 1 then s.now else s.nowT) / second + 1
    let old := KMap.get (0, 0) s1.mem.ce k
    let n := if old.1 = sec then old.2 + 1 else 1
    let s2 := { s1 with mem := { s1.mem with ce := KMap.set (0, 0) s1.mem.ce k (sec, n) } }
    let thresh := if (memHome l).1 = 1 then s.fld Reg.TDC_CE_CFG Fld.TDC_CE_CFG_THRESH else s.fld Reg.HBMC_CE_CFG Fld.HBMC_CE_CFG_THRESH
    if n = thresh then (s2.ierrLog ieMemCorr (memHome l).1 (memHome l).2 0x0800 (memWord l)).memEvent 0x0800 l else s2

/-- Logs the location of an uncorrectable word of an external memory, with the service class of its request (R335, R339). -/
def State.errLog (s : State) (l : MemLoc) (cls : Nat) : State :=
  let put (loc info : Nat) (w : Nat) (valid ovr cl : Fld) : State :=
    let s1 := if s.flag info valid then s.setFlag info ovr true else s.setFlag info valid true
    (s1.setReg loc (BitVec.ofNat 32 w)).setFld info cl cls
  match l with
  | .tableDram c r b w =>
    put Reg.TDC_ERR_LOC Reg.TDC_ERR_INFO (c.val * 2 ^ 27 + r.val * 2 ^ 26 + b.val * 2 ^ 22 + w.toNat) Fld.TDC_ERR_INFO_VALID
      Fld.TDC_ERR_INFO_OVERRUN Fld.TDC_ERR_INFO_CLASS
  | .hbm st pc b w =>
    put Reg.HBMC_ERR_LOC Reg.HBMC_ERR_INFO (st.val * 2 ^ 29 + pc.val * 2 ^ 24 + b.val * 2 ^ 20 + w.toNat) Fld.HBMC_ERR_INFO_VALID
      Fld.HBMC_ERR_INFO_OVERRUN Fld.HBMC_ERR_INFO_CLASS
  | _ => s

/-! ### Retirement (R338) -/

def State.setGone (s : State) (kind region v : Nat) : State :=
  { s with mem := { s.mem with gone := KMap.set 0 s.mem.gone (goneKey kind region) v } }

/-- The record of a repair log entry (R478, R541). -/
def repairRecord (kind : Nat) (retire : Bool) (region row : Nat) : Nat := kind * 2 ^ 28 + retire.toNat * 2 ^ 27 + region % 2 ^ 11 * 2 ^ 16 + row

/-- MEM_RETIRE and its repair log entry. -/
def State.noteRetire (s : State) (l : MemLoc) : State :=
  (s.memEvent 0x0803 l).logRepair (repairRecord (memKind l) true (s.memRegion l) (memRow l)) rlMemory true (memHome l).1 (memHome l).2 0

/-- Removes the routes whose trie nodes lie in a lost region. -/
def State.loseRoutes (s : State) (f : Route → Bool) : State :=
  { s with tab := { s.tab with routes := s.tab.routes.filter (fun r => !f r) } }

/-- Frees the exact-match slots that a test names: their entries are lost. -/
def State.loseSlots (s : State) (f : Nat → Bool) : State :=
  { s with tab := { s.tab with exm := s.tab.exm.filter (fun i _ => !f i) } }

/-- The last stage of SRAM reaches IPv4 /28 and IPv6 /48 (R161). -/
def Route.inDram (r : Route) : Bool := if r.v6 then decide (48 < r.len ∧ r.len ≤ 64) else decide (28 < r.len)

/-- The contents of a table DRAM region are lost. -/
def State.loseDram (s : State) (region : Nat) : State :=
  (s.loseRoutes (fun r => r.inDram && tableRegion (Config.triePlace r.v6 r.table r.len r.pfx).toNat == region)).loseSlots
    (fun i => s.exmDram i == region)

/-- The contents of a table SRAM region are lost. -/
def State.loseSram (s : State) (region : Nat) : State :=
  if region < 32 then
    s.loseRoutes (fun r => !r.inDram && decide (r.len ≤ 64) && (Config.trieSram r.v6 r.table r.len r.pfx).toNat == region)
  else if region < 96 then s.loseSlots (fun i => exmSram i == region)
  else { s with tab := { s.tab with egt := s.tab.egt.filter (fun i _ => egtSram i != region) } }

/-- A table DRAM region retires: one that holds tables is copied to a spare of its channel, or its contents are lost; a spare or an
aperture region is given up (R322, R338). -/
def State.retireDram (s : State) (c region : Nat) : State :=
  let st := Reg.TDC_CH_STATUS c
  let r := region % 16
  let left := s.fld st Fld.TDC_CH_STATUS_SPARE_LEFT
  let s1 := (s.setFld st Fld.TDC_CH_STATUS_RETIRED (s.fld st Fld.TDC_CH_STATUS_RETIRED + 1)).modCap 1 63 (fun w => { w with count := w.count + 1 })
  if r < 2 then
    if 0 < left then
      let s2 := (s1.setFld st Fld.TDC_CH_STATUS_SPARE_LEFT (left - 1)).setGone 0 region 1
      { s2 with mem := { s2.mem with copying := KMap.set 0 s2.mem.copying region 1 } }
    else (s1.setGone 0 region 2).loseDram region
  else if r < 2 + s.fld (Reg.TDC_CH_CFG c) Fld.TDC_CH_CFG_SPARE_REGIONS then
    (s1.setFld st Fld.TDC_CH_STATUS_SPARE_LEFT (left - 1)).setGone 0 region 1
  else s1.setGone 0 region 1

/-- An HBM region retires: its pages leave the pool (R338). -/
def State.retireHbm (s : State) (region : Nat) : State :=
  let st := region / 128
  let q := st / 2
  let s1 := s.setFld (Reg.HBMC_ST_STATUS st) Fld.HBMC_ST_STATUS_RETIRED (s.fld (Reg.HBMC_ST_STATUS st) Fld.HBMC_ST_STATUS_RETIRED + 1)
  let s2 := { (s1.setGone 1 region 1) with tm := { s1.tm with hbmGone := KMap.set 0 s1.tm.hbmGone region 1 } }
  (s2.modCap 2 q (fun w => { w with count := w.count + 1, percent := 100 * (256 - (w.count + 1)) / 256 })).capLow q

/-- A packet SRAM region retires: its buffers leave their part as they free; how many of them are in use is open within what the part's
counts allow (R338). -/
def State.retirePacket (s : State) (q part region : Nat) : State :=
  let n := min (s.partCfg q part) (2 ^ 20 / partSize part)
  let x := s.quad q
  let use := KMap.get 0 x.use part
  let free := s.partCfg q part - use - KMap.get 0 x.gone part
  let lo := n - free
  let hi := min n use
  let (d, s1) := s.draw
  let busy := lo + d % (hi - lo + 1)
  ((s1.setGone 3 region 1).setQuad q
    { x with gone := KMap.set 0 x.gone part (KMap.get 0 x.gone part + (n - busy)), owe := KMap.set 0 x.owe part (KMap.get 0 x.owe part + busy) }).modCap
    2 63 (fun w => { w with count := w.count + 1 })

/-- A queue state region retires: a hidden spare takes its place, or the queues and nodes whose state lay there are disabled (R338). -/
def State.retireQueue (s : State) (region : Nat) : State :=
  let spare := (capOf (s.reg (Reg.DEV_CAP 2 63))).spare
  if 0 < spare then (s.setGone 4 region 1).modCap 2 63 (fun w => { w with spare := spare - 1 })
  else
    let s1 := s.setGone 4 region 2
    let off (k : Nat) (w : BitVec 128) : BitVec 128 := if nodePlace (k / 2 ^ 20) (k % 2 ^ 20) = region then w &&& (0x7FFFFFFFFFFFFFFFFFFFFFFFFFFFFFFF : BitVec 128) else w
    let offq (n : Nat) (w : BitVec 128) : BitVec 128 := if nodePlace lvClass n = region then w &&& ~~~ (0x20000000 : BitVec 128) else w
    { s1 with sch := { s1.sch with cfg := s1.sch.cfg.keys.foldl (fun m k => KMap.set 0 m k (off k (KMap.get 0 m k))) s1.sch.cfg },
              tm := { s1.tm with qcfg := s1.tm.qcfg.keys.foldl (fun m n => KMap.set 0 m n (offq n (KMap.get 0 m n))) s1.tm.qcfg } }

/-- A table SRAM region retires: a hidden spare takes its place, or its entries are lost (R338). -/
def State.retireSram (s : State) (region : Nat) : State :=
  let spare := (capOf (s.reg (Reg.DEV_CAP 1 63))).spare
  if 0 < spare then (s.setGone 2 region 1).modCap 1 63 (fun w => { w with spare := spare - 1 })
  else (s.setGone 2 region 2).loseSram region

/-- MEM_RETIRE (R338): a region goes out of use; one that has, stays. -/
def State.memRetire (s : State) (l : MemLoc) : State :=
  let r := s.memRegion l
  let g := KMap.get 0 s.mem.gone (goneKey (memKind l) r)
  if g = 2 ∨ (g = 1 ∧ memKind l ≠ 2 ∧ memKind l ≠ 4) then s
  else
    let s1 := s.noteRetire l
    match l with
    | .tableDram c .. => s1.retireDram c.val r
    | .hbm .. => s1.retireHbm r
    | .tableSram .. => s1.retireSram r
    | .packetSram q p _ => s1.retirePacket q.val p.val r
    | .queueState .. => s1.retireQueue r

/-! ### Repair (R337) -/

/-- The spare rows of a region: none in table DRAM, 32 in an HBM region, 16 in 1 MiB of SRAM. -/
def spareRows (kind : Nat) : Nat := match kind with | 0 => 0 | 1 => 32 | _ => 16

/-- MEM_REPAIR (R337): a failing row takes a spare row of its region, or its region retires. -/
def State.rowFails (s : State) (l : MemLoc) : State :=
  let k := memKind l
  let key := goneKey k (s.memRegion l)
  let used := KMap.get 0 s.mem.spare key
  if used < spareRows k then
    let s1 := { s with mem := { s.mem with spare := KMap.set 0 s.mem.spare key (used + 1) } }
    let s2 := (s1.memEvent 0x0802 l).logRepair (repairRecord k false (s.memRegion l) (memRow l)) rlMemory true (memHome l).1 (memHome l).2 0
    match l with
    | .hbm st .. => s2.bump (Ctr.HBMC_REPAIR st.val) 1
    | _ => s2
  else s.memRetire l

/-- What is lost with a word, wherever it is read: an exact-match entry or summary, an egress entry; a word of an accounting structure
enters the loss ledger with the amounts it lost, which are open (R335, R447). -/
def State.wordLost (s : State) (l : MemLoc) : State :=
  match l with
  | .tableDram .. =>
    let i := (Config.exmAt (Config.draw s.tab.exmSeed) (memKey l)).toNat
    s.loseSlots (· == i)
  | .tableSram t i =>
    match t.toNat with
    | 0 => s
    | 1 => s.loseSlots (fun n => n / 16 == i.toNat / 4)
    | _ => { s with tab := { s.tab with egt := s.tab.egt.filter (fun n _ => n / 2 != i.toNat / 2) } }
  | .queueState q _ =>
    let (d, s1) := s.draw
    s1.loss ldEgress lcUncorr q.val (BitVec.ofNat 32 d).toInt (BitVec.ofNat 64 (d >>> 32)).toInt 0 false
  | _ => s

/-- MEM_UNCORR (R335): an uncorrectable word is counted, logged and raised as a non-fatal internal error; its row is failing. `cls` is the
service class of the request that met it. -/
def State.memUncorr (s : State) (l : MemLoc) (cls : Nat) : State :=
  if isMeter l then s
  else
    let s1 := ((s.bumpOpt (uncorrCtr l)).errLog l cls).ierrLog ieMemUncorr (memHome l).1 (memHome l).2 0x0801 (memWord l)
    ((s1.memEvent 0x0801 l).wordLost l).rowFails l

/-! ### Neighbour refresh (R328) -/

/-- An access activates a row: with probability 2^-k the two rows beside it are refreshed, and count (R328). Whether an access finds its row open
is not stated; the draw covers that too. -/
def State.neighbour (s : State) (m : MemCtl) : State :=
  let k := match m with
    | .tdc _ => s.fld Reg.TDC_CFG Fld.TDC_CFG_NR_K
    | .hbm _ => s.fld Reg.HBMC_CFG Fld.HBMC_CFG_NR_K
  if k = 0 then s
  else
    let (d, s1) := s.draw
    if d % 2 ^ k = 0 then s1.bump (match m with | .tdc c => Ctr.TDC_NR_REFRESH c.val | .hbm t => Ctr.HBMC_NR_REFRESH t.val) 2 else s1

/-- An access to a word of an external memory; metering channels are the Cyclometer's own. -/
def State.activate (s : State) (l : MemLoc) : State :=
  match l with
  | .tableDram c .. => if h : c.val < 24 then s.neighbour (.tdc ⟨c.val, h⟩) else s
  | .hbm st .. => s.neighbour (.hbm st)
  | _ => s

/-- An access to a granule: a table DRAM channel, or one of the two stacks of an HBM quadrant. -/
def State.activateAt (s : State) (hbm : Bool) (i : Nat) : State :=
  if hbm then
    let (d, s1) := s.draw
    s1.neighbour (.hbm ⟨(2 * i + d % 2) % 8, Nat.mod_lt _ (by decide)⟩)
  else if h : i < 24 then s.neighbour (.tdc ⟨i, h⟩)
  else s

end Sys2Proof.Machine
end

