-- ==== Sys2Proof/Machine/Time.lean ====
section
/-! DEFINITION. Equinox network time (R43 to R68): increments, steps, markers, captures, references, latches and the
servo watchdog. -/

namespace Sys2Proof.Machine

/-- The nominal increment of R47. -/
def nominalInc : Nat := 0x16E80FE03

/-- Whether an increment lies in nominal × (1 ± 2^-10) (R48). -/
def incInRange (v : Nat) : Bool :=
  decide (nominalInc * 1023 ≤ v * 1024) && decide (v * 1024 ≤ nominalInc * 1025)

/-- TIME_INC_WRITE (R48, R67): a write of the pair schedules the increment for the write instant plus 2^-22 s, replacing
one not yet in force; a value out of range is refused. -/
def timeIncWrite (v : BitVec 64) (s : State) : State :=
  if incInRange v.toNat then
    { s with time := { s.time with pendInc := some (v, s.mono + spanExp 22), lastInc := s.mono } }
      |>.setFlag Reg.TIME_STATUS Fld.TIME_STATUS_WD_HOLDOVER false
  else s.setFlag Reg.TIME_STATUS Fld.TIME_STATUS_INC_REFUSED true

/-- Whether the die-to-die link carries flits for both dies (R39). -/
def State.linkUsable (s : State) : Bool := s.flag Reg.DEV_DIE_STATUS Fld.DEV_DIE_STATUS_LINK_UP

/-- TIME_INC_APPLY (R48): the pending increment takes effect on the master, and on the follower unless the link is
quiesced. -/
def timeIncApply (s : State) : State :=
  match s.time.pendInc with
  | none => s
  | some (v, target) =>
    if s.mono < target then s
    else
      let s1 := s.setReg64 Reg.TIME_INC_LO v.toNat
      { s1 with time := { s1.time with pendInc := none,
                                       followerInc := if s1.linkUsable then v else s1.time.followerInc } }

/-- The instant in TIME_SET (R49). -/
def State.timeSet (s : State) : Nat :=
  (s.fld Reg.TIME_SET_SEC_HI Fld.TIME_SET_SEC_HI_SEC) * 2 ^ 64 + (s.reg Reg.TIME_SET_SEC_LO).toNat * 2 ^ 32 +
    (s.reg Reg.TIME_SET_FRAC).toNat

/-- The signed offset of PTP_PPS_OUT in units of 2^-36 s (R57). -/
def State.ppsOffset (s : State) : Int :=
  (BitVec.ofNat 16 (s.fld Reg.TIME_PPS_OUT_CFG Fld.TIME_PPS_OUT_CFG_OFFSET)).toInt

/-- The index of the last integer second plus OFFSET that has been reached. -/
def State.ppsIndex (s : State) : Nat := (((s.time.master.toNat >>> 28 : Nat) : Int) - s.ppsOffset).toNat / 2 ^ 36

/-- A write of TIME_CTRL (R49, R50, R68): SERVICE is set-only; SERVICE as it stands after the write decides whether STEP is
captured or refused, and setting SERVICE cancels a pending step. -/
def timeCtrlWrite (v : Word) (s : State) : State :=
  let was := s.flag Reg.TIME_CTRL Fld.TIME_CTRL_SERVICE
  let service := was || Fld.TIME_CTRL_SERVICE.get v == 1
  let step := Fld.TIME_CTRL_STEP.get v == 1
  let w := Fld.TIME_CTRL_STEP.put (Fld.TIME_CTRL_SERVICE.put (v &&& 0x1FFF) service.toNat) 0
  let rise := !s.flag Reg.TIME_CTRL Fld.TIME_CTRL_PPS_OUT_EN && Fld.TIME_CTRL_PPS_OUT_EN.get v == 1
  let s0 := s.setReg Reg.TIME_CTRL w
  let s1 := if rise then { s0 with time := { s0.time with trig := KMap.set 0 s0.time.trig tgPps s0.ppsIndex } } else s0
  let s2 :=
    if service && s1.time.pendStep.isSome then
      { s1 with time := { s1.time with pendStep := none } }
        |>.setFlag Reg.TIME_STATUS Fld.TIME_STATUS_STEP_REFUSED true
    else s1
  if step then
    if service then s2.setFlag Reg.TIME_STATUS Fld.TIME_STATUS_STEP_REFUSED true
    else { s2 with time := { s2.time with pendStep := some (s2.timeSet, s2.mono + spanExp 22) } }
  else s2

/-- The last index of a trigger of a period after a step to `t` from `old`: a backward step makes the multiples from `t` on
due again, a forward step leaves those it skips due once (R49). -/
def trigAfterStep (old t period last : Nat) : Nat := if t < old then min last ((t - 1) / period) else last

/-- The absolute triggers with their periods: those of the time block, of audits, aging sweeps, checkpoints and the governor, the windows of the
bundles and the sampling rounds of the quadrants. -/
def stepTrigs : List (Nat × Nat) :=
  [(tgSecond, second), (tgMarker, spanExp 20), (tgPps, second), (tgAudit, spanExp 10), (tgAge, 1), (tgCheckpoint, 1), (tgGov, spanExp 10)] ++
    (List.range 8).map (fun b => (tgDer b, spanExp 16)) ++ (List.range 4).map (fun q => (tgSample q, 1))

/-- TIME_STEP_APPLY (R49): master and follower take the captured instant with a sub-fraction of zero; the next latch marks
a discontinuity. -/
def timeStepApply (s : State) : State :=
  match s.time.pendStep with
  | none => s
  | some (t, target) =>
    if s.mono < target then s
    else
      let acc : BitVec 112 := BitVec.ofNat 112 (t * 2 ^ 32)
      let trig := stepTrigs.foldl
        (fun m (id, p) => KMap.set 0 m id (trigAfterStep s.now t p (KMap.get 0 m id))) s.time.trig
      { s with time := { s.time with pendStep := none, master := acc,
                                     follower := if s.linkUsable then acc else s.time.follower,
                                     trig := trig, discont := true } }

/-- The difference of the accumulators beyond which a marker reports a misalignment: 0.5 ns in units of 2^-64 s (R51). -/
def alignLimit : Nat := 9223372036

/-- TIME_MARKER (R51): a marker crosses unless the link is quiesced; the follower takes the master's time. More than 0.5 ns of
difference sets DIE_ALIGN_ERR and raises a correctable internal error, but for the first marker after the link returns, which
ends the discontinuity. -/
def timeMarker (s : State) : State :=
  if !s.trigDue tgMarker (spanExp 20) then s
  else
    let s1 := s.trigFire tgMarker (spanExp 20)
    if !s1.linkUsable then s1
    else
      let m := s1.time.master.toNat
      let f := s1.time.follower.toNat
      let first := s1.flag Reg.TIME_STATUS Fld.TIME_STATUS_TDIE_DISCONT
      let s2 := { s1 with time := { s1.time with follower := s1.time.master } }
      if first then
        { s2 with time := { s2.time with followerInc := BitVec.ofNat 64 (s2.reg64 Reg.TIME_INC_LO) } }
          |>.setFlag Reg.TIME_STATUS Fld.TIME_STATUS_TDIE_DISCONT false
      else if alignLimit < max m f - min m f then
        (s2.setFlag Reg.TIME_STATUS Fld.TIME_STATUS_DIE_ALIGN_ERR true).ierr ieDieAlign 2 63 0
      else s2

/-- Captures the whole instant for a requester (R68). -/
def State.timeCapture (s : State) (r : Req) : State :=
  { s with time := { s.time with nowCap := KMap.set 0 s.time.nowCap (reqKey r) s.now } }

/-- Captures the seconds of the last 1PPS capture for a requester (R68). -/
def State.ppsCapture (s : State) (r : Req) : State :=
  { s with time := { s.time with ppsCap := KMap.set 0 s.time.ppsCap (reqKey r) (s.time.ppsAt >>> 32) } }

/-- TIME_NOW_READ (R68): captures the whole instant for the requester and returns its fraction. -/
def timeNowRead (r : Req) (s : State) : State := (s.timeCapture r).emit (.regData r Reg.TIME_NOW_FRAC (BitVec.ofNat 32 s.now))

/-- TIME_PPS_IN_FRAC_READ (R68): captures the seconds of the last 1PPS capture for the requester and returns its fraction. -/
def timePpsInFracRead (r : Req) (s : State) : State :=
  (s.ppsCapture r).emit (.regData r Reg.TIME_PPS_IN_FRAC (BitVec.ofNat 32 s.time.ppsAt))

/-- TIME_PPS_IN_SEC_READ (R54, R68): returns the requester's captured seconds and clears PPS_IN_NEW. -/
def timePpsInSecRead (r : Req) (s : State) : State :=
  (s.setFlag Reg.TIME_STATUS Fld.TIME_STATUS_PPS_IN_NEW false).emit
    (.regData r Reg.TIME_PPS_IN_SEC (BitVec.ofNat 32 (KMap.get 0 s.time.ppsCap (reqKey r))))

/-- PPS_IN_EDGE (R54): the capture of an edge, or nothing for an edge less than 0.5 s after the last one taken. -/
def ppsInEdge (s : State) : State :=
  let soon := match s.time.ppsEdge with
    | none => false
    | some e => decide (s.mono < e + spanExp 1)
  if soon then s
  else
    let s1 := if s.flag Reg.TIME_STATUS Fld.TIME_STATUS_PPS_IN_NEW
      then s.setFlag Reg.TIME_STATUS Fld.TIME_STATUS_PPS_IN_OVERRUN true else s
    { s1 with time := { s1.time with ppsAt := s.now, ppsEdge := some s.mono } }
      |>.setFlag Reg.TIME_STATUS Fld.TIME_STATUS_PPS_IN_NEW true

/-- REF10M_MEASURE (R55): the first edge at or after an integer second; the span from the second, in units of 2^-36 s, goes to
TIME_REF10M_CAP. A span that the field cannot hold leaves a free value there (assumption 8). -/
def ref10mMeasure (s : State) : State :=
  if !s.flag Reg.TIME_CTRL Fld.TIME_CTRL_REF10M_EN then s
  else
    let off := (s.time.master.toNat % 2 ^ 64) >>> 28
    if off < 2 ^ 16 then s.setFld Reg.TIME_REF10M_CAP Fld.TIME_REF10M_CAP_OFFSET off
    else
      let (x, s1) := s.draw
      s1.setFld Reg.TIME_REF10M_CAP Fld.TIME_REF10M_CAP_OFFSET x

/-- REF10M_LOS (R55): no edge for 2^-20 s while measuring. -/
def ref10mLos (s : State) : State :=
  if s.flag Reg.TIME_CTRL Fld.TIME_CTRL_REF10M_EN then s.setFlag Reg.TIME_STATUS Fld.TIME_STATUS_REF10M_LOS true else s

/-- REF10M_EDGE_RETURN (R55): the first edge after a loss clears REF10M_LOS. -/
def ref10mEdgeReturn (s : State) : State :=
  if s.flag Reg.TIME_CTRL Fld.TIME_CTRL_REF10M_EN then s.setFlag Reg.TIME_STATUS Fld.TIME_STATUS_REF10M_LOS false else s

/-- PPS_OUT_RISE (R57): at each integer second plus OFFSET the pin rises, for WIDTH; a WIDTH of 0 keeps it low. -/
def ppsOutRise (s : State) : State :=
  if !s.flag Reg.TIME_CTRL Fld.TIME_CTRL_PPS_OUT_EN then s
  else if s.ppsIndex ≤ KMap.get 0 s.time.trig tgPps then s
  else
    let width := min (s.fld Reg.TIME_PPS_OUT_CFG Fld.TIME_PPS_OUT_CFG_WIDTH) 0x7FFF
    { s with time := { s.time with trig := KMap.set 0 s.time.trig tgPps s.ppsIndex,
                                   ppsOut := decide (width ≠ 0), ppsFall := s.mono + width * 2 ^ 16 } }

/-- PPS_OUT_FALL (R57): the pin falls once WIDTH has passed, or when PPS_OUT_EN is clear. -/
def ppsOutFall (s : State) : State :=
  if s.time.ppsOut && (decide (s.time.ppsFall ≤ s.mono) || !s.flag Reg.TIME_CTRL Fld.TIME_CTRL_PPS_OUT_EN) then
    { s with time := { s.time with ppsOut := false } }
  else s

/-- The servo watchdog span (R67). -/
def State.wdSpan (s : State) : Nat := expSpan (s.fld Reg.TIME_CTRL Fld.TIME_CTRL_WD_SPAN)

/-- TIME_WD_HOLDOVER (R67): no TIME_INC write for WD_SPAN sets WD_HOLDOVER and raises its event; the increment stays. -/
def timeWdHoldover (s : State) : State :=
  if s.flag Reg.TIME_CTRL Fld.TIME_CTRL_WD_EN && decide (s.time.lastInc + s.wdSpan ≤ s.mono) &&
      !s.flag Reg.TIME_STATUS Fld.TIME_STATUS_WD_HOLDOVER then
    (s.setFlag Reg.TIME_STATUS Fld.TIME_STATUS_WD_HOLDOVER true).ownerEvent 0x0200 1 63 0 []
  else s

/-- TIME_INC_WRITE. -/
def execTimeIncWrite (v : BitVec 64) (s : State) : Host.Outcome State Fault Refusal := answer s (timeIncWrite v s)
/-- TIME_INC_APPLY. -/
def execTimeIncApply (s : State) : Host.Outcome State Fault Refusal := answer s (timeIncApply s)
/-- STEP: a write of TIME_CTRL with STEP set. -/
def execStep (v : Word) (s : State) : Host.Outcome State Fault Refusal :=
  answer s (timeCtrlWrite (Fld.TIME_CTRL_STEP.put v 1) s)
/-- TIME_STEP_APPLY. -/
def execTimeStepApply (s : State) : Host.Outcome State Fault Refusal := answer s (timeStepApply s)
/-- SERVICE: a write of TIME_CTRL with SERVICE set. -/
def execService (v : Word) (s : State) : Host.Outcome State Fault Refusal :=
  answer s (timeCtrlWrite (Fld.TIME_CTRL_SERVICE.put v 1) s)
/-- TIME_MARKER. -/
def execTimeMarker (s : State) : Host.Outcome State Fault Refusal := answer s (timeMarker s)
/-- TIME_NOW_READ. -/
def execTimeNowRead (r : Req) (s : State) : Host.Outcome State Fault Refusal := answer s (timeNowRead r s)
/-- TIME_PPS_IN_FRAC_READ. -/
def execTimePpsInFracRead (r : Req) (s : State) : Host.Outcome State Fault Refusal := answer s (timePpsInFracRead r s)
/-- TIME_PPS_IN_SEC_READ. -/
def execTimePpsInSecRead (r : Req) (s : State) : Host.Outcome State Fault Refusal := answer s (timePpsInSecRead r s)
/-- PPS_IN_EDGE. -/
def execPpsInEdge (s : State) : Host.Outcome State Fault Refusal := answer s (ppsInEdge s)
/-- REF10M_MEASURE. -/
def execRef10mMeasure (s : State) : Host.Outcome State Fault Refusal := answer s (ref10mMeasure s)
/-- REF10M_LOS. -/
def execRef10mLos (s : State) : Host.Outcome State Fault Refusal := answer s (ref10mLos s)
/-- REF10M_EDGE_RETURN. -/
def execRef10mEdgeReturn (s : State) : Host.Outcome State Fault Refusal := answer s (ref10mEdgeReturn s)
/-- PPS_OUT_RISE. -/
def execPpsOutRise (s : State) : Host.Outcome State Fault Refusal := answer s (ppsOutRise s)
/-- PPS_OUT_FALL. -/
def execPpsOutFall (s : State) : Host.Outcome State Fault Refusal := answer s (ppsOutFall s)
/-- TIME_WD_HOLDOVER. -/
def execTimeWdHoldover (s : State) : Host.Outcome State Fault Refusal := answer s (timeWdHoldover s)

end Sys2Proof.Machine
end

