-- ==== Sys2Proof/Machine/Fabric.lean ====
section
/-! DEFINITION. The Tirevendi fabric interface (R235 to R272): cells, streams and credit, lanes, Derailleur and device lists. -/

namespace Sys2Proof.Machine

/-- CAP (R249): 256 cells for each active receive lane, less 512 for each shift that is pending. -/
def State.cap (s : State) : Nat :=
  256 * ((List.range 192).filter (fun n => (s.lane n).rx == lnActive)).length -
    512 * ((List.range 8).filter (fun b => (s.bund b).rxDown.isSome)).length

/-- Moves a lane to a state (R256): its register, LANE_EVT, the event, ACTIVE and the bundle's capacity word (R544). -/
def State.setLane (s : State) (n st : Nat) : State :=
  let x := s.lane n
  if x.st = st then s
  else
    let b := n / 24
    let l := n % 24
    let s1 := s.putLane n { x with st := st }
    let f : Fld := ⟨3 * (l % 8) + 2, 3 * (l % 8), .ro, 0⟩
    let s2 := (s1.setFld (Reg.FAB_LANE_STATE b (l / 8)) f st).setFlag (Reg.FAB_BUNDLE_STATUS b) Fld.FAB_BUNDLE_STATUS_LANE_EVT true
    let s3 := s2.setFld (Reg.FAB_BUNDLE_STATUS b) Fld.FAB_BUNDLE_STATUS_ACTIVE (s2.activeTx b)
    let s4 := s3.ownerEvent 0x0600 2 (8 + b) (Config.eventLoc 0x0600 n).toNat []
    let ok := ((bundleLanes b).filter (fun m => (s4.lane m).st != lnFailed)).length
    s4.modCap 2 (8 + b) (fun c => { c with percent := 100 * ok / 24, count := ok })

/-- Sends a control word on a lane (R255). -/
def State.ctrl (s : State) (n : Nat) (w : List Byte) : State := s.emit (.ctrlWord n ((w ++ zeros 32).take 32))

/-- The lane of a bundle on which this end sends control words that name a pair: its lowest active one, or lane 0. -/
def State.ctrlLane (s : State) (b : Nat) : Nat := ((bundleLanes b).find? (fun n => (s.lane n).st == lnActive)).getD (laneNo b 0)

/-- The 32-bit difference of cumulative totals. -/
def tot (a b : Nat) : Nat := (a + 2 ^ 32 - b % 2 ^ 32) % 2 ^ 32

/-! ### Source side (R241, R244 to R248, R251, R253, R254) -/

/-- The credit a source holds for a stream (R248). -/
def SrcStream.credit (x : SrcStream) : Nat := tot (tot x.granted x.sent) x.returned

/-- Whether a lane takes new cells: ACTIVE, and not of a pair whose shed has been acknowledged (R260). -/
def State.laneOpen (s : State) (n : Nat) : Bool :=
  (s.lane n).st == lnActive &&
    (match (s.bund (n / 24)).down with | some d => !(d.acked && d.pair == n % 24 / 2) | none => true)

/-- Whether any active lane leads to a device. -/
def State.reachable (s : State) (d : Nat) : Bool :=
  (List.range 8).any (fun b => (s.reach d).testBit b && decide (0 < s.activeTx b))


/-- Notes that a copy has nothing left to send to a device; a copy with no device left leaves the transit FIFO, and its room with it. -/
def State.endTarget (s : State) (i n : Nat) (c : TCopy) (d : Nat) : State :=
  let rest := (c.prog.getD []).filter (fun x => x.dev != d)
  let l := s.transitOf i
  if rest.isEmpty then (s.setTransit i (l.eraseIdx n)).ledAdd ldIngress i 0 1
  else s.setTransit i (l.set n { c with prog := some rest })

/-- Whether an earlier copy of the same stream in the slice has not yet started, so that this one would overtake it. -/
def State.earlierWaits (s : State) (i n d cls : Nat) : Bool :=
  ((s.transitOf i).take n).any (fun c =>
    let (l, k) := s.targets c
    k == cls && l.any (fun x => x.dev == d && !x.started))

/-- Sends the next cell of copy `n` of slice `i` for device `d` on a lane; a copy for an unreachable device is discarded. -/
def State.cellTx (i n d lane : Nat) (s : State) : State :=
  match (s.transitOf i)[n]? with
  | none => s
  | some c0 =>
    let handed := match s.pkt c0.pkt with | some k => k.left | none => true
    if !s.fabOn || !s.linkUsable || !handed then s
    else
      let (l, cls) := s.targets c0
      let fresh := c0.prog.isNone
      let c := { c0 with prog := some l, cls := cls }
      let s0 := if fresh then (s.setTransit i ((s.transitOf i).set n c)).ledAdd ldFabTx 0 0 l.length else s
      if l.isEmpty then (s0.setTransit i ((s0.transitOf i).eraseIdx n)).ledAdd ldIngress i 0 1
      else
        match l.find? (fun x => x.dev == d) with
        | none => s0
        | some x =>
          if s0.earlierWaits i n d cls then s0
          else if !s0.reachable d then
            (s0.bump Ctr.FAB_TX_UNREACH_DROP 1).endTarget i n c d
          else
            let y := s0.srcS d cls
            let (have_, whole) := c.payload
            let ctx := if x.started then some x.ctx else (List.range 1024).find? (fun k => !y.ctxs.contains k)
            let ready := whole || decide (x.sent + 256 < have_)
            match ctx with
            | none => s0
            | some k =>
              if !ready || y.credit = 0 || !s0.laneOpen lane || !(s0.reach d).testBit (lane / 24) then s0
              else
                let m := min 256 (have_ - x.sent)
                let last := whole && decide (x.sent + m = have_)
                let pseq := if x.started then x.pseq else y.pseq
                let mc := match c.dest with | .mc _ => true | .uni _ _ => false
                let dest := match c.dest with | .mc g => g | .uni _ q => q / 8 * 16
                let pos := (if x.started then 0 else 1) + (if last then 2 else 0)
                let bad := last && c.tail == some false
                let h := cellHdr (if mc then 2 else 1) s.devId d cls dest y.seq k pos bad.toNat (m - 1) pseq
                let body := (c.data.drop (x.sent - 16)).take (if x.started then m else m - 16)
                let y1 := { y with
                  sent := (y.sent + 1) % 2 ^ 32, seq := (y.seq + 1) % 2 ^ 24, busy := s.mono,
                  pseq := if x.started then y.pseq else (y.pseq + 1) % 2 ^ 16,
                  ctxs := if last then y.ctxs.filter (· != k) else if x.started then y.ctxs else y.ctxs ++ [k] }
                let b := lane / 24
                let bytes := if last then 16 + max 64 ((m + 15) / 16 * 16) else 272
                let s1 := ((s0.setSrcS d cls y1).bump Ctr.FAB_TX_CELLS 1).setBund b { s0.bund b with bytes := (s0.bund b).bytes + bytes }
                let s2 := s1.emit (.cell lane h (if x.started then none else some c.ith) body)
                if last then (s2.ledAdd ldFabTx 0 1 1).endTarget i n c d
                else
                  let l1 := l.map (fun z => if z.dev = d then { z with sent := x.sent + m, started := true, ctx := k, pseq := pseq } else z)
                  s2.setTransit i ((s2.transitOf i).set n { c with prog := some l1 })

/-- FABRIC_CELL_TX (R240 to R245, R250, R253, R254): a cell is sent, and the device learns of its new BACKLOG. -/
def fabricCellTx (i n d lane : Nat) (s : State) : State := (s.cellTx i n d lane).demandAfter s

/-- A source meets a new incarnation of a destination (R251): its streams restart, the packets that have started are cut. -/
def State.peerRestartOut (s : State) (d inc : Nat) : State :=
  let known := KMap.get 0 s.fab.incOut d ≠ 0
  let s1 := { s with fab := { s.fab with
    incOut := KMap.set 0 s.fab.incOut d inc,
    src := (List.range 8).foldl (fun m c => KMap.set .init m (strm d c) { SrcStream.init with busy := s.mono }) s.fab.src } }
  let s2 := (List.range 16).foldl (fun s i =>
    (List.range (s.transitOf i).length).reverse.foldl (fun s n =>
      match (s.transitOf i)[n]? with
      | none => s
      | some c =>
        if (c.prog.getD []).any (fun x => x.dev == d && x.started) then (s.bump Ctr.FAB_TX_PEER_DROP 1).endTarget i n c d else s) s) s1
  let s3 := if known then s2.ownerEvent 0x0603 2 63 (Config.eventLoc 0x0603 d).toNat [] else s2
  s3.sendDemand d

/-- A received GRANT (R247, R248). -/
def State.grantRx (s : State) (src : Nat) (b : List Byte) : State :=
  let inc := beAt b 0 2
  let s1 := if inc ≠ 0 ∧ KMap.get 0 s.fab.incOut src ≠ inc then s.peerRestartOut src inc else s
  if beAt b 2 2 ≠ s.incarnation then s1
  else (List.range 8).foldl (fun s c => s.setSrcS src c { s.srcS src c with granted := beAt b (8 + 4 * c) 4 }) s1

/-- CREDIT_RETURN (R248): a stream that has had no backlog for HOLD returns its unspent credits. -/
def creditReturn (d c : Nat) (s : State) : State :=
  let x := s.srcS d c
  let hold := expSpan (s.fld Reg.FAB_FLOW_CFG Fld.FAB_FLOW_CFG_HOLD)
  if s.fabOn && x.credit ≠ 0 && s.backlog d c = 0 && decide (x.busy + hold ≤ s.mono) then
    (s.setSrcS d c { x with returned := (x.returned + x.credit) % 2 ^ 32 }).sendDemand d
  else s

/-! ### Destination side (R249 to R252, R265 to R269) -/

def State.dstS (s : State) (d c : Nat) : DstStream := KMap.get .init s.fab.dst (strm d c)
def State.setDstS (s : State) (d c : Nat) (x : DstStream) : State := { s with fab := { s.fab with dst := KMap.set .init s.fab.dst (strm d c) x } }

/-- Outstanding credit of a stream, and of all streams (R249). -/
def DstStream.outstanding (x : DstStream) : Nat := tot (tot (tot x.granted x.received) x.missing) x.returned
def State.outstanding (s : State) : Nat := (s.fab.dst.l.map (fun x => x.2.outstanding)).sum

/-- A GRANT cell for a source with the totals as they stand (R247). -/
def State.sendGrant (s : State) (src : Nat) : State :=
  let body := beBytes 2 s.incarnation ++ beBytes 2 (KMap.get 0 s.fab.incIn src) ++ zeros 4 ++
    (List.range 8).flatMap (fun c => beBytes 4 (s.dstS src c).granted)
  match s.msgLane src with
  | none => s
  | some n => s.emit (.cell n (cellHdr 4 s.devId src 0 0 0 0 3 0 39 0) none body)

/-- Packets of a stream are lost (R269). -/
def State.pktLost (s : State) (src c n : Nat) : State :=
  if n = 0 then s
  else
    (List.range n).foldl (fun s _ => s.ownerEvent 0x0602 2 63 src (beBytes 1 c)) (s.bump Ctr.FAB_RX_PKT_LOST n)

/-- Discards the open packets of a stream. -/
def State.dropOpen (s : State) (src c : Nat) : State :=
  let x := s.dstS src c
  let s1 := x.opened.foldl (fun s (_, a) => s.dropAsm a) (s.setDstS src c { x with opened := [] })
  s1.pktLost src c x.opened.length

/-- A released cell goes to reassembly (R267, R269). -/
def State.releaseCell (s : State) (src : Nat) (c : RxCell) : State :=
  let k := c.cls
  let s1 := s.bump Ctr.FAB_RX_CELLS 1
  let x := s1.dstS src k
  let x1 := { x with received := (x.received + 1) % 2 ^ 32, exp := (x.exp + 1) % 2 ^ 24 }
  if c.first then
    let lost := (c.pseq + 2 ^ 16 - x.pexp) % 2 ^ 16
    let s2 := ((s1.setDstS src k { x1 with pexp := (c.pseq + 1) % 2 ^ 16 }).pktLost src k lost).ledAdd ldFabRx 0 0 (lost + 1)
    let (a, s3) := s2.openAsm c
    let s4 := if c.last then s3.ledAdd ldFabRx 0 1 1
      else s3.setDstS src k { s3.dstS src k with opened := (s3.dstS src k).opened.filter (fun o => o.1 != c.ctx) ++ [(c.ctx, a)] }
    s4.asmCell a c
  else
    let s2 := s1.setDstS src k x1
    match x.opened.find? (fun o => o.1 == c.ctx) with
    | none => s2
    | some (_, a) =>
      let s3 := if c.last then
          (s2.setDstS src k { x1 with opened := x1.opened.filter (fun o => o.1 != c.ctx) }).ledAdd ldFabRx 0 1 1 else s2
      s3.asmCell a c

/-- Releases the held cells that now follow in order. -/
def State.releaseHeld (s : State) (src k : Nat) : Nat → State
  | 0 => s
  | fuel + 1 =>
    let x := s.dstS src k
    match x.held.find? (fun h => h.1.seq == x.exp) with
    | none => s
    | some h =>
      ((s.setDstS src k { x with held := x.held.filter (fun g => g.1.seq != x.exp) }).releaseCell src h.1).releaseHeld src k fuel

/-- A destination restarts the streams of a source (R251): its open and held packets are gone. -/
def State.restartIn (s : State) (src : Nat) : State :=
  (List.range 8).foldl (fun s c =>
    let s1 := s.dropOpen src c
    s1.setDstS src c DstStream.init) s

/-- A shed that the peer asked for is acknowledged once the outstanding credit has fallen to CAP (R260). -/
def State.shedCheck (s : State) (b : Nat) : State :=
  match (s.bund b).rxDown with
  | some d =>
    if !d.acked && decide (s.outstanding ≤ s.cap) then
      (s.setBund b { s.bund b with rxDown := some { d with acked := true }, ans := some (d.num, true) }).ctrl (s.ctrlLane b)
        (beBytes 1 4 ++ [0] ++ beBytes 1 d.pair ++ beBytes 1 d.num)
    else s
  | none => s

def State.shedChecks (s : State) : State := (List.range 8).foldl (fun s b => s.shedCheck b) s

/-- A received DEMAND (R246, R249, R251). -/
def State.demandRx (s : State) (src : Nat) (b : List Byte) : State :=
  let inc := beAt b 0 2
  let old := KMap.get 0 s.fab.incIn src
  let s1 :=
    if old = inc then s
    else
      let s1 := { (s.restartIn src) with fab := { (s.restartIn src).fab with
        incIn := KMap.set 0 (s.restartIn src).fab.incIn src inc, synced := KMap.set 0 (s.restartIn src).fab.synced src 0 } }
      if old = 0 then s1 else s1.ownerEvent 0x0603 2 63 (Config.eventLoc 0x0603 src).toNat []
  let echo := beAt b 2 2 == s.incarnation
  let sync := KMap.get 0 s1.fab.synced src == 1
  let s2 := if echo && !sync then { s1 with fab := { s1.fab with synced := KMap.set 0 s1.fab.synced src 1 } } else s1
  let s3 := (List.range 8).foldl (fun s c =>
    let o := 8 + 12 * c
    let x := s.dstS src c
    let x1 := { x with backlog := beAt b o 2, returned := beAt b (o + 2) 4 }
    s.setDstS src c (if echo && !sync then { x1 with exp := beAt b (o + 6) 3 } else x1)) s2
  s3.shedChecks

/-- A cell header that arrives with a wrong HEC, for another device or of a reserved type is discarded and counted (R265, R266). -/
def State.cellCheck (s : State) (b : Nat) (h : BitVec 128) : Option State :=
  if hdrHec h ≠ hBits h 15 0 then some (s.bump (Ctr.FAB_HEC_ERR b) 1)
  else if 5 ≤ hBits h 127 124 then some (s.bump Ctr.FAB_RX_TYPE_DROP 1)
  else if hBits h 127 124 = 0 then some s
  else if hBits h 112 102 ≠ s.devId then some (s.bump Ctr.FAB_RX_MISROUTE 1)
  else none

/-- A data cell of a good header (R266, R267). -/
def State.dataRx (s : State) (h : BitVec 128) (ith : Ith) (b : List Byte) : State :=
  let src := hBits h 123 113
  let k := hBits h 101 99
  if KMap.get 0 s.fab.synced src ≠ 1 then s.bump Ctr.FAB_RX_STALE 1
  else
    let pos := hBits h 44 43
    let first := pos % 2 == 1
    let n := hBits h 41 34 + 1 - (if first then 16 else 0)
    let c : RxCell :=
      { mc := hBits h 127 124 == 2, cls := k, dest := hBits h 98 79, seq := hBits h 78 55, ctx := hBits h 54 45, pseq := hBits h 31 16,
        first := first, last := pos / 2 == 1, bad := hBits h 42 42 == 1, hdr := ith, data := (b ++ zeros n).take n }
    let x := s.dstS src k
    let ahead := (c.seq + 2 ^ 24 - x.exp) % 2 ^ 24
    if ahead = 0 then ((s.releaseCell src c).releaseHeld src k (x.held.length + 1)).shedChecks
    else if ahead < 2 ^ 23 then
      if x.held.any (fun g => g.1.seq == c.seq) then s.bump Ctr.FAB_RX_LATE 1
      else s.setDstS src k { x with held := x.held ++ [(c, s.mono)] }
    else s.bump Ctr.FAB_RX_LATE 1

/-- Adds a lane's uncorrectable codeword to its window (R268). -/
def State.laneUncorr (s : State) (n : Nat) : State :=
  let x := s.lane n
  let w := s.nowT / spanExp 10
  s.putLane n { x with unc := if x.uncWin = w then x.unc + 1 else 1, uncWin := w }

/-- FABRIC_CELL_RX (R265 to R269): `corr` symbols were corrected; a codeword that could not be corrected is discarded whole. -/
def fabricCellRx (b l corr : Nat) (unc : Bool) (h : BitVec 128) (ith : Ith) (p : List Byte) (s : State) : State :=
  if !s.fabOn || decide ((s.lane (laneNo b l)).rx ≠ lnActive) then s
  else
    let s1 := if corr = 0 then s else s.bump (Ctr.FAB_FEC_CORR b) corr
    if unc then (s1.bump (Ctr.FAB_FEC_UNCORR b) 1).laneUncorr (laneNo b l)
    else
      match s1.cellCheck b h with
      | some s2 => s2
      | none =>
        match hBits h 127 124 with
        | 3 => s1.demandRx (hBits h 123 113) p
        | 4 => s1.grantRx (hBits h 123 113) p
        | _ => s1.dataRx h ith p

/-- DEMAND (R246, R249): a received DEMAND cell. -/
def demand (b : Nat) (h : BitVec 128) (p : List Byte) (s : State) : State :=
  if !s.fabOn || decide (hBits h 127 124 ≠ 3) then s
  else match s.cellCheck b h with | some s1 => s1 | none => s.demandRx (hBits h 123 113) p

/-- GRANT (R247, R248): a received GRANT cell. -/
def grant (b : Nat) (h : BitVec 128) (p : List Byte) (s : State) : State :=
  if !s.fabOn || decide (hBits h 127 124 ≠ 4) then s
  else match s.cellCheck b h with | some s1 => s1 | none => s.grantRx (hBits h 123 113) p

/-- The reorder span (R267, R272). -/
def State.reorderSpan (s : State) : Nat := expSpanIn (-22) (-16) (s.fld Reg.FAB_FLOW_CFG Fld.FAB_FLOW_CFG_REORDER)

/-- REORDER_TIMEOUT (R267, R269): a held cell has waited REORDER; the cells before the lowest held one are missing, the open packets are lost. -/
def reorderTimeout (src k : Nat) (s : State) : State :=
  let x := s.dstS src k
  if !s.fabOn || !x.held.any (fun h => decide (h.2 + s.reorderSpan ≤ s.mono)) then s
  else
    let dist (h : RxCell × Nat) : Nat := (h.1.seq + 2 ^ 24 - x.exp) % 2 ^ 24
    let n := (x.held.map dist).foldl min (2 ^ 24)
    let s1 := (s.setDstS src k { x with missing := (x.missing + n) % 2 ^ 32, exp := (x.exp + n) % 2 ^ 24 }).bump Ctr.FAB_RX_MISSING n
    ((s1.dropOpen src k).releaseHeld src k (x.held.length + 1)).shedChecks

/-- The weight of a class (R250). -/
def State.classW (s : State) (c : Nat) : Nat := max 1 ((s.reg Reg.FAB_CLASS_W).toNat >>> (4 * c) % 16)

/-- One visit of a grant round to a class: the next stream round-robin whose backlog exceeds its outstanding credit (R250). Answers the source
granted to. -/
def State.grantVisit (s : State) (c : Nat) : Option Nat × State :=
  let last := KMap.get 0 s.fab.rr c
  let want := s.fab.dst.l.filterMap (fun (k, x) => if k % 8 = c ∧ x.outstanding < x.backlog then some (k / 8) else none)
  let room := s.cap - s.outstanding
  match (want.find? (fun d => decide (last ≤ d))).orElse (fun _ => want.head?) with
  | none => (none, s)
  | some d =>
    let x := s.dstS d c
    let q := max 1 (s.fld Reg.FAB_FLOW_CFG Fld.FAB_FLOW_CFG_QUANTUM)
    let n := min (min q (x.backlog - x.outstanding)) room
    if n = 0 then (none, s)
    else
      (some d, { s with fab := { s.fab with rr := KMap.set 0 s.fab.rr c (d + 1) } }.setDstS d c { x with granted := (x.granted + n) % 2 ^ 32 })

/-- GRANT_ROUND (R250, R252): one round, each class served as often as its weight; nothing is granted while the lease has expired. -/
def grantRound (s : State) : State :=
  if !s.fabOn || s.leaseOver then s
  else
    let visits := (List.range 8).flatMap (fun c => List.replicate (s.classW c) c)
    let (ds, s1) := visits.foldl (fun (l, s) c =>
      match s.grantVisit c with
      | (some d, s1) => (if l.contains d then l else l ++ [d], s1)
      | (none, s1) => (l, s1)) (([] : List Nat), s)
    let starved := s1.fab.dst.l.any (fun (_, x) => decide (x.outstanding < x.backlog)) && decide (s1.cap ≤ s1.outstanding)
    let s2 := { s1 with fab := { s1.fab with limited := if starved then some (s1.fab.limited.getD s1.nowT) else none } }
    ds.foldl (fun s d => s.sendGrant d) s2

/-- CREDIT_MESSAGE_REFRESH (R250): every 2^-16 s the totals that are not zero are sent again. -/
def creditMessageRefresh (s : State) : State :=
  if !s.fabOn || decide (s.mono < s.fab.refresh) then s
  else
    let s1 := { s with fab := { s.fab with refresh := s.mono + spanExp 16 } }
    let devs (l : List Nat) : List Nat := (l.map (· / 8)).eraseDups
    let ds := devs ((s.fab.src.l.filter (fun x => decide (x.2.granted ≠ 0 ∨ x.2.returned ≠ 0 ∨ x.2.seq ≠ 0))).map (·.1))
    let ss := devs ((s.fab.dst.l.filter (fun x => decide (x.2.granted ≠ 0))).map (·.1))
    ss.foldl (fun s d => s.sendGrant d) (ds.foldl (fun s d => s.sendDemand d) s1)

/-! ### Bring-up (R255 to R258) -/

/-- Whether R257 holds for a lane in PEER. -/
def State.peerOk (s : State) (b l : Nat) : Bool :=
  let x := s.lane (laneNo b l)
  x.seen && x.ver == 1 && x.lane == l && x.dev != s.devId &&
    (bundleLanes b).all (fun n =>
      let y := s.lane n
      !(y.st == lnPeer || y.st == lnActive || y.st == lnQuiet || y.st == lnWaking) || (y.dev == x.dev && y.bundle == x.bundle))

/-- LANE_CDR_LOCK (R256). -/
def laneCdrLock (b l : Nat) (s : State) : State :=
  let n := laneNo b l
  if s.fabOn && (s.lane n).st == lnSignal then (s.putLane n { s.lane n with aligns := 0, readies := 0, seen := false }).setLane n lnCwLock else s

/-- ALIGN (R256, R257): the fourth ALIGN in a row gives codeword lock; a lane in PEER compares what its peer says. -/
def align (b l dev pb pl ver : Nat) (cap : Bool) (s : State) : State :=
  let n := laneNo b l
  let x := s.lane n
  if !s.fabOn || decide (x.st < lnCwLock) || x.st == lnFailed then s
  else
    let x1 := { x with dev := dev, bundle := pb, lane := pl, ver := ver, seen := true, aligns := min 4 (x.aligns + 1) }
    let s1 := (s.putLane n x1).setBund b { s.bund b with capable := cap }
    let s2 := if x.st = lnCwLock ∧ x1.aligns = 4 then s1.setLane n lnPeer else s1
    if (s2.lane n).st ≠ lnPeer then s2
    else
      let s3 := (s2.setFld (Reg.FAB_BUNDLE_STATUS b) Fld.FAB_BUNDLE_STATUS_PEER_DEV dev).setFld (Reg.FAB_BUNDLE_STATUS b)
        Fld.FAB_BUNDLE_STATUS_PEER_BUNDLE pb
      if s3.peerOk b l then s3.ctrl n (beBytes 1 2 ++ beBytes 1 l)
      else if s3.flag (Reg.FAB_BUNDLE_STATUS b) Fld.FAB_BUNDLE_STATUS_MISMATCH then s3
      else
        (s3.setFlag (Reg.FAB_BUNDLE_STATUS b) Fld.FAB_BUNDLE_STATUS_MISMATCH true).ownerEvent 0x0601 2 (8 + b)
          (Config.eventLoc 0x0601 n).toNat []

/-- READY (R256, R257, R262): the third READY in a row makes a lane in PEER active; a waking lane that READY names goes active. -/
def ready (b l named : Nat) (s : State) : State :=
  let n := laneNo b l
  let x := s.lane n
  if !s.fabOn then s
  else if x.st = lnPeer then
    if s.peerOk b l && named == l then
      let k := x.readies + 1
      if 3 ≤ k then (s.putLane n { x with readies := 0, rx := lnActive }).setLane n lnActive else s.putLane n { x with readies := k }
    else s
  else
    let m := laneNo b named
    let y := s.lane m
    if y.st = lnWaking then
      let s1 := (s.setLane m lnActive).ctrl m (beBytes 1 2 ++ beBytes 1 named)
      let other := laneNo b (if named % 2 = 0 then named + 1 else named - 1)
      if (s1.lane other).st = lnActive then s1.bump (Ctr.FAB_SHIFT_UP b) 1 else s1
    else if y.rx = lnWaking ∨ (y.rx = lnQuiet ∧ l = named) then s.putLane m { y with rx := lnActive }
    else s

/-- FAB_BUNDLE_CFG_WRITE (R256): enabled lanes start, disabled ones go down. -/
def fabBundleCfgWrite (b : Nat) (v : Word) (s : State) : State :=
  let w := v &&& 0x80FFFFFF
  let s1 := s.setReg (Reg.FAB_BUNDLE_CFG b) w
  if !s1.fabOn then s1
  else
    (List.range 24).foldl (fun s l =>
      let n := laneNo b l
      let on := w.toNat.testBit 31 && w.toNat.testBit l
      if on then (if (s.lane n).st = lnDown then s.setLane n lnSignal else s)
      else if (s.lane n).st = lnDown then s
      else (s.putLane n { LaneSt.init with st := (s.lane n).st }).setLane n lnDown) s1

/-- FAB_DEV_CFG_WRITE (R257, R272): a device ID written while EN is set is refused. -/
def fabDevCfgWrite (v : Word) (s : State) : State :=
  let w := s.reg Reg.FAB_DEV_CFG
  let keep := if s.fabEn then w &&& 0x7FFFFFF else (v &&& 0x7FF0000) ||| (w &&& 0xFFFF)
  s.setReg Reg.FAB_DEV_CFG ((v &&& 0x80000000) ||| keep)

/-! ### Derailleur (R259 to R263) -/

def pairLanes (b p : Nat) : List Nat := [laneNo b (2 * p), laneNo b (2 * p + 1)]
def State.pairIs (s : State) (b p st : Nat) : Bool := (pairLanes b p).all (fun n => (s.lane n).st == st)
def State.pairRx (s : State) (b p st : Nat) : Bool := (pairLanes b p).all (fun n => (s.lane n).rx == st)

/-- Starts the restore of a quiet pair (R262): its lanes wake and send ALIGN. -/
def State.wakePair (s : State) (b p : Nat) : State :=
  if s.pairIs b p lnQuiet then (pairLanes b p).foldl (fun s n => s.setLane n lnWaking) s else s

/-- Restores the lowest quiet pair, or every quiet pair (R261). -/
def State.restoreOne (s : State) (b : Nat) : State :=
  match (List.range 12).find? (fun p => s.pairIs b p lnQuiet) with | some p => s.wakePair b p | none => s
def State.restoreAll (s : State) (b : Nat) : State := (List.range 12).foldl (fun s p => s.wakePair b p) s

/-- MIN_LANES, 2 to 24, even (R272). -/
def State.minLanes (s : State) : Nat :=
  let m := s.fld Reg.FAB_DER_CFG Fld.FAB_DER_CFG_MIN_LANES
  min 24 (max 2 ((m + 1) / 2 * 2))

/-- DERAILLEUR_WINDOW (R259, R261): the utilisation of a window of 2^-16 s, the cell bytes over 196 Gb/s × A, restores or sheds a pair. -/
def derailleurWindow (b : Nat) (s : State) : State :=
  if !s.fabOn || !s.trigDue (tgDer b) (spanExp 16) then s
  else
    let x := s.bund b
    let a := s.activeTx b
    let full := 196000000000 * a
    let used := x.bytes * 8 * 65536
    let hi := s.fld Reg.FAB_DER_CFG Fld.FAB_DER_CFG_HIGH
    let lo := s.fld Reg.FAB_DER_CFG Fld.FAB_DER_CFG_LOW
    let below := decide (used * 100 < lo * full)
    let n := if below then x.low + 1 else 0
    let s1 := (s.trigFire (tgDer b) (spanExp 16)).setBund b { x with bytes := 0, low := n }
    if a = 0 then s1
    else if 95 * full ≤ used * 100 then s1.restoreAll b
    else if hi * full ≤ used * 100 then s1.restoreOne b
    else
      let dwell := expSpan (s.fld Reg.FAB_DER_CFG Fld.FAB_DER_CFG_DWELL)
      let rested := match x.shed with | some t => decide (t + dwell ≤ s.mono) | none => true
      let fits := decide (used * 100 * a < hi * full * (a - 2)) && decide (2 < a)
      match (List.range 12).reverse.find? (fun p => s.pairIs b p lnActive) with
      | some p =>
        if s.flag Reg.FAB_DER_CFG Fld.FAB_DER_CFG_EN && x.capable && decide (dwell ≤ n * spanExp 16) && rested && fits &&
            decide (s.minLanes + 2 ≤ a) && x.down.isNone then
          let y := s1.bund b
          (s1.setBund b { y with down := some ⟨p, y.num, s.mono, 0, false⟩, num := (y.num + 1) % 256, shed := some s.mono }).ctrl
            (s.ctrlLane b) (beBytes 1 3 ++ [0] ++ beBytes 1 p ++ beBytes 1 y.num)
        else s1
      | none => s1

/-- Answers a shift request that this end declines (R260, R263). -/
def State.nakDown (s : State) (b : Nat) (d : Shift) : State :=
  (s.setBund b { s.bund b with rxDown := none, ans := some (d.num, false) }).ctrl (s.ctrlLane b)
    (beBytes 1 5 ++ [0] ++ beBytes 1 d.pair ++ beBytes 1 d.num)

/-- SHIFT_REQ (R258, R260 to R263): UP restores a pair of this end's transmit direction; DOWN lowers CAP and is acknowledged once the
outstanding credit allows. A repeated number is answered again and acted on once. -/
def shiftReq (b : Nat) (up : Bool) (p num : Nat) (s : State) : State :=
  if !s.fabOn then s
  else if up then s.wakePair b p
  else
    let x := s.bund b
    match x.ans, x.rxDown with
    | some (n, ok), _ =>
      if n = num then
        s.ctrl (s.ctrlLane b) (beBytes 1 (if ok then 4 else 5) ++ [0] ++ beBytes 1 p ++ beBytes 1 num)
      else (s.setBund b { x with rxDown := some ⟨p, num, s.mono, 0, false⟩ }).shedCheck b
    | none, some _ => s
    | none, none => (s.setBund b { x with rxDown := some ⟨p, num, s.mono, 0, false⟩ }).shedCheck b

/-- SHIFT_ACK (R260). -/
def shiftAck (b p num : Nat) (s : State) : State :=
  match (s.bund b).down with
  | some d => if s.fabOn && d.pair == p && d.num == num then s.setBund b { s.bund b with down := some { d with acked := true } } else s
  | none => s

/-- SHIFT_NAK (R260). -/
def shiftNak (b p num : Nat) (s : State) : State :=
  match (s.bund b).down with
  | some d =>
    if s.fabOn && d.pair == p && d.num == num then (s.setBund b { s.bund b with down := none }).bump (Ctr.FAB_SHIFT_NAK b) 1 else s
  | none => s

/-- SHIFT_DONE_SEND (R260): the last cell on a lane of an acknowledged shed has ended. -/
def shiftDoneSend (b l : Nat) (s : State) : State :=
  match (s.bund b).down with
  | some d =>
    let n := laneNo b l
    if s.fabOn && d.acked && l / 2 == d.pair && (s.lane n).st == lnActive then
      let s1 := ((s.ctrl n (beBytes 1 6 ++ beBytes 1 l ++ beBytes 1 d.pair ++ beBytes 1 d.num)).setLane n lnQuiet).putLane n
        { (s.lane n) with st := lnQuiet, burst := s.mono + spanExp 18 }
      if s1.pairIs b d.pair lnQuiet then (s1.setBund b { s1.bund b with down := none }).bump (Ctr.FAB_SHIFT_DOWN b) 1 else s1
    else s
  | none => s

/-- SHIFT_DONE (R260): the receiving end marks the lane QUIET. -/
def shiftDone (b l p num : Nat) (s : State) : State :=
  match (s.bund b).rxDown with
  | some d =>
    let n := laneNo b l
    if s.fabOn && d.acked && d.pair == p && d.num == num && l / 2 == p then
      let s1 := s.putLane n { s.lane n with rx := lnQuiet }
      if s1.pairRx b p lnQuiet then s1.setBund b { s1.bund b with rxDown := none } else s1
    else s
  | none => s

/-- SHED_ACK_TIMEOUT (R260): not acknowledged within 2^-16 s. -/
def shedAckTimeout (b : Nat) (s : State) : State :=
  match (s.bund b).rxDown with
  | some d => if s.fabOn && !d.acked && decide (d.at_ + spanExp 16 ≤ s.mono) then s.nakDown b d else s
  | none => s

/-- Sends a request again, or abandons it after the fourth time (R258). -/
def State.resend (s : State) (b : Nat) (up : Bool) (d : Shift) : State :=
  let put (s : State) (o : Option Shift) : State := if up then s.setBund b { s.bund b with up := o } else s.setBund b { s.bund b with down := o }
  if d.acked || decide (s.mono < d.at_ + spanExp 20) then s
  else if 4 ≤ d.tries then put s none
  else (put s (some { d with at_ := s.mono, tries := d.tries + 1 })).ctrl (s.ctrlLane b)
    (beBytes 1 3 ++ beBytes 1 up.toNat ++ beBytes 1 d.pair ++ beBytes 1 d.num)

/-- SHIFT_REQ_RESEND (R258). -/
def shiftReqResend (b : Nat) (s : State) : State :=
  if !s.fabOn then s
  else
    let s1 := match (s.bund b).down with | some d => s.resend b false d | none => s
    match (s1.bund b).up with
    | some d =>
      if s1.pairRx b d.pair lnQuiet then s1.resend b true d else s1.setBund b { s1.bund b with up := none }
    | none => s1

/-- QUIET_BURST (R260): every 2^-18 s a quiet lane sends 4 codewords with ALIGN. -/
def quietBurst (b l : Nat) (s : State) : State :=
  let n := laneNo b l
  let x := s.lane n
  if s.fabOn && x.st == lnQuiet && decide (x.burst ≤ s.mono) then
    (List.range 4).foldl (fun s _ =>
      s.ctrl n (beBytes 1 1 ++ beBytes 2 s.devId ++ beBytes 1 b ++ beBytes 1 l ++ beBytes 1 lnQuiet ++ beBytes 1 1 ++
        beBytes 1 (s.flag Reg.FAB_DER_CFG Fld.FAB_DER_CFG_EN).toNat)) (s.putLane n { x with burst := s.mono + spanExp 18 })
  else s

/-- LANE_WAIT_RESTORE (R261): a cell has waited 2^-20 s for a free lane. -/
def laneWaitRestore (b : Nat) (s : State) : State := if s.fabOn then s.restoreAll b else s

/-- CAP_LIMITED_WINDOW (R261, R263): CAP has limited the grants for a whole window while backlog remained: the lowest pair whose receive lanes
are quiet is asked back. A pending shed that is not acknowledged ends with SHIFT_NAK. -/
def capLimitedWindow (b : Nat) (s : State) : State :=
  let w := spanExp 16
  let whole := match s.fab.limited with | some t => decide ((t + w - 1) / w * w + w ≤ s.nowT) | none => false
  if !s.fabOn || !whole then s
  else
    let s1 := match (s.bund b).rxDown with | some d => if d.acked then s else s.nakDown b d | none => s
    let x := s1.bund b
    match (List.range 12).find? (fun p => s1.pairRx b p lnQuiet), x.up with
    | some p, none =>
      (s1.setBund b { x with up := some ⟨p, x.num, s.mono, 0, false⟩, num := (x.num + 1) % 256 }).ctrl (s.ctrlLane b)
        (beBytes 1 3 ++ beBytes 1 1 ++ beBytes 1 p ++ beBytes 1 x.num)
    | _, _ => s1

/-- FAB_LANE_FAIL (R261, R263, R268): lost lock, or more than 64 uncorrectable codewords in the window. -/
def fabLaneFail (b l : Nat) (lost : Bool) (s : State) : State :=
  let n := laneNo b l
  let x := s.lane n
  let many := decide (64 < x.unc) && x.uncWin == s.nowT / spanExp 10
  if !s.fabOn || !(lost || many) || x.st == lnDown || x.st == lnFailed || x.st == lnSignal then s
  else
    let other := laneNo b (if l % 2 = 0 then l + 1 else l - 1)
    let waking := x.st == lnWaking
    let s1 := (s.putLane n { LaneSt.init with st := x.st, failAt := s.mono }).setLane n lnFailed
    let s2 := s1.bump (Ctr.FAB_LANE_FAIL b) 1
    let y := s2.bund b
    let s3 := match y.down with
      | some d =>
        if d.pair = l / 2 then
          let s3 := s2.setBund b { y with down := none }
          if (s3.lane other).st = lnActive then
            (s3.setLane other lnQuiet).putLane other { (s3.lane other) with st := lnQuiet, burst := s.mono } else s3
        else s2
      | none => s2
    let s4 := match (s3.bund b).rxDown with
      | some d =>
        if d.pair = l / 2 then
          (s3.setBund b { s3.bund b with rxDown := none }).putLane other
            { s3.lane other with rx := if (s3.lane other).rx = lnActive then lnQuiet else (s3.lane other).rx } else s3
      | none => s3
    let s5 := if waking && (s4.lane other).st == lnWaking then s4.setLane other lnActive else s4
    s5.restoreAll b

/-- LANE_RETRAIN (R256): 2^-4 s after it failed. -/
def laneRetrain (b l : Nat) (s : State) : State :=
  let n := laneNo b l
  if s.fabOn && (s.lane n).st == lnFailed && decide ((s.lane n).failAt + spanExp 4 ≤ s.mono) then s.setLane n lnSignal else s

/-- FAB_CW_UNKNOWN (R255). -/
def fabCwUnknown (b ty : Nat) (s : State) : State := if s.fabOn && decide (8 ≤ ty) then s.bump (Ctr.FAB_CW_UNKNOWN b) 1 else s

/-! ### Timing words and device lists (R253, R271) -/

/-- An instant with the board's correction of bundle b. -/
def State.fabTs (s : State) (b inst : Nat) (tx : Bool) : Nat :=
  let f := if tx then Fld.TIME_TS_ADJ_TX else Fld.TIME_TS_ADJ_RX
  let adj := (BitVec.ofNat 16 (s.fld (Reg.TIME_TS_ADJ (128 + b)) f)).toInt
  (((inst * 16 : Nat) : Int) + adj).toNat / 16

/-- TIMING (R271): a received TIMING word; `w` holds its bytes 1 to 31. -/
def timing (b l : Nat) (w : List Byte) (inst : Nat) (s : State) : State :=
  if s.fabOn then
    s.eventAt 0 0x0604 2 (8 + b) (s.fabTs b inst false) (laneNo b l) (beBytes 1 1 ++ (w ++ zeros 31).take 31)
  else s

/-- FAB_TIME_TX (R271): sends a TIMING word with a tag. What its bytes 3 to 31 hold is device firmware's; no register gives it, and it is a free
value here. -/
def fabTimeTx (b : Nat) (v : Word) (s : State) : State :=
  let l := Fld.FAB_TIME_TX_LANE.get v
  if !s.fabOn || decide (24 ≤ l) || decide ((s.lane (laneNo b l)).st ≠ lnActive) then s
  else
    let (x, s1) := s.draw
    let (y, s2) := s1.draw
    let body := beBytes 2 (Fld.FAB_TIME_TX_TAG.get v) ++ beBytes 16 x ++ beBytes 13 y
    (s2.ctrl (laneNo b l) (beBytes 1 7 ++ body)).eventAt 0 0x0604 2 (8 + b) (s.fabTs b s.nowT true) (laneNo b l) ([0] ++ body)

/-- A write of FAB_MCL_CMD (R253, R272). -/
def fabMclCmd (v : Word) (s : State) : State :=
  let i := Fld.FAB_MCL_CMD_LIST.get v
  match Fld.FAB_MCL_CMD_OP.get v with
  | 0 =>
    let m := ((List.range 64).map (fun w => (s.reg (Reg.FAB_MCL_DATA w)).toNat * 2 ^ (32 * w))).sum
    { s with fab := { s.fab with lists := KMap.set (0, 0) s.fab.lists i (m, Fld.FAB_MCL_CMD_CLASS.get v) } }.demandAfter s
  | 1 =>
    let (m, c) := s.devList i
    ((List.range 64).foldl (fun s w => s.setReg (Reg.FAB_MCL_DATA w) (BitVec.ofNat 32 (m >>> (32 * w)))) s).setFld Reg.FAB_MCL_STATUS
      Fld.FAB_MCL_STATUS_CLASS c
  | _ => s

/-- FABRIC_CELL_TX. -/
def execFabricCellTx (i : Fin 16) (n : BitVec 16) (d : BitVec 11) (lane : Fin 192) (s : State) : Host.Outcome State Fault Refusal :=
  answer s (fabricCellTx i.val n.toNat d.toNat lane.val s)
/-- FABRIC_CELL_RX. -/
def execFabricCellRx (b : Fin 8) (l : Fin 24) (corr : BitVec 10) (unc : Bool) (h : BitVec 128) (ith : Ith) (p : List Byte) (s : State) :
    Host.Outcome State Fault Refusal := answer s (fabricCellRx b.val l.val corr.toNat unc h ith p s)
/-- REORDER_TIMEOUT. -/
def execReorderTimeout (d : BitVec 11) (c : Fin 8) (s : State) : Host.Outcome State Fault Refusal := answer s (reorderTimeout d.toNat c.val s)
/-- DEMAND. -/
def execDemand (b : Fin 8) (h : BitVec 128) (p : List Byte) (s : State) : Host.Outcome State Fault Refusal := answer s (demand b.val h p s)
/-- GRANT. -/
def execGrant (b : Fin 8) (h : BitVec 128) (p : List Byte) (s : State) : Host.Outcome State Fault Refusal := answer s (grant b.val h p s)
/-- GRANT_ROUND. -/
def execGrantRound (s : State) : Host.Outcome State Fault Refusal := answer s (grantRound s)
/-- CREDIT_MESSAGE_REFRESH. -/
def execCreditMessageRefresh (s : State) : Host.Outcome State Fault Refusal := answer s (creditMessageRefresh s)
/-- CREDIT_RETURN. -/
def execCreditReturn (d : BitVec 11) (c : Fin 8) (s : State) : Host.Outcome State Fault Refusal := answer s (creditReturn d.toNat c.val s)
/-- ALIGN. -/
def execAlign (b : Fin 8) (l : Fin 24) (dev : BitVec 11) (pb : BitVec 8) (pl : BitVec 8) (ver : BitVec 8) (cap : Bool) (s : State) :
    Host.Outcome State Fault Refusal := answer s (align b.val l.val dev.toNat pb.toNat pl.toNat ver.toNat cap s)
/-- READY. -/
def execReady (b : Fin 8) (l : Fin 24) (named : Fin 24) (s : State) : Host.Outcome State Fault Refusal :=
  answer s (ready b.val l.val named.val s)
/-- SHIFT_REQ. -/
def execShiftReq (b : Fin 8) (up : Bool) (p : Fin 12) (num : BitVec 8) (s : State) : Host.Outcome State Fault Refusal :=
  answer s (shiftReq b.val up p.val num.toNat s)
/-- SHIFT_ACK. -/
def execShiftAck (b : Fin 8) (p : Fin 12) (num : BitVec 8) (s : State) : Host.Outcome State Fault Refusal :=
  answer s (shiftAck b.val p.val num.toNat s)
/-- SHIFT_NAK. -/
def execShiftNak (b : Fin 8) (p : Fin 12) (num : BitVec 8) (s : State) : Host.Outcome State Fault Refusal :=
  answer s (shiftNak b.val p.val num.toNat s)
/-- SHIFT_DONE. -/
def execShiftDone (b : Fin 8) (l : Fin 24) (p : Fin 12) (num : BitVec 8) (s : State) : Host.Outcome State Fault Refusal :=
  answer s (shiftDone b.val l.val p.val num.toNat s)
/-- SHIFT_DONE_SEND. -/
def execShiftDoneSend (b : Fin 8) (l : Fin 24) (s : State) : Host.Outcome State Fault Refusal := answer s (shiftDoneSend b.val l.val s)
/-- SHED_ACK_TIMEOUT. -/
def execShedAckTimeout (b : Fin 8) (s : State) : Host.Outcome State Fault Refusal := answer s (shedAckTimeout b.val s)
/-- SHIFT_REQ_RESEND. -/
def execShiftReqResend (b : Fin 8) (s : State) : Host.Outcome State Fault Refusal := answer s (shiftReqResend b.val s)
/-- DERAILLEUR_WINDOW. -/
def execDerailleurWindow (b : Fin 8) (s : State) : Host.Outcome State Fault Refusal := answer s (derailleurWindow b.val s)
/-- QUIET_BURST. -/
def execQuietBurst (b : Fin 8) (l : Fin 24) (s : State) : Host.Outcome State Fault Refusal := answer s (quietBurst b.val l.val s)
/-- TIMING. -/
def execTiming (b : Fin 8) (l : Fin 24) (w : List Byte) (inst : BitVec 80) (s : State) : Host.Outcome State Fault Refusal :=
  answer s (timing b.val l.val w inst.toNat s)
/-- FAB_CW_UNKNOWN. -/
def execFabCwUnknown (b : Fin 8) (ty : BitVec 8) (s : State) : Host.Outcome State Fault Refusal := answer s (fabCwUnknown b.val ty.toNat s)
/-- LANE_CDR_LOCK. -/
def execLaneCdrLock (b : Fin 8) (l : Fin 24) (s : State) : Host.Outcome State Fault Refusal := answer s (laneCdrLock b.val l.val s)
/-- FAB_LANE_FAIL. -/
def execFabLaneFail (b : Fin 8) (l : Fin 24) (lost : Bool) (s : State) : Host.Outcome State Fault Refusal :=
  answer s (fabLaneFail b.val l.val lost s)
/-- LANE_RETRAIN. -/
def execLaneRetrain (b : Fin 8) (l : Fin 24) (s : State) : Host.Outcome State Fault Refusal := answer s (laneRetrain b.val l.val s)
/-- FAB_BUNDLE_CFG_WRITE. -/
def execFabBundleCfgWrite (b : Fin 8) (v : Word) (s : State) : Host.Outcome State Fault Refusal := answer s (onT (fabBundleCfgWrite b.val v) s)
/-- FAB_DEV_CFG_WRITE. -/
def execFabDevCfgWrite (v : Word) (s : State) : Host.Outcome State Fault Refusal := answer s (onT (fabDevCfgWrite v) s)
/-- FAB_TIME_TX. -/
def execFabTimeTx (b : Fin 8) (v : Word) (s : State) : Host.Outcome State Fault Refusal := answer s (onT (fabTimeTx b.val v) s)
/-- FAB_MCL_WRITE. -/
def execFabMclWrite (v : Word) (s : State) : Host.Outcome State Fault Refusal := answer s (onT (fabMclCmd (Fld.FAB_MCL_CMD_OP.put v 0)) s)
/-- FAB_MCL_READ. -/
def execFabMclRead (v : Word) (s : State) : Host.Outcome State Fault Refusal := answer s (onT (fabMclCmd (Fld.FAB_MCL_CMD_OP.put v 1)) s)
/-- LANE_WAIT_RESTORE. -/
def execLaneWaitRestore (b : Fin 8) (s : State) : Host.Outcome State Fault Refusal := answer s (laneWaitRestore b.val s)
/-- CAP_LIMITED_WINDOW. -/
def execCapLimitedWindow (b : Fin 8) (s : State) : Host.Outcome State Fault Refusal := answer s (capLimitedWindow b.val s)

end Sys2Proof.Machine
end

