-- ==== Sys2Proof/Machine/Sched.lean ====
section
/-! DEFINITION. The scheduler (R296 to R308, R316 to R318): shapers, the timing wheel, selection, node commands and sampling. -/

namespace Sys2Proof.Machine

/-! ### Nodes (R296, R297) -/

def nodeQuad (lv n : Nat) : Nat := n / levelSize lv

/-- The node of a level on a queue's path. -/
def State.nodeAt (s : State) (lv queue : Nat) : Nat :=
  match lv with
  | 3 => queue
  | 2 => queue / 8
  | 1 => s.parent 2 (queue / 8)
  | _ => s.queuePort queue

/-- The scheduler port of a node. -/
def State.nodePort (s : State) (lv n : Nat) : Nat :=
  portOfNode (match lv with
    | 3 => s.queuePort n
    | 2 => s.parent 1 (s.parent 2 n)
    | 1 => s.parent 1 n
    | _ => n)

/-! ### Shapers (R304 to R306) -/

/-- Credit is counted in units of 2^-16 byte, or 2^-16 packet. -/
def creditUnit : Int := 65536

/-- The burst size B of a node in credit units. -/
def burstUnits (w : BitVec 128) (pm : Bool) : Int := (cfgBurst w : Int) * (if pm then 1 else 64) * creditUnit

/-- Credit that a node gains over a span of 2^-32 s units. -/
def gainUnits (w : BitVec 128) (pm : Bool) (dt : Nat) : Int := ((cfgRate w * dt / (if pm then 2 ^ 16 else 2 ^ 19) : Nat) : Int)

/-- C(t) of a shaped node: min(B, C + ρ(t − t_u)); a negative span is zero (R305). -/
def State.creditAt (s : State) (lv n t : Nat) : Int :=
  let w := s.nodeCfg lv n
  let x := s.node lv n
  let pm := s.packetMode (s.nodePort lv n)
  if cfgShape w then min (burstUnits w pm) (x.credit + gainUnits w pm (t - x.upd)) else x.credit

/-- Brings a node's credit up to an instant; what was gained and what the cap took enter the SHAPER ledger (R305, R450). -/
def State.settleNode (s : State) (lv n t : Nat) : State :=
  let w := s.nodeCfg lv n
  let x := s.node lv n
  let pm := s.packetMode (s.nodePort lv n)
  let q := nodeQuad lv n
  let gain := if cfgShape w then gainUnits w pm (t - x.upd) else 0
  let c := s.creditAt lv n t
  ((s.setNode lv n { x with credit := c, upd := t }).ledAdd ldShaper q 0 gain).ledAdd ldShaper q 2 (x.credit + gain - c)

/-- The slot span W (R307). -/
def State.slotSpan (s : State) (q : Nat) : Nat := expSpanIn (-30) (-20) (s.fld (Reg.SCH_WHEEL_CFG q) Fld.SCH_WHEEL_CFG_SLOT)

/-- Enters a node whose credit is below zero on its quadrant's wheel: at the first slot instant at or after t_e, at most 65,535 slots ahead
(R306, R307). Its credit stands at the present instant. -/
def State.enterWheel (s : State) (lv n : Nat) : State :=
  let w := s.nodeCfg lv n
  let x := s.node lv n
  let rate := cfgRate w
  if !cfgShape w || rate == 0 || decide (0 ≤ x.credit) then s.setNode lv n { x with wheel := none }
  else
    let scale := if s.packetMode (s.nodePort lv n) then 2 ^ 16 else 2 ^ 19
    let te := x.upd + ((-x.credit).toNat * scale + rate - 1) / rate
    let span := s.slotSpan (nodeQuad lv n)
    let slot := min ((te + span - 1) / span * span) ((s.nowT / span + 65535) * span)
    s.setNode lv n { x with wheel := some (te, slot) }

/-- Whether a node's shaper allows it: no shaper, or a rate and a credit not below zero, off the wheel (R304, R306). -/
def State.shaperOk (s : State) (lv n : Nat) : Bool :=
  let w := s.nodeCfg lv n
  !cfgShape w || (cfgRate w != 0 && (s.node lv n).wheel.isNone && decide (0 ≤ s.creditAt lv n s.nowT))

/-- A node's own conditions of R299: EN and its shaper. -/
def State.nodeOk (s : State) (lv n : Nat) : Bool := cfgEn (s.nodeCfg lv n) && s.shaperOk lv n

/-! ### Room of host and CORE ports (R379) -/

/-- The receive ring of a queue of a host or CORE port. -/
def ringOfQueue (p queue : Nat) : Nat :=
  let h := if p < 132 then p - 128 else (p - 132) / 3
  h * 16384 + queue % 131072 / 8

/-- An RX descriptor: bytes 2 to 3 hold the buffer size, 8 to 15 its address, the others are zero (R377). -/
def rxDescLen (d : List Byte) : Nat := beAt d 2 2
def rxDescOk (d : List Byte) : Bool :=
  decide (64 ≤ rxDescLen d) && beAt d 0 2 == 0 && beAt d 4 4 == 0 && beAt d 16 16 == 0

/-- The first descriptors that together hold a number of bytes; those that break the limits hold none. -/
def takeDescs : Nat → List (List Byte) → Option (List (List Byte) × List (List Byte))
  | need, ds =>
    if need = 0 then some ([], ds)
    else
      match ds with
      | [] => none
      | d :: r => (takeDescs (need - (if rxDescOk d then rxDescLen d else 0)) r).map (fun x => (d :: x.1, x.2))

/-- Whether copies of a ring are discarded at slice entry: it is no RX ring, or is STOPPED, STOPPING or in ERROR (R379). -/
def State.ringGone (s : State) (g : Nat) : Bool :=
  s.ringKind g != rkRx || s.ringState g == rsStopped || s.ringState g == rsStopping || s.ringState g == rsError

/-- The growth that edits and ESP can add (R379). -/
def editGrowth : Nat := 512

/-- The descriptors a frame of a stored length reserves, and those left; none where room lacks: the ring does not run, a punt is in
progress, or descriptors or completion slots lack (R379, R380). -/
def State.ringRoom (s : State) (g len : Nat) : Option (List (List Byte) × List (List Byte)) :=
  let r := s.ring g
  if s.ringState g ≠ rsRunning ∨ r.rx.any (·.punt.isSome) then none
  else
    match takeDescs (len + editGrowth) r.pre with
    | some (a, b) => if a.length ≤ s.freeSlots g then some (a, b) else none
    | none => none

/-- The ring-wait span; 0 acts as 1 (R386). -/
def State.ringWait (s : State) : Nat := max 1 (s.fld Reg.RING_WAIT Fld.RING_WAIT_SPAN)

/-- Whether a port delivers to receive rings. -/
def toRing (p : Nat) : Bool := (decide (128 ≤ p) && decide (p < 132)) || (decide (132 ≤ p) && (p - 132) % 3 == 1)
def isLoopback (p : Nat) : Bool := decide (132 ≤ p) && (p - 132) % 3 == 0
def isDrain (p : Nat) : Bool := decide (132 ≤ p) && (p - 132) % 3 == 2

/-- The stored frame length L of a copy (R75, R302). -/
def Copy.len (c : Copy) : Nat := c.data.length + 4

/-- Whether the head frame of a queue of a host or CORE port has room (R379). -/
def State.headRoom (s : State) (p queue : Nat) : Bool :=
  let g := ringOfQueue p queue
  match (s.queue queue).copies with
  | [] => false
  | c :: _ => s.ringGone g || (s.ringRoom g c.len).isSome || KMap.get 0 s.sch.waitOver queue == 1

/-! ### Eligibility (R299) -/

/-- Copies of a class of a port between dequeue and the gate stage (R309, R312). -/
def State.staged (s : State) (p c : Nat) : Nat :=
  (s.eg.copies.l.filter (fun (_, o) => match o with
    | some x => x.port == p && x.copy.queue % 8 == c && (x.stage == .crossing || x.stage == .staged)
    | none => false)).length

/-- The class node's conditions: a copy, EN, its shaper, no PFC, and room of its class. -/
def State.classOk (s : State) (p queue : Nat) : Bool :=
  !(s.queue queue).copies.isEmpty && s.nodeOk lvClass queue &&
    (if p < 128 then !s.paused p (queue % 8) && decide (s.staged p (queue % 8) < 2)
     else if toRing p then s.headRoom p queue else true)

/-- How an egress slice stands: it serves its ports unless it is fenced and its partner has not taken over (R513). -/
def State.egServes (s : State) (e : Nat) : Bool := KMap.get 0 s.eg.fence e == 0 || KMap.get 0 s.eg.fence e == 2

/-- The port node's conditions. -/
def State.portOk (s : State) (p : Nat) : Bool :=
  s.fdieUp && s.nodeOk lvPort (nodeOfPort p) &&
    (decide (128 ≤ p) ||
      (s.portEn p && (s.linkUp p || s.flag (portCfg p) Fld.PORT_CFG_DOWN_ACTION) && !s.leaseOver &&
        !decide (s.mono < KMap.get 0 s.port.pause (9 * p + 8))))

/-- Whether a queue's copies may be selected: every node of its path is eligible. -/
def State.queueOk (s : State) (queue : Nat) : Bool :=
  let p := portOfNode (s.queuePort queue)
  s.portOk p && s.nodeOk lvChannel (s.nodeAt 1 queue) && s.nodeOk lvSub (queue / 8) && s.classOk p queue

/-- Starts the ring wait of the queues of an egress slice whose head frame lacks room (R379). -/
def State.startWaits (s : State) (e : Nat) : State :=
  s.tm.queues.keys.foldl (fun s queue =>
    let p := portOfNode (s.queuePort queue)
    if toRing p && sliceOf p queue == e && !(s.queue queue).copies.isEmpty && !s.headRoom p queue && KMap.get 0 s.sch.waits queue == 0 then
      { s with sch := { s.sch with waits := KMap.set 0 s.sch.waits queue (s.mono + 1) } }
    else s) s

/-- The queues that an egress slice may serve now. -/
def State.eligible (s : State) (e : Nat) : List Nat :=
  s.tm.queues.keys.filter (fun queue => sliceOf (portOfNode (s.queuePort queue)) queue == e && s.queueOk queue)

/-! ### Selection (R300) -/

def State.ptr (s : State) (lv n prio : Nat) : Nat := KMap.get 0 s.sch.ptr (nodeKey lv n * 8 + prio)
def State.setPtr (s : State) (lv n prio v : Nat) : State :=
  { s with sch := { s.sch with ptr := KMap.set 0 s.sch.ptr (nodeKey lv n * 8 + prio) v } }

/-- The quantum of a child (R300). -/
def State.quantum (s : State) (lv n : Nat) (pm : Bool) : Int := (cfgWeight (s.nodeCfg lv n) : Int) * (if pm then 1 else 256)

/-- Deficit round robin from the pointer: a child reached without deficit takes its quantum, and is served if that is enough. -/
def State.drr (s : State) (lv : Nat) (pm : Bool) : Nat → List Nat → Nat × State
  | 0, l => (l.headD 0, s)
  | _, [] => (0, s)
  | fuel + 1, c :: r =>
    let x := s.node lv c
    if 0 < x.deficit then (c, s)
    else
      let d := x.deficit + s.quantum lv c pm
      let s1 := s.setNode lv c { x with deficit := d }
      if 0 < d then (c, s1) else s1.drr lv pm fuel (r ++ [c])

/-- Puts a number into a rising list that does not hold it. -/
def insNub (a : Nat) : List Nat → List Nat
  | [] => [a]
  | b :: r => if a < b then a :: b :: r else if a = b then b :: r else b :: insNub a r

/-- A list without repeats, in rising order. -/
def sortNub (l : List Nat) : List Nat := l.foldr insNub []

/-- Cuts a rising list at a pointer and begins there. -/
def rotate (l : List Nat) (i : Nat) : List Nat := l.filter (fun x => decide (i ≤ x)) ++ l.filter (fun x => decide (x < i))

/-- The child that a node picks among its eligible ones: the lowest PRIO, then deficit round robin (R300). -/
def State.pick (s : State) (lv parent : Nat) (kids : List Nat) (pm : Bool) : Nat × State :=
  let prio (c : Nat) : Nat := cfgPrio (s.nodeCfg lv c)
  let best := kids.foldl (fun b c => min b (prio c)) 7
  let l := rotate (kids.filter (fun c => prio c == best)) (s.ptr (lv - 1) parent best)
  let (c, s1) := s.drr lv pm (80 * l.length) l
  (c, s1.setPtr (lv - 1) parent best c)

/-- Walks down from a port to the class node chosen. -/
def State.descend (s : State) (leaves : List Nat) (pnode : Nat) (pm : Bool) : Nat × State :=
  let l0 := leaves.filter (fun x => s.nodeAt 0 x == pnode)
  let (ch, s1) := s.pick 1 pnode (sortNub (l0.map (s.nodeAt 1))) pm
  let l1 := l0.filter (fun x => s.nodeAt 1 x == ch)
  let (sb, s2) := s1.pick 2 ch (sortNub (l1.map (· / 8))) pm
  s2.pick 3 sb (sortNub (l1.filter (fun x => x / 8 == sb))) pm

/-! ### Dequeue (R301) -/

/-- The scheduling length ℓ (R302, R303). -/
def State.schedLen (s : State) (p len : Nat) : Int :=
  if s.packetMode p then 1
  else
    let k := nodeOfPort p
    max 1 ((len : Int) + (BitVec.ofNat 8 (s.fld (Reg.SCH_PORT_CFG (k / 36) (k % 36)) Fld.SCH_PORT_CFG_OVERHEAD)).toInt)

/-- A node on the path pays ℓ from its shaper. -/
def State.pay (s : State) (lv n : Nat) (len : Int) : State :=
  if cfgShape (s.nodeCfg lv n) then
    let s1 := s.settleNode lv n s.nowT
    let x := s1.node lv n
    ((s1.setNode lv n { x with credit := x.credit - len * creditUnit }).ledAdd ldShaper (nodeQuad lv n) 1 (len * creditUnit)).enterWheel lv n
  else s

/-- Subtracts ℓ from a child's deficit; at zero or below it takes its quantum and the pointer moves on (R300). -/
def State.charge (s : State) (lv n parent : Nat) (pm : Bool) (len : Int) : State :=
  let x := s.node lv n
  let d := x.deficit - len
  if 0 < d then s.setNode lv n { x with deficit := d }
  else
    (s.setNode lv n { x with deficit := d + s.quantum lv n pm }).setPtr (lv - 1) parent (cfgPrio (s.nodeCfg lv n)) (n + 1)

/-- A child whose subtree is empty has its deficit set to zero (R300). -/
def State.emptied (s : State) (lv queue : Nat) : State :=
  let n := s.nodeAt lv queue
  if s.tm.queues.keys.any (fun x => !(s.queue x).copies.isEmpty && s.nodeAt lv x == n) then s
  else s.setNode lv n { s.node lv n with deficit := 0 }

/-- Reserves the descriptors of a frame on its ring, behind what the ring is writing (R379). -/
def State.reserveRx (s : State) (g id : Nat) (a b : List (List Byte)) (cls : Nat) : State :=
  let r := s.ring g
  let x : RxWrite := { punt := none, eg := some id, used := [], descs := a, rest := [], reason := 0, source := cls, instant := 0, dry := none,
                       whole := false, endSt := none, slice := 0, room := 0, cut := false }
  s.setRing g { r with pre := b, reserved := r.reserved + a.length, rx := r.rx ++ [x] }

def State.egCopy (s : State) (n : Nat) : Option EgCopy := KMap.get none s.eg.copies n
def State.setEgCopy (s : State) (n : Nat) (x : Option EgCopy) : State := { s with eg := { s.eg with copies := KMap.set none s.eg.copies n x } }

/-- Dequeues the head copy of a queue: it pays along its path, its ring's descriptors are reserved, and it begins to cross. `unc` names an
uncorrectable word met in it: the copy is discarded there (R335). Answers the copy's number. -/
def State.dequeue (s : State) (e queue : Nat) (unc : Option MemLoc) : Nat × State :=
  match s.takeCopy queue with
  | none => (0, s)
  | some (c, s1) =>
    let p := portOfNode (s.queuePort queue)
    let pm := s.packetMode p
    let len := s.schedLen p c.len
    let path := [(0, s.nodeAt 0 queue), (1, s.nodeAt 1 queue), (2, queue / 8), (3, queue)]
    let s2 := path.foldl (fun s (lv, n) => s.pay lv n len) s1
    let s3 := ((s2.charge 1 (s.nodeAt 1 queue) (s.nodeAt 0 queue) pm len).charge 2 (queue / 8) (s.nodeAt 1 queue) pm len).charge 3 queue (queue / 8)
      pm len
    let s4 := ((s3.emptied 3 queue).emptied 2 queue).emptied 1 queue
    let s5 := s4.bump (Ctr.SCH_DEQ_PKTS (queue / 131072)) 1
    let s6 := { s5 with sch := { s5.sch with slicePtr := KMap.set 0 s5.sch.slicePtr e (p + 1), waits := KMap.set 0 s5.sch.waits queue 0,
                                             waitOver := KMap.set 0 s5.sch.waitOver queue 0 } }
    match unc with
    | some l => (0, ((s6.memUncorr l 0).egDrop (queue / 131072)).releaseCopy c)
    | none =>
      let id := s6.eg.next
      let g := ringOfQueue p queue
      let room := if toRing p && !s.ringGone g then s.ringRoom g c.len else none
      let x : EgCopy := { copy := c, slice := e, port := p, stage := .crossing, crossed := false, epoch := 0, frame := [], len := 0, shift := 0,
                          expired := toRing p && !s.ringGone g && room.isNone, txInst := 0 }
      let s7 := { s6 with eg := { s6.eg with next := id + 1 } }.setEgCopy id (some x)
      match room with
      | some (a, b) => (id, s7.reserveRx g id a b (queue % 8))
      | none => (id, s7)

/-- Whether a location can be met in a dequeued copy of a quadrant (R335). -/
def copyWord (q : Nat) : MemLoc → Bool
  | .hbm st .. => st.val / 2 == q
  | .packetSram i .. => i.val == q
  | _ => false

/-- SCHEDULER_SELECT (R299 to R303): the slice takes at most one copy. -/
def schedulerSelect (e : Nat) (unc : Option MemLoc) (s : State) : State :=
  let q := e / 4
  if !s.flag (Reg.SCH_CFG q) Fld.SCH_CFG_EN || !s.tdieUp || !s.egServes e then s
  else
    let leaves := s.eligible e
    let s0 := s.startWaits e
    let ports := rotate (sortNub (leaves.map (fun x => portOfNode (s.queuePort x)))) (KMap.get 0 s.sch.slicePtr e)
    match ports with
    | [] => s0
    | p :: _ =>
      let (queue, s1) := s0.descend leaves (nodeOfPort p) (s0.packetMode p)
      (s1.dequeue e queue (unc.filter (copyWord q))).2

/-- WHEEL_SLOT_RELEASE (R306, R307): the nodes whose slot instant has come leave the wheel; one whose credit is still below zero enters
again. -/
def wheelSlotRelease (q : Nat) (s : State) : State :=
  s.sch.node.keys.foldl (fun s k =>
    let lv := k / 2 ^ 20
    let n := k % 2 ^ 20
    match (s.node lv n).wheel with
    | some (_, slot) =>
      if nodeQuad lv n = q ∧ slot ≤ s.nowT then
        let s1 := s.settleNode lv n s.nowT
        (s1.setNode lv n { s1.node lv n with wheel := none }).enterWheel lv n
      else s
    | none => s) s

/-! ### Node commands (R308, R318) -/

def State.schData (s : State) (q : Nat) : BitVec 128 :=
  BitVec.ofNat 128 (((List.range 4).map (fun w => (s.reg (Reg.SCH_NDATA q w)).toNat * 2 ^ (32 * w))).sum)
def State.setSchData (s : State) (q v : Nat) : State :=
  (List.range 4).foldl (fun s w => s.setReg (Reg.SCH_NDATA q w) (BitVec.ofNat 32 (v >>> (32 * w)))) s

/-- Whether a node configuration may be written at a level: reserved fields zero, a local port at most 35. -/
def nodeCfgOk (lv : Nat) (w : BitVec 128) : Bool :=
  bitsOf w 66 0 == 0 &&
    (match lv with
     | 2 => bitsOf w 79 78 == 0
     | 1 => bitsOf w 79 73 == 0 && decide (bitsOf w 72 67 ≤ 35)
     | _ => bitsOf w 79 67 == 0)

/-- Writes a node's configuration (R308): credit accrues at the old rate up to now and is then capped at the new B; a node on the wheel has
its t_e computed again. -/
def State.writeNode (s : State) (lv n : Nat) (w : BitVec 128) : State :=
  let w1 := if s.nodeLost lv n then w &&& (0x7FFFFFFFFFFFFFFFFFFFFFFFFFFFFFFF : BitVec 128) else w
  let s1 := s.settleNode lv n s.nowT
  let s2 := { s1 with sch := { s1.sch with cfg := KMap.set 0 s1.sch.cfg (nodeKey lv n) w1 } }
  let s3 := s2.settleNode lv n s.nowT
  if (s3.node lv n).wheel.isSome ∨ (s3.node lv n).credit < 0 then s3.enterWheel lv n else s3

/-- A signed value in `k` bits. -/
def signedBits (k : Nat) (v : Int) : Nat := (v % (2 ^ k : Nat)).toNat

/-- The node state of READ_STATE. -/
def State.nodeState (s : State) (lv n : Nat) : Nat :=
  let x := s.node lv n
  let under (queue : Nat) : Bool := s.nodeAt lv queue == n
  let backlog := s.tm.queues.keys.any (fun k => under k && !(s.queue k).copies.isEmpty)
  let down (queue : Nat) : Bool :=
    let p := portOfNode (s.queuePort queue)
    s.classOk p queue && (decide (2 < lv) || s.nodeOk lvSub (queue / 8)) && (decide (1 < lv) || s.nodeOk lvChannel (s.nodeAt 1 queue)) &&
      (decide (0 < lv) || s.portOk p)
  let elig := s.tm.queues.keys.any (fun k => under k && down k)
  let te := match x.wheel with | some (t, _) => t | none => 0
  signedBits 32 (s.creditAt lv n s.nowT / creditUnit) + te % 2 ^ 32 * 2 ^ 32 + te / 2 ^ 32 % 2 ^ 32 * 2 ^ 64 +
    (x.wheel.isSome.toNat * 2 ^ 31 + elig.toNat * 2 ^ 30 + backlog.toNat * 2 ^ 29 + signedBits 29 x.deficit) * 2 ^ 96

/-- A write of SCH_NCMD (R318). -/
def schNcmd (q : Nat) (v : Word) (s : State) : State :=
  let lv := Fld.SCH_NCMD_LEVEL.get v
  let i := Fld.SCH_NCMD_INDEX.get v
  let n := nodeNum lv q i
  let err : State := s.setFlag (Reg.SCH_NSTATUS q) Fld.SCH_NSTATUS_ERR true
  if levelSize lv ≤ i then err
  else
    match Fld.SCH_NCMD_OP.get v with
    | 0 => s.setSchData q (s.nodeCfg lv n).toNat
    | 1 => if nodeCfgOk lv (s.schData q) then s.writeNode lv n (s.schData q) else err
    | 2 => s.setSchData q (s.nodeState lv n)
    | _ => err

/-- Sets the credits of a port's nodes to zero; the zeroed amount counts as capped (R303, R450). -/
def State.zeroCredits (s : State) (p : Nat) : State :=
  s.sch.node.keys.foldl (fun s k =>
    let lv := k / 2 ^ 20
    let n := k % 2 ^ 20
    if s.nodePort lv n = p then
      let s1 := s.settleNode lv n s.nowT
      let x := s1.node lv n
      (s1.setNode lv n { x with credit := 0, wheel := none }).ledAdd ldShaper (nodeQuad lv n) 2 x.credit
    else s) s

/-- SCH_PORT_CFG_WRITE (R303): a change of mode zeroes the shaper credits of the port's nodes. -/
def schPortCfgWrite (q k : Nat) (v : Word) (s : State) : State :=
  let a := Reg.SCH_PORT_CFG q k
  let p := portOfNode (q * 36 + k)
  let s1 := s.setReg a (v &&& 0x800000FF)
  if s.packetMode p == s1.packetMode p then s1 else (s.zeroCredits p).setReg a (v &&& 0x800000FF)

/-! ### Ring wait (R379) -/

/-- RX_RING_WAIT_EXPIRE (R379): the ring wait of a head frame has expired; the frame has room in its class node, and is dequeued and
discarded as soon as its path allows it. -/
def State.waitExpire (s : State) (queue : Nat) : State :=
  match KMap.get 0 s.sch.waits queue with
  | 0 => s
  | n + 1 => if n + s.ringWait ≤ s.mono then { s with sch := { s.sch with waitOver := KMap.set 0 s.sch.waitOver queue 1 } } else s

/-! ### Sampling (R316, R317) -/

def State.sampleRing (s : State) (q : Nat) : Nat :=
  s.fld (Reg.SCH_SAMPLE_CFG q) Fld.SCH_SAMPLE_CFG_HOST_PORT * 16384 + s.fld (Reg.SCH_SAMPLE_CFG q) Fld.SCH_SAMPLE_CFG_RING

/-- Writes a sample entry, or drops it where the ring is full or no running sample ring (R317). -/
def State.sampleEntry (s : State) (q : Nat) (d : List Byte) : State :=
  let g := s.sampleRing q
  if s.ringKind g = rkSample ∧ s.ringState g = rsRunning ∧ s.freeSlots g ≠ 0 then s.writeEntry g d
  else s.bump (Ctr.SCH_SAMPLE_DROP q) 1

def State.sampleSpan (s : State) (q : Nat) : Nat := expSpanIn (-12) 6 (s.fld (Reg.SCH_SAMPLE_CFG q) Fld.SCH_SAMPLE_CFG_INTERVAL)

/-- The queues of a round. -/
def State.sampleCount (s : State) (q : Nat) : Nat :=
  let n := s.fld (Reg.SCH_SAMPLE_RANGE q) Fld.SCH_SAMPLE_RANGE_COUNT
  if n = 0 then 131072 else min 131072 (8 * n)

def State.round (s : State) (q : Nat) : Option Round := KMap.get none s.sch.rounds q
def State.setRound (s : State) (q : Nat) (r : Option Round) : State := { s with sch := { s.sch with rounds := KMap.set none s.sch.rounds q r } }

/-- SAMPLE_ROUND_START (R316): at each multiple of the interval a round starts, or is skipped while one runs. -/
def sampleRoundStart (q : Nat) (s : State) : State :=
  let span := s.sampleSpan q
  let last := KMap.get 0 s.time.trig (tgSample q)
  if !s.flag (Reg.SCH_SAMPLE_CFG q) Fld.SCH_SAMPLE_CFG_EN || !s.tdieUp || decide (s.nowT / span ≤ last / span) then s
  else
    let s1 := { s with time := { s.time with trig := KMap.set 0 s.time.trig (tgSample q) s.nowT } }
    match s1.round q with
    | some _ => s1.bump (Ctr.SCH_SAMPLE_SKIP q) 1
    | none =>
      let n := s1.sampleCount q
      let t := s.nowT / span * span
      (s1.sampleEntry q (beBytes 1 0x01 ++ beBytes 1 q ++ zeros 2 ++ beBytes 4 (t >>> 32) ++ beBytes 4 t ++ beBytes 4 n)).setRound q
        (some ⟨s1.fld (Reg.SCH_SAMPLE_RANGE q) Fld.SCH_SAMPLE_RANGE_FIRST, n⟩)

/-- SAMPLE_VISIT (R316, R317): the round visits its next queue. -/
def sampleVisit (q : Nat) (s : State) : State :=
  match s.round q with
  | none => s
  | some r =>
    let n := q * 131072 + r.next
    let x := s.queue n
    let inRes := (s.quad q).residue.any (fun y => y.queue == n)
    let delay := match x.copies with | [] => 0 | c :: _ => s.mono - c.ta
    let flags := (s.spilling n).toNat * 128 + inRes.toNat * 64 + x.copies.isEmpty.toNat * 32
    (s.sampleEntry q (beBytes 1 0x02 ++ beBytes 1 flags ++ zeros 2 ++ beBytes 4 n ++ beBytes 4 (min ((x.depth + 63) / 64) 0xFFFFFFFF) ++
      beBytes 4 (min delay 0xFFFFFFFF))).setRound q (if r.left ≤ 1 then none else some ⟨(r.next + 1) % 131072, r.left - 1⟩)

/-- SCHEDULER_SELECT; `u` names an uncorrectable word found in the copy taken. -/
def execSchedulerSelect (e : Fin 16) (u : Option MemLoc) (s : State) : Host.Outcome State Fault Refusal := answer s (schedulerSelect e.val u s)
/-- WHEEL_SLOT_RELEASE. -/
def execWheelSlotRelease (q : Fin 4) (s : State) : Host.Outcome State Fault Refusal := answer s (wheelSlotRelease q.val s)
/-- SCH_READ_CFG. -/
def execSchReadCfg (q : Fin 4) (v : Word) (s : State) : Host.Outcome State Fault Refusal := answer s (onT (schNcmd q.val (Fld.SCH_NCMD_OP.put v 0)) s)
/-- SCH_WRITE_CFG. -/
def execSchWriteCfg (q : Fin 4) (v : Word) (s : State) : Host.Outcome State Fault Refusal := answer s (onT (schNcmd q.val (Fld.SCH_NCMD_OP.put v 1)) s)
/-- SCH_READ_STATE. -/
def execSchReadState (q : Fin 4) (v : Word) (s : State) : Host.Outcome State Fault Refusal := answer s (onT (schNcmd q.val (Fld.SCH_NCMD_OP.put v 2)) s)
/-- SCH_PORT_CFG_WRITE. -/
def execSchPortCfgWrite (q : Fin 4) (k : Fin 36) (v : Word) (s : State) : Host.Outcome State Fault Refusal :=
  answer s (onT (schPortCfgWrite q.val k.val v) s)
/-- SAMPLE_ROUND_START. -/
def execSampleRoundStart (q : Fin 4) (s : State) : Host.Outcome State Fault Refusal := answer s (sampleRoundStart q.val s)
/-- SAMPLE_VISIT. -/
def execSampleVisit (q : Fin 4) (s : State) : Host.Outcome State Fault Refusal := answer s (sampleVisit q.val s)

end Sys2Proof.Machine
end

