-- ==== Sys2Proof/Machine/Gate.lean ====
section
/-! DEFINITION. The gate stage and time gates (R309 to R315, R319). -/

namespace Sys2Proof.Machine

/-! ### Operation (R310, R313) -/

/-- The gate operations of R313. -/
def opHold : Nat := 1
def opRelease : Nat := 2

/-- GATE_ENTRY_BOUNDARY (R310, R313): the entry in force begins: its gate bits are set and its operation acts. A hold, or a gate that shuts
under a preemptable frame, interrupts that frame; what was interrupted resumes when neither stands in its way. -/
def gateEntryBoundary (p : Nat) (s : State) : State :=
  if !s.gateEn p then s
  else
    let g := s.gate p
    match g.oper with
    | none => s
    | some l =>
      if s.now < l.base then s
      else
        match l.at_ s.now with
        | none => s
        | some (start, op, bits) =>
          let t := s.now - l.phase s.now + start
          if t < g.at_ then s
          else
            let s1 := (s.setGate p { g with at_ := t + 1 }).setFld (gateStatus p) Fld.GATE_STATUS_OPEN bits
            let act := s1.preActive p
            let s2 :=
              if act && op == opHold then
                let (cut, s2) := (s1.setFlag (gateStatus p) Fld.GATE_STATUS_HOLD true).cutPre p
                let s3 := s2.setGate p { s2.gate p with delayed := cut }
                if cut then s3.bump (Ctr.PORT_TX_PRE_HOLD (p / 8) (p % 8)) 1 else s3
              else if act && op == opRelease then s1.setFlag (gateStatus p) Fld.GATE_STATUS_HOLD false
              else s1
            let s4 := match s2.txNow p true with
              | some y => if !y.cut && !bits.testBit y.cls then (s2.cutPre p).2 else s2
              | none => s2
            s4.resumePre p

/-! ### Lists (R315, R319) -/

/-- The least interval 2^-26 s, and the bounds of the cycle time, in units of 2^-32 s (R315). -/
def minInterval : Nat := 64
def minCycle : Nat := 4096
def maxCycle : Nat := 2 ^ 32

/-- The administrative list of a port as its registers and entries give it; a cycle time of 0 means 1 s. -/
def State.adminList (s : State) (p : Nat) : GateList :=
  let n := s.fld (Reg.GATE_ADMIN_LEN (p / 8) (p % 8)) Fld.GATE_ADMIN_LEN_VAL
  let t := (s.reg (Reg.GATE_ADMIN_CYCLE (p / 8) (p % 8))).toNat
  let base := s.fld (Reg.GATE_ADMIN_BASE_SEC_HI (p / 8) (p % 8)) Fld.GATE_ADMIN_BASE_SEC_HI_VAL * 2 ^ 64 +
    (s.reg (Reg.GATE_ADMIN_BASE_SEC_LO (p / 8) (p % 8))).toNat * 2 ^ 32 + (s.reg (Reg.GATE_ADMIN_BASE_FRAC (p / 8) (p % 8))).toNat
  ⟨(List.range n).map (fun i => KMap.get (0, 0, 0) (s.gate p).admin i), if t = 0 then maxCycle else t, base⟩

/-- Whether a list may be scheduled (R313, R315). -/
def GateList.ok (l : GateList) : Bool :=
  !l.entries.isEmpty && decide (l.entries.length ≤ 256) && l.entries.all (fun e => decide (minInterval ≤ e.1 ∧ e.2.1 ≤ 2)) &&
    decide (minCycle ≤ l.cycle ∧ l.cycle ≤ maxCycle)

/-- The change instant X: the base, or its first later multiple of the cycle time, at or after the GO instant plus 2^-20 s. -/
def GateList.changeAt (l : GateList) (now : Nat) : Nat :=
  let t := now + 4096
  if t ≤ l.base then l.base else l.base + (t - l.base + l.cycle - 1) / l.cycle * l.cycle

/-- GO (R315): schedules the administrative bank, or refuses its list. A second GO replaces the pending change. -/
def go (p : Nat) (s : State) : State :=
  let l := s.adminList p
  if !l.ok then s.setFlag (gateStatus p) Fld.GATE_STATUS_ERR true
  else
    let x := l.changeAt s.now
    (s.setGate p { s.gate p with pend := some ({ l with base := x }, x) }).setFlag (gateStatus p) Fld.GATE_STATUS_PENDING true

/-- The entries of a list as a bank holds them. -/
def GateList.bank (l : GateList) : KMap (Nat × Nat × Nat) :=
  l.entries.zipIdx.foldl (fun m (e, i) => KMap.set (0, 0, 0) m i e) .empty

/-- GATE_LIST_SWITCH (R315): at X the administrative list becomes operational and the banks swap. -/
def gateListSwitch (p : Nat) (s : State) : State :=
  let g := s.gate p
  match g.pend with
  | none => s
  | some (l, x) =>
    if s.now < x then s
    else
      let old := match g.oper with | some o => o.bank | none => .empty
      ((s.setGate p { g with oper := some l, admin := old, pend := none, at_ := 0 }).setFlag (gateStatus p) Fld.GATE_STATUS_PENDING false).bump
        (Ctr.GATE_LIST_SWITCH (p / 8) (p % 8)) 1

/-- GATE_LIST_CMD (R315, R319): writes an administrative entry, unless that bank is pending, or reads an operational entry. -/
def gateListCmd (i : Nat) (v : Word) (s : State) : State :=
  let p := 8 * i + Fld.GATE_LIST_CMD_PORT.get v
  let n := Fld.GATE_LIST_CMD_ENTRY.get v
  let g := s.gate p
  if Fld.GATE_LIST_CMD_READ.get v = 1 then
    let e := match g.oper with | some l => l.entries.getD n (0, 0, 0) | none => (0, 0, 0)
    (s.setReg (Reg.GATE_LIST_WR_LO i) (BitVec.ofNat 32 e.1)).setReg (Reg.GATE_LIST_WR_HI i) (BitVec.ofNat 32 (e.2.1 * 256 + e.2.2))
  else if g.pend.isSome then s.setFlag (Reg.GATE_LIST_STATUS i) Fld.GATE_LIST_STATUS_REFUSED true
  else
    let e := ((s.reg (Reg.GATE_LIST_WR_LO i)).toNat, s.fld (Reg.GATE_LIST_WR_HI i) Fld.GATE_LIST_WR_HI_OP,
      s.fld (Reg.GATE_LIST_WR_HI i) Fld.GATE_LIST_WR_HI_GATES)
    s.setGate p { g with admin := KMap.set (0, 0, 0) g.admin n e }

/-- GATE_CFG_WRITE (R310): EN is refused on an OTN port; while it is clear every gate is open. -/
def gateCfgWrite (p : Nat) (v : Word) (s : State) : State :=
  if Fld.GATE_CFG_EN.get v = 1 then
    if s.portOtn p then s.setFlag (gateStatus p) Fld.GATE_STATUS_ERR true
    else if s.gateEn p then s
    else (s.setFlag (gateCfg p) Fld.GATE_CFG_EN true).setGate p { s.gate p with at_ := 0 }
  else
    (((s.setFlag (gateCfg p) Fld.GATE_CFG_EN false).setFld (gateStatus p) Fld.GATE_STATUS_OPEN 0xFF).setFlag (gateStatus p)
      Fld.GATE_STATUS_HOLD false).resumePre p

/-! ### The gate stage (R309, R311, R313) -/

/-- Whether a class of a port is express: it is so named, or preemption is not active (R85, R313). -/
def State.express (s : State) (p c : Nat) : Bool :=
  !s.preActive p || (s.fld (preCfg p) Fld.PORT_PRE_CFG_EXPRESS).testBit c

/-- The heads of a port's classes at the gate stage: class, number and copy of the first frame of each. -/
def State.stageHeads (s : State) (p : Nat) : List (Nat × Nat × EgCopy) :=
  (List.range 8).filterMap (fun c =>
    s.eg.copies.l.findSome? (fun (n, o) => match o with
      | some x => if x.port = p ∧ x.copy.queue % 8 = c ∧ x.stage = .staged then some (c, n, x) else none
      | none => none))

/-- The wire time of a frame, preamble and gap included (R311). -/
def State.wireTime (s : State) (p len : Nat) : Nat := s.bitTime p ((len + 20) * 8)

/-- Whether a frame can never leave: its wire time exceeds the longest open span of its class (R311). -/
def State.tooLong (s : State) (p c len : Nat) : Bool :=
  s.gateEn p && s.express p c &&
    (match (s.gate p).oper with
     | none => false
     | some l => match l.longestOpen c with | some n => decide (n < s.wireTime p len) | none => false)

/-- Whether a frame of a class may leave the stage for transmit instant `t` (R311, R313). -/
def State.mayLeave (s : State) (p c len t : Nat) : Bool :=
  s.gateOpen p c t &&
    (if s.express p c then (match s.nextShut p c t with | some x => decide (t + s.wireTime p len ≤ x) | none => true)
     else !s.held p)

/-- Ends a copy of an egress slice: it is kept only until its last byte has crossed (R280). -/
def State.endEgCopy (s : State) (n : Nat) (x : EgCopy) : State :=
  s.setEgCopy n (if x.crossed then none else some { x with stage := .done, frame := [] })

/-- Gives back the ring descriptors that a copy reserved (R379). -/
def State.unreserveRx (s : State) (n : Nat) (x : EgCopy) : State :=
  if !toRing x.port then s
  else
    let g := ringOfQueue x.port x.copy.queue
    let r := s.ring g
    match r.rx.findIdx? (fun y => y.eg == some n) with
    | none => s
    | some i =>
      let ds := match r.rx[i]? with | some y => y.descs | none => []
      s.setRing g { r with rx := r.rx.eraseIdx i, pre := ds ++ r.pre, reserved := r.reserved - ds.length }

/-- Drops a copy of an egress slice before egress commit: counted in one counter and in the EGRESS ledger (R449). -/
def State.egressDrop (s : State) (n : Nat) (x : EgCopy) (c : Ctr) : State :=
  (((s.bump c 1).egDrop (x.copy.queue / 131072)).unreserveRx n x).endEgCopy n x

/-- A preemptable frame ready to leave that a hold keeps back: the hold has delayed it (R313). -/
def State.holdDelays (s : State) (p : Nat) : State :=
  let g := s.gate p
  if s.held p && !g.delayed &&
      (s.stageHeads p).any (fun (c, _) => !s.express p c && s.gateOpen p c (s.now + s.txLat p)) then
    (s.setGate p { g with delayed := true }).bump (Ctr.PORT_TX_PRE_HOLD (p / 8) (p % 8)) 1
  else s

/-- GATE_STAGE_RELEASE (R73, R309, R311, R313): the stage of a line port drops a frame too long for its gates, flushes a frame of a port that
is down, or releases one frame: the lowest express class ready, else the lowest preemptable class. One frame leaves at a time: a frame
released or in transmission stands before the next, but an express frame goes before a preemptable one in transmission. -/
def gateStageRelease (p : Nat) (s : State) : State :=
  if !s.fdieUp || !s.portEn p then s
  else
    let heads := s.stageHeads p
    match heads.find? (fun (c, _, x) => s.tooLong p c x.len) with
    | some (_, n, x) => s.egressDrop n x (Ctr.GATE_TOO_LONG (p / 8) (p % 8))
    | none =>
      if !s.linkUp p then
        if s.flag (portCfg p) Fld.PORT_CFG_DOWN_ACTION then
          match heads with
          | (_, n, x) :: _ => s.egressDrop n x (Ctr.PORT_TX_LINK_DOWN_DROP (p / 8) (p % 8))
          | [] => s
        else s
      else
        let t := s.now + s.txLat p
        let busy := s.eg.copies.l.any (fun (_, o) => match o with | some x => x.port == p && x.stage == .released | none => false)
        let ex := (s.txNow p false).isNone
        let pr := (s.txNow p true).isNone
        let ready := heads.filter (fun (c, _, x) =>
          s.mayLeave p c x.len t && ex && (pr || (s.express p c && s.preActive p)))
        let s1 := s.holdDelays p
        if busy || s.leaseOver then s1
        else
          match (ready.filter (fun (c, _) => s.express p c)) ++ ready with
          | [] => s1
          | (_, n, x) :: _ => s1.setEgCopy n (some { x with stage := .released, txInst := t })

/-- GATE_ENTRY_BOUNDARY. -/
def execGateEntryBoundary (p : Fin 128) (s : State) : Host.Outcome State Fault Refusal := answer s (gateEntryBoundary p.val s)
/-- GATE_STAGE_RELEASE. -/
def execGateStageRelease (p : Fin 128) (s : State) : Host.Outcome State Fault Refusal := answer s (gateStageRelease p.val s)
/-- GO. -/
def execGo (p : Fin 128) (s : State) : Host.Outcome State Fault Refusal := answer s (onF (go p.val) s)
/-- GATE_LIST_SWITCH. -/
def execGateListSwitch (p : Fin 128) (s : State) : Host.Outcome State Fault Refusal := answer s (gateListSwitch p.val s)
/-- GATE_LIST_WRITE: a write of GATE_LIST_CMD with READ clear. -/
def execGateListWrite (i : Fin 16) (v : Word) (s : State) : Host.Outcome State Fault Refusal :=
  answer s (onF (gateListCmd i.val (Fld.GATE_LIST_CMD_READ.put v 0)) s)
/-- GATE_LIST_READ: a write of GATE_LIST_CMD with READ set. -/
def execGateListRead (i : Fin 16) (v : Word) (s : State) : Host.Outcome State Fault Refusal :=
  answer s (onF (gateListCmd i.val (Fld.GATE_LIST_CMD_READ.put v 1)) s)
/-- GATE_CFG_WRITE. -/
def execGateCfgWrite (p : Fin 128) (v : Word) (s : State) : Host.Outcome State Fault Refusal := answer s (onF (gateCfgWrite p.val v) s)

end Sys2Proof.Machine
end

