-- ==== Sys2Proof/Machine/Egress.lean ====
section
/-! DEFINITION. The egress slices: slice entry with its edits, crypto and length check, and egress commit (R60, R73, R80, R175 to R178, R298,
R379, R400 to R406, R424, R425). -/

namespace Sys2Proof.Machine

/-! ### Headers of a frame -/

/-- Where the EtherType after the addresses and tags of a frame stands: at most eight tags are passed. -/
def typeAt (b : List Byte) : Nat :=
  let rec go : Nat → Nat → Nat
    | 0, o => o
    | fuel + 1, o => if beAt b o 2 = 0x8100 ∨ beAt b o 2 = 0x88A8 then go fuel (o + 4) else o
  go 8 12

/-- A frame taken apart: its Ethernet header up to the EtherType, the EtherType, and what follows. -/
structure Cut where
  own : List Byte
  et : Nat
  body : List Byte
  deriving DecidableEq, Repr

def cutFrame (b : List Byte) : Cut := let o := typeAt b; ⟨b.take o, beAt b o 2, b.drop (o + 2)⟩
def Cut.join (c : Cut) : List Byte := c.own ++ beBytes 2 c.et ++ c.body

/-- The addresses, ports, DSCP and TTL of the outermost IP header of a frame, where it has one: at an offset. -/
structure IpInfo where
  v6 : Bool
  addrs : List Byte
  ports : List Byte
  dscp : Nat
  ttl : Nat
  deriving DecidableEq, Repr

def ipInfo (b : List Byte) (o : Option Nat) : Option IpInfo :=
  match o with
  | none => none
  | some o =>
    let bytes (o n : Nat) : List Byte := (b.drop o).take n
    if beAt b o 1 / 16 = 4 then
      let hl := beAt b o 1 % 16 * 4
      let pr := beAt b (o + 9) 1
      some ⟨false, bytes (o + 12) 8, if (pr == 6 || pr == 17) && beAt b (o + 6) 2 % 2 ^ 13 == 0 then bytes (o + hl) 4 else zeros 4,
            beAt b (o + 1) 1 / 4, beAt b (o + 8) 1⟩
    else
      let pr := beAt b (o + 6) 1
      some ⟨true, bytes (o + 8) 32, if pr == 6 || pr == 17 then bytes (o + 40) 4 else zeros 4, beAt b o 2 / 64 % 64, beAt b (o + 7) 1⟩

/-- Congestion Experienced in the outermost IP header, with the IPv4 checksum corrected (R284). -/
def markCe (b : List Byte) (o : Option Nat) : List Byte :=
  match o with
  | none => b
  | some o =>
    if beAt b o 1 / 16 = 4 then
      let hl := beAt b o 1 % 16 * 4
      let h := splice ((b.drop o).take hl) 1 (beBytes 1 (beAt b (o + 1) 1 ||| 3))
      let h0 := splice h 10 (zeros 2)
      splice b o (splice h0 10 (beBytes 2 (csumOf h0)))
    else splice b (o + 1) (beBytes 1 (beAt b (o + 1) 1 ||| 0x30))

/-! ### Outer headers (R176) -/

/-- The 16 bytes of EGT_V6_SRC m, word 3 first. -/
def State.v6Src (s : State) (m : Nat) : List Byte :=
  beBytes 4 (s.reg (Reg.EGT_V6_SRC m 3)).toNat ++ beBytes 4 (s.reg (Reg.EGT_V6_SRC m 2)).toNat ++
    beBytes 4 (s.reg (Reg.EGT_V6_SRC m 1)).toNat ++ beBytes 4 (s.reg (Reg.EGT_V6_SRC m 0)).toNat

/-- An outer IPv4 or IPv6 header over a payload: TTL or hop limit 64, DSCP of the inner header; what no rule gives is open. -/
def outerIp (v6 : Bool) (src dst : List Byte) (dscp proto : Nat) (pay : List Byte) : List Byte :=
  let key := src ++ dst ++ pay
  if v6 then
    beBytes 4 (6 * 2 ^ 28 + (dscp * 4 + (Config.tunEcn key).toNat) * 2 ^ 20 + (Config.tunFlow key).toNat) ++ beBytes 2 pay.length ++
      beBytes 1 proto ++ beBytes 1 64 ++ src ++ dst ++ pay
  else
    let h := beBytes 1 0x45 ++ beBytes 1 (dscp * 4 + (Config.tunEcn key).toNat) ++ beBytes 2 (20 + pay.length) ++
      beBytes 2 (Config.tunIdent key).toNat ++ beBytes 2 (Config.tunFrag key).toNat ++ beBytes 1 64 ++ beBytes 1 proto ++ zeros 2 ++ src ++ dst
    splice h 10 (beBytes 2 (csumOf h)) ++ pay

def etOf (v6 : Bool) : Nat := if v6 then 0x86DD else 0x0800

/-- The payload that a tunnel's outer IP header carries, with its protocol: GRE over the packet without its Ethernet header; UDP with VXLAN or
GENEVE over the frame (R176). -/
def tunnelBody (ty vni : Nat) (c : Cut) (info : Option IpInfo) : Nat × List Byte :=
  if ty = 0 then
    (47, beBytes 2 (if vni = 0 then 0 else 0x2000) ++ beBytes 2 c.et ++ (if vni = 0 then [] else beBytes 4 vni) ++ c.body)
  else
    let inner := c.join
    let tun := if ty = 1 then beBytes 1 8 ++ zeros 3 ++ beBytes 4 (vni * 256) else zeros 2 ++ beBytes 2 0x6558 ++ beBytes 4 (vni * 256)
    let key := match info with | some i => i.addrs ++ i.ports | none => []
    let udp := beBytes 2 (0xC000 ||| crc32c key % 2 ^ 14) ++ beBytes 2 (if ty = 1 then 4789 else 6081) ++
      beBytes 2 (8 + tun.length + inner.length)
    (17, udp ++ beBytes 2 (Config.tunUdpCsum (udp ++ tun ++ inner)).toNat ++ tun ++ inner)

/-! ### The edit chain (R178) -/

/-- What an edit chain makes of a packet. -/
inductive Edit where
  | ok (c : Cut)
  | chainDrop
  | kindDrop
  deriving DecidableEq, Repr

/-- A label stack entry: its S bit is set on the last label of the packet. -/
def labelBytes (label tc bos ttl : Nat) : List Byte := beBytes 4 (label * 4096 + tc * 512 + bos * 256 + ttl)

/-- The TTL that pushed labels copy: of the top label, else of the outermost IP header; open where the packet has neither. -/
def copyTtl (c : Cut) (info : Option IpInfo) (free : Nat) : Nat :=
  if c.et = 0x8847 ∨ c.et = 0x8848 then beAt c.body 3 1
  else match info with | some i => i.ttl | none => free % 256

/-- The source address of an L2_REWRITE: entry SA_SLOT of the egress port; open for a port that is no line port. -/
def State.srcMac (s : State) (p slot free : Nat) : Nat :=
  if p < 128 then
    s.fld (Reg.PORT_STA_ADDR_HI (p / 8) (p % 8) slot) Fld.PORT_STA_ADDR_HI_ADDR * 2 ^ 32 + (s.reg (Reg.PORT_STA_ADDR_LO (p / 8) (p % 8) slot)).toNat
  else free % 2 ^ 48

/-- Applies the entries of a chain from an index; `n` entries are left to read. -/
def State.chainEdit (s : State) (p : Nat) (info : Option IpInfo) (free : Nat) : Nat → Nat → Cut → Edit
  | 0, _, _ => .chainDrop
  | n + 1, i, c =>
    let e := s.egt i
    let next (v x : Nat) (c : Cut) : Edit := if v = 1 then s.chainEdit p info free n x c else .ok c
    match egtKind e with
    | 0x8 =>
      let tag := if egtBits e 72 72 = 1 then beBytes 2 0x8100 ++ beBytes 2 (egtBits e 59 57 * 2 ^ 13 + egtBits e 71 60) else []
      .ok { c with own := beBytes 6 (egtBits e 123 76) ++ beBytes 6 (s.srcMac p (egtBits e 75 73) free) ++ tag }
    | 0x9 =>
      let ttl := if egtBits e 79 72 = 0 then copyTtl c info free else egtBits e 79 72
      let bos := if c.et = 0x8847 ∨ c.et = 0x8848 then 0 else 1
      let tc := egtBits e 82 80
      let l := if egtBits e 83 83 = 1 then labelBytes (egtBits e 123 104) tc 0 ttl ++ labelBytes (egtBits e 103 84) tc bos ttl
        else labelBytes (egtBits e 123 104) tc bos ttl
      next (egtBits e 51 51) (egtBits e 71 52) { c with et := 0x8847, body := l ++ c.body }
    | 0xA =>
      if egtBits e 59 58 = 3 then .kindDrop
      else
        let (pr, pay) := tunnelBody (egtBits e 59 58) (egtBits e 57 34) c info
        let dscp := match info with | some x => x.dscp | none => free % 64
        next (egtBits e 13 13) (egtBits e 33 14)
          { c with et := 0x0800, body := outerIp false (beBytes 4 (egtBits e 123 92)) (beBytes 4 (egtBits e 91 60)) dscp pr pay }
    | 0xB =>
      if egtBits e 119 118 = 3 then .kindDrop
      else
        let (pr, pay) := tunnelBody (egtBits e 119 118) (egtBits e 117 94) c info
        let dscp := match info with | some x => x.dscp | none => free % 64
        next (egtBits e 73 73) (egtBits e 93 74)
          { c with et := 0x86DD, body := outerIp true (s.v6Src (egtBits e 123 120)) (beBytes 16 (s.egt (i + 1)).toNat) dscp pr pay }
    | _ => .kindDrop

/-! ### ESP and MACsec transmit (R402, R404) -/

/-- The valid binding of an ENCAP index (R404). -/
def State.binding (s : State) (encap : Nat) : Option Nat :=
  (s.icr.binds.l.find? (fun (_, b) => b.valid && b.encap == encap)).map (fun x => x.2.sa)

/-- The length of an IPv6 header with its extension headers, its last next-header value and where that value stands. -/
def v6Ext (b : List Byte) : Nat × Nat × Nat :=
  let rec go : Nat → Nat → Nat → Nat → Nat × Nat × Nat
    | 0, nh, o, at_ => (o, nh, at_)
    | fuel + 1, nh, o, at_ =>
      if nh = 0 ∨ nh = 43 ∨ nh = 60 then go fuel (beAt b o 1) (o + 8 * (1 + beAt b (o + 1) 1)) o
      else if nh = 44 then go fuel (beAt b o 1) (o + 8) o
      else (o, nh, at_)
  go 8 (beAt b 6 1) 40 6

/-- The bytes from the ESP header to the ICV over a payload (R404): SPI, number, IV, the sealed payload with its padding to 4 bytes and its
next-header value, and the ICV. -/
def espBytes (a : Sa) (pn iv next : Nat) (pay : List Byte) : List Byte :=
  let n := (4 - (pay.length + 2) % 4) % 4
  let pl := pay ++ (List.range n).map (fun i => BitVec.ofNat 8 (i + 1)) ++ beBytes 1 n ++ beBytes 1 next
  let hdr := beBytes 4 a.spi ++ beBytes 4 pn
  let nonce := a.espNonce iv
  let ct := gcmXor a.engineKey nonce pl
  let aad := if a.wide then beBytes 4 a.spi ++ beBytes 8 pn else hdr
  hdr ++ beBytes 8 iv ++ ct ++ gcmTagBytes a.engineKey nonce aad ct

/-- Seals a packet under an SA: tunnel mode adds the SA's outer header, transport mode inserts ESP after the IP header and its extension
headers (R404). A packet with no IP header passes unchanged. -/
def State.espSeal (s : State) (a : Sa) (pn iv : Nat) (c : Cut) (info : Option IpInfo) : Cut :=
  match info with
  | none => c
  | some i =>
    let b := c.body
    if c.et ≠ etOf i.v6 then c
    else
      let tot := if i.v6 then 40 + beAt b 4 2 else beAt b 2 2
      let ip := b.take tot
      if a.tunnel then
        let pay := espBytes a pn iv (if i.v6 then 41 else 4) ip
        let src := if a.outerV6 then s.v6Src (a.outerSrc % 16) else beBytes 4 a.outerSrc
        let dst := if a.outerV6 then beBytes 16 a.outerDst else beBytes 4 (a.outerDst / 2 ^ 96)
        { c with et := etOf a.outerV6, body := outerIp a.outerV6 src dst i.dscp 50 pay }
      else if i.v6 then
        let (hl, nh, at_) := v6Ext ip
        let pay := espBytes a pn iv nh (ip.drop hl)
        let h := splice (splice (ip.take hl) at_ (beBytes 1 50)) 4 (beBytes 2 (hl - 40 + pay.length))
        { c with body := h ++ pay }
      else
        let hl := beAt b 0 1 % 16 * 4
        let pay := espBytes a pn iv (beAt b 9 1) (ip.drop hl)
        { c with body := v4Fix (ip.take hl) (hl + pay.length) 50 ++ pay }

/-- MACsec over a frame (R402): SecTAG, the secure data encrypted after the confidentiality offset, and the ICV. -/
def secFrame (a : Sa) (an p pn : Nat) (hasSci : Bool) (off : Nat) (b : List Byte) : List Byte :=
  let data := b.drop 12
  let sci := (Config.txSci p).toNat
  let tag := beBytes 2 0x88E5 ++ beBytes 1 (0x0C + (if hasSci then 0x20 else 0) + an) ++ beBytes 1 (if data.length < 48 then data.length else 0) ++
    beBytes 4 pn ++ (if hasSci then beBytes 8 sci else [])
  let nonce := a.macNonce sci pn
  let ct := gcmXor a.engineKey nonce (data.drop off)
  let aad := b.take 12 ++ tag ++ data.take off
  b.take 12 ++ tag ++ data.take off ++ ct ++ gcmTagBytes a.engineKey nonce aad ct

/-- Whether MACsec protects a frame of a port: it is enabled, and the EtherType is none that bypasses it (R402). -/
def State.secApplies (s : State) (p : Nat) (b : List Byte) : Bool :=
  let w := s.reg (Reg.ICR_PORT_CFG p)
  decide (p < 128) && Fld.ICR_PORT_CFG_EN.get w == 1 && beAt b 12 2 != 0x888E &&
    !(Fld.ICR_PORT_CFG_BYPASS_PTP.get w == 1 && beAt b 12 2 == 0x88F7)

/-! ### Slice entry -/

/-- Drops a copy whose drop is already counted. -/
def State.egressGone (s : State) (n : Nat) (x : EgCopy) : State :=
  ((s.egDrop (x.copy.queue / 131072)).unreserveRx n x).endEgCopy n x

/-- The copy's own IP header, if it has one. -/
def Copy.ipAt (c : Copy) : Option Nat := c.hdr.ip.map (·.toNat)

/-- ESP and the edit chain of a copy; none where it was dropped. -/
def State.edits (s : State) (n : Nat) (x : EgCopy) : Option Cut × State :=
  let b := if x.copy.mark then markCe x.copy.data x.copy.ipAt else x.copy.data
  let info := ipInfo b x.copy.ipAt
  let c := cutFrame b
  match x.copy.encap with
  | none => (some c, s)
  | some i =>
    let (free, s0) := s.draw
    let sealed : Option Cut × State :=
      match s0.binding i with
      | none => (some c, s0)
      | some sa =>
        match s0.drawPn sa with
        | (none, s1) => (none, s1.egressGone n x)
        | (some pn, s1) =>
          let (iv, s2) := s1.draw
          (some (s2.espSeal (s2.sa (saIdx false sa)) pn (iv % 2 ^ 64) c info), s2.bump Ctr.ICR_TX_PROTECTED 1)
    match sealed with
    | (none, s1) => (none, s1)
    | (some c1, s1) =>
      match s1.chainEdit x.port info free 4 i c1 with
      | .ok c2 => (some c2, s1)
      | .chainDrop => (none, s1.egressDrop n x Ctr.EGT_CHAIN_DROP)
      | .kindDrop => (none, s1.egressDrop n x Ctr.EGT_KIND_DROP)

/-- MACsec of an edited frame; none where its SA is exhausted and the copy was dropped (R402, R406). -/
def State.protect (s : State) (n : Nat) (x : EgCopy) (b : List Byte) : Option (List Byte) × State :=
  if !s.secApplies x.port b then (some b, s)
  else
    let w := s.reg (Reg.ICR_PORT_CFG x.port)
    let an := Fld.ICR_PORT_CFG_TX_AN.get w
    let sa := (Fld.ICR_PORT_CFG_TX_SA.get w + an) % 65536
    match s.drawPn sa with
    | (none, s1) => (none, s1.egressGone n x)
    | (some pn, s1) =>
      (some (secFrame (s1.sa (saIdx false sa)) an x.port pn (Fld.ICR_PORT_CFG_SCI_EN.get w == 1) (confOffset (Fld.ICR_PORT_CFG_OFFSET.get w)) b),
        s1.bump Ctr.ICR_TX_PROTECTED 1)

/-- The final frame without its FCS: padded to 60 bytes (R80). -/
def padFrame (b : List Byte) : List Byte := b ++ zeros (60 - b.length)

/-- EGRESS_SLICE_ENTRY (R80, R150, R178, R298, R379, R402, R404): the copy takes the egress epoch, is edited and checked, and waits at the
gate stage of a line port, or goes on to egress commit; or it is dropped as a counted drop. -/
def egressSliceEntry (n : Nat) (s : State) : State :=
  match s.egCopy n with
  | none => s
  | some x =>
    let p := x.port
    let q := x.copy.queue / 131072
    if x.stage ≠ .crossing ∨ !s.fdieUp then s
    else if isDrain p then s.egressDrop n x (Ctr.SCH_DRAIN_PKTS q)
    else if x.expired then s.egressDrop n x (Ctr.RING_RX_NODESC_DROP (ringOfQueue p x.copy.queue / 16384))
    else if toRing p && !(s.ring (ringOfQueue p x.copy.queue)).rx.any (fun y => y.eg == some n) then
      s.egressDrop n x (Ctr.RING_RX_NORING (ringOfQueue p x.copy.queue / 16384))
    else if decide (p < 128) && !s.linkUp p && s.flag (portCfg p) Fld.PORT_CFG_DOWN_ACTION then
      s.egressDrop n x (Ctr.PORT_TX_LINK_DOWN_DROP (p / 8) (p % 8))
    else
      match s.edits n x with
      | (none, s1) => s1
      | (some c, s1) =>
        match s1.protect n x c.join with
        | (none, s2) => s2
        | (some b, s2) =>
          let fr := padFrame b
          let len := fr.length + 4
          if decide (p < 128) && decide (s2.maxFrame p < len) then s2.egressDrop n x (Ctr.PORT_TX_OVERSIZE_DROP (p / 8) (p % 8))
          else
            s2.setEgCopy n (some { x with stage := if p < 128 then .staged else .released, epoch := (s2.reg Reg.FWH_EEPOCH_CUR).toNat,
                                          frame := fr, len := len, shift := (c.join.length : Int) - x.copy.data.length })

/-! ### Egress commit -/

/-- The outer VLAN ID of a transmitted frame, and its top label where labels follow the Ethernet header and tags directly (R425). -/
def frameVid (b : List Byte) : Option Nat := if beAt b 12 2 = 0x8100 ∨ beAt b 12 2 = 0x88A8 then some (beAt b 14 2 % 4096) else none
def frameLabel (b : List Byte) : Option Nat :=
  let c := cutFrame b
  if c.et = 0x8847 ∨ c.et = 0x8848 then some (beAt c.body 0 3 / 16) else none

/-- Whether the device is an LT2560-A1-LM, which has a Cyclometer (R1, R2). -/
def State.metered (s : State) : Bool := s.flag Reg.DEV_ID Fld.DEV_ID_METER

def noticeFifo : Nat := 256

/-- Whether a slice's egress commit stalls: its notice could not be taken (R40, R429). -/
def State.commitStalls (s : State) (e : Nat) : Bool :=
  s.metered && (decide (noticeFifo ≤ (KMap.get [] s.eg.fifo e).length) || decide (noticeFifo ≤ (KMap.get [] s.eg.wait e).length))

/-- Sends the commit notice of a copy: into the island's FIFO, or to wait while the link is quiesced (R40, R424, R425). -/
def State.sendNotice (s : State) (x : EgCopy) (b : List Byte) : State :=
  if !s.metered || decide (132 ≤ x.port) then s
  else
    let e := x.slice
    let t : Notice := ⟨x.copy.queue, x.len, x.port, frameVid b, frameLabel b, s.now⟩
    let s1 := s.ledAdd ldNotice e 0 1
    if s.linkQuiesced then { s1 with eg := { s1.eg with wait := KMap.set [] s1.eg.wait e (KMap.get [] s1.eg.wait e ++ [t]) } }
    else { s1 with eg := { s1.eg with fifo := KMap.set [] s1.eg.fifo e (KMap.get [] s1.eg.fifo e ++ [t]) } }

/-- Corrects a ones' complement checksum for bytes replaced by others. -/
def csumAdjust (c : Nat) (old new : List Byte) : Nat :=
  let words (l : List Byte) : List Nat := (List.range (l.length / 2)).map (fun i => beAt l (2 * i) 2)
  let t := (65535 - c) + ((words old).map (fun w => 65535 - w)).sum + (words new).sum
  65535 - (if t % 65535 = 0 ∧ t ≠ 0 then 65535 else t % 65535)

/-- One-step PTP (R60): a Sync message from a host port takes the transmit timestamp as its originTimestamp; a forwarded message has its
residence time added to correctionField; the UDP checksum before it is corrected. -/
def oneStepPatch (c : Copy) (shift : Int) (b : List Byte) (tx : Nat) : List Byte :=
  match c.hdr.oneStep with
  | none => b
  | some o =>
    let at_ := ((o.toNat : Int) + shift).toNat
    let ns (t : Nat) : Nat := t % 2 ^ 32 * 1000000000 / 2 ^ 32
    let (f, new) :=
      if 128 ≤ c.hdr.srcPort.toNat ∧ beAt b at_ 1 % 16 = 0 then (at_ + 34, beBytes 6 (tx / 2 ^ 32) ++ beBytes 4 (ns tx))
      else
        let res := (tx - c.hdr.ts.toNat) * 1000000000 / 2 ^ 16
        (at_ + 8, beBytes 8 (beAt b (at_ + 8) 8 + res))
    let old := (b.drop f).take new.length
    let b1 := splice b f new
    if c.hdr.ip.isSome && beAt b (at_ - 2) 2 != 0 then
      splice b1 (at_ - 2) (beBytes 2 (csumAdjust (beAt b (at_ - 2) 2) old new))
    else b1

/-- The transmit timestamp of a line frame, with the board's correction (R58, R59). -/
def State.txTs (s : State) (p inst : Nat) : Nat :=
  ((((inst * 16 : Nat) : Int) + (BitVec.ofNat 16 (s.fld (Reg.TIME_TS_ADJ p) Fld.TIME_TS_ADJ_TX)).toInt).toNat) / 16

/-- A committed frame goes out on a line port: its one-step message is written, its two-step timestamp sent, and its transmission begins; a
port whose link is down cuts it (R60, R73). -/
def State.lineOut (s : State) (x : EgCopy) : State :=
  let p := x.port
  let c := x.copy.queue % 8
  let ts := s.txTs p x.txInst
  let s1 := match x.copy.hdr.ptp with
    | some (f, tag) => s.eventAt f.toNat 0x0201 1 (16 + p / 8) ts p (beBytes 2 tag.toNat)
    | none => s
  let s2 := s1.startTx p c (!s1.express p c) x.len
  if s2.linkUp p then s2.emit (.frame p (!s1.express p c) x.frame) else s2.cutTx1 p (!s1.express p c)

/-- A committed frame goes to its receive ring: the descriptors it reserved take it, behind what the ring is writing (R379). -/
def State.ringOut (s : State) (n : Nat) (x : EgCopy) : State :=
  let g := ringOfQueue x.port x.copy.queue
  let r := s.ring g
  if r.rx.any (fun y => y.eg == some n) then
    s.setRing g { r with rx := r.rx.map (fun y => if y.eg = some n then { y with eg := none, rest := x.frame, instant := s.now, whole := true } else y) }
  else s.bump (Ctr.RING_TRUNC (g / 16384)) 1

/-- A copy of a LOOPBACK port re-enters ingress slice s(4n) as a recirculated packet; the route table that its internal header carries is
open (R139, R159, R298). -/
def State.loopOut (s : State) (x : EgCopy) : State :=
  let (d, s1) := s.draw
  let num := d % 4096
  let k : IPkt :=
    { (IPkt.new x.slice x.copy.hdr.srcPort.toNat (beBytes 16 (Config.ithBytes 0 num).toNat ++ x.frame) (some x.len) x.copy.hdr.ts.toNat 16384) with
        recirc := true, hasIth := true, term := some (0, num), colour := x.copy.hdr.colour.toNat }
  (s1.enqueue k).2

/-- EGRESS_COMMIT (R40, R58, R424): a copy released by its gate stage, or of a port without one, passes egress commit: its notice is sent
and it leaves the in-flight count of its egress epoch. -/
def egressCommit (n : Nat) (s : State) : State :=
  match s.egCopy n with
  | none => s
  | some x =>
    if x.stage ≠ .released ∨ !s.fdieUp ∨ !s.tdieUp ∨ (decide (x.port < 132) && s.commitStalls x.slice) then s
    else
      let x1 := if x.port < 128 && !(s.secApplies x.port x.frame) then { x with frame := oneStepPatch x.copy x.shift x.frame (s.txTs x.port x.txInst) }
        else x
      let s1 := (s.sendNotice x1 x1.frame).ledAdd ldEgress (x.copy.queue / 131072) 2 1
      let s2 := if x.port < 128 then s1.lineOut x1 else if toRing x.port then s1.ringOut n x1 else s1.loopOut x1
      s2.endEgCopy n x1

/-- The in-flight count of an egress epoch: copies between slice entry and egress commit (R150, R154). -/
def State.egInFlight (s : State) (e : Nat) : Nat :=
  (s.eg.copies.l.filter (fun (_, o) => match o with
    | some x => (x.stage == .staged || x.stage == .released) && x.epoch == e
    | none => false)).length

/-- EGRESS_SLICE_ENTRY. -/
def execEgressSliceEntry (n : BitVec 32) (s : State) : Host.Outcome State Fault Refusal := answer s (egressSliceEntry n.toNat s)
/-- EGRESS_COMMIT. -/
def execEgressCommit (n : BitVec 32) (s : State) : Host.Outcome State Fault Refusal := answer s (egressCommit n.toNat s)

end Sys2Proof.Machine
end

