-- ==== Sys2Proof/Machine/Memories.lean ====
section
/-! DEFINITION. The memory commands: promotions, channel checks, temperatures, scrubbing, region copies and lookup reads that return (R325,
R328, R330, R332, R334, R338). -/

namespace Sys2Proof.Machine

/-! ### Controllers -/

def memAge : MemCtl → Nat
  | .tdc _ => Reg.TDC_CFG
  | .hbm _ => Reg.HBMC_CFG

/-- The age limit; 0 acts as 1 (R325, R339). -/
def State.ageLimit (s : State) (m : MemCtl) : Nat := max 1 (s.fld (memAge m) Fld.TDC_CFG_AGE)

/-- REQUEST_PROMOTE (R325): a request of class 1 to 3 that has waited AGE is promoted, and counts. -/
def requestPromote (m : MemCtl) (waited : Nat) (s : State) : State :=
  if waited < s.ageLimit m then s
  else
    match m with
    | .tdc c => s.bump (Ctr.TDC_PROMOTED c.val) 1
    | .hbm st => s.bump (Ctr.HBMC_PROMOTED st.val) 1

/-- A channel that is lost in service: fatal, since the tables need all 24 (R330). -/
def State.channelLost (s : State) (c : Nat) : State :=
  ((s.setFlag (Reg.TDC_CH_STATUS c) Fld.TDC_CH_STATUS_LINK_FAIL true).setFlag (Reg.TDC_CH_STATUS c) Fld.TDC_CH_STATUS_UP false).ierr ieMemLink 1 63 c

/-- CHANNEL_CHECK (R330): a write of a channel's or stack's configuration; setting EN runs the check, which `ok` answers. A channel already
in service that fails is lost. -/
def channelCheck (m : MemCtl) (v : Word) (ok : Bool) (s : State) : State :=
  match m with
  | .tdc c =>
    let cfg := Reg.TDC_CH_CFG c.val
    let st := Reg.TDC_CH_STATUS c.val
    let was := s.flag cfg Fld.TDC_CH_CFG_EN
    let s1 := s.setReg cfg (v &&& 0xE0F00000)
    if !s1.flag cfg Fld.TDC_CH_CFG_EN then s1.setFlag st Fld.TDC_CH_STATUS_UP false
    else if was then (if ok then s1 else s1.channelLost c.val)
    else
      let n := s1.chRegions c.val
      let left := min (s1.fld cfg Fld.TDC_CH_CFG_SPARE_REGIONS) (n - 2)
      (((s1.setFlag st Fld.TDC_CH_STATUS_UP ok).setFlag st Fld.TDC_CH_STATUS_LINK_FAIL (!ok)).setFld st Fld.TDC_CH_STATUS_REGIONS n).setFld st
        Fld.TDC_CH_STATUS_SPARE_LEFT (left - s1.fld st Fld.TDC_CH_STATUS_RETIRED)
  | .hbm t =>
    let cfg := Reg.HBMC_ST_CFG t.val
    let st := Reg.HBMC_ST_STATUS t.val
    let was := s.flag cfg Fld.HBMC_ST_CFG_EN
    let s1 := s.setReg cfg (v &&& 0x80000000)
    if !s1.flag cfg Fld.HBMC_ST_CFG_EN then s1.setFlag st Fld.HBMC_ST_STATUS_UP false
    else if was && ok then s1
    else (s1.setFlag st Fld.HBMC_ST_STATUS_UP ok).setFlag st Fld.HBMC_ST_STATUS_LINK_FAIL (!ok)

/-- HBM_TEMP_READ (R332): above 85 °C the stack is HOT and its refresh doubled; below 83 °C both end. -/
def hbmTempRead (t temp : Nat) (s : State) : State :=
  let st := Reg.HBMC_ST_STATUS t
  let s1 := s.setFld st Fld.HBMC_ST_STATUS_TEMP temp
  if 85 < temp then s1.setFlag st Fld.HBMC_ST_STATUS_HOT true
  else if temp < 83 then s1.setFlag st Fld.HBMC_ST_STATUS_HOT false
  else s1

/-! ### Scrubbing (R334, R337) -/

/-- The scrub span of a memory: TDC_CFG.SCRUB, HBMC_CFG.SCRUB, or 2^-2 s for SRAM. -/
def State.scrubSpan (s : State) (l : MemLoc) : Nat :=
  match l with
  | .tableDram .. => expSpanIn 4 12 (s.fld Reg.TDC_CFG Fld.TDC_CFG_SCRUB)
  | .hbm .. => expSpanIn 4 12 (s.fld Reg.HBMC_CFG Fld.HBMC_CFG_SCRUB)
  | _ => spanExp 2

/-- A corrected error of a scrub pass: the row is failing when the pass before found one in it as well (R337). -/
def State.scrubCorr (s : State) (l : MemLoc) : State :=
  let pass := s.now / s.scrubSpan l + 1
  let key := memKind l * 2 ^ 32 + s.memRegion l * 2 ^ 16 + memRow l
  let last := KMap.get 0 s.mem.rows key
  let s1 := { s with mem := { s.mem with rows := KMap.set 0 s.mem.rows key pass } }.memCorr l
  if last ≠ 0 ∧ last + 1 = pass then s1.rowFails l else s1

/-- SCRUB_PASS (R334): a scrub reads a word in class 3. A word that needed correction is written back, unless another write came first; the
model keeps words as they decode, so neither changes what it holds. -/
def scrubPass (l : MemLoc) (w : WordRes) (s0 : State) : State :=
  if isMeter l then s0
  else
    let s := s0.activate l
    match w with
    | .clean => s
    | .corrected => s.scrubCorr l
    | .uncorrectable => s.memUncorr l 3

/-- REGION_COPY_END (R338): the copy of a retired region to its spare is complete, and lookups move to it; a word the copy could not correct
is lost. -/
def regionCopyEnd (c region : Nat) (bad : Option MemLoc) (s : State) : State :=
  let k := c * 16 + region
  if KMap.get 0 s.mem.copying k = 0 then s
  else
    let s1 := { s with mem := { s.mem with copying := KMap.set 0 s.mem.copying k 0 } }
    match bad with
    | some l => s1.memUncorr l 3
    | none => s1

/-- TABLE_DRAM_READ_RETURN (R184, R328, R335): a lookup read returns its word to the packet that waits; an uncorrectable word makes the
packet's result DROP. -/
def tableDramReadReturn (p n : Nat) (l : MemLoc) (w : WordRes) (s : State) : State :=
  let s1 := s.activate l
  match w with
  | .clean => s1.readReturn p n
  | .corrected => (s1.memCorr l).readReturn p n
  | .uncorrectable =>
    let s2 := s1.memUncorr l 0
    match s2.pkt p with
    | none => s2
    | some k => if n < k.reads.length then s2.setPkt p { k with reads := k.reads.eraseIdx n, lost := true } else s2

/-- REQUEST_PROMOTE. -/
def execRequestPromote (m : MemCtl) (w : BitVec 32) (s : State) : Host.Outcome State Fault Refusal := answer s (requestPromote m w.toNat s)
/-- CHANNEL_CHECK. -/
def execChannelCheck (m : MemCtl) (v : Word) (ok : Bool) (s : State) : Host.Outcome State Fault Refusal :=
  answer s (match m with | .tdc _ => channelCheck m v ok s | .hbm _ => onT (channelCheck m v ok) s)
/-- REGION_COPY_END. -/
def execRegionCopyEnd (c : Fin 24) (r : Fin 16) (bad : Option MemLoc) (s : State) : Host.Outcome State Fault Refusal :=
  answer s (regionCopyEnd c.val r.val bad s)
/-- TABLE_DRAM_READ_RETURN. -/
def execTableDramReadReturn (p : BitVec 32) (n : BitVec 8) (l : MemLoc) (w : WordRes) (s : State) : Host.Outcome State Fault Refusal :=
  answer s (tableDramReadReturn p.toNat n.toNat l w s)

end Sys2Proof.Machine
end

