-- ==== Sys2Proof/Machine/Hif.lean ====
section
/-! DEFINITION. The host ports: links, functions, MSI-X, the aperture, device-issued reads with their tags, and internal error clearing (R340 to
R362). -/

namespace Sys2Proof.Machine

/-! ### Functions (R343, R345) -/

def State.hostUp (s : State) (h : Nat) : Bool := s.flag (Reg.HIF_PORT_STATUS h) Fld.HIF_PORT_STATUS_LINK_UP

def State.vfVectors (s : State) (h : Nat) : Nat := s.fld (Reg.HIF_PORT_CFG h) Fld.HIF_PORT_CFG_VF_VECTORS

/-- TotalVFs (R341, R345). -/
def State.totalVfs (s : State) (h : Nat) : Nat := if s.kickstand then 0 else min 255 (1984 / s.vfVectors h)

/-- The MSI-X vectors of a function (R345). -/
def State.vectorsOf (s : State) (f : Nat) : Nat := if f % 256 = 0 then 64 else s.vfVectors (f / 256)

/-- Whether a function is presented by its port: the link is up, and SR-IOV has enabled it if it is a VF (R343). -/
def State.presented (s : State) (f : Nat) : Bool :=
  s.hostUp (f / 256) &&
    (f % 256 == 0 || ((s.fn (f / 256 * 256)).vfEnable && decide (f % 256 ≤ s.totalVfs (f / 256))))

def State.vec (s : State) (f v : Nat) : VecSt := KMap.get .init s.hif.vecs (f * 2048 + v)
def State.setVec (s : State) (f v : Nat) (x : VecSt) : State := { s with hif := { s.hif with vecs := KMap.set .init s.hif.vecs (f * 2048 + v) x } }

/-- Whether a vector may be sent: Bus Master Enable and MSI-X Enable are set, and its mask is clear (R345). -/
def State.vecReady (s : State) (f v : Nat) : Bool := (s.fn f).bme && (s.fn f).msixEn && !(s.vec f v).masked

/-- Sends a function's vector, or sets its PBA bit (R345). -/
def State.msixSend (s : State) (f v : Nat) : State :=
  if s.vecReady f v then s.emit (.msix f v) else s.setVec f v { s.vec f v with pend := true }

/-- MSIX_PENDING_SEND (R345): a pending vector is sent when both conditions clear. -/
def msixPendingSend (f v : Nat) (s : State) : State :=
  if (s.vec f v).pend && s.vecReady f v then (s.setVec f v { s.vec f v with pend := false }).emit (.msix f v) else s

/-! ### Links (R341, R345) -/

def linkLanes : LinkW → Nat
  | .x1 => 1 | .x2 => 2 | .x4 => 4 | .x8 => 8 | .x16 => 16

/-- The status of a link that is down. -/
def State.hostLinkDown (s : State) (h : Nat) : State :=
  ((((s.setFlag (Reg.HIF_PORT_STATUS h) Fld.HIF_PORT_STATUS_LINK_UP false).setFlag (Reg.HIF_PORT_STATUS h) Fld.HIF_PORT_STATUS_FLIT false).setFld
    (Reg.HIF_PORT_STATUS h) Fld.HIF_PORT_STATUS_SPEED 0).setFld (Reg.HIF_PORT_STATUS h) Fld.HIF_PORT_STATUS_WIDTH 0)

/-- HOST_LINK_TRAIN (R340, R341): HPh_PERST_N is deasserted and the link trains; ports 1 to 3 stay in Detect until EN is set, and in Kickstand
mode. -/
def hostLinkTrain (h speed : Nat) (w : LinkW) (flit : Bool) (s : State) : State :=
  let s1 := { s with hif := { s.hif with perst := KMap.set 0 s.hif.perst h 0 } }
  if !s1.flag (Reg.HIF_PORT_CFG h) Fld.HIF_PORT_CFG_EN || (s1.kickstand && h != 0) then s1
  else
    (((s1.setFlag (Reg.HIF_PORT_STATUS h) Fld.HIF_PORT_STATUS_LINK_UP true).setFlag (Reg.HIF_PORT_STATUS h) Fld.HIF_PORT_STATUS_FLIT flit).setFld
      (Reg.HIF_PORT_STATUS h) Fld.HIF_PORT_STATUS_SPEED speed).setFld (Reg.HIF_PORT_STATUS h) Fld.HIF_PORT_STATUS_WIDTH (linkLanes w)

/-! ### Device-issued reads (R340, R359 to R361) -/

def tagKey (h t : Nat) : Nat := h * 16384 + t
def State.tag (s : State) (h t : Nat) : Option TagSt := lfind s.hif.tags.l (tagKey h t)
def State.setTag (s : State) (k : Nat) (x : TagSt) : State := { s with hif := { s.hif with tags := KMap.set .none s.hif.tags k x } }
def State.setQuar (s : State) (k at_ : Nat) : State := { s with hif := { s.hif with quar := KMap.set 0 s.hif.quar k at_ } }

/-- Tags in quarantine of a port, and non-posted requests that the port counts against its 4,096 (R340, R361). -/
def State.tagsQuar (s : State) (h : Nat) : Nat := (s.hif.quar.keys.filter (fun k => k / 16384 == h)).length
def State.tagsUsed (s : State) (h : Nat) : Nat := (s.hif.tags.keys.filter (fun k => k / 16384 == h)).length + s.tagsQuar h

/-- The first free tag from a place on: 14-bit tags in FLIT mode, 10-bit tags otherwise. -/
def State.findTag (s : State) (h range : Nat) : Nat → Nat → Option Nat
  | 0, _ => none
  | fuel + 1, t =>
    if (s.tag h t).isNone && (lfind s.hif.quar.l (tagKey h t)).isNone then some t else s.findTag h range fuel ((t + 1) % range)

/-- A free tag of a port, if it has one; which is open (R340, R361). -/
def State.takeTag (s : State) (h : Nat) : Option (Nat × State) :=
  if 4096 ≤ s.tagsUsed h then none
  else
    let range := if s.flag (Reg.HIF_PORT_STATUS h) Fld.HIF_PORT_STATUS_FLIT then 16384 else 1024
    let (d, s1) := s.draw
    (s.findTag h range 4097 (d % range)).map (fun t => (t, s1))

/-- The span that a Completion Timeout Value selects, from the PF of the port (R359). -/
def ctoSpan (v : Nat) : Nat :=
  match v with
  | 0x1 => spanExp 14
  | 0x2 => spanExp 8
  | 0x5 => spanExp 5
  | 0x6 => spanExp 3
  | 0x9 => spanExp 1
  | 0xA => 2 * second
  | 0xD => 8 * second
  | 0xE => 32 * second
  | _ => spanExp 6

/-- The Max Read Request Size of a function in bytes. -/
def State.readMax (s : State) (f : Nat) : Nat := 128 * 2 ^ (s.fn f).mrrs

/-- Issues a read of host memory for a function; none while no tag is free, its Bus Master Enable is clear or its link is down (R357, R361). -/
def State.issueRead (s : State) (f : Nat) (use : ReadFor) (addr len : Nat) : Option State :=
  if !(s.fn f).bme || !s.hostUp (f / 256) then none
  else
    match s.takeTag (f / 256) with
    | none => none
    | some (t, s1) =>
      some ((s1.setTag (tagKey (f / 256) t) ⟨f, use, len, s1.mono + ctoSpan (s1.fn (f / 256 * 256)).ctoValue, []⟩).emit (.hostRead f t addr len))

/-- The quarantine span (R361, R362). -/
def State.quarSpan (s : State) : Nat := expSpanIn (-10) 6 (s.fld Reg.HIF_CFG Fld.HIF_CFG_QUAR_SPAN)

/-- Moves a tag into quarantine. -/
def State.quarantineTag (s : State) (k : Nat) : State := (s.setTag k .none).setQuar k (s.mono + s.quarSpan)

/-- Once every outstanding read of a function whose Bus Master Enable was cleared has completed or timed out, QUIESCED sets (R357). -/
def State.settleDrain (s : State) (f : Nat) : State :=
  if (s.fn f).draining && !s.hif.tags.l.any (fun (_, x) => x.func == f) then
    (s.setFn f { s.fn f with draining := false }).setFlag (Reg.HIF_FUNC_STATUS (f / 256) (f % 256)) Fld.HIF_FUNC_STATUS_QUIESCED true
  else s

/-- The reads that a test names are discarded when they arrive. -/
def State.staleReads (s : State) (p : ReadFor → Bool) : State :=
  s.hif.tags.l.foldl (fun s (k, x) => if p x.use then s.setTag k { x with use := .stale } else s) s

/-! ### The aperture (R350, R351, R468) -/

/-- The device address of a granule (R351, R390). -/
def granuleAddr (hbm : Bool) (loc : Nat) : Nat :=
  if hbm then 0x2000000000 + loc / 512 * 2 ^ 35 + loc % 512 * 2 ^ 26
  else 0x400000000 + loc / 64 * 2 ^ 30 + loc / 4 % 16 * 2 ^ 26

/-- Whether a granule has been retired (R338): an HBM granule has pages in both stacks of its quadrant. -/
def State.granuleGone (s : State) (hbm : Bool) (loc : Nat) : Bool :=
  if hbm then s.pageGone (loc / 512) (loc % 512 * 32768) || s.pageGone (loc / 512) (loc % 512 * 32768 + 32)
  else KMap.get 0 s.mem.gone (goneKey 0 (loc / 64 * 16 + loc / 4 % 16)) != 0

/-- Whether an entry may name a granule (R351): a table DRAM region that holds no table and is no spare, an HBM granule above the pool. -/
def State.granuleOk (s : State) (hbm : Bool) (loc : Nat) : Bool :=
  if hbm then decide ((s.fld (Reg.BUF_HBM_PAGES (loc / 512)) Fld.BUF_HBM_PAGES_PAGES + 32767) / 32768 ≤ loc % 512)
  else
    let c := loc / 64
    let r := loc / 4 % 16
    loc % 4 == 0 && decide (c < 24) && decide (2 + s.fld (Reg.TDC_CH_CFG c) Fld.TDC_CH_CFG_SPARE_REGIONS ≤ r) && decide (r < s.chRegions c)

def State.aptEntry (s : State) (k : Nat) : AptEntry := KMap.get .init s.hif.apt k

/-- The entry that a BAR4 offset of a function names, if the access is not outside the aperture (R350). -/
def State.aperture (s : State) (f off : Nat) : Option AptEntry :=
  let a := Reg.HIF_APT_FUNC (f / 256) (f % 256)
  if s.fld a Fld.HIF_APT_FUNC_COUNT ≤ off / 2 ^ 26 then none
  else
    let e := s.aptEntry (f / 256 * 2048 + s.fld a Fld.HIF_APT_FUNC_BASE + off / 2 ^ 26)
    if e.valid && !s.granuleGone e.hbm e.loc then some e else none

/-- The enabled bytes of a write, with their offsets. -/
def enabled (d : List (Option Byte)) : List (Nat × Byte) := (d.zipIdx).filterMap (fun (b, i) => b.map (fun x => (i, x)))

def State.pokeRam (s : State) (a : Nat) (d : List (Option Byte)) : State :=
  { s with ram := (enabled d).foldl (fun m (i, b) => KMap.set 0 m (a + i) b) s.ram }

/-- Whether an uncorrectable word can be met in a granule. -/
def inGranule (e : AptEntry) : MemLoc → Bool
  | .tableDram c .. => !e.hbm && c.val == e.loc / 64
  | .hbm st .. => e.hbm && st.val / 2 == e.loc / 512
  | _ => false

/-- The boot state in which BAR4 of function 0 reaches the staging area: LOAD (R468). -/
def bootLoad : Nat := 1

/-- APERTURE_ACCESS (R335, R350, R351, R468). -/
def apertureAccess (f off : Nat) (op : AptOp) (unc : Option MemLoc) (s : State) : State :=
  let h := f / 256
  if f = 0 ∧ s.fld Reg.BOOT_STATUS Fld.BOOT_STATUS_STATE = bootLoad ∧ off < 2 ^ 26 then
    match op with
    | .read n => s.emit (.hostCpl f true false ((List.range n.toNat).map (fun i => KMap.get 0 s.boot.staging (off + i))))
    | .write d => { s with boot := { s.boot with staging := (enabled d).foldl (fun m (i, b) => KMap.set 0 m (off + i) b) s.boot.staging } }
  else
    match s.aperture f off with
    | none =>
      let s1 := (s.bump (Ctr.HIF_APT_OUTSIDE h) 1).report f .unsupportedRequest .nonFatal
      match op with
      | .read _ => s1.emit (.hostCpl f false false [])
      | .write _ => s1
    | some e =>
      let s := s.activateAt e.hbm (if e.hbm then e.loc / 512 else e.loc / 64)
      let a := granuleAddr e.hbm e.loc + off % 2 ^ 26
      match op with
      | .read n =>
        match unc.filter (inGranule e) with
        | some l => (s.memUncorr l 2).emit (.hostCpl f true true (s.ramBytes a n.toNat))
        | none => s.emit (.hostCpl f true false (s.ramBytes a n.toNat))
      | .write d => s.pokeRam a d

def State.aptErr (s : State) : State := s.setFlag Reg.HIF_APT_STATUS Fld.HIF_APT_STATUS_ERR true

/-- A write of HIF_APT_CMD (R351, R362, R485). -/
def aptCmdWrite (v : Word) (s : State) : State :=
  let i := s.fld Reg.HIF_APT_CMD_IDX Fld.HIF_APT_CMD_IDX_INDEX
  let k := (2 * Fld.HIF_APT_CMD_PORT_HI.get v + Fld.HIF_APT_CMD_PORT_LO.get v) * 2048 + i
  if 2048 ≤ i then s.aptErr
  else if Fld.HIF_APT_CMD_READ.get v = 1 then
    let e := s.aptEntry k
    ((s.setFlag Reg.HIF_APT_DATA Fld.HIF_APT_DATA_VALID e.valid).setFlag Reg.HIF_APT_DATA Fld.HIF_APT_DATA_MEM e.hbm).setFld Reg.HIF_APT_DATA
      Fld.HIF_APT_DATA_LOC e.loc
  else
    let e : AptEntry := ⟨s.flag Reg.HIF_APT_DATA Fld.HIF_APT_DATA_VALID, s.flag Reg.HIF_APT_DATA Fld.HIF_APT_DATA_MEM,
      s.fld Reg.HIF_APT_DATA Fld.HIF_APT_DATA_LOC⟩
    let upgrade := s.flag Reg.BOOT_UPG_BUF Fld.BOOT_UPG_BUF_VALID && !e.hbm && s.fld Reg.BOOT_UPG_BUF Fld.BOOT_UPG_BUF_LOC == e.loc
    if e.valid && (!s.granuleOk e.hbm e.loc || upgrade) then s.aptErr
    else { s with hif := { s.hif with apt := KMap.set .init s.hif.apt k e } }

/-- HIF_APT_FUNC_WRITE (R362): BASE + COUNT above 2,048 is refused. -/
def hifAptFuncWrite (f : Nat) (v : Word) (s : State) : State :=
  if 2048 < Fld.HIF_APT_FUNC_BASE.get v + Fld.HIF_APT_FUNC_COUNT.get v then s.aptErr
  else s.setReg (Reg.HIF_APT_FUNC (f / 256) (f % 256)) (v &&& 0x07FF0FFF)

/-! ### Internal errors (R356) -/

/-- HIF_IERR_STATUS_CLEAR (R356): the bits written 1 clear, and the log frees when they include its error. -/
def hifIerrStatusClear (v : Word) (s : State) : State :=
  let w := Fld.HIF_IERR_STATUS_SRC.get v
  let s1 := s.setReg Reg.HIF_IERR_STATUS (s.reg Reg.HIF_IERR_STATUS &&& ~~~ BitVec.ofNat 32 w)
  if w.testBit (s.fld Reg.HIF_IERR_LOG0 Fld.HIF_IERR_LOG0_SOURCE) then s1.setFlag Reg.HIF_IERR_LOG0 Fld.HIF_IERR_LOG0_VALID false else s1

/-- HOST_LINK_TRAIN: speed n is that of SPEED value n + 1; 64 GT/s is in FLIT mode. -/
def execHostLinkTrain (h : Fin 4) (speed : Fin 6) (w : LinkW) (flit : Bool) (s : State) : Host.Outcome State Fault Refusal :=
  answer s (hostLinkTrain h.val (speed.val + 1) w flit s)
/-- MSIX_PENDING_SEND. -/
def execMsixPendingSend (f : Fin 1024) (v : BitVec 11) (s : State) : Host.Outcome State Fault Refusal := answer s (msixPendingSend f.val v.toNat s)
/-- APERTURE_ACCESS. -/
def execApertureAccess (f : Fin 1024) (off : BitVec 37) (op : AptOp) (unc : Option MemLoc) (s : State) : Host.Outcome State Fault Refusal :=
  answer s (apertureAccess f.val off.toNat op unc s)
/-- HIF_APT_WRITE: a write of HIF_APT_CMD with READ clear. -/
def execHifAptWrite (v : Word) (s : State) : Host.Outcome State Fault Refusal := answer s (aptCmdWrite (Fld.HIF_APT_CMD_READ.put v 0) s)
/-- HIF_APT_READ: a write of HIF_APT_CMD with READ set. -/
def execHifAptRead (v : Word) (s : State) : Host.Outcome State Fault Refusal := answer s (aptCmdWrite (Fld.HIF_APT_CMD_READ.put v 1) s)
/-- HIF_APT_FUNC_WRITE. -/
def execHifAptFuncWrite (f : Fin 1024) (v : Word) (s : State) : Host.Outcome State Fault Refusal := answer s (hifAptFuncWrite f.val v s)
/-- HIF_IERR_STATUS_CLEAR. -/
def execHifIerrStatusClear (v : Word) (s : State) : Host.Outcome State Fault Refusal := answer s (hifIerrStatusClear v s)

end Sys2Proof.Machine
end

