-- ==== Sys2Proof/Machine/Ring.lean ====
section
/-! DEFINITION. Rings: doorbells, states, descriptor fetches, transmit, receive, punts and index words (R363 to R380). -/

namespace Sys2Proof.Machine

/-! ### Owners (R365) -/

/-- The function that owns a ring, if it is no hart domain. -/
def State.ringFn (s : State) (g : Nat) : Option Nat := let p := s.ringOwner g; if p < 1024 then some p else none

/-- Whether a ring's owner may be reached: a function needs Bus Master Enable. -/
def State.ringBme (s : State) (g : Nat) : Bool := match s.ringFn g with | some f => (s.fn f).bme | none => true

/-- Whether a requester's view holds a ring's set (R348, R386). -/
def State.ringView (s : State) (r : Req) (g : Nat) : Bool := s.isOwner r || (s.party r == s.ringOwner g && !s.reqBlocked r)

/-- A write outside the view: ignored, and counted for a function, or for a hart of the inactive supervisor cluster (R348, R489). -/
def State.viewRefused (s : State) : Req → State
  | .func f => s.bump (Ctr.HIF_VIEW_REFUSED (f.val / 256)) 1
  | .hart h => if s.tdmBlocked h.val then s.bump Ctr.TDM_BLOCKED 1 else s

def hasDescs (kind : Nat) : Bool := kind == rkTx || kind == rkRx || kind == rkUpdate || kind == rkShadow
def State.descBase (s : State) (g : Nat) : Nat := s.reg64 (Reg.RING_DESC_BASE_LO g)

/-! ### Interrupts and index words (R364, R368) -/

/-- Sends the ring's vector if its interrupt is enabled and armed; the ring is then disarmed. -/
def State.ringIrq (s : State) (g : Nat) : State :=
  match s.ringFn g with
  | some f =>
    if s.flag (Reg.RING_CFG g) Fld.RING_CFG_INTR_EN && (s.ring g).armed then
      (s.setRing g { s.ring g with armed := false }).msixSend f (s.fld (Reg.RING_CFG g) Fld.RING_CFG_VECTOR)
    else s
  | none => s

/-- Arms a ring: if entries wait, the message is sent at once (R368). -/
def State.armRing (s : State) (g : Nat) : State :=
  let s1 := s.setRing g { s.ring g with armed := true }
  if s1.cplProd g ≠ (s1.ring g).cplCons then s1.ringIrq g else s1

/-- INDEX_WORD_WRITE (R364, R368): the index word follows the entries it reports, and the MSI-X message follows it. -/
def indexWordWrite (g : Nat) (s : State) : State :=
  if !(s.ring g).unreported || !s.ringBme g then s
  else
    let a := s.reg64 (Reg.RING_CPL_BASE_LO g) + entrySize (s.ringKind g) * s.ringSlots g
    let s1 := s.partyWrite (s.ringOwner g) a (beBytes 4 (s.cplProd g) ++ beBytes 4 (s.descCons g))
    (s1.setRing g { s1.ring g with unreported := false }).ringIrq g

/-! ### Doorbells (R366 to R368) -/

/-- Descriptors that dequeued frames have reserved and not used. -/
def RingSt.heldDescs (r : RingSt) : Nat := (r.rx.map (fun x => x.descs.length)).sum

/-- The reads of a ring's descriptors under way are discarded. -/
def State.dropFetch (s : State) (g : Nat) : State :=
  let s1 := s.staleReads (fun u => match u with | .descFetch x _ _ => x == g | _ => false)
  s1.setRing g { s1.ring g with fetching := false }

/-- The ring that a doorbell names (R366). -/
def dbRing (r : Req) (v : BitVec 64) : Nat :=
  match r with
  | .func f => f.val / 256 * 16384 + v.toNat / 2 ^ 50
  | .hart _ => v.toNat / 2 ^ 46 % 4 * 16384 + v.toNat / 2 ^ 50

/-- Whether a doorbell's reserved bits are zero. -/
def dbZero (r : Req) (v : BitVec 64) : Bool :=
  v.toNat / 2 ^ 17 % 2 ^ 29 == 0 && (match r with | .func _ => v.toNat / 2 ^ 46 % 4 == 0 | .hart _ => true)

/-- A descriptor at the head of an idle RX ring that breaks the limits of R377 completes at once. -/
def State.rxInvalid (s : State) (g : Nat) : Nat → State
  | 0 => s
  | fuel + 1 =>
    match s.headDesc g with
    | none => s
    | some d =>
      if s.ringKind g ≠ rkRx ∨ !(s.ring g).rx.isEmpty ∨ rxDescOk d then s
      else ((s.takeDesc g).writeCpl g (beBytes 1 0x10 ++ beBytes 1 0x04 ++ zeros 14)).rxInvalid g fuel

/-- As many times as descriptors are prefetched. -/
def State.rxSkim (s : State) (g : Nat) : State := s.rxInvalid g (s.ring g).pre.length

/-- A doorbell (R349, R366 to R368). A function's doorbell that is no 8-byte write at offset 0 of its page is malformed. A PRODUCE behind the last
one takes back descriptors that were not taken. -/
def doorbell (r : Req) (whole : Bool) (v : BitVec 64) (s : State) : State :=
  let g := dbRing r v
  let h := g / 16384
  let x := s.ring g
  let consume := v.toNat.testBit 49
  let i := v.toNat % 2 ^ 17
  let malformed := match r with | .func _ => !whole | .hart _ => false
  if malformed then s.bump (Ctr.HIF_DB_MALFORMED h) 1
  else if s.reqBlocked r then s.viewRefused r
  else if s.party r ≠ s.ringOwner g ∨ !dbZero r v ∨ s.ringState g = rsError ∨ (!consume && (s.ringKind g == rkEvent || s.ringKind g == rkSample)) then
    s.bump (Ctr.RING_DB_REFUSED h) 1
  else if (if consume then idxDiff (s.cplProd g) x.cplCons < idxDiff i x.cplCons else s.ringSlots g < idxDiff i (s.descCons g)) then
    s.bump (Ctr.RING_DB_RANGE h) 1
  else
    let s1 :=
      if consume then (s.setRing g { x with cplCons := i }).rxSkim g
      else
        let n := idxDiff i (s.descCons g) - x.heldDescs
        let s2 := s.setRing g { x with descProd := i, pre := x.pre.take n }
        if n < x.pre.length then s2.dropFetch g else s2
    if v.toNat.testBit 48 then s1.armRing g else s1

/-! ### Errors and descriptor fetches (R364, R372, R373) -/

/-- A ring enters ERROR: it takes nothing further (R372). -/
def State.ringFails (s : State) (g cause : Nat) : State :=
  let s1 := (s.setRingState g rsError).dropFetch g
  (s1.setRing g { s1.ring g with pre := [] }).event (s1.ringOwner g) 0x0900 1 63 g (beBytes 1 cause)

/-- Puts fetched descriptors behind those prefetched, as far as they are still posted. -/
def State.addDescs (s : State) (g i : Nat) (d : List Byte) : State :=
  let r := s.ring g
  let n := min (d.length / 32) (idxDiff r.descProd i)
  (s.setRing g { r with fetching := false, pre := r.pre ++ (List.range n).map (fun j => (d.drop (32 * j)).take 32) }).rxSkim g

/-- DESCRIPTOR_FETCH (R364, R373): a RUNNING ring prefetches posted descriptors, at most as many as one read carries and as follow one another in
its area. Their completion slots are reserved as they are taken. -/
def descriptorFetch (g n : Nat) (s : State) : State :=
  let r := s.ring g
  if s.ringState g ≠ rsRunning ∨ r.fetching ∨ !hasDescs (s.ringKind g) then s
  else
    let i := (s.descCons g + r.heldDescs + r.pre.length) % 2 ^ 17
    let posted := idxDiff r.descProd i
    let size := s.ringSlots g
    let most := match s.ringFn g with | some f => s.readMax f / 32 | none => n
    let cnt := min (min n posted) (min (size - i % size) most)
    let addr := s.descBase g + 32 * (i % size)
    if cnt = 0 ∨ size < posted then s
    else
      match s.ringFn g with
      | none => s.addDescs g i (s.ramBytes addr (32 * cnt))
      | some f =>
        match s.issueRead f (.descFetch g i cnt) addr (32 * cnt) with
        | some s1 => s1.setRing g { s1.ring g with fetching := true }
        | none => s

/-! ### Transmit (R374 to R376) -/

def txFlags (d : List Byte) : Nat := beAt d 0 1
def txLen (d : List Byte) : Nat := beAt d 2 2
def txSop (d : List Byte) : Bool := (txFlags d).testBit 7
def txEop (d : List Byte) : Bool := (txFlags d).testBit 6

/-- Whether a TX descriptor keeps its reserved fields zero and names bytes; ITH and TS belong to the first descriptor of a frame. -/
def txDescOk (first : Bool) (d : List Byte) : Bool :=
  txFlags d % 16 == 0 && (first || txFlags d / 16 % 4 == 0) && beAt d 1 1 == 0 && decide (0 < txLen d) && beAt d 6 2 == 0 && beAt d 16 16 == 0

/-- The status that a frame's descriptors alone give it (R375): 0, INVALID or LENGTH. -/
def txStatus (ds : List (List Byte)) (eop : Bool) : Nat :=
  let ith := (txFlags (ds.headD [])).testBit 5
  let data := (ds.map txLen).sum - (if ith then 16 else 0)
  if !txSop (ds.headD []) || !(ds.zipIdx).all (fun (d, i) => txDescOk (i == 0) d) then 0x04
  else if !eop || data < 14 || 16384 < data + 4 then 0x03
  else 0

/-- Bytes up to the next multiple of the read size, at most `n`. -/
def chunkLen (m addr n : Nat) : Nat := min n (m - addr % m)

/-- The reads of a buffer, cut at multiples of the read size. -/
def chunksOf (m first : Nat) : Nat → Nat → Nat → Nat → List Chunk
  | 0, _, _, _ => []
  | fuel + 1, off, addr, len =>
    if len = 0 then []
    else
      let k := chunkLen m addr len
      ⟨first, off, addr, k⟩ :: chunksOf m first fuel (off + k) (addr + k) (len - k)

/-- The reads of a frame, buffer by buffer. -/
def frameChunks (m : Nat) (x : TxFrame) : List Chunk :=
  (x.bufs.foldl (fun (a : Nat × List Chunk) b => (a.1 + b.2, a.2 ++ chunksOf m x.first 512 a.1 b.1 b.2)) (0, [])).2

def TxFrame.need (x : TxFrame) : Nat := (x.bufs.map (·.2)).sum
def TxFrame.have_ (x : TxFrame) : Nat := (x.data.l.map (fun e => e.2.length)).sum

/-- Gives data to the frame it belongs to, unless a pause has discarded its reads. -/
def State.txData (s : State) (g i o : Nat) (d : List Byte) : State :=
  let r := s.ring g
  s.setRing g { r with tx := r.tx.map (fun x => if x.first = i ∧ !x.reread then { x with data := KMap.set [] x.data o d } else x) }

/-- A frame's read failed with a status; the first failure stands. -/
def State.txFail (s : State) (g i st : Nat) : State :=
  let r := s.ring g
  s.setRing g { r with tx := r.tx.map (fun x => if x.first = i ∧ x.status = 0 then { x with status := st } else x),
                       todo := r.todo.filter (fun c => c.first != i) }

/-- Issues the waiting reads of a ring's TX data while tags are free. -/
def State.issueTodo (s : State) (g : Nat) : List Chunk → State
  | [] => s.setRing g { s.ring g with todo := [] }
  | c :: rest =>
    match s.ringFn g with
    | none => (s.txData g c.first c.off (s.ramBytes c.addr c.len)).issueTodo g rest
    | some f =>
      match s.issueRead f (.txData g c.first c.off) c.addr c.len with
      | some s1 => s1.issueTodo g rest
      | none => s.setRing g { s.ring g with todo := c :: rest }

def State.pumpTx (s : State) (g : Nat) : State := s.issueTodo g (s.ring g).todo

/-- The largest read of a ring: one piece for a hart domain. -/
def State.ringReadMax (s : State) (g : Nat) : Nat := match s.ringFn g with | some f => s.readMax f | none => 65536

/-- TX_FRAME_TAKE (R373, R375): the frame at the head of a RUNNING TX ring is taken once its EOP is posted and every descriptor has a slot; the
reads of its data are issued, unless its descriptors already give it an error. -/
def txFrameTake (g : Nat) (s : State) : State :=
  let r := s.ring g
  if s.ringState g ≠ rsRunning ∨ s.ringKind g ≠ rkTx then s
  else
    let eop := (r.pre.take 16).findIdx? txEop
    let n := match eop with | some k => k + 1 | none => 16
    if (eop.isNone && decide (r.pre.length < 16)) || decide (s.freeSlots g < n) then s
    else
      let ds := r.pre.take n
      let st := txStatus ds eop.isSome
      let x : TxFrame :=
        { first := s.descCons g, bufs := ds.map (fun d => (beAt d 8 8, txLen d)), ith := (txFlags (ds.headD [])).testBit 5,
          ts := (txFlags (ds.headD [])).testBit 4, ptpTag := beAt (ds.headD []) 4 2, data := .empty, status := st, reread := false }
      let s1 := s.setFld (Reg.RING_IDX g) Fld.RING_IDX_DESC_CONS ((s.descCons g + n) % 2 ^ 17)
      let todo := if st = 0 then frameChunks (s.ringReadMax g) x else []
      (s1.setRing g { s1.ring g with pre := r.pre.drop n, reserved := r.reserved + n, tx := r.tx ++ [x], todo := r.todo ++ todo }).pumpTx g

/-- A TX completion (R376). -/
def txCpl (st len : Nat) : List Byte := beBytes 1 0x20 ++ beBytes 1 st ++ beBytes 2 len ++ zeros 12

/-- The reads of a frame still out are discarded when they arrive. -/
def State.dropTxReads (s : State) (g i : Nat) : State :=
  s.staleReads (fun u => match u with | .txData x j _ => x == g && j == i | _ => false)

/-- Whether a start loads its image through ring 0 of host port 0 (R468). -/
def State.ringLoads (s : State) (g : Nat) : Bool :=
  g == 0 && s.fld Reg.BOOT_STATUS Fld.BOOT_STATUS_STATE == bootLoad && s.flag Reg.BOOT_CTRL Fld.BOOT_CTRL_RING_LOAD

/-- A frame's data goes to the next bytes of staging (R468). -/
def State.stageFrame (s : State) (d : List Byte) : State :=
  { s with boot := { s.boot with staging := (d.zipIdx).foldl (fun m (b, i) => KMap.set 0 m (s.boot.fill + i) b) s.boot.staging,
                                 fill := s.boot.fill + d.length } }

/-- A whole host frame enters its ingress slice, padded to 64 bytes with its FCS (R24, R60, R123, R375). -/
def State.hostFrame (s : State) (g : Nat) (x : TxFrame) (d : List Byte) : State :=
  let h := g / 16384
  let hdr := if x.ith then 16 else 0
  let b := d ++ zeros (60 + hdr - d.length)
  let k : IPkt :=
    { (IPkt.new (4 * h + g % 4) (128 + h) b (some (b.length - hdr + 4)) s.now 16384) with
        hasIth := x.ith, ptp := if x.ts then some (BitVec.ofNat 11 (s.ringOwner g), BitVec.ofNat 16 x.ptpTag) else none }
  (s.enqueue k).2

/-- TX_FRAME_READ_DONE (R375, R376): the frame at the head of a ring's taken frames has all its data, or an error; it enters its slice, or its
staging area, or neither, and its descriptors complete. -/
def txFrameReadDone (g : Nat) (s : State) : State :=
  match (s.ring g).tx with
  | [] => s
  | x :: rest =>
    if s.ringState g = rsPaused ∨ x.reread ∨ (x.status = 0 ∧ x.have_ < x.need) then s
    else
      let s1 := s.dropTxReads g x.first
      let s2 := s1.setRing g { s1.ring g with tx := rest, todo := (s1.ring g).todo.filter (fun c => c.first != x.first) }
      let d := x.data.l.flatMap (·.2)
      let s3 := if x.status ≠ 0 then s2 else if s2.ringLoads g then s2.stageFrame d else s2.hostFrame g x d
      x.bufs.foldl (fun s b => s.writeCpl g (txCpl x.status b.2)) s3

/-! ### Receive (R377 to R379) -/

/-- An RX completion (R378). -/
def rxCpl (st len : Nat) (sop eop punt : Bool) (reason source inst : Nat) : List Byte :=
  beBytes 1 0x10 ++ beBytes 1 st ++ beBytes 2 len ++ beBytes 1 (sop.toNat * 128 + eop.toNat * 64 + punt.toNat * 32) ++ beBytes 1 reason ++
    beBytes 1 source ++ [0] ++ beBytes 8 (if sop then shortInstant inst else 0)

/-- Writes the completions of the descriptors a frame used, in order; those that broke the limits complete with INVALID. `first` says that no good
one has completed yet. -/
def State.rxCpls (s : State) (g st : Nat) (x : RxWrite) (first : Bool) : List RxUsed → State
  | [] => s
  | u :: rest =>
    let s1 :=
      if u.bad then s.writeCpl g (rxCpl 0x04 0 false false false 0 0 0)
      else s.writeCpl g (rxCpl st u.written first (!rest.any (fun y => !y.bad)) x.punt.isSome x.reason x.source x.instant)
    s1.rxCpls g st x (first && u.bad) rest

/-- Ends the frame at the head of a ring's writes with a status: its descriptors complete, those it did not need serve the next frame, and a punt
leaves its punt buffer; a frame cut short counts in RING_TRUNC (R370, R379, R380). -/
def State.rxEnd (s : State) (g st : Nat) (x : RxWrite) : State :=
  let s1 := s.rxCpls g st x true x.used
  let r := s1.ring g
  let rest := r.rx.drop 1
  let s2 :=
    match rest with
    | y :: l =>
      if y.punt.isNone then s1.setRing g { r with rx := { y with descs := x.descs ++ y.descs } :: l }
      else s1.setRing g { r with rx := rest, pre := x.descs ++ r.pre, reserved := r.reserved - x.descs.length }
    | [] => s1.setRing g { r with rx := [], pre := x.descs ++ r.pre, reserved := r.reserved - x.descs.length }
  let s3 :=
    if x.punt.isSome then
      { s2 with ing := { s2.ing with puntRoom := KMap.set 0 s2.ing.puntRoom x.slice (KMap.get 0 s2.ing.puntRoom x.slice - x.room) } }
    else s2
  (if st = 0 ∨ st = 0x06 then s3 else s3.bump (Ctr.RING_TRUNC (g / 16384)) 1).rxSkim g

/-- DESC_CONS passes a descriptor that was reserved. -/
def State.passDesc (s : State) (g : Nat) : State := s.setFld (Reg.RING_IDX g) Fld.RING_IDX_DESC_CONS ((s.descCons g + 1) % 2 ^ 17)

/-- Replaces the head of a ring's writes. -/
def State.setRxHead (s : State) (g : Nat) (x : RxWrite) : State := s.setRing g { s.ring g with rx := x :: (s.ring g).rx.drop 1 }

/-- RX_FRAME_WRITE (R377 to R379): the committed frame at the head of a ring's writes fills its next reserved descriptor; with its last byte the
descriptors it used complete. -/
def rxFrameWrite (g : Nat) (s : State) : State :=
  match (s.ring g).rx with
  | [] => s
  | x :: _ =>
    if x.punt.isSome ∨ x.eg.isSome ∨ x.cut ∨ (s.ringState g ≠ rsRunning ∧ s.ringState g ≠ rsStopping ∧ s.ringState g ≠ rsError) then s
    else
      match x.descs with
      | [] => s.rxEnd g (if x.rest.isEmpty then 0 else 0x05) x
      | d :: ds =>
        let s1 := s.passDesc g
        if !rxDescOk d then s1.setRxHead g { x with used := x.used ++ [⟨0, 0, 0, true⟩], descs := ds }
        else
          let n := min (rxDescLen d) x.rest.length
          let y := { x with used := x.used ++ [⟨beAt d 8 8, rxDescLen d, n, false⟩], descs := ds, rest := x.rest.drop n }
          let s2 := (s1.partyWrite (s.ringOwner g) (beAt d 8 8) (x.rest.take n)).setRxHead g y
          if y.rest.isEmpty then s2.rxEnd g 0 y else s2

/-- RX_RING_WAIT_EXPIRE (R379): the ring wait of a head frame has expired: with its path eligible the frame is dequeued and discarded at egress
slice entry; otherwise that happens when its queue is selected. -/
def rxRingWaitExpire (queue : Nat) (s : State) : State :=
  let s1 := s.waitExpire queue
  let p := portOfNode (s1.queuePort queue)
  let e := sliceOf p queue
  if KMap.get 0 s1.sch.waitOver queue = 1 ∧ s1.queueOk queue ∧ s1.flag (Reg.SCH_CFG (e / 4)) Fld.SCH_CFG_EN ∧ s1.tdieUp ∧ s1.egServes e then
    let (n, s2) := s1.dequeue e queue none
    egressSliceEntry n s2
  else s1

/-! ### Punts (R380) -/

/-- Writes a punt's bytes while descriptors last: into the one in use, then into the next one taken. -/
def State.puntGo (s : State) (g : Nat) : Nat → RxWrite → RxWrite × State
  | 0, x => (x, s)
  | fuel + 1, x =>
    if x.rest.isEmpty then (x, s)
    else
      let room := match x.used.getLast? with | some u => if u.bad then 0 else u.len - u.written | none => 0
      if 0 < room then
        match x.used.getLast? with
        | some u =>
          let n := min room x.rest.length
          let y := { x with used := x.used.dropLast ++ [{ u with written := u.written + n }], rest := x.rest.drop n }
          (s.partyWrite (s.ringOwner g) (u.addr + u.written) (x.rest.take n)).puntGo g fuel y
        | none => (x, s)
      else
        match s.headDesc g with
        | none => (x, s)
        | some d =>
          let u : RxUsed := if rxDescOk d then ⟨beAt d 8 8, rxDescLen d, 0, false⟩ else ⟨0, 0, 0, true⟩
          (s.takeDesc g).puntGo g fuel { x with used := x.used ++ [u] }

/-- PUNT_WRITE (R380): the punt at the head of a ring's writes takes descriptors as its bytes need them; a bad tail or a lack of room ends it, its
last byte completes it, and a lack of descriptors opens its ring-wait window. -/
def puntWrite (g : Nat) (s : State) : State :=
  match (s.ring g).rx with
  | [] => s
  | x :: _ =>
    if x.punt.isNone then s
    else
      match x.endSt with
      | some st => s.rxEnd g st x
      | none =>
        let run := s.ringState g == rsRunning
        let (y, s1) := if run then s.puntGo g (2 * (s.ring g).pre.length + 2) x else (x, s)
        let y1 := { y with dry := if y.rest.isEmpty then none else if y.rest.length < x.rest.length then some s.mono
                                  else match x.dry with | some d => some d | none => some s.mono }
        let s2 := s1.setRxHead g y1
        if y1.whole && y1.rest.isEmpty && run then s2.rxEnd g 0 y1 else s2

/-- PUNT_DRY_EXPIRE (R380): the window of a dry punt closes: it ends with TRUNCATED_DISCARD. -/
def puntDryExpire (g : Nat) (s : State) : State :=
  match (s.ring g).rx with
  | [] => s
  | x :: _ =>
    match x.punt, x.dry with
    | some _, some d => if d + s.ringWait ≤ s.mono then s.rxEnd g 0x05 x else s
    | _, _ => s

/-! ### Ring commands (R369 to R371) -/

/-- Ends every punt of a ring with TRUNCATED_DISCARD; `write` says whether completions may be written. -/
def State.endPunts (s : State) (g : Nat) (write : Bool) : State :=
  (s.ring g).rx.foldl (fun s x =>
    if x.punt.isSome then
      let s1 := if write then s.rxCpls g 0x05 x true x.used else s
      let s2 := { s1 with ing := { s1.ing with puntRoom := KMap.set 0 s1.ing.puntRoom x.slice (KMap.get 0 s1.ing.puntRoom x.slice - x.room) } }
      (s2.setRing g { s2.ring g with rx := (s2.ring g).rx.filter (fun y => y.punt != x.punt) }).bump (Ctr.RING_TRUNC (g / 16384)) 1
    else s) s

/-- Ends the frames that a pause found under reservation: the descriptors they used complete with TRUNCATED_DISCARD; one that has not passed
egress commit is counted there (R370). -/
def State.endCut (s : State) (g : Nat) (write : Bool) : State :=
  let cut := (s.ring g).rx.filter (·.cut)
  let s1 := cut.foldl (fun s x =>
    let s1 := if write then s.rxCpls g 0x05 x true x.used else s
    if x.eg.isSome then s1 else s1.bump (Ctr.RING_TRUNC (g / 16384)) 1) s
  s1.setRing g { s1.ring g with rx := (s1.ring g).rx.filter (fun x => !x.cut) }

/-- TX frames whose reads a pause discarded are read again from their first buffers; one of which a read timed out keeps its status (R370). -/
def State.readAgain (s : State) (g : Nat) : State :=
  let again := (s.ring g).tx.filter (fun x => x.reread && x.status == 0)
  let s1 := s.staleReads (fun u => match u with | .txData x i _ => x == g && again.any (fun y => y.first == i) | _ => false)
  let r := s1.ring g
  (s1.setRing g { r with tx := r.tx.map (fun x => if x.reread ∧ x.status = 0 then { x with data := .empty, reread := false } else { x with reread := false }),
                         todo := again.flatMap (frameChunks (s.ringReadMax g)) }).pumpTx g

/-- Held completions are written when the ring restarts (R357, R370). -/
def State.writeHeld (s : State) (g : Nat) : State :=
  let l := (s.ring g).held
  let s1 := s.setRing g { s.ring g with held := [] }
  l.foldl (fun s d => s.writeCpl g d) s1

/-- The shadow compare of a ring ends without a completion. -/
def State.dropShadow (s : State) (g : Nat) : State :=
  let s1 := s.staleReads (fun u => match u with | .shadow x => x == g | _ => false)
  s1.setRing g { s1.ring g with shadow := none }

/-- A ring loses its work where the host can no longer be reached: nothing is written, sent or completed, and it is STOPPED (R370, R371). -/
def State.cutRing (s : State) (g : Nat) : State :=
  let s1 := ((s.dropFetch g).dropShadow g).endPunts g false
  let s2 := s1.staleReads (fun u => match u with | .txData x _ _ => x == g | _ => false)
  let r := s2.ring g
  let s3 := s2.setRing g { r with rx := r.rx.map (fun x => { x with cut := true }) }
  let s4 := s3.endCut g false
  let s5 := s4.setRing g { s4.ring g with tx := [], todo := [], pre := [], held := [], reserved := 0, turns := [], turnOut := false }
  let s6 := match s5.tab.job with
    | some j => if j.ring = some g then { s5 with tab := { s5.tab with job := some { j with ring := none } } } else s5
    | none => s5
  s6.setRingState g rsStopped

/-- RESET: all indices become 0, and what is reserved or held is released (R371). -/
def State.resetRing (s : State) (g : Nat) : State :=
  let s1 := (s.cutRing g).setFld (Reg.RING_CTRL g) Fld.RING_CTRL_CPL_PROD 0
  (s1.setFld (Reg.RING_IDX g) Fld.RING_IDX_DESC_CONS 0).setRing g .init

def State.ringRefuse (s : State) (g : Nat) : State := s.setFlag (Reg.RING_CTRL g) Fld.RING_CTRL_REFUSED true

/-- Whether START is accepted as far as the ring's set-up goes (R371). -/
def State.startOk (s : State) (g : Nat) : Bool :=
  let k := s.ringKind g
  let n := s.fld (Reg.RING_CFG g) Fld.RING_CFG_LOG2SIZE
  k != 0 && k != 7 && decide (6 ≤ n) && decide (n ≤ 16) && s.reg64 (Reg.RING_CPL_BASE_LO g) % 64 == 0 &&
    (!hasDescs k || s.descBase g % 64 == 0) &&
    (match s.ringFn g with
     | some f => decide (s.fld (Reg.RING_CFG g) Fld.RING_CFG_VECTOR < s.vectorsOf f) && (s.fn f).bme
     | none => decide (s.fld (Reg.RING_OWNER g) Fld.RING_OWNER_ID ≤ 63) && !s.flag (Reg.RING_CFG g) Fld.RING_CFG_INTR_EN)

/-- START (R368, R370, R371). -/
def State.ringStart (s : State) (g : Nat) : State :=
  let st := s.ringState g
  if (st ≠ rsStopped ∧ st ≠ rsPaused) ∨ !s.startOk g then s.ringRefuse g
  else
    let s1 := (s.setRingState g (if st = rsPaused ∧ (s.ring g).turnOut then rsTurnWait else rsRunning))
    let s2 := s1.setRing g { s1.ring g with turnOut := false }
    let s3 := if st = rsPaused then ((s2.writeHeld g).endCut g true).readAgain g else s2
    s3.armRing g

/-- STOP (R370, R371, R380): taken work goes on to its end; without access to its owner's memory the ring stops at once. -/
def State.ringStop (s : State) (g : Nat) : State :=
  let st := s.ringState g
  if st ≠ rsRunning ∧ st ≠ rsPaused ∧ st ≠ rsTurnWait then s.ringRefuse g
  else if !s.ringBme g then s.cutRing g
  else
    let s1 := (s.setRingState g rsStopping).dropFetch g
    let s2 := s1.setRing g { s1.ring g with pre := [], turnOut := false }
    let s3 := if st = rsPaused then ((s2.writeHeld g).endCut g true).readAgain g else s2
    s3.endPunts g true

/-- A write of RING_CTRL (R371, R386). -/
def ringCtrlWrite (r : Req) (g : Nat) (v : Word) (s : State) : State :=
  if !s.ringView r g then s.viewRefused r
  else
    let s1 := if Fld.RING_CTRL_REFUSED.get v = 1 then s.setFlag (Reg.RING_CTRL g) Fld.RING_CTRL_REFUSED false else s
    match Fld.RING_CTRL_CMD.get v with
    | 1 => s1.ringStart g
    | 2 => s1.ringStop g
    | 3 => if s1.ringState g = rsStopped ∨ s1.ringState g = rsError then s1.resetRing g else s1.ringRefuse g
    | _ => s1

/-- STOPPING_END (R369, R371): the stop work has ended. -/
def stoppingEnd (g : Nat) (s : State) : State :=
  let r := s.ring g
  let job := match s.tab.job with | some j => j.ring == some g | none => false
  if s.ringState g = rsStopping ∧ r.tx.isEmpty ∧ r.rx.isEmpty ∧ r.turns.isEmpty ∧ r.shadow.isNone ∧ r.held.isEmpty ∧ !job then
    s.setRingState g rsStopped
  else s

/-- The set-up register that a write names. -/
def ringReg (g : Nat) (q : RingReg) : Nat :=
  match q with
  | .cfg => Reg.RING_CFG g
  | .owner => Reg.RING_OWNER g
  | .descLo => Reg.RING_DESC_BASE_LO g
  | .descHi => Reg.RING_DESC_BASE_HI g
  | .cplLo => Reg.RING_CPL_BASE_LO g
  | .cplHi => Reg.RING_CPL_BASE_HI g

/-- RING_SETUP_WRITE (R363, R365, R371): refused while the ring is not STOPPED; KIND 7 is refused; RING_OWNER is read-only except to the owner
function. -/
def ringSetupWrite (r : Req) (g : Nat) (q : RingReg) (v : Word) (s : State) : State :=
  if !s.ringView r g then s.viewRefused r
  else if q = .owner ∧ !s.isOwner r then s
  else if s.ringState g ≠ rsStopped then s.ringRefuse g
  else
    match q with
    | .cfg => if Fld.RING_CFG_KIND.get v = 7 then s.ringRefuse g else s.setReg (Reg.RING_CFG g) (v &&& 0xFFBFF800)
    | .owner => s.setReg (Reg.RING_OWNER g) (v &&& 0x800003FF)
    | q => s.setReg (ringReg g q) v

/-! ### Completions of device-issued reads (R357, R359 to R361) -/

/-- Requests of a port that wait for a tag are issued. -/
def State.pumpPort (s : State) (h : Nat) : State :=
  s.rings.keys.foldl (fun s g => match s.ringFn g with | some f => if f / 256 = h ∧ s.ringState g ≠ rsPaused then s.pumpTx g else s | none => s) s

/-- Changes the shadow compare of a ring. -/
def State.modShadow (s : State) (g : Nat) (f : ShadowJob → ShadowJob) : State := s.setRing g { s.ring g with shadow := (s.ring g).shadow.map f }

/-- A read's data has arrived whole. -/
def State.readGood (s : State) (u : ReadFor) (d : List Byte) : State :=
  match u with
  | .descFetch g i _ => s.addDescs g i d
  | .txData g i o => s.txData g i o d
  | .shadow g => s.modShadow g (fun j => { j with got := j.got ++ d, reading := false })
  | .stale => s

/-- A read has failed: a timeout, or an error completion (R360, R372, R375, R208). -/
def State.readBad (s : State) (u : ReadFor) (timeout : Bool) : State :=
  match u with
  | .descFetch g _ _ => s.ringFails g (if timeout then 0x01 else 0x02)
  | .txData g i _ => if (s.ring g).tx.any (fun x => x.first == i && x.reread) && !timeout then s else s.txFail g i (if timeout then 0x01 else 0x02)
  | .shadow g => s.modShadow g (fun j => { j with failed := true, reading := false })
  | .stale => s

/-- COMPLETION_TIMEOUT (R359, R360): the deadline of a read has passed. -/
def completionTimeout (h t : Nat) (s : State) : State :=
  match s.tag h t with
  | none => s
  | some x =>
    if s.mono < x.deadline then s
    else
      let s1 := ((s.quarantineTag (tagKey h t)).report x.func .completionTimeout .nonFatal).bump (Ctr.HIF_CPL_TIMEOUT h) 1
      (s1.readBad x.use true).settleDrain x.func

/-- READ_COMPLETION_RX (R359 to R361): for an outstanding tag its data, possibly in parts, or an error; for a quarantined tag nothing but the tag's
release; for any other an Unexpected Completion. A completion at the deadline is too late and changes nothing: the timeout takes the tag. -/
def readCompletionRx (f t : Nat) (c : Cpl) (s : State) : State :=
  let h := f / 256
  match s.tag h t with
  | some x =>
    if x.func ≠ f then s.report f .unexpectedCompletion .nonFatal
    else if x.deadline ≤ s.mono then s
    else
      match c with
      | .data d =>
        let got := x.got ++ d
        if got.length < x.len then s.setTag (tagKey h t) { x with got := got }
        else (((s.setTag (tagKey h t) .none).readGood x.use (got.take x.len)).settleDrain f).pumpPort h
      | _ =>
        let s1 := s.setTag (tagKey h t) .none
        let s2 := if c = .poisoned then s1.report f .poisonedTlp .nonFatal else s1
        ((s2.readBad x.use false).settleDrain f).pumpPort h
  | none =>
    match lfind s.hif.quar.l (tagKey h t) with
    | some _ => ((s.setQuar (tagKey h t) 0).bump (Ctr.HIF_LATE_CPL h) 1).pumpPort h
    | none => s.report f .unexpectedCompletion .nonFatal

/-- TAG_QUARANTINE_EXPIRE (R361). -/
def tagQuarantineExpire (h t : Nat) (s : State) : State :=
  match lfind s.hif.quar.l (tagKey h t) with
  | some e => if e ≤ s.mono then (s.setQuar (tagKey h t) 0).pumpPort h else s
  | none => s

/-- RING_ERROR (R372): the outstanding descriptor fetch of a ring fails: by its deadline, or with an error completion. -/
def ringError (g : Nat) (timeout : Bool) (s : State) : State :=
  match s.hif.tags.l.find? (fun (_, x) => match x.use with | .descFetch y _ _ => y == g | _ => false) with
  | none => s
  | some (k, x) => if timeout then completionTimeout (k / 16384) (k % 16384) s else readCompletionRx x.func (k % 16384) .abort s

/-- COMPLETION_TIMEOUT. -/
def execCompletionTimeout (h : Fin 4) (tag : BitVec 14) (s : State) : Host.Outcome State Fault Refusal := answer s (completionTimeout h.val tag.toNat s)
/-- READ_COMPLETION_RX. -/
def execReadCompletionRx (f : Fin 1024) (tag : BitVec 14) (c : Cpl) (s : State) : Host.Outcome State Fault Refusal :=
  answer s (readCompletionRx f.val tag.toNat c s)
/-- TAG_QUARANTINE_EXPIRE. -/
def execTagQuarantineExpire (h : Fin 4) (tag : BitVec 14) (s : State) : Host.Outcome State Fault Refusal :=
  answer s (tagQuarantineExpire h.val tag.toNat s)
/-- PRODUCE: a doorbell with OP clear. -/
def execProduce (r : Req) (whole : Bool) (v : BitVec 64) (s : State) : Host.Outcome State Fault Refusal :=
  answer s (doorbell r whole (v &&& 0xFFFDFFFFFFFFFFFF) (s.ovlNote64 r Reg.RING_HDB_LO (v &&& 0xFFFDFFFFFFFFFFFF).toNat))
/-- CONSUME: a doorbell with OP set. -/
def execConsume (r : Req) (whole : Bool) (v : BitVec 64) (s : State) : Host.Outcome State Fault Refusal :=
  answer s (doorbell r whole (v ||| 0x0002000000000000) (s.ovlNote64 r Reg.RING_HDB_LO (v ||| 0x0002000000000000).toNat))
/-- START: a write of RING_CTRL with that command. -/
def execStart (r : Req) (g : BitVec 16) (v : Word) (s : State) : Host.Outcome State Fault Refusal :=
  answer s (ringCtrlWrite r g.toNat (Fld.RING_CTRL_CMD.put v 1) (s.ovlNote r (Reg.RING_CTRL g.toNat) (Fld.RING_CTRL_CMD.put v 1)))
/-- STOP. -/
def execStop (r : Req) (g : BitVec 16) (v : Word) (s : State) : Host.Outcome State Fault Refusal :=
  answer s (ringCtrlWrite r g.toNat (Fld.RING_CTRL_CMD.put v 2) (s.ovlNote r (Reg.RING_CTRL g.toNat) (Fld.RING_CTRL_CMD.put v 2)))
/-- RESET. -/
def execReset (r : Req) (g : BitVec 16) (v : Word) (s : State) : Host.Outcome State Fault Refusal :=
  answer s (ringCtrlWrite r g.toNat (Fld.RING_CTRL_CMD.put v 3) (s.ovlNote r (Reg.RING_CTRL g.toNat) (Fld.RING_CTRL_CMD.put v 3)))
/-- STOPPING_END. -/
def execStoppingEnd (g : BitVec 16) (s : State) : Host.Outcome State Fault Refusal := answer s (stoppingEnd g.toNat s)
/-- RING_SETUP_WRITE. -/
def execRingSetupWrite (r : Req) (g : BitVec 16) (q : RingReg) (v : Word) (s : State) : Host.Outcome State Fault Refusal :=
  answer s (ringSetupWrite r g.toNat q v (s.ovlNote r (ringReg g.toNat q) v))
/-- DESCRIPTOR_FETCH. -/
def execDescriptorFetch (g : BitVec 16) (n : BitVec 8) (s : State) : Host.Outcome State Fault Refusal := answer s (descriptorFetch g.toNat n.toNat s)
/-- RING_ERROR. -/
def execRingError (g : BitVec 16) (timeout : Bool) (s : State) : Host.Outcome State Fault Refusal := answer s (ringError g.toNat timeout s)
/-- INDEX_WORD_WRITE. -/
def execIndexWordWrite (g : BitVec 16) (s : State) : Host.Outcome State Fault Refusal := answer s (indexWordWrite g.toNat s)
/-- TX_FRAME_TAKE. -/
def execTxFrameTake (g : BitVec 16) (s : State) : Host.Outcome State Fault Refusal := answer s (txFrameTake g.toNat s)
/-- TX_FRAME_READ_DONE. -/
def execTxFrameReadDone (g : BitVec 16) (s : State) : Host.Outcome State Fault Refusal := answer s (txFrameReadDone g.toNat s)
/-- RX_FRAME_WRITE. -/
def execRxFrameWrite (g : BitVec 16) (s : State) : Host.Outcome State Fault Refusal := answer s (rxFrameWrite g.toNat s)
/-- RX_RING_WAIT_EXPIRE. -/
def execRxRingWaitExpire (queue : BitVec 19) (s : State) : Host.Outcome State Fault Refusal := answer s (rxRingWaitExpire queue.toNat s)
/-- PUNT_WRITE. -/
def execPuntWrite (g : BitVec 16) (s : State) : Host.Outcome State Fault Refusal := answer s (puntWrite g.toNat s)
/-- PUNT_DRY_EXPIRE. -/
def execPuntDryExpire (g : BitVec 16) (s : State) : Host.Outcome State Fault Refusal := answer s (puntDryExpire g.toNat s)

end Sys2Proof.Machine
end

