-- ==== Sys2Proof/Machine/Kvc.lean ====
section
/-! DEFINITION. The key vault: pages, slots, operations and the entropy source (R407 to R417, R419). -/

namespace Sys2Proof.Machine

/-! ### Pages and slots (R407 to R409) -/

/-- The operation of a page; page 64 is the boot controller's (R471). -/
def State.kvcOp (s : State) (p : Nat) : Option KvcOp := KMap.get none s.kvc.ops p
def State.setKvcOp (s : State) (p : Nat) (o : Option KvcOp) : State := { s with kvc := { s.kvc with ops := KMap.set none s.kvc.ops p o } }
def State.kvcKey (s : State) (i : Nat) : Nat := KMap.get 0 s.kvc.keys i
def State.setKvcKey (s : State) (i k : Nat) : State := { s with kvc := { s.kvc with keys := KMap.set 0 s.kvc.keys i k } }

/-- Whether a page is bound to a requester; page 0 belongs to the Cyclometer alone (R407, R408). -/
def State.kvcBound (s : State) (r : Req) (p : Nat) : Bool :=
  let w := s.reg (Reg.KVC_PAGE_BIND p)
  p != 0 && Fld.KVC_PAGE_BIND_VALID.get w == 1 && s.party r == Fld.KVC_PAGE_BIND_HART.get w * 1024 + Fld.KVC_PAGE_BIND_ID.get w

/-- An access outside a page's binding: ignored and counted; a hart takes an access fault (R408). -/
def State.kvcFault (s : State) (r : Req) (e : HartExc) (a : Nat) : State :=
  let s1 := s.bump Ctr.KVC_FAULT 1
  match r with
  | .func f => s1.bump (Ctr.HIF_VIEW_REFUSED (f.val / 256)) 1
  | .hart h => s1.emit (.trap h.val e (KMap.get .init s.harts h.val).pc a)

def State.slotLoaded (s : State) (i : Nat) : Bool := s.flag (Reg.KVC_SLOT_STATUS i) Fld.KVC_SLOT_STATUS_LOADED
def State.slotGen (s : State) (i : Nat) : Nat := s.fld (Reg.KVC_SLOT_STATUS i) Fld.KVC_SLOT_STATUS_GEN
def State.nextGen (s : State) (i : Nat) : State := s.setFld (Reg.KVC_SLOT_STATUS i) Fld.KVC_SLOT_STATUS_GEN ((s.slotGen i + 1) % 65536)

/-- Puts a key into a slot, or empties it. -/
def State.loadSlot (s : State) (i : Nat) (k : Option Nat) : State :=
  ((s.setKvcKey i (k.getD 0)).setFlag (Reg.KVC_SLOT_STATUS i) Fld.KVC_SLOT_STATUS_LOADED k.isSome).setFlag (Reg.KVC_SLOT_STATUS i)
    Fld.KVC_SLOT_STATUS_KLEN ((k.getD 0).testBit 256)

/-- Whether the Cyclometer is present and sealed (R1, R437). -/
def State.sealed (s : State) : Bool := s.metered && s.flag Reg.CYC_STATUS Fld.CYC_STATUS_SEALED

/-- A write of a field that the seal refuses (R12, R437). -/
def State.sealRefused (s : State) : State := s.bump Ctr.CYC_REFUSED 1

/-- KVC_SLOT_CFG_WRITE (R409, R471): refused unless the slot is empty; the slots of page 0 are sealed; 0xFC and 0xFD are the boot controller's. -/
def kvcSlotCfgWrite (i : Nat) (v : Word) (s : State) : State :=
  let a := Reg.KVC_SLOT_CFG i
  if i = 0xFC ∨ i = 0xFD ∨ s.slotLoaded i then s
  else if s.fld a Fld.KVC_SLOT_CFG_OWNER = 0 ∧ s.sealed then s.sealRefused
  else s.setReg a (v &&& 0xE0003F3F)

/-! ### Status codes (R413) -/

def kcOk : Nat := 0
def kcErased : Nat := 1
def kcEmpty : Nat := 2
def kcUsage : Nat := 3
def kcUnwrap : Nat := 4
def kcAborted : Nat := 5
def kcEntropy : Nat := 6
def kcInvalid : Nat := 7
def kcNotOwner : Nat := 8

/-- The 128 bits of DOUT. -/
def State.setDout (s : State) (p v : Nat) : State :=
  (List.range 4).foldl (fun s i => s.setReg (Reg.KVC_DOUT p i) (BitVec.ofNat 32 (v >>> (32 * (3 - i))))) s

/-- `n` register words from the first on, the first being the most significant. -/
def State.beWords (s : State) (f : Nat → Nat) (n : Nat) : Nat := (List.range n).foldl (fun a i => a * 2 ^ 32 + (s.reg (f i)).toNat) 0

/-- An operation ends with a status; `dout` is what DOUT becomes, if it changes (R413). The boot controller's page has no registers. -/
def State.kvcEnd (s : State) (p code gen : Nat) (dout : Option Nat) : State :=
  let s1 := (s.setKvcOp p none).bump Ctr.KVC_OPS 1
  if 64 ≤ p then s1
  else
    let a := Reg.KVC_STATUS p
    let s2 := ((s1.setFlag a Fld.KVC_STATUS_BUSY false).setFld a Fld.KVC_STATUS_CODE code).setFld a Fld.KVC_STATUS_GEN gen
    match dout with
    | some d => s2.setDout p d
    | none => s2

def kvcOpCode (w : Word) : Nat := Fld.KVC_CMD_OP.get w
def kvcSlot (w : Word) : Nat := Fld.KVC_CMD_SLOT.get w

/-! ### Starting and ending (R410 to R414) -/

/-- The single and the multi mode of R412: multi until BOOT_CONFIRM and in Kickstand mode; the mode changes only while no operation runs. -/
def State.kvcMode (s : State) : State :=
  if s.kvc.ops.l.any (fun (_, o) => match o with | some x => x.running | none => false) then s
  else s.setFlag Reg.KVC_CFG Fld.KVC_CFG_MODE (s.kickstand || s.fld Reg.BOOT_STATUS Fld.BOOT_STATUS_STATE != 7)

def State.kvcCores (s : State) : Nat := if s.flag Reg.KVC_CFG Fld.KVC_CFG_MODE then 8 else 1
def State.kvcRunning (s : State) : Nat :=
  (s.kvc.ops.l.filter (fun (_, o) => match o with | some x => x.running | none => false)).length

/-- Whether a page owns a slot; every slot is the boot controller's to use. -/
def State.ownsSlot (s : State) (p i : Nat) : Bool := p == 64 || (i != 0xFC && i != 0xFD && s.fld (Reg.KVC_SLOT_CFG i) Fld.KVC_SLOT_CFG_OWNER == p)
def State.usesSlot (s : State) (p i : Nat) : Bool := s.ownsSlot p i || (i != 0xFC && i != 0xFD && s.fld (Reg.KVC_SLOT_CFG i) Fld.KVC_SLOT_CFG_USER == p)

/-- What the checks of R409 to R411 find for an operation: OK, or the status with which it ends. -/
def State.kvcCheck (s : State) (p : Nat) (cmd arg : Word) : Nat :=
  let i := kvcSlot cmd
  let cfg := s.reg (Reg.KVC_SLOT_CFG i)
  let boot := p == 64
  let index := Fld.KVC_ARG_INDEX.get arg
  if cmd.toNat / 2 ^ 8 % 2 ^ 20 ≠ 0 then kcInvalid
  else
    match kvcOpCode cmd with
    | 0x1 | 0x2 =>
      if !s.usesSlot p i then kcNotOwner
      else if !boot && (Fld.KVC_SLOT_CFG_DATA.get cfg != 1 || Fld.KVC_SLOT_CFG_KEK.get cfg == 1) then kcUsage
      else if !s.slotLoaded i then kcEmpty
      else kcOk
    | 0x3 =>
      if 256 ≤ index then kcInvalid
      else if !s.ownsSlot p i || !s.ownsSlot p index then kcNotOwner
      else if !boot && s.fld (Reg.KVC_SLOT_CFG index) Fld.KVC_SLOT_CFG_KEK != 1 then kcUsage
      else if !s.slotLoaded index then kcEmpty
      else kcOk
    | 0x4 => if s.ownsSlot p i then kcOk else kcNotOwner
    | 0x5 =>
      if !s.ownsSlot p i then kcNotOwner
      else if !boot && (Fld.KVC_SLOT_CFG_ICR.get cfg != 1 || Fld.KVC_SLOT_CFG_KEK.get cfg == 1) then kcUsage
      else if !s.slotLoaded i then kcEmpty
      else kcOk
    | _ => kcInvalid

/-- KVC_OPERATION_START (R410, R412, R414): the pending operation of the lowest page captures its inputs, if a core is free. -/
def kvcOperationStart (s : State) : State :=
  if s.kvcCores ≤ s.kvcRunning ∨ !s.flag Reg.KVC_CFG Fld.KVC_CFG_ENTROPY_OK then s
  else
    match s.kvc.ops.l.find? (fun (_, o) => match o with | some x => !x.running | none => false) with
    | some (p, some o) =>
      let arg := if 64 ≤ p then o.arg else s.reg (Reg.KVC_ARG p)
      let i := kvcSlot o.cmd
      let code := s.kvcCheck p o.cmd arg
      let din := if 64 ≤ p then o.din else s.beWords (Reg.KVC_DIN p) 8
      let kcv := if 64 ≤ p then o.kcv else s.beWords (Reg.KVC_KCV p) 2
      s.setKvcOp p (some { o with running := true, code := code, arg := arg, gen := s.slotGen i, key := s.kvcKey i,
                                  kek := s.kvcKey (Fld.KVC_ARG_INDEX.get arg % 256), din := din, kcv := kcv })
    | _ => s

/-- Unwraps a key: one or two blocks decrypted with the KEK, in the form of Aes.lean (R411). -/
def unwrapKey (o : KvcOp) : Nat :=
  let k0 := aesDec o.kek (o.din / 2 ^ 128)
  if Fld.KVC_ARG_KLEN.get o.arg = 1 then 2 ^ 256 + k0 * 2 ^ 128 + aesDec o.kek (o.din % 2 ^ 128) else k0 * 2 ^ 128

/-- KVC_OPERATION_END (R410, R411, R413): a running operation ends. -/
def kvcOperationEnd (p : Nat) (s : State) : State :=
  match s.kvcOp p with
  | none => s
  | some o =>
    if !o.running then s
    else
      let i := kvcSlot o.cmd
      let index := Fld.KVC_ARG_INDEX.get o.arg
      let s1 :=
        if o.code ≠ kcOk then s.kvcEnd p o.code o.gen none
        else
          match kvcOpCode o.cmd with
          | 0x1 => s.kvcEnd p kcOk o.gen (some (aesEnc o.key (o.din / 2 ^ 128)))
          | 0x2 => s.kvcEnd p kcOk o.gen (some (aesDec o.key (o.din / 2 ^ 128)))
          | 0x3 =>
            let k := unwrapKey o
            if aesEnc k 0 / 2 ^ 64 = o.kcv then ((s.loadSlot i (some k)).nextGen i).kvcEnd p kcOk o.gen none
            else (((s.loadSlot i none).nextGen i).kvcEnd p kcUnwrap o.gen none).bump Ctr.KVC_UNWRAP_FAIL 1
          | _ =>
            let n := saIdx (Fld.KVC_ARG_DIR.get o.arg == 1) index
            (s.setSa n { s.sa n with key := o.key, keyGen := o.gen }).kvcEnd p kcOk o.gen none
      s1.kvcMode

/-- Ends every operation that a test names, with a status and a zero DOUT. -/
def State.kvcAbort (s : State) (code : Nat) (f : Nat → KvcOp → Bool) : State :=
  s.kvc.ops.l.foldl (fun s (p, o) => match o with
    | some x => if f p x then (s.kvcEnd p code (s.slotGen (kvcSlot x.cmd)) (some 0)) else s
    | none => s) s

/-- Whether an operation uses a slot, as its own or as its KEK (R415). -/
def State.kvcUses (s : State) (i p : Nat) (o : KvcOp) : Bool :=
  let arg := if o.running ∨ 64 ≤ p then o.arg else s.reg (Reg.KVC_ARG p)
  kvcSlot o.cmd == i || (kvcOpCode o.cmd == 3 && Fld.KVC_ARG_INDEX.get arg % 256 == i)

/-- Zeroises a slot and aborts what uses it (R415). -/
def State.eraseSlot (s : State) (i : Nat) : State := ((s.loadSlot i none).nextGen i).kvcAbort kcErased (s.kvcUses i)

/-- Queues an operation of a page, or carries out an ERASE at once; while the entropy source fails, commands are refused (R410, R415, R416). -/
def State.kvcCommand (s : State) (p : Nat) (v : Word) : State :=
  let a := Reg.KVC_STATUS p
  if s.flag a Fld.KVC_STATUS_BUSY then s.setFlag a Fld.KVC_STATUS_REFUSED true
  else if !s.flag Reg.KVC_CFG Fld.KVC_CFG_ENTROPY_OK then s.setFld a Fld.KVC_STATUS_CODE kcEntropy
  else if kvcOpCode v = 0x4 then
    let code := s.kvcCheck p v 0
    let gen := s.slotGen (kvcSlot v)
    (if code = kcOk then s.eraseSlot (kvcSlot v) else s).kvcEnd p code gen none
  else
    (s.setKvcOp p (some { cmd := v, running := false, code := 0, arg := 0, gen := 0, key := 0, kek := 0, din := 0, kcv := 0 })).setFlag a
      Fld.KVC_STATUS_BUSY true

/-- A write of KVC_CMD by a requester (R408, R410). -/
def kvcCmdWrite (r : Req) (p : Nat) (v : Word) (s : State) : State :=
  if s.reqBlocked r then s.viewRefused r
  else if s.kvcBound r p then s.kvcCommand p v else s.kvcFault r .storeFault (Reg.KVC_CMD p)

/-- KVC_ENTROPY_FAIL (R416). -/
def kvcEntropyFail (s : State) : State :=
  let s1 := (s.setFlag Reg.KVC_CFG Fld.KVC_CFG_ENTROPY_OK false).kvcAbort kcEntropy (fun _ _ => true)
  s1.ownerEvent 0x0A02 1 63 (Config.eventLoc 0x0A02 0).toNat []

/-- ENTROPY_RECOVER (R416). -/
def entropyRecover (s : State) : State := s.setFlag Reg.KVC_CFG Fld.KVC_CFG_ENTROPY_OK true

/-- ENC. -/
def execEnc (r : Req) (p : Fin 64) (v : Word) (s : State) : Host.Outcome State Fault Refusal := answer s (kvcCmdWrite r p.val (Fld.KVC_CMD_OP.put v 1) (s.ovlNote r (Reg.KVC_CMD p.val) (Fld.KVC_CMD_OP.put v 1)))
/-- DEC. -/
def execDec (r : Req) (p : Fin 64) (v : Word) (s : State) : Host.Outcome State Fault Refusal := answer s (kvcCmdWrite r p.val (Fld.KVC_CMD_OP.put v 2) (s.ovlNote r (Reg.KVC_CMD p.val) (Fld.KVC_CMD_OP.put v 2)))
/-- UNWRAP. -/
def execUnwrap (r : Req) (p : Fin 64) (v : Word) (s : State) : Host.Outcome State Fault Refusal :=
  answer s (kvcCmdWrite r p.val (Fld.KVC_CMD_OP.put v 3) (s.ovlNote r (Reg.KVC_CMD p.val) (Fld.KVC_CMD_OP.put v 3)))
/-- ERASE. -/
def execErase (r : Req) (p : Fin 64) (v : Word) (s : State) : Host.Outcome State Fault Refusal := answer s (kvcCmdWrite r p.val (Fld.KVC_CMD_OP.put v 4) (s.ovlNote r (Reg.KVC_CMD p.val) (Fld.KVC_CMD_OP.put v 4)))
/-- LOAD_ICR. -/
def execLoadIcr (r : Req) (p : Fin 64) (v : Word) (s : State) : Host.Outcome State Fault Refusal :=
  answer s (kvcCmdWrite r p.val (Fld.KVC_CMD_OP.put v 5) (s.ovlNote r (Reg.KVC_CMD p.val) (Fld.KVC_CMD_OP.put v 5)))
/-- KVC_OPERATION_START. -/
def execKvcOperationStart (s : State) : Host.Outcome State Fault Refusal := answer s (kvcOperationStart s)
/-- KVC_OPERATION_END: of a page, or of the boot controller, 64. -/
def execKvcOperationEnd (p : Fin 65) (s : State) : Host.Outcome State Fault Refusal := answer s (kvcOperationEnd p.val s)
/-- KVC_ENTROPY_FAIL. -/
def execKvcEntropyFail (s : State) : Host.Outcome State Fault Refusal := answer s (kvcEntropyFail s)
/-- ENTROPY_RECOVER. -/
def execEntropyRecover (s : State) : Host.Outcome State Fault Refusal := answer s (entropyRecover s)
/-- KVC_SLOT_CFG_WRITE. -/
def execKvcSlotCfgWrite (i : Fin 256) (v : Word) (s : State) : Host.Outcome State Fault Refusal := answer s (kvcSlotCfgWrite i.val v s)

end Sys2Proof.Machine
end

