-- ==== Sys2Proof/Machine/Epoch.lean ====
section
/-! DEFINITION. Epoch turns of the ingress and the egress side (R137, R149 to R154, R381, R382). -/

namespace Sys2Proof.Machine

/-- DRAM_WAIT (R137): a write of FWH_CFG; lowering D by w cycles suspends admission for w cycles. -/
def dramWait (i : Nat) (v : Word) (s : State) : State :=
  let a := Reg.FWH_CFG i
  let old := s.fld a Fld.FWH_CFG_DRAM_WAIT
  let s1 := s.setReg a (v &&& 0x3FF)
  let w := old - s1.fld a Fld.FWH_CFG_DRAM_WAIT
  if w = 0 then s1 else { s1 with ing := { s1.ing with hold := KMap.set 0 s1.ing.hold i (s1.time.cycles + w) } }

/-- A turn-complete entry (R382). -/
def turnCpl (status side tag epoch drain : Nat) : List Byte :=
  beBytes 1 0x31 ++ beBytes 1 status ++ beBytes 1 side ++ [0] ++ beBytes 4 tag ++ beBytes 4 epoch ++ beBytes 4 (min drain 0xFFFFFFFF)

/-- Requests a turn of a side (R151). -/
def State.requestTurn (s : State) (egress : Bool) : State :=
  if egress then s.setFlag Reg.FWH_EEPOCH_STATUS Fld.FWH_EEPOCH_STATUS_TURN_PENDING true
  else s.setFlag Reg.FWH_EPOCH_STATUS Fld.FWH_EPOCH_STATUS_TURN_PENDING true

/-- CLOSE (R152, R222): a write of FWH_TURN with CLOSE closes the firmware's batches and requests an ingress turn. -/
def close (s : State) : State := ((s.closeBatch fwBatch).aclClose).requestTurn false

/-- FWH_ETURN (R152, R154): an egress turn is requested; egress entries are written in place, so that the egress batch carries nothing else. -/
def fwhEturn (s : State) : State := s.requestTurn true

/-- Adds a ring to those that wait for a side's next turn. -/
def State.joinTurn (s : State) (g tag side : Nat) : State :=
  if side = 0 then { s with turnIn := { s.turnIn with wait := s.turnIn.wait ++ [(g, tag)] } }
  else { s with turnOut := { s.turnOut with wait := s.turnOut.wait ++ [(g, tag)] } }

/-- TURN (R152, R381, R382): the control entry closes the ring's batch for its side and requests a turn; the ring waits for it. An entry with a
byte that must be zero completes with INVALID and does nothing else. -/
def turn (g : Nat) (s : State) : State :=
  match s.updHead g (· == 0xF0) (fun _ => false) with
  | none => s
  | some d =>
    let s1 := s.takeDesc g
    if 1 < uFlags d ∨ beAt d 2 2 ≠ 0 ∨ beAt d 8 24 ≠ 0 then s1.updDone g usInvalid d 0
    else
      let side := uFlags d
      let s2 := if side = 0 then s1.closeBatch g else s1
      let s3 := ((s2.requestTurn (side == 1)).joinTurn g (uTag d) side).setRingState g rsTurnWait
      s3.setRing g { s3.ring g with turns := (s3.ring g).turns ++ [⟨uTag d, side⟩] }

/-- The rings that waited for a turn go on: to RUNNING, or they stay PAUSED (R369, R370). -/
def State.turnRings (s : State) (l : List (Nat × Nat)) : State :=
  l.foldl (fun s (g, _) =>
    let s1 := s.setRing g { s.ring g with turnOut := false }
    if s1.ringState g = rsTurnWait then s1.setRingState g rsRunning else s1) s

/-- Writes the turn-complete entries of rings whose batches a turn published, unless a RESET has dropped them (R153, R371). -/
def State.turnEntries (s : State) (side status epoch drain : Nat) (l : List (Nat × Nat)) : State :=
  l.foldl (fun s (g, tag) =>
    let r := s.ring g
    if (⟨tag, side⟩ : TurnWait) ∈ r.turns then
      (s.setRing g { r with turns := r.turns.erase ⟨tag, side⟩ }).writeCpl g (turnCpl status side tag epoch drain)
    else s) s

/-- EPOCH_TURN (R150, R151, R192, R222): a pending ingress turn publishes every closed batch as the next epoch, once no previous epoch is live and
no ACL batch is being applied. -/
def epochTurn (s : State) : State :=
  if !s.flag Reg.FWH_EPOCH_STATUS Fld.FWH_EPOCH_STATUS_TURN_PENDING || s.prevLive || !s.fdieUp || s.acl.phase == .closed || s.acl.phase == .published
    then s
  else
    let e := s.nextEpoch
    let s1 := ((s.unfreezePublished.publish e).aclPublish).setReg Reg.FWH_EPOCH_CUR (BitVec.ofNat 32 e)
    let s2 := (s1.setFlag Reg.FWH_EPOCH_STATUS Fld.FWH_EPOCH_STATUS_TURN_PENDING false).setFlag Reg.FWH_EPOCH_STATUS
      Fld.FWH_EPOCH_STATUS_PREV_LIVE true
    let s3 := s2.turnRings s2.turnIn.wait
    { s3 with turnIn := { wait := [], done := s3.turnIn.wait, at_ := s3.time.cycles } }

/-- DRAIN_END (R150, R153): the previous ingress epoch has no packet in flight: what only it referenced is freed, and the turn-complete entries are
written. -/
def drainEnd (s : State) : State :=
  if !s.prevLive || s.inFlight (prevOf s.epoch) != 0 then s
  else
    let drain := s.time.cycles - s.turnIn.at_
    let s1 := (s.setFlag Reg.FWH_EPOCH_STATUS Fld.FWH_EPOCH_STATUS_PREV_LIVE false).exmReap
    let s2 := s1.setFld Reg.FWH_DRAIN_MAX Fld.FWH_DRAIN_MAX_CYCLES (max (s1.fld Reg.FWH_DRAIN_MAX Fld.FWH_DRAIN_MAX_CYCLES) (min drain 0xFFFF))
    let s3 := s2.turnEntries 0 0 s2.epoch drain s2.turnIn.done
    { s3 with turnIn := { s3.turnIn with done := [] } }

def State.egEpoch (s : State) : Nat := (s.reg Reg.FWH_EEPOCH_CUR).toNat
def State.egPrevLive (s : State) : Bool := s.flag Reg.FWH_EEPOCH_STATUS Fld.FWH_EEPOCH_STATUS_PREV_LIVE

/-- EGRESS_EPOCH_TURN (R154). -/
def egressEpochTurn (s : State) : State :=
  if !s.flag Reg.FWH_EEPOCH_STATUS Fld.FWH_EEPOCH_STATUS_TURN_PENDING || s.egPrevLive || !s.fdieUp then s
  else
    let s1 := s.setReg Reg.FWH_EEPOCH_CUR (BitVec.ofNat 32 (s.egEpoch + 1))
    let s2 := (s1.setFlag Reg.FWH_EEPOCH_STATUS Fld.FWH_EEPOCH_STATUS_TURN_PENDING false).setFlag Reg.FWH_EEPOCH_STATUS
      Fld.FWH_EEPOCH_STATUS_PREV_LIVE true
    let s3 := s2.turnRings s2.turnOut.wait
    { s3 with turnOut := { wait := [], done := s3.turnOut.wait, at_ := s3.time.cycles } }

/-- EGRESS_DRAIN_END (R154). -/
def egressDrainEnd (s : State) : State :=
  if !s.egPrevLive || s.egInFlight (prevOf s.egEpoch) != 0 then s
  else
    let drain := s.time.cycles - s.turnOut.at_
    let s1 := s.setFlag Reg.FWH_EEPOCH_STATUS Fld.FWH_EEPOCH_STATUS_PREV_LIVE false
    let s2 := s1.setFld Reg.FWH_EDRAIN_MAX Fld.FWH_EDRAIN_MAX_CYCLES (max (s1.fld Reg.FWH_EDRAIN_MAX Fld.FWH_EDRAIN_MAX_CYCLES) (min drain 0xFFFF))
    let s3 := s2.turnEntries 1 0 s2.egEpoch drain s2.turnOut.done
    { s3 with turnOut := { s3.turnOut with done := [] } }

/-- DRAM_WAIT. -/
def execDramWait (i : Fin 16) (v : Word) (s : State) : Host.Outcome State Fault Refusal := answer s (onF (dramWait i.val v) s)
/-- CLOSE. -/
def execClose (s : State) : Host.Outcome State Fault Refusal := answer s (onF close s)
/-- FWH_ETURN. -/
def execFwhEturn (s : State) : Host.Outcome State Fault Refusal := answer s (onF fwhEturn s)
/-- TURN. -/
def execTurn (g : BitVec 16) (s : State) : Host.Outcome State Fault Refusal := answer s (turn g.toNat s)
/-- EPOCH_TURN. -/
def execEpochTurn (s : State) : Host.Outcome State Fault Refusal := answer s (epochTurn s)
/-- DRAIN_END. -/
def execDrainEnd (s : State) : Host.Outcome State Fault Refusal := answer s (drainEnd s)
/-- EGRESS_EPOCH_TURN. -/
def execEgressEpochTurn (s : State) : Host.Outcome State Fault Refusal := answer s (egressEpochTurn s)
/-- EGRESS_DRAIN_END. -/
def execEgressDrainEnd (s : State) : Host.Outcome State Fault Refusal := answer s (egressDrainEnd s)

end Sys2Proof.Machine
end

