-- ==== Sys2Proof/Machine/Shadow.lean ====
section
/-! DEFINITION. Shadow compares (R204 to R208, R233, R385). -/

namespace Sys2Proof.Machine

/-- The size of a shadow entry of each table (R206, R233). -/
def shadowSize (table : Nat) : Nat := match table with | 1 => 16 | 4 => 128 | 5 => 64 | _ => 32

/-- The entries of a table that has indices; tables by key or prefix have none. -/
def shadowLimit (table : Nat) : Option Nat := match table with | 1 => some 1048576 | 4 => some 32768 | 5 => some 131072 | _ => none

/-- The words in which two values differ, from a word number on: the device's value of each. -/
def diffWords (n first dev sh : Nat) (words : List Nat) : List (Nat × Nat) :=
  words.filterMap (fun w =>
    let d := dev / 2 ^ (32 * w) % 2 ^ 32
    if w < n ∧ d ≠ sh / 2 ^ (32 * w) % 2 ^ 32 then some (first + w, d) else none)

/-- Shadow words, the first of `n` being word 0 of the value. -/
def shadowWords (b : List Byte) (o n : Nat) : Nat := (List.range n).foldl (fun a i => a + beAt b (o + 4 * i) 4 * 2 ^ (32 * i)) 0

/-- The mismatches of one entry of an ACL copy. -/
def State.aclDiff (s : State) (slice i : Nat) (b : List Byte) : List (Nat × Nat) :=
  if i % s.bankWidth (i / 4096) ≠ 0 then []
  else
    let r := s.aclRow i
    let dev := r.plane s.epoch && s.aclValid slice i
    let sh := beAt b 0 4 == 1
    if dev != sh then [(0, dev.toNat)]
    else if !dev then []
    else
      let w := List.range 10
      diffWords 10 1 r.key (shadowWords b 4 10) w ++ diffWords 10 11 r.mask (shadowWords b 44 10) w ++
        diffWords 2 21 r.act (beAt b 84 8) [0, 1]

/-- The mismatches of one entry: word numbers with the device's values; presence is word 0 where the table has such a word (R206, R233). -/
def State.entryDiff (s : State) (table slice i : Nat) (b : List Byte) : List (Nat × Nat) :=
  match table with
  | 1 => diffWords 4 0 (s.egt i).toNat (beAt b 0 16) [0, 1, 2, 3]
  | 2 =>
    let k : ExmKey := ⟨beAt b 0 1, beAt b 2 2, beAt b 16 16⟩
    match (s.exmHit s.epoch k).bind s.slot with
    | none => [(0, 0)]
    | some e =>
      (if e.isStatic == (beAt b 1 1).testBit 7 then [] else [(1, e.isStatic.toNat)]) ++
        (if e.result.toNat = beAt b 4 4 then [] else [(2, e.result.toNat)])
  | 3 =>
    let v6 := uFlags b % 2 == 1
    let len := uSub b
    let pfx := if v6 then uData b else uData b >>> 96
    let res : Option Word :=
      if v6 ∧ len = 128 then s.exmResult s.epoch (hostKey (uTable b) pfx)
      else ((s.visRoutes s.epoch v6 (uTable b)).find? (fun r => r.len == len && r.pfx == pfx)).map (·.result)
    match res with
    | none => [(0, 0)]
    | some w => if w = uResult b then [] else [(2, w.toNat)]
  | 4 => s.aclDiff slice i b
  | _ =>
    let r := s.patRow i
    let dev := r.used && r.valid
    let sh := beAt b 0 4 == 1
    if dev != sh then [(0, dev.toNat)]
    else if !dev then []
    else
      diffWords 3 1 r.key (shadowWords b 4 3) [0, 1, 2] ++ diffWords 3 4 r.mask (shadowWords b 16 3) [0, 1, 2] ++
        (if r.res / 2 ^ 16 = beAt b 28 4 then [] else [(7, r.res / 2 ^ 16)]) ++
        (if r.res % 2 ^ 16 * 2 ^ 16 = beAt b 32 4 then [] else [(8, r.res % 2 ^ 16 * 2 ^ 16)])

def State.shadowJob (s : State) (g : Nat) : Option ShadowJob := (s.ring g).shadow
def State.setShadow (s : State) (g : Nat) (j : Option ShadowJob) : State := s.setRing g { s.ring g with shadow := j }

/-- Counts mismatches of an entry and reports those that MAX_REPORT allows (R207). -/
def State.reportDiffs (s : State) (g : Nat) (j : ShadowJob) (slice i : Nat) : List (Nat × Nat) → ShadowJob × State
  | [] => (j, s)
  | (w, v) :: rest =>
    let s1 := if j.found < j.maxReport then
        s.writeCpl g (beBytes 1 0x01 ++ beBytes 1 w ++ beBytes 2 slice ++ beBytes 4 j.tag ++ beBytes 4 i ++ beBytes 4 v)
      else s
    s1.reportDiffs g { j with found := j.found + 1 } slice i rest

/-- Compares one entry, in one slice's copy or in all of them. -/
def State.compareEntry (s : State) (g : Nat) (j : ShadowJob) (b : List Byte) : ShadowJob × State :=
  let slices := if j.table = 4 ∧ j.slice = 0xFFFF then List.range 16 else [j.slice]
  slices.foldl (fun (x : ShadowJob × State) i => x.2.reportDiffs g x.1 i j.next (x.2.entryDiff j.table i j.next b)) (j, s)

/-- Compares the whole entries that have arrived. -/
def State.compareAll (s : State) (g : Nat) : Nat → ShadowJob → ShadowJob × State
  | 0, j => (j, s)
  | fuel + 1, j =>
    let n := shadowSize j.table
    if j.left = 0 ∨ j.got.length < n then (j, s)
    else
      let (j1, s1) := s.compareEntry g j (j.got.take n)
      s1.compareAll g fuel { j1 with next := j1.next + 1, left := j1.left - 1, got := j1.got.drop n }

/-- Issues the next read of a compare (R207). -/
def State.shadowRead (s : State) (g : Nat) : State :=
  match s.shadowJob g with
  | none => s
  | some j =>
    if j.reading ∨ j.failed ∨ j.left = 0 then s
    else
      let n := shadowSize j.table
      let a := j.addr + n * j.next + j.got.length
      let m := s.ringReadMax g
      let len := min (j.left * n - j.got.length) (m - a % m)
      match s.ringFn g with
      | none => s.setShadow g (some { j with got := j.got ++ s.ramBytes a len })
      | some f =>
        match s.issueRead f (.shadow g) a len with
        | some s1 => s1.setShadow g (some { j with reading := true })
        | none => s

/-- DONE: the slots not used are released, and the entry is written (R207, R208). -/
def State.shadowDone (s : State) (g : Nat) (j : ShadowJob) (status : Nat) : State :=
  let spare := j.maxReport - min j.found j.maxReport
  let s1 := s.setRing g { s.ring g with shadow := none, reserved := (s.ring g).reserved - spare }
  s1.writeCpl g (beBytes 1 0x02 ++ beBytes 1 status ++ beBytes 2 j.slice ++ beBytes 4 j.tag ++ beBytes 4 j.found ++ beBytes 4 s1.epoch)

/-- Whether the fields of a descriptor are within their ranges (R205). -/
def shadowOk (d : List Byte) : Bool :=
  let t := beAt d 0 1
  let sl := beAt d 2 2
  let n := beAt d 12 4
  decide (1 ≤ t) && decide (t ≤ 5) && (if t = 4 then decide (sl < 16) || sl == 0xFFFF else sl == 0) && decide (1 ≤ n) && decide (n ≤ 2 ^ 24) &&
    beAt d 16 8 % 64 == 0 && beAt d 24 8 == 0 && (match shadowLimit t with | some l => decide (beAt d 8 4 + n ≤ l) | none => true)

/-- SHADOW_COMPARE (R205, R207, R385): the descriptor is taken once its completion slots can be reserved; one that can never have them, or has a
field out of range, compares nothing. -/
def shadowCompare (g : Nat) (s : State) : State :=
  if s.ringKind g ≠ rkShadow ∨ (s.ring g).shadow.isSome then s
  else
    match s.headDesc g with
    | none => s
    | some d =>
      let need := beAt d 1 1 + 1
      let never := decide (s.ringSlots g < need)
      if !never && decide (s.freeSlots g < need) then s
      else
        let j : ShadowJob :=
          { table := beAt d 0 1, maxReport := if never then 0 else need - 1, slice := beAt d 2 2, tag := beAt d 4 4, next := beAt d 8 4,
            left := beAt d 12 4, addr := beAt d 16 8, epoch := s.epoch, found := 0, got := [], reading := false, failed := false }
        let s1 := s.takeDesc g
        let s2 := s1.setRing g { s1.ring g with reserved := (s1.ring g).reserved + j.maxReport, shadow := some j }
        if never || !shadowOk d then s2.shadowDone g j 0x04 else s2.shadowRead g

/-- SHADOW_READ_RETURN (R206 to R208): the entries that have arrived are compared; the compare ends after its last entry, or at a read that
failed. -/
def shadowReadReturn (g : Nat) (s : State) : State :=
  match s.shadowJob g with
  | none => s
  | some j =>
    let (j1, s1) := s.compareAll g (j.got.length / 16) j
    let s2 := s1.setShadow g (some j1)
    if j1.failed then s2.shadowDone g j1 0x03
    else if j1.left = 0 then s2.shadowDone g j1 (if s2.epoch ≠ j1.epoch then 0x01 else if j1.maxReport < j1.found then 0x02 else 0x00)
    else s2.shadowRead g

/-- SHADOW_COMPARE. -/
def execShadowCompare (g : BitVec 16) (s : State) : Host.Outcome State Fault Refusal := answer s (shadowCompare g.toNat s)
/-- SHADOW_READ_RETURN. -/
def execShadowReadReturn (g : BitVec 16) (s : State) : Host.Outcome State Fault Refusal := answer s (shadowReadReturn g.toNat s)

end Sys2Proof.Machine
end

