-- ==== Sys2Proof/Machine/Func.lean ====
section
/-! DEFINITION. Bus Master Enable, Function Level Reset and the resets of a host port (R341, R342, R357, R358, R370). -/

namespace Sys2Proof.Machine

/-- The rings that a party owns, of those ever set up. -/
def State.ringsOf (s : State) (p : Nat) : List Nat := s.ringsUsed.filter (fun g => s.ringOwner g == p)

/-- A ring's owner loses Bus Master Enable (R357, R370): a running ring pauses, a stopping one stops. -/
def State.pauseRing (s : State) (g : Nat) : State :=
  let st := s.ringState g
  if st = rsStopping then s.cutRing g
  else if st = rsRunning ∨ st = rsTurnWait then
    let s1 := (s.setRingState g rsPaused).dropFetch g
    let r := s1.ring g
    let tx := r.tx.map (fun x => if x.have_ < x.need ∧ x.status = 0 then { x with reread := true, data := .empty } else x)
    let rx := r.rx.map (fun x =>
      if x.punt.isSome then { x with dry := match x.dry with | some d => some d | none => if x.rest.isEmpty then none else some s.mono }
      else { x with cut := true, descs := [] })
    let s2 := s1.setRing g { r with pre := [], tx := tx, todo := [], rx := rx, reserved := r.reserved - r.heldDescs, turnOut := st == rsTurnWait }
    let s3 := s2.staleReads (fun u => match u with | .shadow x => x == g | _ => false)
    s3.modShadow g (fun j => if j.reading ∨ 0 < j.left then { j with failed := true, reading := false } else j)
  else s

/-- Clears Bus Master Enable of a function: its rings pause, and it is quiesced once its last read has completed or timed out (R357). -/
def State.dropBme (s : State) (f : Nat) : State :=
  if !(s.fn f).bme then s
  else
    let s1 := s.setFn f { s.fn f with bme := false, draining := true }
    ((s1.ringsOf f).foldl (fun s g => s.pauseRing g) s1).settleDrain f

def State.flrBusy (s : State) (f : Nat) : Bool := s.flag (Reg.HIF_FUNC_STATUS (f / 256) (f % 256)) Fld.HIF_FUNC_STATUS_FLR_BUSY

/-- BME_CLEAR (R357, R358). -/
def bmeClear (f : Nat) (s : State) : State := if s.flrBusy f then s.emit (.crs f) else s.dropBme f

/-- The VFs of a port. -/
def vfsOf (f : Nat) : List Nat := (List.range 255).map (fun i => f / 256 * 256 + i + 1)

/-- A function is no longer presented by its port: it holds Bus Master Enable and MSI-X Enable clear (R343). -/
def State.withdraw (s : State) (f : Nat) : State :=
  let s1 := s.dropBme f
  if (s1.fn f).msixEn then s1.setFn f { s1.fn f with msixEn := false } else s1

/-- BME_SET (R343, R357, R358): the host leaves a function's configuration space so, with Bus Master Enable set; QUIESCED clears and no ring
restarts. A function that its port does not present is not reached. Clearing VF Enable takes the port's VFs away. -/
def bmeSet (f : Nat) (c : FnCfg) (s : State) : State :=
  if s.flrBusy f then s.emit (.crs f)
  else if !s.presented f then s
  else
    let pf := f % 256 = 0
    let vf := pf && c.vfEnable && s.totalVfs (f / 256) != 0
    let s1 := if (s.fn f).vfEnable && !vf then (vfsOf f).foldl (fun s x => s.withdraw x) s else s
    let s2 := s1.setFn f { s1.fn f with bme := true, draining := false, msixEn := c.msixEn, relaxed := c.relaxed, ctoValue := c.cto.toNat,
                                        vfEnable := vf, bar0 := c.bar0.val, mrrs := c.mrrs.val }
    s2.setFlag (Reg.HIF_FUNC_STATUS (f / 256) (f % 256)) Fld.HIF_FUNC_STATUS_QUIESCED false

/-- Moves every outstanding tag of a function into quarantine (R358). -/
def State.quarantineFn (s : State) (f : Nat) : State :=
  s.hif.tags.l.foldl (fun s (k, x) => if x.func = f then s.quarantineTag k else s) s

/-- Aborts the operation of the key vault page bound to a function and zeroes the page's data registers (R358). -/
def State.flrPage (s : State) (f : Nat) : State :=
  (List.range 63).foldl (fun s i =>
    let p := i + 1
    if s.kvcBound (.func (Fin.ofNat 1024 f)) p then
      let s1 := s.kvcAbort kcAborted (fun q _ => q == p)
      let s2 := (List.range 8).foldl (fun s i => s.setReg (Reg.KVC_DIN p i) 0) s1
      let s3 := (List.range 2).foldl (fun s i => s.setReg (Reg.KVC_KCV p i) 0) s2
      (s3.setDout p 0).setReg (Reg.KVC_ARG p) 0
    else s) s

/-- The Function Level Reset of one function begins (R358). -/
def State.flrOne (s : State) (f : Nat) : State :=
  let s1 := s.quarantineFn f
  let s2 := (s1.ringsOf f).foldl (fun s g => s.resetRing g) s1
  let s3 := s2.setFn f { FuncSt.init with flrAt := some s2.mono }
  let s4 := { s3 with hif := { s3.hif with vecs := s3.hif.vecs.filter (fun k _ => k / 2048 != f) },
                      hold := KMap.set .none s3.hold f .none,
                      time := { s3.time with nowCap := KMap.set 0 s3.time.nowCap f 0, ppsCap := KMap.set 0 s3.time.ppsCap f 0 } }
  ((s4.flrPage f).setFlag (Reg.HIF_FUNC_STATUS (f / 256) (f % 256)) Fld.HIF_FUNC_STATUS_QUIESCED false).setFlag
    (Reg.HIF_FUNC_STATUS (f / 256) (f % 256)) Fld.HIF_FUNC_STATUS_FLR_BUSY true

/-- The functions that an FLR of `f` resets: a PF's VFs with it. -/
def flrFns (f : Nat) : List Nat := if f % 256 = 0 then f :: vfsOf f else [f]

/-- FLR_START (R358). -/
def flrStart (f : Nat) (s : State) : State := (flrFns f).foldl (fun s x => s.flrOne x) s

/-- FLR_END (R358): the reset completes; a PF's VFs end with it. -/
def flrEnd (f : Nat) (s : State) : State :=
  (flrFns f).foldl (fun s x =>
    if s.flrBusy x then
      (s.setFn x { s.fn x with flrAt := none }).setFlag (Reg.HIF_FUNC_STATUS (x / 256) (x % 256)) Fld.HIF_FUNC_STATUS_FLR_BUSY false
    else s) s

/-- HOST_PORT_RESET (R341, R342): every function of the port is reset as by an FLR in the same cycle; the link is down until it trains again. -/
def hostPortReset (h : Nat) (c : PortReset) (s : State) : State :=
  let s1 := flrStart (256 * h) (s.hostLinkDown h)
  if c = .perst then { s1 with hif := { s1.hif with perst := KMap.set 0 s1.hif.perst h 1 } } else s1

/-- HIF_PORT_CFG_WRITE (R341, R343, R345, R362): EN, and VF_VECTORS unless the value is out of range or VF Enable is set; clearing EN takes the
link to Detect, where the port presents no function. -/
def hifPortCfgWrite (h : Nat) (v : Word) (s : State) : State :=
  let a := Reg.HIF_PORT_CFG h
  let n := Fld.HIF_PORT_CFG_VF_VECTORS.get v
  let keep := n = 0 ∨ 1984 < n ∨ (s.fn (256 * h)).vfEnable
  let s1 := s.setFlag a Fld.HIF_PORT_CFG_EN (Fld.HIF_PORT_CFG_EN.get v == 1)
  let s2 := if keep then s1 else s1.setFld a Fld.HIF_PORT_CFG_VF_VECTORS n
  if s2.flag a Fld.HIF_PORT_CFG_EN then s2
  else (256 * h :: vfsOf (256 * h)).foldl (fun s f => s.withdraw f) (s2.hostLinkDown h)

/-- BME_CLEAR. -/
def execBmeClear (f : Fin 1024) (s : State) : Host.Outcome State Fault Refusal := answer s (bmeClear f.val s)
/-- HIF_PORT_CFG_WRITE. -/
def execHifPortCfgWrite (h : Fin 4) (v : Word) (s : State) : Host.Outcome State Fault Refusal := answer s (hifPortCfgWrite h.val v s)
/-- BME_SET. -/
def execBmeSet (f : Fin 1024) (c : FnCfg) (s : State) : Host.Outcome State Fault Refusal := answer s (bmeSet f.val c s)
/-- FLR_START. -/
def execFlrStart (f : Fin 1024) (s : State) : Host.Outcome State Fault Refusal := answer s (flrStart f.val s)
/-- FLR_END. -/
def execFlrEnd (f : Fin 1024) (s : State) : Host.Outcome State Fault Refusal := answer s (flrEnd f.val s)
/-- HOST_PORT_RESET. -/
def execHostPortReset (h : Fin 4) (c : PortReset) (s : State) : Host.Outcome State Fault Refusal := answer s (hostPortReset h.val c s)

end Sys2Proof.Machine
end

