-- ==== Sys2Proof/Machine/Cores.lean ====
section
/-! DEFINITION. The harts: the Etalzin instructions, domain windows, core faults and restarts (R387 to R399, R418). -/

namespace Sys2Proof.Machine

def State.hart (s : State) (h : Nat) : HartSt := KMap.get .init s.harts h
def State.setHart (s : State) (h : Nat) (x : HartSt) : State := { s with harts := KMap.set .init s.harts h x }

/-- Writes a hart's integer register; x0 discards it. -/
def State.setX (s : State) (h rd v : Nat) : State :=
  if rd = 0 then s else s.setHart h { s.hart h with x := KMap.set 0 (s.hart h).x rd (BitVec.ofNat 64 v) }

/-- Whether a hart exists and runs: RUN is set, its cluster is powered and has the hart, and in Kickstand mode it is of k0 (R18, R387, R418). -/
def State.hartRuns (s : State) (h : Nat) : Bool :=
  s.flag (Reg.CPX_HART_CTRL h) Fld.CPX_HART_CTRL_RUN && s.flag (Reg.CPX_CAP (h / 8)) Fld.CPX_CAP_POWERED &&
    decide (h % 8 < s.fld (Reg.CPX_CAP (h / 8)) Fld.CPX_CAP_HARTS) && (!s.kickstand || decide (h < 8))

/-- Raises an exception of a hart: what its own trap handling makes of it lies outside this device's rules. -/
def State.trap (s : State) (h : Nat) (e : HartExc) (a : Nat) : State := s.emit (.trap h e (s.hart h).pc a)

/-! ### Addresses (R390, R391) -/

/-- Whether a domain reaches bytes outside register space: domain 0 all, others inside a window that permits the access. -/
def State.domReach (s : State) (d a n : Nat) (write exec : Bool) : Bool :=
  d == 0 || (List.range 8).any (fun w =>
    let lo := s.reg (Reg.CPX_DOM_WIN_LO d w)
    let base := Fld.CPX_DOM_WIN_LO_BASE.get lo * 2 ^ 20
    let size := s.fld (Reg.CPX_DOM_WIN_HI d w) Fld.CPX_DOM_WIN_HI_SIZE * 2 ^ 20
    Fld.CPX_DOM_WIN_LO_VALID.get lo == 1 && (!write || Fld.CPX_DOM_WIN_LO_W.get lo == 1) && (!exec || Fld.CPX_DOM_WIN_LO_X.get lo == 1) &&
      decide (base ≤ a) && decide (a + n ≤ base + size))

def pbBase : Nat := 0x100000000
def pbEnd : Nat := 0x104000000
def ledgerBase : Nat := 0x200000000
def ledgerEnd : Nat := 0x200800000

def inPacketBuffer (a n : Nat) : Bool := decide (pbBase ≤ a) && decide (a + n ≤ pbEnd)

/-- The `n` bytes at an address as a number, least significant first; and the same written. -/
def State.ramLE (s : State) (a n : Nat) : Nat := (List.range n).foldl (fun v i => v + (KMap.get 0 s.ram (a + i)).toNat * 256 ^ i) 0
def State.setRamLE (s : State) (a n v : Nat) : State :=
  { s with ram := (List.range n).foldl (fun m i => KMap.set 0 m (a + i) (BitVec.ofNat 8 (v / 256 ^ i))) s.ram }

/-! ### Packet buffer instructions (R395, R396) -/

/-- A big-endian load of `n` bytes from a packet buffer. -/
def pbLoad (n h rd a : Nat) (s : State) : State :=
  if !s.hartRuns h then s
  else if !inPacketBuffer a n || !s.domReach (s.hartDom h) a n false false then s.trap h .loadFault a
  else if a % n ≠ 0 then s.trap h .loadMisaligned a
  else s.setX h rd (ofBE (s.ramBytes a n))

/-- A big-endian store of `n` bytes to a packet buffer. -/
def pbStore (n h a v : Nat) (s : State) : State :=
  if !s.hartRuns h then s
  else if !inPacketBuffer a n || !s.domReach (s.hartDom h) a n true false then s.trap h .storeFault a
  else if a % n ≠ 0 then s.trap h .storeMisaligned a
  else { s with ram := ((beBytes n v).zipIdx).foldl (fun m (b, i) => KMap.set 0 m (a + i) b) s.ram }

/-! ### Time and ledgers (R397, R398) -/

/-- Whether EQXRD and EQXRDS run for a hart in its mode. -/
def State.eqxOk (s : State) (h : Nat) (user : Bool) : Bool := !user || s.flag (Reg.CPX_DOM_CFG (s.hartDom h)) Fld.CPX_DOM_CFG_EQX_U

/-- EQXRD (R52, R398): captures the instant and returns its short form. -/
def eqxrd (h rd : Nat) (user : Bool) (s : State) : State :=
  if !s.hartRuns h then s
  else if !s.eqxOk h user then s.trap h .illegal 0
  else
    let t := s.now
    (s.setHart h { s.hart h with eqx := t }).setX h rd (shortInstant t)

/-- EQXRDS (R398): the seconds of the hart's last EQXRD. -/
def eqxrds (h rd : Nat) (user : Bool) (s : State) : State :=
  if !s.hartRuns h then s
  else if !s.eqxOk h user then s.trap h .illegal 0
  else s.setX h rd ((s.hart h).eqx / 2 ^ 32 % 2 ^ 48)

/-- LADD (R31, R397): adds to an application ledger modulo 2^64. -/
def ladd (h a v : Nat) (s : State) : State :=
  if !s.hartRuns h then s
  else if a < ledgerBase ∨ ledgerEnd < a + 8 ∨ a % 8 ≠ 0 ∨ !s.domReach (s.hartDom h) a 8 true false then s.trap h .storeFault a
  else s.setRamLE a 8 ((s.ramLE a 8 + v) % 2 ^ 64)

/-- HPM_OVERFLOW_TRAP (R399): an overflowing counter sets its overflow bit and traps, with an epc at most 8 retired instructions on; while the bit
is set no further trap is raised (Sscofpmf). -/
def hpmOverflowTrap (h n epc : Nat) (s : State) : State :=
  if !s.hartRuns h ∨ n < 3 ∨ (s.hart h).ovf.testBit n then s
  else (s.setHart h { s.hart h with ovf := (s.hart h).ovf ||| 2 ^ n }).emit (.trap h .counterOverflow epc 0)

/-! ### Faults and restarts (R17, R18, R393, R418) -/

/-- A hart starts at the reset vector of its domain. -/
def State.restartHart (s : State) (h : Nat) : State :=
  let d := s.hartDom h
  s.setHart h { s.hart h with pc := s.fld (Reg.CPX_DOM_VEC_HI d) Fld.CPX_DOM_VEC_HI_ADDR * 2 ^ 32 + (s.reg (Reg.CPX_DOM_VEC_LO d)).toNat }

/-- HART_LOST: the event to function 0 and to the domain of the hart (R393). -/
def State.hartLostEvent (s : State) (h : Nat) : State := (s.ownerEvent 0x0A00 1 (32 + h / 8) h []).event (1024 + s.hartDom h) 0x0A00 1 (32 + h / 8) h []

/-- The capacity word of a core cluster follows its capacity register (R544). -/
def State.coreCap (s : State) (k : Nat) : State :=
  let w := s.reg (Reg.CPX_CAP k)
  s.modCap 1 (32 + k) (fun c => { c with spare := Fld.CPX_CAP_SPARES.get w, count := Fld.CPX_CAP_HARTS.get w,
                                         percent := 100 * Fld.CPX_CAP_HARTS.get w / 8 })

/-- A core of a cluster has failed: the repair log records it (R478, R541). -/
def State.logCore (s : State) (k core : Nat) : State := s.logRepair (6 * 2 ^ 28 + (32 + k) * 2 ^ 16 + core) rlCore true 1 (32 + k) core

/-- The running hart of the highest index of a cluster. -/
def State.topHart (s : State) (k : Nat) : Option Nat := ((List.range 8).reverse.find? (fun i => s.hartRuns (8 * k + i))).map (fun i => 8 * k + i)

/-- HART_LOST (R17, R18, R393): a core fault. A correctable one moves the hart to a spare core; an uncorrectable one restarts it there, or, with no
spare left, on the core of the highest-index running hart, which stops. A correctable fault with no spare left moves nothing. -/
def hartLost (h core : Nat) (f : CoreFault) (s : State) : State :=
  let k := h / 8
  let a := Reg.CPX_CAP k
  let spares := s.fld a Fld.CPX_CAP_SPARES
  if !s.hartRuns h then s
  else if 0 < spares then
    let s1 := ((s.setFld a Fld.CPX_CAP_SPARES (spares - 1)).coreCap k).logCore k core
    let s2 := if f = .uncorrectable then s1.restartHart h else s1
    s2.hartLostEvent h
  else if f = .correctable then s
  else
    match s.topHart k with
    | none => s
    | some t =>
      let s1 := (s.setFld a Fld.CPX_CAP_HARTS (s.fld a Fld.CPX_CAP_HARTS - 1)).setFlag (Reg.CPX_HART_CTRL t) Fld.CPX_HART_CTRL_RUN false
      let s2 := ((s1.coreCap k).logCore k core).hartLostEvent t
      if t = h then s2 else (s2.restartHart h).hartLostEvent h

/-- HART_RESET (R418): a write of CPX_HART_CTRL; RESET restarts the hart at its domain's vector. -/
def hartReset (h : Nat) (v : Word) (s : State) : State :=
  let s1 := s.setFlag (Reg.CPX_HART_CTRL h) Fld.CPX_HART_CTRL_RUN (Fld.CPX_HART_CTRL_RUN.get v == 1)
  if Fld.CPX_HART_CTRL_RESET.get v = 1 then s1.restartHart h else s1

/-- PBLH. -/
def execPblh (h : Fin 128) (rd : Fin 32) (a : BitVec 64) (s : State) : Host.Outcome State Fault Refusal := answer s (pbLoad 2 h.val rd.val a.toNat s)
/-- PBLW. -/
def execPblw (h : Fin 128) (rd : Fin 32) (a : BitVec 64) (s : State) : Host.Outcome State Fault Refusal := answer s (pbLoad 4 h.val rd.val a.toNat s)
/-- PBLD. -/
def execPbld (h : Fin 128) (rd : Fin 32) (a : BitVec 64) (s : State) : Host.Outcome State Fault Refusal := answer s (pbLoad 8 h.val rd.val a.toNat s)
/-- PBSH. -/
def execPbsh (h : Fin 128) (a : BitVec 64) (v : BitVec 64) (s : State) : Host.Outcome State Fault Refusal := answer s (pbStore 2 h.val a.toNat v.toNat s)
/-- PBSW. -/
def execPbsw (h : Fin 128) (a : BitVec 64) (v : BitVec 64) (s : State) : Host.Outcome State Fault Refusal := answer s (pbStore 4 h.val a.toNat v.toNat s)
/-- PBSD. -/
def execPbsd (h : Fin 128) (a : BitVec 64) (v : BitVec 64) (s : State) : Host.Outcome State Fault Refusal := answer s (pbStore 8 h.val a.toNat v.toNat s)
/-- EQXRD. -/
def execEqxrd (h : Fin 128) (rd : Fin 32) (user : Bool) (s : State) : Host.Outcome State Fault Refusal := answer s (eqxrd h.val rd.val user s)
/-- EQXRDS. -/
def execEqxrds (h : Fin 128) (rd : Fin 32) (user : Bool) (s : State) : Host.Outcome State Fault Refusal := answer s (eqxrds h.val rd.val user s)
/-- LADD. -/
def execLadd (h : Fin 128) (a : BitVec 64) (v : BitVec 64) (s : State) : Host.Outcome State Fault Refusal := answer s (ladd h.val a.toNat v.toNat s)
/-- HPM_OVERFLOW_TRAP: `epc` names the instruction `skid` retired instructions after the one whose event overflowed the counter. -/
def execHpmOverflowTrap (h : Fin 128) (n : Fin 32) (epc : BitVec 64) (_skid : Fin 9) (s : State) : Host.Outcome State Fault Refusal :=
  answer s (hpmOverflowTrap h.val n.val epc.toNat s)
/-- HART_LOST. -/
def execHartLost (h : Fin 128) (core : Fin 10) (f : CoreFault) (s : State) : Host.Outcome State Fault Refusal := answer s (hartLost h.val core.val f s)
/-- HART_RESET. -/
def execHartReset (h : Fin 128) (v : Word) (s : State) : Host.Outcome State Fault Refusal :=
  answer s (hartReset h.val (Fld.CPX_HART_CTRL_RESET.put v 1) s)

end Sys2Proof.Machine
end

