-- ==== Sys2Proof/Machine/Sha.lean ====
section
/-! DEFINITION. SHA-384, AES-CMAC, the CRC-32 of OTP records and ECDSA P-384 verification (R435, R438, R469, R475), over bytes and natural
numbers. -/

namespace Sys2Proof.Machine

/-- The number that bytes spell, the first the most significant. -/
def byteNat (l : List (BitVec 8)) : Nat := l.foldl (fun a b => a * 256 + b.toNat) 0

/-! ### SHA-384 (FIPS 180-4) -/

def shaK0 : List (BitVec 64) :=
  [0x428a2f98d728ae22, 0x7137449123ef65cd, 0xb5c0fbcfec4d3b2f, 0xe9b5dba58189dbbc, 0x3956c25bf348b538, 0x59f111f1b605d019,
   0x923f82a4af194f9b, 0xab1c5ed5da6d8118, 0xd807aa98a3030242, 0x12835b0145706fbe, 0x243185be4ee4b28c, 0x550c7dc3d5ffb4e2,
   0x72be5d74f27b896f, 0x80deb1fe3b1696b1, 0x9bdc06a725c71235, 0xc19bf174cf692694, 0xe49b69c19ef14ad2, 0xefbe4786384f25e3,
   0x0fc19dc68b8cd5b5, 0x240ca1cc77ac9c65, 0x2de92c6f592b0275, 0x4a7484aa6ea6e483, 0x5cb0a9dcbd41fbd4, 0x76f988da831153b5,
   0x983e5152ee66dfab, 0xa831c66d2db43210, 0xb00327c898fb213f, 0xbf597fc7beef0ee4]
def shaK1 : List (BitVec 64) :=
  [0xc6e00bf33da88fc2, 0xd5a79147930aa725, 0x06ca6351e003826f, 0x142929670a0e6e70, 0x27b70a8546d22ffc, 0x2e1b21385c26c926,
   0x4d2c6dfc5ac42aed, 0x53380d139d95b3df, 0x650a73548baf63de, 0x766a0abb3c77b2a8, 0x81c2c92e47edaee6, 0x92722c851482353b,
   0xa2bfe8a14cf10364, 0xa81a664bbc423001, 0xc24b8b70d0f89791, 0xc76c51a30654be30, 0xd192e819d6ef5218, 0xd69906245565a910,
   0xf40e35855771202a, 0x106aa07032bbd1b8, 0x19a4c116b8d2d0c8, 0x1e376c085141ab53, 0x2748774cdf8eeb99, 0x34b0bcb5e19b48a8,
   0x391c0cb3c5c95a63, 0x4ed8aa4ae3418acb, 0x5b9cca4f7763e373, 0x682e6ff3d6b2b8a3, 0x748f82ee5defb2fc, 0x78a5636f43172f60]
def shaK2 : List (BitVec 64) :=
  [0x84c87814a1f0ab72, 0x8cc702081a6439ec, 0x90befffa23631e28, 0xa4506cebde82bde9, 0xbef9a3f7b2c67915, 0xc67178f2e372532b,
   0xca273eceea26619c, 0xd186b8c721c0c207, 0xeada7dd6cde0eb1e, 0xf57d4f7fee6ed178, 0x06f067aa72176fba, 0x0a637dc5a2c898a6,
   0x113f9804bef90dae, 0x1b710b35131c471b, 0x28db77f523047d84, 0x32caab7b40c72493, 0x3c9ebe0a15c9bebc, 0x431d67c49c100d4c,
   0x4cc5d4becb3e42b6, 0x597f299cfc657e2a, 0x5fcb6fab3ad6faec, 0x6c44198c4a475817]
def shaK : List (BitVec 64) := shaK0 ++ shaK1 ++ shaK2

/-- The initial hash value of SHA-384. -/
def shaInit : List (BitVec 64) :=
  [0xcbbb9d5dc1059ed8, 0x629a292a367cd507, 0x9159015a3070dd17, 0x152fecd8f70e5939, 0x67332667ffc00b31, 0x8eb44a8768581511,
   0xdb0c2e0d64f98fa7, 0x47b5481dbefa4fa4]

/-- The message schedule after its first 16 words: `w` holds the last 16, oldest first. -/
def shaSched : Nat → List (BitVec 64) → List (BitVec 64)
  | 0, _ => []
  | n + 1, w =>
    let a := w.getD 1 0
    let b := w.getD 14 0
    let s0 := a.rotateRight 1 ^^^ a.rotateRight 8 ^^^ (a >>> 7)
    let s1 := b.rotateRight 19 ^^^ b.rotateRight 61 ^^^ (b >>> 6)
    let x := s1 + w.getD 9 0 + s0 + w.getD 0 0
    x :: shaSched n (w.drop 1 ++ [x])

def shaRound (h : List (BitVec 64)) (kw : BitVec 64 × BitVec 64) : List (BitVec 64) :=
  match h with
  | [a, b, c, d, e, f, g, hh] =>
    let t1 := hh + (e.rotateRight 14 ^^^ e.rotateRight 18 ^^^ e.rotateRight 41) + ((e &&& f) ^^^ (~~~e &&& g)) + kw.1 + kw.2
    let t2 := (a.rotateRight 28 ^^^ a.rotateRight 34 ^^^ a.rotateRight 39) + ((a &&& b) ^^^ (a &&& c) ^^^ (b &&& c))
    [t1 + t2, a, b, c, d + t1, e, f, g]
  | _ => h

def shaBlock (h : List (BitVec 64)) (b : List (BitVec 8)) : List (BitVec 64) :=
  let w := (List.range 16).map (fun i => BitVec.ofNat 64 (byteNat ((b.drop (8 * i)).take 8)))
  let r := (shaK.zip (w ++ shaSched 64 w)).foldl shaRound h
  (h.zip r).map (fun p => p.1 + p.2)

def shaBlocks : Nat → List (BitVec 64) → List (BitVec 8) → List (BitVec 64)
  | 0, h, _ => h
  | n + 1, h, l => shaBlocks n (shaBlock h (l.take 128)) (l.drop 128)

/-- SHA-384 of a byte string, as a number of 384 bits. -/
def sha384 (l : List (BitVec 8)) : Nat :=
  let z := (128 - (l.length + 17) % 128) % 128
  let m := l ++ [0x80] ++ List.replicate z 0 ++ (natBytes 16 (8 * l.length)).map (BitVec.ofNat 8)
  ((shaBlocks (m.length / 128) shaInit m).take 6).foldl (fun a w => a * 2 ^ 64 + w.toNat) 0

/-! ### AES-CMAC (SP 800-38B) -/

def cmacDouble (v : Nat) : Nat := if v.testBit 127 then ((2 * v) % 2 ^ 128) ^^^ 0x87 else 2 * v

def cmacGo (key : Nat) : Nat → Nat → List (BitVec 8) → Nat
  | 0, c, _ => c
  | n + 1, c, l => cmacGo key n (aesEnc key (c ^^^ byteNat (l.take 16))) (l.drop 16)

/-- AES-CMAC of a message, as a number of 128 bits. -/
def cmac (key : Nat) (m : List (BitVec 8)) : Nat :=
  let k1 := cmacDouble (aesEnc key 0)
  let k2 := cmacDouble k1
  let n := (m.length + 15) / 16 - 1
  let c := cmacGo key n 0 m
  let last := m.drop (16 * n)
  let b := if last.length = 16 then byteNat last ^^^ k1 else byteNat ((last ++ 0x80 :: List.replicate 15 0).take 16) ^^^ k2
  aesEnc key (c ^^^ b)

/-! ### CRC-32 (R475) -/

/-- One bit of the reflected CRC-32 of IEEE 802.3. -/
def crc32Bit (c : Nat) (b : Bool) : Nat := if (c % 2 == 1) != b then (c / 2) ^^^ 0xEDB88320 else c / 2

/-- A CRC-32 register after a run of bits; the match on the register keeps it a numeral while Lean evaluates. -/
def crc32Run : List Bool → Nat → Nat
  | [], c => c
  | b :: l, 0 => crc32Run l (crc32Bit 0 b)
  | b :: l, c + 1 => crc32Run l (crc32Bit (c + 1) b)

/-- CRC-32 (IEEE 802.3) over the `n` bits of a number from bit 0 up. -/
def crc32 (n v : Nat) : Nat := crc32Run ((List.range n).map v.testBit) 0xFFFFFFFF ^^^ 0xFFFFFFFF

/-! ### ECDSA P-384 (FIPS 186-5) -/

def p384p : Nat := 2 ^ 384 - 2 ^ 128 - 2 ^ 96 + 2 ^ 32 - 1
def p384n : Nat := 0xffffffffffffffffffffffffffffffffffffffffffffffffc7634d81f4372ddf581a0db248b0a77aecec196accc52973
def p384b : Nat := 0xb3312fa7e23ee7e4988e056be3f82d19181d9c6efe8141120314088f5013875ac656398d8a2ed19d2a85c8edd3ec2aef
def p384x : Nat := 0xaa87ca22be8b05378eb1c71ef320ad746e1d3b628ba79b9859f741e082542a385502f25dbf55296c3a545e3872760ab7
def p384y : Nat := 0x3617de4a96262c6f5d9e98bf9292dc29f8f41dbd289a147ce9da3113b5f0b8c00a60b1ce1d7e819d7a431d7c90ea0e5f

/-- Square and multiply over the bits of an exponent of at most 384 bits. -/
def powMod (m b e : Nat) : Nat := (List.range 384).foldr (fun i a => let q := a * a % m; if e.testBit i then q * b % m else q) 1

/-- The inverse modulo a prime of 384 bits. -/
def invMod (m a : Nat) : Nat := powMod m a (m - 2)

/-- A point of the curve in projective form X : Y : Z with x = X / Z^2 and y = Y / Z^3; Z = 0 is the point at infinity. -/
structure Pt where
  x : Nat
  y : Nat
  z : Nat
  deriving DecidableEq, Repr

def subP (a b : Nat) : Nat := (a + p384p - b % p384p) % p384p

def Pt.dbl (q : Pt) : Pt :=
  if q.z = 0 ∨ q.y = 0 then ⟨1, 1, 0⟩
  else
    let yy := q.y * q.y % p384p
    let s := 4 * q.x * yy % p384p
    let zz := q.z * q.z % p384p
    let m := 3 * subP q.x zz * (q.x + zz) % p384p
    let x := subP (m * m % p384p) (2 * s)
    ⟨x, subP (m * subP s x % p384p) (8 * yy * yy), 2 * q.y * q.z % p384p⟩

def Pt.add (a b : Pt) : Pt :=
  if a.z = 0 then b
  else if b.z = 0 then a
  else
    let za := a.z * a.z % p384p
    let zb := b.z * b.z % p384p
    let u1 := a.x * zb % p384p
    let u2 := b.x * za % p384p
    let s1 := a.y * zb * b.z % p384p
    let s2 := b.y * za * a.z % p384p
    if u1 = u2 then (if s1 = s2 then a.dbl else ⟨1, 1, 0⟩)
    else
      let h := subP u2 u1
      let r := subP s2 s1
      let hh := h * h % p384p
      let hhh := h * hh % p384p
      let v := u1 * hh % p384p
      let x := subP (subP (r * r % p384p) hhh) (2 * v)
      ⟨x, subP (r * subP v x % p384p) (s1 * hhh), h * a.z * b.z % p384p⟩

def Pt.mul (k : Nat) (q : Pt) : Pt := (List.range 384).foldr (fun i a => if k.testBit i then a.dbl.add q else a.dbl) ⟨1, 1, 0⟩

/-- Whether a signature of two 48-byte halves holds over a SHA-384 hash, with a public key of 97 bytes uncompressed. -/
def ecdsaOk (key : List (BitVec 8)) (hash : Nat) (sig : List (BitVec 8)) : Bool :=
  let x := byteNat ((key.drop 1).take 48)
  let y := byteNat ((key.drop 49).take 48)
  let r := byteNat (sig.take 48)
  let t := byteNat ((sig.drop 48).take 48)
  if byteNat (key.take 1) ≠ 4 ∨ p384p ≤ x ∨ p384p ≤ y ∨ y * y % p384p ≠ subP (x * x * x + p384b) (3 * x) ∨ r = 0 ∨ p384n ≤ r ∨ t = 0 ∨
      p384n ≤ t then false
  else
    let w := invMod p384n t
    let q := ((Pt.mul (hash * w % p384n) ⟨p384x, p384y, 1⟩).add (Pt.mul (r * w % p384n) ⟨x, y, 1⟩))
    if q.z = 0 then false
    else
      let zi := invMod p384p q.z
      (q.x * (zi * zi % p384p) % p384p) % p384n == r

end Sys2Proof.Machine
end

