-- ==== Sys2Proof/Machine/Otp.lean ====
section
/-! DEFINITION. The one-time-programmable records: which generation is in force, and how records are burnt (R440, R475 to R479). -/

namespace Sys2Proof.Machine

/-! ### Layout (R475) -/

def otpIdentity : Nat := 0
def otpOwner : Nat := 1
def otpPolicy : Nat := 2
def otpSeal : Nat := 3
def otpRepair : Nat := 4

/-- A record's first bit, bits of one generation, generations, first flag bit, and the place of CHECK. -/
structure OtpRec where
  base : Nat
  size : Nat
  gens : Nat
  flags : Nat
  check : Nat
  deriving DecidableEq, Repr

def otpRec : Nat → OtpRec
  | 0 => ⟨0, 1024, 1, 16192, 736⟩
  | 1 => ⟨1024, 512, 4, 16194, 480⟩
  | 2 => ⟨3072, 128, 4, 16202, 96⟩
  | _ => ⟨3584, 1088, 4, 16210, 1024⟩

/-- `n` bits of the array from bit `o` up. -/
def State.otpBits (s : State) (o n : Nat) : Nat := s.otp.bits.toNat >>> o % 2 ^ n

def State.otpBit (s : State) (o : Nat) : Bool := s.otp.bits.getLsbD o

/-- Burns the set bits of a number from bit `o` of the array up. -/
def State.burn (s : State) (o v : Nat) : State := { s with otp := { s.otp with bits := s.otp.bits ||| BitVec.ofNat 16384 (v <<< o) } }

/-- A generation of a record. -/
def State.otpGen (s : State) (r g : Nat) : Nat := s.otpBits ((otpRec r).base + (otpRec r).size * g) (otpRec r).size

/-- Whether the CHECK of a record holds: the CRC-32 over its other bits in rising order. -/
def checkOk (r v : Nat) : Bool :=
  let x := otpRec r
  let low := v % 2 ^ x.check
  let high := v >>> (x.check + 32)
  crc32 (x.size - 32) (low + high * 2 ^ x.check) == v >>> x.check % 2 ^ 32

/-- The generation of a record in force, if any (R476). -/
def State.inForce (s : State) (r : Nat) : Option Nat :=
  (List.range (otpRec r).gens).foldl (fun f g =>
    if s.otpBit ((otpRec r).flags + 2 * g) && !s.otpBit ((otpRec r).flags + 2 * g + 1) && checkOk r (s.otpGen r g) then some g else f) none

/-- `n` bits from bit `o` of the record in force; none when no generation is. -/
def State.otpField (s : State) (r o n : Nat) : Option Nat := (s.inForce r).map (fun g => s.otpGen r g >>> o % 2 ^ n)

/-- A number of `n` bytes with its bytes in the other order: fuse fields hold byte a of a hash or key in bits [8a+7:8a]. -/
def byteRev (n v : Nat) : Nat := (List.range n).foldl (fun a i => a * 256 + v >>> (8 * i) % 256) 0

def State.serial (s : State) : Nat := (s.otpField otpIdentity 0 64).getD 0
def State.rootHash (s : State) : Option Nat := (s.otpField otpIdentity 96 384).map (byteRev 48)
def State.deviceKey (s : State) : Nat := 2 ^ 256 + byteRev 32 ((s.otpField otpIdentity 480 256).getD 0)
def State.ownerHash (s : State) : Option Nat := (s.otpField otpOwner 0 384).map (byteRev 48)
def State.ownerLock (s : State) : Bool := s.otpField otpOwner 384 1 == some 1
def State.kickLimit (s : State) : Nat := max 2 ((s.otpField otpPolicy 0 3).getD 3)
def State.leaseMin (s : State) : Nat := (s.otpField otpPolicy 3 10).getD 1
def State.leaseMax (s : State) : Nat := (s.otpField otpPolicy 13 10).getD 600
def State.minVersion (s : State) : Nat := (s.otpField otpPolicy 23 32).getD 0
def State.authHash (s : State) : Option Nat := (s.otpField otpSeal 0 384).map (byteRev 48)
def State.cycImageHash (s : State) : Option Nat := (s.otpField otpSeal 384 384).map (byteRev 48)
def State.cycKek (s : State) : Option Nat := (s.otpField otpSeal 768 256).map (fun k => 2 ^ 256 + byteRev 32 k)

/-- SEAL_COUNT: the bits burnt of the seal counter (R440). -/
def State.sealCount (s : State) : Nat := ((List.range 64).filter (fun i => s.otpBit (7936 + i))).length

def State.repairEntry (s : State) (i : Nat) : Nat := s.otpBits (8000 + 32 * i) 32
/-- REPAIR entries used: entries are taken in order (R478). -/
def State.repairUsed (s : State) : Nat := ((List.range 256).filter (fun i => s.repairEntry i != 0)).length

/-! ### Writing (R477, R478) -/

/-- The codes of OTP_STATUS. -/
def ocOk : Nat := 0
def ocFail : Nat := 1
def ocExhausted : Nat := 2
def ocNoSupply : Nat := 3
def ocProtected : Nat := 4
def ocNotAuth : Nat := 5
def ocInvalid : Nat := 6

/-- The lowest generation whose data bits, VALID and VOID are all unburnt. -/
def State.freeGen (s : State) (r : Nat) : Option Nat :=
  (List.range (otpRec r).gens).find? (fun g =>
    s.otpGen r g == 0 && !s.otpBit ((otpRec r).flags + 2 * g) && !s.otpBit ((otpRec r).flags + 2 * g + 1))

/-- The generation, or REPAIR entry, that a write burns. -/
def State.otpTarget (s : State) (w : OtpWrite) : Option Nat :=
  if w.record = otpRepair then (if s.repairUsed < 256 then some s.repairUsed else none) else s.freeGen w.record

/-- The first write ends with a code; an owner command ends with it (R480). -/
def State.otpDone (s : State) (code : Nat) : State :=
  match s.otp.writes with
  | [] => s
  | w :: l =>
    let s1 := ({ s with otp := { s.otp with writes := l } }).setFld Reg.OTP_STATUS Fld.OTP_STATUS_CODE code
    let s2 := s1.setFlag Reg.OTP_STATUS Fld.OTP_STATUS_BUSY (!l.isEmpty)
    if w.auth then
      (s2.setFlag Reg.BOOT_AUTH_CTRL Fld.BOOT_AUTH_CTRL_BUSY false).setFld Reg.BOOT_AUTH_CTRL Fld.BOOT_AUTH_CTRL_STATUS (if code = ocOk then 0 else 7)
    else s2

/-- Starts the first write, unless one runs; without the programming rail, or with nothing left to burn, it ends at once, and the next starts. -/
def State.otpRun (supply : Bool) : Nat → State → State
  | 0, s => s
  | n + 1, s =>
    match s.otp.writes with
    | [] => s
    | w :: l =>
      if w.gen.isSome then s
      else if !supply then State.otpRun supply n (s.otpDone ocNoSupply)
      else
        match s.otpTarget w with
        | none => State.otpRun supply n (s.otpDone ocExhausted)
        | some g => { s with otp := { s.otp with writes := { w with gen := some g } :: l } }

/-- Queues a write behind those that wait. -/
def State.otpQueue (s : State) (w : OtpWrite) (supply : Bool) : State :=
  let s1 := ({ s with otp := { s.otp with writes := s.otp.writes ++ [w] } }).setFlag Reg.OTP_STATUS Fld.OTP_STATUS_BUSY true
  State.otpRun supply s1.otp.writes.length s1

/-- The data of a write, from OTP_WR_DATA: bits [32w+31:32w] in word w. -/
def State.otpData (s : State) (r : Nat) : Nat :=
  let v := (List.range 32).foldl (fun a w => a + (s.reg (Reg.OTP_WR_DATA w)).toNat * 2 ^ (32 * w)) 0
  if r = otpRepair then v % 2 ^ 32 else v % 2 ^ (otpRec r).size

/-- A write that is refused at once reports its code. -/
def State.otpRefuse (s : State) (code : Nat) : State := s.setFld Reg.OTP_STATUS Fld.OTP_STATUS_CODE code

/-- The data bits that a burn which failed or was cut has left burnt: some of those it was to burn (assumption 21). -/
def State.partBurn (s : State) (base v : Nat) : State :=
  let s1 := s.burn base (v &&& (Config.otpBurnt s.draws).toNat)
  { s1 with draws := s1.draws + 1 }

/-- A repair entry of the log that the OTP now records is no longer SOFT (R541). -/
def State.hardenLog (s : State) (record : Nat) : State :=
  (List.range (s.fld Reg.DEV_REPAIR_STATUS Fld.DEV_REPAIR_STATUS_COUNT)).foldl (fun s i =>
    if (s.reg (Reg.DEV_REPAIR_LOG i 0)).toNat % 2 ^ 31 = record ∧ (s.reg (Reg.DEV_REPAIR_LOG i 1)).toNat / 2 ^ 28 < 3 then
      s.setReg (Reg.DEV_REPAIR_LOG i 1) (s.reg (Reg.DEV_REPAIR_LOG i 1) &&& 0xF7FFFFFF)
    else s) s

/-- OTP_BURN_END (R477): the running burn and its read-back end. On a match VALID is burnt, else VOID. `supply` is whether the programming rail is
there for the write that starts next. -/
def otpBurnEnd (ok supply : Bool) (s : State) : State :=
  match s.otp.writes with
  | [] => s
  | w :: _ =>
    match w.gen with
    | none => s
    | some g =>
      let s1 :=
        if w.record = otpRepair then
          if ok then ((s.burn (8000 + 32 * g) w.data).hardenLog (w.data % 2 ^ 31)).otpDone ocOk
          else (s.partBurn (8000 + 32 * g) (w.data % 2 ^ 31)).otpDone ocFail
        else
          let x := otpRec w.record
          if ok then ((s.burn (x.base + x.size * g) w.data).burn (x.flags + 2 * g) 1).otpDone ocOk
          else ((s.partBurn (x.base + x.size * g) w.data).burn (x.flags + 2 * g + 1) 1).otpDone ocFail
      let s2 := s1.setFld Reg.BOOT_STATUS Fld.BOOT_STATUS_LIMIT s1.kickLimit
      State.otpRun supply s2.otp.writes.length s2

/-- A reset cuts the running burn and drops the writes that wait. -/
def State.otpCut (s : State) : State :=
  let s1 := match s.otp.writes with
    | ⟨r, d, _, some g⟩ :: _ =>
      if r = otpRepair then s.partBurn (8000 + 32 * g) (d % 2 ^ 31) else s.partBurn ((otpRec r).base + (otpRec r).size * g) d
    | _ => s
  { s1 with otp := { s1.otp with writes := [] } }

/-- OTP_WR_CMD naming a record (R477 to R479): `r` is the requester, `supply` whether the programming rail is there. -/
def otpWrite (r : Req) (record : Nat) (supply : Bool) (s : State) : State :=
  if !s.isOwner r then s.viewRefused r
  else if record = otpIdentity ∨ record = otpSeal then s.otpRefuse ocProtected
  else if record = otpOwner ∨ record = otpPolicy then
    if r ≠ .func 0 ∨ (s.inForce otpOwner).isSome then s.otpRefuse ocNotAuth
    else s.otpQueue ⟨record, s.otpData record, false, none⟩ supply
  else if record = otpRepair then
    let d := s.otpData otpRepair
    if d / 2 ^ 28 % 8 = 7 then s.otpRefuse ocInvalid
    else
      match r with
      | .hart _ => s.otpQueue ⟨otpRepair, d, false, none⟩ supply
      | .func _ => s.otpRefuse ocNotAuth
  else s.otpRefuse ocInvalid

/-- OTP_WR_IDENTITY. -/
def execOtpWrIdentity (r : Req) (supply : Bool) (s : State) : Host.Outcome State Fault Refusal := answer s (otpWrite r otpIdentity supply (s.ovlNote r Reg.OTP_WR_CMD 0x80000000))
/-- OTP_WR_OWNER. -/
def execOtpWrOwner (r : Req) (supply : Bool) (s : State) : Host.Outcome State Fault Refusal := answer s (otpWrite r otpOwner supply (s.ovlNote r Reg.OTP_WR_CMD 0x90000000))
/-- OTP_WR_POLICY. -/
def execOtpWrPolicy (r : Req) (supply : Bool) (s : State) : Host.Outcome State Fault Refusal := answer s (otpWrite r otpPolicy supply (s.ovlNote r Reg.OTP_WR_CMD 0xA0000000))
/-- OTP_WR_SEAL. -/
def execOtpWrSeal (r : Req) (supply : Bool) (s : State) : Host.Outcome State Fault Refusal := answer s (otpWrite r otpSeal supply (s.ovlNote r Reg.OTP_WR_CMD 0xB0000000))
/-- OTP_WR_REPAIR. -/
def execOtpWrRepair (r : Req) (supply : Bool) (s : State) : Host.Outcome State Fault Refusal := answer s (otpWrite r otpRepair supply (s.ovlNote r Reg.OTP_WR_CMD 0xC0000000))
/-- OTP_BURN_END. -/
def execOtpBurnEnd (ok supply : Bool) (s : State) : Host.Outcome State Fault Refusal := answer s (otpBurnEnd ok supply s)

end Sys2Proof.Machine
end

