-- ==== Sys2Proof/Machine/Reset.lean ====
section
/-! DEFINITION. The resets that start the device, a failed start, and the reset of the Cyclometer island (R422, R466, R472, R487). -/

namespace Sys2Proof.Machine

/-- The states of BOOT_STATUS.STATE (R467, R487). -/
def bsRom : Nat := 0
def bsVerify : Nat := 2
def bsMemory : Nat := 3
def bsClusters : Nat := 4
def bsCyclometer : Nat := 5
def bsRunning : Nat := 6
def bsConfirmed : Nat := 7
def bsKickstand : Nat := 8

def State.bootState (s : State) : Nat := s.fld Reg.BOOT_STATUS Fld.BOOT_STATUS_STATE
def State.setBootState (s : State) (n : Nat) : State := s.setFld Reg.BOOT_STATUS Fld.BOOT_STATUS_STATE n

/-- The values of BOOT_CAUSE (R472). -/
def bcWindow : Nat := 0x01
def bcFormat : Nat := 0x02
def bcKey : Nat := 0x03
def bcSignature : Nat := 0x04
def bcTree : Nat := 0x05
def bcRollback : Nat := 0x06
def bcDecrypt : Nat := 0x07
def bcTableDram : Nat := 0x08
def bcHbm : Nat := 0x09
def bcMeterDram : Nat := 0x0A
def bcCycSection : Nat := 0x0B
def bcCycKey : Nat := 0x0C
def bcAbort : Nat := 0x0D
def bcEntropy : Nat := 0x0E
def bcOtp : Nat := 0x0F

/-- The CYC block and the Cyclometer window: the registers of the island (R422, R444, R445). -/
def islandReg (a : Nat) : Bool := (decide (0x25000000 ≤ a) && decide (a < 0x25400000)) || (decide (0x30000000 ≤ a) && decide (a < 0x40000000))

/-- What a warm reset leaves: the island and the always-on registers (R466, R487, R515). -/
def keptReg (a : Nat) : Bool := islandReg a || a == Reg.BOOT_CAUSE || a == Reg.THM_TRIP_LOG

/-- Draws the 128 bits of a nonce: its byte k is bits [8(k mod 4)+7:8(k mod 4)] of word k / 4 (R438, R444, R480). -/
def State.drawNonce (s : State) (f : Nat → Nat) : State :=
  let (d, s1) := s.draw
  (List.range 4).foldl (fun s i => s.setReg (f i) (BitVec.ofNat 32 (d >>> (32 * i)))) s1

/-- The warm reset of R466: everything but the always-on domain and the island; `held` is whether the reset goes on. The seeds, the nonce and the
incarnation are drawn anew (R168, R228, R251, R480). -/
def State.warmReset (s : State) (held : Bool) : State :=
  let c := s.otpCut
  let r := State.reset
  let s1 : State :=
    { r with pending := s.pending, out := s.out, draws := c.draws + 2, regs := s.regs.filter (fun a _ => keptReg a),
             written := s.written.filter (fun a _ => islandReg a), otp := c.otp, cyc := s.cyc, aon := { s.aon with held := held },
             eg := { r.eg with fifo := s.eg.fifo }, tab := { r.tab with exmSeed := c.draws }, pat := { r.pat with seed := c.draws + 1 },
             led := s.eg.fifo.l.foldl (fun m e => KMap.set 0 m (ldNotice * 2 ^ 24 + e.1 * 16) (Int.ofNat e.2.length)) .empty }
  let s2 := (s1.setFld Reg.BOOT_STATUS Fld.BOOT_STATUS_FAILS (s.fld Reg.BOOT_STATUS Fld.BOOT_STATUS_FAILS)).setFld Reg.BOOT_STATUS
    Fld.BOOT_STATUS_LIMIT (s.fld Reg.BOOT_STATUS Fld.BOOT_STATUS_LIMIT)
  let (d, s3) := s2.draw
  (s3.setFld Reg.FAB_DEV_CFG Fld.FAB_DEV_CFG_INCARNATION (d % 65535 + 1)).drawNonce Reg.BOOT_NONCE

def State.setCause (s : State) (cause detail : Nat) : State :=
  (s.setFld Reg.BOOT_CAUSE Fld.BOOT_CAUSE_CAUSE cause).setFld Reg.BOOT_CAUSE Fld.BOOT_CAUSE_DETAIL detail

/-- The cause of a failed start is written and the counter rises, saturating at 7 (R472). -/
def State.countFail (s : State) (cause detail : Nat) : State :=
  (s.setCause cause detail).setFld Reg.BOOT_STATUS Fld.BOOT_STATUS_FAILS (min 7 (s.fld Reg.BOOT_STATUS Fld.BOOT_STATUS_FAILS + 1))

/-- Stops the harts of a cluster. -/
def State.stopCluster (s : State) (k : Nat) : State :=
  (List.range 8).foldl (fun s i => s.setFlag (Reg.CPX_HART_CTRL (8 * k + i)) Fld.CPX_HART_CTRL_RUN false) s

/-- The start fails (R472); in Kickstand mode the device returns to that mode without a reset (R473). -/
def State.startFails (s : State) (cause detail : Nat) : State :=
  if s.kickstand then
    let s1 := ((s.setCause cause detail).setBootState bsKickstand).stopCluster 0
    { s1 with boot := { s1.boot with window := none } }
  else (s.countFail cause detail).warmReset false

/-- A warm reset that ends a start before CONFIRMED counts as a failed start (R472); in Kickstand mode no start of that kind runs. -/
def State.countedReset (s : State) (held : Bool) : State :=
  if s.aon.held ∨ s.bootState = bsConfirmed ∨ s.kickstand then s.warmReset held
  else (s.countFail bcWindow s.bootState).warmReset held

/-- The island's supply comes up (R422, R434, R437): its state is lost, a run and a nonce are drawn, and it is sealed if the seal record exists. -/
def State.islandReset (s : State) : State :=
  if !s.metered then s
  else
    let s1 := { s with regs := s.regs.filter (fun a _ => !islandReg a), written := s.written.filter (fun a _ => !islandReg a) }
    let (d, s2) := s1.draw
    let s3 : State := { s2 with cyc := { CycSt.init with run := BitVec.ofNat 64 d }, eg := { s2.eg with fifo := .empty } }
    let led (m : KMap Int) (e : Nat) : KMap Int :=
      KMap.set 0 (KMap.set 0 m (ldNotice * 2 ^ 24 + e * 16) (Int.ofNat (KMap.get [] s.eg.wait e).length)) (ldNotice * 2 ^ 24 + e * 16 + 1) 0
    let s4 : State := { s3 with led := (List.range 16).foldl led s3.led }
    ((s4.drawNonce Reg.CYC_NONCE).setFlag Reg.CYC_STATUS Fld.CYC_STATUS_SEALED (s.inForce otpSeal).isSome).setFld Reg.CYC_STATUS
      Fld.CYC_STATUS_SEAL_COUNT s.sealCount

end Sys2Proof.Machine
end

