-- ==== Sys2Proof/Machine/Auth.lean ====
section
/-! DEFINITION. Commands signed by an authority, as the Cyclometer and the boot controller check them (R438, R439, R480). -/

namespace Sys2Proof.Machine

/-- Byte `a` of a run of 32-bit register words, the first the least significant of its word (R438, R445). -/
def State.regByte (s : State) (f : Nat → Nat) (a : Nat) : Byte := BitVec.ofNat 8 ((s.reg (f (a / 4))).toNat >>> (8 * (a % 4)))

/-- The 256 bytes of a mailbox. -/
def State.mailbox (s : State) (f : Nat → Nat) : List Byte := (List.range 256).map (s.regByte f)

/-- The statuses of R439. -/
def acOk : Nat := 0
def acBadKey : Nat := 1
def acBadSig : Nat := 2
def acBadDevice : Nat := 3
def acBadNonce : Nat := 4
def acState : Nat := 5
def acExhausted : Nat := 6
def acOtpFail : Nat := 7

/-- The first four checks of a signed command: the hash that the authority's key must have, the command, the nonce registers, whether a zero nonce
is allowed, and what SIG covers beyond bytes 0 to 135. -/
def State.authCheck (s : State) (keyHash : Option Nat) (m : List Byte) (nonce : Nat → Nat) (zeroOk : Bool) (extra : List Byte) : Nat :=
  let key := (m.drop 32).take 97
  let given := (m.drop 12).take 16
  if keyHash ≠ some (sha384 key) then acBadKey
  else if !ecdsaOk key (sha384 (m.take 136 ++ extra)) ((m.drop 136).take 96) then acBadSig
  else if beAt m 4 8 ≠ s.serial then acBadDevice
  else if given ≠ (List.range 16).map (s.regByte nonce) ∧ ¬ (zeroOk ∧ given = zeros 16) then acBadNonce
  else acOk

end Sys2Proof.Machine
end

