-- ==== Sys2Proof/Machine/Cyc.lean ====
section
/-! DEFINITION. The Cyclometer: notices, caches, intervals, records, the seal and its channels (R421 to R445). -/

namespace Sys2Proof.Machine

def State.modCyc (s : State) (f : CycSt → CycSt) : State := { s with cyc := f s.cyc }

/-- The island's time, in units of 2^-32 s (R431). -/
def State.islandNow (s : State) : Nat := s.cyc.island.toNat >>> 32

def State.counting (s : State) : Bool := s.metered && s.flag Reg.CYC_STATUS Fld.CYC_STATUS_COUNTING

/-- The number of SL writes refused, modulo 2^32. -/
def State.refusedCount (s : State) : Nat := s.reg64 Ctr.CYC_REFUSED.lo % 2 ^ 32

/-- A register whose first write after reset takes effect (R12). -/
def State.rwo (s : State) (a : Nat) (v : Word) : State :=
  if KMap.get 0 s.written a = 1 then s else ({ s with written := KMap.set 0 s.written a 1 }).setReg a v

/-! ### The subject map (R426) -/

/-- Whether a map entry is refused. -/
def mapBad (w : Word) : Bool :=
  let v := w.toNat
  let use := v >>> 29 % 4
  let bits := v >>> 24 % 32
  let base := v % 2 ^ 23
  use == 3 || v.testBit 23 || decide (20 < bits) || (use == 1 && decide (12 < bits)) || (use != 0 && decide (2 ^ 23 < base + 2 ^ bits))

/-- The map entry of a queue: as written, or of the configuration block; an entry of the block that a write could not have stored acts as zero. -/
def State.mapEntry (s : State) (q : Nat) : Word :=
  match KMap.get none s.cyc.map q with
  | some w => w
  | none =>
    match s.cyc.sec with
    | some x => let w := Config.cycMapEntry x.hash q; if mapBad w then 0 else w
    | none => 0

/-- The subject of a notice under a map entry, or none where the queue is not metered. -/
def noticeSubject (w : Word) (n : Notice) : Option Nat :=
  let v := w.toNat
  let key := match v >>> 29 % 4 with
    | 1 => n.vid
    | 2 => n.label
    | _ => none
  if !v.testBit 31 then none
  else
    match key with
    | some k => some (v % 2 ^ 23 + k % 2 ^ (v >>> 24 % 32))
    | none => some (v % 2 ^ 23)

/-- The bytes that a notice adds (R427). -/
def State.noticeBytes (s : State) (n : Notice) : Nat :=
  ((n.len : Int) + (BitVec.ofNat 8 (s.fld (Reg.CYC_PORT_OVH n.port) Fld.CYC_PORT_OVH_OVH)).toInt).toNat

/-! ### Caches and counter words (R428) -/

def State.cycCache (s : State) (e : Nat) : List CycEnt := KMap.get [] s.cyc.cache e
def State.cycWb (s : State) (e : Nat) : List CycEnt := KMap.get [] s.cyc.wb e
def State.addWb (s : State) (e : Nat) (x : CycEnt) : State := s.modCyc (fun c => { c with wb := KMap.set [] c.wb e (KMap.get [] c.wb e ++ [x]) })

/-- Adds to the cache entry of a subject and parity; a miss in a full set of 16 evicts the entry least recently updated. -/
def State.cacheAdd (s : State) (e : Nat) (x : CycEnt) : State :=
  let l := s.cycCache e
  let put (s : State) (l : List CycEnt) : State := s.modCyc (fun c => { c with cache := KMap.set [] c.cache e l })
  match l.find? (fun y => y.subject == x.subject && y.par == x.par) with
  | some y => put s (l.filter (fun z => !(z.subject == x.subject && z.par == x.par)) ++ [{ x with pkts := y.pkts + x.pkts, bytes := y.bytes + x.bytes }])
  | none =>
    let same := l.filter (fun y => Config.cycSet y.subject == Config.cycSet x.subject)
    match same with
    | old :: _ => if 16 ≤ same.length then (put s (l.filter (· != old) ++ [x])).addWb e old else put s (l ++ [x])
    | [] => put s (l ++ [x])

/-- The key of a subject's counts in a bank. -/
def cntKey (subject : Nat) (par : Bool) : Nat := subject * 2 + par.toNat

/-- Adds a write-back to its counter word. -/
def State.bankAdd (s : State) (x : CycEnt) : State :=
  let k := cntKey x.subject x.par
  s.modCyc (fun c => { c with bank := KMap.set (0, 0) c.bank k ((KMap.get (0, 0) c.bank k).1 + x.pkts, (KMap.get (0, 0) c.bank k).2 + x.bytes) })

/-- The window of a parity: the open interval's, or the closing one's. -/
def State.modWin (s : State) (par : Bool) (f : CycWin → CycWin) : State :=
  if par = s.cyc.par then s.modCyc (fun c => { c with win := f c.win })
  else s.modCyc (fun c => { c with closing := c.closing.map (fun x => { x with win := f x.win }) })

/-- An uncorrectable counter word (R443): both banks lose the subject's counts, and its entries are damaged. -/
def State.counterLost (s : State) (subject : Nat) (par : Bool) : State :=
  let s1 := s.modWin par (fun w => { w with memErr := w.memErr + 1 })
  s1.modCyc (fun c =>
    let dam := KMap.set 0 c.damaged (cntKey subject c.par) 1
    { c with bank := KMap.set (0, 0) (KMap.set (0, 0) c.bank (cntKey subject false) (0, 0)) (cntKey subject true) (0, 0),
             damaged := if c.closing.isSome then KMap.set 0 dam (cntKey subject (!c.par)) 1 else dam })

/-- Takes a metered notice of a slice (R427, R431, R432). -/
def State.takeMetered (s : State) (e subject bytes inst : Nat) : State :=
  let c := s.cyc
  let early := match c.closing with
    | some x => !x.frozen && decide (inst < x.boundary)
    | none => false
  let note (w : CycWin) : CycWin := { w with taken := w.taken + 1, takenBytes := w.takenBytes + bytes }
  if early then (s.modWin (!c.par) note).addWb e ⟨subject, !c.par, 1, bytes⟩
  else
    let late (w : CycWin) : CycWin :=
      if inst < w.openAt then { w with late := true, latePkts := w.latePkts + 1, lateBytes := w.lateBytes + bytes } else w
    (s.modWin c.par (fun w => late (note w))).cacheAdd e ⟨subject, c.par, 1, bytes⟩

/-- NOTICE_PROCESS (R426, R427): the first notice of a slice's FIFO is taken. -/
def noticeProcess (e : Nat) (s : State) : State :=
  match KMap.get [] s.eg.fifo e with
  | [] => s
  | n :: l =>
    if !s.counting then s
    else
      let s1 := ({ s with eg := { s.eg with fifo := KMap.set [] s.eg.fifo e l } }.bump Ctr.CYC_NOTICES 1).ledAdd ldNotice e 1 1
      match noticeSubject (s.mapEntry n.queue) n with
      | some x => s1.takeMetered e x (s.noticeBytes n) n.inst
      | none =>
        let par := match s.cyc.closing with
          | some x => if !x.frozen && decide (n.inst < x.boundary) then !s.cyc.par else s.cyc.par
          | none => s.cyc.par
        s1.modWin par (fun w => { w with unmetered := w.unmetered + 1 })

/-- COUNTER_WRITEBACK (R428, R443): the first write-back of a slice's cache reaches its counter word. -/
def counterWriteback (e : Nat) (w : WordRes) (s : State) : State :=
  match s.cycWb e with
  | [] => s
  | x :: l =>
    let s1 := (s.modCyc (fun c => { c with wb := KMap.set [] c.wb e l })).bump Ctr.CYC_WRITEBACKS 1
    (if w = .uncorrectable then s1.counterLost x.subject x.par else s1).bankAdd x

/-! ### Intervals (R430 to R433) -/

/-- The first boundary of a schedule at or after an instant, and the last one at or before it (zero before the first); instants in units of
2^-32 s. -/
def firstBoundary (interval phase t : Nat) : Nat :=
  let c := (t + second - 1) / second
  (if c ≤ phase then phase else phase + (c - phase + interval - 1) / interval * interval) * second
def lastBoundary (interval phase t : Nat) : Nat :=
  if t / second < phase then 0 else (phase + (t / second - phase) / interval * interval) * second

/-- The 2^-12 s settle span, in island cycles. -/
def settleTicks : Nat := 244141

/-- The schedule that the registers hold. -/
def State.regInterval (s : State) : Nat := max 1 (s.fld Reg.CYC_INTERVAL Fld.CYC_INTERVAL_SECONDS)
def State.regPhase (s : State) : Nat := s.fld Reg.CYC_PHASE Fld.CYC_PHASE_SECONDS % s.regInterval

/-- A window that opens at an instant. -/
def State.newWin (s : State) (t : Nat) : CycWin := { CycWin.init with openAt := t, unsealed := !s.sealed, refused := s.refusedCount }

def State.cycFormat (s : State) : Nat := s.fld Reg.CYC_STATUS Fld.CYC_STATUS_FORMAT

/-- The section that waits takes over, with dual writing when its format differs (R441, R442). -/
def State.takeSection (s : State) : State :=
  match s.cyc.newSec with
  | none => s
  | some x =>
    let old := s.cycFormat
    let new := (Config.cycFormat x.hash).toNat
    let s1 := (s.modCyc (fun c => { c with sec := some x, newSec := none, dual := if new = old then c.dual else some old })).setFld Reg.CYC_STATUS
      Fld.CYC_STATUS_FORMAT new
    s1.setFlag Reg.CYC_STATUS Fld.CYC_STATUS_DUAL s1.cyc.dual.isSome

/-- INTERVAL_BOUNDARY (R430, R432, R441): the open interval closes at the last boundary reached; its cache entries are written back. -/
def intervalBoundary (s : State) : State :=
  let c := s.cyc
  if !s.counting ∨ c.closing.isSome ∨ s.islandNow < c.next then s
  else
    let t := max c.next (lastBoundary c.interval c.phase s.islandNow)
    let interval := s.regInterval
    let phase := s.regPhase
    let s1 := (List.range 16).foldl (fun s e =>
      let l := s.cycCache e
      s.modCyc (fun d => { d with cache := KMap.set [] d.cache e (l.filter (fun x => x.par != c.par)),
                                  wb := KMap.set [] d.wb e (KMap.get [] d.wb e ++ l.filter (fun x => x.par == c.par)) })) s
    let s2 := s1.modCyc (fun d =>
      { d with closing := some { win := c.win, boundary := t, tick := c.ticks, isSealed := s.sealed, frozen := false,
                                 ver := (c.sec.map (·.ver)).getD 0, fmt := s.cycFormat, dual := c.dual },
               win := s.newWin t, par := !c.par, interval := interval, phase := phase, next := firstBoundary interval phase (t + second) })
    s2.takeSection

/-- INTERVAL_FREEZE (R432): after the settle span the closing bank is frozen; the write-backs that the rate of R429 has done by then are in it. -/
def intervalFreeze (s : State) : State :=
  match s.cyc.closing with
  | none => s
  | some x =>
    if x.frozen ∨ s.cyc.ticks < x.tick + settleTicks then s
    else
      let s1 := (List.range 16).foldl (fun s e =>
        let l := (s.cycWb e).filter (fun y => y.par != s.cyc.par)
        let s1 := (l.foldl (fun s y => s.bankAdd y) s).bump Ctr.CYC_WRITEBACKS l.length
        s1.modCyc (fun d => { d with wb := KMap.set [] d.wb e ((KMap.get [] d.wb e).filter (fun y => y.par == d.par)) })) s
      s1.modCyc (fun d => { d with closing := d.closing.map (fun y => { y with frozen := true }) })

/-! ### Records (R434 to R436) -/

def storeSize : Nat := 234881024
def storeUnits : Nat := 3670016
def unitsOf (n : Nat) : Nat := (n + 63) / 64

/-- Units of the store in use: from the oldest held record to the next one's place. -/
def State.storeUsed (s : State) : Nat :=
  match s.cyc.recs with
  | [] => 0
  | r :: _ => let d := (s.cyc.tail + storeSize - r.off) % storeSize / 64; if d = 0 then storeUnits else d

/-- The directory slot for the next record: the first free one behind the last record's. -/
def State.nextSlot (s : State) : Option Nat :=
  let from_ := match s.cyc.recs.getLast? with
    | some r => r.slot + 1
    | none => 0
  ((List.range 256).map (fun i => (from_ + i) % 256)).find? (fun i => !s.cyc.recs.any (fun r => r.slot == i))

/-- The window registers follow the held records (R445). -/
def State.windowRegs (s : State) : State :=
  let pub := s.cyc.recs.filter (·.published)
  let s1 := (s.setFld Reg.CYC_WIN_STATUS Fld.CYC_WIN_STATUS_RECORDS pub.length).setFlag Reg.CYC_WIN_STATUS Fld.CYC_WIN_STATUS_VALID (!pub.isEmpty)
  let s2 := s1.setFld Reg.CYC_WIN_OLDEST Fld.CYC_WIN_OLDEST_SLOT ((pub.head?.map (·.slot)).getD 0)
  s2.setFld Reg.CYC_WIN_FREE Fld.CYC_WIN_FREE_UNITS (storeUnits - s.storeUsed)

def State.storeByte (s : State) (o : Nat) : Byte := KMap.get 0 s.cyc.store (o % storeSize)
def State.storeBytes (s : State) (o n : Nat) : List Byte := (List.range n).map (fun i => s.storeByte (o + i))
def State.setStore (s : State) (o : Nat) (d : List Byte) : State :=
  s.modCyc (fun c => { c with store := (d.zipIdx).foldl (fun m (b, i) => KMap.set 0 m ((o + i) % storeSize) b) c.store })

/-- The trailer's MAC put into a record of format 1: CMAC over the SHA-384 of every other byte (R435). -/
def macRecord (key : Nat) (b : List Byte) : List Byte :=
  let n := b.length - 32
  let rest := b.take n ++ b.drop (n + 16)
  b.take n ++ beBytes 16 (cmac key (beBytes 48 (sha384 rest))) ++ b.drop (n + 16)

/-- Authenticates and publishes a held record. A record in another format is authenticated in its own way (assumption 23). -/
def State.publishRec (s : State) (r : CycRec) : State :=
  let b := s.storeBytes r.off r.len
  let key := s.kvcKey 0xFE
  let m := if r.fmt = 1 then macRecord key b else b
  let s1 := (s.setStore r.off m).modCyc (fun c => { c with recs := c.recs.map (fun x => if x.slot = r.slot then { x with published := true } else x) })
  ((((s1.setReg (Reg.CYC_DIR_SEQ r.slot) (BitVec.ofNat 32 r.seq)).setReg (Reg.CYC_DIR_FMT r.slot) (BitVec.ofNat 32 (r.fmt * 65536 + r.flags))).setReg
    (Reg.CYC_DIR_OFFSET r.slot) (BitVec.ofNat 32 r.off)).setReg (Reg.CYC_DIR_LENGTH r.slot) (BitVec.ofNat 32 r.len)).windowRegs

/-- Publishes what waits, in closing order, while slot 0xFE is loaded (R421, R433). -/
def State.publishAll (s : State) : State :=
  if !s.slotLoaded 0xFE then s else (s.cyc.recs.filter (fun r => !r.published)).foldl (fun s r => s.publishRec r) s

/-- Puts a record into the store. -/
def State.storeRec (s : State) (seq fmt flags : Nat) (b : List Byte) : State :=
  match s.nextSlot with
  | none => s
  | some slot =>
    let off := s.cyc.tail
    (s.setStore off b).modCyc (fun c => { c with recs := c.recs ++ [⟨c.run, seq, fmt, flags, off, b.length, slot, false⟩],
                                                 tail := (off + 64 * unitsOf b.length) % storeSize })

/-- The entries of a closing bank in ascending subject order: subject, damaged, packets, bytes (R433, R443). -/
def State.recEntries (s : State) (par : Bool) : List (Nat × Bool × Nat × Nat) :=
  let keys := (s.cyc.bank.keys.foldl (fun m k => KMap.set 0 m k 1) s.cyc.damaged).keys.filter (fun k => k % 2 == par.toNat)
  (keys.map (fun k => (k / 2, KMap.get 0 s.cyc.damaged k == 1, KMap.get (0, 0) s.cyc.bank k))).filter (fun e => e.2.1 || e.2.2.1 != 0)

/-- The FLAGS of a record (R434). -/
def recFlags (x : CycClose) (damaged : Bool) : Nat :=
  x.isSealed.toNat * 2 ^ 15 + x.win.unsealed.toNat * 2 ^ 14 + x.win.extended.toNat * 2 ^ 13 + x.win.late.toNat * 2 ^ 12 +
    x.win.discont.toNat * 2 ^ 11 + x.dual.isSome.toNat * 2 ^ 10 + x.win.first.toNat * 2 ^ 9 + damaged.toNat * 2 ^ 8

/-- A record of format 1, its MAC still zero (R434, R435). -/
def State.recordBytes (s : State) (x : CycClose) (seq : Nat) (es : List (Nat × Bool × Nat × Nat)) : List Byte :=
  let tot := (es.map (fun e => e.2.2.1)).sum
  let totB := (es.map (fun e => e.2.2.2)).sum
  beBytes 2 1 ++ beBytes 2 (recFlags x (es.any (fun e => e.2.1))) ++ beBytes 4 seq ++ beBytes 8 s.cyc.run.toNat ++ beBytes 10 x.win.openAt ++
    beBytes 10 x.boundary ++ beBytes 2 s.sealCount ++ beBytes 2 x.ver ++ beBytes 4 es.length ++
    beBytes 4 (s.cyc.win.refused + 2 ^ 32 - x.win.refused) ++ beBytes 8 s.serial ++ beBytes 8 tot ++ beBytes 8 totB ++ beBytes 8 x.win.unmetered ++
    beBytes 8 x.win.latePkts ++ beBytes 8 x.win.lateBytes ++ beBytes 4 x.win.memErr ++ zeros 28 ++
    es.flatMap (fun e => beBytes 1 e.2.1.toNat ++ beBytes 3 e.1 ++ beBytes 8 e.2.2.1 ++ beBytes 8 e.2.2.2 ++ zeros 4) ++
    zeros 16 ++ beBytes 4 (128 + 24 * es.length + 32) ++ zeros 12

/-- The interval that could not be recorded continues into the open one (R436). -/
def State.deferClose (s : State) (x : CycClose) : State :=
  let c := s.cyc
  let closingKeys := c.bank.keys.filter (fun k => k % 2 == (!c.par).toNat)
  let s1 := closingKeys.foldl (fun s k => s.bankAdd ⟨k / 2, c.par, (KMap.get (0, 0) c.bank k).1, (KMap.get (0, 0) c.bank k).2⟩) s
  let w := x.win
  let merge (v : CycWin) : CycWin :=
    { openAt := w.openAt, extended := true, late := w.late || v.late, discont := w.discont || v.discont, unsealed := w.unsealed || v.unsealed,
      first := w.first, unmetered := w.unmetered + v.unmetered, latePkts := w.latePkts + v.latePkts, lateBytes := w.lateBytes + v.lateBytes,
      memErr := w.memErr + v.memErr, refused := w.refused, taken := w.taken + v.taken, takenBytes := w.takenBytes + v.takenBytes }
  (s1.modCyc (fun d =>
    { d with bank := d.bank.filter (fun k _ => k % 2 == d.par.toNat), closing := none, win := merge d.win,
             damaged := (d.damaged.keys.foldl (fun m k => KMap.set 0 m (cntKey (k / 2) d.par) 1) d.damaged).filter (fun k _ => k % 2 == d.par.toNat) })).setFlag
    Reg.CYC_STATUS Fld.CYC_STATUS_STORE_FULL true

/-- The loss of damaged counter words is final at the close: the notices taken less the entries (R443, R453). -/
def State.closeLoss (s : State) (x : CycClose) (es : List (Nat × Bool × Nat × Nat)) : State :=
  match es.find? (fun e => e.2.1) with
  | none => s
  | some e =>
    s.loss ldNotice lcUncorr 0 (((es.map (fun e => e.2.2.1)).sum : Int) - (x.win.taken : Int)) (((es.map (fun e => e.2.2.2)).sum : Int) - (x.win.takenBytes : Int))
      e.1 false

/-- RECORD_CLOSE (R433, R436, R442): the frozen bank is read and zeroed, its record written, authenticated and published. `bad` are the subjects whose
counter word was uncorrectable when read. -/
def recordClose (bad : List Nat) (s0 : State) : State :=
  match s0.cyc.closing with
  | none => s0
  | some x0 =>
    if !x0.frozen then s0
    else
      let s := bad.foldl (fun s b => s.counterLost b (!s.cyc.par)) s0
      let x := s.cyc.closing.getD x0
      let es := s.recEntries (!s.cyc.par)
      let seq := s.cyc.seq + 1
      let b := s.recordBytes x seq es
      let form (f : Nat) : List Byte := if f = 1 then b else Config.cycRecord f b
      let fmts := match x.dual with
        | some f => [f, x.fmt]
        | none => [x.fmt]
      let need := (fmts.map (fun f => unitsOf (form f).length)).sum
      if storeUnits < s.storeUsed + need ∨ 256 < s.cyc.recs.length + fmts.length then s.deferClose x
      else
        let s1 := fmts.foldl (fun s f => s.storeRec (seq % 2 ^ 32) f (recFlags x (es.any (fun e => e.2.1))) (form f)) s
        let s2 := (s1.modCyc (fun d =>
          { d with bank := d.bank.filter (fun k _ => k % 2 == d.par.toNat), damaged := d.damaged.filter (fun k _ => k % 2 == d.par.toNat), closing := none,
                   seq := seq })).setFlag Reg.CYC_STATUS Fld.CYC_STATUS_STORE_FULL false
        (s2.closeLoss x es).windowRegs.publishAll

/-- Releases held records that a test names. -/
def State.releaseRecs (s : State) (f : CycRec → Bool) : State :=
  let gone := s.cyc.recs.filter (fun r => r.published && f r)
  let s1 := gone.foldl (fun s r => s.setReg (Reg.CYC_DIR_LENGTH r.slot) 0) s
  (s1.modCyc (fun c => { c with recs := c.recs.filter (fun r => !(r.published && f r)) })).windowRegs

/-- CYC_ACK_SEQ (R436): releases the records of this run at or before a number, modulo 2^32. -/
def cycAckSeq (v : Word) (s : State) : State :=
  if !s.metered then s
  else (s.setReg Reg.CYC_ACK v).releaseRecs (fun r => r.run == s.cyc.run && decide ((v.toNat + 2 ^ 32 - r.seq) % 2 ^ 32 < 2 ^ 31))

/-- OLD_RUNS (R436). -/
def oldRuns (v : Word) (s : State) : State :=
  if !s.metered ∨ Fld.CYC_ACK_OLD_OLD_RUNS.get v ≠ 1 then s else s.releaseRecs (fun r => r.run != s.cyc.run)

/-! ### Island time (R431) -/

/-- Spans in island cycles of 1 ns. -/
def markerTicks : Nat := 954
def lossTicks : Nat := 3815
def returnTicks : Nat := 976563

/-- The island begins to count: the first window of its run opens. -/
def State.startCounting (s : State) : State :=
  let t := s.islandNow
  (s.modCyc (fun c => { c with win := { s.newWin t with first := true }, interval := s.regInterval, phase := s.regPhase,
                               next := firstBoundary s.regInterval s.regPhase (t + 1) })).setFlag Reg.CYC_STATUS Fld.CYC_STATUS_COUNTING true

/-- ISLAND_MARKER (R431): a marker of the follower's instant and increment; a difference above 2^-20 s is taken at once. -/
def islandMarker (s : State) : State :=
  let c := s.cyc
  let due := match c.marker with
    | some m => decide (m + markerTicks ≤ c.ticks)
    | none => true
  if !s.metered ∨ !due ∨ !s.flag Reg.TIME_CTRL Fld.TIME_CTRL_SERVICE ∨ !s.tdieUp ∨ s.aon.held ∨ c.sec.isNone then s
  else
    let inc := 3 * s.time.followerInc.toNat
    let f := s.time.follower.toNat
    let i := c.island.toNat
    let s1 := s.modCyc (fun c => { c with inc := inc, marker := some c.ticks, alone := false })
    if c.marker.isNone then (s1.modCyc (fun c => { c with island := s.time.follower })).startCounting
    else if max f i - min f i ≤ 2 ^ 44 then
      s1.modCyc (fun d => { d with corr := (f : Int) - (i : Int), corrLeft := if c.alone then returnTicks else markerTicks })
    else
      s1.modCyc (fun d => { d with island := s.time.follower, corr := 0, corrLeft := 0, win := { d.win with discont := true },
                                   next := if f < i then firstBoundary d.interval d.phase (f >>> 32 + 1) else d.next })

/-- ISLAND_MARKER_LOSS (R431): without a marker for 2^-18 s the island runs on at its last increment. -/
def islandMarkerLoss (s : State) : State :=
  match s.cyc.marker with
  | none => s
  | some m => if s.cyc.ticks < m + lossTicks then s else s.modCyc (fun c => { c with alone := true, corr := 0, corrLeft := 0 })

/-- One cycle of 1.0 GHz of the island: its accumulator advances, and CYC_BP_CYCLES counts while a slice is held (R429, R431);
a thermal trip halts it (R509). -/
def State.islandTick (s : State) : State :=
  if !s.metered || s.aon.trip then s
  else
    let c := s.cyc
    let step : Int := if c.corrLeft = 0 then 0 else c.corr / (c.corrLeft : Int)
    let s1 := s.modCyc (fun c =>
      { c with ticks := c.ticks + 1, island := if c.marker.isSome then c.island + BitVec.ofInt 112 ((c.inc : Int) + step) else c.island,
               corr := c.corr - step, corrLeft := c.corrLeft - 1 })
    if (List.range 16).any (fun e => decide (noticeFifo ≤ (KMap.get [] s.eg.fifo e).length)) then s1.bump Ctr.CYC_BP_CYCLES 1 else s1

/-! ### Keys and sections (R421, R437, R441) -/

/-- The record MAC key of a section, unwrapped under slot 0xFF, if its key check value holds (R421). -/
def State.macKey (s : State) (x : CycSec) : Option Nat :=
  let b := (Config.cycMacKey x.hash).toNat
  let kek := s.kvcKey 0xFF
  let k := 2 ^ 256 + aesDec kek (b / 2 ^ 192) * 2 ^ 128 + aesDec kek (b / 2 ^ 64 % 2 ^ 128)
  if s.slotLoaded 0xFF ∧ aesEnc k 0 / 2 ^ 64 = b % 2 ^ 64 then some k else none

/-- CYC_MAC_KEY_LOAD (R421, R433): the running section's key goes into slot 0xFE, and the records that wait are published; where its check fails the slot
is left empty. -/
def cycMacKeyLoad (s : State) : State :=
  match s.cyc.sec with
  | none => s
  | some x =>
    if !s.metered ∨ !s.slotLoaded 0xFF then s
    else (((s.loadSlot 0xFE (s.macKey x)).nextGen 0xFE).publishAll)

/-- The Cyclometer acts on an accepted section: the first since the island came up brings its configuration block and runs at once; the running one
changes nothing; another takes over at the next boundary (R437, R441). -/
def State.acceptSection (s : State) (x : CycSec) : State :=
  match s.cyc.sec with
  | none =>
    let i := max 1 (min 86400 (Config.cycInterval x.hash).toNat)
    let s1 := (s.setFld Reg.CYC_INTERVAL Fld.CYC_INTERVAL_SECONDS i).setFld Reg.CYC_PHASE Fld.CYC_PHASE_SECONDS ((Config.cycPhase x.hash).toNat % i)
    let s2 := (List.range 132).foldl (fun s p => s.setFld (Reg.CYC_PORT_OVH p) Fld.CYC_PORT_OVH_OVH (Config.cycOverhead x.hash p).toNat) s1
    (s2.modCyc (fun c => { c with sec := some x })).setFld Reg.CYC_STATUS Fld.CYC_STATUS_FORMAT (Config.cycFormat x.hash).toNat
  | some y =>
    if y.hash = x.hash then s
    else
      let s1 := s.modCyc (fun c => { c with newSec := some x })
      if s.counting then s1 else s1.takeSection

/-! ### The seal (R437 to R440, R442) -/

/-- A write of a register of the SL type: refused and counted while sealed (R12, R437). -/
def State.slWrite (s : State) (f : State → State) : State := if s.sealed then s.sealRefused else f s

/-- Ends a signed command with a status; one that passed its checks draws a new nonce (R438). -/
def State.authEnd (s : State) (status : Nat) (accepted : Bool) : State :=
  let s1 := (s.setFlag Reg.CYC_AUTH_CTRL Fld.CYC_AUTH_CTRL_BUSY false).setFld Reg.CYC_AUTH_CTRL Fld.CYC_AUTH_CTRL_STATUS status
  if accepted then s1.drawNonce Reg.CYC_NONCE else s1

/-- Runs the command in the mailbox (R438 to R440, R442). `burnt` is whether the burn of a seal counter bit verifies. -/
def State.cycAuth (s : State) (burnt : Bool) : State :=
  if !s.metered then s
  else
    let m := s.mailbox Reg.CYC_AUTH_MBOX
    let code := beAt m 0 2
    let st := s.authCheck s.authHash m Reg.CYC_NONCE (code == 3) []
    if st ≠ acOk then s.authEnd st false
    else if code = 1 ∧ s.sealed then
      if 64 ≤ s.sealCount then s.authEnd acExhausted true
      else if !burnt then s.authEnd acOtpFail true
      else
        let s1 := s.burn (7936 + s.sealCount) 1
        let s2 := (s1.setFlag Reg.CYC_STATUS Fld.CYC_STATUS_SEALED false).setFld Reg.CYC_STATUS Fld.CYC_STATUS_SEAL_COUNT s1.sealCount
        (s2.modCyc (fun c => { c with win := { c.win with unsealed := true } })).authEnd acOk true
    else if code = 2 ∧ !s.sealed then (s.setFlag Reg.CYC_STATUS Fld.CYC_STATUS_SEALED true).authEnd acOk true
    else if code = 3 ∧ s.cyc.dual.isSome ∧ beAt m 28 4 % 65536 = s.cycFormat then
      ((s.modCyc (fun c => { c with dual := none })).setFlag Reg.CYC_STATUS Fld.CYC_STATUS_DUAL false).authEnd acOk true
    else s.authEnd acState false

/-- A signed command of one code: the mailbox holds it (R439). -/
def cycCommand (code : Nat) (burnt : Bool) (s : State) : State :=
  if beAt (s.mailbox Reg.CYC_AUTH_MBOX) 0 2 = code then s.cycAuth burnt else s

/-! ### Registers (R426, R437, R444) -/

/-- CYC_MAP_WRITE (R426). -/
def cycMapWrite (v : Word) (s : State) : State :=
  if !s.metered then s
  else
    s.slWrite (fun s =>
      let w := s.reg Reg.CYC_MAP_DATA
      if mapBad w then s.setFlag Reg.CYC_MAP_STATUS Fld.CYC_MAP_STATUS_ERR true
      else s.modCyc (fun c => { c with map := KMap.set none c.map (Fld.CYC_MAP_CMD_QUEUE.get v) (some w) }))

/-- CYC_MAP_READ (R444). -/
def cycMapRead (v : Word) (s : State) : State :=
  if !s.metered then s else s.setReg Reg.CYC_MAP_DATA (s.mapEntry (Fld.CYC_MAP_CMD_QUEUE.get v))

/-- METER_CHANNEL_CHECK (R3, R330, R423): the first write of CYC_CH_CFG; setting EN runs the check, which `ok` answers. -/
def meterChannelCheck (c : Nat) (v : Word) (ok : Bool) (s : State) : State :=
  let a := Reg.CYC_CH_CFG c
  if !s.metered ∨ KMap.get 0 s.written a = 1 then s
  else
    let s1 := s.rwo a (v &&& 0x80000000)
    if !s1.flag a Fld.CYC_CH_CFG_EN then s1
    else if ok then s1.setFlag (Reg.CYC_CH_STATUS c) Fld.CYC_CH_STATUS_UP true
    else
      let s2 := (s1.setFlag (Reg.CYC_CH_STATUS c) Fld.CYC_CH_STATUS_LINK_FAIL true).modCap 2 20 (fun w => { w with percent := 0 })
      if bsVerify ≤ s2.bootState ∧ s2.bootState ≤ bsRunning then s2.startFails bcMeterDram c else s2

/-! ### Metering DRAM (R334, R423, R443) -/

/-- A scrub or another read of a metering word finds it uncorrectable: a counter word loses its counts; 32 bytes of the store are lost, and what they
read as is open. -/
def State.meterLost (s : State) (l : MemLoc) : State :=
  let k := (Config.meterAt (memKey l)).toNat
  if k < 2 ^ 23 then s.counterLost k s.cyc.par
  else
    let o := (k - 2 ^ 23) * 32
    if s.cyc.recs.any (fun r => decide ((o + storeSize - r.off) % storeSize < r.len)) then
      let (d1, s1) := s.draw
      let (d2, s2) := s1.draw
      (s2.setStore o (beBytes 16 d1 ++ beBytes 16 d2)).modWin s.cyc.par (fun w => { w with memErr := w.memErr + 1 })
    else s

/-- SCRUB_PASS of any memory: a metering word is the Cyclometer's (R334, R423, R443). -/
def scrubAny (l : MemLoc) (w : WordRes) (s : State) : State :=
  if isMeter l then (if w = .uncorrectable ∧ s.metered then s.meterLost l else s) else scrubPass l w s

/-- SCRUB_PASS. -/
def execScrubPass (l : MemLoc) (w : WordRes) (s : State) : Host.Outcome State Fault Refusal := answer s (scrubAny l w s)
/-- NOTICE_PROCESS. -/
def execNoticeProcess (e : Fin 16) (s : State) : Host.Outcome State Fault Refusal := answer s (noticeProcess e.val s)
/-- COUNTER_WRITEBACK. -/
def execCounterWriteback (e : Fin 16) (w : WordRes) (s : State) : Host.Outcome State Fault Refusal := answer s (counterWriteback e.val w s)
/-- INTERVAL_BOUNDARY. -/
def execIntervalBoundary (s : State) : Host.Outcome State Fault Refusal := answer s (intervalBoundary s)
/-- INTERVAL_FREEZE. -/
def execIntervalFreeze (s : State) : Host.Outcome State Fault Refusal := answer s (intervalFreeze s)
/-- RECORD_CLOSE. -/
def execRecordClose (bad : List (BitVec 23)) (s : State) : Host.Outcome State Fault Refusal := answer s (recordClose (bad.map (·.toNat)) s)
/-- ISLAND_MARKER. -/
def execIslandMarker (s : State) : Host.Outcome State Fault Refusal := answer s (islandMarker s)
/-- ISLAND_MARKER_LOSS. -/
def execIslandMarkerLoss (s : State) : Host.Outcome State Fault Refusal := answer s (islandMarkerLoss s)
/-- ISLAND_POWER_UP. -/
def execIslandPowerUp (s : State) : Host.Outcome State Fault Refusal := answer s s.islandReset
/-- CYC_MAC_KEY_LOAD. -/
def execCycMacKeyLoad (s : State) : Host.Outcome State Fault Refusal := answer s (cycMacKeyLoad s)
/-- CYC_ACK_SEQ. -/
def execCycAckSeq (v : Word) (s : State) : Host.Outcome State Fault Refusal := answer s (cycAckSeq v s)
/-- OLD_RUNS. -/
def execOldRuns (v : Word) (s : State) : Host.Outcome State Fault Refusal := answer s (oldRuns v s)
/-- UNSEAL: the burn of the seal counter bit verifies or not. -/
def execUnseal (burnt : Bool) (s : State) : Host.Outcome State Fault Refusal := answer s (cycCommand 1 burnt s)
/-- SEAL. -/
def execSeal (s : State) : Host.Outcome State Fault Refusal := answer s (cycCommand 2 false s)
/-- CONFIRM_FORMAT. -/
def execConfirmFormat (s : State) : Host.Outcome State Fault Refusal := answer s (cycCommand 3 false s)
/-- CYC_MAP_WRITE. -/
def execCycMapWrite (v : Word) (s : State) : Host.Outcome State Fault Refusal := answer s (cycMapWrite v s)
/-- CYC_MAP_READ. -/
def execCycMapRead (v : Word) (s : State) : Host.Outcome State Fault Refusal := answer s (cycMapRead v s)
/-- METER_CHANNEL_CHECK. -/
def execMeterChannelCheck (c : Fin 2) (v : Word) (ok : Bool) (s : State) : Host.Outcome State Fault Refusal :=
  answer s (meterChannelCheck (24 + c.val) v ok s)

end Sys2Proof.Machine
end

