-- ==== Sys2Proof/Machine/Truing.lean ====
section
/-! DEFINITION. Truing: the ledgers, the audit, faults and purges (R446 to R456). -/

namespace Sys2Proof.Machine

def truKey (ledger scope : Nat) : Nat := ledger * 2 ^ 16 + scope
def State.truBase (s : State) (ledger scope : Nat) : Int := KMap.get 0 s.tru.base (truKey ledger scope)
def State.addBase (s : State) (ledger scope : Nat) (d : Int) : State :=
  { s with tru := { s.tru with base := KMap.set 0 s.tru.base (truKey ledger scope) (s.truBase ledger scope + d) } }

/-! ### The equations (R448 to R450): observed minus expected -/

/-- Copies committed against copies handed on and copies in the transit FIFO. -/
def State.eqIngress (s : State) (i : Nat) : Int := s.ledGet ldIngress i 1 + (KMap.get [] s.ing.transit i).length - s.ledGet ldIngress i 0

/-- Copies launched against copies sent, dropped, and queued or partly sent. -/
def State.eqFabTx (s : State) : Int :=
  let open_ := ((s.ing.transit.l.flatMap (·.2)).map (fun c => (c.prog.getD []).length)).sum
  s.ledGet ldFabTx 0 1 + s.reg64 Ctr.FAB_TX_UNREACH_DROP.lo + s.reg64 Ctr.FAB_TX_PEER_DROP.lo + open_ - s.ledGet ldFabTx 0 0

/-- The PSEQ advance against packets completed, lost and open. -/
def State.eqFabRx (s : State) : Int :=
  s.ledGet ldFabRx 0 1 + s.reg64 Ctr.FAB_RX_PKT_LOST.lo + (s.fab.dst.l.map (fun e => e.2.opened.length)).sum - s.ledGet ldFabRx 0 0

/-- Copies between dequeue and egress commit, of a quadrant. -/
def State.egCrossing (s : State) (q : Nat) : Nat :=
  (s.eg.copies.l.filter (fun (_, o) => match o with
    | some x => x.stage != .done && x.copy.queue / 131072 == q
    | none => false)).length

/-- Copies entering against commits, counted drops, and copies in buffer, in residue and between dequeue and commit (R449). -/
def State.eqEgress (s : State) (q : Nat) : Int :=
  let buffered := ((s.tm.queues.l.filter (fun e => e.1 / 131072 == q)).map (fun e => e.2.copies.length)).sum
  s.ledGet ldEgress q 2 + s.ledGet ldEgress q 1 + buffered + (s.quad q).residue.length + s.egCrossing q - s.ledGet ldEgress q 0

/-- A pool part: what a fault has left of free entries and references beyond those configured (R281). -/
def State.eqPool (s : State) (n : Nat) : Int := KMap.get 0 (s.quad (n / 4)).bias (n % 4)

/-- Tokens consumed, capped and held against tokens generated (R450). -/
def State.eqPolicer (s : State) (i : Nat) : Int :=
  let t := s.tokens i
  let held := ((s.ing.buckets.l.filter (fun e => e.1 / 65536 == i)).map (fun e => e.2.tc + e.2.tp)).sum
  let taken := ((s.allPkts.filter (fun x => x.2.slice == i && x.2.stage != .committed && x.2.stage != .handed)).map (fun x =>
    (x.2.charges.map (fun c => if c.committed then 2 * c.amount else c.amount)).sum)).sum
  t.used + t.capped + held + taken - t.gen

/-- Credit consumed, capped and held against credit generated (R450). -/
def State.eqShaper (s : State) (q : Nat) : Int :=
  let held := ((s.sch.node.l.filter (fun e => nodeQuad (e.1 / 2 ^ 20) (e.1 % 2 ^ 20) == q)).map (fun e => e.2.credit)).sum
  s.ledGet ldShaper q 1 + s.ledGet ldShaper q 2 + held - s.ledGet ldShaper q 0

/-- The bounds of FAB_CREDIT: GRANTED − SENT − RETURNED below 2^31 at the source; the receive store within OUTSTANDING at the destination. -/
def State.eqCredit (s : State) (scope : Nat) : Int :=
  if scope = 0 then ((s.fab.src.l.map (fun e => e.2.credit - (2 ^ 31 - 1))).sum : Nat)
  else (((s.fab.dst.l.map (fun e => e.2.held.length)).sum - s.outstanding : Nat) : Int)

/-- The bounds of RING. -/
def State.eqRing (s : State) (g : Nat) : Int :=
  let n := s.ringSlots g
  let r := s.ring g
  (((idxDiff r.descProd (s.descCons g) - n) + (r.reserved + idxDiff (s.cplProd g) r.cplCons - n) : Nat) : Int)

/-- Commits on line and host ports against notices taken, queued and crossing. -/
def State.eqNotice (s : State) (e : Nat) : Int :=
  s.ledGet ldNotice e 1 + (KMap.get [] s.eg.fifo e).length + (KMap.get [] s.eg.wait e).length - s.ledGet ldNotice e 0

/-- The imbalance of a ledger's scope, before the amounts already reported. -/
def State.equation (s : State) (ledger scope : Nat) : Int :=
  match ledger with
  | 1 => s.eqIngress scope
  | 2 => s.eqFabTx
  | 3 => s.eqFabRx
  | 4 => s.eqEgress scope
  | 5 => s.eqPool scope
  | 6 => s.eqPolicer scope
  | 7 => s.eqShaper scope
  | 8 => s.eqCredit scope
  | 9 => s.eqRing scope
  | _ => s.eqNotice scope

/-- The scopes of a ledger. -/
def State.scopes (s : State) (ledger : Nat) : List Nat :=
  match ledger with
  | 1 => List.range 16
  | 2 => [0]
  | 3 => [0]
  | 4 => List.range 4
  | 5 => List.range 16
  | 6 => List.range 16
  | 7 => List.range 4
  | 8 => [0, 1]
  | 9 => s.ringsUsed
  | _ => if s.metered then List.range 16 else []

/-- The ledgers whose terms cross the die-to-die link (R453). -/
def crosses (ledger : Nat) : Bool := ledger == 1 || ledger == 2 || ledger == 4 || ledger == 9 || ledger == 10

/-- Whether a scope is PENDING (R453). -/
def State.isPending (s : State) (ledger scope : Nat) : Bool :=
  KMap.get 0 s.tru.pend (truKey ledger scope) == 1 || (ledger == 5 && s.quarantined (scope / 4) (scope % 4)) ||
    (crosses ledger && (!s.fdieUp || !s.tdieUp || s.linkQuiesced))

/-- The scopes of every audited ledger that are not PENDING. -/
def State.audited (s : State) : List (Nat × Nat) :=
  let en := s.fld Reg.TRU_CFG Fld.TRU_CFG_LEDGER_EN
  ((List.range 10).filter (fun i => en.testBit i)).flatMap (fun i => ((s.scopes (i + 1)).filter (fun x => !s.isPending (i + 1) x)).map (fun x => (i + 1, x)))

/-! ### The audit (R451, R452, R455) -/

/-- Notes an imbalance that a faulty update has left in a structure. -/
def State.faultyUpdate (s : State) (x : LedgerDelta) : State :=
  if x.ledger = 5 then
    let q := s.quad (x.scope / 4)
    s.setQuad (x.scope / 4) { q with bias := KMap.set 0 q.bias (x.scope % 4) (KMap.get 0 q.bias (x.scope % 4) + x.delta) }
  else s.addBase x.ledger x.scope (-x.delta)

/-- A fixed counter of a die's set, unless its counters are held (R461). -/
def State.bumpFixed (s : State) (lo d : Nat) : State :=
  if (KMap.get .init s.pmc d).frozen then s else s.setReg64 lo ((s.reg64 lo + 1) % 2 ^ 64)

/-- TRUING_SNAPSHOT (R451, R452): every quantity is taken at once; `errs` are the imbalances that faulty updates have left since the last one. -/
def truingSnapshot (errs : List LedgerDelta) (s0 : State) : State :=
  if !s0.trigDue tgAudit (spanExp 10) then s0
  else
    let s := s0.trigFire tgAudit (spanExp 10)
    let s1 := errs.foldl (fun s x => s.faultyUpdate x) s
    if !s.flag Reg.TRU_CFG Fld.TRU_CFG_EN ∨ !s.tdieUp then s1
    else if s.tru.snap.isSome then s1.bump Ctr.TRU_SKIP 1
    else
      let l := s1.audited.map (fun (x : Nat × Nat) => (⟨x.1, x.2, s1.equation x.1 x.2 - s1.truBase x.1 x.2⟩ : LedgerDelta))
      let s2 := { s1 with tru := { s1.tru with snap := some (s1.nowT, l.filter (fun x => x.delta != 0)) } }
      let s3 := s2.setFlag Reg.TRU_STATUS Fld.TRU_STATUS_BUSY true
      (s3.bumpFixed (Reg.PMC_FIX_AUDITS_LO 0) 0).bumpFixed (Reg.PMC_FIX_AUDITS_LO 1) 1

/-- TRU_FAULT (R455): a failing ledger is logged and raised; a pool part is quarantined, any other scope is rebased. -/
def State.truFault (s : State) (x : LedgerDelta) : State :=
  let s1 :=
    if s.flag Reg.TRU_STATUS Fld.TRU_STATUS_FAULT then s
    else
      let d := BitVec.ofInt 64 x.delta
      ((((s.setFlag Reg.TRU_STATUS Fld.TRU_STATUS_FAULT true).setReg Reg.TRU_FAULT_LOG (BitVec.ofNat 32 (2 ^ 31 + x.ledger * 2 ^ 16 + x.scope))).setReg
        Reg.TRU_FAULT_DELTA_LO (BitVec.ofNat 32 d.toNat)).setReg Reg.TRU_FAULT_DELTA_HI (BitVec.ofNat 32 (d.toNat >>> 32)))
  let loc := (Config.eventLoc 0x0B00 (truKey x.ledger x.scope)).toNat
  let s2 := ((s1.ierrLog ieConservation 2 63 0x0B00 loc).ownerEvent 0x0B00 2 63 loc []).bump Ctr.TRU_FAULTS 1
  let s3 := (s2.bumpFixed (Reg.PMC_FIX_FAULTS_LO 0) 0).bumpFixed (Reg.PMC_FIX_FAULTS_LO 1) 1
  if x.ledger = 5 then s3.quarantine (x.scope / 4) (x.scope % 4)
  else (s3.addBase x.ledger x.scope x.delta).loss x.ledger lcUnexplained x.scope x.delta 0 0 false

/-- TRUING_EVALUATE (R452): the evaluation of the snapshot ends. -/
def truingEvaluate (s : State) : State :=
  match s.tru.snap with
  | none => s
  | some (t, l) =>
    let s1 := l.foldl (fun s x => s.truFault x) { s with tru := { s.tru with snap := none } }
    ((((s1.setFlag Reg.TRU_STATUS Fld.TRU_STATUS_BUSY false).setReg Reg.TRU_LAST_FRAC (BitVec.ofNat 32 t)).setReg Reg.TRU_LAST_SEC
      (BitVec.ofNat 32 (t >>> 32)))).bump Ctr.TRU_AUDITS 1

/-! ### Purges (R454) -/

/-- Clears the enable bit of a queue. -/
def State.queueOff (s : State) (n : Nat) : State :=
  { s with tm := { s.tm with qcfg := KMap.set 0 s.tm.qcfg n (s.qcfg n &&& ~~~ (0x20000000 : BitVec 128)) } }

/-- Takes every copy of a queue; `drain` counts each as a drop of the DRAIN port. Answers the copies and their bytes. -/
def State.emptyQueue (s : State) (n : Nat) (drain : Bool) : Nat → Nat × Nat × State
  | 0 => (0, 0, s)
  | fuel + 1 =>
    match s.takeCopy n with
    | none => (0, 0, s)
    | some (c, s1) =>
      let s2 := if drain then (s1.bump (Ctr.SCH_DRAIN_PKTS (n / 131072)) 1).egDrop (n / 131072) else s1
      let (a, b, s3) := (s2.releaseCopy c).emptyQueue n drain fuel
      (a + 1, b + c.len, s3)

/-- Copies in residue of a purged queue expire at once. -/
def State.purgeResidue (s : State) (q : Nat) (f : Nat → Bool) : State :=
  (List.range (s.quad q).residue.length).foldl (fun s _ =>
    match (s.quad q).residue.findIdx? (fun r => f r.queue) with
    | none => s
    | some n => match (s.quad q).residue[n]? with | some r => s.expire1 q n r | none => s) s

/-- A purge ordered through TRU_PURGE_CMD: its queues are disabled and their copies leave, drained as counted drops or freed into the loss ledger. -/
def purge (drain : Bool) (s : State) : State :=
  let first := s.fld Reg.TRU_PURGE_FIRST Fld.TRU_PURGE_FIRST_QUEUE
  let count := s.fld Reg.TRU_PURGE_COUNT Fld.TRU_PURGE_COUNT_COUNT
  let q := first / 131072
  if count = 0 ∨ (first + count - 1) / 131072 ≠ q ∨ s.flag Reg.TRU_PURGE_STATUS Fld.TRU_PURGE_STATUS_BUSY then
    s.setFlag Reg.TRU_PURGE_STATUS Fld.TRU_PURGE_STATUS_ERR true
  else
    let inside (n : Nat) : Bool := decide (first ≤ n) && decide (n < first + count)
    let s1 := (s.tm.qcfg.keys.filter inside).foldl (fun s n => s.queueOff n) s
    let (a, b, s2) := (s1.tm.queues.keys.filter inside).foldl (fun (a, b, s) n =>
      let (x, y, s2) := s.emptyQueue n drain (s.queue n).copies.length
      (a + x, b + y, s2)) (0, 0, s1)
    let s3 := s2.purgeResidue q inside
    let s4 :=
      if drain ∨ a = 0 then s3
      else ((s3.addBase ldEgress q (-(a : Int))).loss ldEgress lcPurge q (-(a : Int)) (-(b : Int)) 0 false).loss ldPool lcPurge (4 * q) (-(a : Int)) (-(b : Int)) 0
        false
    { s4 with tru := { s4.tru with purge := some (first, count) } }.setFlag Reg.TRU_PURGE_STATUS Fld.TRU_PURGE_STATUS_BUSY true

/-- PURGE_END (R454): the purge ends; its queues stay disabled. -/
def purgeEnd (s : State) : State :=
  match s.tru.purge with
  | none => s
  | some _ => { s with tru := { s.tru with purge := none } }.setFlag Reg.TRU_PURGE_STATUS Fld.TRU_PURGE_STATUS_BUSY false

/-- TRUING_SNAPSHOT. -/
def execTruingSnapshot (errs : List LedgerErr) (s : State) : Host.Outcome State Fault Refusal :=
  answer s (truingSnapshot (errs.map (fun e => ⟨e.ledger.val + 1, e.scope.toNat, e.delta.toInt⟩)) s)
/-- TRUING_EVALUATE. -/
def execTruingEvaluate (s : State) : Host.Outcome State Fault Refusal := answer s (truingEvaluate s)
/-- DRAIN. -/
def execDrain (s : State) : Host.Outcome State Fault Refusal := answer s (onT (purge true) s)
/-- DISCARD. -/
def execDiscard (s : State) : Host.Outcome State Fault Refusal := answer s (onT (purge false) s)
/-- PURGE_END. -/
def execPurgeEnd (s : State) : Host.Outcome State Fault Refusal := answer s (purgeEnd s)

end Sys2Proof.Machine
end

