-- ==== Sys2Proof/Machine/Pmc.lean ====
section
/-! DEFINITION. The performance counters of each die (R457 to R462). -/

namespace Sys2Proof.Machine

def State.pmcSt (s : State) (d : Nat) : PmcSt := KMap.get .init s.pmc d
def State.setPmcSt (s : State) (d : Nat) (x : PmcSt) : State := { s with pmc := KMap.set .init s.pmc d x }

/-- The Equinox time of a die: 0 Forwarding, 1 Traffic. -/
def State.dieNow (s : State) (d : Nat) : Nat := if d = 0 then s.now else s.nowT

/-! ### Sources (R458) -/

/-- The overflow register and bit of the counter that a selection names; none for a selection that counts no events. -/
def pmcSource (d cluster block sub event : Nat) : Option (Nat × Nat) :=
  let base := (d + 1) * 2 ^ 28 + cluster * 2 ^ 22 + block * 2 ^ 14
  let slice := decide (d = 0) && decide (cluster < 16)
  let perPort := slice && (block == 0 || block == 1 || block == 6)
  let hif := decide (d = 0) && cluster == 63 && block == 0x20
  let tdc := decide (d = 0) && cluster == 63 && block == 9
  let hbm := decide (d = 1) && cluster == 63 && block == 1
  if 0x80 ≤ event then none
  else if 0x40 ≤ event then
    if slice && block == 5 && decide (sub < 16) then
      let n := 64 * sub + event - 0x40
      some (base + 0x1800 + 4 * (n / 32), n % 32)
    else none
  else if perPort then (if sub < 8 then some (base + 0x11F0 + 0x400 * sub, event) else none)
  else if hif then (if sub < 4 then some (base + 0x101F0 + 0x10000 * sub, event) else none)
  else if tdc then (if sub = 31 then some (base + 0xF0, event) else if sub < 24 then some (base + 0x10F0 + 0x100 * sub, event) else none)
  else if hbm then (if sub = 31 then some (base + 0x3F0, event) else if sub < 8 then some (base + 0x13F0 + 0x400 * sub, event) else none)
  else if sub ≠ 0 then none
  else if slice && block == 2 then some (base + 0x2F0, event)
  else some (base + 0x1F0, event)

/-- The occupancy that a selection names, if it names one; requests waiting in a memory's service class are open, since this model serves requests as they
are commanded (assumption 28). -/
def State.pmcOcc (s : State) (d cluster block sub event : Nat) : Option Nat :=
  let slice := decide (d = 0) && decide (cluster < 16) && block == 3
  match event with
  | 0x80 => if slice then some (s.transitUsed cluster) else none
  | 0x81 => if slice then some (KMap.get [] s.ing.respinQ cluster).length else none
  | 0x82 => if slice then some (KMap.get [] s.ing.learnHold cluster).length else none
  | 0x83 => if d = 0 ∧ cluster = 63 ∧ block = 0x12 then some (KMap.get 0 s.ing.puntRoom sub) else none
  | 0x84 => if d = 1 ∧ cluster < 4 ∧ block = 2 then some (s.quad cluster).residue.length else none
  | 0x85 => if d = 1 ∧ cluster < 4 ∧ block = 0 then some (s.pdFree cluster) else none
  | 0x86 => if d = 1 ∧ cluster = 63 ∧ block = 0 then some s.outstanding else none
  | 0x87 => if d = 1 ∧ cluster = 20 ∧ block = 0 then some (KMap.get [] s.eg.fifo sub).length else none
  | _ => none

def isQueueOcc (d cluster block event : Nat) : Bool :=
  decide (0x88 ≤ event) && decide (event < 0x8C) && cluster == 63 && ((d == 0 && block == 9) || (d == 1 && block == 1))

/-! ### Counting (R459, R460) -/

/-- The selections of a die's set: counter number and word, of those that count. -/
def State.pmcSelected (s : State) (d : Nat) : List (Nat × Word) :=
  s.regs.l.filterMap (fun (a, w) =>
    if Reg.PMC_SEL d 0 ≤ a ∧ a ≤ Reg.PMC_SEL d 4095 ∧ Fld.PMC_SEL_EN.get w = 1 then some ((a - Reg.PMC_SEL d 0) / 4, w) else none)

/-- Adds to a counter: the first wrap after a clear raises PMC_OVERFLOW while OVF_EVT is set (R460). -/
def State.pmcAdd (s : State) (d n k : Nat) : State :=
  if (s.pmcSt d).frozen ∨ k = 0 then s
  else
    let lo := Reg.PMC_VAL_LO d n
    let v := s.reg64 lo + k
    let s1 := s.setReg64 lo (v % 2 ^ 64)
    if v < 2 ^ 64 then s1
    else
      let a := Reg.PMC_OVF d (n / 32)
      let was := (s1.reg a).toNat.testBit (n % 32)
      let s2 := s1.setReg a (s1.reg a ||| BitVec.ofNat 32 (2 ^ (n % 32)))
      if !was && s.flag (Reg.PMC_CTRL d) Fld.PMC_CTRL_OVF_EVT then s2.ownerEvent 0x0C00 (d + 1) 63 n [] else s2

/-- The counts on their way reach the counters that select them, under the selections as they stand (R457, R459). -/
def State.pmcDeliver (s : State) : State :=
  let inp := s.pmcIn
  let s1 := { s with pmcIn := [] }
  if inp.isEmpty then s1
  else
    [0, 1].foldl (fun s d => (s.pmcSelected d).foldl (fun s (n, w) =>
      if Fld.PMC_SEL_MODE.get w ≠ 0 then s
      else
        match pmcSource d (Fld.PMC_SEL_CLUSTER.get w) (Fld.PMC_SEL_BLOCK.get w) (Fld.PMC_SEL_SUB.get w) (Fld.PMC_SEL_EVENT.get w) with
        | none => s
        | some (ovf, bit) => s.pmcAdd d n ((inp.filter (fun x => x.1 == ovf && x.2.1 == bit)).map (·.2.2)).sum) s) s1

/-- One cycle of the sources of the modes ABOVE, SUM and CYCLES (R459); a selection that names no source counts nothing. -/
def State.pmcCycle (s : State) : State :=
  [0, 1].foldl (fun s d => (s.pmcSelected d).foldl (fun s (n, w) =>
    let cl := Fld.PMC_SEL_CLUSTER.get w
    let bl := Fld.PMC_SEL_BLOCK.get w
    let sub := Fld.PMC_SEL_SUB.get w
    let ev := Fld.PMC_SEL_EVENT.get w
    let mode := Fld.PMC_SEL_MODE.get w
    if mode = 0 then s
    else
      let (occ, s1) := if isQueueOcc d cl bl ev then (let (x, s1) := s.draw; (some (x % 2 ^ 16), s1)) else (s.pmcOcc d cl bl sub ev, s)
      let above := match occ with | some o => decide (s.fld (Reg.PMC_THR d n) Fld.PMC_THR_N < o) | none => false
      if mode = 1 then s1.pmcAdd d n above.toNat
      else if mode = 2 then s1.pmcAdd d n (occ.getD 0)
      else s1.pmcAdd d n (if occ.isSome || (pmcSource d cl bl sub ev).isSome then 1 else 0)) s) s

/-! ### Snapshots and freezes (R461) -/

/-- A target: an Equinox instant, or an elapsed time. -/
def State.targetReached (s : State) (d : Nat) (t : Bool × Nat) : Bool := if t.1 then decide (t.2 ≤ s.dieNow d) else decide (t.2 ≤ s.mono)

/-- The target of a write: PMC_SNAP_AT when AT is set, whose upper seconds are those of now; otherwise 2^-20 s on. -/
def State.pmcTarget (s : State) (d : Nat) : Bool × Nat :=
  if s.flag (Reg.PMC_CTRL d) Fld.PMC_CTRL_AT then
    (true, s.dieNow d / 2 ^ 64 * 2 ^ 64 + (s.reg (Reg.PMC_SNAP_AT_SEC d)).toNat * 2 ^ 32 + (s.reg (Reg.PMC_SNAP_AT_FRAC d)).toNat)
  else (false, s.mono + spanExp 20)

/-- A write of PMC_CTRL. -/
def pmcCtrlWrite (d : Nat) (v : Word) (s : State) : State :=
  let a := Reg.PMC_CTRL d
  let was := s.flag a Fld.PMC_CTRL_FREEZE
  let s1 := s.setReg a (v &&& 0xB0000000)
  let t := s1.pmcTarget d
  let x := s1.pmcSt d
  let x1 := if Fld.PMC_CTRL_SNAP.get v = 1 then { x with snap := some t } else x
  let now := Fld.PMC_CTRL_FREEZE.get v == 1
  s1.setPmcSt d (if now = was then x1 else { x1 with freeze := some (t.1, t.2, now) })

/-- PMC_TARGET_REACHED (R461): the snapshot or freeze of a die takes effect once its target has come. -/
def pmcTargetReached (d : Nat) (s0 : State) : State :=
  let s := s0.pmcDeliver
  let x := s.pmcSt d
  let (s1, x1) := match x.snap with
    | none => (s, x)
    | some t =>
      if s.targetReached d t then
        ((List.range 4096).foldl (fun s n =>
          if s.flag (Reg.PMC_SEL d n) Fld.PMC_SEL_LATCH then s else s.setReg64 (Reg.PMC_SNAPV_LO d n) (s.reg64 (Reg.PMC_VAL_LO d n))) s, { x with snap := none })
      else (s, x)
  let x2 := match x1.freeze with
    | none => x1
    | some (k, t, f) => if s.targetReached d (k, t) then { x1 with freeze := none, frozen := f } else x1
  s1.setPmcSt d x2

/-- PMC_VAL_WRITE (R460): sets a counter; counts of the same cycle are lost to it. -/
def pmcValWrite (d n v : Nat) (s : State) : State := s.pmcDeliver.setReg64 (Reg.PMC_VAL_LO d n) v

/-! ### The once-per-second latch (R64, R461) -/

/-- The counters with LATCH. -/
def State.pmcLatching (s : State) (d : Nat) : List Nat := ((s.pmcSelected d).filter (fun x => Fld.PMC_SEL_LATCH.get x.2 == 1)).map (·.1)

/-- At a latch the counts of the closing window go to the closing bank. -/
def State.pmcClose (s0 : State) : State :=
  let s := s0.pmcDeliver
  [0, 1].foldl (fun s d =>
    let x := s.pmcSt d
    let x1 := (s.pmcLatching d).foldl (fun x n =>
      let v := s.reg64 (Reg.PMC_VAL_LO d n)
      { x with closed := KMap.set 0 x.closed n ((v + 2 ^ 64 - KMap.get 0 x.base n) % 2 ^ 64), base := KMap.set 0 x.base n v }) { x with closed := .empty }
    s.setPmcSt d x1) s

/-- The closing bank is published. -/
def State.pmcPublish (s : State) : State :=
  [0, 1].foldl (fun s d => (s.pmcLatching d).foldl (fun s n => s.setReg64 (Reg.PMC_SNAPV_LO d n) (KMap.get 0 (s.pmcSt d).closed n)) s) s

/-- SNAP. -/
def execSnap (d : Fin 2) (v : Word) (s : State) : Host.Outcome State Fault Refusal := answer s (onDie d (pmcCtrlWrite d.val (Fld.PMC_CTRL_SNAP.put v 1)) s)
/-- FREEZE. -/
def execFreeze (d : Fin 2) (v : Word) (s : State) : Host.Outcome State Fault Refusal := answer s (onDie d (pmcCtrlWrite d.val v) s)
/-- PMC_TARGET_REACHED. -/
def execPmcTargetReached (d : Fin 2) (s : State) : Host.Outcome State Fault Refusal := answer s (pmcTargetReached d.val s)
/-- PMC_VAL_WRITE. -/
def execPmcValWrite (d : Fin 2) (n : Fin 4096) (v : BitVec 64) (s : State) : Host.Outcome State Fault Refusal := answer s (onDie d (pmcValWrite d.val n.val v.toNat) s)

end Sys2Proof.Machine
end

