-- ==== Sys2Proof/Machine/Fence.lean ====
section
/-! DEFINITION. Spare lookup stages, fenced slices and their takeover, and the substitution of engines (R17, R511 to R514). Slices are numbered as
clusters: 0 to 15 ingress, 16 to 31 egress. -/

namespace Sys2Proof.Machine

/-- The bits of PWR_FENCE and PWR_SPARE_STAGE lie at the slice number: ingress low, egress high. -/
def State.spareStageUsed (s : State) (sl : Nat) : Bool := (s.reg Reg.PWR_SPARE_STAGE).getLsbD sl
def State.isFenced (s : State) (sl : Nat) : Bool := (s.reg Reg.PWR_FENCE).getLsbD sl
def State.setBit (s : State) (a i : Nat) : State := s.setReg a (s.reg a ||| BitVec.ofNat 32 (2 ^ i))

/-- How a slice stands: 0 serves, 1 fenced and waiting, 2 taken over, 3 without a slice (R512, R513). -/
def State.sliceStand (s : State) (sl : Nat) : Nat := if sl < 16 then KMap.get 0 s.ing.fence sl else KMap.get 0 s.eg.fence (sl - 16)
def State.setStand (s : State) (sl v : Nat) : State :=
  if sl < 16 then { s with ing := { s.ing with fence := KMap.set 0 s.ing.fence sl v } }
  else { s with eg := { s.eg with fence := KMap.set 0 s.eg.fence (sl - 16) v } }

/-- Slice i xor 1 of the same direction. -/
def partnerOf (sl : Nat) : Nat := if sl % 2 = 0 then sl + 1 else sl - 1

/-- The spare stage takes a failed one's place; `logged` is whether the repair log records it already. -/
def State.takeSpareStage (s : State) (sl stage : Nat) (logged : Bool) : State :=
  let s1 := (s.setBit Reg.PWR_SPARE_STAGE sl).modCap 1 sl (fun c => { c with spare := 0 })
  if logged then s1 else s1.logRepair (5 * 2 ^ 28 + sl * 2 ^ 16 + stage) rlStage true 1 sl stage

/-- A packet of a fenced ingress slice that has not passed the failed stage reads an uncorrectable result (R512). -/
def State.fenceIngress (s : State) (i : Nat) (past : Nat → Bool) : State :=
  s.allPkts.foldl (fun s (p, k) =>
    let inside := k.stage != .queued && k.stage != .respinQ && k.stage != .committed && k.stage != .handed
    if k.slice == i && inside && !past p then s.dropCause p k dcFwdDrop else s) s

/-- A copy of a fenced egress slice that has not passed the failed stage reads an EMPTY entry (R512). -/
def State.fenceEgress (s : State) (e : Nat) (past : Nat → Bool) : State :=
  s.eg.copies.l.foldl (fun s (n, o) =>
    match o with
    | some x => if x.slice == e && x.stage == .staged && !past n then s.egressDrop n x Ctr.EGT_KIND_DROP else s
    | none => s) s

/-- The frames that wait for a lane group without an ingress slice are dropped (R513). -/
def State.dropWaiting (s : State) (i : Nat) : State :=
  s.allPkts.foldl (fun s (p, k) =>
    if k.slice == i && k.line && k.stage == .queued then s.dropPkt p k (Ctr.PWR_FENCE_DROP i) else s) s

/-- The slice is fenced (R512, R513, R544). -/
def State.fence (s : State) (sl stage : Nat) (logged : Bool) (past : Nat → Bool) : State :=
  let s1 := (s.setBit Reg.PWR_FENCE sl).modCap 1 sl (fun c => { c with fenced := true, percent := 0, count := 0 })
  let s2 := if logged then s1 else s1.logRepair 0 rlFence true 1 sl stage
  let s3 := s2.ownerEvent 0x0F03 1 sl sl []
  let q := partnerOf sl
  let s4 := if s3.isFenced q then (s3.setStand sl 3).setStand q 3 else s3.setStand sl 1
  let s5 := if sl < 16 then s4.fenceIngress sl past else s4.fenceEgress (sl - 16) past
  if sl < 16 ∧ s5.isFenced q then (s5.dropWaiting sl).dropWaiting q else s5

/-- SLICE_FENCED (R512): a lookup stage fails its check: the spare stage takes its place, or the slice is fenced. `past` are the packets that have passed
the failed stage. -/
def State.stageFails (s : State) (sl stage : Nat) (logged : Bool) (past : Nat → Bool) : State :=
  if !s.spareStageUsed sl then s.takeSpareStage sl stage logged
  else if s.isFenced sl then s
  else s.fence sl stage logged past

/-- FENCE_TAKEOVER (R513, R514): the partner takes over the lane group and the host rings of a fenced slice. -/
def fenceTakeover (sl : Nat) (s : State) : State :=
  if s.sliceStand sl ≠ 1 then s
  else (s.setStand sl 2).modCap 1 (partnerOf sl) (fun c => { c with percent := 50, count := 2 })

/-- ENGINE_SUBSTITUTION (R17): a spare takes the place of a failed core, lookup stage or memory row, if one is left. -/
def engineSubstitution (e : Engine) (s : State) : State :=
  match e with
  | .core k core =>
    let a := Reg.CPX_CAP k.val
    let n := s.fld a Fld.CPX_CAP_SPARES
    if n = 0 then s else ((s.setFld a Fld.CPX_CAP_SPARES (n - 1)).coreCap k.val).logCore k.val core.val
  | .stage sl n => if s.spareStageUsed sl.val then s else s.takeSpareStage sl.val n.toNat false
  | .row l => if KMap.get 0 s.mem.spare (goneKey (memKind l) (s.memRegion l)) < spareRows (memKind l) then s.rowFails l else s

/-- SLICE_FENCED. -/
def execSliceFenced (sl : Fin 32) (stage : BitVec 16) (past : List (BitVec 32)) (s : State) : Host.Outcome State Fault Refusal :=
  answer s (s.stageFails sl.val stage.toNat false (fun n => past.any (fun p => p.toNat == n)))
/-- FENCE_TAKEOVER. -/
def execFenceTakeover (sl : Fin 32) (s : State) : Host.Outcome State Fault Refusal := answer s (fenceTakeover sl.val s)
/-- ENGINE_SUBSTITUTION. -/
def execEngineSubstitution (e : Engine) (s : State) : Host.Outcome State Fault Refusal := answer s (engineSubstitution e s)

end Sys2Proof.Machine
end

