-- ==== Sys2Proof/Machine/Boot.lean ====
section
/-! DEFINITION. The start of the device: the boot ROM, the image and its authentication, the start sequence, failed starts and Kickstand mode
(R466 to R474, R478, R541). -/

namespace Sys2Proof.Machine

/-! ### Images (R469, R471) -/

/-- A reader of image bytes. -/
abbrev ImgRd := Nat → Byte

def rdBytes (rd : ImgRd) (o n : Nat) : List Byte := (List.range n).map (fun i => rd (o + i))
def rdBE (rd : ImgRd) (o n : Nat) : Nat := ofBE (rdBytes rd o n)

/-- The largest image, and the bytes of a leaf. -/
def imageMax : Nat := 67108864
def leafSize : Nat := 65536

/-- A row of the section table. -/
structure SecRow where
  kind : Nat
  conf : Bool
  off : Nat
  len : Nat
  deriving DecidableEq, Repr

def secRow (rd : ImgRd) (i : Nat) : SecRow :=
  let a := 264 + 32 * i
  ⟨(rd a).toNat, (rd (a + 1)).toNat % 2 == 1, rdBE rd (a + 4) 4, rdBE rd (a + 8) 4⟩

def imgSections (rd : ImgRd) : Nat := rdBE rd 6 2
def imgLength (rd : ImgRd) : Nat := rdBE rd 16 4
def imgKey (rd : ImgRd) : List Byte := rdBytes rd 68 97

/-- Whether the header is well formed. -/
def headerOk (rd : ImgRd) : Bool :=
  let n := imgSections rd
  rdBE rd 0 4 == 0x474D4E31 && rdBE rd 4 2 == 1 && decide (1 ≤ n) && decide (n ≤ 16) && decide (264 + 32 * n ≤ imgLength rd) &&
    decide (imgLength rd ≤ imageMax) && rdBE rd 165 3 == 0

/-- Whether row `i` of the section table is well formed: its kind, its zeros, its place, and that it is no second section of a kind of which one
appears. -/
def rowOk (rd : ImgRd) (i : Nat) : Bool :=
  let r := secRow rd i
  let a := 264 + 32 * i
  decide (1 ≤ r.kind) && decide (r.kind ≤ 4) && decide ((rd (a + 1)).toNat < 2) && rdBE rd (a + 2) 2 == 0 && rdBE rd (a + 12) 20 == 0 &&
    decide (r.off + r.len ≤ imgLength rd) && (!r.conf || decide (48 ≤ r.len)) &&
    (r.kind == 3 || !(List.range i).any (fun j => (secRow rd j).kind == r.kind))

/-- The first check of R470: the failing section, 0xFFFF for the header or a section that does not appear. -/
def formatFault (rd : ImgRd) : Option Nat :=
  if !headerOk rd then some 0xFFFF
  else
    match (List.range (imgSections rd)).find? (fun i => !rowOk rd i) with
    | some i => some i
    | none =>
      if [1, 2, 4].all (fun k => (List.range (imgSections rd)).any (fun i => (secRow rd i).kind == k)) then none else some 0xFFFF

/-- One level of the hash tree: pairs are hashed, a node without a partner is carried up. -/
def treePairs : List Nat → List Nat
  | a :: b :: r => sha384 (beBytes 48 a ++ beBytes 48 b) :: treePairs r
  | l => l

/-- The root of the tree over leaf hashes; `n` bounds the levels. -/
def treeUp : Nat → List Nat → Nat
  | 0, l => l.headD 0
  | n + 1, l => if l.length ≤ 1 then l.headD 0 else treeUp n (treePairs l)

/-- An image byte as the tree takes it: bytes 20 to 67 and 168 to 263 are zero. -/
def treeByte (rd : ImgRd) (a : Nat) : Byte := if (20 ≤ a ∧ a < 68) ∨ (168 ≤ a ∧ a < 264) then 0 else rd a

def leaves (n : Nat) : Nat := (n + leafSize - 1) / leafSize

/-- The root over the first `n` bytes of an image. -/
def imgRoot (rd : ImgRd) (n : Nat) : Nat :=
  treeUp 32 ((List.range (leaves n)).map (fun i => sha384 (rdBytes (treeByte rd) (i * leafSize) (min leafSize (n - i * leafSize)))))

def rootOk (rd : ImgRd) (n : Nat) : Bool := imgRoot rd n == rdBE rd 20 48
def sigOk (rd : ImgRd) : Bool := ecdsaOk (imgKey rd) (sha384 (rdBytes rd 0 168)) (rdBytes rd 168 96)

/-- A section's plain bytes: none where the key check of R411 fails. A confidential section begins with its wrapped key, the key check value and the
counter (R471). -/
def secPlain (rd : ImgRd) (devKey : Nat) (r : SecRow) : Option (List Byte) :=
  if !r.conf then some (rdBytes rd r.off r.len)
  else
    let k := 2 ^ 256 + aesDec devKey (rdBE rd r.off 16) * 2 ^ 128 + aesDec devKey (rdBE rd (r.off + 16) 16)
    if aesEnc k 0 / 2 ^ 64 ≠ rdBE rd (r.off + 32) 8 then none
    else
      let c := rdBE rd (r.off + 40) 8
      let n := r.len - 48
      some ((List.range ((n + 15) / 16)).flatMap (fun i =>
        let ks := beBytes 16 (aesEnc k (Config.ctrBlock (BitVec.ofNat 64 (c + i))).toNat)
        (ks.zip (rdBytes rd (r.off + 48 + 16 * i) (min 16 (n - 16 * i)))).map (fun (x, y) => x ^^^ y)))

/-- How the checks of R470 and R471 end: a cause with its detail, or the image. -/
inductive ImgRes where
  | bad (cause detail : Nat)
  | good (i : Img)
  deriving DecidableEq, Repr

/-- The checks of R470 in their order, then the decryption of R471. `leaf` is the leaf that a failing tree is found at. -/
def State.checkImage (s : State) (rd : ImgRd) (leaf : Nat) : ImgRes :=
  match formatFault rd with
  | some d => .bad bcFormat d
  | none =>
    let owner := match s.ownerHash with
      | some h => some h
      | none => s.rootHash
    if some (sha384 (imgKey rd)) ≠ owner then .bad bcKey 0
    else if !sigOk rd then .bad bcSignature 0
    else if !rootOk rd (imgLength rd) then .bad bcTree (leaf % leaves (imgLength rd))
    else if rdBE rd 8 4 < s.minVersion then .bad bcRollback (rdBE rd 8 4 % 65536)
    else
      let rows := (List.range (imgSections rd)).map (secRow rd)
      if rows.any (·.conf) ∧ !s.flag Reg.KVC_CFG Fld.KVC_CFG_ENTROPY_OK then .bad bcEntropy 0
      else
        match (List.range rows.length).find? (fun i => (secPlain rd s.deviceKey (secRow rd i)).isNone) with
        | some i => .bad bcDecrypt i
        | none => .good ⟨rdBE rd 8 4, rdBE rd 12 4, rows.map (fun r => ⟨r.kind, (secPlain rd s.deviceKey r).getD []⟩)⟩

/-- The vault operations that decryption has used: UNWRAP into slot 0xFC, ENC for each block, and ERASE (R471). -/
def State.decryptOps (s : State) (rd : ImgRd) : State :=
  (List.range (imgSections rd)).foldl (fun s i =>
    let r := secRow rd i
    if r.conf then (((s.nextGen 0xFC).eraseSlot 0xFC).bump Ctr.KVC_OPS (2 + (r.len - 48 + 15) / 16)) else s) s

/-- The reader of the staging area, and of a table DRAM region. -/
def State.stagingRd (s : State) : ImgRd := fun a => KMap.get 0 s.boot.staging a
def State.regionRd (s : State) (loc : Nat) : ImgRd := fun a => KMap.get 0 s.ram (granuleAddr false loc + a)

/-- The sections of a kind. -/
def Img.section (i : Img) (kind : Nat) : Option (List Byte) := (i.secs.find? (·.kind == kind)).map (·.data)

def listRd (l : List Byte) : ImgRd := fun a => l.getD a 0

/-- A Cyclometer section, as the Cyclometer knows it (R441, R471). -/
def cycSec (d : List Byte) : CycSec := ⟨sha384 d, rdBE (listRd d) 8 4⟩

/-- What the checks of a Cyclometer section find (R437, R471, R472): a cause with its detail. -/
def State.cycSectionFault (s : State) (d : List Byte) : Option (Nat × Nat) :=
  let rd := listRd d
  if some (sha384 (imgKey rd)) ≠ s.cycImageHash then some (bcCycSection, 0)
  else if !sigOk rd then some (bcSignature, 1)
  else if !rootOk rd d.length then some (bcCycSection, 0)
  else
    match s.cyc.sec with
    | some x => if s.sealed ∧ x.hash ≠ sha384 d then some (bcCycSection, 1) else none
    | none => none

/-! ### The ROM (R467, R473, R478, R541) -/

/-- The kind of a repair log entry for a REPAIR record's kind. -/
def repairLogKind (k : Nat) : Nat := if k < 5 then rlMemory else if k = 5 then rlStage else rlCore

/-- Die, cluster and engine of a repair record (R541): region and row as R478 numbers them. -/
def repairPlace (k region row : Nat) : Nat × Nat × Nat :=
  match k with
  | 0 => (1, 63, 0)
  | 1 => (2, 63, 0)
  | 2 => (1, 63, 0)
  | 3 => (2, region / 40 % 4, 0)
  | 4 => (2, 63, 0)
  | 5 => (1, region % 32, row)
  | _ => (1, region, row)

/-- What a REPAIR entry does at the start, before the memories are enabled (R478). -/
def State.applyRepair (s : State) (k : Nat) (retire : Bool) (region row : Nat) : State :=
  let spare (s : State) : State :=
    if retire then s
    else
      let key := goneKey k region
      { s with mem := { s.mem with spare := KMap.set 0 s.mem.spare key (KMap.get 0 s.mem.spare key + 1) } }
  match k with
  | 0 =>
    if !retire then s
    else
      let st := Reg.TDC_CH_STATUS (region / 16)
      ((s.setGone 0 region 1).setFld st Fld.TDC_CH_STATUS_RETIRED (s.fld st Fld.TDC_CH_STATUS_RETIRED + 1)).modCap 1 63 (fun w => { w with count := w.count + 1 })
  | 1 => if retire then s.retireHbm region else spare s
  | 2 => if retire then s.retireSram region else spare s
  | 3 =>
    if !retire then spare s
    else
      let q := region / 40 % 4
      let part := ((List.range 3).find? (fun p => decide (region % 40 * 2 ^ 20 < s.bufByte q p (s.partCfg q p)))).getD 2
      s.retirePacket q part region
  | 4 => if retire then s.retireQueue region else spare s
  | 5 => s.stageFails (region % 32) row true (fun _ => false)
  | 6 =>
    let c := region % 16
    let a := Reg.CPX_CAP c
    let n := s.fld a Fld.CPX_CAP_SPARES
    (if 0 < n then s.setFld a Fld.CPX_CAP_SPARES (n - 1) else s.setFld a Fld.CPX_CAP_HARTS (s.fld a Fld.CPX_CAP_HARTS - 1)).coreCap c
  | _ => s

/-- One REPAIR entry: its repair log entry with SOFT clear, and its effect. -/
def State.romRepair (s : State) (e : Nat) : State :=
  if e / 2 ^ 31 = 0 then s
  else
    let k := e / 2 ^ 28 % 8
    let region := e / 2 ^ 16 % 2 ^ 11
    let row := e % 2 ^ 16
    let (die, cluster, engine) := repairPlace k region row
    (s.logRepair (e % 2 ^ 31) (repairLogKind k) false die cluster engine).applyRepair k (e.testBit 27) region row

/-- REDUCED stays clear through the changes that the start itself makes (R544). -/
def State.clearReduced (s : State) : State :=
  (List.range 128).foldl (fun s i =>
    let a := Reg.DEV_CAP (1 + i / 64) (i % 64)
    s.setReg a (s.reg a &&& 0xBFFFFFFF)) s

/-- The keys that the ROM loads: the device key and, on LT2560-A1-LM, CYC_KEK (R421, R467). -/
def State.romKeys (s : State) : State :=
  let s1 := (s.loadSlot 0xFD (some s.deviceKey)).nextGen 0xFD
  if s.metered then (s1.loadSlot 0xFF s.cycKek).nextGen 0xFF else s1

/-- ROM_START (R467, R473): the ROM reads the OTP records, loads the keys, applies the repairs and enters LOAD or Kickstand mode. -/
def romStart (s : State) : State :=
  if s.aon.held ∨ s.bootState ≠ bsRom then s
  else if (s.inForce otpIdentity).isNone then s.startFails bcOtp 0
  else if !s.flag Reg.KVC_CFG Fld.KVC_CFG_ENTROPY_OK then s.startFails bcEntropy 0
  else
    let s1 := (List.range 256).foldl (fun s i => s.romRepair (s.repairEntry i)) s.romKeys
    let s2 := (s1.clearReduced.kvcMode).setFld Reg.BOOT_STATUS Fld.BOOT_STATUS_LIMIT s.kickLimit
    if s.kickLimit ≤ s2.fld Reg.BOOT_STATUS Fld.BOOT_STATUS_FAILS then
      (s2.setFlag Reg.BOOT_STATUS Fld.BOOT_STATUS_KICKSTAND true).setBootState bsKickstand
    else s2.setBootState bootLoad

/-! ### The start sequence (R467, R468) -/

/-- A write that only the owner function makes: from other functions it is ignored under R348. -/
def State.ownerOnly (s : State) (r : Req) (f : State → State) : State :=
  match r with
  | .func n => if n = 0 then f s else s.viewRefused r
  | .hart _ => s

def State.bootRefused (s : State) : State := s.setFlag Reg.BOOT_STATUS Fld.BOOT_STATUS_REFUSED true

/-- BOOT_GO (R467, R468). -/
def bootGo (r : Req) (s : State) : State :=
  s.ownerOnly r (fun s =>
    if s.bootState ≠ bootLoad ∧ s.bootState ≠ bsKickstand then s.bootRefused
    else
      let w := max 1 (s.fld Reg.BOOT_CFG Fld.BOOT_CFG_WINDOW)
      { (s.setBootState bsVerify) with boot := { s.boot with window := some (s.mono + w * second) } })

/-- Starts the harts of a cluster at their domain vectors. -/
def State.startCluster (s : State) (k : Nat) : State :=
  (List.range (s.fld (Reg.CPX_CAP k) Fld.CPX_CAP_HARTS)).foldl (fun s i =>
    (s.setFlag (Reg.CPX_HART_CTRL (8 * k + i)) Fld.CPX_HART_CTRL_RUN true).restartHart (8 * k + i))
    (s.setFlag (Reg.CPX_CAP k) Fld.CPX_CAP_POWERED true)

/-- The values of the board section: the memory delays of R329 and R423 and the TIME_TS_ADJ values of R59. The PMD settings of R69 are no register. -/
def State.applyBoard (s : State) (b : List Byte) : State :=
  let v := ofBE b
  let put (mask : Nat) (s : State) (a : Nat) : State := s.setReg a (Config.boardReg v a &&& BitVec.ofNat 32 mask)
  let once (mask : Nat) (s : State) (a : Nat) : State := s.rwo a (Config.boardReg v a &&& BitVec.ofNat 32 mask)
  let lanes (f : Nat → Nat → Nat → Nat) (c : Nat) : List Nat := (List.range 8).map (fun i => f c (i / 4) (i % 4))
  let s1 := (List.range 24).foldl (fun s c => (lanes Reg.TDC_DLY c).foldl (put 0xFFFF0FFF) (put 0xFFF s (Reg.TDC_CA_DLY c))) s
  let s2 := (List.range 8).foldl (fun s st =>
    (List.range 128).foldl (fun s i => put 0xFFFFFFFF s (Reg.HBMC_DLY st (i / 4) (i % 4))) s) s1
  let s3 := (List.range 136).foldl (fun s n => put 0xFFFFFFFF s (Reg.TIME_TS_ADJ n)) s2
  if !s.metered then s3
  else [24, 25].foldl (fun s c => (lanes Reg.CYC_DLY c).foldl (once 0xFFFFFFFF) (once 0xFFF s (Reg.CYC_CA_DLY c))) s3

/-- In Kickstand mode only the supervisor section starts: it runs on k0 from staging (R473). -/
def State.kickstandRun (s : State) (i : Img) : State :=
  let s1 := { s with boot := { s.boot with img := some i } }
  ((s1.startCluster 0).setReg Reg.BOOT_IMAGE_VER (BitVec.ofNat 32 i.version)).setReg Reg.BOOT_STATE_VER (BitVec.ofNat 32 i.state) |>.setBootState bsRunning

/-- IMAGE_VERIFY_END (R467, R470, R471): verification ends; the board section is applied, or the start fails. -/
def imageVerifyEnd (s0 : State) : State :=
  if s0.bootState ≠ bsVerify then s0
  else
    let (d, s) := s0.draw
    match s.checkImage s.stagingRd d with
    | .bad c e => s.startFails c e
    | .good i =>
      let s1 := s.decryptOps s.stagingRd
      if s1.kickstand then s1.kickstandRun i
      else ({ (s1.applyBoard ((i.section 1).getD [])) with boot := { s1.boot with img := some i } }).setBootState bsMemory

/-- The configuration with which the ROM enables a channel: the board's ranks, density and spare regions. -/
def State.enableChannel (s : State) (bad : Option MemCtl) (m : MemCtl) : State :=
  let v := ofBE ((s.boot.img.bind (fun i => i.section 1)).getD [])
  match m with
  | .tdc c => channelCheck m ((Config.boardReg v (Reg.TDC_CH_CFG c.val) ||| 0x80000000) &&& 0xE0F00000) (bad != some m) s
  | .hbm _ => channelCheck m 0x80000000 (bad != some m) s

/-- The memory controllers that a start enables. -/
def startMemories : List MemCtl := (List.finRange 24).map MemCtl.tdc ++ (List.finRange 8).map MemCtl.hbm

/-- Copies the supervisor and application sections of an image into table DRAM; the number of a section of a running upgrade counts from 16. -/
def State.copySections (s : State) (i : Img) (from_ : Nat) : State :=
  (i.secs.zipIdx).foldl (fun s (x, n) =>
    if x.kind = 2 ∨ x.kind = 3 then s.pokeRam (Config.bootPlace x.kind (n + from_)).toNat (x.data.map some) else s) s

/-- BOOT_MEMORY_UP (R330, R467): the checks of the memories end. `bad` is the first channel or stack whose check failed. -/
def bootMemoryUp (bad : Option MemCtl) (s : State) : State :=
  if s.bootState ≠ bsMemory then s
  else
    let s1 := startMemories.foldl (fun s m => s.enableChannel bad m) s
    match bad with
    | some (.tdc c) => s1.startFails bcTableDram c.val
    | some (.hbm t) => s1.startFails bcHbm t.val
    | none =>
      match s1.boot.img with
      | none => s1
      | some i =>
        let s2 := s1.copySections i 0
        let s3 := { s2 with time := { s2.time with lease := s2.boot.window }, tdm := { s2.tdm with hb0 := some s2.mono } }
        (((s3.startCluster 0).setReg Reg.BOOT_IMAGE_VER (BitVec.ofNat 32 i.version)).setReg Reg.BOOT_STATE_VER
          (BitVec.ofNat 32 i.state)).setBootState bsClusters

/-- CYC_SECTION_VERIFY_END (R421, R437, R441, R467, R471): the Cyclometer section is verified and handed over. On LT2560-A1-L it is ignored. -/
def cycSectionVerifyEnd (s : State) : State :=
  if s.bootState ≠ bsClusters ∧ s.bootState ≠ bsCyclometer then s
  else if !s.metered then s.setBootState bsRunning
  else
    let d := (s.boot.img.bind (fun i => i.section 4)).getD []
    match s.cycSectionFault d with
    | some (c, e) => s.startFails c e
    | none =>
      if (s.macKey (cycSec d)).isNone then s.startFails bcCycKey 0
      else (s.acceptSection (cycSec d)).setBootState bsRunning

/-- A start between CLUSTERS and its verification of the Cyclometer section is in state CYCLOMETER: one cycle later. -/
def State.bootTick (s : State) : State := if s.bootState = bsClusters ∧ s.metered then s.setBootState bsCyclometer else s

/-- Whether the start window has closed on a start that runs (R472). -/
def State.windowOver (s : State) : Bool :=
  decide (bsVerify ≤ s.bootState ∧ s.bootState ≤ bsRunning) && (match s.boot.window with | some w => decide (w ≤ s.mono) | none => false)

/-- WINDOW_EXPIRED (R472). -/
def windowExpired (s : State) : State := if s.windowOver then s.startFails bcWindow s.bootState else s

/-- CONFIRM (R467, R468, R472, R473, R483): one at the close of the window is too late. -/
def confirm (r : Req) (s : State) : State :=
  s.ownerOnly r (fun s =>
    if s.bootState ≠ bsRunning then s.bootRefused
    else if s.windowOver then windowExpired s
    else
      let n := s.fld Reg.BOOT_LEASE_CFG Fld.BOOT_LEASE_CFG_SPAN
      let s1 := { (s.setBootState bsConfirmed) with
        boot := { s.boot with window := none, span := n }, time := { s.time with lease := some (s.mono + n * second) } }
      (if s1.kickstand then s1 else s1.setFld Reg.BOOT_STATUS Fld.BOOT_STATUS_FAILS 0).kvcMode)

/-- FIRMWARE_ABORT (R472): a write of BOOT_ABORT by a hart of domain 0. -/
def firmwareAbort (r : Req) (code : Nat) (s : State) : State :=
  match r with
  | .func _ => if s.isOwner r then s else s.viewRefused r
  | .hart _ =>
    if !s.isOwner r then s.viewRefused r
    else if bsClusters ≤ s.bootState ∧ s.bootState ≤ bsRunning then s.startFails bcAbort code else s

/-- FAIL_CLEAR (R474). -/
def failClear (r : Req) (s : State) : State :=
  s.ownerOnly r (fun s =>
    if s.kickstand then (s.setFld Reg.BOOT_STATUS Fld.BOOT_STATUS_FAILS 0).warmReset false else s)

/-- RESTART (R466). -/
def restart (r : Req) (s : State) : State := s.ownerOnly r (fun s => s.countedReset false)

/-- COLD_START (R466): the always-on rail comes up: its domain starts anew, and the device stays in reset until PORST_N is released. -/
def coldStart (s : State) : State :=
  let s1 := s.warmReset true
  let s2 := (((s1.setReg Reg.BOOT_CAUSE 0).setReg Reg.THM_TRIP_LOG 0).setFld Reg.BOOT_STATUS Fld.BOOT_STATUS_FAILS 0).setFld Reg.BOOT_STATUS
    Fld.BOOT_STATUS_LIMIT 3
  { s2 with aon := { AonSt.init with up := false, porst := false, held := true } }

/-- WARM_RESET (R466, R526): PORST_N is asserted with the supplies up; the reset lasts until its release takes effect. -/
def porstAssert (s : State) : State :=
  let s1 := s.countedReset true
  { s1 with aon := { s1.aon with porst := false, gateTimeout := false } }

/-- COLD_START. -/
def execColdStart (s : State) : Host.Outcome State Fault Refusal := answer s (coldStart s)
/-- WARM_RESET. -/
def execWarmReset (s : State) : Host.Outcome State Fault Refusal := answer s (porstAssert s)
/-- RESTART. -/
def execRestart (r : Req) (s : State) : Host.Outcome State Fault Refusal := answer s (restart r (s.ovlNote r Reg.BOOT_CTRL 0x20000000))
/-- ROM_START. -/
def execRomStart (s : State) : Host.Outcome State Fault Refusal := answer s (romStart s)
/-- BOOT_GO. -/
def execBootGo (r : Req) (s : State) : Host.Outcome State Fault Refusal := answer s (bootGo r (s.ovlNote r Reg.BOOT_CTRL 0x80000000))
/-- IMAGE_VERIFY_END. -/
def execImageVerifyEnd (s : State) : Host.Outcome State Fault Refusal := answer s (imageVerifyEnd s)
/-- BOOT_MEMORY_UP. -/
def execBootMemoryUp (bad : Option MemCtl) (s : State) : Host.Outcome State Fault Refusal := answer s (bootMemoryUp bad s)
/-- CYC_SECTION_VERIFY_END. -/
def execCycSectionVerifyEnd (s : State) : Host.Outcome State Fault Refusal := answer s (cycSectionVerifyEnd s)
/-- CONFIRM. -/
def execConfirm (r : Req) (s : State) : Host.Outcome State Fault Refusal := answer s (confirm r (s.ovlNote r Reg.BOOT_CTRL 0x40000000))
/-- WINDOW_EXPIRED. -/
def execWindowExpired (s : State) : Host.Outcome State Fault Refusal := answer s (windowExpired s)
/-- FIRMWARE_ABORT. -/
def execFirmwareAbort (r : Req) (code : BitVec 8) (s : State) : Host.Outcome State Fault Refusal := answer s (firmwareAbort r code.toNat (s.ovlNote r Reg.BOOT_ABORT (code.zeroExtend 32)))
/-- FAIL_CLEAR. -/
def execFailClear (r : Req) (s : State) : Host.Outcome State Fault Refusal := answer s (failClear r (s.ovlNote r Reg.BOOT_CTRL 0x10000000))

end Sys2Proof.Machine
end

