-- ==== Sys2Proof/Machine/Upgrade.lean ====
section
/-! DEFINITION. Owner commands, the forwarding lease and the in-service upgrade (R480 to R486). -/

namespace Sys2Proof.Machine

/-! ### Owner commands (R480) -/

/-- Ends an owner command with a status; one that passed its checks draws a new nonce. -/
def State.bootAuthEnd (s : State) (status : Nat) (accepted : Bool) : State :=
  let s1 := s.setFld Reg.BOOT_AUTH_CTRL Fld.BOOT_AUTH_CTRL_STATUS status
  if accepted then s1.drawNonce Reg.BOOT_NONCE else s1

/-- The bytes of OTP_WR_DATA0 to 31, in the order of the mailbox. -/
def State.otpDataBytes (s : State) : List Byte := (List.range 128).map (s.regByte Reg.OTP_WR_DATA)

/-- Runs the owner command in the mailbox. `supply` is whether the OTP programming rail is there. -/
def State.bootAuth (s : State) (supply : Bool) : State :=
  if s.flag Reg.BOOT_AUTH_CTRL Fld.BOOT_AUTH_CTRL_BUSY then s
  else
    let m := s.mailbox Reg.BOOT_AUTH_MBOX
    let code := beAt m 0 2
    let st := s.authCheck s.ownerHash m Reg.BOOT_NONCE false (if code = 0x0102 then s.otpDataBytes else [])
    if st ≠ acOk then s.bootAuthEnd st false
    else if code = 0x0101 ∧ s.ownerLock then
      { (s.bootAuthEnd acOk true) with boot := { s.boot with unlock := true } }
    else
      let rec_ := beAt m 28 4 % 8
      if code = 0x0102 ∧ (rec_ = otpOwner ∨ rec_ = otpPolicy) then
        let s1 := (s.bootAuthEnd acOk true).setFlag Reg.BOOT_AUTH_CTRL Fld.BOOT_AUTH_CTRL_BUSY true
        s1.otpQueue ⟨rec_, s.otpData rec_, true, none⟩ supply
      else s.bootAuthEnd acState false

/-- An owner command of one code: the mailbox holds it, and its sender reaches the BOOT block (R487). -/
def ownerCommand (r : Req) (code : Nat) (supply : Bool) (s : State) : State :=
  if !s.isOwner r then s.viewRefused r
  else if beAt (s.mailbox Reg.BOOT_AUTH_MBOX) 0 2 = code then s.bootAuth supply else s

/-! ### The lease (R482 to R484) -/

/-- BOOT_LEASE_CFG_WRITE (R482). -/
def bootLeaseCfgWrite (r : Req) (v : Word) (s : State) : State :=
  let n := Fld.BOOT_LEASE_CFG_SPAN.get v
  if !s.isOwner r then s.viewRefused r
  else if s.leaseMin ≤ n ∧ n ≤ s.leaseMax then s.setFld Reg.BOOT_LEASE_CFG Fld.BOOT_LEASE_CFG_SPAN n
  else s.bootRefused

/-- LEASE_RENEW (R483): by a hart of domain 0, after CONFIRM; at or past the end, or after expiry, it is ignored. -/
def leaseRenew (r : Req) (s : State) : State :=
  match r with
  | .func _ => if s.isOwner r then s else s.viewRefused r
  | .hart _ =>
    if !s.isOwner r then s.viewRefused r
    else if s.leaseOver ∨ s.bootState ≠ bsConfirmed then s
    else
      let n := s.fld Reg.BOOT_LEASE_CFG Fld.BOOT_LEASE_CFG_SPAN
      { s with time := { s.time with lease := some (s.mono + n * second) }, boot := { s.boot with span := n } }

/-- LEASE_EXPIRED (R484). -/
def leaseExpired (s : State) : State :=
  match s.time.lease with
  | none => s
  | some e =>
    if s.mono < e ∨ s.flag Reg.BOOT_STATUS Fld.BOOT_STATUS_LEASE_EXPIRED then s
    else
      (s.setFlag Reg.BOOT_STATUS Fld.BOOT_STATUS_LEASE_EXPIRED true).ownerEvent 0x0D00 1 63 (Config.eventLoc 0x0D00 0).toNat []

/-! ### The upgrade (R485, R486) -/

def ugIdle : Nat := 0
def ugVerifying : Nat := 1
def ugStandbyBoot : Nat := 2
def ugHandover : Nat := 3
def ugReload : Nat := 4
def ugDone : Nat := 5
def ugRefused : Nat := 6
def ugAbandoned : Nat := 7

def State.upgState (s : State) : Nat := s.fld Reg.BOOT_UPG_STATUS Fld.BOOT_UPG_STATUS_STATE
def State.setUpg (s : State) (st code detail : Nat) : State :=
  ((s.setFld Reg.BOOT_UPG_STATUS Fld.BOOT_UPG_STATUS_STATE st).setFld Reg.BOOT_UPG_STATUS Fld.BOOT_UPG_STATUS_CODE code).setFld Reg.BOOT_UPG_STATUS
    Fld.BOOT_UPG_STATUS_DETAIL detail

/-- Whether an upgrade runs: VERIFYING to PRIMARY_RELOAD. -/
def State.upgRuns (s : State) : Bool := decide (ugVerifying ≤ s.upgState ∧ s.upgState ≤ ugReload)

/-- Whether a function's part of the aperture map names a table DRAM region. -/
def State.aptNames (s : State) (f loc : Nat) : Bool :=
  let a := Reg.HIF_APT_FUNC (f / 256) (f % 256)
  (List.range (s.fld a Fld.HIF_APT_FUNC_COUNT)).any (fun i =>
    let e := s.aptEntry (f / 256 * 2048 + s.fld a Fld.HIF_APT_FUNC_BASE + i)
    e.valid && !e.hbm && e.loc == loc)

/-- Whether any entry of the aperture map names a table DRAM region. -/
def State.aptMapped (s : State) (loc : Nat) : Bool := s.hif.apt.l.any (fun (_, e) => e.valid && !e.hbm && e.loc == loc)

/-- Whether a region is aperture-eligible (R351). -/
def State.aptEligible (s : State) (loc : Nat) : Bool := s.granuleOk false loc && !s.granuleGone false loc

/-- Whether the places of an upgrade are refused with BAD_LOC. -/
def State.badLoc (s : State) (loc : Nat) : Bool :=
  let b := s.fld Reg.BOOT_UPG_BUF Fld.BOOT_UPG_BUF_LOC
  !s.aptEligible loc || !s.aptNames 0 loc || !s.flag Reg.BOOT_UPG_BUF Fld.BOOT_UPG_BUF_VALID || !s.aptEligible b || s.aptMapped b || b == loc

/-- The Cyclometer section of an image in a region, as the Cyclometer compares it: by its plain bytes where they decrypt. -/
def State.regionCyc (s : State) (loc : Nat) : Option Nat :=
  let rd := s.regionRd loc
  (((List.range (min 16 (imgSections rd))).map (secRow rd)).find? (fun r => r.kind == 4 && decide (r.off + r.len ≤ imageMax))).bind
    (fun r => (secPlain rd s.deviceKey r).map sha384)

/-- The Cyclometer is sealed and the image's section differs from the running one. -/
def State.cycSealedDiff (s : State) (hash : Option Nat) : Bool :=
  s.sealed && (match s.cyc.sec, hash with | some x, some h => x.hash != h | _, _ => false)

/-- Whether the check instant lies in the last tenth of the lease. -/
def State.leaseLate (s : State) : Bool :=
  match s.time.lease with
  | some e => decide (s.mono < e ∧ 10 * (e - s.mono) ≤ s.boot.span * second)
  | none => false

/-- The first condition of R486 that holds; `start` is whether START checks, and not HANDOVER. -/
def State.upgRefusal (s : State) (start : Bool) (loc : Nat) (cyc : Option Nat) : Option Nat :=
  if start && s.upgRuns then some 0x01
  else if s.kickstand || s.bootState != bsConfirmed then some 0x02
  else if start && s.ownerLock && !s.boot.unlock then some 0x03
  else if s.flag Reg.THM_STATUS Fld.THM_STATUS_THROTTLE || s.flag Reg.THM_STATUS Fld.THM_STATUS_OVER_MAX ||
      s.flag Reg.THM_STATUS Fld.THM_STATUS_HBM_OVER || s.flag Reg.PWR_STATUS Fld.PWR_STATUS_MARGIN_ALARM then some 0x04
  else if s.flag Reg.TDM_STATUS Fld.TDM_STATUS_SWITCHING || s.flag Reg.TDM_STATUS Fld.TDM_STATUS_OVERLAP then some 0x05
  else if s.leaseOver then some 0x06
  else if s.leaseLate then some 0x07
  else if s.cycSealedDiff cyc then some 0x08
  else if s.fld (Reg.CPX_CAP 15) Fld.CPX_CAP_HARTS < 1 then some 0x09
  else if start && s.badLoc loc then some 0x0A
  else none

/-- Copies a 64 MiB region. -/
def State.copyRegion (s : State) (src dst : Nat) : State :=
  let a := granuleAddr false src
  let b := granuleAddr false dst
  let kept := s.ram.filter (fun k _ => !(decide (b ≤ k) && decide (k < b + 2 ^ 26)))
  { s with ram := (s.ram.l.filter (fun e => decide (a ≤ e.1) && decide (e.1 < a + 2 ^ 26))).foldl (fun m e => KMap.set 0 m (b + (e.1 - a)) e.2) kept }

/-- UPGRADE_START (R485, R486): a refused START changes BOOT_UPG_STATUS alone, and of a running upgrade only CODE; an accepted one copies the image
into the upgrade buffer. -/
def upgradeStart (r : Req) (loc : Nat) (s : State) : State :=
  if !s.isOwner r then s.viewRefused r
  else
    match s.upgRefusal true loc (s.regionCyc loc) with
    | some c => if c = 0x01 then s.setFld Reg.BOOT_UPG_STATUS Fld.BOOT_UPG_STATUS_CODE c else s.setUpg ugRefused c 0
    | none =>
      let b := s.fld Reg.BOOT_UPG_BUF Fld.BOOT_UPG_BUF_LOC
      let s1 := (s.copyRegion loc b).setUpg ugVerifying 0 0
      { s1 with boot := { s1.boot with unlock := false, loc := b, upg := none } }

/-- The checks of R470 and R471 on the copy. -/
def State.checkUpgrade (s : State) (leaf : Nat) : ImgRes :=
  match s.checkImage (s.regionRd s.boot.loc) leaf with
  | .bad c e => .bad c e
  | .good i =>
    if !s.metered then .good i
    else
      let d := (i.section 4).getD []
      match s.cycSectionFault d with
      | some (c, e) => .bad c e
      | none => if (s.macKey (cycSec d)).isNone then .bad bcCycKey 0 else .good i

/-- UPGRADE_VERIFY_END (R485): k15 powers up and starts the new image, or the upgrade is refused. -/
def upgradeVerifyEnd (s0 : State) : State :=
  if s0.upgState ≠ ugVerifying then s0
  else
    let (d, s) := s0.draw
    match s.checkUpgrade d with
    | .bad c _ => s.setUpg ugRefused 0 c
    | .good i =>
      let s1 := ((s.decryptOps (s.regionRd s.boot.loc)).copySections i 16).startCluster 15
      ({ s1 with boot := { s1.boot with upg := some i }, tdm := { s1.tdm with hb15 := some s1.mono } }).setUpg ugStandbyBoot 0 0

/-- Powers a cluster down: its harts stop. -/
def State.powerDown (s : State) (k : Nat) : State := (s.stopCluster k).setFlag (Reg.CPX_CAP k) Fld.CPX_CAP_POWERED false

/-- HANDOVER (R485, R486): the second check: k15 may claim, or powers down and the upgrade is abandoned. -/
def handover (s : State) : State :=
  if s.upgState ≠ ugStandbyBoot then s
  else
    match s.upgRefusal false 0 ((s.boot.upg.bind (fun i => i.section 4)).map sha384) with
    | some c => ({ (s.powerDown 15) with boot := { s.boot with upg := none } }).setUpg ugAbandoned c 0
    | none => s.setUpg ugHandover 0 0

/-- UPGRADE_DONE (R441, R485): k0 has taken control back with the new image; its Cyclometer section is handed over. -/
def upgradeDone (s : State) : State :=
  if s.upgState ≠ ugReload ∨ s.flag Reg.TDM_STATUS Fld.TDM_STATUS_ACTIVE then s
  else
    match s.boot.upg with
    | none => s
    | some i =>
      let s1 := ((s.setUpg ugDone 0 0).setReg Reg.BOOT_IMAGE_VER (BitVec.ofNat 32 i.version)).setReg Reg.BOOT_STATE_VER (BitVec.ofNat 32 i.state)
      let s2 := { s1 with boot := { s1.boot with img := some i, upg := none } }
      match i.section 4 with
      | some d => if s2.metered then s2.acceptSection (cycSec d) else s2
      | none => s2

/-- BOOT_UPG_BUF_WRITE (R487). -/
def bootUpgBufWrite (r : Req) (v : Word) (s : State) : State :=
  if !s.isOwner r then s.viewRefused r
  else if s.upgRuns then s.bootRefused
  else s.setReg Reg.BOOT_UPG_BUF (v &&& 0x800007FF)

/-- UPGRADE_UNLOCK. -/
def execUpgradeUnlock (r : Req) (s : State) : Host.Outcome State Fault Refusal := answer s (ownerCommand r 0x0101 false (s.ovlNote r Reg.BOOT_AUTH_CTRL 0x80000000))
/-- OTP_WRITE. -/
def execOtpWrite (r : Req) (supply : Bool) (s : State) : Host.Outcome State Fault Refusal := answer s (ownerCommand r 0x0102 supply (s.ovlNote r Reg.BOOT_AUTH_CTRL 0x80000000))
/-- BOOT_LEASE_CFG_WRITE. -/
def execBootLeaseCfgWrite (r : Req) (v : Word) (s : State) : Host.Outcome State Fault Refusal := answer s (bootLeaseCfgWrite r v (s.ovlNote r Reg.BOOT_LEASE_CFG v))
/-- LEASE_RENEW. -/
def execLeaseRenew (r : Req) (s : State) : Host.Outcome State Fault Refusal := answer s (leaseRenew r (s.ovlNote r Reg.BOOT_LEASE_RENEW 1))
/-- LEASE_EXPIRED. -/
def execLeaseExpired (s : State) : Host.Outcome State Fault Refusal := answer s (leaseExpired s)
/-- UPGRADE_START. -/
def execUpgradeStart (r : Req) (loc : BitVec 11) (s : State) : Host.Outcome State Fault Refusal := answer s (upgradeStart r loc.toNat (s.ovlNote r Reg.BOOT_UPG_CMD (0x80000000 ||| loc.zeroExtend 32)))
/-- UPGRADE_VERIFY_END. -/
def execUpgradeVerifyEnd (s : State) : Host.Outcome State Fault Refusal := answer s (upgradeVerifyEnd s)
/-- HANDOVER. -/
def execHandover (s : State) : Host.Outcome State Fault Refusal := answer s (handover s)
/-- UPGRADE_DONE. -/
def execUpgradeDone (s : State) : Host.Outcome State Fault Refusal := answer s (upgradeDone s)
/-- BOOT_UPG_BUF_WRITE. -/
def execBootUpgBufWrite (r : Req) (v : Word) (s : State) : Host.Outcome State Fault Refusal := answer s (bootUpgBufWrite r v (s.ovlNote r Reg.BOOT_UPG_BUF v))

end Sys2Proof.Machine
end

