-- ==== Sys2Proof/Machine/Tandem.lean ====
section
/-! DEFINITION. The Tandem supervisor clusters: heartbeats, failover, handover and the return of control (R489 to R500). -/

namespace Sys2Proof.Machine

/-! ### Status -/

/-- The active cluster, 0 or 15, and the other one. -/
def State.tdmActive (s : State) : Nat := if s.flag Reg.TDM_STATUS Fld.TDM_STATUS_ACTIVE then 15 else 0
def State.tdmOther (s : State) : Nat := 15 - s.tdmActive
def State.switching (s : State) : Bool := s.flag Reg.TDM_STATUS Fld.TDM_STATUS_SWITCHING
def State.overlap (s : State) : Bool := s.flag Reg.TDM_STATUS Fld.TDM_STATUS_OVERLAP

/-- The PRIMARY states of R498. -/
def prActive : Nat := 0
def prReset : Nat := 1
def prSelfTest : Nat := 2
def prHoldDown : Nat := 3
def prReady : Nat := 4
def prFailed : Nat := 5
def State.primary (s : State) : Nat := s.fld Reg.TDM_STATUS Fld.TDM_STATUS_PRIMARY
def State.setPrimary (s : State) (n : Nat) : State := s.setFld Reg.TDM_STATUS Fld.TDM_STATUS_PRIMARY n

def State.modTdm (s : State) (f : TdmSt → TdmSt) : State := { s with tdm := f s.tdm }

/-- An event of this chapter. -/
def State.tdmEvent (s : State) (code : Nat) : State := s.ownerEvent code 1 63 (Config.eventLoc code 0).toNat []

/-- The last heartbeat of a cluster. -/
def State.lastBeat (s : State) (k : Nat) : Option Nat := if k = 0 then s.tdm.hb0 else s.tdm.hb15
def State.beat (s : State) (k : Nat) : State := s.modTdm (fun t => if k = 0 then { t with hb0 := some s.mono } else { t with hb15 := some s.mono })

def State.hbSpan (s : State) : Nat := expSpanIn (-10) (-3) (s.fld Reg.TDM_CFG Fld.TDM_CFG_HB_SPAN)

/-- A cluster's heartbeat window has closed, or it has no hart left (R490). -/
def State.clusterDead (s : State) (k : Nat) : Bool :=
  (match s.lastBeat k with | some t => decide (t + s.hbSpan ≤ s.mono) | none => false) || s.fld (Reg.CPX_CAP k) Fld.CPX_CAP_HARTS == 0

/-- ACTIVE changes. -/
def State.setActive (s : State) (k : Nat) : State :=
  ((s.setFlag Reg.TDM_STATUS Fld.TDM_STATUS_ACTIVE (k != 0)).setReg Reg.TDM_LAST_SWITCH_FRAC (BitVec.ofNat 32 s.now)).setReg Reg.TDM_LAST_SWITCH_SEC
    (BitVec.ofNat 32 (s.now >>> 32))

/-- k0 begins its reset (R498). -/
def State.resetPrimary (s : State) : State := ((s.stopCluster 0).setPrimary prReset).setFld Reg.TDM_STATUS Fld.TDM_STATUS_SELFTEST_FAILS 0

/-! ### Handover (R496) -/

/-- The overlap window closes without a change of control. -/
def State.endOverlap (s : State) : State := (s.modTdm (fun t => { t with tc := none })).setFlag Reg.TDM_STATUS Fld.TDM_STATUS_OVERLAP false

/-- The overlap window closes and control passes to the incoming cluster. -/
def State.handControl (s : State) : State :=
  let out := s.tdmActive
  let s1 := ((s.endOverlap.setActive s.tdmOther).bump Ctr.TDM_HANDOVERS 1).tdmEvent 0x0E01
  if out = 15 then (s1.setPrimary prActive).modTdm (fun t => { t with down := some (s.mono + spanExp 10) })
  else
    let s2 := s1.resetPrimary
    if s2.upgState = ugHandover then s2.setUpg ugReload 0 0 else s2

/-! ### Failover (R495, R498) -/

/-- The active cluster has failed: it is fenced, and the other one starts where it can take over. -/
def State.failover (s : State) : State :=
  let k := s.tdmActive
  let s1 := ((s.stopCluster k).setFlag Reg.TDM_STATUS Fld.TDM_STATUS_SWITCHING true).bump Ctr.TDM_FAILOVERS 1
  let s2 := (s1.tdmEvent 0x0E00).modTdm (fun t => { t with td := some s.mono, late := false })
  if k = 0 then (s2.resetPrimary.startCluster 15)
  else if s2.upgState = ugHandover ∨ s2.upgState = ugReload then s2.resetPrimary.modTdm (fun t => { t with heldReset := true })
  else if s2.primary = prHoldDown ∨ s2.primary = prReady then (s2.setPrimary prReady).startCluster 0
  else s2

/-- A cluster is declared failed (R490, R496). In Kickstand mode k15 stays powered down. -/
def State.clusterFails (s : State) (k : Nat) : State :=
  if s.kickstand then s
  else if s.overlap then
    if k = s.tdmActive then (s.stopCluster k).handControl else (s.stopCluster k).endOverlap
  else if k = s.tdmActive ∧ !s.switching then s.failover
  else s

/-- HEARTBEAT_TIMEOUT (R490): the window of the active cluster closes, or in an overlap window that of the incoming one. A k0 in hold-down that has no hart
left starts its reset anew (R498). -/
def heartbeatTimeout (s : State) : State :=
  if !s.flag Reg.TDM_CFG Fld.TDM_CFG_EN then s
  else if s.clusterDead s.tdmActive ∧ !s.switching then s.clusterFails s.tdmActive
  else if s.overlap ∧ s.clusterDead s.tdmOther then s.clusterFails s.tdmOther
  else if s.primary = prHoldDown ∧ s.fld (Reg.CPX_CAP 0) Fld.CPX_CAP_HARTS = 0 then s.resetPrimary
  else s

/-! ### The TDM block's commands -/

/-- The cluster of a requester that can be a supervisor: a running hart of domain 0 on k0 or k15. -/
def State.supervisor (s : State) : Req → Option Nat
  | .hart h => if s.hartRuns h.val ∧ s.hartDom h.val = 0 ∧ (h.val / 8 = 0 ∨ h.val / 8 = 15) then some (h.val / 8) else none
  | .func _ => none

/-- Whether a requester reaches the TDM block (R500): writes there are never blocked (R489). -/
def State.tdmReach (s : State) (r : Req) : Bool := s.party r == 0 || s.party r == 1024
def State.notReached (s : State) : Req → State
  | .func f => s.viewRefused (.func f)
  | .hart _ => s

/-- HEARTBEAT (R490): one at the close of the window is late. -/
def heartbeat (r : Req) (s : State) : State :=
  if !s.tdmReach r then s.notReached r
  else
    match s.supervisor r with
    | none => s
    | some k =>
      if s.flag Reg.TDM_CFG Fld.TDM_CFG_EN ∧ !s.kickstand ∧ (k = s.tdmActive ∨ s.overlap) ∧ s.clusterDead k then heartbeatTimeout s
      else s.beat k

/-- FORCE_SWITCH (R490). -/
def forceSwitch (r : Req) (s : State) : State := if !s.tdmReach r then s.notReached r else s.clusterFails s.tdmActive

/-- The claimant takes control: the gap of a failover ends. -/
def State.endGap (s : State) (k : Nat) : State :=
  let s1 := ((s.setActive k).setFlag Reg.TDM_STATUS Fld.TDM_STATUS_SWITCHING false).beat k
  let s2 := s1.modTdm (fun t => { t with td := none, late := false })
  if k = 0 then s2.setPrimary prActive else s2

/-- The overlap window opens (R496). -/
def State.openOverlap (s : State) (k : Nat) : State :=
  ((s.beat k).modTdm (fun t => { t with tc := some s.mono, ovl := [] })).setFlag Reg.TDM_STATUS Fld.TDM_STATUS_OVERLAP true |>.setFld
    Reg.TDM_OVL_COUNT Fld.TDM_OVL_COUNT_COUNT 0

/-- CLAIM (R495 to R497). -/
def claim (r : Req) (s : State) : State :=
  if !s.tdmReach r then s.notReached r
  else
    match s.supervisor r with
    | none => s.setFlag Reg.TDM_STATUS Fld.TDM_STATUS_REFUSED true
    | some k =>
      let ready := if k = 0 then decide (s.primary = prReady) else true
      let planned := if k = 0 then ready else decide (s.upgState = ugHandover)
      if k = s.tdmActive ∨ s.overlap then s.setFlag Reg.TDM_STATUS Fld.TDM_STATUS_REFUSED true
      else if s.switching ∧ ready then s.endGap k
      else if !s.switching ∧ planned then s.openOverlap k
      else s.setFlag Reg.TDM_STATUS Fld.TDM_STATUS_REFUSED true

/-- RELEASE (R496): by the outgoing cluster. -/
def release (r : Req) (s : State) : State :=
  if !s.tdmReach r then s.notReached r
  else if s.overlap ∧ s.supervisor r = some s.tdmActive then s.handControl else s

/-- TDM_HANDOVER (R496): the overlap window closes 2^-9 s after the claim. -/
def tdmHandover (s : State) : State :=
  match s.tdm.tc with
  | some t => if s.overlap ∧ t + spanExp 9 ≤ s.mono then s.handControl else s
  | none => s

/-- 200 ms, in units of 2^-32 s, rounded up. -/
def gapLimit : Nat := 858993460

/-- TDM_STANDBY_LATE (R495). -/
def tdmStandbyLate (s : State) : State :=
  match s.tdm.td with
  | some t =>
    if s.switching ∧ !s.tdm.late ∧ t + gapLimit ≤ s.mono then (s.tdmEvent 0x0E03).modTdm (fun x => { x with late := true }) else s
  | none => s

/-- K15_POWER_DOWN (R496). -/
def k15PowerDown (s : State) : State :=
  match s.tdm.down with
  | some t => if t ≤ s.mono then (s.powerDown 15).modTdm (fun x => { x with down := none }) else s
  | none => s

/-- CHECKPOINT_DUE (R492): at each whole multiple of the period. -/
def checkpointDue (s : State) : State :=
  let p := max 1 (s.reg64 Reg.TDM_CKPT_PERIOD_LO)
  if KMap.get 0 s.time.trig tgCheckpoint / p < s.now / p then
    { s with time := { s.time with trig := KMap.set 0 s.time.trig tgCheckpoint s.now } }.emit (.timerIrq 0)
  else s

/-- TDM_SEQ_WRITE (R494): the register keeps the greater value. -/
def tdmSeqWrite (r : Req) (v : Nat) (s : State) : State :=
  if !s.tdmReach r then s.notReached r else s.setReg64 Reg.TDM_SEQ_LO (max v (s.reg64 Reg.TDM_SEQ_LO))

/-- PRIMARY_SELF_TEST_END (R498). -/
def primarySelfTestEnd (ok : Bool) (s : State) : State :=
  if s.primary ≠ prSelfTest then s
  else if ok then
    (((s.setFld Reg.TDM_STATUS Fld.TDM_STATUS_SELFTEST_FAILS 0).setPrimary prHoldDown).startCluster 0).modTdm (fun t =>
      { t with hold := some s.mono, hb0 := some s.mono })
  else
    let n := s.fld Reg.TDM_STATUS Fld.TDM_STATUS_SELFTEST_FAILS + 1
    let s1 := s.setFld Reg.TDM_STATUS Fld.TDM_STATUS_SELFTEST_FAILS n
    if n < 3 then s1.setPrimary prReset else (s1.setPrimary prFailed).tdmEvent 0x0E02

/-- HOLD_DOWN_END (R498). -/
def holdDownEnd (s : State) : State :=
  match s.tdm.hold with
  | some t =>
    if s.primary = prHoldDown ∧ t + max 1 (s.fld Reg.TDM_CFG Fld.TDM_CFG_HOLD) * second ≤ s.mono then s.setPrimary prReady else s
  | none => s

/-- A k0 that is not held in RESET passes to its self-test one cycle later. -/
def State.tdmTick (s : State) : State := if s.primary = prReset ∧ !s.tdm.heldReset then s.setPrimary prSelfTest else s

/-- HEARTBEAT. -/
def execHeartbeat (r : Req) (s : State) : Host.Outcome State Fault Refusal := answer s (heartbeat r (s.ovlNote r Reg.TDM_CTRL 1))
/-- HEARTBEAT_TIMEOUT. -/
def execHeartbeatTimeout (s : State) : Host.Outcome State Fault Refusal := answer s (heartbeatTimeout s)
/-- FORCE_SWITCH. -/
def execForceSwitch (r : Req) (s : State) : Host.Outcome State Fault Refusal := answer s (forceSwitch r (s.ovlNote r Reg.TDM_CTRL 8))
/-- CLAIM. -/
def execClaim (r : Req) (s : State) : Host.Outcome State Fault Refusal := answer s (claim r (s.ovlNote r Reg.TDM_CTRL 2))
/-- RELEASE. -/
def execRelease (r : Req) (s : State) : Host.Outcome State Fault Refusal := answer s (release r (s.ovlNote r Reg.TDM_CTRL 4))
/-- TDM_HANDOVER. -/
def execTdmHandover (s : State) : Host.Outcome State Fault Refusal := answer s (tdmHandover s)
/-- TDM_STANDBY_LATE. -/
def execTdmStandbyLate (s : State) : Host.Outcome State Fault Refusal := answer s (tdmStandbyLate s)
/-- K15_POWER_DOWN. -/
def execK15PowerDown (s : State) : Host.Outcome State Fault Refusal := answer s (k15PowerDown s)
/-- CHECKPOINT_DUE. -/
def execCheckpointDue (s : State) : Host.Outcome State Fault Refusal := answer s (checkpointDue s)
/-- TDM_SEQ_WRITE. -/
def execTdmSeqWrite (r : Req) (v : BitVec 64) (s : State) : Host.Outcome State Fault Refusal := 
  answer s (tdmSeqWrite r v.toNat (s.ovlNote64 r Reg.TDM_SEQ_LO v.toNat))
/-- PRIMARY_SELF_TEST_END. -/
def execPrimarySelfTestEnd (ok : Bool) (s : State) : Host.Outcome State Fault Refusal := answer s (primarySelfTestEnd ok s)
/-- HOLD_DOWN_END. -/
def execHoldDownEnd (s : State) : Host.Outcome State Fault Refusal := answer s (holdDownEnd s)

end Sys2Proof.Machine
end

