-- ==== Sys2Proof/Machine/Thermal.lean ====
section
/-! DEFINITION. Temperature sensors, the governor, thermal trips and supply margins (R332, R503 to R510). -/

namespace Sys2Proof.Machine

def State.throttled (s : State) : Bool := s.flag Reg.THM_STATUS Fld.THM_STATUS_THROTTLE
def State.overMax (s : State) : Bool := s.flag Reg.THM_STATUS Fld.THM_STATUS_OVER_MAX
def State.hbmOver (s : State) : Bool := s.flag Reg.THM_STATUS Fld.THM_STATUS_HBM_OVER

/-- An event of this chapter. -/
def State.thmEvent (s : State) (code : Nat) : State := s.ownerEvent code 1 63 (Config.eventLoc code 0).toNat []

/-- Sets or clears a status bit of THM_STATUS: a change sets EVT; OVER_MAX and HBM_OVER raise THM_OVER_MAX when they set (R508, R515). -/
def State.setOver (s : State) (f : Fld) (b : Bool) : State :=
  if s.flag Reg.THM_STATUS f = b then s
  else
    let s1 := (s.setFlag Reg.THM_STATUS f b).setFlag Reg.THM_STATUS Fld.THM_STATUS_EVT true
    if b then s1.thmEvent 0x0F01 else s1

/-- THERMAL_TRIP (R509): the always-on domain records the source and holds the device in reset; it is no failed start. -/
def State.thermalTrip (s : State) (source temp stack : Nat) : State :=
  if s.aon.trip then s
  else
    let s1 := (((s.setFlag Reg.THM_TRIP_LOG Fld.THM_TRIP_LOG_TRIPPED true).setFld Reg.THM_TRIP_LOG Fld.THM_TRIP_LOG_SOURCE source).setFld
      Reg.THM_TRIP_LOG Fld.THM_TRIP_LOG_TEMP temp).setFld Reg.THM_TRIP_LOG Fld.THM_TRIP_LOG_STACK stack
    let s2 := s1.warmReset true
    { s2 with aon := { s2.aon with trip := true } }

/-- A junction sensor fails its self-check (R503, R541, R544). -/
def State.sensorLost (s : State) (die n : Nat) : State :=
  let m := KMap.get 0 s.thm.lost die
  if m.testBit n then s
  else
    let m1 := m ||| 2 ^ n
    let working := ((List.range 24).filter (fun i => !m1.testBit i)).length
    let s1 := { s with thm := { s.thm with lost := KMap.set 0 s.thm.lost die m1 } }
    (s1.logRepair 0 rlSensor true die 63 n).modCap die 63 (fun c => { c with percent := 100 * working / 24 })

def dieNo : Die → Nat
  | .fwd => 1
  | .trf => 2

/-- SENSOR_READ (R503, R508, R509): the hottest readings of the working sensors of each die and of the always-on sensor; a sensor may have failed. -/
def sensorRead (f t aon : Nat) (lost : Option (Die × Fin 24)) (s : State) : State :=
  let s0 := { s with aon := { s.aon with temp := aon } }
  if s.aon.held then s0
  else
    let s1 := match lost with
      | some (d, n) => s0.sensorLost (dieNo d) n.val
      | none => s0
    let s2 := (s1.setFld Reg.THM_STATUS Fld.THM_STATUS_FDIE_TEMP f).setFld Reg.THM_STATUS Fld.THM_STATUS_TDIE_TEMP t
    let s3 := (s2.setFld Reg.THM_MAX Fld.THM_MAX_FDIE (max f (s2.fld Reg.THM_MAX Fld.THM_MAX_FDIE))).setFld Reg.THM_MAX Fld.THM_MAX_TDIE
      (max t (s2.fld Reg.THM_MAX Fld.THM_MAX_TDIE))
    let h := max f t
    let s4 := if 105 < h then s3.setOver Fld.THM_STATUS_OVER_MAX true else if h ≤ 103 then s3.setOver Fld.THM_STATUS_OVER_MAX false else s3
    if 115 ≤ f then s4.thermalTrip 1 f 0 else if 115 ≤ t then s4.thermalTrip 2 t 0 else s4

/-- HBM_TEMP_READ (R332, R508, R509). -/
def hbmSensor (st temp : Nat) (s : State) : State :=
  if s.aon.held then s
  else
    let s1 := hbmTempRead st temp s
    let hot := if 95 < temp then 1 else if temp ≤ 93 then 0 else KMap.get 0 s1.thm.hbmOver st
    let s2 := { s1 with thm := { s1.thm with hbmOver := KMap.set 0 s1.thm.hbmOver st hot } }
    let s3 := s2.setOver Fld.THM_STATUS_HBM_OVER (!s2.thm.hbmOver.l.isEmpty)
    if 105 ≤ temp then s3.thermalTrip 3 temp st else s3

/-! ### The governor (R504 to R507) -/

def State.govTemp (s : State) : Nat := max 80 (min 100 (s.fld Reg.THM_CFG Fld.THM_CFG_GOV_TEMP))
def State.govHyst (s : State) : Nat := max 1 (s.fld Reg.THM_CFG Fld.THM_CFG_HYST)
def State.iccMax (s : State) : Nat := max 1 (s.fld Reg.PWR_CFG Fld.PWR_CFG_ICC_MAX)

/-- The next request and count of a source: it rises while too high, up to 8, and falls after 16 evaluations in a row that are low. -/
def govRequest (req count : Nat) (high low : Bool) : Nat × Nat :=
  if high then (min 8 (req + 1), 0)
  else if low then (if count + 1 = 16 then (req - 1, 0) else (req, count + 1))
  else (req, 0)

/-- The level in force moves by at most one step towards the greater request. -/
def govLevel (old target : Nat) : Nat := if old < target then old + 1 else if target < old then old - 1 else old

/-- GOVERNOR_EVALUATE (R505 to R507): at each whole multiple of 2^-10 s; `amps` is the core rail's current in the period that ends. -/
def governorEvaluate (amps : Nat) (s0 : State) : State :=
  if !s0.trigDue tgGov (spanExp 10) ∨ s0.aon.held then s0
  else
    let s := s0.trigFire tgGov (spanExp 10)
    let t := max (s.fld Reg.THM_STATUS Fld.THM_STATUS_FDIE_TEMP) (s.fld Reg.THM_STATUS Fld.THM_STATUS_TDIE_TEMP)
    let (th, cool) :=
      if s.flag Reg.THM_CFG Fld.THM_CFG_GOV_EN then
        govRequest (s.fld Reg.THM_STATUS Fld.THM_STATUS_THERM_LEVEL) s.thm.cool (decide (s.govTemp < t)) (decide (t + s.govHyst ≤ s.govTemp))
      else (0, 0)
    let icc := (amps :: s.thm.icc).take 10
    let sum := icc.sum
    let (el, low) :=
      if s.flag Reg.PWR_CFG Fld.PWR_CFG_ICC_EN then
        govRequest (s.fld Reg.THM_STATUS Fld.THM_STATUS_ELEC_LEVEL) s.thm.low (decide (s.iccMax * icc.length < sum))
          (decide (100 * sum < 95 * s.iccMax * icc.length))
      else (0, 0)
    let level := govLevel (s.fld Reg.THM_STATUS Fld.THM_STATUS_LEVEL) (max th el)
    let s1 := { s with thm := { s.thm with cool := cool, low := low, icc := icc } }
    let s2 := ((s1.setFld Reg.THM_STATUS Fld.THM_STATUS_THERM_LEVEL th).setFld Reg.THM_STATUS Fld.THM_STATUS_ELEC_LEVEL el).setFld Reg.THM_STATUS
      Fld.THM_STATUS_LEVEL level
    let s3 := s2.setFld Reg.PWR_ICC_AVG Fld.PWR_ICC_AVG_AMPS (sum / icc.length)
    let s4 := if 0 < level then s3.bump Ctr.PWR_THROTTLE_PERIODS 1 else s3
    if s4.throttled = decide (0 < level) then s4
    else
      ((s4.setFlag Reg.THM_STATUS Fld.THM_STATUS_THROTTLE (decide (0 < level))).setFlag Reg.THM_STATUS Fld.THM_STATUS_EVT true).ownerEvent 0x0F00 1 63 level []

/-! ### Supply margins (R510, R516) -/

/-- A number with one bit set or cleared. -/
def withBit (v i : Nat) (b : Bool) : Nat := if v.testBit i = b then v else v ^^^ 2 ^ i

/-- A rail leaves its window or is back in it, as the always-on monitors see it. -/
def State.setRail (s : State) (rail : Nat) (out : Bool) : State := { s with aon := { s.aon with railsOut := withBit s.aon.railsOut rail out } }

/-- PWR_MARGIN (R510): a rail has been outside its window for 2^-16 s, or inside again for 2^-10 s. -/
def pwrMargin (rail : Nat) (out : Bool) (s : State) : State :=
  let s0 := s.setRail rail out
  if s.aon.held then s0
  else
    let bits := withBit (s.fld Reg.PWR_STATUS Fld.PWR_STATUS_RAIL_OUT) rail out
    let s1 := s0.setFld Reg.PWR_STATUS Fld.PWR_STATUS_RAIL_OUT bits
    let alarm := bits != 0
    if s1.flag Reg.PWR_STATUS Fld.PWR_STATUS_MARGIN_ALARM = alarm then s1
    else
      let s2 := (s1.setFlag Reg.PWR_STATUS Fld.PWR_STATUS_MARGIN_ALARM alarm).setFlag Reg.PWR_STATUS Fld.PWR_STATUS_EVT true
      if alarm then s2.thmEvent 0x0F02 else s2

/-- Whether ALERT_N is driven low (R510); it is released in reset (R526). -/
def State.alertLow (s : State) : Bool :=
  let m := s.fld Reg.THM_ALERT_MASK Fld.THM_ALERT_MASK_EN
  !s.aon.held && ((m.testBit 4 && s.reg Reg.PWR_FENCE != 0) || (m.testBit 3 && s.flag Reg.PWR_STATUS Fld.PWR_STATUS_MARGIN_ALARM) ||
    (m.testBit 2 && s.hbmOver) || (m.testBit 1 && s.overMax) || (m.testBit 0 && s.throttled))

/-- SENSOR_READ. -/
def execSensorRead (f t aon : BitVec 8) (lost : Option (Die × Fin 24)) (s : State) : Host.Outcome State Fault Refusal :=
  answer s (sensorRead f.toNat t.toNat aon.toNat lost s)
/-- HBM_TEMP_READ. -/
def execHbmTempRead (st : Fin 8) (temp : BitVec 8) (s : State) : Host.Outcome State Fault Refusal := answer s (hbmSensor st.val temp.toNat s)
/-- GOVERNOR_EVALUATE. -/
def execGovernorEvaluate (amps : BitVec 12) (s : State) : Host.Outcome State Fault Refusal := answer s (governorEvaluate amps.toNat s)
/-- PWR_MARGIN. -/
def execPwrMargin (rail : Fin 8) (out : Bool) (s : State) : Host.Outcome State Fault Refusal := answer s (pwrMargin rail.val out s)

end Sys2Proof.Machine
end

