-- ==== Sys2Proof/Machine/Pins.lean ====
section
/-! DEFINITION. The always-on domain, resets from pins and rails, JTAG and the management port (R522 to R530). -/

namespace Sys2Proof.Machine

def State.modAon (s : State) (f : AonSt → AonSt) : State := { s with aon := f s.aon }

/-! ### Reset and clocks (R523, R524, R527) -/

/-- The JTAG instructions that load only in reset, and that keep the reset held while current (R529). -/
def testIr : JtagIr → Bool
  | .extest | .extestPulse | .extestTrain | .clamp | .highz => true
  | _ => false

/-- The internal reset ends: PORST_N is high, the always-on domain runs, every rail is in its window, SYSREF is present, no trip holds it and no
test instruction is current (R509, R524, R527, R529). -/
def State.tryRelease (s : State) : State :=
  let a := s.aon
  if a.held && a.porst && a.up && a.railsOut == 0 && !a.sysrefLost && !a.trip && !testIr a.ir then s.modAon (fun a => { a with held := false }) else s

/-- AON_START (R523). -/
def aonStart (s : State) : State := if s.aon.up then s else s.modAon (fun a => { a with up := true, trip := false })

/-- PORST_RELEASE (R509, R524): PORST_N is high, with the rails `out` outside their windows; where a trip was recorded, its release counts only at or
below 95 °C. -/
def porstRelease (out temp : Nat) (s : State) : State :=
  let rose := !s.aon.porst
  (s.modAon (fun a => { a with porst := true, railsOut := out, temp := temp, trip := a.trip && !(rose && decide (temp ≤ 95)) })).tryRelease

/-- GATE_TIMEOUT (R524): 100 ms after the edge a rail is still outside its window. -/
def gateTimeout (s : State) : State :=
  if s.aon.held ∧ s.aon.porst ∧ s.aon.railsOut ≠ 0 then s.modAon (fun a => { a with gateTimeout := true }) else s

/-- RAIL_BROWNOUT (R524): VDD_AON, 0, ends with a cold start; the Cyclometer island's rails, 8, reset the island; another rail holds a warm reset. -/
def railBrownout (rail : Nat) (s : State) : State :=
  if rail = 0 then coldStart s
  else if rail = 8 then s.islandReset
  else (s.countedReset true).setRail rail true

/-- SYSREF_LOSS (R527): its loss holds a warm reset; after it has been present for 1 ms the reset ends. -/
def sysrefLoss (present : Bool) (s : State) : State :=
  if present then (s.modAon (fun a => { a with sysrefLost := false })).tryRelease
  else (s.countedReset true).modAon (fun a => { a with sysrefLost := true })

/-- REFCLK_25M_LOSS (R527). -/
def refclk25mLoss (present : Bool) (s : State) : State := s.modAon (fun a => { a with ownOsc := !present })

/-! ### JTAG (R529) -/

/-- The bits of the bypass register's scan: a zero, then what was shifted in. -/
def bypassBits (l : List Bool) : List Bool := (false :: l).dropLast

/-- Loads an instruction that selects the bypass register. -/
def State.loadBypass (s : State) (ir : JtagIr) (l : List Bool) : State := ((s.modAon (fun a => { a with ir := ir })).emit (.tdo (bypassBits l))).tryRelease

def idCode : Nat := 0x1256016F

/-- A test instruction that shifts the boundary cells: outside reset it loads as BYPASS. -/
def State.testScan (s : State) (ir : JtagIr) (l : List Bool) : State :=
  if s.aon.held then (s.emit (.tdo s.aon.cells)).modAon (fun a => { a with ir := ir, cells := l }) else s.loadBypass .bypass l

/-- CLAMP and HIGHZ select the bypass register; outside reset they load as BYPASS. -/
def State.testBypass (s : State) (ir : JtagIr) (l : List Bool) : State := if s.aon.held then s.loadBypass ir l else s.loadBypass .bypass l

/-- SAMPLE/PRELOAD: the pins are shifted out and the cells preloaded. -/
def samplePreload (pins l : List Bool) (s : State) : State :=
  ((s.emit (.tdo pins)).modAon (fun a => { a with ir := .sample, cells := l })).tryRelease

/-- IDCODE: its 32 bits, the least significant first. -/
def idcodeScan (s : State) : State :=
  ((s.emit (.tdo ((List.range 32).map idCode.testBit))).modAon (fun a => { a with ir := .idcode })).tryRelease

/-- TAP_RESET: Test-Logic-Reset selects IDCODE. -/
def tapReset (s : State) : State := (s.modAon (fun a => { a with ir := .idcode })).tryRelease

/-! ### The management port (R530) -/

/-- Answers a read; before its start the always-on domain does not acknowledge. A multi-byte block is in network byte order, a word's low byte comes
first (SMBus). -/
def State.smbAnswer (s : State) (d : List Byte) : State := s.emit (.smb (if s.aon.up then some d else none))

/-- The die temperature byte: 0xFF while the die is in reset. -/
def State.smbDieTemp (s : State) (d : Die) : Nat :=
  match d with
  | .fwd => if s.aon.held || s.flag Reg.DEV_DIE_STATUS Fld.DEV_DIE_STATUS_FDIE_IN_RESET then 0xFF else s.fld Reg.THM_STATUS Fld.THM_STATUS_FDIE_TEMP
  | .trf => if s.aon.held || s.flag Reg.DEV_DIE_STATUS Fld.DEV_DIE_STATUS_TDIE_IN_RESET then 0xFF else s.fld Reg.THM_STATUS Fld.THM_STATUS_TDIE_TEMP

/-- The word of code 0x28. -/
def State.smbTrip (s : State) : Nat :=
  let a := Reg.THM_TRIP_LOG
  s.fld a Fld.THM_TRIP_LOG_TRIPPED * 2 ^ 15 + s.fld a Fld.THM_TRIP_LOG_SOURCE * 2 ^ 13 + s.fld a Fld.THM_TRIP_LOG_STACK * 2 ^ 8 +
    s.fld a Fld.THM_TRIP_LOG_TEMP

/-- The byte of code 0x41. -/
def State.smbRails (s : State) : Nat :=
  (decide (s.aon.railsOut = 0)).toNat * 128 + s.aon.gateTimeout.toNat * 64 + (!s.aon.railsOut.testBit 8).toNat * 32

/-- The codes of R530. -/
def smbCodes : List Nat := [0x00, 0x10, 0x11, 0x20, 0x21, 0x22, 0x28, 0x30, 0x31, 0x40, 0x41]

/-- AON_START. -/
def execAonStart (s : State) : Host.Outcome State Fault Refusal := answer s (aonStart s)
/-- PORST_RELEASE: the rails outside their windows, 0 to 7 as RAIL_OUT and 8 the Cyclometer island's, and the hottest always-on reading. -/
def execPorstRelease (out : BitVec 9) (temp : BitVec 8) (s : State) : Host.Outcome State Fault Refusal := answer s (porstRelease out.toNat temp.toNat s)
/-- GATE_TIMEOUT. -/
def execGateTimeout (s : State) : Host.Outcome State Fault Refusal := answer s (gateTimeout s)
/-- RAIL_BROWNOUT. -/
def execRailBrownout (rail : Fin 9) (s : State) : Host.Outcome State Fault Refusal := answer s (railBrownout rail.val s)
/-- SYSREF_LOSS. -/
def execSysrefLoss (present : Bool) (s : State) : Host.Outcome State Fault Refusal := answer s (sysrefLoss present s)
/-- REFCLK_25M_LOSS. -/
def execRefclk25mLoss (present : Bool) (s : State) : Host.Outcome State Fault Refusal := answer s (refclk25mLoss present s)
/-- BYPASS. -/
def execBypass (l : List Bool) (s : State) : Host.Outcome State Fault Refusal := answer s (s.loadBypass .bypass l)
/-- IDCODE. -/
def execIdcode (s : State) : Host.Outcome State Fault Refusal := answer s (idcodeScan s)
/-- SAMPLE_PRELOAD. -/
def execSamplePreload (pins l : List Bool) (s : State) : Host.Outcome State Fault Refusal := answer s (samplePreload pins l s)
/-- EXTEST. -/
def execExtest (l : List Bool) (s : State) : Host.Outcome State Fault Refusal := answer s (s.testScan .extest l)
/-- EXTEST_PULSE. -/
def execExtestPulse (l : List Bool) (s : State) : Host.Outcome State Fault Refusal := answer s (s.testScan .extestPulse l)
/-- EXTEST_TRAIN. -/
def execExtestTrain (l : List Bool) (s : State) : Host.Outcome State Fault Refusal := answer s (s.testScan .extestTrain l)
/-- CLAMP. -/
def execClamp (l : List Bool) (s : State) : Host.Outcome State Fault Refusal := answer s (s.testBypass .clamp l)
/-- HIGHZ. -/
def execHighz (l : List Bool) (s : State) : Host.Outcome State Fault Refusal := answer s (s.testBypass .highz l)
/-- TAP_RESET. -/
def execTapReset (s : State) : Host.Outcome State Fault Refusal := answer s (tapReset s)
/-- SMB_SERIAL_READ. -/
def execSmbSerialRead (s : State) : Host.Outcome State Fault Refusal := answer s (s.smbAnswer (beBytes 8 s.serial))
/-- SMB_CORE_TARGET_READ: VDD_FCORE, or VDD_TCORE. -/
def execSmbCoreTargetRead (d : Die) (s : State) : Host.Outcome State Fault Refusal :=
  answer s (s.smbAnswer [BitVec.ofNat 8 (s.fld Reg.DEV_CORE_TARGET (if d = .fwd then Fld.DEV_CORE_TARGET_FCORE else Fld.DEV_CORE_TARGET_TCORE))])
/-- SMB_DIE_TEMP_READ. -/
def execSmbDieTempRead (d : Die) (s : State) : Host.Outcome State Fault Refusal := answer s (s.smbAnswer [BitVec.ofNat 8 (s.smbDieTemp d)])
/-- SMB_AON_TEMP_READ. -/
def execSmbAonTempRead (s : State) : Host.Outcome State Fault Refusal := answer s (s.smbAnswer [BitVec.ofNat 8 s.aon.temp])
/-- SMB_TRIP_LOG_READ. -/
def execSmbTripLogRead (s : State) : Host.Outcome State Fault Refusal := answer s (s.smbAnswer (beBytes 2 s.smbTrip).reverse)
/-- SMB_BOOT_CAUSE_READ. -/
def execSmbBootCauseRead (s : State) : Host.Outcome State Fault Refusal :=
  answer s (s.smbAnswer (beBytes 1 (s.fld Reg.BOOT_CAUSE Fld.BOOT_CAUSE_CAUSE) ++ [0] ++ beBytes 2 (s.fld Reg.BOOT_CAUSE Fld.BOOT_CAUSE_DETAIL)))
/-- SMB_BOOT_STATUS_READ. -/
def execSmbBootStatusRead (s : State) : Host.Outcome State Fault Refusal :=
  answer s (s.smbAnswer [BitVec.ofNat 8 (s.bootState * 16 + s.kickstand.toNat * 8 + s.fld Reg.BOOT_STATUS Fld.BOOT_STATUS_FAILS)])
/-- SMB_RAIL_OUT_READ. -/
def execSmbRailOutRead (s : State) : Host.Outcome State Fault Refusal :=
  answer s (s.smbAnswer [BitVec.ofNat 8 (s.fld Reg.PWR_STATUS Fld.PWR_STATUS_RAIL_OUT)])
/-- SMB_RAIL_STATUS_READ. -/
def execSmbRailStatusRead (s : State) : Host.Outcome State Fault Refusal := answer s (s.smbAnswer [BitVec.ofNat 8 s.smbRails])
/-- SMB_UNKNOWN_CODE: not acknowledged. -/
def execSmbUnknownCode (_c : BitVec 8) (s : State) : Host.Outcome State Fault Refusal := answer s (s.emit (.smb none))

end Sys2Proof.Machine
end

