-- ==== Sys2Proof/Machine/DieLink.lean ====
section
/-! DEFINITION. The die-to-die link and the reset of one die while the other runs (R36 to R42, R155, R369, R542, R543, R545). -/

namespace Sys2Proof.Machine

/-! ### The die resets (R543) -/

/-- The registers that a Forwarding die reset covers: the slices, the blocks FWH to PAT, ICR, the die's D2D block and its counter set. -/
def fdieReg (a : Nat) : Bool :=
  (decide (0x10000000 ≤ a) && decide (a < 0x14000000)) || (decide (0x1FC04000 ≤ a) && decide (a < 0x1FC24000)) ||
    (decide (0x1FC2C000 ≤ a) && decide (a < 0x1FC30000)) || (decide (0x1FC44000 ≤ a) && decide (a < 0x1FC48000)) ||
    (decide (0x50000000 ≤ a) && decide (a < 0x50100000))

/-- The registers of the Traffic die, the Cyclometer's apart, and its counter set. -/
def tdieReg (a : Nat) : Bool :=
  (decide (0x20000000 ≤ a) && decide (a < 0x30000000) && !islandReg a) || (decide (0x50100000 ≤ a) && decide (a < 0x50200000))

/-- The ledgers that each die keeps restart from zero (R461). -/
def fdieLedger (l : Nat) : Bool := l == ldIngress || l == ldPolicer
def tdieLedger (l : Nat) : Bool := l == ldFabTx || l == ldFabRx || l == ldEgress || l == ldPool || l == ldShaper || l == ldCredit

def State.clearBlock (s : State) (reg : Nat → Bool) (ledger : Nat → Bool) (die : Nat) : State :=
  { s with regs := s.regs.filter (fun a _ => !reg a), written := s.written.filter (fun a _ => !reg a), led := s.led.filter (fun k _ => !ledger (k / 2 ^ 24)),
           pmc := KMap.set .init s.pmc die .init, pmcIn := s.pmcIn.filter (fun e => !reg e.1) }

/-- The rings whose batches a Forwarding die reset discards: their turn-complete entries say so, and those in TURN_WAIT go on (R155, R369). -/
def State.discardTurns (s : State) : State :=
  let go (s : State) (side : Nat) (t : TurnSt) : State := (s.turnRings t.wait).turnEntries side 1 0 0 (t.wait ++ t.done)
  go (go s 0 s.turnIn) 1 s.turnOut

/-- Frames in transmission when their port's die is reset stay metered and are recorded as not transmitted (R41). -/
def State.lossMetered (s : State) : State :=
  let l := (s.port.tx.l.filterMap (·.2)).map (fun x => x.octets)
  if l.isEmpty || !s.metered then s
  else s.loss ldNotice lcMetered 0 (-(l.length : Int)) (-(l.sum : Int)) 0 true

/-- The contexts of the fabric streams that cut copies held. -/
def State.freeContexts (s : State) (c : TCopy) : State :=
  (c.prog.getD []).foldl (fun s x =>
    if x.started then
      let y := s.srcS x.dev c.cls
      s.setSrcS x.dev c.cls { y with ctxs := y.ctxs.filter (· != x.ctx) }
    else s) s

/-- Copies that the Traffic die has begun to take from the transit FIFOs. -/
def State.partCopies (s : State) : List (Nat × TCopy) :=
  s.ing.transit.l.flatMap (fun (i, l) => (l.filter (fun c => c.prog.isSome)).map (fun c => (i, c)))

/-- The Traffic die discards packets that it had partly taken (R39): their legs and their bytes. -/
def State.lossFabTx (s : State) : State :=
  let l := s.partCopies
  let legs := (l.map (fun x => (x.2.prog.getD []).length)).sum
  let s1 := l.foldl (fun s x => s.freeContexts x.2) s
  if legs = 0 then s1
  else s1.loss ldFabTx lcDieReset 0 (-(legs : Int)) (-((l.map (fun x => x.2.data.length)).sum : Int)) 0 true

/-- The Forwarding die is reset within the scope of R543: tables empty, seeds drawn anew. What a fence has made of a slice, commit notices that have
left it, and what the Traffic die still holds of dequeued copies stay. -/
def State.resetFdie (s : State) : State :=
  let s1 := s.lossFabTx.lossMetered.discardTurns.clearBlock fdieReg fdieLedger 0
  { s1 with tab := { TabSt.init with exmSeed := s1.draws }, pat := { PatSt.init with seed := s1.draws + 1 }, draws := s1.draws + 2,
            lrn := .init, acl := .init, icr := .init, ing := { IngSt.init with fence := s1.ing.fence }, port := .init, otn := .empty,
            turnIn := .init, turnOut := .init, sch := { s1.sch with gates := .empty } }

/-- The Traffic die is reset (R272, R292): the pools, queues, schedulers and fabric streams are empty, and a new incarnation is drawn. Retired memory
stays retired. -/
def State.resetTdie (s : State) : State :=
  let s1 := s.clearBlock tdieReg tdieLedger 1
  let quads := (List.range 4).foldl (fun m q =>
    let x := s.quad q
    KMap.set .init m q { QuadSt.init with gone := x.owe.l.foldl (fun g e => KMap.set 0 g e.1 (KMap.get 0 g e.1 + e.2)) x.gone }) KMap.empty
  let s2 := { s1 with tm := { TmSt.init with quads := quads, hbmGone := s.tm.hbmGone }, fab := .init, sch := { SchSt.init with gates := s.sch.gates },
                      tru := .init, time := { s.time with follower := 0, followerInc := 0 } }
  let (d, s3) := s2.draw
  let s4 := s3.setFld Reg.FAB_DEV_CFG Fld.FAB_DEV_CFG_INCARNATION (d % 65535 + 1)
  (List.range 8).foldl (fun s b => s.modCap 2 (8 + b) (fun c => { c with percent := 100, count := 24 })) s4

/-! ### The surviving die (R39 to R42) -/

/-- The D2D_STATUS of an end: 0 the Forwarding die's, 1 the Traffic die's. -/
def d2dStatus (d : Nat) : Nat := Reg.D2D_STATUS (d + 1)

/-- The link is marked quiesced: at the ends of the dies that run. -/
def State.markQuiesced (s : State) : State :=
  let one (s : State) (d : Nat) (up : Bool) : State :=
    if up then ((s.setFlag (d2dStatus d) Fld.D2D_STATUS_UP false).setFlag (d2dStatus d) Fld.D2D_STATUS_QUIESCED true).setFlag (d2dStatus d)
      Fld.D2D_STATUS_DISCONT true
    else s
  ((one (one s 0 s.fdieUp) 1 s.tdieUp).setFlag Reg.DEV_DIE_STATUS Fld.DEV_DIE_STATUS_QUIESCED true).setFlag Reg.TIME_STATUS
    Fld.TIME_STATUS_TDIE_DISCONT true

/-- Copies dequeued but not yet past egress commit, lost with the Forwarding die (R41): per quadrant their number and bytes; their buffers free. -/
def State.lossEgress (s : State) : State :=
  let live := s.eg.copies.l.filterMap (fun (n, o) => match o with
    | some x => if x.stage != .done then some (n, x) else none
    | none => none)
  let s1 := (List.range 4).foldl (fun s q =>
    let l := live.filter (fun e => e.2.copy.queue / 131072 == q)
    if l.isEmpty then s
    else s.loss ldEgress lcDieReset q (-(l.length : Int)) (-((l.map (fun e => e.2.copy.data.length)).sum : Int)) 0 true) s
  let s2 := live.foldl (fun s (n, x) => (s.unreserveRx n x).endEgCopy n x) s1
  (s2.eg.copies.keys).foldl (fun s n => copyLinkCrossed n s) s2

/-- Packets of the transit FIFOs that the lost Traffic die had partly taken (R39). -/
def State.lossIngress (s : State) : State :=
  (List.range 16).foldl (fun s i =>
    let l := (s.transitOf i).filter (fun c => c.prog.isSome)
    if l.isEmpty then s
    else
      (s.setTransit i ((s.transitOf i).filter (fun c => c.prog.isNone))).loss ldIngress lcDieReset i (-(l.length : Int))
        (-((l.map (fun c => c.data.length)).sum : Int)) 0 true) s

/-- Copies that were crossing from the lost Traffic die (R39). -/
def State.lossCrossing (s : State) : State :=
  s.eg.copies.l.foldl (fun s (n, o) => match o with
    | some x => if !x.crossed then (s.unreserveRx n x).setEgCopy n none else s
    | none => s) s

/-- The credits that the reset side held are written off (R39); how many is not stated. -/
def State.lossCredit (s : State) : State :=
  let (d, s1) := s.draw
  s1.loss ldCredit lcDieReset 0 (-((d % 2 ^ 32 : Nat) : Int)) 0 0 true

/-- The audit goes on from what the loss ledger has reported (R453). -/
def State.rebaseAll (s : State) : State :=
  ((List.range 10).flatMap (fun l => (s.scopes (l + 1)).map (fun x => (l + 1, x)))).foldl (fun s (l, x) =>
    if crosses l then { s with tru := { s.tru with base := KMap.set 0 s.tru.base (truKey l x) (s.equation l x) } } else s) s

/-- LINK_QUIESCE (R39 to R42): the surviving die receives the quiesce flit or has detected the failure: it stops sending, discards partial packets,
rebuilds its credit and enters the losses. -/
def linkQuiesce (s : State) : State :=
  if s.linkUsable ∨ s.linkQuiesced ∨ !(s.die.lostF || s.die.lostT) then s
  else
    let s1 := ({ s with die := { s.die with t0 := some s.mono } }).markQuiesced
    let s2 := if s1.die.lostF then s1.lossEgress else s1
    let s3 := if s2.die.lostT then s2.lossIngress.lossCrossing else s2
    s3.lossCredit.rebaseAll

/-- LINK_RETRAIN (R39, R40, R542): the link trains when neither die is in reset; held commit notices are delivered in order. -/
def linkRetrain (ok : Bool) (s : State) : State :=
  if !ok ∨ s.aon.held ∨ s.linkUsable ∨ !s.fdieUp ∨ !s.tdieUp then s
  else
    let s1 := (s.setFlag Reg.DEV_DIE_STATUS Fld.DEV_DIE_STATUS_LINK_UP true).setFlag Reg.DEV_DIE_STATUS Fld.DEV_DIE_STATUS_QUIESCED false
    let s2 := [0, 1].foldl (fun s d =>
      ((s.setFlag (d2dStatus d) Fld.D2D_STATUS_UP true).setFlag (d2dStatus d) Fld.D2D_STATUS_QUIESCED false).setFlag (d2dStatus d)
        Fld.D2D_STATUS_DISCONT false) s1
    let fifo := (List.range 16).foldl (fun m e => KMap.set [] m e (KMap.get [] m e ++ KMap.get [] s.eg.wait e)) s.eg.fifo
    { s2 with eg := { s2.eg with fifo := fifo, wait := .empty }, die := .init }

/-! ### Failures (R36, R37, R545) -/

/-- D2D_LINK_FAILURE (R37): a fatal internal error on both dies, each of which treats the other as reset. -/
def d2dLinkFailure (s : State) : State :=
  if !s.linkUsable then s
  else
    let s1 := (s.setFlag Reg.DEV_DIE_STATUS Fld.DEV_DIE_STATUS_LINK_UP false).setFld Reg.DEV_DIE_STATUS Fld.DEV_DIE_STATUS_LAST_CAUSE 3
    let s2 := [0, 1].foldl (fun s d => (s.setFlag (d2dStatus d) Fld.D2D_STATUS_UP false).bump (Ctr.D2D_FAIL (d + 1)) 1) s1
    ({ s2 with die := { s2.die with crcF := 0, crcT := 0, lostF := true, lostT := true } } |>.ierr ieD2dFail 1 63 0).ierr ieD2dFail 2 63 0

/-- D2D_FLIT_RETRY (R36, R37): a flit of one die fails its CRC and is retried; `again` is whether it is the flit that failed before. The eighth failure
in a row is a link failure. -/
def d2dFlitRetry (d : Die) (again : Bool) (s : State) : State :=
  if !s.linkUsable then s
  else
    let i := dieNo d - 1
    let n := (if again then (if i = 0 then s.die.crcF else s.die.crcT) else 0) + 1
    let s1 := { s with die := if i = 0 then { s.die with crcF := n } else { s.die with crcT := n } }
    let s2 := (s1.bump (Ctr.D2D_RETRY (i + 1)) 1).ierr ieD2dRetry (i + 1) 63 0
    if 8 ≤ n then d2dLinkFailure s2 else s2

/-! ### Die reset control (R542) -/

def State.dieRefused (s : State) : State := s.setFlag Reg.DEV_DIE_STATUS Fld.DEV_DIE_STATUS_REFUSED true

/-- A die is ordered into reset: the link goes down and the other die survives it. -/
def State.holdDie (s : State) (d : Die) : State :=
  match d with
  | .fwd =>
    let s1 := ((s.setFlag Reg.DEV_DIE_RESET Fld.DEV_DIE_RESET_FDIE true).setFlag Reg.DEV_DIE_STATUS Fld.DEV_DIE_STATUS_FDIE_IN_RESET true).setFld
      Reg.DEV_DIE_STATUS Fld.DEV_DIE_STATUS_LAST_CAUSE 1
    ({ s1 with die := { s1.die with lostF := true } }).resetFdie.setFlag Reg.DEV_DIE_STATUS Fld.DEV_DIE_STATUS_LINK_UP false
  | .trf =>
    let s1 := ((s.setFlag Reg.DEV_DIE_RESET Fld.DEV_DIE_RESET_TDIE true).setFlag Reg.DEV_DIE_STATUS Fld.DEV_DIE_STATUS_TDIE_IN_RESET true).setFld
      Reg.DEV_DIE_STATUS Fld.DEV_DIE_STATUS_LAST_CAUSE 2
    ({ s1 with die := { s1.die with lostT := true } }).resetTdie.setFlag Reg.DEV_DIE_STATUS Fld.DEV_DIE_STATUS_LINK_UP false

/-- A die leaves reset (R542). -/
def State.freeDie (s : State) (d : Die) : State :=
  let s1 := match d with
    | .fwd => (s.setFlag Reg.DEV_DIE_RESET Fld.DEV_DIE_RESET_FDIE false).setFlag Reg.DEV_DIE_STATUS Fld.DEV_DIE_STATUS_FDIE_IN_RESET false
    | .trf => (s.setFlag Reg.DEV_DIE_RESET Fld.DEV_DIE_RESET_TDIE false).setFlag Reg.DEV_DIE_STATUS Fld.DEV_DIE_STATUS_TDIE_IN_RESET false
  { s1 with die := { s1.die with retrainAt := some s1.mono } }

/-- A write of DEV_DIE_RESET (R542): both bits are refused, and so is a bit set while the other die is in reset. -/
def dieResetWrite (r : Req) (v : Word) (s : State) : State :=
  let f := Fld.DEV_DIE_RESET_FDIE.get v == 1
  let t := Fld.DEV_DIE_RESET_TDIE.get v == 1
  if !s.isOwner r then s.viewRefused r
  else if (f && t) || (f && s.fdieUp && !s.tdieUp) || (t && s.tdieUp && !s.fdieUp) then s.dieRefused
  else
    let s1 := if !f && !s.fdieUp then s.freeDie .fwd else s
    let s2 := if !t && !s1.tdieUp then s1.freeDie .trf else s1
    let s3 := if f && s2.fdieUp then s2.holdDie .fwd else s2
    if t && s3.tdieUp then s3.holdDie .trf else s3

/-- The word that DEV_DIE_RESET holds, with one bit changed. -/
def State.dieWord (s : State) (f : Fld) (b : Bool) : Word := f.put (s.reg Reg.DEV_DIE_RESET) b.toNat

/-- D2D_FLIT_RETRY. -/
def execD2dFlitRetry (d : Die) (again : Bool) (s : State) : Host.Outcome State Fault Refusal := answer s (d2dFlitRetry d again s)
/-- D2D_LINK_FAILURE. -/
def execD2dLinkFailure (s : State) : Host.Outcome State Fault Refusal := answer s (d2dLinkFailure s)
/-- LINK_QUIESCE. -/
def execLinkQuiesce (s : State) : Host.Outcome State Fault Refusal := answer s (linkQuiesce s)
/-- LINK_RETRAIN. -/
def execLinkRetrain (ok : Bool) (s : State) : Host.Outcome State Fault Refusal := answer s (linkRetrain ok s)
/-- FDIE_RESET_HOLD: a write that sets FDIE beside the bit that stands. -/
def execFdieResetHold (r : Req) (s : State) : Host.Outcome State Fault Refusal :=
  answer s (dieResetWrite r (s.dieWord Fld.DEV_DIE_RESET_FDIE true) (s.ovlNote r Reg.DEV_DIE_RESET (s.dieWord Fld.DEV_DIE_RESET_FDIE true)))
/-- TDIE_RESET_HOLD: a write that sets TDIE beside the bit that stands. -/
def execTdieResetHold (r : Req) (s : State) : Host.Outcome State Fault Refusal :=
  answer s (dieResetWrite r (s.dieWord Fld.DEV_DIE_RESET_TDIE true) (s.ovlNote r Reg.DEV_DIE_RESET (s.dieWord Fld.DEV_DIE_RESET_TDIE true)))
/-- DIE_RESET_RELEASE: a write that clears one bit. -/
def execDieResetRelease (r : Req) (d : Die) (s : State) : Host.Outcome State Fault Refusal :=
  let v := s.dieWord (match d with | .fwd => Fld.DEV_DIE_RESET_FDIE | .trf => Fld.DEV_DIE_RESET_TDIE) false
  answer s (dieResetWrite r v (s.ovlNote r Reg.DEV_DIE_RESET v))

end Sys2Proof.Machine
end

