-- ==== Sys2Proof/Machine/Latch.lean ====
section
/-! DEFINITION. The once-per-second latch: OTN performance counts, latching performance counters and recovered-clock counts (R56, R63, R64, R115,
R116, R461). -/

namespace Sys2Proof.Machine

/-- The settle span of R64, 2^-18 s. -/
def settleSpan : Nat := spanExp 18

/-- The closing bank is published as the latched value (R64). A step that the window covers has marked it; the mark ends with it (R49). -/
def State.publishLatch (s : State) (sec : Nat) : State :=
  let s1 := (s.setReg Reg.TIME_SYNCE_MEAS0 s.time.rclk0).setReg Reg.TIME_SYNCE_MEAS1 s.time.rclk1
  let s2 := (s1.otnPublish sec).pmcPublish
  { s2 with time := { s2.time with latch := none, discont := false } }

/-- LATCH_PUBLISH (R64, R116): once the settle span has passed. -/
def latchPublish (s : State) : State :=
  match s.time.latch with
  | some (sec, t) => if t ≤ s.mono then s.publishLatch sec else s
  | none => s

/-- LATCH_CLOSE (R64, R115): at each integer second the open banks become the closing ones. `n0` and `n1` are the recovered-clock cycles that
RCLK_OUT0 and RCLK_OUT1 carried in the window; an output held low through it carried none (R56). -/
def latchClose (n0 n1 : Word) (s : State) : State :=
  if !s.trigDue tgSecond second then s
  else
    let s1 := match s.time.latch with
      | some (sec, _) => s.publishLatch sec
      | none => s
    let s2 := ((s1.trigFire tgSecond second).otnClose).pmcClose
    let t := s2.now / second * second
    let s3 := { s2 with time := { s2.time with
      latch := some (s2.now / second - 1, s2.mono + (t + settleSpan) - s2.now),
      rclk0 := if s2.time.rclkOn0 then n0 else 0, rclk1 := if s2.time.rclkOn1 then n1 else 0, rclkOn0 := false, rclkOn1 := false } }
    s3.rclkNote

/-- LATCH_CLOSE. -/
def execLatchClose (n0 n1 : BitVec 32) (s : State) : Host.Outcome State Fault Refusal := answer s (latchClose n0 n1 s)
/-- LATCH_PUBLISH. -/
def execLatchPublish (s : State) : Host.Outcome State Fault Refusal := answer s (latchPublish s)

end Sys2Proof.Machine
end

