-- ==== Sys2Proof/Machine/Access.lean ====
section
/-! DEFINITION. Register accesses: views, derived values, field types, register pairs, the registers whose write acts, BAR0, the management lane, and the
memory accesses of harts (R2, R8 to R14, R38, R344, R346, R348, R390, R391, R408, R462, R489, R496, R534, R535, R539, R540). -/

namespace Sys2Proof.Machine

/-! ### Addresses -/

/-- The record store within the Cyclometer window (R445). -/
def inStore (a : Nat) : Bool := decide (0x31000000 ≤ a) && decide (a < 0x3F000000)

/-- Whether a register or store byte lies at an address; every other address is unassigned (R534). -/
def assigned (a : Nat) : Bool := (regDef a).isSome || inStore a

/-- The place of a register in a pair (R14). -/
def halfOf (a : Nat) : Half := match regDef a with | some d => d.half | none => .single

/-- Whether a register has a field that clears when it is read (R12, R13). -/
def hasRc (a : Nat) : Bool := match regDef a with | some d => d.fields.any (fun f => f.ty == .rc) | none => false

/-- Whether an access meets a die in reset, or the quiesced link: it reads zero and writes nothing, and records nothing (R539). The registers of the
Cyclometer stay reachable. -/
def State.dark (s : State) (a : Nat) : Bool :=
  (tdieReg a && !islandReg a && !(s.tdieUp && !s.linkQuiesced)) || (fdieReg a && !s.fdieUp)

/-! ### Views (R348, R408, R444, R462, R540) -/

/-- Whether the party of a requester has the owner column of R348: the owner function, or hart domain 0. -/
def State.ownerParty (s : State) (r : Req) : Bool := s.party r == 0 || s.party r == 1024

/-- The key vault page of an address. -/
def kvcPage (a : Nat) : Option Nat := if 0x40000000 ≤ a ∧ a < 0x40100000 then some ((a - 0x40000000) / 0x4000) else none

/-- Whether a value or snapshot register of a counter may be read by parties other than the owners: USER of its selection is set (R462). -/
def State.pmcUser (s : State) (a : Nat) : Bool :=
  let d := (a - 0x50000000) / 0x100000
  let o := a % 0x100000
  decide (d < 2) && decide (0x10000 ≤ o) && decide (o < 0x30000) && s.flag (Reg.PMC_SEL d (o % 0x10000 / 8)) Fld.PMC_SEL_USER

/-- Whether a function other than the owner function may read region 3 or region 5: its HIF_FUNC_CFG bit. A hart domain other than 0 has no such
register: it does not read the window, and it reads counters (R462). -/
def State.funcMay (s : State) (r : Req) (f : Fld) (hart : Bool) : Bool :=
  match r with
  | .func n => s.flag (Reg.HIF_FUNC_CFG (n.val / 256) (n.val % 256)) f
  | .hart _ => hart

/-- Whether an address lies in the view of a requester for a read or a write. Key vault pages have their own rule (R408). A hart of any domain reaches its
doorbell (R366). -/
def State.inView (s : State) (r : Req) (a : Nat) (write : Bool) : Bool :=
  let region := a / 2 ^ 28
  if region = 3 then !write && (s.ownerParty r || s.funcMay r Fld.HIF_FUNC_CFG_CYC_READ false)
  else if s.ownerParty r then true
  else if region = 0 then !write && decide (a < 0x20)
  else if region = 5 then !write && s.funcMay r Fld.HIF_FUNC_CFG_PMC_READ true && s.pmcUser a
  else if 0x1FD00000 ≤ a ∧ a < 0x1FF00000 then s.party r == s.ringOwner ((a - 0x1FD00000) / 32)
  else (match r with | .hart _ => a == Reg.RING_HDB_LO || a == Reg.RING_HDB_HI | .func _ => false)

/-! ### Values that are derived when they are read -/

/-- A field of a register replaced in a word. -/
def putIn (f : Fld) (v : Nat) (w : Word) : Word := f.put w (v % 2 ^ f.width)

/-- The copies of DEV_STATUS (R540). -/
def State.devStatus (s : State) : Word :=
  let b (f : Fld) (x : Bool) (w : Word) : Word := putIn f x.toNat w
  b Fld.DEV_STATUS_CONFIRMED (s.bootState == bsConfirmed) <|
  b Fld.DEV_STATUS_KICKSTAND s.kickstand <|
  b Fld.DEV_STATUS_LEASE_EXPIRED (s.flag Reg.BOOT_STATUS Fld.BOOT_STATUS_LEASE_EXPIRED) <|
  b Fld.DEV_STATUS_THROTTLE (s.flag Reg.THM_STATUS Fld.THM_STATUS_THROTTLE) <|
  b Fld.DEV_STATUS_MARGIN_ALARM (s.flag Reg.PWR_STATUS Fld.PWR_STATUS_MARGIN_ALARM) <|
  b Fld.DEV_STATUS_CONS_FAULT (s.flag Reg.TRU_STATUS Fld.TRU_STATUS_FAULT) <|
  b Fld.DEV_STATUS_CAP_REDUCED ((List.range 128).any (fun k => (s.reg (0x1000 + 4 * k)).getLsbD 30)) <|
  b Fld.DEV_STATUS_IERR (s.reg Reg.HIF_IERR_STATUS != 0) <|
  b Fld.DEV_STATUS_SWITCHING (s.switching || s.overlap) <|
  b Fld.DEV_STATUS_FDIE_IN_RESET (!s.fdieUp) <|
  b Fld.DEV_STATUS_TDIE_IN_RESET (!s.tdieUp) 0

/-- The instant at which the lease ends, zero while none has begun (R487). -/
def State.leaseEnd (s : State) : Nat := match s.time.lease with | some t => s.now + t - s.mono | none => 0

/-- A word of an OTP record in force, with the bits of a key read as zero (R475, R488). -/
def State.otpWord (s : State) (r w keyLo keyBits : Nat) : Word :=
  match s.inForce r with
  | none => 0
  | some g =>
    let v := s.otpGen r g
    let hidden := v % 2 ^ keyLo + v / 2 ^ (keyLo + keyBits) * 2 ^ (keyLo + keyBits)
    BitVec.ofNat 32 (hidden / 2 ^ (32 * w))

/-- The overlap log entry that TDM_OVL_IDX selects (R500). -/
def State.ovlEntry (s : State) : Option OvlEntry := s.tdm.ovl[s.fld Reg.TDM_OVL_IDX Fld.TDM_OVL_IDX_INDEX]?

/-- Packets in contexts of an automaton set, of its running configuration or of any other (R231, R234). -/
def State.patCtxs (s : State) (i : Nat) (old : Bool) : Nat :=
  (s.pat.ctxs.l.filter (fun e => match e.2 with
    | some c => c.set == i && (!old || (c.started && c.gen != KMap.get 0 s.pat.gen i))
    | none => false)).length

/-- Derived registers of the slice clusters. -/
def State.sliceWord (s : State) (a : Nat) (w : Word) : Word :=
  let i := (a - 0x10000000) / 0x400000
  let j := (a % 0x4000 - 0x1000) / 0x400
  let blk := a % 0x400000 / 0x4000
  if a = Reg.PORT_GROUP_STATUS i then putIn Fld.PORT_GROUP_STATUS_LANE_USED (s.laneUsed i) w
  else if blk = 1 ∧ !s.portOtn (8 * i + j) then resetWord a
  else if a = Reg.FWH_STATUS i then
    putIn Fld.FWH_STATUS_RESPIN_OCC (KMap.get [] s.ing.respinQ i).length (putIn Fld.FWH_STATUS_LEARN_OCC (KMap.get [] s.ing.learnHold i).length w)
  else if a = Reg.ACL_SLICE_STATUS i then
    putIn Fld.ACL_SLICE_STATUS_INVALID_ROWS ((s.acl.invalid.keys.filter (fun k => k / 32768 == i)).length) w
  else if a = Reg.GATE_STATUS i j then putIn Fld.GATE_STATUS_TX_LAT (s.txLat (8 * i + j)) w
  else w

/-- Derived registers of the Forwarding die's common clusters. -/
def State.fwdWord (s : State) (r : Req) (a : Nat) (w : Word) : Word :=
  let h := (a - 0x1FC90000) / 0x10000
  let v := a % 0x400 / 4
  if a = Reg.TIME_NOW_FRAC then BitVec.ofNat 32 s.now
  else if a = Reg.TIME_NOW_SEC_LO then BitVec.ofNat 32 (KMap.get 0 s.time.nowCap (reqKey r) >>> 32)
  else if a = Reg.TIME_NOW_SEC_HI then BitVec.ofNat 32 (KMap.get 0 s.time.nowCap (reqKey r) >>> 64)
  else if a = Reg.TIME_PPS_IN_FRAC then BitVec.ofNat 32 s.time.ppsAt
  else if a = Reg.TIME_PPS_IN_SEC then BitVec.ofNat 32 (KMap.get 0 s.time.ppsCap (reqKey r))
  else if a = Reg.FWH_EPOCH_STATUS then putIn Fld.FWH_EPOCH_STATUS_PREV_INFLIGHT (s.inFlight (prevOf s.epoch)) w
  else if a = Reg.FWH_EEPOCH_STATUS then putIn Fld.FWH_EEPOCH_STATUS_PREV_INFLIGHT (s.egInFlight (prevOf s.egEpoch)) w
  else if a = Reg.PRS_FRAG_STATUS then putIn Fld.PRS_FRAG_STATUS_OCCUPANCY s.ing.frags.length w
  else if a = Reg.LPM_STATUS then putIn Fld.LPM_STATUS_UNITS_USED s.unitsUsed w
  else if a = Reg.LPM_STAGED then putIn Fld.LPM_STAGED_ENTRIES s.stagedCount w
  else if a = Reg.EXM_STATUS then putIn Fld.EXM_STATUS_USED s.tab.exm.l.length w
  else if a = Reg.LRN_STATUS then putIn Fld.LRN_STATUS_TRACK_OCC s.lrn.recs.length (putIn Fld.LRN_STATUS_QUEUE_OCC s.lrn.queue.length w)
  else if a = Reg.ACL_STATUS then putIn Fld.ACL_STATUS_STAGED s.acl.staged.length w
  else if a = Reg.PAT_STATUS then putIn Fld.PAT_STATUS_VERDICT_OCC s.pat.verdicts.length w
  else if Reg.PAT_SET_STATUS 0 ≤ a ∧ a ≤ Reg.PAT_SET_STATUS 7 then
    let i := (a - Reg.PAT_SET_STATUS 0) / 4
    putIn Fld.PAT_SET_STATUS_OLD_BUSY (decide (0 < s.patCtxs i true)).toNat (putIn Fld.PAT_SET_STATUS_ACTIVE (s.patCtxs i false) w)
  else if a = Reg.HIF_PORT_STATUS h then
    putIn Fld.HIF_PORT_STATUS_TOTAL_VFS (s.totalVfs h) (putIn Fld.HIF_PORT_STATUS_TAGS_QUAR (s.tagsQuar h) w)
  else if a = Reg.HIF_FUNC_STATUS h v then putIn Fld.HIF_FUNC_STATUS_BME (s.fn (256 * h + v)).bme.toNat w
  else if a = Reg.BOOT_LEASE_END_FRAC then BitVec.ofNat 32 s.leaseEnd
  else if a = Reg.BOOT_LEASE_END_SEC then BitVec.ofNat 32 (s.leaseEnd >>> 32)
  else if a = Reg.OTP_STATUS then
    let gen (r : Nat) : Nat := match s.inForce r with | some g => g + 1 | none => 0
    putIn Fld.OTP_STATUS_OWNER_GEN (gen otpOwner) <| putIn Fld.OTP_STATUS_POLICY_GEN (gen otpPolicy) <|
      putIn Fld.OTP_STATUS_SEAL_GEN (gen otpSeal) (putIn Fld.OTP_STATUS_REPAIR_USED s.repairUsed w)
  else if Reg.OTP_RD_IDENTITY 0 ≤ a ∧ a ≤ Reg.OTP_RD_IDENTITY 31 then s.otpWord otpIdentity ((a - Reg.OTP_RD_IDENTITY 0) / 4) 480 256
  else if Reg.OTP_RD_OWNER 0 ≤ a ∧ a ≤ Reg.OTP_RD_OWNER 15 then s.otpWord otpOwner ((a - Reg.OTP_RD_OWNER 0) / 4) 0 0
  else if Reg.OTP_RD_POLICY 0 ≤ a ∧ a ≤ Reg.OTP_RD_POLICY 3 then s.otpWord otpPolicy ((a - Reg.OTP_RD_POLICY 0) / 4) 0 0
  else if Reg.OTP_RD_SEAL 0 ≤ a ∧ a ≤ Reg.OTP_RD_SEAL 33 then s.otpWord otpSeal ((a - Reg.OTP_RD_SEAL 0) / 4) 768 256
  else if Reg.OTP_RD_REPAIR 0 ≤ a ∧ a ≤ Reg.OTP_RD_REPAIR 255 then BitVec.ofNat 32 (s.repairEntry ((a - Reg.OTP_RD_REPAIR 0) / 4))
  else if a = Reg.TDM_OVL_ADDR then (match s.ovlEntry with | some e => BitVec.ofNat 32 e.addr | none => 0)
  else if a = Reg.TDM_OVL_VALUE then (match s.ovlEntry with | some e => e.value | none => 0)
  else if a = Reg.TDM_OVL_HART then (match s.ovlEntry with | some e => putIn Fld.TDM_OVL_HART_HART e.hart 0 | none => 0)
  else if a = Reg.TDM_OVL_FRAC then (match s.ovlEntry with | some e => BitVec.ofNat 32 e.frac | none => 0)
  else w

/-- Derived registers of the Traffic die and the Cyclometer. -/
def State.trfWord (s : State) (a : Nat) (w : Word) : Word :=
  let q := (a - 0x20000000) / 0x400000
  if a = Reg.BUF_FREE256 q then BitVec.ofNat 32 (s.freeOf q 0)
  else if a = Reg.BUF_FREE2K q then BitVec.ofNat 32 (s.freeOf q 1)
  else if a = Reg.BUF_FREE16K q then BitVec.ofNat 32 (s.freeOf q 2)
  else if a = Reg.BUF_HBM_FREE q then BitVec.ofNat 32 (s.freeOf q 3)
  else if a = Reg.BUF_PD_FREE q then BitVec.ofNat 32 (s.pdFree q)
  else if a = Reg.ADM_SHARED_FREE q then BitVec.ofNat 32 ((s.sharedFree q).toNat / 1024)
  else if a = Reg.FAB_CAP then putIn Fld.FAB_CAP_OUTSTANDING s.outstanding (putIn Fld.FAB_CAP_CAP s.cap 0)
  else if a = Reg.TRU_STATUS then
    putIn Fld.TRU_STATUS_PENDING ((List.range 10).foldl (fun m l => m + (if (s.scopes (l + 1)).any (fun x => s.isPending (l + 1) x) then 2 ^ l else 0)) 0) w
  else if a = Reg.CYC_BP_STATUS then
    BitVec.ofNat 32 ((List.range 16).foldl (fun m e => m + (if s.commitStalls e then 2 ^ e else 0)) 0)
  else w

/-- The value that a read of an address gives a requester, before anything is latched or cleared. -/
def State.readWord (s : State) (r : Req) (a : Nat) : Word :=
  if inStore a then BitVec.ofNat 32 ((List.range 4).foldl (fun v i => v + (s.storeByte (a - 0x31000000 + i)).toNat * 256 ^ i) 0)
  else
    let wo : Word := match regDef a with | some d => d.fields.foldl (fun m f => if f.ty == .wo then m ||| f.mask else m) 0 | none => 0
    let w := s.reg a &&& ~~~ wo
    if a = Reg.DEV_STATUS then s.devStatus
    else if a = Reg.DEV_SERIAL_LO then BitVec.ofNat 32 s.serial
    else if a = Reg.DEV_SERIAL_HI then BitVec.ofNat 32 (s.serial >>> 32)
    else if a = Reg.KVC_SLOT_CFG 0xFC ∨ a = Reg.KVC_SLOT_CFG 0xFD then 0
    else
      match a / 2 ^ 28 with
      | 1 => if a < 0x14000000 then s.sliceWord a w else s.fwdWord r a w
      | 2 => s.trfWord a w
      | _ => w

/-! ### Reads (R12 to R14, R68) -/

def State.holdOf (s : State) (r : Req) : HoldSt := KMap.get .none s.hold (reqKey r)
def State.setHold (s : State) (r : Req) (h : HoldSt) : State := { s with hold := KMap.set .none s.hold (reqKey r) h }

/-- Clears the RC fields of a register. -/
def State.clearRc (s : State) (a : Nat) : State :=
  match regDef a with
  | some d => if d.fields.any (fun f => f.ty == .rc) then s.setReg a (d.fields.foldl (fun w f => if f.ty == .rc then f.put w 0 else w) (s.reg a)) else s
  | none => s

/-- A read of an assigned register: its value, and what the read does. -/
def State.regRead (s0 : State) (r : Req) (a : Nat) : Word × State :=
  let s := if a / 2 ^ 28 = 5 then s0.pmcDeliver else s0
  let w := s.readWord r a
  if a = Reg.TIME_NOW_FRAC then (w, s.timeCapture r)
  else if a = Reg.TIME_PPS_IN_FRAC then (w, s.ppsCapture r)
  else if a = Reg.TIME_PPS_IN_SEC then (w, s.setFlag Reg.TIME_STATUS Fld.TIME_STATUS_PPS_IN_NEW false)
  else
    match halfOf a with
    | .lo => (w, s.setHold r { s.holdOf r with readHi := some (a + 4, s.readWord r (a + 4)) })
    | .hi =>
      match (s.holdOf r).readHi with
      | some (b, x) => if b = a then (x, s.setHold r { s.holdOf r with readHi := none }) else (w, s)
      | none => (w, s)
    | .single => (w, s.clearRc a)

/-! ### Writes by field type (R11, R12) -/

/-- A field of a register after a write, by its type; sealed fields and write-once fields change as the flags say. -/
def Fld.write (f : Fld) (v : Word) (sealed first : Bool) (w : Word) : Word :=
  match f.ty with
  | .rw => f.put w (f.get v)
  | .ro | .rc | .wo => w
  | .w1c => w &&& ~~~ (v &&& f.mask)
  | .w1s => w ||| (v &&& f.mask)
  | .rwo => if first then f.put w (f.get v) else w
  | .sl => if sealed then w else f.put w (f.get v)

/-- A write of a register whose fields act by their types alone; a sealed register counts the write as refused (R437). -/
def State.plainWrite (s : State) (a : Nat) (v : Word) : State :=
  match regDef a with
  | none => s
  | some d =>
    let has (t : RegTy) : Bool := d.fields.any (fun f => f.ty == t)
    let s1 := if has .sl && s.sealed then s.sealRefused else s
    let first := KMap.get 0 s.written a != 1
    let s2 := s1.setReg a (d.fields.foldl (fun w f => f.write v s.sealed first w) (s.reg a))
    if has .rwo then { s2 with written := KMap.set 0 s2.written a 1 } else s2

/-- A correctable internal error recorded on the host port that carried an access; harts have none, and R10 applies to no function but the owner
(R10, R348). -/
def State.accessError (s : State) (r : Req) : State := match r with | .func f => if f = 0 then s.ierr ieUnassigned 1 63 0 else s | .hart _ => s

/-! ### Registers whose write acts -/

/-- Writes of the slice clusters. -/
def State.sliceWrite (s : State) (a : Nat) (v : Word) : State :=
  let i := (a - 0x10000000) / 0x400000
  let j := (a % 0x4000 - 0x1000) / 0x400
  let p := 8 * i + j
  if a = Reg.PORT_CFG i j then portCfgWrite p v s
  else if a = Reg.PORT_PRE_CFG i j then portPreCfgWrite p v s
  else if a = Reg.OTN_CFG i j then otnCfgWrite p v s
  else if a = Reg.FWH_CFG i then dramWait i v s
  else if a = Reg.GATE_LIST_CMD i then gateListCmd i v s
  else if a = Reg.GATE_CFG i j then gateCfgWrite p v s
  else if a = Reg.GATE_CHANGE i j then (if Fld.GATE_CHANGE_GO.get v = 1 then go p s else s)
  else s.plainWrite a v

/-- Sets the last instant at which a sweep, checkpoint or round was looked at, so that a change of its period makes nothing due that lies before it. -/
def State.trigNow (s : State) (id t : Nat) : State := { s with time := { s.time with trig := KMap.set 0 s.time.trig id t } }

/-- LRN_CFG: a change of AGE_EN or AGE_PERIOD counts sweeps from now on (R202). -/
def State.lrnCfgWrite (s : State) (v : Word) : State :=
  let s1 := s.plainWrite Reg.LRN_CFG v
  if s1.reg Reg.LRN_CFG &&& 0x003F8000 = s.reg Reg.LRN_CFG &&& 0x003F8000 then s1 else s1.trigNow tgAge s1.now

/-- Writes of the tables, search arrays, memories and inline crypto of the Forwarding die. -/
def State.tableWrite (s : State) (r : Req) (a : Nat) (v : Word) : State :=
  let c := (a - Reg.TDC_CH_CFG 0) / 0x100
  if a = Reg.FWH_TURN then (if Fld.FWH_TURN_CLOSE.get v = 1 then close s else s)
  else if a = Reg.FWH_ETURN then (if Fld.FWH_ETURN_CLOSE.get v = 1 then fwhEturn s else s)
  else if a = Reg.LPM_V6_CONT then lpmV6ContWrite v s
  else if a = Reg.LRN_CFG then s.lrnCfgWrite v
  else if a = Reg.LRN_UNFREEZE then (if Fld.LRN_UNFREEZE_ALL.get v = 1 then learnUnfreezeAll s else s)
  else if Reg.ACL_BANK_CFG 0 ≤ a ∧ a ≤ Reg.ACL_BANK_CFG 7 then aclBankCfgWrite (.bank (Fin.ofNat 8 ((a - Reg.ACL_BANK_CFG 0) / 4))) v s
  else if Reg.ACL_GROUP_TAG 0 0 ≤ a ∧ a ≤ Reg.ACL_GROUP_TAG 7 31 then
    let k := (a - Reg.ACL_GROUP_TAG 0 0) / 4
    aclBankCfgWrite (.tags (Fin.ofNat 8 (k / 32)) (Fin.ofNat 32 k)) v s
  else if a = Reg.ACL_WR_CMD then aclCmdWrite v s
  else if a = Reg.PAT_VERDICT_FLUSH then (if Fld.PAT_VERDICT_FLUSH_ALL.get v = 1 then patVerdictFlush s else s)
  else if Reg.PAT_SET_CFG 0 ≤ a ∧ a ≤ Reg.PAT_SET_CFG 7 then patSetCfgWrite ((a - Reg.PAT_SET_CFG 0) / 4) v s
  else if a = Reg.PAT_WR_CMD then patCmdWrite v s
  else if a = Reg.ICR_CMD then icrCmdWrite v s
  else if Reg.ICR_PORT_CFG 0 ≤ a ∧ a ≤ Reg.ICR_PORT_CFG 127 ∧ Fld.ICR_PORT_CFG_VALIDATE.get v = 3 then s
  else if a = Reg.TDC_CH_CFG c ∧ c < 24 then
    let (d, s1) := s.draw
    channelCheck (.tdc (Fin.ofNat 24 c)) v (d % 2 == 1) s1
  else if Reg.TDC_CH_CFG 0 ≤ a ∧ c < 24 ∧ s.flag (Reg.TDC_CH_CFG c) Fld.TDC_CH_CFG_EN ∧ 8 ≤ a % 0x100 ∧ a % 0x100 < 0x80 then s.accessError r
  else s.plainWrite a v

/-- Writes of BOOT_CTRL: its commands act in the order of its bits (R487). -/
def State.bootCtrlWrite (s : State) (r : Req) (v : Word) : State :=
  let act (f : Fld) (g : State → State) (s : State) : State := if f.get v = 1 then g s else s
  let s1 := act Fld.BOOT_CTRL_GO (bootGo r) s
  let s2 := act Fld.BOOT_CTRL_CONFIRM (confirm r) s1
  let s3 := act Fld.BOOT_CTRL_RESTART (restart r) s2
  let s4 := act Fld.BOOT_CTRL_FAIL_CLEAR (failClear r) s3
  s4.setFlag Reg.BOOT_CTRL Fld.BOOT_CTRL_RING_LOAD (Fld.BOOT_CTRL_RING_LOAD.get v == 1)

/-- Writes of TDM_CTRL: a heartbeat first, a forced switch last (R500). -/
def State.tdmCtrlWrite (s : State) (r : Req) (v : Word) : State :=
  let act (f : Fld) (g : State → State) (s : State) : State := if f.get v = 1 then g s else s
  act Fld.TDM_CTRL_FORCE_SWITCH (forceSwitch r) (act Fld.TDM_CTRL_RELEASE (release r) (act Fld.TDM_CTRL_CLAIM (claim r)
    (act Fld.TDM_CTRL_HEARTBEAT (heartbeat r) s)))

/-- Writes of the time, host, ring, core, start-up, one-time, Tandem, thermal and power blocks. -/
def State.commonWrite (s : State) (r : Req) (a : Nat) (v : Word) : State :=
  let h := (a - 0x1FC90000) / 0x10000
  let x := a % 0x400 / 4
  let g := (a - 0x1FD00000) / 32
  if a = Reg.TIME_CTRL then timeCtrlWrite v s
  else if a = Reg.TIME_SYNCE_CFG then (s.plainWrite a v).rclkNote
  else if a = Reg.HIF_IERR_STATUS then hifIerrStatusClear v s
  else if a = Reg.HIF_APT_CMD then aptCmdWrite v s
  else if a = Reg.HIF_PORT_CFG h ∧ h < 4 then hifPortCfgWrite h v s
  else if a = Reg.HIF_APT_FUNC h x ∧ h < 4 then hifAptFuncWrite (256 * h + x) v s
  else if 0x1FD00000 ≤ a ∧ a < 0x1FF00000 then
    match a % 32 / 4 with
    | 0 => ringSetupWrite r g .cfg v s
    | 1 => ringSetupWrite r g .owner v s
    | 2 => ringSetupWrite r g .descLo v s
    | 3 => ringSetupWrite r g .descHi v s
    | 4 => ringSetupWrite r g .cplLo v s
    | 5 => ringSetupWrite r g .cplHi v s
    | 6 => ringCtrlWrite r g v s
    | _ => s
  else if Reg.CPX_HART_CTRL 0 ≤ a ∧ a ≤ Reg.CPX_HART_CTRL 127 then hartReset ((a - Reg.CPX_HART_CTRL 0) / 4) v s
  else if a = Reg.BOOT_CTRL then s.bootCtrlWrite r v
  else if a = Reg.BOOT_ABORT then firmwareAbort r (Fld.BOOT_ABORT_CODE.get v) s
  else if a = Reg.BOOT_LEASE_CFG then bootLeaseCfgWrite r v s
  else if a = Reg.BOOT_LEASE_RENEW then (if Fld.BOOT_LEASE_RENEW_GO.get v = 1 then leaseRenew r s else s)
  else if a = Reg.BOOT_UPG_CMD then (if Fld.BOOT_UPG_CMD_START.get v = 1 then upgradeStart r (Fld.BOOT_UPG_CMD_LOC.get v) s else s)
  else if a = Reg.BOOT_UPG_BUF then bootUpgBufWrite r v s
  else if a = Reg.BOOT_AUTH_CTRL then
    let (d, s1) := s.draw
    if Fld.BOOT_AUTH_CTRL_GO.get v = 1 then s1.bootAuth (d % 2 == 1) else s
  else if a = Reg.OTP_WR_CMD then
    let (d, s1) := s.draw
    if Fld.OTP_WR_CMD_GO.get v = 1 then otpWrite r (Fld.OTP_WR_CMD_RECORD.get v) (d % 2 == 1) s1 else s
  else if a = Reg.TDM_CTRL then s.tdmCtrlWrite r v
  else if a = Reg.THM_CFG then
    let s1 := s.plainWrite a v
    if !s.flag a Fld.THM_CFG_GOV_EN && s1.flag a Fld.THM_CFG_GOV_EN then s1.trigFire tgGov (spanExp 10) else s1
  else if a = Reg.TDM_CKPT_PERIOD_LO ∨ a = Reg.TDM_CKPT_PERIOD_HI then (s.plainWrite a v).trigNow tgCheckpoint s.now
  else s.plainWrite a v

/-- Writes of the quadrants, the fabric, the HBM controllers and Truing. -/
def State.trafficWrite (s : State) (r : Req) (a : Nat) (v : Word) : State :=
  let q := (a - 0x20000000) / 0x400000
  let b := (a - 0x22000000) / 0x400000
  let t := (a - Reg.HBMC_ST_CFG 0) / 0x400
  if a = Reg.BUF_POOL_CFG0 q then bufCfgWrite q .pool0 v s
  else if a = Reg.BUF_POOL_CFG1 q then bufCfgWrite q .pool1 v s
  else if a = Reg.BUF_HBM_PAGES q then bufCfgWrite q .hbmPages v s
  else if a = Reg.ADM_QCMD q then admCmdWrite q v s
  else if a = Reg.MCR_WR_CMD q then mcrCmdWrite q v s
  else if a = Reg.SCH_NCMD q then schNcmd q v s
  else if a = Reg.SCH_WHEEL_CFG q ∧ s.flag (Reg.SCH_CFG q) Fld.SCH_CFG_EN then s
  else if a = Reg.SCH_SAMPLE_CFG q then (s.plainWrite a v).trigNow (tgSample q) s.nowT
  else if Reg.SCH_PORT_CFG q 0 ≤ a ∧ a ≤ Reg.SCH_PORT_CFG q 35 ∧ q < 4 then schPortCfgWrite q ((a - Reg.SCH_PORT_CFG q 0) / 4) v s
  else if a = Reg.FAB_BUNDLE_CFG b then fabBundleCfgWrite b v s
  else if a = Reg.FAB_TIME_TX b then fabTimeTx b v s
  else if a = Reg.FAB_DEV_CFG then fabDevCfgWrite v s
  else if a = Reg.FAB_MCL_CMD then fabMclCmd v s
  else if a = Reg.HBMC_ST_CFG t ∧ t < 8 then
    let (d, s1) := s.draw
    channelCheck (.hbm (Fin.ofNat 8 t)) v (d % 2 == 1) s1
  else if Reg.HBMC_DLY t 0 0 ≤ a ∧ a ≤ Reg.HBMC_DLY t 31 3 ∧ t < 8 ∧ s.flag (Reg.HBMC_ST_CFG t) Fld.HBMC_ST_CFG_EN then s.accessError r
  else if a = Reg.TRU_CFG then
    let s1 := s.plainWrite a v
    if !s.flag a Fld.TRU_CFG_EN && s1.flag a Fld.TRU_CFG_EN then s1.trigFire tgAudit (spanExp 10) else s1
  else if a = Reg.TRU_STATUS then
    if Fld.TRU_STATUS_FAULT.get v = 1 then
      (s.setFlag a Fld.TRU_STATUS_FAULT false).setFlag Reg.TRU_FAULT_LOG Fld.TRU_FAULT_LOG_VALID false
    else s
  else if a = Reg.TRU_PURGE_CMD then
    match Fld.TRU_PURGE_CMD_OP.get v with
    | 1 => purge true s
    | 2 => purge false s
    | _ => s.setFlag Reg.TRU_PURGE_STATUS Fld.TRU_PURGE_STATUS_ERR true
  else s.plainWrite a v

/-- Writes of the CYC block (R426, R436, R437, R444). -/
def State.cycWrite (s : State) (a : Nat) (v : Word) : State :=
  let c := (a - Reg.CYC_CH_CFG 24) / 0x100
  let n := Fld.CYC_INTERVAL_SECONDS.get v
  if a = Reg.CYC_INTERVAL then (if n = 0 ∨ 86400 < n then (if s.sealed then s.sealRefused else s) else s.plainWrite a v)
  else if a = Reg.CYC_PHASE then
    (if s.fld Reg.CYC_INTERVAL Fld.CYC_INTERVAL_SECONDS ≤ n then (if s.sealed then s.sealRefused else s) else s.plainWrite a v)
  else if a = Reg.CYC_AUTH_CTRL then
    let (d, s1) := s.draw
    if Fld.CYC_AUTH_CTRL_GO.get v = 1 then s1.cycAuth (d % 2 == 1) else s
  else if a = Reg.CYC_ACK then cycAckSeq v s
  else if a = Reg.CYC_ACK_OLD then oldRuns v s
  else if a = Reg.CYC_MAP_CMD then
    (if Fld.CYC_MAP_CMD_WRITE.get v = 1 then cycMapWrite v s else if Fld.CYC_MAP_CMD_READ.get v = 1 then cycMapRead v s else s)
  else if a = Reg.CYC_CH_CFG (24 + c) ∧ c < 2 then
    let (d, s1) := s.draw
    meterChannelCheck (24 + c) v (d % 2 == 1) s1
  else s.plainWrite a v

/-- Writes of the key vault (R407 to R410, R419). -/
def State.vaultWrite (s : State) (r : Req) (a : Nat) (v : Word) : State :=
  match kvcPage a with
  | some p =>
    if a = Reg.KVC_CMD p then kvcCmdWrite r p v s
    else if (Reg.KVC_DIN p 0 ≤ a ∧ a ≤ Reg.KVC_DIN p 7) ∨ (Reg.KVC_KCV p 0 ≤ a ∧ a ≤ Reg.KVC_KCV p 1) then s.setReg a v
    else s.plainWrite a v
  | none =>
    if a = Reg.KVC_PAGE_BIND 0 then s
    else if Reg.KVC_SLOT_CFG 0 ≤ a ∧ a ≤ Reg.KVC_SLOT_CFG 255 then kvcSlotCfgWrite ((a - Reg.KVC_SLOT_CFG 0) / 4) v s
    else s.plainWrite a v

/-- Writes of the counter sets (R460, R461). -/
def State.pmcWrite (s : State) (a : Nat) (v : Word) : State :=
  let d := (a - 0x50000000) / 0x100000
  let s1 := s.pmcDeliver
  if a = Reg.PMC_CTRL d then pmcCtrlWrite d v s1 else s1.plainWrite a v

/-- A write of one assigned register by a requester, whole and not held. -/
def State.regWrite1 (s : State) (r : Req) (a : Nat) (v : Word) : State :=
  match a / 2 ^ 28 with
  | 0 => if a = Reg.DEV_DIE_RESET then dieResetWrite r v s else s.plainWrite a v
  | 1 =>
    if a < 0x14000000 then s.sliceWrite a v
    else if (0x1FC04000 ≤ a ∧ a < 0x1FC28000) ∨ (0x1FC2C000 ≤ a ∧ a < 0x1FC30000) then s.tableWrite r a v
    else s.commonWrite r a v
  | 2 => if islandReg a then s.cycWrite a v else s.trafficWrite r a v
  | 4 => s.vaultWrite r a v
  | 5 => s.pmcWrite a v
  | _ => s

/-! ### Register pairs (R14) -/

/-- A write of a `_HI` register applies the `_LO` half held for it and itself in one cycle, or itself alone. -/
def State.pairApply (s : State) (r : Req) (a : Nat) (held : Option Word) (v : Word) : State :=
  let lo := a - 4
  let both := v.toNat * 2 ^ 32 + (held.getD (s.reg lo)).toNat
  if a = Reg.TIME_INC_HI then timeIncWrite (BitVec.ofNat 64 both) s
  else if a = Reg.TDM_SEQ_HI then tdmSeqWrite r both s
  else if a = Reg.RING_HDB_HI then
    match r with
    | .hart _ => doorbell r true (BitVec.ofNat 64 (v.toNat * 2 ^ 32 + (held.getD 0).toNat)) s
    | .func _ => s
  else if 0x50010000 ≤ a ∧ a % 0x100000 < 0x20000 ∧ 0x10000 ≤ a % 0x100000 then
    pmcValWrite ((a - 0x50000000) / 0x100000) (a % 0x10000 / 8) both s
  else
    let s1 := match held with | some w => s.regWrite1 r lo w | none => s
    s1.regWrite1 r a v

/-- A write of an assigned register by a requester. -/
def State.regWrite (s : State) (r : Req) (a : Nat) (v : Word) : State :=
  match halfOf a with
  | .lo => s.setHold r { s.holdOf r with writeLo := some (a, v) }
  | .hi =>
    match (s.holdOf r).writeLo with
    | some (b, w) =>
      if b + 4 = a then (s.setHold r { s.holdOf r with writeLo := none }).pairApply r a (some w) v else s.pairApply r a none v
    | none => s.pairApply r a none v
  | .single => s.regWrite1 r a v

/-! ### One access of a requester -/

/-- Whether an access crosses the management lane (R38). -/
def laneAddr (a : Nat) : Bool := islandReg a

/-- The part of an access within the view: the lane, the dies, unassigned addresses, then the register (R2, R10, R38, R539). -/
def State.inside (s : State) (r : Req) (a : Nat) (w : Option Word) (ok : Bool) : Word × State :=
  if laneAddr a && !s.metered then (0, s)
  else if laneAddr a && !ok then (0, s.accessError r)
  else if s.dark a then (0, s)
  else if !assigned a then (0, s.accessError r)
  else
    match w with
    | none => s.regRead r a
    | some v => (0, s.regWrite r a v)

/-- A whole 32-bit access of a requester to a register address: what it reads, and the state after it. A hart outside its key vault page takes an access
fault; a write of the inactive supervisor cluster is dropped outside the TDM block; an access outside the view reads zero or is ignored, and
counts (R348, R408, R489). -/
def State.access (s : State) (r : Req) (addr : Nat) (w : Option Word) (ok : Bool) : Word × State :=
  let a := addr % 2 ^ 32 / 4 * 4
  let s1 := match w with | some v => s.ovlNote r a v | none => s
  let exc : HartExc := if w.isSome then .storeFault else .loadFault
  if w.isSome && s1.reqBlocked r && !(decide (0x1FC38000 ≤ a) && decide (a < 0x1FC3C000)) then (0, s1.viewRefused r)
  else
    match kvcPage a with
    | some p => if s1.kvcBound r p then s1.inside r a w ok else (0, s1.kvcFault r exc a)
    | none => if s1.inView r a w.isSome then s1.inside r a w ok else (0, s1.viewRefused r)

/-- The same with the value that a read returns presented to the requester. -/
def State.accessOut (s : State) (r : Req) (a : Nat) (w : Option Word) (ok : Bool) : State :=
  let (x, s1) := s.access r a w ok
  if w.isSome then s1 else s1.emit (.regData r (a % 2 ^ 32 / 4 * 4) x)

/-! ### BAR0 (R345, R346, R348, R535) -/

/-- A DW of a function's MSI-X table. -/
def State.msixTable (s : State) (f o : Nat) (w : Option Word) : Word × State :=
  let v := o / 16
  let x := s.vec f v
  if s.vectorsOf f ≤ v then (0, s)
  else
    match o % 16 / 4, w with
    | 0, none => (BitVec.ofNat 32 x.addr.toNat, s)
    | 1, none => (BitVec.ofNat 32 (x.addr.toNat >>> 32), s)
    | 2, none => (x.data, s)
    | _, none => (BitVec.ofNat 32 x.masked.toNat, s)
    | 0, some y => (0, s.setVec f v { x with addr := BitVec.ofNat 64 (x.addr.toNat / 2 ^ 32 * 2 ^ 32 + y.toNat / 4 * 4) })
    | 1, some y => (0, s.setVec f v { x with addr := BitVec.ofNat 64 (y.toNat * 2 ^ 32 + x.addr.toNat % 2 ^ 32) })
    | 2, some y => (0, s.setVec f v { x with data := y })
    | _, some y => (0, s.setVec f v { x with masked := y.getLsbD 0 })

/-- A DW of a function's PBA: the pending bits of 32 vectors, read-only. -/
def State.pbaWord (s : State) (f o : Nat) : Word :=
  BitVec.ofNat 32 ((List.range 32).foldl (fun m k =>
    m + (if 32 * (o / 4) + k < s.vectorsOf f ∧ (s.vec f (32 * (o / 4) + k)).pend then 2 ^ k else 0)) 0)

/-- The register address that a BAR0 offset reaches: WINSEL × S + o, a WINSEL of 4 GiB ÷ S or above acting as 0 (R348). -/
def State.bar0Addr (s : State) (f o : Nat) : Nat :=
  let size := 2 ^ (28 + (s.fn f).bar0)
  let win := (s.fn f).win.toNat % 16
  (if 2 ^ 32 / size ≤ win then 0 else win * size) + o % size

/-- BAR0_ACCESS: one DW; a read with any byte enabled reads it whole, a write with fewer than four is ignored and counted (R535). -/
def bar0Access (f o be : Nat) (w : Option Word) (s : State) : State :=
  let off := o % 2 ^ (28 + (s.fn f).bar0) / 4 * 4
  let r := Req.func (Fin.ofNat 1024 f)
  if !s.presented f then s
  else if w.isNone ∧ be = 0 then s.emit (.regData r (s.bar0Addr f off) 0)
  else if 0x0FF00000 ≤ off ∧ off < 0x10000000 then
    let (x, s1) := if off < 0x0FF80000 then s.msixTable f (off - 0x0FF00000) w else (s.pbaWord f (off - 0x0FF80000), s)
    if w.isSome then (if be = 15 then s1 else s) else s1.emit (.regData r off x)
  else
    let a := s.bar0Addr f off
    if w.isSome ∧ be ≠ 15 then s.viewRefused r else s.accessOut r a w true

/-! ### Harts (R390, R391) -/

/-- Whether ordinary accesses reach the memory at an address, 64 MiB region by region: table DRAM regions that hold tables and HBM granules of the pool
fault. -/
def State.hartMemory (s : State) (a : Nat) : Bool :=
  if 0x400000000 ≤ a ∧ a < 0xA00000000 then
    let c := (a - 0x400000000) / 2 ^ 30
    let r := a / 2 ^ 26 % 16
    decide (2 + s.fld (Reg.TDC_CH_STATUS c) Fld.TDC_CH_STATUS_RETIRED ≤ r) && decide (r < s.chRegions c)
  else if 0x2000000000 ≤ a ∧ a < 0x4000000000 then
    s.granuleOk true ((a - 0x2000000000) / 2 ^ 26)
  else false

/-- Sign-extends the `n` low bytes of a number to 64 bits. -/
def sext (n v : Nat) : Nat := if v.testBit (8 * n - 1) then v + (2 ^ 64 - 2 ^ (8 * n)) else v

/-- HART_MEMORY_ACCESS (R335, R390, R391, R397, R535): a load, store or fetch of 1 to 8 bytes. `unc` is an uncorrectable word that a read meets: it is
not delivered, and the load or fetch faults. -/
def hartMemoryAccess (h : Fin 128) (op : HartOp) (a n : Nat) (unc : Option MemLoc) (s : State) : State :=
  let fault : HartExc := match op with | .load .. => .loadFault | .store _ => .storeFault | .fetch => .fetchFault
  let d := s.hartDom h.val
  let write := match op with | .store _ => true | _ => false
  if !s.hartRuns h.val then s
  else if a < 2 ^ 32 then
    if n ≠ 4 ∨ a % 4 ≠ 0 then s.trap h.val fault a
    else
      match op with
      | .fetch => s.trap h.val fault a
      | .store v => (s.access (.hart h) a (some (v.setWidth 32)) true).2
      | .load rd sg =>
        match kvcPage a with
        | some p =>
          if s.kvcBound (.hart h) p then
            let (x, s1) := s.access (.hart h) a none true
            s1.setX h.val rd.val (if sg then sext 4 x.toNat else x.toNat)
          else (s.access (.hart h) a none true).2
        | none =>
          let (x, s1) := s.access (.hart h) a none true
          s1.setX h.val rd.val (if sg then sext 4 x.toNat else x.toNat)
  else if ledgerBase ≤ a ∧ a + 8 ≤ ledgerEnd then
    match op with
    | .load rd _ => if n = 8 ∧ a % 8 = 0 ∧ s.domReach d a 8 false false then s.setX h.val rd.val (s.ramLE a 8) else s.trap h.val fault a
    | _ => s.trap h.val fault a
  else if !s.hartMemory a || !s.hartMemory (a + n - 1) || !s.domReach d a n write (op == .fetch) then s.trap h.val fault a
  else
    let s1 := s.activateAt (decide (0x2000000000 ≤ a)) (if a < 0x2000000000 then (a - 0x400000000) / 2 ^ 30 else (a - 0x2000000000) / 2 ^ 35)
    match op with
    | .store v => s1.setRamLE a n (v.toNat % 256 ^ n)
    | .load rd sg =>
      match unc with
      | some l => (s1.memUncorr l (if a < 0x2000000000 then 1 else 2)).trap h.val fault a
      | none => s1.setX h.val rd.val (if sg then sext n (s1.ramLE a n) else s1.ramLE a n)
    | .fetch =>
      match unc with
      | some l => (s1.memUncorr l (if a < 0x2000000000 then 1 else 2)).trap h.val fault a
      | none => s1

/-! ### The rows -/

/-- A register write by name: an address of register space, or a function's window register in its configuration space (R346). -/
def regAddrWrite (r : Req) (a : RegAddr) (v : Word) (s : State) : State :=
  match a with
  | .space x => s.accessOut r x.toNat (some v) true
  | .dvsecWin f => if s.presented f.val then s.setFn f.val { s.fn f.val with win := v &&& 0xF } else s

/-- REG_WRITE (R11, R12). -/
def execRegWrite (r : Req) (a : RegAddr) (v : BitVec 32) (s : State) : Host.Outcome State Fault Refusal := answer s (regAddrWrite r a v s)
/-- UNASSIGNED_ACCESS (R10). -/
def execUnassignedAccess (r : Req) (a : BitVec 32) (w : Option (BitVec 32)) (s : State) : Host.Outcome State Fault Refusal :=
  answer s (s.accessOut r a.toNat w true)
/-- BAR0_ACCESS (R348). -/
def execBar0Access (f : Fin 1024) (o : BitVec 32) (be : BitVec 4) (w : Option (BitVec 32)) (s : State) : Host.Outcome State Fault Refusal :=
  answer s (bar0Access f.val o.toNat be.toNat w s)
/-- PAIR_LO_READ (R14). -/
def execPairLoRead (r : Req) (a : BitVec 32) (s : State) : Host.Outcome State Fault Refusal := answer s (s.accessOut r a.toNat none true)
/-- PAIR_LO_WRITE (R14). -/
def execPairLoWrite (r : Req) (a v : BitVec 32) (s : State) : Host.Outcome State Fault Refusal := answer s (s.accessOut r a.toNat (some v) true)
/-- PAIR_HI_WRITE (R14). -/
def execPairHiWrite (r : Req) (a v : BitVec 32) (s : State) : Host.Outcome State Fault Refusal := answer s (s.accessOut r a.toNat (some v) true)
/-- RC_FIELD_READ (R13). -/
def execRcFieldRead (r : Req) (a : BitVec 32) (s : State) : Host.Outcome State Fault Refusal := answer s (s.accessOut r a.toNat none true)
/-- MGMT_LANE_ACCESS (R38): `ok` is whether the transfer, with its retries, succeeds. -/
def execMgmtLaneAccess (r : Req) (a : BitVec 32) (w : Option (BitVec 32)) (ok : Bool) (s : State) : Host.Outcome State Fault Refusal :=
  answer s (s.accessOut r a.toNat w ok)
/-- HART_MEMORY_ACCESS (R390): `size` gives the access 2^size bytes. -/
def execHartMemoryAccess (h : Fin 128) (op : HartOp) (a : BitVec 64) (size : Fin 4) (unc : Option MemLoc) (s : State) :
    Host.Outcome State Fault Refusal := answer s (hartMemoryAccess h op a.toNat (2 ^ size.val) unc s)

end Sys2Proof.Machine
end

