-- ==== Sys2Proof/Machine/Dispatch.lean ====
section
/-! DEFINITION. The dispatch of the commands: one arm for each constructor of Instr. -/

namespace Sys2Proof.Machine

-- One arm per command: a direct call of its meaning, or a rejection by name.
def exec (i : Instr) (s : State) : Host.Outcome State Fault Refusal :=
  match i with
  | .regWrite r a v => Sys2Proof.Machine.execRegWrite r a v s
  | .unassignedAccess r a w => Sys2Proof.Machine.execUnassignedAccess r a w s
  | .bar0Access f o be w => Sys2Proof.Machine.execBar0Access f o be w s
  | .pairLoRead r a => Sys2Proof.Machine.execPairLoRead r a s
  | .pairLoWrite r a v => Sys2Proof.Machine.execPairLoWrite r a v s
  | .pairHiWrite r a v => Sys2Proof.Machine.execPairHiWrite r a v s
  | .rcFieldRead r a => Sys2Proof.Machine.execRcFieldRead r a s
  | .engineSubstitution e => Sys2Proof.Machine.execEngineSubstitution e s
  | .d2dFlitRetry d again => Sys2Proof.Machine.execD2dFlitRetry d again s
  | .d2dLinkFailure => Sys2Proof.Machine.execD2dLinkFailure s
  | .mgmtLaneAccess r a w ok => Sys2Proof.Machine.execMgmtLaneAccess r a w ok s
  | .linkQuiesce => Sys2Proof.Machine.execLinkQuiesce s
  | .linkRetrain ok => Sys2Proof.Machine.execLinkRetrain ok s
  | .timeIncWrite v => Sys2Proof.Machine.execTimeIncWrite v s
  | .timeIncApply => Sys2Proof.Machine.execTimeIncApply s
  | .step v => Sys2Proof.Machine.execStep v s
  | .timeStepApply => Sys2Proof.Machine.execTimeStepApply s
  | .service v => Sys2Proof.Machine.execService v s
  | .timeMarker => Sys2Proof.Machine.execTimeMarker s
  | .timeNowRead r => Sys2Proof.Machine.execTimeNowRead r s
  | .timePpsInFracRead r => Sys2Proof.Machine.execTimePpsInFracRead r s
  | .timePpsInSecRead r => Sys2Proof.Machine.execTimePpsInSecRead r s
  | .ppsInEdge => Sys2Proof.Machine.execPpsInEdge s
  | .ref10mMeasure => Sys2Proof.Machine.execRef10mMeasure s
  | .ref10mLos => Sys2Proof.Machine.execRef10mLos s
  | .ppsOutRise => Sys2Proof.Machine.execPpsOutRise s
  | .ppsOutFall => Sys2Proof.Machine.execPpsOutFall s
  | .latchClose n0 n1 => Sys2Proof.Machine.execLatchClose n0 n1 s
  | .latchPublish => Sys2Proof.Machine.execLatchPublish s
  | .timeWdHoldover => Sys2Proof.Machine.execTimeWdHoldover s
  | .portCfgWrite p v => Sys2Proof.Machine.execPortCfgWrite p v s
  | .portLink p l => Sys2Proof.Machine.execPortLink p l s
  | .frameHandoff p f => Sys2Proof.Machine.execFrameHandoff p f s
  | .rxErrorStatus p pre e => Sys2Proof.Machine.execRxErrorStatus p pre e s
  | .oversizeCut p pre rest => Sys2Proof.Machine.execOversizeCut p pre rest s
  | .frameTail p pre rest e => Sys2Proof.Machine.execFrameTail p pre rest e s
  | .pauseFrameRx p f => Sys2Proof.Machine.execPauseFrameRx p f s
  | .pauseEnd p c => Sys2Proof.Machine.execPauseEnd p c s
  | .preemptVerifySend p => Sys2Proof.Machine.execPreemptVerifySend p s
  | .preemptVerifyResponse p => Sys2Proof.Machine.execPreemptVerifyResponse p s
  | .mpacketRx p f => Sys2Proof.Machine.execMpacketRx p f s
  | .frameTxEnd p pre => Sys2Proof.Machine.execFrameTxEnd p pre s
  | .otnCfgWrite p v => Sys2Proof.Machine.execOtnCfgWrite p v s
  | .fasMatch p m pos => Sys2Proof.Machine.execFasMatch p m pos s
  | .fasCandidateCheck p m ok mfas => Sys2Proof.Machine.execFasCandidateCheck p m ok mfas s
  | .otnFrameRx p m f => Sys2Proof.Machine.execOtnFrameRx p m f s
  | .deskewRelease p => Sys2Proof.Machine.execDeskewRelease p s
  | .otnDefect p d => Sys2Proof.Machine.execOtnDefect p d s
  | .gfpCoreHeader p h => Sys2Proof.Machine.execGfpCoreHeader p h s
  | .gfpFrame p f slot => Sys2Proof.Machine.execGfpFrame p f slot s
  | .sliceEntry idx => Sys2Proof.Machine.execSliceEntry idx s
  | .keyLaunch p => Sys2Proof.Machine.execKeyLaunch p s
  | .parseHeaders p => Sys2Proof.Machine.execParseHeaders p s
  | .layoutCompare p => Sys2Proof.Machine.execLayoutCompare p s
  | .respin p => Sys2Proof.Machine.execRespin p s
  | .tableDramReadReturn p n l w => Sys2Proof.Machine.execTableDramReadReturn p n l w s
  | .resultJoin p => Sys2Proof.Machine.execResultJoin p s
  | .aclStage1 p bad => Sys2Proof.Machine.execAclStage1 p bad s
  | .aclStage2 p bad => Sys2Proof.Machine.execAclStage2 p bad s
  | .policerColour p us => Sys2Proof.Machine.execPolicerColour p us s
  | .resultRead p => Sys2Proof.Machine.execResultRead p s
  | .commit p => Sys2Proof.Machine.execCommit p s
  | .fragmentExpire => Sys2Proof.Machine.execFragmentExpire s
  | .transitHandoff p => Sys2Proof.Machine.execTransitHandoff p s
  | .dramWait idx v => Sys2Proof.Machine.execDramWait idx v s
  | .close => Sys2Proof.Machine.execClose s
  | .fwhEturn => Sys2Proof.Machine.execFwhEturn s
  | .epochTurn => Sys2Proof.Machine.execEpochTurn s
  | .drainEnd => Sys2Proof.Machine.execDrainEnd s
  | .egressEpochTurn => Sys2Proof.Machine.execEgressEpochTurn s
  | .egressDrainEnd => Sys2Proof.Machine.execEgressDrainEnd s
  | .routeAdd g => Sys2Proof.Machine.execRouteAdd g s
  | .routeDel g => Sys2Proof.Machine.execRouteDel g s
  | .exmAdd g => Sys2Proof.Machine.execExmAdd g s
  | .exmDel g => Sys2Proof.Machine.execExmDel g s
  | .egtWrite g => Sys2Proof.Machine.execEgtWrite g s
  | .updateReservedOpcode g => Sys2Proof.Machine.execUpdateReservedOpcode g s
  | .exmSlotRelease => Sys2Proof.Machine.execExmSlotRelease s
  | .exmBirthRebase idx => Sys2Proof.Machine.execExmBirthRebase idx s
  | .lpmV6ContWrite v => Sys2Proof.Machine.execLpmV6ContWrite v s
  | .learnEvent => Sys2Proof.Machine.execLearnEvent s
  | .learnUnfreeze domain mac => Sys2Proof.Machine.execLearnUnfreeze domain mac s
  | .all => Sys2Proof.Machine.execAll s
  | .flapRecordFree domain mac => Sys2Proof.Machine.execFlapRecordFree domain mac s
  | .agingSweepStart => Sys2Proof.Machine.execAgingSweepStart s
  | .agingVisit => Sys2Proof.Machine.execAgingVisit s
  | .learnAged => Sys2Proof.Machine.execLearnAged s
  | .shadowCompare g => Sys2Proof.Machine.execShadowCompare g s
  | .shadowReadReturn g => Sys2Proof.Machine.execShadowReadReturn g s
  | .aclScrub idx a differs => Sys2Proof.Machine.execAclScrub idx a differs s
  | .aclWrite v => Sys2Proof.Machine.execAclWrite v s
  | .aclDelete v => Sys2Proof.Machine.execAclDelete v s
  | .aclRefresh v => Sys2Proof.Machine.execAclRefresh v s
  | .aclBatchApply => Sys2Proof.Machine.execAclBatchApply s
  | .aclPlaneCopy => Sys2Proof.Machine.execAclPlaneCopy s
  | .aclBankCfgWrite c v => Sys2Proof.Machine.execAclBankCfgWrite c v s
  | .patInspectStart idx p => Sys2Proof.Machine.execPatInspectStart idx p s
  | .patSearch idx c bad => Sys2Proof.Machine.execPatSearch idx c bad s
  | .patVerdictWrite p => Sys2Proof.Machine.execPatVerdictWrite p s
  | .patVerdictExpire flow => Sys2Proof.Machine.execPatVerdictExpire flow s
  | .patVerdictFlush => Sys2Proof.Machine.execPatVerdictFlush s
  | .patWrite v => Sys2Proof.Machine.execPatWrite v s
  | .patDelete v => Sys2Proof.Machine.execPatDelete v s
  | .patRefresh v => Sys2Proof.Machine.execPatRefresh v s
  | .patSetCfgWrite idx v => Sys2Proof.Machine.execPatSetCfgWrite idx v s
  | .fabricCellTx idx n d lane => Sys2Proof.Machine.execFabricCellTx idx n d lane s
  | .fabricCellRx b l corr unc h ith p => Sys2Proof.Machine.execFabricCellRx b l corr unc h ith p s
  | .reorderTimeout d c => Sys2Proof.Machine.execReorderTimeout d c s
  | .demand b h p => Sys2Proof.Machine.execDemand b h p s
  | .grant b h p => Sys2Proof.Machine.execGrant b h p s
  | .grantRound => Sys2Proof.Machine.execGrantRound s
  | .creditMessageRefresh => Sys2Proof.Machine.execCreditMessageRefresh s
  | .creditReturn d c => Sys2Proof.Machine.execCreditReturn d c s
  | .align b l dev pb pl ver cap => Sys2Proof.Machine.execAlign b l dev pb pl ver cap s
  | .ready b l named => Sys2Proof.Machine.execReady b l named s
  | .shiftReq b up p num => Sys2Proof.Machine.execShiftReq b up p num s
  | .shiftAck b p num => Sys2Proof.Machine.execShiftAck b p num s
  | .shiftNak b p num => Sys2Proof.Machine.execShiftNak b p num s
  | .shiftDone b l p num => Sys2Proof.Machine.execShiftDone b l p num s
  | .shiftDoneSend b l => Sys2Proof.Machine.execShiftDoneSend b l s
  | .shedAckTimeout b => Sys2Proof.Machine.execShedAckTimeout b s
  | .shiftReqResend b => Sys2Proof.Machine.execShiftReqResend b s
  | .derailleurWindow b => Sys2Proof.Machine.execDerailleurWindow b s
  | .quietBurst b l => Sys2Proof.Machine.execQuietBurst b l s
  | .timing b l w inst => Sys2Proof.Machine.execTiming b l w inst s
  | .fabCwUnknown b ty => Sys2Proof.Machine.execFabCwUnknown b ty s
  | .laneCdrLock b l => Sys2Proof.Machine.execLaneCdrLock b l s
  | .fabLaneFail b l lost => Sys2Proof.Machine.execFabLaneFail b l lost s
  | .laneRetrain b l => Sys2Proof.Machine.execLaneRetrain b l s
  | .fabBundleCfgWrite b v => Sys2Proof.Machine.execFabBundleCfgWrite b v s
  | .fabDevCfgWrite v => Sys2Proof.Machine.execFabDevCfgWrite v s
  | .fabTimeTx b v => Sys2Proof.Machine.execFabTimeTx b v s
  | .fabMclWrite v => Sys2Proof.Machine.execFabMclWrite v s
  | .fabMclRead v => Sys2Proof.Machine.execFabMclRead v s
  | .residueRetest q n => Sys2Proof.Machine.execResidueRetest q n s
  | .residueExpire q => Sys2Proof.Machine.execResidueExpire q s
  | .copyLinkCrossed c => Sys2Proof.Machine.execCopyLinkCrossed c s
  | .bufPoolRebuilt q idx => Sys2Proof.Machine.execBufPoolRebuilt q idx s
  | .bufCfgWrite q r v => Sys2Proof.Machine.execBufCfgWrite q r v s
  | .readCfg q v => Sys2Proof.Machine.execReadCfg q v s
  | .writeCfg q v => Sys2Proof.Machine.execWriteCfg q v s
  | .readState q v => Sys2Proof.Machine.execReadState q v s
  | .writeElem q v => Sys2Proof.Machine.execWriteElem q v s
  | .writeHead q v => Sys2Proof.Machine.execWriteHead q v s
  | .readElem q v => Sys2Proof.Machine.execReadElem q v s
  | .readHead q v => Sys2Proof.Machine.execReadHead q v s
  | .schedulerSelect e u => Sys2Proof.Machine.execSchedulerSelect e u s
  | .wheelSlotRelease q => Sys2Proof.Machine.execWheelSlotRelease q s
  | .schReadCfg q v => Sys2Proof.Machine.execSchReadCfg q v s
  | .schWriteCfg q v => Sys2Proof.Machine.execSchWriteCfg q v s
  | .schReadState q v => Sys2Proof.Machine.execSchReadState q v s
  | .schPortCfgWrite q k v => Sys2Proof.Machine.execSchPortCfgWrite q k v s
  | .gateEntryBoundary p => Sys2Proof.Machine.execGateEntryBoundary p s
  | .gateStageRelease p => Sys2Proof.Machine.execGateStageRelease p s
  | .go p => Sys2Proof.Machine.execGo p s
  | .gateListSwitch p => Sys2Proof.Machine.execGateListSwitch p s
  | .gateListWrite idx v => Sys2Proof.Machine.execGateListWrite idx v s
  | .gateListRead idx v => Sys2Proof.Machine.execGateListRead idx v s
  | .gateCfgWrite p v => Sys2Proof.Machine.execGateCfgWrite p v s
  | .sampleRoundStart q => Sys2Proof.Machine.execSampleRoundStart q s
  | .sampleVisit q => Sys2Proof.Machine.execSampleVisit q s
  | .egressSliceEntry n => Sys2Proof.Machine.execEgressSliceEntry n s
  | .egressCommit n => Sys2Proof.Machine.execEgressCommit n s
  | .requestPromote m w => Sys2Proof.Machine.execRequestPromote m w s
  | .channelCheck m v ok => Sys2Proof.Machine.execChannelCheck m v ok s
  | .hbmTempRead st temp => Sys2Proof.Machine.execHbmTempRead st temp s
  | .scrubPass l w => Sys2Proof.Machine.execScrubPass l w s
  | .regionCopyEnd c r bad => Sys2Proof.Machine.execRegionCopyEnd c r bad s
  | .hostLinkTrain h speed w flit => Sys2Proof.Machine.execHostLinkTrain h speed w flit s
  | .hostPortReset h c => Sys2Proof.Machine.execHostPortReset h c s
  | .hifPortCfgWrite h v => Sys2Proof.Machine.execHifPortCfgWrite h v s
  | .msixPendingSend f v => Sys2Proof.Machine.execMsixPendingSend f v s
  | .apertureAccess f off op unc => Sys2Proof.Machine.execApertureAccess f off op unc s
  | .hifAptWrite v => Sys2Proof.Machine.execHifAptWrite v s
  | .hifAptRead v => Sys2Proof.Machine.execHifAptRead v s
  | .hifAptFuncWrite f v => Sys2Proof.Machine.execHifAptFuncWrite f v s
  | .bmeClear f => Sys2Proof.Machine.execBmeClear f s
  | .bmeSet f c => Sys2Proof.Machine.execBmeSet f c s
  | .flrStart f => Sys2Proof.Machine.execFlrStart f s
  | .flrEnd f => Sys2Proof.Machine.execFlrEnd f s
  | .completionTimeout h tag => Sys2Proof.Machine.execCompletionTimeout h tag s
  | .readCompletionRx f tag c => Sys2Proof.Machine.execReadCompletionRx f tag c s
  | .tagQuarantineExpire h tag => Sys2Proof.Machine.execTagQuarantineExpire h tag s
  | .hifIerrStatusClear v => Sys2Proof.Machine.execHifIerrStatusClear v s
  | .produce r whole v => Sys2Proof.Machine.execProduce r whole v s
  | .consume r whole v => Sys2Proof.Machine.execConsume r whole v s
  | .start r g v => Sys2Proof.Machine.execStart r g v s
  | .stop r g v => Sys2Proof.Machine.execStop r g v s
  | .reset r g v => Sys2Proof.Machine.execReset r g v s
  | .stoppingEnd g => Sys2Proof.Machine.execStoppingEnd g s
  | .ringSetupWrite r g q v => Sys2Proof.Machine.execRingSetupWrite r g q v s
  | .descriptorFetch g n => Sys2Proof.Machine.execDescriptorFetch g n s
  | .ringError g timeout => Sys2Proof.Machine.execRingError g timeout s
  | .indexWordWrite g => Sys2Proof.Machine.execIndexWordWrite g s
  | .txFrameTake g => Sys2Proof.Machine.execTxFrameTake g s
  | .txFrameReadDone g => Sys2Proof.Machine.execTxFrameReadDone g s
  | .rxFrameWrite g => Sys2Proof.Machine.execRxFrameWrite g s
  | .rxRingWaitExpire queue => Sys2Proof.Machine.execRxRingWaitExpire queue s
  | .puntWrite g => Sys2Proof.Machine.execPuntWrite g s
  | .puntDryExpire g => Sys2Proof.Machine.execPuntDryExpire g s
  | .turn g => Sys2Proof.Machine.execTurn g s
  | .nop g => Sys2Proof.Machine.execNop g s
  | .pblh h rd a => Sys2Proof.Machine.execPblh h rd a s
  | .pblw h rd a => Sys2Proof.Machine.execPblw h rd a s
  | .pbld h rd a => Sys2Proof.Machine.execPbld h rd a s
  | .pbsh h a v => Sys2Proof.Machine.execPbsh h a v s
  | .pbsw h a v => Sys2Proof.Machine.execPbsw h a v s
  | .pbsd h a v => Sys2Proof.Machine.execPbsd h a v s
  | .eqxrd h rd user => Sys2Proof.Machine.execEqxrd h rd user s
  | .eqxrds h rd user => Sys2Proof.Machine.execEqxrds h rd user s
  | .ladd h a v => Sys2Proof.Machine.execLadd h a v s
  | .hartMemoryAccess h op a size unc => Sys2Proof.Machine.execHartMemoryAccess h op a size unc s
  | .hpmOverflowTrap h n epc skid => Sys2Proof.Machine.execHpmOverflowTrap h n epc skid s
  | .hartLost h core f => Sys2Proof.Machine.execHartLost h core f s
  | .hartReset h v => Sys2Proof.Machine.execHartReset h v s
  | .espRxCheck p => Sys2Proof.Machine.execEspRxCheck p s
  | .icrTableWrite v => Sys2Proof.Machine.execIcrTableWrite v s
  | .icrTableRead v => Sys2Proof.Machine.execIcrTableRead v s
  | .enc r p v => Sys2Proof.Machine.execEnc r p v s
  | .dec r p v => Sys2Proof.Machine.execDec r p v s
  | .unwrap r p v => Sys2Proof.Machine.execUnwrap r p v s
  | .erase r p v => Sys2Proof.Machine.execErase r p v s
  | .loadIcr r p v => Sys2Proof.Machine.execLoadIcr r p v s
  | .kvcOperationStart => Sys2Proof.Machine.execKvcOperationStart s
  | .kvcOperationEnd p => Sys2Proof.Machine.execKvcOperationEnd p s
  | .kvcEntropyFail => Sys2Proof.Machine.execKvcEntropyFail s
  | .entropyRecover => Sys2Proof.Machine.execEntropyRecover s
  | .kvcSlotCfgWrite idx v => Sys2Proof.Machine.execKvcSlotCfgWrite idx v s
  | .noticeProcess e => Sys2Proof.Machine.execNoticeProcess e s
  | .counterWriteback e w => Sys2Proof.Machine.execCounterWriteback e w s
  | .intervalBoundary => Sys2Proof.Machine.execIntervalBoundary s
  | .intervalFreeze => Sys2Proof.Machine.execIntervalFreeze s
  | .recordClose bad => Sys2Proof.Machine.execRecordClose bad s
  | .islandMarker => Sys2Proof.Machine.execIslandMarker s
  | .islandMarkerLoss => Sys2Proof.Machine.execIslandMarkerLoss s
  | .islandPowerUp => Sys2Proof.Machine.execIslandPowerUp s
  | .cycMacKeyLoad => Sys2Proof.Machine.execCycMacKeyLoad s
  | .cycAckSeq v => Sys2Proof.Machine.execCycAckSeq v s
  | .oldRuns v => Sys2Proof.Machine.execOldRuns v s
  | .unseal burnt => Sys2Proof.Machine.execUnseal burnt s
  | .seal => Sys2Proof.Machine.execSeal s
  | .confirmFormat => Sys2Proof.Machine.execConfirmFormat s
  | .cycMapWrite v => Sys2Proof.Machine.execCycMapWrite v s
  | .cycMapRead v => Sys2Proof.Machine.execCycMapRead v s
  | .meterChannelCheck c v ok => Sys2Proof.Machine.execMeterChannelCheck c v ok s
  | .truingSnapshot errs => Sys2Proof.Machine.execTruingSnapshot errs s
  | .truingEvaluate => Sys2Proof.Machine.execTruingEvaluate s
  | .drain => Sys2Proof.Machine.execDrain s
  | .discard => Sys2Proof.Machine.execDiscard s
  | .purgeEnd => Sys2Proof.Machine.execPurgeEnd s
  | .snap d v => Sys2Proof.Machine.execSnap d v s
  | .freeze d v => Sys2Proof.Machine.execFreeze d v s
  | .pmcTargetReached d => Sys2Proof.Machine.execPmcTargetReached d s
  | .pmcValWrite d n v => Sys2Proof.Machine.execPmcValWrite d n v s
  | .coldStart => Sys2Proof.Machine.execColdStart s
  | .warmReset => Sys2Proof.Machine.execWarmReset s
  | .restart r => Sys2Proof.Machine.execRestart r s
  | .romStart => Sys2Proof.Machine.execRomStart s
  | .bootGo r => Sys2Proof.Machine.execBootGo r s
  | .imageVerifyEnd => Sys2Proof.Machine.execImageVerifyEnd s
  | .bootMemoryUp bad => Sys2Proof.Machine.execBootMemoryUp bad s
  | .cycSectionVerifyEnd => Sys2Proof.Machine.execCycSectionVerifyEnd s
  | .confirm r => Sys2Proof.Machine.execConfirm r s
  | .windowExpired => Sys2Proof.Machine.execWindowExpired s
  | .firmwareAbort r code => Sys2Proof.Machine.execFirmwareAbort r code s
  | .failClear r => Sys2Proof.Machine.execFailClear r s
  | .otpWrIdentity r supply => Sys2Proof.Machine.execOtpWrIdentity r supply s
  | .otpWrOwner r supply => Sys2Proof.Machine.execOtpWrOwner r supply s
  | .otpWrPolicy r supply => Sys2Proof.Machine.execOtpWrPolicy r supply s
  | .otpWrSeal r supply => Sys2Proof.Machine.execOtpWrSeal r supply s
  | .otpWrRepair r supply => Sys2Proof.Machine.execOtpWrRepair r supply s
  | .otpBurnEnd ok supply => Sys2Proof.Machine.execOtpBurnEnd ok supply s
  | .upgradeUnlock r => Sys2Proof.Machine.execUpgradeUnlock r s
  | .otpWrite r supply => Sys2Proof.Machine.execOtpWrite r supply s
  | .bootLeaseCfgWrite r v => Sys2Proof.Machine.execBootLeaseCfgWrite r v s
  | .leaseRenew r => Sys2Proof.Machine.execLeaseRenew r s
  | .leaseExpired => Sys2Proof.Machine.execLeaseExpired s
  | .upgradeStart r loc => Sys2Proof.Machine.execUpgradeStart r loc s
  | .upgradeVerifyEnd => Sys2Proof.Machine.execUpgradeVerifyEnd s
  | .handover => Sys2Proof.Machine.execHandover s
  | .upgradeDone => Sys2Proof.Machine.execUpgradeDone s
  | .bootUpgBufWrite r v => Sys2Proof.Machine.execBootUpgBufWrite r v s
  | .heartbeat r => Sys2Proof.Machine.execHeartbeat r s
  | .heartbeatTimeout => Sys2Proof.Machine.execHeartbeatTimeout s
  | .forceSwitch r => Sys2Proof.Machine.execForceSwitch r s
  | .claim r => Sys2Proof.Machine.execClaim r s
  | .release r => Sys2Proof.Machine.execRelease r s
  | .tdmHandover => Sys2Proof.Machine.execTdmHandover s
  | .tdmStandbyLate => Sys2Proof.Machine.execTdmStandbyLate s
  | .k15PowerDown => Sys2Proof.Machine.execK15PowerDown s
  | .checkpointDue => Sys2Proof.Machine.execCheckpointDue s
  | .tdmSeqWrite r v => Sys2Proof.Machine.execTdmSeqWrite r v s
  | .primarySelfTestEnd ok => Sys2Proof.Machine.execPrimarySelfTestEnd ok s
  | .holdDownEnd => Sys2Proof.Machine.execHoldDownEnd s
  | .sensorRead f t aon lost => Sys2Proof.Machine.execSensorRead f t aon lost s
  | .governorEvaluate amps => Sys2Proof.Machine.execGovernorEvaluate amps s
  | .pwrMargin rail out => Sys2Proof.Machine.execPwrMargin rail out s
  | .sliceFenced sl stage past => Sys2Proof.Machine.execSliceFenced sl stage past s
  | .fenceTakeover sl => Sys2Proof.Machine.execFenceTakeover sl s
  | .aonStart => Sys2Proof.Machine.execAonStart s
  | .porstRelease out temp => Sys2Proof.Machine.execPorstRelease out temp s
  | .gateTimeout => Sys2Proof.Machine.execGateTimeout s
  | .railBrownout rail => Sys2Proof.Machine.execRailBrownout rail s
  | .sysrefLoss present => Sys2Proof.Machine.execSysrefLoss present s
  | .refclk25mLoss present => Sys2Proof.Machine.execRefclk25mLoss present s
  | .bypass l => Sys2Proof.Machine.execBypass l s
  | .idcode => Sys2Proof.Machine.execIdcode s
  | .samplePreload pins l => Sys2Proof.Machine.execSamplePreload pins l s
  | .extest l => Sys2Proof.Machine.execExtest l s
  | .extestPulse l => Sys2Proof.Machine.execExtestPulse l s
  | .extestTrain l => Sys2Proof.Machine.execExtestTrain l s
  | .clamp l => Sys2Proof.Machine.execClamp l s
  | .highz l => Sys2Proof.Machine.execHighz l s
  | .tapReset => Sys2Proof.Machine.execTapReset s
  | .smbSerialRead => Sys2Proof.Machine.execSmbSerialRead s
  | .smbCoreTargetRead d => Sys2Proof.Machine.execSmbCoreTargetRead d s
  | .smbDieTempRead d => Sys2Proof.Machine.execSmbDieTempRead d s
  | .smbAonTempRead => Sys2Proof.Machine.execSmbAonTempRead s
  | .smbTripLogRead => Sys2Proof.Machine.execSmbTripLogRead s
  | .smbBootCauseRead => Sys2Proof.Machine.execSmbBootCauseRead s
  | .smbBootStatusRead => Sys2Proof.Machine.execSmbBootStatusRead s
  | .smbRailOutRead => Sys2Proof.Machine.execSmbRailOutRead s
  | .smbRailStatusRead => Sys2Proof.Machine.execSmbRailStatusRead s
  | .smbUnknownCode c => Sys2Proof.Machine.execSmbUnknownCode c s
  | .fdieResetHold r => Sys2Proof.Machine.execFdieResetHold r s
  | .tdieResetHold r => Sys2Proof.Machine.execTdieResetHold r s
  | .dieResetRelease r d => Sys2Proof.Machine.execDieResetRelease r d s
  | .laneWaitRestore b => Sys2Proof.Machine.execLaneWaitRestore b s
  | .capLimitedWindow b => Sys2Proof.Machine.execCapLimitedWindow b s
  | .ref10mEdgeReturn => Sys2Proof.Machine.execRef10mEdgeReturn s

end Sys2Proof.Machine
end

