-- ==== Sys2Proof/Machine/Tick.lean ====
section
/-! DEFINITION. One cycle of the clocks (R46, R51, R422, R459): what happens by itself, whatever is commanded. -/

namespace Sys2Proof.Machine

/-- One cycle of the 3.0 GHz clock in a device out of reset: the master and the follower advance by their increments (R46, R51), counts on their way
reach the performance counters, the counters of a level or of cycles count (R457, R459), and the boot state and k0 move on where nothing more is
awaited (R467, R498). -/
def State.runTick (s : State) : State :=
  let inc := s.reg64 Reg.TIME_INC_LO
  let s1 := { s with time := { s.time with master := s.time.master + BitVec.ofNat 112 inc,
                                           follower := s.time.follower + s.time.followerInc.setWidth 112, mono := s.time.mono + inc } }
  let s2 := s1.pmcDeliver.pmcCycle
  let s3 := if s2.fdieUp then s2.bumpFixed (Reg.PMC_FIX_CYCLES_LO 0) 0 else s2
  let s4 := if s3.tdieUp then s3.bumpFixed (Reg.PMC_FIX_CYCLES_LO 1) 1 else s3
  s4.bootTick.tdmTick

/-- One cycle: the main part runs outside a reset, the island at a third of the rate and through a reset of the rest (R422). -/
def State.tick (s : State) : State :=
  let n := s.time.cycles + 1
  let s1 := { s with time := { s.time with cycles := n } }
  let s2 := if s1.aon.held then s1 else s1.runTick
  if n % 3 = 0 then s2.islandTick else s2

end Sys2Proof.Machine
end

