-- ==== Sys2Proof/WellFormed.lean ====
section
/-! DEFINITION. Which commands can be given: the relations between operands that their types do not carry. -/

namespace Sys2Proof

/-- The bytes that a block hands over with a frame: the first 320, or the whole of a frame that has no more (R77). -/
def RxHead.wellFormed (f : RxHead) : Bool := if f.whole then decide (f.data.length ≤ 320) else f.data.length == 320

/-- A memory word that a dequeue by a quadrant can meet: one of its packet SRAM, or of HBM (R273, R299). -/
def MemLoc.ofQuadrant (l : MemLoc) (q : Nat) : Bool :=
  match l with
  | .hbm .. => true
  | .packetSram p _ _ => p.val == q
  | .tableDram .. | .tableSram .. | .queueState .. => false

/-- The bytes of an aperture access (R350). -/
def AptOp.bytes : AptOp → Nat
  | .read n => n.toNat
  | .write d => d.length

/-- Whether a command can be given: a row that names a kind of register names one of that kind (R10, R13, R14, R38), a frame is handed over under R77,
a host link at 64 GT/s runs in flit mode (R341), a dequeue meets a word of its quadrant's buffers, an aperture access stays within 4 KiB as a PCI
Express request does, and a management code is unlisted (R530). -/
def Instr.wellFormed : Instr → Bool
  | .regWrite .. => true
  | .unassignedAccess _ a _ => !Machine.assigned (a.toNat / 4 * 4)
  | .bar0Access .. => true
  | .pairLoRead _ a => Machine.halfOf a.toNat == .lo
  | .pairLoWrite _ a _ => Machine.halfOf a.toNat == .lo
  | .pairHiWrite _ a _ => Machine.halfOf a.toNat == .hi
  | .rcFieldRead _ a => Machine.hasRc a.toNat
  | .engineSubstitution .. | .d2dFlitRetry .. | .d2dLinkFailure => true
  | .mgmtLaneAccess _ a _ _ => Machine.islandReg a.toNat
  | .linkQuiesce | .linkRetrain .. | .timeIncWrite .. | .timeIncApply | .step .. | .timeStepApply | .service .. | .timeMarker | .timeNowRead ..
  | .timePpsInFracRead .. | .timePpsInSecRead .. | .ppsInEdge | .ref10mMeasure | .ref10mLos | .ppsOutRise | .ppsOutFall | .latchClose ..
  | .latchPublish | .timeWdHoldover | .portCfgWrite .. | .portLink .. => true
  | .frameHandoff _ f => f.wellFormed
  | .rxErrorStatus .. | .oversizeCut .. | .frameTail .. => true
  | .pauseFrameRx _ f => f.wellFormed
  | .pauseEnd .. | .preemptVerifySend .. | .preemptVerifyResponse .. | .mpacketRx .. | .frameTxEnd .. | .otnCfgWrite .. | .fasMatch ..
  | .fasCandidateCheck .. | .otnFrameRx .. | .deskewRelease .. | .otnDefect .. | .gfpCoreHeader .. => true
  | .gfpFrame _ f _ => f.wellFormed
  | .sliceEntry .. | .keyLaunch .. | .parseHeaders .. | .layoutCompare .. | .respin .. | .tableDramReadReturn .. | .resultJoin .. | .aclStage1 ..
  | .aclStage2 .. | .policerColour .. | .resultRead .. | .commit .. | .fragmentExpire | .transitHandoff .. | .dramWait .. | .close | .fwhEturn
  | .epochTurn | .drainEnd | .egressEpochTurn | .egressDrainEnd | .routeAdd .. | .routeDel .. | .exmAdd .. | .exmDel .. | .egtWrite ..
  | .updateReservedOpcode .. | .exmSlotRelease | .exmBirthRebase .. | .lpmV6ContWrite .. | .learnEvent | .learnUnfreeze .. | .all
  | .flapRecordFree .. | .agingSweepStart | .agingVisit | .learnAged | .shadowCompare .. | .shadowReadReturn .. | .aclScrub .. | .aclWrite ..
  | .aclDelete .. | .aclRefresh .. | .aclBatchApply | .aclPlaneCopy | .aclBankCfgWrite .. | .patInspectStart .. | .patSearch ..
  | .patVerdictWrite .. | .patVerdictExpire .. | .patVerdictFlush | .patWrite .. | .patDelete .. | .patRefresh .. | .patSetCfgWrite ..
  | .fabricCellTx .. | .fabricCellRx .. | .reorderTimeout .. | .demand .. | .grant .. | .grantRound | .creditMessageRefresh | .creditReturn ..
  | .align .. | .ready .. | .shiftReq .. | .shiftAck .. | .shiftNak .. | .shiftDone .. | .shiftDoneSend .. | .shedAckTimeout ..
  | .shiftReqResend .. | .derailleurWindow .. | .quietBurst .. | .timing .. | .fabCwUnknown .. | .laneCdrLock .. | .fabLaneFail ..
  | .laneRetrain .. | .fabBundleCfgWrite .. | .fabDevCfgWrite .. | .fabTimeTx .. | .fabMclWrite .. | .fabMclRead .. | .residueRetest ..
  | .residueExpire .. | .copyLinkCrossed .. | .bufPoolRebuilt .. | .bufCfgWrite .. | .readCfg .. | .writeCfg .. | .readState .. | .writeElem ..
  | .writeHead .. | .readElem .. | .readHead .. => true
  | .schedulerSelect e u => (match u with | none => true | some l => l.ofQuadrant (e.val / 4))
  | .wheelSlotRelease .. | .schReadCfg .. | .schWriteCfg .. | .schReadState .. | .schPortCfgWrite .. | .gateEntryBoundary ..
  | .gateStageRelease .. | .go .. | .gateListSwitch .. | .gateListWrite .. | .gateListRead .. | .gateCfgWrite .. | .sampleRoundStart ..
  | .sampleVisit .. | .egressSliceEntry .. | .egressCommit .. | .requestPromote .. | .channelCheck .. | .hbmTempRead .. | .scrubPass ..
  | .regionCopyEnd .. => true
  | .hostLinkTrain _ speed _ flit => speed != 5 || flit
  | .hostPortReset .. | .hifPortCfgWrite .. | .msixPendingSend .. => true
  | .apertureAccess _ off op _ => decide (0 < op.bytes) && off.toNat / 4096 == (off.toNat + op.bytes - 1) / 4096
  | .hifAptWrite .. | .hifAptRead .. | .hifAptFuncWrite .. | .bmeClear .. | .bmeSet .. | .flrStart .. | .flrEnd .. | .completionTimeout ..
  | .readCompletionRx .. | .tagQuarantineExpire .. | .hifIerrStatusClear .. | .produce .. | .consume .. | .start .. | .stop .. | .reset ..
  | .stoppingEnd .. | .ringSetupWrite .. | .descriptorFetch .. | .ringError .. | .indexWordWrite .. | .txFrameTake .. | .txFrameReadDone ..
  | .rxFrameWrite .. | .rxRingWaitExpire .. | .puntWrite .. | .puntDryExpire .. | .turn .. | .nop .. | .pblh .. | .pblw .. | .pbld .. | .pbsh ..
  | .pbsw .. | .pbsd .. | .eqxrd .. | .eqxrds .. | .ladd .. | .hartMemoryAccess .. | .hpmOverflowTrap .. | .hartLost .. | .hartReset ..
  | .espRxCheck .. | .icrTableWrite .. | .icrTableRead .. | .enc .. | .dec .. | .unwrap .. | .erase .. | .loadIcr .. | .kvcOperationStart
  | .kvcOperationEnd .. | .kvcEntropyFail | .entropyRecover | .kvcSlotCfgWrite .. | .noticeProcess .. | .counterWriteback .. | .intervalBoundary
  | .intervalFreeze | .recordClose .. | .islandMarker | .islandMarkerLoss | .islandPowerUp | .cycMacKeyLoad | .cycAckSeq .. | .oldRuns ..
  | .unseal .. | .seal | .confirmFormat | .cycMapWrite .. | .cycMapRead .. | .meterChannelCheck .. | .truingSnapshot .. | .truingEvaluate
  | .drain | .discard | .purgeEnd | .snap .. | .freeze .. | .pmcTargetReached .. | .pmcValWrite .. | .coldStart | .warmReset | .restart ..
  | .romStart | .bootGo .. | .imageVerifyEnd | .bootMemoryUp .. | .cycSectionVerifyEnd | .confirm .. | .windowExpired | .firmwareAbort ..
  | .failClear .. | .otpWrIdentity .. | .otpWrOwner .. | .otpWrPolicy .. | .otpWrSeal .. | .otpWrRepair .. | .otpBurnEnd .. | .upgradeUnlock ..
  | .otpWrite .. | .bootLeaseCfgWrite .. | .leaseRenew .. | .leaseExpired | .upgradeStart .. | .upgradeVerifyEnd | .handover | .upgradeDone
  | .bootUpgBufWrite .. | .heartbeat .. | .heartbeatTimeout | .forceSwitch .. | .claim .. | .release .. | .tdmHandover | .tdmStandbyLate
  | .k15PowerDown | .checkpointDue | .tdmSeqWrite .. | .primarySelfTestEnd .. | .holdDownEnd | .sensorRead .. | .governorEvaluate ..
  | .pwrMargin .. | .sliceFenced .. | .fenceTakeover .. | .aonStart | .porstRelease .. | .gateTimeout | .railBrownout .. | .sysrefLoss ..
  | .refclk25mLoss .. | .bypass .. | .idcode | .samplePreload .. | .extest .. | .extestPulse .. | .extestTrain .. | .clamp .. | .highz ..
  | .tapReset | .smbSerialRead | .smbCoreTargetRead .. | .smbDieTempRead .. | .smbAonTempRead | .smbTripLogRead | .smbBootCauseRead
  | .smbBootStatusRead | .smbRailOutRead | .smbRailStatusRead => true
  | .smbUnknownCode c => !Machine.smbCodes.contains c.toNat
  | .fdieResetHold .. | .tdieResetHold .. | .dieResetRelease .. | .laneWaitRestore .. | .capLimitedWindow .. | .ref10mEdgeReturn => true

end Sys2Proof
end

