-- ==== Sys2Proof/Safety.lean ====
section
/-! DEFINITION. The terms that statements use: completion of a command, what it leaves alone, and the states that runs stay in. -/

namespace Sys2Proof.Machine

/-- A command completes in a state: it answers a next state, of which `P` says what the command did. -/
def Completes (c : Instr) (s : State) (P : State → Prop) : Prop := ∃ t, exec c s = .next t ∧ P t

/-- Of the registers only those listed may differ between two states. -/
def RegsBut (l : List Nat) (s t : State) : Prop := ∀ a, a ∉ l → t.reg a = s.reg a

/-- Between two states only registers differ, and of those only the ones listed. -/
def OnlyRegs (l : List Nat) (s t : State) : Prop := { t with regs := s.regs } = s ∧ RegsBut l s t

/-- The registers that a count in a counter touches (R89). -/
def Ctr.regs (c : Ctr) : List Nat := [c.lo, c.lo + 4, c.ovf]

/-- A counter has risen by an amount (R89). -/
def Counted (c : Ctr) (n : Nat) (s t : State) : Prop :=
  t.reg64 c.lo = (s.reg64 c.lo + n) % 2 ^ 64 ∧ (2 ^ 64 ≤ s.reg64 c.lo + n → (t.reg c.ovf).getLsbD c.bit = true)

/-- An update ring has taken its head descriptor and written its completion: the index words advance, the reservation is
used up, and the 16 bytes go to the completion queue of the ring's owner (R364, R373, R382). -/
def Updated (g : Nat) (d : List Byte) (status epoch : Nat) (s t : State) : Prop :=
  (t.ring g).pre = (s.ring g).pre.drop 1 ∧ (t.ring g).reserved = (s.ring g).reserved ∧
  t.descCons g = (s.descCons g + 1) % 2 ^ 17 ∧ t.cplProd g = (s.cplProd g + 1) % 2 ^ 17 ∧
  (s.ringOwner g < 1024 → t.out = s.out ++ [.hostWrite (s.ringOwner g)
    (s.reg64 (Reg.RING_CPL_BASE_LO g) + 16 * (s.cplProd g % s.ringSlots g)) (updCpl status (uOp d) (uTag d) epoch)])

/-- The registers of which a warm reset draws a new value, or keeps a part (R466, R480, R487). -/
def warmOwn : List Nat := [Reg.BOOT_STATUS, Reg.BOOT_CAUSE, Reg.THM_TRIP_LOG, Reg.FAB_DEV_CFG] ++ (List.range 4).map Reg.BOOT_NONCE

/-- A warm reset has gone through (R466): the Cyclometer island, its registers and the kept part of the always-on domain stay, and everything else is
as after reset. -/
def WarmReset (s t : State) : Prop :=
  t.cyc = s.cyc ∧ t.eg.fifo = s.eg.fifo ∧ t.out = s.out ∧ t.bootState = 0 ∧ t.kickstand = false ∧
  t.fld Reg.BOOT_STATUS Fld.BOOT_STATUS_LIMIT = s.fld Reg.BOOT_STATUS Fld.BOOT_STATUS_LIMIT ∧ t.reg Reg.THM_TRIP_LOG = s.reg Reg.THM_TRIP_LOG ∧
  (∀ a, a ∉ warmOwn → t.reg a = if islandReg a then s.reg a else resetWord a) ∧
  t.ram = .empty ∧ t.rings = .empty ∧ t.harts = .empty ∧ t.kvc = .init ∧ t.time = .init ∧ t.hif = .init ∧ t.tm = .init ∧ t.sch = .init ∧
  t.fab = .init ∧ t.boot = .init ∧ t.lrn = .init ∧ t.acl = .init ∧ t.icr = .init ∧ t.port = .init ∧ t.otn = .empty ∧ t.tdm = .init ∧ t.mem = .init

/-- A start has failed (R472, R473): the cause is written; outside Kickstand mode the counter rises and a warm reset goes through, and in it the
device returns to Kickstand mode with k0 stopped. -/
def StartFailed (cause detail : Nat) (s t : State) : Prop :=
  t.fld Reg.BOOT_CAUSE Fld.BOOT_CAUSE_CAUSE = cause ∧ t.fld Reg.BOOT_CAUSE Fld.BOOT_CAUSE_DETAIL = detail ∧
  (s.kickstand = false → WarmReset s t ∧ t.aon = { s.aon with held := false } ∧
    t.fld Reg.BOOT_STATUS Fld.BOOT_STATUS_FAILS = min 7 (s.fld Reg.BOOT_STATUS Fld.BOOT_STATUS_FAILS + 1)) ∧
  (s.kickstand = true → t.bootState = 8 ∧ t.kickstand = true ∧ t.boot.window = none ∧
    t.fld Reg.BOOT_STATUS Fld.BOOT_STATUS_FAILS = s.fld Reg.BOOT_STATUS Fld.BOOT_STATUS_FAILS ∧
    (∀ i, i < 8 → t.flag (Reg.CPX_HART_CTRL i) Fld.CPX_HART_CTRL_RUN = false) ∧
    RegsBut ([Reg.BOOT_STATUS, Reg.BOOT_CAUSE] ++ (List.range 8).map Reg.CPX_HART_CTRL) s t ∧ t.cyc = s.cyc ∧ t.ram = s.ram ∧ t.kvc = s.kvc)

/-- Every command that waits can be given. -/
def State.Ready (s : State) : Prop := ∀ c ∈ s.pending, c.wellFormed = true

/-- The register words are in canonical form. -/
def State.RegsCanonical (s : State) : Prop := s.regs.wf resetWord = true

/-- The device memory is in canonical form: addresses rise and no byte listed is zero. -/
def State.MemoryCanonical (s : State) : Prop := s.ram.wf (fun _ => 0) = true

/-- A run of a number of steps goes through: no step stops it. -/
def Safe (n : Nat) (s : State) : Prop := ∃ t, Host.Core.run core n s = .next t

end Sys2Proof.Machine
end

