-- ==== Sys2Proof/Certificates/Slice0/Obligations.lean ====
section
/-! DEFINITION. The statements about the device, for the provers. -/

open Sys2Proof Sys2Proof.Machine

/-- With no command waiting and the device out of reset, a step is one cycle of the pipeline clock (log entry 30) and answers a next state. In it the 112-bit master accumulator has risen by the 64-bit value of the TIME_INC pair. The Equinox time is the top 80 bits of the accumulator: 48 bits of seconds and 32 of fraction, the sub-fraction of 32 bits cut off. -/
def Obligations.TimeRunsEachCycle : Prop :=
  ∀ s : State, s.pending = [] → s.aon.held = false →
    (∃ t, step s = .next t ∧ t.time.master = s.time.master + BitVec.ofNat 112 (s.reg64 Reg.TIME_INC_LO)) ∧
    s.reg64 Reg.TIME_INC_LO < 2 ^ 64 ∧
    s.now = (s.time.master.extractLsb' 32 80).toNat

/-- After reset the accumulator holds 0 s and a fraction of 0, and TIME_INC holds 0x0000_0001_6E80_FE03, that is 6,148,914,691, the integer nearest to 2^64 divided by 3.0 × 10^9. One unit of the increment is one part in 6,148,914,691, between 0.162 and 0.163 parts in 10^9. -/
def Obligations.TimeAtReset : Prop :=
  State.reset.time.master = 0 ∧ State.reset.reg64 Reg.TIME_INC_LO = 0x000000016E80FE03 ∧ 0x000000016E80FE03 = 6148914691 ∧
    2 ^ 64 * 2 < (2 * 6148914691 + 1) * 3000000000 ∧ (2 * 6148914691 - 1) * 3000000000 < 2 ^ 64 * 2 ∧
    162 * 6148914691 < 10 ^ 12 ∧ 10 ^ 12 < 163 * 6148914691

/-- TIME_INC_WRITE of a value within nominal × (1 ± 2^-10) makes it the pending increment, replacing one that waits, with the write instant plus 2^-22 s as its target, and clears WD_HOLDOVER. A value outside sets INC_REFUSED and leaves all else. TIME_INC_APPLY of a pending increment whose target has come puts it into the TIME_INC pair and into the follower, or into the pair alone while the link is down. Nothing else changes. -/
def Obligations.TimeIncrement : Prop :=
  (∀ (s : State) (v : BitVec 64), 6148914691 * 1023 ≤ v.toNat * 1024 → v.toNat * 1024 ≤ 6148914691 * 1025 →
    Completes (.timeIncWrite v) s fun t =>
      t.time = { s.time with pendInc := some (v, s.mono + 2 ^ 10), lastInc := s.mono } ∧
      t.flag Reg.TIME_STATUS Fld.TIME_STATUS_WD_HOLDOVER = false ∧
      { t with time := s.time, regs := s.regs } = s ∧ RegsBut [Reg.TIME_STATUS] s t) ∧
  (∀ (s : State) (v : BitVec 64), v.toNat * 1024 < 6148914691 * 1023 ∨ 6148914691 * 1025 < v.toNat * 1024 →
    Completes (.timeIncWrite v) s fun t =>
      t.flag Reg.TIME_STATUS Fld.TIME_STATUS_INC_REFUSED = true ∧ OnlyRegs [Reg.TIME_STATUS] s t) ∧
  (∀ (s : State) (v : BitVec 64) (target : Nat), s.time.pendInc = some (v, target) → target ≤ s.mono →
    Completes .timeIncApply s fun t =>
      t.reg64 Reg.TIME_INC_LO = v.toNat ∧
      t.time = { s.time with pendInc := none, followerInc := if s.linkUsable then v else s.time.followerInc } ∧
      { t with time := s.time, regs := s.regs } = s ∧ RegsBut [Reg.TIME_INC_LO, Reg.TIME_INC_HI] s t)

/-- STEP (a write of TIME_CTRL with STEP set) while SERVICE is clear before and in the write makes TIME_SET the pending step, replacing one that waits, with the write instant plus 2^-22 s as its target. STEP with SERVICE set sets STEP_REFUSED and leaves no pending step. SERVICE (a write with SERVICE set) sets SERVICE and cancels a pending step, which sets STEP_REFUSED. TIME_STEP_APPLY of a step whose target has come puts the captured instant with a sub-fraction of zero into the master, and into the follower too while the link is up, and marks a discontinuity for the next latch; no register and nothing outside the time block changes. -/
def Obligations.TimeStepAndService : Prop :=
  (∀ (s : State) (v : BitVec 32), s.flag Reg.TIME_CTRL Fld.TIME_CTRL_SERVICE = false → Fld.TIME_CTRL_SERVICE.get v = 0 →
    Completes (.step v) s fun t =>
      t.time.pendStep = some (s.timeSet, s.mono + 2 ^ 10) ∧ t.time.master = s.time.master ∧ t.time.follower = s.time.follower ∧
      { t with time := s.time, regs := s.regs } = s ∧ RegsBut [Reg.TIME_CTRL] s t) ∧
  (∀ (s : State) (v : BitVec 32), s.flag Reg.TIME_CTRL Fld.TIME_CTRL_SERVICE = true →
    Completes (.step v) s fun t =>
      t.time.pendStep = none ∧ t.flag Reg.TIME_STATUS Fld.TIME_STATUS_STEP_REFUSED = true ∧
      t.flag Reg.TIME_CTRL Fld.TIME_CTRL_SERVICE = true ∧ t.time.master = s.time.master ∧
      { t with time := s.time, regs := s.regs } = s ∧ RegsBut [Reg.TIME_CTRL, Reg.TIME_STATUS] s t) ∧
  (∀ (s : State) (v : BitVec 32),
    Completes (.service v) s fun t =>
      t.flag Reg.TIME_CTRL Fld.TIME_CTRL_SERVICE = true ∧ t.time.pendStep = none ∧
      (s.time.pendStep.isSome → t.flag Reg.TIME_STATUS Fld.TIME_STATUS_STEP_REFUSED = true) ∧ t.time.master = s.time.master ∧
      { t with time := s.time, regs := s.regs } = s ∧ RegsBut [Reg.TIME_CTRL, Reg.TIME_STATUS] s t) ∧
  (∀ (s : State) (i target : Nat), s.time.pendStep = some (i, target) → target ≤ s.mono →
    Completes .timeStepApply s fun t =>
      t.time.master = BitVec.ofNat 112 (i * 2 ^ 32) ∧ t.time.pendStep = none ∧ t.time.discont = true ∧
      t.time.follower = (if s.linkUsable then BitVec.ofNat 112 (i * 2 ^ 32) else s.time.follower) ∧ { t with time := s.time } = s)

/-- TIME_MARKER, once a further multiple of 2^-20 s has come and the link is up, gives the follower the master's accumulator; the first marker after a discontinuity also gives the increment and clears TDIE_DISCONT. While the link is down it leaves the follower. LATCH_CLOSE, once a further second has come and no latch waits, opens a settle span: the latch is numbered with the second before the last boundary and is due 2^-18 s after that boundary, and the recovered-clock counts are kept, or zero for an output that did not run. LATCH_PUBLISH, once the settle span has passed, puts the counts into TIME_SYNCE_MEAS0 and TIME_SYNCE_MEAS1 and ends the latch. TIME_WD_HOLDOVER, once WD_SPAN has passed without a write of TIME_INC while WD_EN is set and WD_HOLDOVER is clear, sets WD_HOLDOVER and raises event 0x0200 to the device owner; TIME_INC stays. -/
def Obligations.TimeMarkersAndLatches : Prop :=
  (∀ s : State, (KMap.get 0 s.time.trig 1 + 1) * 2 ^ 12 ≤ s.now → s.linkUsable = true →
    Completes .timeMarker s fun t =>
      t.time.follower = s.time.master ∧ t.time.master = s.time.master ∧
      (s.flag Reg.TIME_STATUS Fld.TIME_STATUS_TDIE_DISCONT = true →
        t.time.followerInc = BitVec.ofNat 64 (s.reg64 Reg.TIME_INC_LO) ∧ t.flag Reg.TIME_STATUS Fld.TIME_STATUS_TDIE_DISCONT = false)) ∧
  (∀ s : State, (KMap.get 0 s.time.trig 1 + 1) * 2 ^ 12 ≤ s.now → s.linkUsable = false →
    Completes .timeMarker s fun t => t.time.follower = s.time.follower ∧ { t with time := s.time } = s) ∧
  (∀ (s : State) (n0 n1 : BitVec 32), (KMap.get 0 s.time.trig 0 + 1) * 2 ^ 32 ≤ s.now → s.time.latch = none →
    Completes (.latchClose n0 n1) s fun t =>
      t.time.latch = some (s.now / 2 ^ 32 - 1, s.mono + (s.now / 2 ^ 32 * 2 ^ 32 + 2 ^ 14) - s.now) ∧
      t.time.rclk0 = (if s.time.rclkOn0 then n0 else 0) ∧ t.time.rclk1 = (if s.time.rclkOn1 then n1 else 0) ∧
      t.time.master = s.time.master) ∧
  (∀ (s : State) (n due : Nat), s.time.latch = some (n, due) → due ≤ s.mono →
    Completes .latchPublish s fun t =>
      t.time.latch = none ∧ t.time.discont = false ∧ t.reg Reg.TIME_SYNCE_MEAS0 = s.time.rclk0 ∧ t.reg Reg.TIME_SYNCE_MEAS1 = s.time.rclk1) ∧
  (∀ s : State, s.flag Reg.TIME_CTRL Fld.TIME_CTRL_WD_EN = true → s.time.lastInc + s.wdSpan ≤ s.mono →
      s.flag Reg.TIME_STATUS Fld.TIME_STATUS_WD_HOLDOVER = false →
    Completes .timeWdHoldover s fun t => ∃ u : State,
      t = { u.ownerEvent 0x0200 1 63 0 [] with pending := s.pending } ∧ u.flag Reg.TIME_STATUS Fld.TIME_STATUS_WD_HOLDOVER = true ∧ OnlyRegs [Reg.TIME_STATUS] s u)

/-- TIME_NOW_READ captures the whole present instant for the requester and returns its fraction; TIME_PPS_IN_FRAC_READ captures the seconds of the last 1PPS capture for the requester and returns its fraction; TIME_PPS_IN_SEC_READ returns the seconds captured for the requester and clears PPS_IN_NEW. PPS_IN_EDGE at least 0.5 s after the last edge taken (log entry 44), or with none taken yet, captures the present instant and sets PPS_IN_NEW, and sets PPS_IN_OVERRUN where PPS_IN_NEW was set; an earlier edge changes nothing. All else is left. REF10M_MEASURE while REF10M_EN is set writes the span since the integer second, in units of 2^-36 s, to TIME_REF10M_CAP where its 16 bits hold it (a longer span leaves a free value, log entry 8). REF10M_LOS sets and REF10M_EDGE_RETURN clears TIME_STATUS.REF10M_LOS. PPS_OUT_RISE while PPS_OUT_EN is set, at a further integer second plus OFFSET, raises the pin for WIDTH (0x7FFF at most), or leaves it low for a WIDTH of 0. PPS_OUT_FALL once WIDTH has passed, or with PPS_OUT_EN clear, lowers it. All else is left. -/
def Obligations.TimeCapturesAndReferences : Prop :=
  (∀ (s : State) (r : Req), Completes (.timeNowRead r) s fun t =>
      KMap.get 0 t.time.nowCap (reqKey r) = s.now ∧ (∀ k, k ≠ reqKey r → KMap.get 0 t.time.nowCap k = KMap.get 0 s.time.nowCap k) ∧
      t.out = s.out ++ [.regData r Reg.TIME_NOW_FRAC (BitVec.ofNat 32 s.now)] ∧
      { t with time := { t.time with nowCap := s.time.nowCap }, out := s.out } = s) ∧
  (∀ (s : State) (r : Req), Completes (.timePpsInFracRead r) s fun t =>
      KMap.get 0 t.time.ppsCap (reqKey r) = s.time.ppsAt / 2 ^ 32 ∧
      (∀ k, k ≠ reqKey r → KMap.get 0 t.time.ppsCap k = KMap.get 0 s.time.ppsCap k) ∧
      t.out = s.out ++ [.regData r Reg.TIME_PPS_IN_FRAC (BitVec.ofNat 32 s.time.ppsAt)] ∧
      { t with time := { t.time with ppsCap := s.time.ppsCap }, out := s.out } = s) ∧
  (∀ (s : State) (r : Req), Completes (.timePpsInSecRead r) s fun t =>
      t.out = s.out ++ [.regData r Reg.TIME_PPS_IN_SEC (BitVec.ofNat 32 (KMap.get 0 s.time.ppsCap (reqKey r)))] ∧
      t.flag Reg.TIME_STATUS Fld.TIME_STATUS_PPS_IN_NEW = false ∧ { t with regs := s.regs, out := s.out } = s ∧ RegsBut [Reg.TIME_STATUS] s t) ∧
  (∀ s : State, (∀ e, s.time.ppsEdge = some e → e + 2 ^ 31 ≤ s.mono) → Completes .ppsInEdge s fun t =>
      t.time = { s.time with ppsAt := s.now, ppsEdge := some s.mono } ∧ t.flag Reg.TIME_STATUS Fld.TIME_STATUS_PPS_IN_NEW = true ∧
      (s.flag Reg.TIME_STATUS Fld.TIME_STATUS_PPS_IN_NEW = true → t.flag Reg.TIME_STATUS Fld.TIME_STATUS_PPS_IN_OVERRUN = true) ∧
      { t with time := s.time, regs := s.regs } = s ∧ RegsBut [Reg.TIME_STATUS] s t) ∧
  (∀ (s : State) (e : Nat), s.time.ppsEdge = some e → s.mono < e + 2 ^ 31 → exec .ppsInEdge s = .next s) ∧
  (∀ s : State, s.flag Reg.TIME_CTRL Fld.TIME_CTRL_REF10M_EN = true → s.time.master.toNat % 2 ^ 64 / 2 ^ 28 < 2 ^ 16 →
    Completes .ref10mMeasure s fun t =>
      t.fld Reg.TIME_REF10M_CAP Fld.TIME_REF10M_CAP_OFFSET = s.time.master.toNat % 2 ^ 64 / 2 ^ 28 ∧ OnlyRegs [Reg.TIME_REF10M_CAP] s t) ∧
  (∀ s : State, s.flag Reg.TIME_CTRL Fld.TIME_CTRL_REF10M_EN = true →
    Completes .ref10mLos s fun t => t.flag Reg.TIME_STATUS Fld.TIME_STATUS_REF10M_LOS = true ∧ OnlyRegs [Reg.TIME_STATUS] s t) ∧
  (∀ s : State, s.flag Reg.TIME_CTRL Fld.TIME_CTRL_REF10M_EN = true →
    Completes .ref10mEdgeReturn s fun t => t.flag Reg.TIME_STATUS Fld.TIME_STATUS_REF10M_LOS = false ∧ OnlyRegs [Reg.TIME_STATUS] s t) ∧
  (∀ s : State, s.flag Reg.TIME_CTRL Fld.TIME_CTRL_PPS_OUT_EN = true → KMap.get 0 s.time.trig 2 < s.ppsIndex →
    Completes .ppsOutRise s fun t =>
      t.time.ppsOut = decide (0 < s.fld Reg.TIME_PPS_OUT_CFG Fld.TIME_PPS_OUT_CFG_WIDTH) ∧
      t.time.ppsFall = s.mono + min (s.fld Reg.TIME_PPS_OUT_CFG Fld.TIME_PPS_OUT_CFG_WIDTH) 0x7FFF * 2 ^ 16 ∧
      KMap.get 0 t.time.trig 2 = s.ppsIndex ∧ { t with time := s.time } = s) ∧
  (∀ s : State, s.time.ppsOut = true → s.time.ppsFall ≤ s.mono ∨ s.flag Reg.TIME_CTRL Fld.TIME_CTRL_PPS_OUT_EN = false →
    Completes .ppsOutFall s fun t => t.time = { s.time with ppsOut := false } ∧ { t with time := s.time } = s)

/-- With the Forwarding die up: PORT_CFG_WRITE of a value that is not refused to a disabled port writes it with its reserved bits zero, and no other register but PORT_PRE_STATUS of the port; a refused one sets CFG_REFUSED and changes nothing else. PORT_LINK of an enabled Ethernet port whose PCS and FEC lock without a fault, and which was down without preemption, sets LINK_UP and LINK_EVT of the port's status and raises event 0x0101 with 1 for up; but for the event only the status registers change. PREEMPT_VERIFY_SEND in INIT or VERIFYING of a port with preemption and link, with fewer than three attempts and its timer over, sends a verify mPacket, counts the attempt and enters VERIFYING; after the third it enters FAILED. PREEMPT_VERIFY_RESPONSE in VERIFYING enters SUCCEEDED. -/
def Obligations.PortConfiguration : Prop :=
  (∀ (s : State) (p : Fin 128) (v : BitVec 32), s.fdieUp = true → s.portEn p = false → s.portRefused p v = false →
    Completes (.portCfgWrite p v) s fun t =>
      t.reg (portCfg p) = v &&& 0xFFFC7FFF ∧ RegsBut [portCfg p, preStatus p] s t ∧
      { t with regs := s.regs, port := s.port, otn := s.otn } = s) ∧
  (∀ (s : State) (p : Fin 128) (v : BitVec 32), s.fdieUp = true → s.portRefused p v = true →
    Completes (.portCfgWrite p v) s fun t =>
      t.flag (portStatus p) Fld.PORT_STATUS_CFG_REFUSED = true ∧ OnlyRegs [portStatus p] s t) ∧
  (∀ (s : State) (p : Fin 128) (l : LinkIn), s.fdieUp = true → s.portEn p = true → s.portOtn p = false → s.linkUp p = false → s.preEn p = false →
      l.pcs = true → l.fec = true → l.localFault = false → l.remoteFault = false →
    Completes (.portLink p l) s fun t => ∃ u : State,
      t = { (u.ownerEvent 0x0101 1 (p.val / 8) p.val [1]).rclkNote with pending := s.pending } ∧ u.linkUp p = true ∧
      u.flag (portStatus p) Fld.PORT_STATUS_LINK_EVT = true ∧ OnlyRegs [portStatus p, Reg.PORT_GROUP_STATUS (p.val / 8)] s u) ∧
  (∀ (s : State) (p : Fin 128), s.macOn p = true → s.preEn p = true → s.linkUp p = true → s.verify p < 2 →
      KMap.get 0 s.port.due p ≤ s.mono → KMap.get 0 s.port.tries p < 3 →
    Completes (.preemptVerifySend p) s fun t =>
      t.verify p = 1 ∧ KMap.get 0 t.port.tries p = KMap.get 0 s.port.tries p + 1 ∧ t.out = s.out ++ [.verify p] ∧
      { t with port := s.port, regs := s.regs, out := s.out } = s ∧ RegsBut [preStatus p] s t) ∧
  (∀ (s : State) (p : Fin 128), s.macOn p = true → s.preEn p = true → s.linkUp p = true → s.verify p < 2 →
      KMap.get 0 s.port.due p ≤ s.mono → 3 ≤ KMap.get 0 s.port.tries p →
    Completes (.preemptVerifySend p) s fun t => t.verify p = 3 ∧ OnlyRegs [preStatus p] s t) ∧
  (∀ (s : State) (p : Fin 128), s.macOn p = true → s.preEn p = true → s.verify p = 1 →
    Completes (.preemptVerifyResponse p) s fun t => t.verify p = 2 ∧ OnlyRegs [preStatus p] s t)

/-- On an enabled Ethernet port with the Forwarding die up: FRAME_HANDOFF of the first 320 bytes of a frame without error, neither MACsec nor turned away by the station filter or a fence, makes a new packet with those bytes, the port and the receive timestamp at the end of the line queue of its slice. PAUSE_FRAME_RX of a whole good pause frame counts in PORT_RX_PAUSE. PAUSE_END once a pause is over clears it. MPACKET_RX while preemption is not active counts in PORT_RX_PRE_SMD_ERR and changes nothing else; a good start that does not end its frame opens a reassembly with its bytes. RX_ERROR_STATUS on a packet not yet committed forgets it and counts the error. OVERSIZE_CUT of a clear frame whose bytes pass MAX_FRAME before commit forgets it and counts PORT_RX_OVERSIZE; FRAME_TAIL of a clear frame of a layout not parsed yet completes its bytes without the FCS and its length. FRAME_TX_END of an express frame ends it, and counts in PORT_TX_FRAMES. -/
def Obligations.PortFrames : Prop :=
  (∀ (s : State) (p : Fin 128) (f : RxHead) (br : Bool), s.macOn p = true → f.whole = false → f.err = none →
      s.secMatch p f.data = .clear → s.station p (beAt f.data 0 6) = some br → KMap.get 0 s.ing.fence (p.val / 8) = 0 →
    Completes (.frameHandoff p f) s fun t => (∃ k, t.pkt s.ing.nextId = some k ∧ k.bytes = f.data ∧ k.port = p ∧ k.slice = p.val / 8 ∧
        k.bridged = br ∧ k.ts = s.rxTs p f.inst.toNat ∧ k.stage = .queued) ∧
      qGet t.ing.lineQ (p.val / 8) = qGet s.ing.lineQ (p.val / 8) ++ [s.ing.nextId] ∧ { t with ing := s.ing } = s) ∧
  (∀ (s : State) (p : Fin 128) (f : RxHead), s.macOn p = true → f.whole = true → f.err = none → 64 ≤ f.data.length → isPause f.data = true →
      s.flag (portCfg p) Fld.PORT_CFG_PAUSE_RX_EN = false →
    Completes (.pauseFrameRx p f) s fun t => Counted (Ctr.PORT_RX_PAUSE (p.val / 8) (p.val % 8)) 1 s t ∧
      RegsBut (Ctr.PORT_RX_PAUSE (p.val / 8) (p.val % 8)).regs s t ∧ { t with regs := s.regs, pmcIn := s.pmcIn } = s) ∧
  (∀ (s : State) (p : Fin 128) (c : Fin 9), KMap.get 0 s.port.pause (9 * p.val + c.val) ≤ s.mono →
    Completes (.pauseEnd p c) s fun t => KMap.get 0 t.port.pause (9 * p.val + c.val) = 0 ∧
      (∀ k, k ≠ 9 * p.val + c.val → KMap.get 0 t.port.pause k = KMap.get 0 s.port.pause k) ∧ { t with port := s.port } = s) ∧
  (∀ (s : State) (p : Fin 128) (f : MFrag), s.macOn p = true → s.preActive p = false →
    Completes (.mpacketRx p f) s fun t => Counted (Ctr.PORT_RX_PRE_SMD_ERR (p.val / 8) (p.val % 8)) 1 s t ∧
      RegsBut (Ctr.PORT_RX_PRE_SMD_ERR (p.val / 8) (p.val % 8)).regs s t ∧ { t with regs := s.regs, pmcIn := s.pmcIn } = s) ∧
  (∀ (s : State) (p : Fin 128) (f : MFrag), s.macOn p = true → s.preActive p = true → s.preRx p = none → f.start = true → f.last = false →
      f.crcOk = true → f.data.length < 320 →
    Completes (.mpacketRx p f) s fun t => ∃ x, t.preRx p = some x ∧ x.data = f.data ∧ x.frame = f.frame.toNat ∧ x.next = 0 ∧
      x.handed = false ∧ Counted (Ctr.PORT_RX_PRE_FRAG (p.val / 8) (p.val % 8)) 1 s t) ∧
  (∀ (s : State) (p : Fin 128) (pre : Bool) (e : MacErr) (n : Nat) (k : IPkt), s.fdieUp = true → s.curPkt p pre = some (n, k) →
      k.isCommitted = false →
    Completes (.rxErrorStatus p pre e) s fun t => t.pkt n = none ∧ Counted (rxCtr k.port (macErr e)) 1 s t) ∧
  (∀ (s : State) (p : Fin 128) (pre : Bool) (rest : List (BitVec 8)) (n : Nat) (k : IPkt), s.fdieUp = true → s.curPkt p pre = some (n, k) →
      k.sec = none → k.err = none → k.isCommitted = false → k.maxFrame < k.bytes.length + rest.length →
    Completes (.oversizeCut p pre rest) s fun t => t.pkt n = none ∧ Counted (rxCtr k.port .oversize) 1 s t) ∧
  (∀ (s : State) (p : Fin 128) (pre : Bool) (rest : List (BitVec 8)) (n : Nat) (k : IPkt), s.fdieUp = true → s.curPkt p pre = some (n, k) →
      k.sec = none → k.err = none → k.isCommitted = false → k.parse = none → k.bytes.length + rest.length ≤ k.maxFrame →
    Completes (.frameTail p pre rest none) s fun t => ∃ x, t.pkt n = some x ∧ x.tail = some true ∧
      x.len = some (k.bytes.length + rest.length) ∧ x.bytes = (k.bytes ++ rest).take (k.bytes.length + rest.length - 4) ∧
      KMap.get 0 t.ing.cur (2 * p.val + pre.toNat) = 0 ∧ { t with ing := s.ing } = s) ∧
  (∀ (s : State) (p : Fin 128) (x : TxNow), s.txNow p false = some x → x.cut = false →
    Completes (.frameTxEnd p false) s fun t => t.txNow p false = none ∧ Counted (Ctr.PORT_TX_FRAMES (p.val / 8) (p.val % 8)) 1 s t)

/-- OTN_CFG_WRITE of a disabled port stores its five bits; a change of N of an enabled port sets CFG_REFUSED and nothing else. FAS_MATCH at or after the search position opens a candidate there. FAS_CANDIDATE_CHECK locks the frame when the FAS repeats, and otherwise resumes the search at the byte after the candidate. OTN_FRAME_RX of an instance in FRAME_LOCK whose MFAS follows that of the frame before enters MF_LOCK; the fifth FAS mismatch in a row returns to SEARCH and empties the queue; a kept frame goes to the end of a queue with room. DESKEW_RELEASE of an aligned port whose oldest frames agree takes one frame of every instance and counts no disagreement. OTN_DEFECT moves the bit of a defect to its present condition and sets DEFECT_EVT; without a change nothing happens. -/
def Obligations.OtnFraming : Prop :=
  (∀ (s : State) (p : Fin 128) (v : BitVec 32), s.fdieUp = true →
    Completes (.otnCfgWrite p v) s fun t =>
      (s.portEn p.val = false → t.reg (otnCfg p.val) = v &&& 0x1F ∧ OnlyRegs [otnCfg p.val] s t) ∧
      (s.portEn p.val = true → Fld.OTN_CFG_N.get v ≠ s.fld (otnCfg p.val) Fld.OTN_CFG_N →
        t.flag (portStatus p.val) Fld.PORT_STATUS_CFG_REFUSED = true ∧ OnlyRegs [portStatus p.val] s t)) ∧
  (∀ (s : State) (p : Fin 128) (m : Fin 16) (pos : BitVec 64), s.otnOn p.val = true → m.val < s.otnN p.val → ((s.otnP p.val).inst m.val).st = 0 →
      ((s.otnP p.val).inst m.val).pos ≤ pos.toNat →
    Completes (.fasMatch p m pos) s fun t => ((t.otnP p.val).inst m.val).st = 1 ∧ ((t.otnP p.val).inst m.val).pos = pos.toNat ∧
      (∀ k, k ≠ m.val → (t.otnP p.val).inst k = (s.otnP p.val).inst k) ∧ (∀ q, q ≠ p.val → t.otnP q = s.otnP q)) ∧
  (∀ (s : State) (p : Fin 128) (m : Fin 16) (ok : Bool) (a : BitVec 8), s.otnOn p.val = true → ((s.otnP p.val).inst m.val).st = 1 →
    Completes (.fasCandidateCheck p m ok a) s fun t =>
      (ok = true → ((t.otnP p.val).inst m.val).st = 2 ∧ ((t.otnP p.val).inst m.val).mfas = some a.toNat) ∧
      (ok = false → ((t.otnP p.val).inst m.val).st = 0 ∧ ((t.otnP p.val).inst m.val).pos = ((s.otnP p.val).inst m.val).pos + 1) ∧
      (∀ k, k ≠ m.val → (t.otnP p.val).inst k = (s.otnP p.val).inst k) ∧ (∀ q, q ≠ p.val → t.otnP q = s.otnP q)) ∧
  (∀ (s : State) (p : Fin 128) (m : Fin 16) (f : OtnFrame) (x : OtnInst), s.otnOn p.val = true → (s.otnP p.val).inst m.val = x → 2 ≤ x.st →
    Completes (.otnFrameRx p m f) s fun t =>
      (x.st = 2 → f.fas = true → (∃ a, x.mfas = some a ∧ (a + 1) % 256 = f.mfas.toNat) → ((t.otnP p.val).inst m.val).st = 3) ∧
      (f.fas = false → x.misses = 4 → ((t.otnP p.val).inst m.val).st = 0 ∧ ((t.otnP p.val).inst m.val).queue = []) ∧
      (f.fas = true → x.st ≤ 3 → x.queue.length < 256 → ∃ r, ((t.otnP p.val).inst m.val).queue = x.queue ++ [r] ∧ r.mfas = f.mfas.toNat ∧ r.at_ = s.mono) ∧
      ((t.otnP p.val).inst m.val).bip1 = some (bip8 f.opu) ∧ ((t.otnP p.val).inst m.val).bip2 = x.bip1 ∧
      (∀ k, k ≠ m.val → (t.otnP p.val).inst k = (s.otnP p.val).inst k) ∧ (∀ q, q ≠ p.val → t.otnP q = s.otnP q)) ∧
  (∀ (s : State) (p : Fin 128) (v : Nat), s.otnOn p.val = true → (s.insts p.val).all (instReady (s.otnN p.val)) = true → (s.otnP p.val).aligned = true →
      (∀ x ∈ s.insts p.val, ∃ r, x.queue.head? = some r ∧ r.mfas = v) →
    Completes (.deskewRelease p) s fun t => (t.otnP p.val).aligned = true ∧ (t.otnP p.val).disagree = 0 ∧
      (∀ m, m < s.otnN p.val → ((t.otnP p.val).inst m).queue = ((s.otnP p.val).inst m).queue.drop 1)) ∧
  (∀ (s : State) (p : Fin 128) (d : Fin 8), s.otnOn p.val = true → s.otnBit p.val d.val ≠ s.defectNow p.val d.val (s.otnBit p.val d.val) →
    Completes (.otnDefect p d) s fun t => t.otnBit p.val d.val = s.defectNow p.val d.val (s.otnBit p.val d.val) ∧
      (∀ e, e < 8 → e ≠ d.val → t.otnBit p.val e = s.otnBit p.val e) ∧ t.flag (otnStatus p.val) Fld.OTN_STATUS_DEFECT_EVT = true) ∧
  (∀ (s : State) (p : Fin 128) (d : Fin 8), s.otnBit p.val d.val = s.defectNow p.val d.val (s.otnBit p.val d.val) →
    exec (.otnDefect p d) s = .next s)

/-- GFP_CORE_HEADER, on a port that runs without a consequent action: in HUNT a header whose cHEC holds leads to PRESYNC, and in PRESYNC to SYNC; a wrong one leads from PRESYNC to HUNT; in SYNC a corrected single-bit error counts OTN_GFP_CHEC_CORR and keeps SYNC, and a multi-bit error counts OTN_GFP_SYNC_LOSS and leads to HUNT. GFP_FRAME in SYNC counts a wrong tHEC, client management, other types, runts and frames without a slot in their counters, changing nothing else; a client frame of a legal length with a slot becomes a packet of the port's slice with its length known. -/
def Obligations.OtnGfpFrames : Prop :=
  (∀ (s : State) (p : Fin 128) (h : BitVec 32) (l : Nat) (fixed : Bool), s.otnOn p.val = true → s.aisAction p.val = false →
      hecCheck (h ^^^ 0xB6AB31E0).toNat = some (l, fixed) →
    Completes (.gfpCoreHeader p h) s fun t => (∀ q, q ≠ p.val → t.otnP q = s.otnP q) ∧
      ((s.otnP p.val).gfp = 0 → fixed = false → t.otnP p.val = { s.otnP p.val with gfp := 1, pli := l } ∧ { t with otn := s.otn } = s) ∧
      ((s.otnP p.val).gfp = 1 → fixed = false → t.otnP p.val = { s.otnP p.val with gfp := 2, pli := l } ∧ { t with otn := s.otn } = s) ∧
      ((s.otnP p.val).gfp = 1 → fixed = true → t.otnP p.val = { s.otnP p.val with gfp := 0 } ∧ { t with otn := s.otn } = s) ∧
      ((s.otnP p.val).gfp = 2 → fixed = true → t.otnP p.val = { s.otnP p.val with pli := l } ∧
        Counted (Ctr.OTN_GFP_CHEC_CORR (p.val / 8) (p.val % 8)) 1 s t)) ∧
  (∀ (s : State) (p : Fin 128) (h : BitVec 32), s.otnOn p.val = true → s.aisAction p.val = false → hecCheck (h ^^^ 0xB6AB31E0).toNat = none →
      (s.otnP p.val).gfp = 2 → s.curPkt p.val false = none →
    Completes (.gfpCoreHeader p h) s fun t => t.otnP p.val = { s.otnP p.val with gfp := 0 } ∧
      Counted (Ctr.OTN_GFP_SYNC_LOSS (p.val / 8) (p.val % 8)) 1 s t) ∧
  (∀ (s : State) (p : Fin 128) (f : RxHead) (slot : Bool), s.otnOn p.val = true → s.aisAction p.val = false → (s.otnP p.val).gfp = 2 →
      4 ≤ (s.otnP p.val).pli →
    Completes (.gfpFrame p f slot) s fun t =>
      (hecCheck (beAt f.data 0 4) = none → Counted (Ctr.OTN_GFP_THEC_DROP (p.val / 8) (p.val % 8)) 1 s t ∧
        RegsBut (Ctr.OTN_GFP_THEC_DROP (p.val / 8) (p.val % 8)).regs s t ∧ { t with regs := s.regs, pmcIn := s.pmcIn } = s) ∧
      (∀ ty c, hecCheck (beAt f.data 0 4) = some (ty, c) →
        (ty >>> 13 = 4 → Counted (Ctr.OTN_GFP_CMF (p.val / 8) (p.val % 8)) 1 s t ∧ { t with regs := s.regs, pmcIn := s.pmcIn } = s) ∧
        (ty >>> 13 ≠ 4 → (ty >>> 13 ≠ 0 ∨ ty / 256 % 16 ≠ 0 ∨ ty % 256 ≠ 1) →
          Counted (Ctr.OTN_GFP_TYPE_DROP (p.val / 8) (p.val % 8)) 1 s t ∧ { t with regs := s.regs, pmcIn := s.pmcIn } = s) ∧
        (ty = 1 → (s.otnP p.val).pli < 68 → Counted (Ctr.PORT_RX_RUNT (p.val / 8) (p.val % 8)) 1 s t ∧
          { t with regs := s.regs, pmcIn := s.pmcIn } = s) ∧
        (ty = 1 → 68 ≤ (s.otnP p.val).pli → (s.otnP p.val).pli - 4 ≤ s.maxFrame p.val → f.err = none → f.whole = false → slot = false →
          Counted (Ctr.OTN_RX_SLOT_DROP (p.val / 8) (p.val % 8)) 1 s t ∧ { t with regs := s.regs, pmcIn := s.pmcIn } = s) ∧
        (∀ br b, ty = 1 → 68 ≤ (s.otnP p.val).pli → (s.otnP p.val).pli - 4 ≤ s.maxFrame p.val → f.err = none → f.whole = false → slot = true →
          b = (f.data.drop 4).take ((s.otnP p.val).pli - 4) → s.secMatch p.val b = .clear → s.station p.val (beAt b 0 6) = some br →
          KMap.get 0 s.ing.fence (p.val / 8) = 0 →
          (∃ k, t.pkt s.ing.nextId = some k ∧ k.bytes = b ∧ k.port = p.val ∧ k.slice = p.val / 8 ∧ k.bridged = br ∧ k.ts = f.inst.toNat ∧
            k.len = some ((s.otnP p.val).pli - 4)) ∧
          qGet t.ing.lineQ (p.val / 8) = qGet s.ing.lineQ (p.val / 8) ++ [s.ing.nextId] ∧ { t with ing := s.ing } = s)))

/-- SLICE_ENTRY with a line packet alone in the queues, room in the transit FIFO, the Traffic die up and the lease running, takes it off the queue into stage 0 with the current epoch and its length reserved. KEY_LAUNCH of an entered packet notes its profile and the table DRAM reads of its keys. PARSE_HEADERS of a launched packet runs the parser over its bytes. LAYOUT_COMPARE of a packet without a parser outcome, fragment or ESP hit passes it where the guess holds, and otherwise sends it to the respin loop with its reads dropped and counts FWH_RESPIN. RESPIN queues it while fewer than 32 wait, and otherwise drops it under cause 4. TABLE_DRAM_READ_RETURN of a clean exact-match word that is no hit removes the read. FRAGMENT_EXPIRE frees exactly the entries whose window has closed. DRAM_WAIT writes D and, when D falls, holds admission for the difference in cycles. -/
def Obligations.SlicePipelineFront : Prop :=
  (∀ (s : State) (i : Fin 16) (p : Nat) (k : IPkt) (n : Nat), s.fdieUp = true → s.tdieUp = true → KMap.get 0 s.ing.fence i.val = 0 →
      KMap.get 0 s.ing.hold i.val ≤ s.time.cycles → qGet s.ing.respinQ i.val = [] → qGet s.ing.lineQ i.val = [p] → s.pkt p = some k → k.len = some n →
      k.respun = false → s.transitUsed i.val + n ≤ 600000 → s.leaseOver = false →
    Completes (.sliceEntry i) s fun t => t.pkt p = some { k with stage := .entered, reserved := n, epoch := s.epoch } ∧
      qGet t.ing.lineQ i.val = [] ∧ { t with ing := s.ing } = s) ∧
  (∀ (s : State) (p : BitVec 32) (k : IPkt), s.pkt p.toNat = some k → k.stage = .entered → k.respun = false →
    Completes (.keyLaunch p) s fun t =>
      t.pkt p.toNat = some { k with stage := .launched, prof := s.profileOf k,
                                    reads := s.firstReads k.epoch (s.keysOf k (profileParse (s.profileOf k))) } ∧
      RegsBut Ctr.EXM_EXTRA_READ.regs s t ∧ { t with ing := s.ing, regs := s.regs, pmcIn := s.pmcIn } = s) ∧
  (∀ (s : State) (p : BitVec 32) (k : IPkt), s.pkt p.toNat = some k → k.stage = .launched → k.respun = false → k.known = true →
    Completes (.parseHeaders p) s fun t =>
      t.pkt p.toNat = some { k with stage := .parsed, parse := some (parse (s.prsCfg k.slice) k.bytes (some k.bytes.length) k.hasIth) } ∧
      { t with ing := s.ing } = s) ∧
  (∀ (s : State) (p : BitVec 32) (k : IPkt), s.pkt p.toNat = some k → k.stage = .parsed → k.respun = false → k.ps.mal = none →
      k.ps.csumErr = false → k.ps.horizon = false → k.ps.frag = none → s.espHit k = none →
    Completes (.layoutCompare p) s fun t =>
      (guessMatch k.prof k.ps k.bytes = true → t.pkt p.toNat = some { k with stage := .compared } ∧ { t with ing := s.ing } = s) ∧
      (guessMatch k.prof k.ps k.bytes = false → t.pkt p.toNat = some { k with stage := .loop, reads := [] } ∧
        Counted (Ctr.FWH_RESPIN k.slice) 1 s t)) ∧
  (∀ (s : State) (p : BitVec 32) (k : IPkt), s.pkt p.toNat = some k → k.stage = .loop →
    Completes (.respin p) s fun t =>
      ((qGet s.ing.respinQ k.slice).length < 32 → t.pkt p.toNat = some { k with stage := .respinQ, respun := true } ∧
        qGet t.ing.respinQ k.slice = qGet s.ing.respinQ k.slice ++ [p.toNat] ∧ { t with ing := s.ing } = s) ∧
      (32 ≤ (qGet s.ing.respinQ k.slice).length → t.pkt p.toNat = none ∧ Counted (Ctr.FWH_DROP_CNT k.slice 4) 1 s t)) ∧
  (∀ (s : State) (p : BitVec 32) (n : BitVec 8) (l : MemLoc) (k : IPkt) (slot : Nat) (key : ExmKey), s.pkt p.toNat = some k →
      k.reads[n.toNat]? = some (.exm slot key) → s.exmHit k.epoch key ≠ some slot →
    Completes (.tableDramReadReturn p n l .clean) s fun t => t.pkt p.toNat = some { k with reads := k.reads.eraseIdx n.toNat }) ∧
  (∀ s : State, Completes .fragmentExpire s fun t =>
      t.ing.frags = s.ing.frags.filter (fun f => decide (s.mono < f.close)) ∧ { t with ing := s.ing, regs := s.regs, pmcIn := s.pmcIn } = s ∧
      RegsBut Ctr.PRS_FRAG_EXPIRE.regs s t) ∧
  (∀ (s : State) (i : Fin 16) (v : BitVec 32), s.fdieUp = true →
    Completes (.dramWait i v) s fun t => t.reg (Reg.FWH_CFG i.val) = v &&& 0x3FF ∧ RegsBut [Reg.FWH_CFG i.val] s t ∧
      { t with ing := s.ing, regs := s.regs } = s ∧
      (Fld.FWH_CFG_DRAM_WAIT.get (v &&& 0x3FF) < s.fld (Reg.FWH_CFG i.val) Fld.FWH_CFG_DRAM_WAIT →
        KMap.get 0 t.ing.hold i.val = s.time.cycles + (s.fld (Reg.FWH_CFG i.val) Fld.FWH_CFG_DRAM_WAIT - Fld.FWH_CFG_DRAM_WAIT.get (v &&& 0x3FF))))

/-- RESULT_JOIN of a compared packet whose reads are all back, that skips nothing and lost no word, takes the results of its keys in its epoch; with a read outstanding it is dropped under cause 5. ACL_STAGE1 and ACL_STAGE2 without a false hit, verdict or match pass the packet on where the stage's miss is allowed, and drop it under cause 6 where it is denied. POLICER_COLOUR with one policer whose refill is up to date and whose buckets hold the charge takes the charge from both buckets, colours the packet green and notes the charge. RESULT_READ of a packet bound for a next hop completes its record; a packet bound for DROP is dropped under cause 8. COMMIT of a record that is read, with the lease running, moves the packet to committed, counts FWH_COMMIT, and puts the copy to its next hop, and the mirror copies behind it, into the transit FIFO, and a DEMAND may go out; with the lease over a line packet is dropped under cause 3. TRANSIT_HANDOFF of a committed packet whose tail is not in marks it as having left. -/
def Obligations.SlicePipelineJoin : Prop :=
  (∀ (s : State) (p : BitVec 32) (k : IPkt), s.pkt p.toNat = some k → k.stage = .compared → k.skips = false → k.lost = false →
    Completes (.resultJoin p) s fun t =>
      (k.reads = [] → s.keysOf k k.ps = .none → t.pkt p.toNat = some { k with stage := .joined, res := none, srcRes := none }) ∧
      (∀ key : ExmKey, k.reads = [] → s.keysOf k k.ps = .mpls key →
        t.pkt p.toNat = some { k with stage := .joined, res := s.exmResult k.epoch key, srcRes := none }) ∧
      (∀ a b : ExmKey, k.reads = [] → s.keysOf k k.ps = .bridge a b →
        t.pkt p.toNat = some { k with stage := .joined, res := some ((s.exmResult k.epoch a).getD (s.reg Reg.LRN_MISS_RESULT)),
                                      srcRes := s.exmResult k.epoch b }) ∧
      (∀ tab a : Nat, k.reads = [] → s.keysOf k k.ps = .v4 tab a →
        t.pkt p.toNat = some { k with stage := .joined, res := (s.trieLookup k.epoch false tab a).map (·.result), srcRes := none }) ∧
      (k.reads ≠ [] → t.pkt p.toNat = none ∧ Counted (Ctr.FWH_DROP_CNT k.slice 5) 1 s t)) ∧
  (∀ (s : State) (p : BitVec 32) (k : IPkt), s.pkt p.toNat = some k → k.stage = .joined → k.skips = false →
      s.verdict (s.flowId (s.keyCtx k)) = none → s.aclSearch k.slice k.epoch 0 (s.keyCtx k) = none →
    Completes (.aclStage1 p []) s fun t =>
      (s.flag Reg.ACL_STAGE_CFG Fld.ACL_STAGE_CFG_MISS1_DENY = false → t.pkt p.toNat = some { k with stage := .acl1 } ∧ { t with ing := s.ing } = s) ∧
      (s.flag Reg.ACL_STAGE_CFG Fld.ACL_STAGE_CFG_MISS1_DENY = true → t.pkt p.toNat = none ∧ Counted (Ctr.FWH_DROP_CNT k.slice 6) 1 s t)) ∧
  (∀ (s : State) (p : BitVec 32) (k : IPkt), s.pkt p.toNat = some k → k.stage = .acl1 → k.skips = false →
      s.verdict (s.flowId (s.keyCtx k)) = none → s.aclSearch k.slice k.epoch 1 (s.keyCtx k) = none →
    Completes (.aclStage2 p []) s fun t =>
      (s.flag Reg.ACL_STAGE_CFG Fld.ACL_STAGE_CFG_MISS2_DENY = false → t.pkt p.toNat = some { k with stage := .acl2 } ∧ { t with ing := s.ing } = s) ∧
      (s.flag Reg.ACL_STAGE_CFG Fld.ACL_STAGE_CFG_MISS2_DENY = true → t.pkt p.toNat = none ∧ Counted (Ctr.FWH_DROP_CNT k.slice 6) 1 s t)) ∧
  (∀ (s : State) (p : BitVec 32) (k : IPkt) (u : PolicerUse), s.pkt p.toNat = some k → k.stage = .acl2 →
      k.ts ≤ (s.bucketOf k.slice u.num.toNat).at_ → (k.chargeLen : Int) ≤ (s.bucketOf k.slice u.num.toNat).tc →
      (k.chargeLen : Int) ≤ (s.bucketOf k.slice u.num.toNat).tp →
    Completes (.policerColour p [u]) s fun t =>
      t.pkt p.toNat = some { k with charge := k.chargeLen, stage := .policed, colour := 0,
                                    charges := [⟨u.num.toNat, k.chargeLen, true, u.cbs.toNat, u.pbs.toNat⟩] } ∧
      (t.bucketOf k.slice u.num.toNat).tc = (s.bucketOf k.slice u.num.toNat).tc - k.chargeLen ∧
      (t.bucketOf k.slice u.num.toNat).tp = (s.bucketOf k.slice u.num.toNat).tp - k.chargeLen ∧ { t with ing := s.ing } = s) ∧
  (∀ (s : State) (p : BitVec 32) (k : IPkt), s.pkt p.toNat = some k → k.stage = .policed →
    Completes (.resultRead p) s fun t =>
      (∀ e, s.forward k = .nh e → t.pkt p.toNat = some { k with stage := .read, learn := s.learnOf k, mirror := s.mirrorsOf k.acl, fwd := some (.nh e) } ∧
        { t with ing := s.ing } = s) ∧
      (s.forward k = .drop → t.pkt p.toNat = none ∧ Counted (Ctr.FWH_DROP_CNT k.slice 8) 1 s t)) ∧
  (∀ (s : State) (p : BitVec 32) (k : IPkt), s.pkt p.toNat = some k → k.stage = .read →
    Completes (.commit p) s fun t =>
      ((k.line && s.leaseOver) = false → ∀ e, k.fwd = some (.nh e) →
        (∃ x, t.pkt p.toNat = some x ∧ x.stage = .committed ∧ x.reserved = 0) ∧
        KMap.get [] t.ing.transit k.slice = KMap.get [] s.ing.transit k.slice ++ State.nhCopy p.toNat k e k.reserved ::
          k.mirror.map (fun m => State.nhCopy p.toNat k m 0) ∧
        { t with ing := s.ing, regs := s.regs, pmcIn := s.pmcIn, lrn := s.lrn, led := s.led, out := s.out } = s) ∧
      ((k.line && s.leaseOver) = true → t.pkt p.toNat = none ∧ Counted (Ctr.FWH_DROP_CNT k.slice 3) 1 s t)) ∧
  (∀ (s : State) (p : BitVec 32) (k : IPkt), s.pkt p.toNat = some k → k.stage = .committed → k.tail ≠ some true →
    Completes (.transitHandoff p) s fun t => t.pkt p.toNat = some { k with stage := .handed, left := true } ∧ { t with ing := s.ing } = s)

/-- CLOSE closes the firmware's open batch and requests an ingress turn; staged ACL entries become the held batch. FWH_ETURN requests an egress turn and nothing else. A pending EPOCH_TURN, with no previous epoch live, no ACL batch in application and the Forwarding die up, makes the next epoch current, keeps the former one live, clears the request, leaves no closed batch, and lets every ring that waited go on. A turn that has to wait changes nothing. DRAIN_END of a previous epoch without packets ends it, and no route remains whose end no live epoch precedes. The egress turn and drain do the same with their own registers. With the drain not over DRAIN_END and EGRESS_DRAIN_END change nothing. -/
def Obligations.EpochTurns : Prop :=
  (∀ (s : State) (b : Batch), s.fdieUp = true → s.openBatch fwBatch = some b → s.acl.staged = [] →
    Completes .close s fun t => t.tab.closedB = s.tab.closedB ++ [b] ∧ t.tab.openB = s.tab.openB.filter (fun x => x.num ≠ b.num) ∧
      t.flag Reg.FWH_EPOCH_STATUS Fld.FWH_EPOCH_STATUS_TURN_PENDING = true ∧ t.prevLive = s.prevLive ∧
      RegsBut [Reg.FWH_EPOCH_STATUS] s t ∧ { t with tab := s.tab, regs := s.regs } = s) ∧
  (∀ s : State, s.fdieUp = true → s.openBatch fwBatch = none → s.acl.staged ≠ [] → s.acl.phase = .idle →
    Completes .close s fun t => t.acl.batch = s.acl.staged ∧ t.acl.staged = [] ∧ t.acl.phase = .closed ∧
      t.flag Reg.ACL_STATUS Fld.ACL_STATUS_BATCH_HELD = true ∧ t.flag Reg.FWH_EPOCH_STATUS Fld.FWH_EPOCH_STATUS_TURN_PENDING = true ∧
      RegsBut [Reg.FWH_EPOCH_STATUS, Reg.ACL_STATUS] s t ∧ { t with acl := s.acl, regs := s.regs } = s) ∧
  (∀ s : State, s.fdieUp = true →
    Completes .fwhEturn s fun t => t.flag Reg.FWH_EEPOCH_STATUS Fld.FWH_EEPOCH_STATUS_TURN_PENDING = true ∧
      t.egPrevLive = s.egPrevLive ∧ OnlyRegs [Reg.FWH_EEPOCH_STATUS] s t) ∧
  (∀ s : State, s.flag Reg.FWH_EPOCH_STATUS Fld.FWH_EPOCH_STATUS_TURN_PENDING = true → s.prevLive = false → s.fdieUp = true →
      s.acl.phase ≠ .closed → s.acl.phase ≠ .published → s.turnIn.wait.all (fun x => decide (x.1 < 65536)) = true →
    Completes .epochTurn s fun t => t.epoch = s.nextEpoch ∧ t.prevLive = true ∧ t.tab.closedB = [] ∧
      t.flag Reg.FWH_EPOCH_STATUS Fld.FWH_EPOCH_STATUS_TURN_PENDING = false ∧
      t.turnIn = { wait := [], done := s.turnIn.wait, at_ := s.time.cycles } ∧
      (∀ x ∈ s.turnIn.wait, s.ringState x.1 = rsTurnWait → t.ringState x.1 = rsRunning) ∧ t.tab.openB = s.tab.openB ∧
      t.ing = s.ing ∧ t.eg = s.eg) ∧
  (∀ s : State, s.flag Reg.FWH_EPOCH_STATUS Fld.FWH_EPOCH_STATUS_TURN_PENDING = false ∨ s.prevLive = true ∨ s.acl.phase = .closed →
    exec .epochTurn s = .next s) ∧
  (∀ s : State, s.prevLive = true → s.inFlight (prevOf s.epoch) = 0 → s.turnIn.done = [] →
    Completes .drainEnd s fun t => t.prevLive = false ∧ t.epoch = s.epoch ∧
      (∀ r, r ∈ t.tab.routes ↔ r ∈ s.tab.routes ∧ ∀ e, r.death = some e → precedes s.epoch e = true) ∧
      RegsBut [Reg.FWH_EPOCH_STATUS, Reg.FWH_DRAIN_MAX] s t ∧ { t with tab := s.tab, regs := s.regs } = s) ∧
  (∀ s : State, s.prevLive = false ∨ s.inFlight (prevOf s.epoch) ≠ 0 → exec .drainEnd s = .next s) ∧
  (∀ s : State, s.flag Reg.FWH_EEPOCH_STATUS Fld.FWH_EEPOCH_STATUS_TURN_PENDING = true → s.egPrevLive = false → s.fdieUp = true →
      s.turnOut.wait = [] →
    Completes .egressEpochTurn s fun t => t.reg Reg.FWH_EEPOCH_CUR = s.reg Reg.FWH_EEPOCH_CUR + 1 ∧ t.egPrevLive = true ∧
      t.flag Reg.FWH_EEPOCH_STATUS Fld.FWH_EEPOCH_STATUS_TURN_PENDING = false ∧ t.epoch = s.epoch ∧ t.turnOut.at_ = s.time.cycles ∧
      RegsBut [Reg.FWH_EEPOCH_CUR, Reg.FWH_EEPOCH_STATUS] s t ∧ { t with turnOut := s.turnOut, regs := s.regs } = s) ∧
  (∀ s : State, s.egPrevLive = true → s.egInFlight (prevOf s.egEpoch) = 0 → s.turnOut.done = [] →
    Completes .egressDrainEnd s fun t => t.egPrevLive = false ∧ t.egEpoch = s.egEpoch ∧
      OnlyRegs [Reg.FWH_EEPOCH_STATUS, Reg.FWH_EDRAIN_MAX] s t) ∧
  (∀ s : State, s.egPrevLive = false ∨ s.egInFlight (prevOf s.egEpoch) ≠ 0 → exec .egressDrainEnd s = .next s)

/-- An entry taken from an update ring advances the ring's indices and writes one 16-byte completion; TURN alone waits for its own. ROUTE_ADD of a new prefix of the trie that fits the limits stages it in the ring's batch with its units and completes OK with the next epoch, while the published routes stay. An entry that breaks the field rules completes with INVALID and leaves the tables. ROUTE_DEL of a prefix that is there stages its end. EXM_ADD of a key with a free slot writes the entry, staged, into that slot and stages its publication. EXM_DEL of a published key that nothing staged touches stages its end. EGT_WRITE of a legal entry writes that entry and no other. A reserved opcode completes with INVALID; NOP completes OK. TURN of an ingress batch closes the ring's batch, requests the turn and puts the ring into TURN_WAIT. The units are those of the rule for costs. -/
def Obligations.UpdateRingEntries : Prop :=
  (∀ (s : State) (g : BitVec 16) (d : List Byte), s.updHead g.toNat (· == 0x01) routeUsesExm = some d →
    Completes (.routeAdd g) s fun t =>
      (∀ (v6 : Bool) (pfx : Nat), v6 = (uFlags d % 2 == 1) → pfx = (if v6 then uData d else uData d >>> 96) → routeEntryOk d true = true →
        (v6 = true → uSub d ≤ 64) → (∀ o ∈ s.openOps g.toNat, StOp.onRoute v6 (uTable d) (uSub d) pfx o = none) →
        s.effective (s.openOps g.toNat) (StOp.onRoute v6 (uTable d) (uSub d) pfx) (s.routePublished v6 (uTable d) (uSub d) pfx) = false →
        s.stagedCount < 262144 → s.unitsUsed + (if v6 then 2 else 1) ≤ 8388608 →
        t.openOps g.toNat = s.openOps g.toNat ++ [.routeAdd v6 (uTable d) (uSub d) pfx (uResult d) (if v6 then 2 else 1)] ∧
        t.tab.routes = s.tab.routes ∧ t.tab.exm = s.tab.exm ∧ Updated g.toNat d 0 s.nextEpoch s t ∧ Counted Ctr.LPM_ROUTE_OK 1 s t) ∧
      (routeEntryOk d true = false → t.tab = s.tab ∧ Updated g.toNat d 3 0 s t)) ∧
  (∀ (s : State) (g : BitVec 16) (d : List Byte), s.updHead g.toNat (· == 0x02) routeUsesExm = some d →
    Completes (.routeDel g) s fun t =>
      (∀ (v6 : Bool) (pfx : Nat), v6 = (uFlags d % 2 == 1) → pfx = (if v6 then uData d else uData d >>> 96) → routeEntryOk d false = true →
        (v6 = true → uSub d ≤ 64) → (∀ o ∈ s.openOps g.toNat, StOp.onRoute v6 (uTable d) (uSub d) pfx o = none) →
        s.effective (s.openOps g.toNat) (StOp.onRoute v6 (uTable d) (uSub d) pfx) (s.routePublished v6 (uTable d) (uSub d) pfx) = true →
        s.stagedCount < 262144 →
        t.openOps g.toNat = s.openOps g.toNat ++ [.routeDel v6 (uTable d) (uSub d) pfx] ∧ t.tab.routes = s.tab.routes ∧
        t.tab.exm = s.tab.exm ∧ Updated g.toNat d 0 s.nextEpoch s t ∧ Counted Ctr.LPM_ROUTE_OK 1 s t) ∧
      (routeEntryOk d false = false → t.tab = s.tab ∧ Updated g.toNat d 3 0 s t)) ∧
  (∀ (s : State) (g : BitVec 16) (d : List Byte) (k : ExmKey), s.updHead g.toNat (· == 0x03) (fun _ => true) = some d →
      k = ⟨uSub d, uTable d, uData d⟩ →
    Completes (.exmAdd g) s fun t =>
      (∀ i, exmEntryOk d true = true → s.stagedCount < 262144 → (∀ j e, s.slot j = some e → e.key = k → e.batch ≠ some (s.batchNum g.toNat)) →
        s.exmFreeSlot k = some i →
        t.slot i = some ⟨k, uFlags d == 2, false, false, uResult d, s.nextEpoch, none, false, 0, some (s.batchNum g.toNat)⟩ ∧
        (∀ j, j ≠ i → t.slot j = s.slot j) ∧ t.openOps g.toNat = s.openOps g.toNat ++ [.exmAdd k] ∧ t.tab.routes = s.tab.routes ∧
        Updated g.toNat d 0 s.nextEpoch s t ∧ Counted Ctr.EXM_INSERT 1 s t) ∧
      (exmEntryOk d true = false → t.tab = s.tab ∧ Updated g.toNat d 3 0 s t)) ∧
  (∀ (s : State) (g : BitVec 16) (d : List Byte) (k : ExmKey), s.updHead g.toNat (· == 0x04) (fun _ => true) = some d →
      k = ⟨uSub d, uTable d, uData d⟩ →
    Completes (.exmDel g) s fun t =>
      (exmEntryOk d false = true → s.stagedCount < 262144 → s.stagedOps = [] → (s.exmLive k).isSome = true →
        (∀ j e, s.slot j = some e → e.batch = none) →
        t.openOps g.toNat = [.exmDel k] ∧ t.tab.exm = s.tab.exm ∧ t.tab.routes = s.tab.routes ∧ Updated g.toNat d 0 s.nextEpoch s t) ∧
      (exmEntryOk d false = false → t.tab = s.tab ∧ Updated g.toNat d 3 0 s t)) ∧
  (∀ (s : State) (g : BitVec 16) (d : List Byte), s.updHead g.toNat (· == 0x05) (fun _ => false) = some d →
    Completes (.egtWrite g) s fun t =>
      (uFlags d = 0 → uTable d = 0 → uSub d = 0 → uResult d = 0 → uIndex d ≤ 1048575 →
        s.egtSecond (uIndex d) = true ∨ egtOk (uIndex d) (BitVec.ofNat 128 (uData d)) = true →
        s.regionLost 2 (egtSram (uIndex d)) = false →
        t.egt (uIndex d) = BitVec.ofNat 128 (uData d) ∧ (∀ j, j ≠ uIndex d → t.egt j = s.egt j) ∧
        { t.tab with egt := s.tab.egt } = s.tab ∧ Updated g.toNat d 0 0 s t) ∧
      (1048575 < uIndex d → t.tab = s.tab ∧ Updated g.toNat d 3 0 s t)) ∧
  (∀ (s : State) (g : BitVec 16) (d : List Byte),
      s.updHead g.toNat (fun o => o == 0 || (decide (0x06 ≤ o) && o != 0xF0 && o != 0xF1)) (fun _ => false) = some d →
    Completes (.updateReservedOpcode g) s fun t => Updated g.toNat d 3 0 s t ∧
      RegsBut [Reg.RING_IDX g.toNat, Reg.RING_CTRL g.toNat] s t ∧
      { t with regs := s.regs, rings := s.rings, out := s.out, ram := s.ram } = s) ∧
  (∀ (s : State) (g : BitVec 16) (d : List Byte), s.updHead g.toNat (· == 0xF1) (fun _ => false) = some d →
    Completes (.nop g) s fun t => (((d.take 4).drop 1 ++ d.drop 8).all (· == 0) = true → Updated g.toNat d 0 s.nextEpoch s t) ∧
      (((d.take 4).drop 1 ++ d.drop 8).all (· == 0) = false → Updated g.toNat d 3 0 s t) ∧
      RegsBut [Reg.RING_IDX g.toNat, Reg.RING_CTRL g.toNat] s t ∧
      { t with regs := s.regs, rings := s.rings, out := s.out, ram := s.ram } = s) ∧
  (∀ (s : State) (g : BitVec 16) (d : List Byte) (b : Batch), s.updHead g.toNat (· == 0xF0) (fun _ => false) = some d → uFlags d = 0 →
      beAt d 2 2 = 0 → beAt d 8 24 = 0 → s.openBatch g.toNat = some b →
    Completes (.turn g) s fun t => t.tab.closedB = s.tab.closedB ++ [b] ∧ t.ringState g.toNat = rsTurnWait ∧
      t.flag Reg.FWH_EPOCH_STATUS Fld.FWH_EPOCH_STATUS_TURN_PENDING = true ∧ t.turnIn.wait = s.turnIn.wait ++ [(g.toNat, uTag d)] ∧
      (t.ring g.toNat).turns = (s.ring g.toNat).turns ++ [⟨uTag d, 0⟩] ∧ (t.ring g.toNat).reserved = (s.ring g.toNat).reserved + 1 ∧
      t.out = s.out ∧ RegsBut [Reg.RING_IDX g.toNat, Reg.RING_CTRL g.toNat, Reg.FWH_EPOCH_STATUS] s t)

/-- EXM_SLOT_RELEASE, once the vacated slot may be reused, moves the next entry of the chain into it and counts EXM_MOVE, or at the chain's end writes the new entry there, frees the engine and counts EXM_INSERT; before that it changes nothing. EXM_BIRTH_REBASE of a published entry more than 2^29 epochs old raises its BIRTH to the previous epoch and changes nothing else; a younger entry stays. LPM_V6_CONT_WRITE stores four lengths that are 0 or 65 to 127 while no continuation entries exist; a length from 1 to 64 or above 127 is refused whole and sets CONT_REFUSED. -/
def Obligations.ExactMatchUpkeep : Prop :=
  (∀ (s : State) (j : ExmJob), s.tab.job = some j → s.time.cycles < j.release → exec .exmSlotRelease s = .next s) ∧
  (∀ (s : State) (j : ExmJob) (p : Nat) (rest : List Nat) (e : ExmEntry), s.tab.job = some j → j.release ≤ s.time.cycles →
      j.path = p :: rest → p ≠ j.hole → s.slot p = some e → e.key.ktype ≠ 0 → s.tab.exm.wf (fun _ => .free) = true →
    Completes .exmSlotRelease s fun t => t.slot j.hole = some e ∧ t.slot p = none ∧ (∀ i, i ≠ p → i ≠ j.hole → t.slot i = s.slot i) ∧
      t.tab.job = some { j with path := rest, hole := p, release := s.time.cycles + 2048 } ∧ Counted Ctr.EXM_MOVE 1 s t ∧
      RegsBut Ctr.EXM_MOVE.regs s t ∧ { t with tab := s.tab, regs := s.regs, pmcIn := s.pmcIn } = s) ∧
  (∀ (s : State) (j : ExmJob), s.tab.job = some j → j.release ≤ s.time.cycles → j.path = [] → j.ring = none → j.entry.key.ktype ≠ 0 →
    Completes .exmSlotRelease s fun t => t.slot j.hole = some j.entry ∧ (∀ i, i ≠ j.hole → t.slot i = s.slot i) ∧ t.tab.job = none ∧
      Counted Ctr.EXM_INSERT 1 s t ∧ RegsBut Ctr.EXM_INSERT.regs s t ∧ { t with tab := s.tab, regs := s.regs, pmcIn := s.pmcIn } = s) ∧
  (∀ (s : State) (i : Fin 33554432) (e : ExmEntry), s.tab.job = none → s.slot i.val = some e → e.batch = none → e.key.ktype ≠ 0 →
    Completes (.exmBirthRebase i) s fun t =>
      (2 ^ 29 < (s.epoch + 2 ^ 32 - e.birth % 2 ^ 32) % 2 ^ 32 → t.slot i.val = some { e with birth := prevOf s.epoch }) ∧
      ((s.epoch + 2 ^ 32 - e.birth % 2 ^ 32) % 2 ^ 32 ≤ 2 ^ 29 → t = s) ∧
      (∀ k, k ≠ i.val → t.slot k = s.slot k) ∧ { t with tab := s.tab } = s) ∧
  (∀ (s : State) (v : BitVec 32), s.fdieUp = true →
    Completes (.lpmV6ContWrite v) s fun t =>
      ((∀ f ∈ [Fld.LPM_V6_CONT_LEN0, .LPM_V6_CONT_LEN1, .LPM_V6_CONT_LEN2, .LPM_V6_CONT_LEN3], f.get v = 0 ∨ (65 ≤ f.get v ∧ f.get v ≤ 127)) →
        s.tab.exm.l = [] → s.tab.job = none → t.reg Reg.LPM_V6_CONT = v ∧ OnlyRegs [Reg.LPM_V6_CONT] s t) ∧
      ((∃ f ∈ [Fld.LPM_V6_CONT_LEN0, .LPM_V6_CONT_LEN1, .LPM_V6_CONT_LEN2, .LPM_V6_CONT_LEN3], (1 ≤ f.get v ∧ f.get v ≤ 64) ∨ 127 < f.get v) →
        t.flag Reg.LPM_STATUS Fld.LPM_STATUS_CONT_REFUSED = true ∧ OnlyRegs [Reg.LPM_STATUS] s t))

/-- LEARN_EVENT takes the head of the queue while the engine is free and no removal waits. A key with the event's own result changes nothing; a STATIC entry counts LRN_STATIC_DROP and a FROZEN one LRN_FROZEN_DROP. An absent key with a free slot is written there as a learned entry born in the current epoch. Another result moves in place: without a record one is made with no flap. A move within the hold-off of the record's instant is a flap: the entry moves, and the count rises within its second; the fourth flap of a second sets FROZEN. An event earlier than the record's instant by the hold-off or more counts LRN_STALE. LEARN_UNFREEZE after the freeze window, and ALL, clear FROZEN and drop the record; before the window's end LEARN_UNFREEZE changes nothing. FLAP_RECORD_FREE drops a record of an entry that is not frozen when its window and second have closed. -/
def Obligations.LearningEngine : Prop :=
  (∀ (s : State) (ev : LearnEv) (rest : List LearnEv) (k : ExmKey), s.lrn.queue = ev :: rest → s.tab.job = none → s.lrn.removals = [] →
      s.flag Reg.LRN_CFG Fld.LRN_CFG_EN = true → k = macKey ev.domain ev.mac →
    Completes .learnEvent s fun t => t.lrn.queue = rest ∧
      (∀ i e, s.exmLive k = some (i, e) → e.result = s.learnResult ev.port → { t with lrn := s.lrn } = s) ∧
      (∀ i e, s.exmLive k = some (i, e) → e.result ≠ s.learnResult ev.port → e.isStatic = true →
        t.tab = s.tab ∧ Counted Ctr.LRN_STATIC_DROP 1 s t) ∧
      (∀ i e, s.exmLive k = some (i, e) → e.result ≠ s.learnResult ev.port → e.isStatic = false → e.frozen = true →
        t.tab = s.tab ∧ Counted Ctr.LRN_FROZEN_DROP 1 s t) ∧
      (∀ i, s.exmLive k = none → s.exmFreeSlot k = some i →
        t.slot i = some ⟨k, false, true, false, s.learnResult ev.port, s.epoch, none, false, 0, none⟩ ∧ (∀ n, n ≠ i → t.slot n = s.slot n) ∧
        Counted Ctr.LRN_NEW 1 s t) ∧
      (∀ i e, s.exmLive k = some (i, e) → e.result ≠ s.learnResult ev.port → e.isStatic = false → e.frozen = false → s.flapRec k = none →
        s.lrn.recs.length < 8192 →
        t.slot i = some { e with result := s.learnResult ev.port, learned := true, mark := 0 } ∧ (∀ n, n ≠ i → t.slot n = s.slot n) ∧
        t.lrn.recs = s.lrn.recs ++ [⟨k, ev.inst, 0, ev.inst / second, s.monoAt ev.inst s.holdoff, none⟩] ∧ Counted Ctr.LRN_MOVE 1 s t) ∧
      (∀ i e r, s.exmLive k = some (i, e) → e.result ≠ s.learnResult ev.port → e.isStatic = false → e.frozen = false → s.flapRec k = some r →
        r.m ≤ ev.inst → ev.inst < r.m + s.holdoff → r.freeze = none →
        t.slot i = some { e with result := s.learnResult ev.port, learned := true, mark := 0,
                                 frozen := decide (ev.inst / second = r.n ∧ r.c = 3) } ∧
        (∃ r', t.flapRec k = some r' ∧ r'.m = ev.inst ∧ r'.c = (if ev.inst / second = r.n then r.c + 1 else 1)) ∧
        Counted Ctr.LRN_FLAP 1 s t) ∧
      (∀ i e r, s.exmLive k = some (i, e) → e.result ≠ s.learnResult ev.port → e.isStatic = false → e.frozen = false → s.flapRec k = some r →
        ev.inst < r.m → s.holdoff ≤ r.m - ev.inst → t.tab = s.tab ∧ t.lrn.recs = s.lrn.recs ∧ Counted Ctr.LRN_STALE 1 s t)) ∧
  (∀ (s : State) (d : BitVec 16) (m : BitVec 48) (r : FlapRec) (f i : Nat) (e : ExmEntry), s.flapRec (macKey d.toNat m.toNat) = some r →
      r.freeze = some f → s.exmLive (macKey d.toNat m.toNat) = some (i, e) → e.frozen = true →
    Completes (.learnUnfreeze d m) s fun t =>
      (f ≤ s.mono → t.slot i = some { e with frozen := false } ∧ (∀ n, n ≠ i → t.slot n = s.slot n) ∧
        t.lrn.recs = s.lrn.recs.filter (fun x => x.key ≠ macKey d.toNat m.toNat)) ∧
      (s.mono < f → t = s)) ∧
  (∀ s : State, s.fdieUp = true →
    Completes .all s fun t => ∀ k i e, s.isFrozen k = true → s.exmLive k = some (i, e) → e.frozen = true → e.key.ktype ≠ 0 →
      t.slot i = some { e with frozen := false } ∧ t.flapRec k = none) ∧
  (∀ (s : State) (d : BitVec 16) (m : BitVec 48) (r : FlapRec), s.flapRec (macKey d.toNat m.toNat) = some r → r.freeze = none →
    Completes (.flapRecordFree d m) s fun t =>
      (r.close ≤ s.mono → (r.n + 1) * second ≤ s.now → t.lrn.recs = s.lrn.recs.filter (fun x => x.key ≠ macKey d.toNat m.toNat) ∧
        { t with lrn := s.lrn } = s) ∧
      (s.mono < r.close → t = s))

/-- AGING_SWEEP_START at the next multiple of the period, with AE_EN set and the sweep number below its largest, starts a sweep at bucket 0 and counts it; before the multiple it changes nothing. AGING_VISIT of bucket b goes over its four slots: a slot with HIT loses HIT; an idle aged entry that the previous sweep marked goes to the removal list; another idle aged entry takes the sweep's number as its mark; an entry that is not aged stays; and the sweep goes on to the next bucket, or ends after the last. LEARN_AGED takes the head of the removal list and, when the mark is still the one of the visit, ends the entry in the current epoch: it stays for the previous epoch while that one is live, and otherwise its slot is free; LRN_AGED counts it. -/
def Obligations.AgingSweeps : Prop :=
  (∀ s : State,
    Completes .agingSweepStart s fun t =>
      ((KMap.get 0 s.time.trig tgAge / s.agePeriod + 1) * s.agePeriod ≤ s.now → s.flag Reg.LRN_CFG Fld.LRN_CFG_AGE_EN = true →
        s.reg Reg.LRN_SWEEP_NUM ≠ 0xFFFFFFFF →
        t.lrn.sweep = some (0, false) ∧ t.reg Reg.LRN_SWEEP_NUM = s.reg Reg.LRN_SWEEP_NUM + 1 ∧ RegsBut [Reg.LRN_SWEEP_NUM] s t ∧
        { t with lrn := s.lrn, regs := s.regs, time := s.time } = s) ∧
      (s.now < (KMap.get 0 s.time.trig tgAge / s.agePeriod + 1) * s.agePeriod → t = s)) ∧
  (∀ (s : State) (b n : Nat), s.lrn.sweep = some (b, false) → (s.reg Reg.LRN_SWEEP_NUM).toNat = n → s.lrn.removals.length + 4 ≤ 65536 →
    Completes .agingVisit s fun t =>
      (∀ i ∈ slotsOf b, ∀ e, s.slot i = some e → e.key.ktype ≠ 0 →
        (e.hit = true → t.slot i = some { e with hit := false }) ∧
        (e.hit = false → s.aged e = true → e.mark ≠ 0 → e.mark + 1 = n → t.slot i = some e ∧ (e.key, e.mark) ∈ t.lrn.removals) ∧
        (e.hit = false → s.aged e = true → (e.mark = 0 ∨ e.mark + 1 ≠ n) → t.slot i = some { e with mark := n }) ∧
        (e.hit = false → s.aged e = false → t.slot i = some e)) ∧
      (∀ i, i ∉ slotsOf b → t.slot i = s.slot i) ∧ t.lrn.sweep = (if b + 1 < 8388608 then some (b + 1, false) else none) ∧
      { t with lrn := s.lrn, tab := s.tab } = s ∧ { t.tab with exm := s.tab.exm } = s.tab) ∧
  (∀ (s : State) (k : ExmKey) (m : Nat) (rest : List (ExmKey × Nat)) (i : Nat) (e : ExmEntry), s.lrn.removals = (k, m) :: rest →
      s.tab.job = none → s.exmLive k = some (i, e) → e.mark = m → e.learned = true → s.tab.exm.wf (fun _ => .free) = true →
    Completes .learnAged s fun t => t.lrn.removals = rest ∧ Counted Ctr.LRN_AGED 1 s t ∧
      (s.prevLive = false → t.slot i = none) ∧ (s.prevLive = true → t.slot i = some { e with death := some s.epoch }))

/-- ACL_WRITE of a legal entry to a free, aligned place of an enabled bank stages it and ends with code OK; ACL_DELETE of a held entry stages its end; ACL_REFRESH makes the row valid in the slice named. A disabled bank ends with BANK_OFF, a held place of a WRITE with IN_USE, a free one of a DELETE or REFRESH with NOT_FOUND, with nothing changed but the code. While BUSY a command is ignored; while a batch is held it waits with BUSY set. ACL_BATCH_APPLY, with no previous epoch live, sets the next plane of each written row, valid in all slices, and clears that of each deleted row. ACL_PLANE_COPY after the turn and the drain makes the planes of the changed rows equal and frees those that the current plane does not show. ACL_BANK_CFG_WRITE changes an empty bank or its tags; a layout change of a bank that holds an entry is BANK_IN_USE. ACL_SCRUB of a row that differs invalidates it in the slice and counts it; otherwise nothing changes. -/
def Obligations.AclCommands : Prop :=
  (∀ (s : State) (v : BitVec 32) (b a : Nat), s.fdieUp = true → s.flag Reg.ACL_STATUS Fld.ACL_STATUS_BUSY = false → s.acl.phase = .idle →
      b = Fld.ACL_WR_CMD_BANK.get v → a = b * 4096 + Fld.ACL_WR_CMD_UNIT.get v → actOk (s.reg64 Reg.ACL_WR_ACT_LO) = true →
      s.regWords Reg.ACL_WR_KEY 10 < 2 ^ (80 * s.bankWidth b) → s.regWords Reg.ACL_WR_MASK 10 < 2 ^ (80 * s.bankWidth b) →
    Completes (.aclWrite v) s fun t => t.flag Reg.ACL_STATUS Fld.ACL_STATUS_BUSY = false ∧ RegsBut [Reg.ACL_STATUS] s t ∧
      { t with acl := s.acl, regs := s.regs } = s ∧
      (s.bankFld b Fld.ACL_BANK_CFG_EN = 1 → Fld.ACL_WR_CMD_UNIT.get v % s.bankWidth b = 0 → (s.aclRow a).held = false → s.acl.staged.length < 4096 →
        t.acl = { s.acl with staged := s.acl.staged ++
          [(a, some ⟨s.regWords Reg.ACL_WR_KEY 10, s.regWords Reg.ACL_WR_MASK 10, s.reg64 Reg.ACL_WR_ACT_LO, false, false⟩)] } ∧
        t.fld Reg.ACL_STATUS Fld.ACL_STATUS_ERR = 0) ∧
      (s.bankFld b Fld.ACL_BANK_CFG_EN = 0 → t.acl = s.acl ∧ t.fld Reg.ACL_STATUS Fld.ACL_STATUS_ERR = 5) ∧
      (s.bankFld b Fld.ACL_BANK_CFG_EN = 1 → Fld.ACL_WR_CMD_UNIT.get v % s.bankWidth b = 0 → (s.aclRow a).held = true →
        t.acl = s.acl ∧ t.fld Reg.ACL_STATUS Fld.ACL_STATUS_ERR = 1)) ∧
  (∀ (s : State) (v : BitVec 32) (b a : Nat), s.fdieUp = true → s.flag Reg.ACL_STATUS Fld.ACL_STATUS_BUSY = false → s.acl.phase = .idle →
      b = Fld.ACL_WR_CMD_BANK.get v → a = b * 4096 + Fld.ACL_WR_CMD_UNIT.get v → s.bankFld b Fld.ACL_BANK_CFG_EN = 1 →
      Fld.ACL_WR_CMD_UNIT.get v % s.bankWidth b = 0 →
    Completes (.aclDelete v) s (fun t => RegsBut [Reg.ACL_STATUS] s t ∧ { t with acl := s.acl, regs := s.regs } = s ∧
      ((s.aclRow a).held = true → s.acl.staged.length < 4096 →
        t.acl = { s.acl with staged := s.acl.staged ++ [(a, none)] } ∧ t.fld Reg.ACL_STATUS Fld.ACL_STATUS_ERR = 0) ∧
      ((s.aclRow a).held = false → t.acl = s.acl ∧ t.fld Reg.ACL_STATUS Fld.ACL_STATUS_ERR = 2)) ∧
    Completes (.aclRefresh v) s (fun t => RegsBut [Reg.ACL_STATUS] s t ∧ { t with acl := s.acl, regs := s.regs } = s ∧
      ((s.aclRow a).held = true → t.aclValid (Fld.ACL_WR_CMD_SLICE.get v) a = true ∧ t.acl.rows = s.acl.rows ∧ t.acl.staged = s.acl.staged ∧
        t.fld Reg.ACL_STATUS Fld.ACL_STATUS_ERR = 0) ∧
      ((s.aclRow a).held = false → t.acl = s.acl ∧ t.fld Reg.ACL_STATUS Fld.ACL_STATUS_ERR = 2))) ∧
  (∀ (s : State) (v : BitVec 32), s.fdieUp = true → s.flag Reg.ACL_STATUS Fld.ACL_STATUS_BUSY = true →
    exec (.aclWrite v) s = .next s ∧ exec (.aclDelete v) s = .next s ∧ exec (.aclRefresh v) s = .next s) ∧
  (∀ (s : State) (v : BitVec 32), s.fdieUp = true → s.flag Reg.ACL_STATUS Fld.ACL_STATUS_BUSY = false → s.acl.phase ≠ .idle →
    Completes (.aclWrite v) s fun t => t.flag Reg.ACL_STATUS Fld.ACL_STATUS_BUSY = true ∧ t.acl.cmd.isSome = true ∧
      { t.acl with cmd := s.acl.cmd } = s.acl) ∧
  (∀ s : State, s.acl.phase = .closed → s.prevLive = false → (s.acl.batch.map (·.1)).Nodup →
    Completes .aclBatchApply s fun t => t.acl.phase = .applied ∧ { t with acl := s.acl } = s ∧
      (∀ a r, (a, some r) ∈ s.acl.batch → t.aclRow a = r.setPlane s.nextEpoch true ∧ ∀ i, i < 16 → t.aclValid i a = true) ∧
      (∀ a, (a, none) ∈ s.acl.batch → t.aclRow a = (s.aclRow a).setPlane s.nextEpoch false) ∧
      (∀ a, a ∉ s.acl.batch.map (·.1) → t.aclRow a = s.aclRow a)) ∧
  (∀ s : State, s.acl.phase ≠ .closed ∨ s.prevLive = true → exec .aclBatchApply s = .next s) ∧
  (∀ s : State, s.acl.phase = .published → s.prevLive = false → s.acl.cmd = none → (s.acl.batch.map (·.1)).Nodup →
    Completes .aclPlaneCopy s fun t => t.acl.phase = .idle ∧ t.acl.batch = [] ∧ { t with acl := s.acl } = s ∧
      (∀ a, a ∈ s.acl.batch.map (·.1) → t.aclRow a = if (s.aclRow a).plane s.epoch then (s.aclRow a).setPlane (s.epoch + 1) true else .free) ∧
      (∀ a, a ∉ s.acl.batch.map (·.1) → t.aclRow a = s.aclRow a)) ∧
  (∀ (s : State) (b : Fin 8) (v : BitVec 32), s.fdieUp = true → Fld.ACL_BANK_CFG_WIDTH.get v = layoutWidth (Fld.ACL_BANK_CFG_LAYOUT.get v) →
      Fld.ACL_BANK_CFG_TAG_OFFSET.get v ≤ 80 * 2 ^ Fld.ACL_BANK_CFG_WIDTH.get v - 6 →
    Completes (.aclBankCfgWrite (.bank b) v) s fun t =>
      (s.bankHolds b.val = false → t.reg (Reg.ACL_BANK_CFG b.val) = v &&& 0xFFFF0000 ∧ OnlyRegs [Reg.ACL_BANK_CFG b.val] s t) ∧
      (s.bankHolds b.val = true → Fld.ACL_BANK_CFG_LAYOUT.get v ≠ s.bankFld b.val Fld.ACL_BANK_CFG_LAYOUT →
        t.fld Reg.ACL_STATUS Fld.ACL_STATUS_ERR = 7 ∧ OnlyRegs [Reg.ACL_STATUS] s t)) ∧
  (∀ (s : State) (b : Fin 8) (w : Fin 32) (v : BitVec 32), s.fdieUp = true → s.groupHolds b.val (2 * w.val) = false →
      s.groupHolds b.val (2 * w.val + 1) = false →
    Completes (.aclBankCfgWrite (.tags b w) v) s fun t => t.reg (Reg.ACL_GROUP_TAG b.val w.val) = v &&& 0x0FFF0FFF ∧
      OnlyRegs [Reg.ACL_GROUP_TAG b.val w.val] s t) ∧
  (∀ (s : State) (i : Fin 16) (a : BitVec 15), (s.aclRow a.toNat).held = true → s.aclValid i.val a.toNat = true →
    Completes (.aclScrub i a true) s (fun t => t.aclValid i.val a.toNat = false ∧ t.acl.rows = s.acl.rows ∧ Counted (Ctr.ACL_SCRUB_ERR i.val) 1 s t) ∧
    exec (.aclScrub i a false) s = .next s)

/-- PAT_INSPECT_START of a committed packet that its ACL outcome selects, with its set enabled, takes the lowest free context of its lane, waits in the lane's queue of 8, or counts PAT_SKIP. PAT_SEARCH of a context with a stride of four bytes present takes the lowest valid matching row of its banks within the group of its state, goes to that row's next state and four bytes on; without such a row it goes to the start state and counts PAT_NO_TRANSITION. A match ends the inspection and frees the context; a search without its bytes changes nothing. PAT_VERDICT_WRITE of an ended inspection whose tail is good, 4 cycles after the result, writes the flow's verdict for VERDICT_LIFE. PAT_VERDICT_EXPIRE frees a verdict whose window has closed and counts it; PAT_VERDICT_FLUSH leaves none. PAT_WRITE of a legal entry stores it valid; PAT_DELETE frees a used row; PAT_REFRESH makes it valid again; on a free row both end with NOT_FOUND. PAT_SET_CFG_WRITE with 1 to 32 banks that end by bank 31 takes effect, others change nothing. -/
def Obligations.PatternEngine : Prop :=
  (∀ (s : State) (i : Fin 16) (p : BitVec 32) (k : IPkt) (set : Nat), s.pkt p.toNat = some k → k.acl.inspect = some set → k.slice = i.val →
      (k.stage = .committed ∨ k.stage = .handed) → k.aclDone = false → k.ps.horizon = false → s.flag Reg.PAT_CFG Fld.PAT_CFG_EN = true →
      s.flag (Reg.PAT_SET_CFG set) Fld.PAT_SET_CFG_EN = true →
    Completes (.patInspectStart i p) s fun t => t.pkt p.toNat = some { k with aclDone := true } ∧
      (∀ c, (List.range 8).find? (fun c => (s.patCtx i.val c).isNone) = some c →
        (∃ x, t.patCtx i.val c = some x ∧ x.pkt = p.toNat ∧ x.set = set ∧ x.started = false ∧ x.pos = 0 ∧ x.data = k.bytes.drop k.ps.off) ∧
        Counted Ctr.PAT_INSPECT 1 s t) ∧
      ((∀ c, c < 8 → (s.patCtx i.val c).isSome = true) → (s.patQueue i.val).length < 8 →
        ∃ x, t.patQueue i.val = s.patQueue i.val ++ [x] ∧ x.pkt = p.toNat) ∧
      ((∀ c, c < 8 → (s.patCtx i.val c).isSome = true) → 8 ≤ (s.patQueue i.val).length → t.pat = s.pat ∧ Counted Ctr.PAT_SKIP 1 s t)) ∧
  (∀ (s : State) (i : Fin 16) (c : Fin 8) (x : PatCtx) (key : Nat), s.patCtx i.val c.val = some x → x.started = true →
      x.pos + 4 < min x.data.length 4096 →
      key = x.st * 2 ^ 32 + s.patClass x.set (x.data.getD x.pos 0).toNat * 2 ^ 24 + s.patClass x.set (x.data.getD (x.pos + 1) 0).toNat * 2 ^ 16 +
        s.patClass x.set (x.data.getD (x.pos + 2) 0).toNat * 2 ^ 8 + s.patClass x.set (x.data.getD (x.pos + 3) 0).toNat →
    Completes (.patSearch i c none) s fun t =>
      (s.patLookup x key = none → t.patCtx i.val c.val = some { x with st := x.start, pos := x.pos + 4 } ∧ Counted Ctr.PAT_NO_TRANSITION 1 s t) ∧
      (∀ r, s.patLookup x key = some r → r.res.testBit 29 = false →
        t.patCtx i.val c.val = some { x with st := r.res >>> 30 % 2 ^ 18, pos := x.pos + 4 } ∧ { t with pat := s.pat } = s) ∧
      (∀ r, s.patLookup x key = some r → r.res.testBit 29 = true → s.patQueue i.val = [] → x.tail = none →
        t.patCtx i.val c.val = none ∧ t.pat.ended = s.pat.ended ++
          [{ x with pos := x.pos + 4, hit := some (r.res >>> 25 % 4, r.res >>> 15 % 1024), at_ := s.time.cycles }] ∧ Counted Ctr.PAT_MATCH 1 s t)) ∧
  (∀ (s : State) (i : Fin 16) (c : Fin 8) (x : PatCtx), s.patCtx i.val c.val = some x → x.whole = false → x.data.length < 4096 →
      x.data.length < x.pos + 4 → exec (.patSearch i c none) s = .next s) ∧
  (∀ (s : State) (p : BitVec 32) (x : PatCtx) (action rule : Nat), s.pat.ended.find? (fun y => y.pkt == p.toNat) = some x →
      x.hit = some (action, rule) → x.tail = some true → x.at_ + 4 ≤ s.time.cycles → 0 < s.verdictLife →
    Completes (.patVerdictWrite p) s fun t => t.verdict x.flow = some ⟨x.flow, action == 1, rule, s.mono + s.verdictLife⟩ ∧
      t.pat.ended = s.pat.ended.filter (fun y => y.pkt ≠ p.toNat)) ∧
  (∀ (s : State) (f : BitVec 32) (v : Verdict), v ∈ s.pat.verdicts → v.flow = f.toNat → v.close ≤ s.mono →
    Completes (.patVerdictExpire f) s fun t => (∀ w ∈ t.pat.verdicts, w.flow ≠ f.toNat) ∧ Counted Ctr.PAT_VERDICT_EXPIRE 1 s t ∧
      RegsBut Ctr.PAT_VERDICT_EXPIRE.regs s t ∧ { t with pat := s.pat, regs := s.regs, pmcIn := s.pmcIn } = s) ∧
  (∀ s : State, s.fdieUp = true → Completes .patVerdictFlush s fun t => t.pat.verdicts = [] ∧ { t with pat := s.pat } = s ∧
      { t.pat with verdicts := s.pat.verdicts } = s.pat) ∧
  (∀ (s : State) (v : BitVec 32) (a : Nat), s.fdieUp = true → a = Fld.PAT_WR_CMD_BANK.get v * 4096 + Fld.PAT_WR_CMD_ROW.get v →
    Completes (.patWrite v) s (fun t =>
      (s.regWords Reg.PAT_WR_KEY 3 % 2 ^ 80 < 2 ^ 50 → s.reg64 Reg.PAT_WR_RES_LO >>> 25 % 4 ≠ 3 → s.reg64 Reg.PAT_WR_RES_LO % 2 ^ 15 = 0 →
        t.patRow a = ⟨true, true, s.regWords Reg.PAT_WR_KEY 3 % 2 ^ 80, s.regWords Reg.PAT_WR_MASK 3 % 2 ^ 80, s.reg64 Reg.PAT_WR_RES_LO % 2 ^ 48⟩ ∧
        (∀ b, b ≠ a → t.patRow b = s.patRow b) ∧ t.fld Reg.PAT_WR_STATUS Fld.PAT_WR_STATUS_ERR = 0) ∧
      (s.reg64 Reg.PAT_WR_RES_LO >>> 25 % 4 = 3 → t.pat = s.pat ∧ t.fld Reg.PAT_WR_STATUS Fld.PAT_WR_STATUS_ERR = 6)) ∧
    Completes (.patDelete v) s (fun t =>
      ((s.patRow a).used = true → t.patRow a = .free ∧ (∀ b, b ≠ a → t.patRow b = s.patRow b) ∧ t.fld Reg.PAT_WR_STATUS Fld.PAT_WR_STATUS_ERR = 0) ∧
      ((s.patRow a).used = false → t.pat = s.pat ∧ t.fld Reg.PAT_WR_STATUS Fld.PAT_WR_STATUS_ERR = 2)) ∧
    Completes (.patRefresh v) s (fun t =>
      ((s.patRow a).used = true → t.patRow a = { s.patRow a with valid := true } ∧ (∀ b, b ≠ a → t.patRow b = s.patRow b) ∧
        t.fld Reg.PAT_WR_STATUS Fld.PAT_WR_STATUS_ERR = 0) ∧
      ((s.patRow a).used = false → t.pat = s.pat ∧ t.fld Reg.PAT_WR_STATUS Fld.PAT_WR_STATUS_ERR = 2))) ∧
  (∀ (s : State) (i : Fin 8) (v : BitVec 32), s.fdieUp = true →
    Completes (.patSetCfgWrite i v) s fun t =>
      (1 ≤ Fld.PAT_SET_CFG_BANK_COUNT.get v → Fld.PAT_SET_CFG_FIRST_BANK.get v + Fld.PAT_SET_CFG_BANK_COUNT.get v ≤ 32 →
        t.reg (Reg.PAT_SET_CFG i.val) = v &&& 0xFFF3FFFF ∧ RegsBut [Reg.PAT_SET_CFG i.val] s t ∧ t.pat.rows = s.pat.rows ∧ t.pat.ctxs = s.pat.ctxs) ∧
      ((Fld.PAT_SET_CFG_BANK_COUNT.get v = 0 ∨ 32 < Fld.PAT_SET_CFG_FIRST_BANK.get v + Fld.PAT_SET_CFG_BANK_COUNT.get v) → t = s))

/-- FABRIC_CELL_TX of a one-cell unicast copy, on an open lane that reaches its device and with credit, sends the cell with the stream's SEQ and PSEQ, uses one credit, counts FAB_TX_CELLS and ends the copy; without credit it changes nothing; a copy for an unreachable device is discarded and counted. FABRIC_CELL_RX discards and counts an uncorrectable codeword, a wrong HEC, a reserved TYPE, another device's cell, a cell of a source that has not completed R251 and a late cell; it holds a cell that is ahead, and releases the expected one. REORDER_TIMEOUT declares the cells before the lowest held one missing, counts them and releases the held cell. DEMAND of a known incarnation stores BACKLOG and RETURNED of the eight classes; a first one restarts the streams and, with ECHO equal to the device's incarnation, sets the expected SEQ. GRANT of the known incarnation stores GRANTED where ECHO is the device's incarnation. GRANT_ROUND grants nothing while the lease is over, grants a lone stream of weight 1 at most QUANTUM cells, its backlog and the room below CAP, and never carries the outstanding sum above CAP. CREDIT_MESSAGE_REFRESH, when due, leaves the totals as they are. CREDIT_RETURN after HOLD without backlog returns all unspent credit. -/
def Obligations.FabricCells : Prop :=
  (∀ (s : State) (i : Fin 16) (dd : BitVec 11) (n : Fin 192) (c : TCopy) (q : Nat) (g : Bool), s.fabOn = true → s.linkUsable = true →
      s.transitOf i.val = [c] → (∀ k, s.pkt c.pkt = some k → k.left = true) → c.dest = .uni dd.toNat q → c.prog = none → c.tail = some g →
      c.data.length ≤ 240 → s.laneOpen n.val = true → (s.reach dd.toNat).testBit (n.val / 24) = true → (s.srcS dd.toNat (q % 8)).credit ≠ 0 →
      (s.srcS dd.toNat (q % 8)).ctxs = [] →
    Completes (.fabricCellTx i 0 dd n) s fun t =>
      t.transitOf i.val = [] ∧ Counted Ctr.FAB_TX_CELLS 1 s t ∧
      t.srcS dd.toNat (q % 8) = { s.srcS dd.toNat (q % 8) with
        sent := ((s.srcS dd.toNat (q % 8)).sent + 1) % 2 ^ 32, seq := ((s.srcS dd.toNat (q % 8)).seq + 1) % 2 ^ 24, busy := s.mono,
        pseq := ((s.srcS dd.toNat (q % 8)).pseq + 1) % 2 ^ 16 } ∧
      (∃ rest, t.out = s.out ++ Output.cell n.val (cellHdr 1 s.devId dd.toNat (q % 8) (q / 8 * 16) (s.srcS dd.toNat (q % 8)).seq 0 3
        (!g).toNat (16 + c.data.length - 1) (s.srcS dd.toNat (q % 8)).pseq) (some c.ith) c.data :: rest) ∧
      { t with fab := s.fab, ing := s.ing, led := s.led, out := s.out, regs := s.regs, pmcIn := s.pmcIn } = s ∧
      RegsBut Ctr.FAB_TX_CELLS.regs s t) ∧
  (∀ (s : State) (i : Fin 16) (dd : BitVec 11) (n : Fin 192) (c : TCopy) (x : TProg), s.fabOn = true → s.linkUsable = true →
      s.transitOf i.val = [c] → (∀ k, s.pkt c.pkt = some k → k.left = true) → c.prog = some [x] → x.dev = dd.toNat →
    Completes (.fabricCellTx i 0 dd n) s fun t =>
      (s.reachable dd.toNat = true → (s.srcS dd.toNat c.cls).credit = 0 → t = s) ∧
      (s.reachable dd.toNat = false → t.transitOf i.val = [] ∧ Counted Ctr.FAB_TX_UNREACH_DROP 1 s t ∧ t.fab = s.fab ∧
        RegsBut Ctr.FAB_TX_UNREACH_DROP.regs s t)) ∧
  (∀ (s : State) (b : Fin 8) (l : Fin 24) (corr : BitVec 10) (unc : Bool) (h : BitVec 128) (ith : Ith) (p : List Byte), s.fabOn = true →
      (s.lane (laneNo b.val l.val)).rx = lnActive → corr.toNat = 0 →
    Completes (.fabricCellRx b l corr unc h ith p) s fun t =>
      (unc = true → Counted (Ctr.FAB_FEC_UNCORR b.val) 1 s t ∧ t.fab.src = s.fab.src ∧ t.fab.dst = s.fab.dst ∧
        { t with fab := s.fab, regs := s.regs, pmcIn := s.pmcIn } = s) ∧
      (unc = false → hdrHec h ≠ hBits h 15 0 →
        Counted (Ctr.FAB_HEC_ERR b.val) 1 s t ∧ { t with regs := s.regs, pmcIn := s.pmcIn } = s) ∧
      (unc = false → hdrHec h = hBits h 15 0 → 5 ≤ hBits h 127 124 →
        Counted Ctr.FAB_RX_TYPE_DROP 1 s t ∧ { t with regs := s.regs, pmcIn := s.pmcIn } = s) ∧
      (unc = false → hdrHec h = hBits h 15 0 → 1 ≤ hBits h 127 124 → hBits h 127 124 ≤ 4 → hBits h 112 102 ≠ s.devId →
        Counted Ctr.FAB_RX_MISROUTE 1 s t ∧ { t with regs := s.regs, pmcIn := s.pmcIn } = s) ∧
      (unc = false → hdrHec h = hBits h 15 0 → 1 ≤ hBits h 127 124 → hBits h 127 124 ≤ 2 → hBits h 112 102 = s.devId →
        (KMap.get 0 s.fab.synced (hBits h 123 113) ≠ 1 → Counted Ctr.FAB_RX_STALE 1 s t ∧ { t with regs := s.regs, pmcIn := s.pmcIn } = s) ∧
        (KMap.get 0 s.fab.synced (hBits h 123 113) = 1 →
          2 ^ 23 ≤ (hBits h 78 55 + 2 ^ 24 - (s.dstS (hBits h 123 113) (hBits h 101 99)).exp) % 2 ^ 24 →
          Counted Ctr.FAB_RX_LATE 1 s t ∧ { t with regs := s.regs, pmcIn := s.pmcIn } = s) ∧
        (KMap.get 0 s.fab.synced (hBits h 123 113) = 1 → (s.dstS (hBits h 123 113) (hBits h 101 99)).held = [] →
          0 < (hBits h 78 55 + 2 ^ 24 - (s.dstS (hBits h 123 113) (hBits h 101 99)).exp) % 2 ^ 24 →
          (hBits h 78 55 + 2 ^ 24 - (s.dstS (hBits h 123 113) (hBits h 101 99)).exp) % 2 ^ 24 < 2 ^ 23 →
          (∃ c : RxCell, c.seq = hBits h 78 55 ∧ c.ctx = hBits h 54 45 ∧
            (t.dstS (hBits h 123 113) (hBits h 101 99)).held = [(c, s.mono)]) ∧ { t with fab := s.fab } = s) ∧
        (KMap.get 0 s.fab.synced (hBits h 123 113) = 1 → (s.dstS (hBits h 123 113) (hBits h 101 99)).held = [] →
          hBits h 78 55 = (s.dstS (hBits h 123 113) (hBits h 101 99)).exp →
          (t.dstS (hBits h 123 113) (hBits h 101 99)).exp = (hBits h 78 55 + 1) % 2 ^ 24 ∧
          (t.dstS (hBits h 123 113) (hBits h 101 99)).received = ((s.dstS (hBits h 123 113) (hBits h 101 99)).received + 1) % 2 ^ 32 ∧
          t.fab.src = s.fab.src))) ∧
  (∀ (s : State) (d : BitVec 11) (k : Fin 8) (c : RxCell) (a : Nat), s.fabOn = true → (s.dstS d.toNat k.val).held = [(c, a)] → c.cls = k.val →
      c.seq < 2 ^ 24 → (s.dstS d.toNat k.val).exp < 2 ^ 24 → (s.dstS d.toNat k.val).opened = [] →
    Completes (.reorderTimeout d k) s fun t =>
      (s.mono < a + s.reorderSpan → t = s) ∧
      (a + s.reorderSpan ≤ s.mono → (t.dstS d.toNat k.val).held = [] ∧ (t.dstS d.toNat k.val).exp = (c.seq + 1) % 2 ^ 24 ∧
        (t.dstS d.toNat k.val).missing = ((s.dstS d.toNat k.val).missing + (c.seq + 2 ^ 24 - (s.dstS d.toNat k.val).exp) % 2 ^ 24) % 2 ^ 32)) ∧
  (∀ (s : State) (b : Fin 8) (h : BitVec 128) (p : List Byte), s.fabOn = true → hBits h 127 124 = 3 → hdrHec h = hBits h 15 0 →
      hBits h 112 102 = s.devId → (∀ b, (s.bund b).rxDown = none) →
    Completes (.demand b h p) s fun t =>
      (KMap.get 0 s.fab.incIn (hBits h 123 113) = beAt p 0 2 → KMap.get 0 s.fab.synced (hBits h 123 113) = 1 →
        (∀ c, c < 8 → t.dstS (hBits h 123 113) c = { s.dstS (hBits h 123 113) c with
          backlog := beAt p (8 + 12 * c) 2, returned := beAt p (10 + 12 * c) 4 }) ∧ { t with fab := { t.fab with dst := s.fab.dst } } = s) ∧
      (KMap.get 0 s.fab.incIn (hBits h 123 113) = 0 → beAt p 0 2 ≠ 0 → (∀ c, c < 8 → (s.dstS (hBits h 123 113) c).opened = []) →
        beAt p 2 2 = s.incarnation →
        (∀ c, c < 8 → t.dstS (hBits h 123 113) c = { DstStream.init with
          backlog := beAt p (8 + 12 * c) 2, returned := beAt p (10 + 12 * c) 4, exp := beAt p (14 + 12 * c) 3 }) ∧
        KMap.get 0 t.fab.synced (hBits h 123 113) = 1 ∧ KMap.get 0 t.fab.incIn (hBits h 123 113) = beAt p 0 2 ∧ { t with fab := s.fab } = s)) ∧
  (∀ (s : State) (b : Fin 8) (h : BitVec 128) (p : List Byte), s.fabOn = true → hBits h 127 124 = 4 → hdrHec h = hBits h 15 0 →
      hBits h 112 102 = s.devId → KMap.get 0 s.fab.incOut (hBits h 123 113) = beAt p 0 2 →
    Completes (.grant b h p) s fun t =>
      (beAt p 2 2 = s.incarnation → (∀ c, c < 8 → t.srcS (hBits h 123 113) c = { s.srcS (hBits h 123 113) c with granted := beAt p (8 + 4 * c) 4 }) ∧
        { t with fab := { t.fab with src := s.fab.src } } = s) ∧
      (beAt p 2 2 ≠ s.incarnation → t = s)) ∧
  (∀ s : State, s.fabOn = true →
    Completes .grantRound s fun t =>
      (s.leaseOver = true → t = s) ∧
      (s.leaseOver = false → s.fab.dst.wf (fun _ => .init) = true → s.outstanding ≤ s.cap → t.outstanding ≤ s.cap ∧ t.cap = s.cap) ∧
      (∀ (d c : Nat) (x : DstStream), c < 8 → s.leaseOver = false → s.fab.dst.l = [(strm d c, x)] → s.classW c = 1 → x.outstanding < x.backlog →
        x.granted + min (min (max 1 (s.fld Reg.FAB_FLOW_CFG Fld.FAB_FLOW_CFG_QUANTUM)) (x.backlog - x.outstanding)) (s.cap - x.outstanding) < 2 ^ 32 →
        (t.dstS d c).granted = x.granted +
          min (min (max 1 (s.fld Reg.FAB_FLOW_CFG Fld.FAB_FLOW_CFG_QUANTUM)) (x.backlog - x.outstanding)) (s.cap - x.outstanding)) ∧
      { t with fab := s.fab, out := s.out } = s) ∧
  (∀ s : State, s.fabOn = true →
    Completes .creditMessageRefresh s fun t =>
      (s.mono < s.fab.refresh → t = s) ∧
      (s.fab.refresh ≤ s.mono → t.fab = { s.fab with refresh := s.mono + spanExp 16 } ∧ { t with fab := s.fab, out := s.out } = s)) ∧
  (∀ (s : State) (d : BitVec 11) (c : Fin 8), s.fabOn = true → s.backlog d.toNat c.val = 0 → (s.srcS d.toNat c.val).credit ≠ 0 →
    Completes (.creditReturn d c) s fun t =>
      ((s.srcS d.toNat c.val).busy + expSpan (s.fld Reg.FAB_FLOW_CFG Fld.FAB_FLOW_CFG_HOLD) ≤ s.mono →
        t.srcS d.toNat c.val = { s.srcS d.toNat c.val with
          returned := ((s.srcS d.toNat c.val).returned + (s.srcS d.toNat c.val).credit) % 2 ^ 32 } ∧
        (t.srcS d.toNat c.val).credit = 0 ∧ { t with fab := { t.fab with src := s.fab.src }, out := s.out } = s) ∧
      (s.mono < (s.srcS d.toNat c.val).busy + expSpan (s.fld Reg.FAB_FLOW_CFG Fld.FAB_FLOW_CFG_HOLD) → t = s))

/-- LANE_CDR_LOCK takes a lane from SIGNAL to CW_LOCK and no other lane. ALIGN stores what the peer says; the fourth in a row takes the lane from CW_LOCK to PEER; on a lane in PEER it is answered with READY where R257 holds and otherwise sets MISMATCH. The third READY in a row takes a lane in PEER, for which R257 holds, to ACTIVE. FAB_LANE_FAIL of an active lane that lost its lock, outside any shift, goes FAILED, counts and wakes every quiet pair of the bundle; without a lost lock and with at most 64 uncorrectable codewords it changes nothing. LANE_RETRAIN takes a failed lane to SIGNAL 2^-4 s after its failure and not before. FAB_BUNDLE_CFG_WRITE stores the register; with the interface running, enabled lanes that are DOWN go to SIGNAL and disabled lanes go DOWN. FAB_DEV_CFG_WRITE sets EN; the device ID is written only while EN is clear, and INCARNATION never. FAB_CW_UNKNOWN counts a reserved control word and nothing else. QUIET_BURST of a quiet lane whose burst is due sends four ALIGN words. -/
def Obligations.FabricLanes : Prop :=
  (∀ (s : State) (b : Fin 8) (l : Fin 24), s.fabOn = true →
    Completes (.laneCdrLock b l) s fun t =>
      ((s.lane (laneNo b.val l.val)).st = lnSignal → (t.lane (laneNo b.val l.val)).st = lnCwLock ∧
        (∀ m, m ≠ laneNo b.val l.val → t.lane m = s.lane m)) ∧
      ((s.lane (laneNo b.val l.val)).st ≠ lnSignal → t = s)) ∧
  (∀ (s : State) (b : Fin 8) (l : Fin 24) (dev : BitVec 11) (pb pl ver : BitVec 8) (cap : Bool), s.fabOn = true →
    Completes (.align b l dev pb pl ver cap) s fun t =>
      ((s.lane (laneNo b.val l.val)).st = lnCwLock → (s.lane (laneNo b.val l.val)).aligns < 3 →
        t.lane (laneNo b.val l.val) = { s.lane (laneNo b.val l.val) with
          dev := dev.toNat, bundle := pb.toNat, lane := pl.toNat,
          ver := ver.toNat, seen := true, aligns := (s.lane (laneNo b.val l.val)).aligns + 1 } ∧ { t with fab := s.fab } = s) ∧
      ((s.lane (laneNo b.val l.val)).st = lnCwLock → 3 ≤ (s.lane (laneNo b.val l.val)).aligns →
        (t.lane (laneNo b.val l.val)).st = lnPeer) ∧
      ((s.lane (laneNo b.val l.val)).st = lnPeer → ver.toNat = 1 → pl.toNat = l.val → dev.toNat ≠ s.devId →
        (∀ m ∈ bundleLanes b.val, m ≠ laneNo b.val l.val → (s.lane m).st < lnPeer ∨ (s.lane m).st = lnFailed) →
        (t.lane (laneNo b.val l.val)).st = lnPeer ∧ t.out = s.out ++ [.ctrlWord (laneNo b.val l.val) (beBytes 1 2 ++ beBytes 1 l.val ++ zeros 30)]) ∧
      ((s.lane (laneNo b.val l.val)).st = lnPeer → (ver.toNat ≠ 1 ∨ pl.toNat ≠ l.val ∨ dev.toNat = s.devId) →
        (t.lane (laneNo b.val l.val)).st = lnPeer ∧ t.flag (Reg.FAB_BUNDLE_STATUS b.val) Fld.FAB_BUNDLE_STATUS_MISMATCH = true)) ∧
  (∀ (s : State) (b : Fin 8) (l : Fin 24), s.fabOn = true → (s.lane (laneNo b.val l.val)).st = lnPeer → s.peerOk b.val l.val = true →
    Completes (.ready b l l) s fun t =>
      ((s.lane (laneNo b.val l.val)).readies < 2 →
        t.lane (laneNo b.val l.val) = { s.lane (laneNo b.val l.val) with readies := (s.lane (laneNo b.val l.val)).readies + 1 } ∧
        { t with fab := s.fab } = s) ∧
      (2 ≤ (s.lane (laneNo b.val l.val)).readies → (t.lane (laneNo b.val l.val)).st = lnActive ∧ (t.lane (laneNo b.val l.val)).rx = lnActive ∧
        (∀ m, m ≠ laneNo b.val l.val → t.lane m = s.lane m))) ∧
  (∀ (s : State) (b : Fin 8) (l : Fin 24), s.fabOn = true → (s.lane (laneNo b.val l.val)).st = lnActive → (s.bund b.val).down = none →
      (s.bund b.val).rxDown = none →
    Completes (.fabLaneFail b l true) s fun t =>
      (t.lane (laneNo b.val l.val)).st = lnFailed ∧ (t.lane (laneNo b.val l.val)).failAt = s.mono ∧
      Counted (Ctr.FAB_LANE_FAIL b.val) 1 s t ∧
      (∀ p, p < 12 → s.pairIs b.val p lnQuiet = true → t.pairIs b.val p lnWaking = true)) ∧
  (∀ (s : State) (b : Fin 8) (l : Fin 24), (s.lane (laneNo b.val l.val)).unc ≤ 64 → Completes (.fabLaneFail b l false) s fun t => t = s) ∧
  (∀ (s : State) (b : Fin 8) (l : Fin 24), s.fabOn = true → (s.lane (laneNo b.val l.val)).st = lnFailed →
    Completes (.laneRetrain b l) s fun t =>
      ((s.lane (laneNo b.val l.val)).failAt + spanExp 4 ≤ s.mono → (t.lane (laneNo b.val l.val)).st = lnSignal ∧
        (∀ m, m ≠ laneNo b.val l.val → t.lane m = s.lane m)) ∧
      (s.mono < (s.lane (laneNo b.val l.val)).failAt + spanExp 4 → t = s)) ∧
  (∀ (s : State) (b : Fin 8) (v : BitVec 32), s.fabOn = true → s.linkQuiesced = false →
    Completes (.fabBundleCfgWrite b v) s fun t =>
      t.reg (Reg.FAB_BUNDLE_CFG b.val) = v &&& 0x80FFFFFF ∧
      (∀ l, l < 24 → v.toNat.testBit 31 = true → v.toNat.testBit l = true → (s.lane (laneNo b.val l)).st = lnDown →
        (t.lane (laneNo b.val l)).st = lnSignal) ∧
      (∀ l, l < 24 → v.toNat.testBit 31 = true → v.toNat.testBit l = true → (s.lane (laneNo b.val l)).st ≠ lnDown →
        t.lane (laneNo b.val l) = s.lane (laneNo b.val l)) ∧
      (∀ l, l < 24 → (v.toNat.testBit 31 && v.toNat.testBit l) = false → (t.lane (laneNo b.val l)).st = lnDown) ∧
      (∀ m, m / 24 ≠ b.val → t.lane m = s.lane m)) ∧
  (∀ (s : State) (v : BitVec 32), s.tdieUp = true → s.linkQuiesced = false →
    Completes (.fabDevCfgWrite v) s fun t =>
      t.fabEn = v.toNat.testBit 31 ∧ t.incarnation = s.incarnation ∧
      (s.fabEn = true → t.devId = s.devId) ∧ (s.fabEn = false → t.devId = Fld.FAB_DEV_CFG_DEVICE_ID.get v) ∧ OnlyRegs [Reg.FAB_DEV_CFG] s t) ∧
  (∀ (s : State) (b : Fin 8) (ty : BitVec 8), s.fabOn = true →
    Completes (.fabCwUnknown b ty) s fun t =>
      (8 ≤ ty.toNat → Counted (Ctr.FAB_CW_UNKNOWN b.val) 1 s t ∧ RegsBut (Ctr.FAB_CW_UNKNOWN b.val).regs s t ∧
        { t with regs := s.regs, pmcIn := s.pmcIn } = s) ∧
      (ty.toNat < 8 → t = s)) ∧
  (∀ (s : State) (b : Fin 8) (l : Fin 24), s.fabOn = true → (s.lane (laneNo b.val l.val)).st = lnQuiet →
    Completes (.quietBurst b l) s fun t =>
      ((s.lane (laneNo b.val l.val)).burst ≤ s.mono →
        t.lane (laneNo b.val l.val) = { s.lane (laneNo b.val l.val) with burst := s.mono + spanExp 18 } ∧
        (∀ m, m ≠ laneNo b.val l.val → t.lane m = s.lane m) ∧
        t.out = s.out ++ List.replicate 4 (Output.ctrlWord (laneNo b.val l.val)
          (beBytes 1 1 ++ beBytes 2 s.devId ++ beBytes 1 b.val ++ beBytes 1 l.val ++ beBytes 1 5 ++ beBytes 1 1 ++
            beBytes 1 (s.flag Reg.FAB_DER_CFG Fld.FAB_DER_CFG_EN).toNat ++ zeros 24)) ∧
        { t with fab := s.fab, out := s.out } = s) ∧
      (s.mono < (s.lane (laneNo b.val l.val)).burst → t = s))

/-- SHIFT_REQ DOWN with a new number is acknowledged when the outstanding credit fits the CAP less 512, and a repeat of an answered number gets its answer again and changes nothing; SHIFT_REQ UP wakes the quiet pair. SHIFT_ACK of the pending shed marks it acknowledged; SHIFT_NAK ends it and counts. SHIFT_DONE_SEND on a lane of an acknowledged shed sends SHIFT_DONE and makes the lane QUIET; with the second lane the shed ends and counts. SHIFT_DONE marks the receive lane QUIET. SHED_ACK_TIMEOUT refuses a shed not acknowledged within 2^-16 s, and not before. SHIFT_REQ_RESEND sends an unanswered request again after 2^-20 s, and abandons it after four times. DERAILLEUR_WINDOW at the window's end wakes every quiet pair at 95 percent and the lowest at HIGH; it changes nothing before the end. LANE_WAIT_RESTORE wakes every quiet pair. CAP_LIMITED_WINDOW asks back the lowest quiet receive pair after a whole window of limited grants. -/
def Obligations.Derailleur : Prop :=
  (∀ (s : State) (b : Fin 8) (p : Fin 12) (num : BitVec 8), s.fabOn = true →
    Completes (.shiftReq b false p num) s fun t =>
      ((s.bund b.val).ans = none → (s.bund b.val).rxDown = none → s.outstanding + 512 ≤ s.cap →
        t.bund b.val = { s.bund b.val with rxDown := some ⟨p.val, num.toNat, s.mono, 0, true⟩, ans := some (num.toNat, true) } ∧
        t.cap = s.cap - 512 ∧ t.out = s.out ++ [.ctrlWord (s.ctrlLane b.val) ([4, 0] ++ beBytes 1 p.val ++ beBytes 1 num.toNat ++ zeros 28)] ∧
        { t with fab := { t.fab with bund := s.fab.bund }, out := s.out } = s) ∧
      ((s.bund b.val).ans = none → (s.bund b.val).rxDown = none → 512 ≤ s.cap → s.cap < s.outstanding + 512 →
        t.bund b.val = { s.bund b.val with rxDown := some ⟨p.val, num.toNat, s.mono, 0, false⟩ } ∧
        { t with fab := { t.fab with bund := s.fab.bund } } = s) ∧
      (∀ ok, (s.bund b.val).ans = some (num.toNat, ok) →
        t = { s with out := s.out ++ [.ctrlWord (s.ctrlLane b.val) ([if ok then 4 else 5, 0] ++ beBytes 1 p.val ++ beBytes 1 num.toNat ++ zeros 28)] })) ∧
  (∀ (s : State) (b : Fin 8) (p : Fin 12) (num : BitVec 8), s.fabOn = true →
    Completes (.shiftReq b true p num) s fun t =>
      (s.pairIs b.val p.val lnQuiet = true → t.pairIs b.val p.val lnWaking = true ∧ (∀ m, m ∉ pairLanes b.val p.val → t.lane m = s.lane m)) ∧
      (s.pairIs b.val p.val lnQuiet = false → t = s)) ∧
  (∀ (s : State) (b : Fin 8) (p : Fin 12) (num : BitVec 8) (d : Shift), s.fabOn = true → (s.bund b.val).down = some d → d.pair = p.val →
      d.num = num.toNat →
    Completes (.shiftAck b p num) s (fun t => t.bund b.val = { s.bund b.val with down := some { d with acked := true } } ∧
      { t with fab := { t.fab with bund := s.fab.bund } } = s) ∧
    Completes (.shiftNak b p num) s (fun t => t.bund b.val = { s.bund b.val with down := none } ∧ Counted (Ctr.FAB_SHIFT_NAK b.val) 1 s t ∧
      RegsBut (Ctr.FAB_SHIFT_NAK b.val).regs s t ∧ { t with fab := { t.fab with bund := s.fab.bund }, regs := s.regs, pmcIn := s.pmcIn } = s)) ∧
  (∀ (s : State) (b : Fin 8) (l : Fin 24) (d : Shift), s.fabOn = true → (s.bund b.val).down = some d → d.acked = true → d.pair = l.val / 2 →
      (s.lane (laneNo b.val l.val)).st = lnActive →
    Completes (.shiftDoneSend b l) s fun t =>
      (t.lane (laneNo b.val l.val)).st = lnQuiet ∧ (t.lane (laneNo b.val l.val)).burst = s.mono + spanExp 18 ∧
      (∀ m, m ≠ laneNo b.val l.val → t.lane m = s.lane m) ∧
      ((∃ m ∈ pairLanes b.val d.pair, m ≠ laneNo b.val l.val ∧ (s.lane m).st ≠ lnQuiet) → t.bund b.val = s.bund b.val) ∧
      ((∀ m ∈ pairLanes b.val d.pair, m ≠ laneNo b.val l.val → (s.lane m).st = lnQuiet) →
        t.bund b.val = { s.bund b.val with down := none } ∧ Counted (Ctr.FAB_SHIFT_DOWN b.val) 1 s t)) ∧
  (∀ (s : State) (b : Fin 8) (l : Fin 24) (p : Fin 12) (num : BitVec 8) (d : Shift), s.fabOn = true → (s.bund b.val).rxDown = some d →
      d.acked = true → d.num = num.toNat → d.pair = p.val → l.val / 2 = p.val →
    Completes (.shiftDone b l p num) s fun t =>
      t.lane (laneNo b.val l.val) = { s.lane (laneNo b.val l.val) with rx := lnQuiet } ∧ (∀ m, m ≠ laneNo b.val l.val → t.lane m = s.lane m) ∧
      ((∀ m ∈ pairLanes b.val p.val, m ≠ laneNo b.val l.val → (s.lane m).rx = lnQuiet) → t.bund b.val = { s.bund b.val with rxDown := none }) ∧
      { t with fab := { t.fab with lanes := s.fab.lanes, bund := s.fab.bund } } = s) ∧
  (∀ (s : State) (b : Fin 8) (d : Shift), s.fabOn = true → (s.bund b.val).rxDown = some d → d.acked = false →
    Completes (.shedAckTimeout b) s fun t =>
      (d.at_ + spanExp 16 ≤ s.mono → t.bund b.val = { s.bund b.val with rxDown := none, ans := some (d.num, false) } ∧
        t.out = s.out ++ [.ctrlWord (s.ctrlLane b.val) ([5, 0] ++ beBytes 1 d.pair ++ beBytes 1 d.num ++ zeros 28)] ∧
        { t with fab := { t.fab with bund := s.fab.bund }, out := s.out } = s) ∧
      (s.mono < d.at_ + spanExp 16 → t = s)) ∧
  (∀ (s : State) (b : Fin 8) (d : Shift), s.fabOn = true → (s.bund b.val).down = some d → d.acked = false → (s.bund b.val).up = none →
      d.at_ + spanExp 20 ≤ s.mono →
    Completes (.shiftReqResend b) s fun t =>
      (d.tries < 4 → t.bund b.val = { s.bund b.val with down := some { d with at_ := s.mono, tries := d.tries + 1 } } ∧
        t.out = s.out ++ [.ctrlWord (s.ctrlLane b.val) ([3, 0] ++ beBytes 1 d.pair ++ beBytes 1 d.num ++ zeros 28)]) ∧
      (4 ≤ d.tries → t.bund b.val = { s.bund b.val with down := none } ∧ t.out = s.out)) ∧
  (∀ (s : State) (b : Fin 8), s.fabOn = true →
    Completes (.derailleurWindow b) s fun t =>
      (s.trigDue (tgDer b.val) (spanExp 16) = false → t = s) ∧
      (s.trigDue (tgDer b.val) (spanExp 16) = true → (t.bund b.val).bytes = 0) ∧
      (s.trigDue (tgDer b.val) (spanExp 16) = true → s.activeTx b.val ≠ 0 →
        95 * (196000000000 * s.activeTx b.val) ≤ (s.bund b.val).bytes * 8 * 65536 * 100 →
        ∀ p, p < 12 → s.pairIs b.val p lnQuiet = true → t.pairIs b.val p lnWaking = true) ∧
      (s.trigDue (tgDer b.val) (spanExp 16) = true → s.activeTx b.val ≠ 0 →
        s.fld Reg.FAB_DER_CFG Fld.FAB_DER_CFG_HIGH * (196000000000 * s.activeTx b.val) ≤ (s.bund b.val).bytes * 8 * 65536 * 100 →
        ∀ p, p < 12 → s.pairIs b.val p lnQuiet = true → (∀ k, k < p → s.pairIs b.val k lnQuiet = false) → t.pairIs b.val p lnWaking = true)) ∧
  (∀ (s : State) (b : Fin 8), s.fabOn = true →
    Completes (.laneWaitRestore b) s fun t =>
      (∀ p, p < 12 → s.pairIs b.val p lnQuiet = true → t.pairIs b.val p lnWaking = true) ∧
      (∀ p, p < 12 → s.pairIs b.val p lnQuiet = false → ∀ m ∈ pairLanes b.val p, t.lane m = s.lane m)) ∧
  (∀ (s : State) (b : Fin 8), s.fabOn = true →
    Completes (.capLimitedWindow b) s fun t =>
      (s.fab.limited = none → t = s) ∧
      (∀ a p, s.fab.limited = some a → (a + spanExp 16 - 1) / spanExp 16 * spanExp 16 + spanExp 16 ≤ s.nowT → (s.bund b.val).rxDown = none →
        (s.bund b.val).up = none → p < 12 → s.pairRx b.val p lnQuiet = true → (∀ k, k < p → s.pairRx b.val k lnQuiet = false) →
        t.bund b.val = { s.bund b.val with up := some ⟨p, (s.bund b.val).num, s.mono, 0, false⟩, num := ((s.bund b.val).num + 1) % 256 } ∧
        t.out = s.out ++ [.ctrlWord (s.ctrlLane b.val) ([3, 1] ++ beBytes 1 p ++ beBytes 1 (s.bund b.val).num ++ zeros 28)] ∧
        { t with fab := { t.fab with bund := s.fab.bund }, out := s.out } = s))

/-- TIMING on a running interface raises event 0x0604 with the lane as location, direction 1 and the word's bytes, stamped with the receive instant as TIME_TS_ADJ of the bundle corrects it. FAB_TIME_TX on an active lane sends one control word of type 7 with the tag, and on another lane changes nothing. FAB_MCL_WRITE stores in one list the device set of FAB_MCL_DATA and the class, and leaves every other list; FAB_MCL_READ shows a list's set and class in the registers and changes only them. -/
def Obligations.FabricFirmware : Prop :=
  (∀ (s : State) (b : Fin 8) (l : Fin 24) (w : List Byte) (inst : BitVec 80), s.fabOn = true → w.length = 31 →
    Completes (.timing b l w inst) s fun t =>
      t = { (s.eventAt 0 0x0604 2 (8 + b.val) (s.fabTs b.val inst.toNat false) (laneNo b.val l.val) (1 :: w)) with pending := s.pending }) ∧
  (∀ (s : State) (b : Fin 8) (v : BitVec 32), s.fabOn = true → s.linkQuiesced = false →
    Completes (.fabTimeTx b v) s fun t =>
      (Fld.FAB_TIME_TX_LANE.get v < 24 → (s.lane (laneNo b.val (Fld.FAB_TIME_TX_LANE.get v))).st = lnActive →
        (∃ w rest, w.length = 29 ∧ t.out = s.out ++ Output.ctrlWord (laneNo b.val (Fld.FAB_TIME_TX_LANE.get v))
          ([7] ++ beBytes 2 (Fld.FAB_TIME_TX_TAG.get v) ++ w) :: rest) ∧ t.fab = s.fab ∧ t.ing = s.ing) ∧
      ((24 ≤ Fld.FAB_TIME_TX_LANE.get v ∨ (s.lane (laneNo b.val (Fld.FAB_TIME_TX_LANE.get v))).st ≠ lnActive) → t = s)) ∧
  (∀ (s : State) (v : BitVec 32), s.tdieUp = true → s.linkQuiesced = false →
    Completes (.fabMclWrite v) s fun t =>
      (∀ d, d < 2048 → (t.devList (Fld.FAB_MCL_CMD_LIST.get v)).1.testBit d = (s.reg (Reg.FAB_MCL_DATA (d / 32))).getLsbD (d % 32)) ∧
      (t.devList (Fld.FAB_MCL_CMD_LIST.get v)).2 = Fld.FAB_MCL_CMD_CLASS.get v ∧
      (∀ g, g % 65536 ≠ Fld.FAB_MCL_CMD_LIST.get v → t.devList g = s.devList g) ∧
      { t with fab := { t.fab with lists := s.fab.lists }, out := s.out } = s) ∧
  (∀ (s : State) (v : BitVec 32), s.tdieUp = true → s.linkQuiesced = false →
    Completes (.fabMclRead v) s fun t =>
      (∀ d, d < 2048 → (t.reg (Reg.FAB_MCL_DATA (d / 32))).getLsbD (d % 32) = (s.devList (Fld.FAB_MCL_CMD_LIST.get v)).1.testBit d) ∧
      t.fld Reg.FAB_MCL_STATUS Fld.FAB_MCL_STATUS_CLASS = (s.devList (Fld.FAB_MCL_CMD_LIST.get v)).2 % 8 ∧
      OnlyRegs (Reg.FAB_MCL_STATUS :: (List.range 64).map Reg.FAB_MCL_DATA) s t)

/-- RESIDUE_RETEST of an entry at or after its deadline takes it from the list, counts MCR_RESIDUE_EXPIRED and a drop of its queue; an entry that is not ready stays; a ready one leaves the list, and one that RED passes into a queue that stays in SRAM joins the queue, raises its depth and counts MCR_COPIES. RESIDUE_EXPIRE leaves exactly the entries before their deadline and counts the others. COPY_LINK_CROSSED of a copy in HBM takes one reference from each page for each time the copy lists it; of a stored packet it takes one reference, and the last reference without a hold frees the packet; a copy that has crossed changes nothing. BUF_POOL_REBUILT ends the quarantine of one part, applies its held frees and counts; without a quarantine it changes nothing. BUF_CFG_WRITE stores a pool size with EN clear and the SRAM parts within 36 MiB, and otherwise only sets CFG_REFUSED. READ_CFG and READ_STATE show a queue's configuration and state; WRITE_CFG stores the configuration or, with a reserved value, only sets ERR. WRITE_ELEM, WRITE_HEAD, READ_ELEM and READ_HEAD write and read one list entry; reserved bits set ERR only. -/
def Obligations.BuffersAndReplication : Prop :=
  (∀ (s : State) (q : Fin 4) (n : BitVec 16) (r : Residue), (s.quad q.val).residue[n.toNat]? = some r →
    Completes (.residueRetest q n) s fun t =>
      (r.deadline ≤ s.mono → (t.quad q.val).residue = (s.quad q.val).residue.eraseIdx n.toNat ∧
        Counted (Ctr.MCR_RESIDUE_EXPIRED q.val) 1 s t ∧ (t.queue r.queue).drops = ((s.queue r.queue).drops + 1) % 2 ^ 32 ∧
        (∀ m, m ≠ r.queue → t.queue m = s.queue m) ∧ (t.queue r.queue).copies = (s.queue r.queue).copies) ∧
      (s.mono < r.deadline → s.copyReady r.queue (admSize (r.data.length + 4) r.hdr.oneStep.isSome)
          (((s.quad q.val).residue.take n.toNat).any (fun x => x.queue == r.queue)) = false → t = s) ∧
      (s.mono < r.deadline → s.copyReady r.queue (admSize (r.data.length + 4) r.hdr.oneStep.isSome)
          (((s.quad q.val).residue.take n.toNat).any (fun x => x.queue == r.queue)) = true →
        (t.quad q.val).residue = (s.quad q.val).residue.eraseIdx n.toNat ∧ (∀ m, m ≠ r.queue → t.queue m = s.queue m) ∧
        (∀ u, s.redTest r.queue r.hdr r.data = (.pass, u) → r.queue / 131072 = q.val → s.spilling r.queue = false → s.pdFree q.val ≠ 0 →
          s.canTake q.val 2 = true → Counted (Ctr.MCR_COPIES q.val) 1 s t ∧
          (t.queue r.queue).depth = (s.queue r.queue).depth + admSize (r.data.length + 4) r.hdr.oneStep.isSome ∧
          (t.queue r.queue).copies = (s.queue r.queue).copies ++
            [⟨some r.pkt, r.queue, admSize (r.data.length + 4) r.hdr.oneStep.isSome, r.hdr, r.data, false, r.encap, [], r.ta⟩]))) ∧
  (∀ (s : State) (q : Fin 4),
    Completes (.residueExpire q) s fun t =>
      (t.quad q.val).residue = (s.quad q.val).residue.filter (fun r => decide (s.mono < r.deadline)) ∧
      Counted (Ctr.MCR_RESIDUE_EXPIRED q.val) ((s.quad q.val).residue.filter (fun r => decide (r.deadline ≤ s.mono))).length s t) ∧
  (∀ (s : State) (c : BitVec 32) (k : EgCopy), KMap.get none s.eg.copies c.toNat = some k →
    Completes (.copyLinkCrossed c) s fun t =>
      (k.crossed = true → t = s) ∧
      (k.crossed = false → KMap.get none t.eg.copies c.toNat = (if k.stage = .done then none else some { k with crossed := true }) ∧
        (∀ m, m ≠ c.toNat → KMap.get none t.eg.copies m = KMap.get none s.eg.copies m) ∧ { t with eg := s.eg, tm := s.tm } = s) ∧
      (k.crossed = false → k.copy.pkt = none → ∀ p, t.pageRef (k.copy.queue / 131072) p = s.pageRef (k.copy.queue / 131072) p - k.copy.pages.count p) ∧
      (∀ m x, k.crossed = false → k.copy.pkt = some m → s.stored m = some x →
        ((2 ≤ x.refs ∨ (x.hold = true ∧ 1 ≤ x.refs)) → t.stored m = some { x with refs := x.refs - 1 }) ∧
        (x.refs = 1 → x.hold = false → t.stored m = none) ∧ (∀ m', m' ≠ m → t.stored m' = s.stored m'))) ∧
  (∀ (s : State) (q i : Fin 4),
    Completes (.bufPoolRebuilt q i) s fun t =>
      (s.quarantined q.val i.val = false → t = s) ∧
      (s.quarantined q.val i.val = true → t.quarantined q.val i.val = false ∧
        (∀ j, j < 4 → j ≠ i.val → t.quarantined q.val j = s.quarantined q.val j) ∧
        KMap.get 0 (t.quad q.val).heldFree i.val = 0 ∧ Counted (Ctr.BUF_REBUILD q.val) 1 s t ∧
        (KMap.get 0 (s.quad q.val).owe i.val = 0 →
          KMap.get 0 (t.quad q.val).use i.val = KMap.get 0 (s.quad q.val).use i.val - KMap.get 0 (s.quad q.val).heldFree i.val))) ∧
  (∀ (s : State) (q : Fin 4) (r : BufReg) (v : BitVec 32), s.tdieUp = true → s.linkQuiesced = false →
    Completes (.bufCfgWrite q r v) s fun t =>
      ((s.bufEn q.val = true ∨ 36 * 2 ^ 20 < (s.setReg (bufReg q.val r) (v &&& bufMask r)).sramBytes q.val) →
        t.flag (Reg.BUF_STATUS q.val) Fld.BUF_STATUS_CFG_REFUSED = true ∧ OnlyRegs [Reg.BUF_STATUS q.val] s t) ∧
      (s.bufEn q.val = false → (s.setReg (bufReg q.val r) (v &&& bufMask r)).sramBytes q.val ≤ 36 * 2 ^ 20 →
        t.reg (bufReg q.val r) = v &&& bufMask r ∧
        t.flag (Reg.BUF_STATUS q.val) Fld.BUF_STATUS_CAP_LOW = decide (t.usablePages q.val < 15887144))) ∧
  (∀ (s : State) (q : Fin 4) (v : BitVec 32), s.tdieUp = true → s.linkQuiesced = false →
    Completes (.readCfg q v) s (fun t => t.qdata q.val = s.qcfg (131072 * q.val + Fld.ADM_QCMD_QUEUE.get v) ∧
      OnlyRegs ((List.range 4).map (Reg.ADM_QDATA q.val)) s t) ∧
    Completes (.readState q v) s (fun t =>
      (t.qdata q.val).toNat % 2 ^ 64 = (s.queue (131072 * q.val + Fld.ADM_QCMD_QUEUE.get v)).depth % 2 ^ 64 ∧
      ((s.queue (131072 * q.val + Fld.ADM_QCMD_QUEUE.get v)).drops < 2 ^ 32 →
        (t.qdata q.val).getLsbD 127 = s.spilling (131072 * q.val + Fld.ADM_QCMD_QUEUE.get v) ∧ (t.reg (Reg.ADM_QDATA q.val 2)).toNat = (s.queue (131072 * q.val + Fld.ADM_QCMD_QUEUE.get v)).drops) ∧
      OnlyRegs ((List.range 4).map (Reg.ADM_QDATA q.val)) s t) ∧
    Completes (.writeCfg q v) s (fun t =>
      ((bitsOf (s.qdata q.val) 28 0 ≠ 0 ∨ 12 ≤ qAlpha (s.qdata q.val)) →
        t.flag (Reg.ADM_QSTATUS q.val) Fld.ADM_QSTATUS_ERR = true ∧ OnlyRegs [Reg.ADM_QSTATUS q.val] s t) ∧
      (bitsOf (s.qdata q.val) 28 0 = 0 → qAlpha (s.qdata q.val) < 12 →
        (s.nodeLost lvClass (131072 * q.val + Fld.ADM_QCMD_QUEUE.get v) = false →
          t.qcfg (131072 * q.val + Fld.ADM_QCMD_QUEUE.get v) = s.qdata q.val) ∧
        (∀ m, m ≠ 131072 * q.val + Fld.ADM_QCMD_QUEUE.get v → t.qcfg m = s.qcfg m) ∧
        { t with tm := { t.tm with qcfg := s.tm.qcfg } } = s))) ∧
  (∀ (s : State) (q : Fin 4) (v : BitVec 32), s.tdieUp = true → s.linkQuiesced = false →
    Completes (.writeElem q v) s (fun t =>
      ((s.reg (Reg.MCR_WR_DATA_LO q.val)).toNat % 32 ≠ 0 →
        t.flag (Reg.MCR_STATUS q.val) Fld.MCR_STATUS_ERR = true ∧ OnlyRegs [Reg.MCR_STATUS q.val] s t) ∧
      ((s.reg (Reg.MCR_WR_DATA_LO q.val)).toNat % 32 = 0 →
        t.elem q.val (Fld.MCR_WR_CMD_INDEX.get v) = s.reg (Reg.MCR_WR_DATA_HI q.val) ++ s.reg (Reg.MCR_WR_DATA_LO q.val) ∧
        (∀ i, i < 2 ^ 18 → i ≠ Fld.MCR_WR_CMD_INDEX.get v → t.elem q.val i = s.elem q.val i) ∧
        { t with tm := { t.tm with elems := s.tm.elems } } = s)) ∧
    Completes (.writeHead q v) s (fun t =>
      ((s.reg (Reg.MCR_WR_DATA_LO q.val)).toNat / 2 ^ 18 % 2 ^ 13 ≠ 0 →
        t.flag (Reg.MCR_STATUS q.val) Fld.MCR_STATUS_ERR = true ∧ OnlyRegs [Reg.MCR_STATUS q.val] s t) ∧
      ((s.reg (Reg.MCR_WR_DATA_LO q.val)).toNat / 2 ^ 18 % 2 ^ 13 = 0 →
        t.head q.val (Fld.MCR_WR_CMD_INDEX.get v) = s.reg (Reg.MCR_WR_DATA_LO q.val) ∧
        (∀ g, g < 2 ^ 18 → g ≠ Fld.MCR_WR_CMD_INDEX.get v → t.head q.val g = s.head q.val g) ∧
        { t with tm := { t.tm with heads := s.tm.heads } } = s)) ∧
    Completes (.readElem q v) s (fun t =>
      t.reg (Reg.MCR_WR_DATA_HI q.val) ++ t.reg (Reg.MCR_WR_DATA_LO q.val) = s.elem q.val (Fld.MCR_WR_CMD_INDEX.get v) ∧
      OnlyRegs [Reg.MCR_WR_DATA_LO q.val, Reg.MCR_WR_DATA_HI q.val] s t) ∧
    Completes (.readHead q v) s (fun t =>
      t.reg (Reg.MCR_WR_DATA_LO q.val) = s.head q.val (Fld.MCR_WR_CMD_INDEX.get v) ∧ OnlyRegs [Reg.MCR_WR_DATA_LO q.val] s t))

/-- SCHEDULER_SELECT changes nothing while the quadrant does not schedule; with no eligible queue it only starts ring waits; with one eligible queue of a port that feeds no receive ring it dequeues the head copy, counts SCH_DEQ_PKTS, starts the copy across the link on its slice and port, and lowers the class node's credit by the scheduling length when it is shaped. WHEEL_SLOT_RELEASE settles each node of the quadrant whose slot instant has come: it leaves the wheel with credit, and is entered at a later slot without; other nodes stay. SCH_READ_CFG shows a node's configuration and SCH_READ_STATE its credit and whether it is on the wheel; SCH_WRITE_CFG stores a configuration and caps the credit of a shaped node at the new burst; an index out of range or a reserved field sets ERR only. SCH_PORT_CFG_WRITE stores the register; a change of packet mode zeroes the credits of the port's nodes and no others. SAMPLE_ROUND_START at a new multiple of the interval starts a round, or skips it and counts while one runs. SAMPLE_VISIT writes the queue's entry and goes on to the next queue or ends the round. -/
def Obligations.Scheduler : Prop :=
  (∀ (s : State) (e : Fin 16) (u : Option MemLoc), (s.flag (Reg.SCH_CFG (e.val / 4)) Fld.SCH_CFG_EN = false ∨ s.tdieUp = false) →
    Completes (.schedulerSelect e u) s fun t => t = s) ∧
  (∀ (s : State) (e : Fin 16), s.flag (Reg.SCH_CFG (e.val / 4)) Fld.SCH_CFG_EN = true → s.tdieUp = true → s.egServes e.val = true →
    Completes (.schedulerSelect e none) s fun t =>
      (s.eligible e.val = [] → { t with sch := { t.sch with waits := s.sch.waits } } = s) ∧
      (∀ (x : Nat) (c : Copy) (r : List Copy), s.eligible e.val = [x] → x < 524288 → s.queuePort x < 144 → toRing (portOfNode (s.queuePort x)) = false →
        (s.queue x).copies = c :: r →
        t.queue x = { s.queue x with copies := r, depth := (s.queue x).depth - c.size } ∧ (∀ y, y ≠ x → t.queue y = s.queue y) ∧
        Counted (Ctr.SCH_DEQ_PKTS (x / 131072)) 1 s t ∧ RegsBut (Ctr.SCH_DEQ_PKTS (x / 131072)).regs s t ∧
        (∃ k, t.egCopy s.eg.next = some k ∧ k.copy = c ∧ k.slice = e.val ∧ k.port = portOfNode (s.queuePort x) ∧ k.stage = .crossing ∧
          k.crossed = false) ∧
        (cfgShape (s.nodeCfg lvClass x) = true →
          (t.node lvClass x).credit = s.creditAt lvClass x s.nowT - s.schedLen (portOfNode (s.queuePort x)) c.len * 65536) ∧
        { t with sch := s.sch, tm := s.tm, eg := s.eg, led := s.led, regs := s.regs, pmcIn := s.pmcIn } = s)) ∧
  (∀ (s : State) (q : Fin 4),
    Completes (.wheelSlotRelease q) s fun t =>
      (∀ lv n te sl, n < 2 ^ 20 → (s.node lv n).wheel = some (te, sl) → nodeQuad lv n = q.val → sl ≤ s.nowT →
        (t.node lv n).credit = s.creditAt lv n s.nowT ∧ (0 ≤ s.creditAt lv n s.nowT → (t.node lv n).wheel = none) ∧
        (s.creditAt lv n s.nowT < 0 → cfgShape (s.nodeCfg lv n) = true → cfgRate (s.nodeCfg lv n) ≠ 0 →
          ∃ te' sl', (t.node lv n).wheel = some (te', sl') ∧ s.nowT < sl')) ∧
      (∀ lv n, n < 2 ^ 20 → ((s.node lv n).wheel = none ∨ nodeQuad lv n ≠ q.val ∨ (∃ te sl, (s.node lv n).wheel = some (te, sl) ∧ s.nowT < sl)) →
        t.node lv n = s.node lv n) ∧
      { t with sch := { t.sch with node := s.sch.node }, led := s.led } = s) ∧
  (∀ (s : State) (q : Fin 4) (v : BitVec 32), s.tdieUp = true → s.linkQuiesced = false →
    Completes (.schReadCfg q v) s (fun t =>
      (levelSize (Fld.SCH_NCMD_LEVEL.get v) ≤ Fld.SCH_NCMD_INDEX.get v →
        t.flag (Reg.SCH_NSTATUS q.val) Fld.SCH_NSTATUS_ERR = true ∧ OnlyRegs [Reg.SCH_NSTATUS q.val] s t) ∧
      (Fld.SCH_NCMD_INDEX.get v < levelSize (Fld.SCH_NCMD_LEVEL.get v) →
        t.schData q.val = s.nodeCfg (Fld.SCH_NCMD_LEVEL.get v) (nodeNum (Fld.SCH_NCMD_LEVEL.get v) q.val (Fld.SCH_NCMD_INDEX.get v)) ∧
        OnlyRegs ((List.range 4).map (Reg.SCH_NDATA q.val)) s t)) ∧
    Completes (.schReadState q v) s (fun t => ∀ lv n, lv = Fld.SCH_NCMD_LEVEL.get v → n = nodeNum lv q.val (Fld.SCH_NCMD_INDEX.get v) →
      Fld.SCH_NCMD_INDEX.get v < levelSize lv →
        t.reg (Reg.SCH_NDATA q.val 0) = BitVec.ofInt 32 (s.creditAt lv n s.nowT / 65536) ∧
        (t.reg (Reg.SCH_NDATA q.val 3)).getLsbD 31 = (s.node lv n).wheel.isSome ∧
        OnlyRegs ((List.range 4).map (Reg.SCH_NDATA q.val)) s t) ∧
    Completes (.schWriteCfg q v) s (fun t => ∀ lv n, lv = Fld.SCH_NCMD_LEVEL.get v → n = nodeNum lv q.val (Fld.SCH_NCMD_INDEX.get v) →
      ((levelSize lv ≤ Fld.SCH_NCMD_INDEX.get v ∨ nodeCfgOk lv (s.schData q.val) = false) →
        t.flag (Reg.SCH_NSTATUS q.val) Fld.SCH_NSTATUS_ERR = true ∧ OnlyRegs [Reg.SCH_NSTATUS q.val] s t) ∧
      (Fld.SCH_NCMD_INDEX.get v < levelSize lv → nodeCfgOk lv (s.schData q.val) = true → s.nodeLost lv n = false →
        t.nodeCfg lv n = s.schData q.val ∧ (∀ lv' n', n' < 2 ^ 20 → (lv', n') ≠ (lv, n) → t.nodeCfg lv' n' = s.nodeCfg lv' n') ∧
        (cfgShape (s.schData q.val) = true →
          (t.node lv n).credit = min (burstUnits (s.schData q.val) (t.packetMode (t.nodePort lv n))) (s.creditAt lv n s.nowT)) ∧
        { t with sch := s.sch, led := s.led } = s))) ∧
  (∀ (s : State) (q : Fin 4) (k : Fin 36) (v : BitVec 32), s.tdieUp = true → s.linkQuiesced = false →
    Completes (.schPortCfgWrite q k v) s fun t =>
      t.reg (Reg.SCH_PORT_CFG q.val k.val) = v &&& 0x800000FF ∧ RegsBut [Reg.SCH_PORT_CFG q.val k.val] s t ∧
      (t.packetMode (portOfNode (36 * q.val + k.val)) = s.packetMode (portOfNode (36 * q.val + k.val)) → { t with regs := s.regs } = s) ∧
      (t.packetMode (portOfNode (36 * q.val + k.val)) ≠ s.packetMode (portOfNode (36 * q.val + k.val)) →
        (∀ lv n, n < 2 ^ 20 → s.nodePort lv n = portOfNode (36 * q.val + k.val) → (t.node lv n).credit = 0) ∧
        (∀ lv n, n < 2 ^ 20 → s.nodePort lv n ≠ portOfNode (36 * q.val + k.val) → t.node lv n = s.node lv n))) ∧
  (∀ (s : State) (q : Fin 4),
    Completes (.sampleRoundStart q) s fun t =>
      (s.flag (Reg.SCH_SAMPLE_CFG q.val) Fld.SCH_SAMPLE_CFG_EN = false → t = s) ∧
      (s.nowT / s.sampleSpan q.val ≤ KMap.get 0 s.time.trig (tgSample q.val) / s.sampleSpan q.val → t = s) ∧
      (s.flag (Reg.SCH_SAMPLE_CFG q.val) Fld.SCH_SAMPLE_CFG_EN = true → s.tdieUp = true →
        KMap.get 0 s.time.trig (tgSample q.val) / s.sampleSpan q.val < s.nowT / s.sampleSpan q.val →
        (s.round q.val = none → t.round q.val = some ⟨s.fld (Reg.SCH_SAMPLE_RANGE q.val) Fld.SCH_SAMPLE_RANGE_FIRST, s.sampleCount q.val⟩) ∧
        (∀ r, s.round q.val = some r → t.round q.val = some r ∧ Counted (Ctr.SCH_SAMPLE_SKIP q.val) 1 s t ∧ t.out = s.out))) ∧
  (∀ (s : State) (q : Fin 4) (r : Round), s.round q.val = some r →
    Completes (.sampleVisit q) s fun t =>
      t.round q.val = (if r.left ≤ 1 then none else some ⟨(r.next + 1) % 131072, r.left - 1⟩) ∧
      (s.ringState (s.sampleRing q.val) ≠ rsRunning → Counted (Ctr.SCH_SAMPLE_DROP q.val) 1 s t ∧ t.out = s.out) ∧
      (s.ringKind (s.sampleRing q.val) = rkSample → s.ringState (s.sampleRing q.val) = rsRunning → s.freeSlots (s.sampleRing q.val) ≠ 0 →
        s.ringOwner (s.sampleRing q.val) < 1024 →
        ∃ fl dl, t.out = s.out ++ [.hostWrite (s.ringOwner (s.sampleRing q.val)) (s.reg64 (Reg.RING_CPL_BASE_LO (s.sampleRing q.val)) +
          16 * (s.cplProd (s.sampleRing q.val) % s.ringSlots (s.sampleRing q.val)))
          ([2, fl, 0, 0] ++ beBytes 4 (131072 * q.val + r.next) ++
            beBytes 4 (min (((s.queue (131072 * q.val + r.next)).depth + 63) / 64) 0xFFFFFFFF) ++ dl)]))

/-- GATE_LIST_WRITE stores one administrative entry, or only sets REFUSED while a change is pending; GATE_LIST_READ shows an operational entry. GO refuses a list outside the bounds with ERR; otherwise the change instant is the base, or the base plus a whole number of cycles, at or after 2^-20 s from now. GATE_LIST_SWITCH changes nothing before that instant; at it the list becomes operational, PENDING clears and GATE_LIST_SWITCH counts. GATE_ENTRY_BOUNDARY sets OPEN to the entry's gate bits once; with preemption active, SET_AND_HOLD sets HOLD and SET_AND_RELEASE clears it. GATE_CFG_WRITE sets EN, is refused with ERR on an OTN port, and with EN clear opens every gate. GATE_STAGE_RELEASE of a stage with one frame drops a frame too long for its gates and counts it, releases a frame that may leave with its transmit instant, and leaves one whose gate is shut. -/
def Obligations.TimeGates : Prop :=
  (∀ (s : State) (i : Fin 16) (v : BitVec 32), s.fdieUp = true →
    Completes (.gateListWrite i v) s (fun t => ∀ p, p = 8 * i.val + Fld.GATE_LIST_CMD_PORT.get v →
      ((s.gate p).pend.isSome = true → t.flag (Reg.GATE_LIST_STATUS i.val) Fld.GATE_LIST_STATUS_REFUSED = true ∧
        OnlyRegs [Reg.GATE_LIST_STATUS i.val] s t) ∧
      ((s.gate p).pend = none →
        KMap.get (0, 0, 0) (t.gate p).admin (Fld.GATE_LIST_CMD_ENTRY.get v) = ((s.reg (Reg.GATE_LIST_WR_LO i.val)).toNat,
          s.fld (Reg.GATE_LIST_WR_HI i.val) Fld.GATE_LIST_WR_HI_OP, s.fld (Reg.GATE_LIST_WR_HI i.val) Fld.GATE_LIST_WR_HI_GATES) ∧
        (∀ n, n ≠ Fld.GATE_LIST_CMD_ENTRY.get v → KMap.get (0, 0, 0) (t.gate p).admin n = KMap.get (0, 0, 0) (s.gate p).admin n) ∧
        (t.gate p).oper = (s.gate p).oper ∧ (∀ r, r ≠ p → t.gate r = s.gate r) ∧ { t with sch := { t.sch with gates := s.sch.gates } } = s)) ∧
    Completes (.gateListRead i v) s (fun t => ∀ l, (s.gate (8 * i.val + Fld.GATE_LIST_CMD_PORT.get v)).oper = some l →
      t.reg (Reg.GATE_LIST_WR_LO i.val) = BitVec.ofNat 32 (l.entries.getD (Fld.GATE_LIST_CMD_ENTRY.get v) (0, 0, 0)).1 ∧
      OnlyRegs [Reg.GATE_LIST_WR_LO i.val, Reg.GATE_LIST_WR_HI i.val] s t)) ∧
  (∀ (s : State) (p : Fin 128), s.fdieUp = true →
    Completes (.go p) s fun t =>
      ((s.adminList p.val).ok = false → t.flag (gateStatus p.val) Fld.GATE_STATUS_ERR = true ∧ OnlyRegs [gateStatus p.val] s t) ∧
      ((s.adminList p.val).ok = true → t.flag (gateStatus p.val) Fld.GATE_STATUS_PENDING = true ∧ (t.gate p.val).oper = (s.gate p.val).oper ∧
        (∃ x k, (t.gate p.val).pend = some ({ s.adminList p.val with base := x }, x) ∧ s.now + 4096 ≤ x ∧
          x = (s.adminList p.val).base + k * (s.adminList p.val).cycle ∧
          (k ≠ 0 → x < s.now + 4096 + (s.adminList p.val).cycle)) ∧
        { t with sch := { t.sch with gates := s.sch.gates }, regs := s.regs } = s)) ∧
  (∀ (s : State) (p : Fin 128) (l : GateList) (x : Nat), (s.gate p.val).pend = some (l, x) →
    Completes (.gateListSwitch p) s fun t =>
      (s.now < x → t = s) ∧
      (x ≤ s.now → (t.gate p.val).oper = some l ∧ (t.gate p.val).pend = none ∧ t.flag (gateStatus p.val) Fld.GATE_STATUS_PENDING = false ∧
        Counted (Ctr.GATE_LIST_SWITCH (p.val / 8) (p.val % 8)) 1 s t ∧ (∀ r, r ≠ p.val → t.gate r = s.gate r))) ∧
  (∀ (s : State) (p : Fin 128) (l : GateList) (start op bits : Nat), s.gateEn p.val = true → (s.gate p.val).oper = some l → l.base ≤ s.now →
      l.at_ s.now = some (start, op, bits) →
    Completes (.gateEntryBoundary p) s fun t =>
      (s.now - l.phase s.now + start < (s.gate p.val).at_ → t = s) ∧
      ((s.gate p.val).at_ ≤ s.now - l.phase s.now + start → t.fld (gateStatus p.val) Fld.GATE_STATUS_OPEN = bits % 256 ∧
        (t.gate p.val).at_ = s.now - l.phase s.now + start + 1 ∧
        (s.preActive p.val = false → t.held p.val = s.held p.val) ∧
        (s.preActive p.val = true → op = 1 → t.held p.val = true) ∧
        (s.preActive p.val = true → op = 2 → t.held p.val = false))) ∧
  (∀ (s : State) (p : Fin 128) (v : BitVec 32), s.fdieUp = true →
    Completes (.gateCfgWrite p v) s fun t =>
      (Fld.GATE_CFG_EN.get v = 1 → s.portOtn p.val = true → t.flag (gateStatus p.val) Fld.GATE_STATUS_ERR = true ∧ OnlyRegs [gateStatus p.val] s t) ∧
      (Fld.GATE_CFG_EN.get v = 1 → s.portOtn p.val = false → t.gateEn p.val = true ∧ RegsBut [gateCfg p.val] s t) ∧
      (Fld.GATE_CFG_EN.get v = 0 → t.gateEn p.val = false ∧ t.fld (gateStatus p.val) Fld.GATE_STATUS_OPEN = 0xFF ∧ t.held p.val = false ∧
        (∀ c at_, t.gateOpen p.val c at_ = true) ∧ RegsBut [gateCfg p.val, gateStatus p.val] s t)) ∧
  (∀ (s : State) (p : Fin 128) (c n : Nat) (x : EgCopy), s.fdieUp = true → s.portEn p.val = true → s.linkUp p.val = true →
      s.stageHeads p.val = [(c, n, x)] →
    Completes (.gateStageRelease p) s fun t =>
      (s.tooLong p.val c x.len = true → Counted (Ctr.GATE_TOO_LONG (p.val / 8) (p.val % 8)) 1 s t ∧
        t.egCopy n = (if x.crossed then none else some { x with stage := .done, frame := [] }) ∧ (∀ m, m ≠ n → t.egCopy m = s.egCopy m)) ∧
      (s.tooLong p.val c x.len = false → s.gateOpen p.val c (s.now + s.txLat p.val) = false → t = s) ∧
      (s.tooLong p.val c x.len = false → s.mayLeave p.val c x.len (s.now + s.txLat p.val) = true → s.leaseOver = false →
        s.txNow p.val false = none → s.txNow p.val true = none →
        (∀ m y, s.egCopy m = some y → y.port = p.val → y.stage ≠ .released) → s.eg.copies.wf (fun _ => none) = true →
        t.egCopy n = some { x with stage := .released, txInst := s.now + s.txLat p.val } ∧ (∀ m, m ≠ n → t.egCopy m = s.egCopy m)))

/-- EGRESS_SLICE_ENTRY of a copy that is not crossing, or with the Forwarding die in reset, changes nothing. A copy of a DRAIN port is discarded and counted, and so is one whose ring wait expired. A copy of a line port that is up, without edit chain, mark or MACsec, takes the egress epoch and waits at the gate stage as its frame padded to 60 bytes before the FCS; longer than MAX_FRAME it is dropped and counted. EGRESS_COMMIT of a copy that is not released changes nothing, and so does one whose slice stalls for its notices. Otherwise a copy of a line port that is up, without MACsec and PTP, starts to transmit with its length, its bytes are the frame presented, and the copy ends; on a metered device with the link in use its notice joins the slice's FIFO; a copy of a host port fills the descriptors that it reserved. -/
def Obligations.EgressSlices : Prop :=
  (∀ (s : State) (n : BitVec 32) (x : EgCopy), s.egCopy n.toNat = some x →
    Completes (.egressSliceEntry n) s fun t =>
      ((x.stage ≠ .crossing ∨ s.fdieUp = false) → t = s) ∧
      (x.stage = .crossing → s.fdieUp = true → isDrain x.port = true →
        Counted (Ctr.SCH_DRAIN_PKTS (x.copy.queue / 131072)) 1 s t ∧
        t.egCopy n.toNat = (if x.crossed then none else some { x with stage := .done, frame := [] })) ∧
      (x.stage = .crossing → s.fdieUp = true → isDrain x.port = false → x.expired = true →
        Counted (Ctr.RING_RX_NODESC_DROP (ringOfQueue x.port x.copy.queue / 16384)) 1 s t ∧
        t.egCopy n.toNat = (if x.crossed then none else some { x with stage := .done, frame := [] })) ∧
      (x.stage = .crossing → s.fdieUp = true → x.port < 128 → x.expired = false → s.linkUp x.port = true → x.copy.encap = none →
        x.copy.mark = false → typeAt x.copy.data + 2 ≤ x.copy.data.length → s.secApplies x.port x.copy.data = false →
        (max 60 x.copy.data.length + 4 ≤ s.maxFrame x.port →
          t.egCopy n.toNat = some { x with
            stage := .staged, epoch := (s.reg Reg.FWH_EEPOCH_CUR).toNat, frame := padFrame x.copy.data,
            len := max 60 x.copy.data.length + 4, shift := 0 } ∧
          (∀ m, m ≠ n.toNat → t.egCopy m = s.egCopy m) ∧ { t with eg := s.eg } = s) ∧
        (s.maxFrame x.port < max 60 x.copy.data.length + 4 →
          Counted (Ctr.PORT_TX_OVERSIZE_DROP (x.port / 8) (x.port % 8)) 1 s t ∧
          t.egCopy n.toNat = (if x.crossed then none else some { x with stage := .done, frame := [] })))) ∧
  (∀ (s : State) (n : BitVec 32) (x : EgCopy), s.egCopy n.toNat = some x →
    Completes (.egressCommit n) s fun t =>
      ((x.stage ≠ .released ∨ s.fdieUp = false ∨ s.tdieUp = false ∨ (x.port < 132 ∧ s.commitStalls x.slice = true)) → t = s) ∧
      (x.stage = .released → s.fdieUp = true → s.tdieUp = true → s.commitStalls x.slice = false → x.port < 128 → s.linkUp x.port = true →
        s.secApplies x.port x.frame = false → x.copy.hdr.oneStep = none → x.copy.hdr.ptp = none →
        t.txNow x.port (!s.express x.port (x.copy.queue % 8)) = some ⟨x.len, 0, s.mono, false, x.copy.queue % 8⟩ ∧
        t.out = s.out ++ [.frame x.port (!s.express x.port (x.copy.queue % 8)) x.frame] ∧
        t.egCopy n.toNat = (if x.crossed then none else some { x with stage := .done, frame := [] }) ∧
        (s.metered = true → s.linkQuiesced = false → KMap.get [] t.eg.fifo x.slice = KMap.get [] s.eg.fifo x.slice ++
          [⟨x.copy.queue, x.len, x.port, frameVid x.frame, frameLabel x.frame, s.now⟩]) ∧
        (s.metered = true → s.linkQuiesced = true → KMap.get [] t.eg.wait x.slice = KMap.get [] s.eg.wait x.slice ++
          [⟨x.copy.queue, x.len, x.port, frameVid x.frame, frameLabel x.frame, s.now⟩]) ∧
        (s.metered = false → t.eg.fifo = s.eg.fifo ∧ t.eg.wait = s.eg.wait)) ∧
      (∀ y, x.stage = .released → s.fdieUp = true → s.tdieUp = true → s.commitStalls x.slice = false → 128 ≤ x.port → x.port < 132 →
        (s.ring (ringOfQueue x.port x.copy.queue)).rx = [y] → y.eg = some n.toNat →
        (t.ring (ringOfQueue x.port x.copy.queue)).rx = [{ y with eg := none, rest := x.frame, instant := s.now, whole := true }] ∧
        t.egCopy n.toNat = (if x.crossed then none else some { x with stage := .done, frame := [] })))

/-- REQUEST_PROMOTE of a request that has waited the age limit counts in its controller, and of a younger one changes nothing. CHANNEL_CHECK stores the configuration; with EN newly set it shows the check's result in UP and LINK_FAIL and changes nothing else; with EN clear the channel is not UP; a failure in service of a lookup channel also records the internal error of memory links. SCRUB_PASS of a clean word, with neighbour refresh off, changes nothing; of a corrected word it counts the correction in the counter of its memory; of an uncorrectable word of a lookup channel it counts it, logs its place and class 3, records the internal error, and its region is out of use. REGION_COPY_END ends the copy that runs and changes nothing else; without one it changes nothing. -/
def Obligations.MemoryProtection : Prop :=
  (∀ (s : State) (m : MemCtl) (w : BitVec 32),
    Completes (.requestPromote m w) s fun t =>
      (w.toNat < s.ageLimit m → t = s) ∧
      (∀ c, m = .tdc c → s.ageLimit m ≤ w.toNat → Counted (Ctr.TDC_PROMOTED c.val) 1 s t ∧ RegsBut (Ctr.TDC_PROMOTED c.val).regs s t) ∧
      (∀ c, m = .hbm c → s.ageLimit m ≤ w.toNat → Counted (Ctr.HBMC_PROMOTED c.val) 1 s t ∧ RegsBut (Ctr.HBMC_PROMOTED c.val).regs s t) ∧
      { t with regs := s.regs, pmcIn := s.pmcIn } = s) ∧
  (∀ (s : State) (c : Fin 24) (v : BitVec 32) (ok : Bool),
    Completes (.channelCheck (.tdc c) v ok) s fun t =>
      t.reg (Reg.TDC_CH_CFG c.val) = v &&& 0xE0F00000 ∧
      (v.getLsbD 31 = false → t.flag (Reg.TDC_CH_STATUS c.val) Fld.TDC_CH_STATUS_UP = false ∧
        OnlyRegs [Reg.TDC_CH_CFG c.val, Reg.TDC_CH_STATUS c.val] s t) ∧
      (v.getLsbD 31 = true → s.flag (Reg.TDC_CH_CFG c.val) Fld.TDC_CH_CFG_EN = false →
        t.flag (Reg.TDC_CH_STATUS c.val) Fld.TDC_CH_STATUS_UP = ok ∧ t.flag (Reg.TDC_CH_STATUS c.val) Fld.TDC_CH_STATUS_LINK_FAIL = !ok ∧
        t.fld (Reg.TDC_CH_STATUS c.val) Fld.TDC_CH_STATUS_REGIONS = t.chRegions c.val ∧
        OnlyRegs [Reg.TDC_CH_CFG c.val, Reg.TDC_CH_STATUS c.val] s t) ∧
      (v.getLsbD 31 = true → s.flag (Reg.TDC_CH_CFG c.val) Fld.TDC_CH_CFG_EN = true → ok = true → OnlyRegs [Reg.TDC_CH_CFG c.val] s t) ∧
      (v.getLsbD 31 = true → s.flag (Reg.TDC_CH_CFG c.val) Fld.TDC_CH_CFG_EN = true → ok = false →
        t.flag (Reg.TDC_CH_STATUS c.val) Fld.TDC_CH_STATUS_UP = false ∧ t.flag (Reg.TDC_CH_STATUS c.val) Fld.TDC_CH_STATUS_LINK_FAIL = true ∧
        (t.fld Reg.HIF_IERR_STATUS Fld.HIF_IERR_STATUS_SRC).testBit ieMemLink = true)) ∧
  (∀ (s : State) (c : Fin 8) (v : BitVec 32) (ok : Bool), s.tdieUp = true → s.linkQuiesced = false →
    Completes (.channelCheck (.hbm c) v ok) s fun t =>
      t.reg (Reg.HBMC_ST_CFG c.val) = v &&& 0x80000000 ∧ OnlyRegs [Reg.HBMC_ST_CFG c.val, Reg.HBMC_ST_STATUS c.val] s t ∧
      (v.getLsbD 31 = false → t.flag (Reg.HBMC_ST_STATUS c.val) Fld.HBMC_ST_STATUS_UP = false) ∧
      (v.getLsbD 31 = true → s.flag (Reg.HBMC_ST_CFG c.val) Fld.HBMC_ST_CFG_EN = false →
        t.flag (Reg.HBMC_ST_STATUS c.val) Fld.HBMC_ST_STATUS_UP = ok ∧ t.flag (Reg.HBMC_ST_STATUS c.val) Fld.HBMC_ST_STATUS_LINK_FAIL = !ok)) ∧
  (∀ (s : State) (l : MemLoc), isMeter l = false →
    Completes (.scrubPass l .clean) s (fun t => s.fld Reg.TDC_CFG Fld.TDC_CFG_NR_K = 0 → s.fld Reg.HBMC_CFG Fld.HBMC_CFG_NR_K = 0 → t = s) ∧
    Completes (.scrubPass l .corrected) s (fun t => ∀ c, corrCtr l = some c → Counted c 1 s t)) ∧
  (∀ (s : State) (c : Fin 26) (r : Fin 2) (b : Fin 16) (w : BitVec 20), c.val < 24 →
    Completes (.scrubPass (.tableDram c r b w) .uncorrectable) s fun t =>
      Counted (Ctr.TDC_UNCORR c.val) 1 s t ∧
      t.reg Reg.TDC_ERR_LOC = BitVec.ofNat 5 c.val ++ BitVec.ofNat 1 r.val ++ BitVec.ofNat 4 b.val ++ (0 : BitVec 2) ++ w ∧
      t.flag Reg.TDC_ERR_INFO Fld.TDC_ERR_INFO_VALID = true ∧ t.fld Reg.TDC_ERR_INFO Fld.TDC_ERR_INFO_CLASS = 3 ∧
      (t.fld Reg.HIF_IERR_STATUS Fld.HIF_IERR_STATUS_SRC).testBit ieMemUncorr = true ∧
      KMap.get 0 t.mem.gone (goneKey 0 (s.memRegion (.tableDram c r b w))) ≠ 0) ∧
  (∀ (s : State) (c : Fin 24) (r : Fin 16),
    Completes (.regionCopyEnd c r none) s fun t =>
      KMap.get 0 t.mem.copying (c.val * 16 + r.val) = 0 ∧ (∀ k, k ≠ c.val * 16 + r.val → KMap.get 0 t.mem.copying k = KMap.get 0 s.mem.copying k) ∧
      { t with mem := { t.mem with copying := s.mem.copying } } = s)

/-- SENSOR_READ shows the readings and the highest of them, and sets and clears OVER_MAX; a reading of 115 or more trips the device and holds it in reset; while held only the always-on reading moves. HBM_TEMP_READ below 105 shows the reading, sets and clears HOT, and sets HBM_OVER while a stack is over. GOVERNOR_EVALUATE changes nothing before its instant; then the thermal request rises when the hotter die is above the target, falls on the 16th low evaluation in a row, the level moves by at most one step towards the greater request, and THROTTLE shows a level above 0. PWR_MARGIN sets one rail's bit, and the alarm while any bit is set. SLICE_FENCED takes the spare stage, or fences the slice when it is in use and drops the packets inside that have not passed the stage. FENCE_TAKEOVER lets the partner serve both groups once. ENGINE_SUBSTITUTION takes a spare core, stage or row, and without one changes nothing. -/
def Obligations.ThermalAndFences : Prop :=
  (∀ (s : State) (f g aon : BitVec 8),
    Completes (.sensorRead f g aon none) s fun t =>
      (s.aon.held = true → t = { s with aon := { s.aon with temp := aon.toNat } }) ∧
      (s.aon.held = false → f.toNat < 115 → g.toNat < 115 →
        t.fld Reg.THM_STATUS Fld.THM_STATUS_FDIE_TEMP = f.toNat ∧ t.fld Reg.THM_STATUS Fld.THM_STATUS_TDIE_TEMP = g.toNat ∧
        t.fld Reg.THM_MAX Fld.THM_MAX_FDIE = max f.toNat (s.fld Reg.THM_MAX Fld.THM_MAX_FDIE) ∧
        t.fld Reg.THM_MAX Fld.THM_MAX_TDIE = max g.toNat (s.fld Reg.THM_MAX Fld.THM_MAX_TDIE) ∧
        t.overMax = (if 105 < max f.toNat g.toNat then true else if max f.toNat g.toNat ≤ 103 then false else s.overMax)) ∧
      (s.aon.held = false → s.aon.trip = false → 115 ≤ f.toNat →
        t.aon.held = true ∧ t.aon.trip = true ∧ t.flag Reg.THM_TRIP_LOG Fld.THM_TRIP_LOG_TRIPPED = true ∧
        t.fld Reg.THM_TRIP_LOG Fld.THM_TRIP_LOG_SOURCE = 1 ∧ t.fld Reg.THM_TRIP_LOG Fld.THM_TRIP_LOG_TEMP = f.toNat)) ∧
  (∀ (s : State) (st : Fin 8) (temp : BitVec 8), s.aon.held = false →
    Completes (.hbmTempRead st temp) s fun t =>
      (temp.toNat < 105 → t.fld (Reg.HBMC_ST_STATUS st.val) Fld.HBMC_ST_STATUS_TEMP = temp.toNat ∧
        t.flag (Reg.HBMC_ST_STATUS st.val) Fld.HBMC_ST_STATUS_HOT =
          (if 85 < temp.toNat then true else if temp.toNat < 83 then false else s.flag (Reg.HBMC_ST_STATUS st.val) Fld.HBMC_ST_STATUS_HOT)) ∧
      (95 < temp.toNat → temp.toNat < 105 → t.hbmOver = true) ∧
      (temp.toNat ≤ 93 → s.thm.hbmOver = .empty → t.hbmOver = false) ∧
      (105 ≤ temp.toNat → s.aon.trip = false → t.aon.held = true ∧ t.fld Reg.THM_TRIP_LOG Fld.THM_TRIP_LOG_SOURCE = 3 ∧
        t.fld Reg.THM_TRIP_LOG Fld.THM_TRIP_LOG_STACK = st.val)) ∧
  (∀ (s : State) (amps : BitVec 12),
    Completes (.governorEvaluate amps) s fun t =>
      ((s.trigDue tgGov (spanExp 10) = false ∨ s.aon.held = true) → t = s) ∧
      (s.trigDue tgGov (spanExp 10) = true → s.aon.held = false →
        (s.flag Reg.THM_CFG Fld.THM_CFG_GOV_EN = true →
          s.govTemp < max (s.fld Reg.THM_STATUS Fld.THM_STATUS_FDIE_TEMP) (s.fld Reg.THM_STATUS Fld.THM_STATUS_TDIE_TEMP) →
          t.fld Reg.THM_STATUS Fld.THM_STATUS_THERM_LEVEL = min 8 (s.fld Reg.THM_STATUS Fld.THM_STATUS_THERM_LEVEL + 1) ∧ t.thm.cool = 0) ∧
        (s.flag Reg.THM_CFG Fld.THM_CFG_GOV_EN = true →
          max (s.fld Reg.THM_STATUS Fld.THM_STATUS_FDIE_TEMP) (s.fld Reg.THM_STATUS Fld.THM_STATUS_TDIE_TEMP) + s.govHyst ≤ s.govTemp →
          t.fld Reg.THM_STATUS Fld.THM_STATUS_THERM_LEVEL = s.fld Reg.THM_STATUS Fld.THM_STATUS_THERM_LEVEL - (if s.thm.cool = 15 then 1 else 0) ∧
          t.thm.cool = (if s.thm.cool = 15 then 0 else s.thm.cool + 1)) ∧
        t.fld Reg.THM_STATUS Fld.THM_STATUS_LEVEL = govLevel (s.fld Reg.THM_STATUS Fld.THM_STATUS_LEVEL)
          (max (t.fld Reg.THM_STATUS Fld.THM_STATUS_THERM_LEVEL) (t.fld Reg.THM_STATUS Fld.THM_STATUS_ELEC_LEVEL)) ∧
        t.throttled = decide (0 < t.fld Reg.THM_STATUS Fld.THM_STATUS_LEVEL))) ∧
  (∀ (s : State) (rail : Fin 8) (out : Bool), s.aon.held = false →
    Completes (.pwrMargin rail out) s fun t =>
      (t.fld Reg.PWR_STATUS Fld.PWR_STATUS_RAIL_OUT).testBit rail.val = out ∧
      (∀ i, i < 8 → i ≠ rail.val →
        (t.fld Reg.PWR_STATUS Fld.PWR_STATUS_RAIL_OUT).testBit i = (s.fld Reg.PWR_STATUS Fld.PWR_STATUS_RAIL_OUT).testBit i) ∧
      t.flag Reg.PWR_STATUS Fld.PWR_STATUS_MARGIN_ALARM = (t.fld Reg.PWR_STATUS Fld.PWR_STATUS_RAIL_OUT != 0)) ∧
  (∀ (s : State) (sl : Fin 32) (stage : BitVec 16) (past : List (BitVec 32)),
    Completes (.sliceFenced sl stage past) s fun t =>
      (s.spareStageUsed sl.val = false → t.spareStageUsed sl.val = true ∧ t.isFenced sl.val = s.isFenced sl.val ∧ t.ing = s.ing ∧ t.eg = s.eg) ∧
      (s.spareStageUsed sl.val = true → s.isFenced sl.val = true → t = s) ∧
      (s.spareStageUsed sl.val = true → s.isFenced sl.val = false → t.isFenced sl.val = true ∧ (t.reg (Reg.DEV_CAP 1 sl.val)).getLsbD 31 = true ∧
        t.sliceStand sl.val = (if s.isFenced (partnerOf sl.val) then 3 else 1) ∧
        (∀ p k, sl.val < 16 → s.pkt p = some k → k.slice = sl.val → p ∉ past.map (·.toNat) → k.stage ∉ [.queued, .respinQ, .committed, .handed] →
          t.pkt p = none) ∧
        (∀ p k, s.ing.pkts.wf (fun _ => none) = true → s.pkt p = some k → k.stage = .committed → t.pkt p = some k))) ∧
  (∀ (s : State) (sl : Fin 32),
    Completes (.fenceTakeover sl) s fun t =>
      (s.sliceStand sl.val ≠ 1 → t = s) ∧
      (s.sliceStand sl.val = 1 → t.sliceStand sl.val = 2 ∧ (capOf (t.reg (Reg.DEV_CAP 1 (partnerOf sl.val)))).percent = 50 ∧
        (capOf (t.reg (Reg.DEV_CAP 1 (partnerOf sl.val)))).count = 2)) ∧
  (∀ (s : State) (k : Fin 16) (c : Fin 10),
    Completes (.engineSubstitution (.core k c)) s fun t =>
      (s.fld (Reg.CPX_CAP k.val) Fld.CPX_CAP_SPARES = 0 → t = s) ∧
      (s.fld (Reg.CPX_CAP k.val) Fld.CPX_CAP_SPARES ≠ 0 →
        t.fld (Reg.CPX_CAP k.val) Fld.CPX_CAP_SPARES = s.fld (Reg.CPX_CAP k.val) Fld.CPX_CAP_SPARES - 1 ∧
        (capOf (t.reg (Reg.DEV_CAP 1 (32 + k.val)))).spare = s.fld (Reg.CPX_CAP k.val) Fld.CPX_CAP_SPARES - 1)) ∧
  (∀ (s : State) (sl : Fin 32) (n : BitVec 16),
    Completes (.engineSubstitution (.stage sl n)) s fun t =>
      t.spareStageUsed sl.val = true ∧ (s.spareStageUsed sl.val = true → t = s)) ∧
  (∀ (s : State) (l : MemLoc),
    Completes (.engineSubstitution (.row l)) s fun t =>
      (spareRows (memKind l) ≤ KMap.get 0 s.mem.spare (goneKey (memKind l) (s.memRegion l)) → t = s) ∧
      (KMap.get 0 s.mem.spare (goneKey (memKind l) (s.memRegion l)) < spareRows (memKind l) →
        KMap.get 0 t.mem.spare (goneKey (memKind l) (s.memRegion l)) = KMap.get 0 s.mem.spare (goneKey (memKind l) (s.memRegion l)) + 1))

/-- HOST_LINK_TRAIN of an enabled port (in Kickstand mode of port 0 alone) brings the link up at the speed, width and mode given; of another it only ends PERST. HIF_PORT_CFG_WRITE with EN set writes EN and VF_VECTORS, which stays where the value is 0 or above 1,984 or VF Enable is set; with EN clear every function of the port holds Bus Master Enable and MSI-X Enable clear, and the link is down. HOST_PORT_RESET resets every function of its port at once, takes the link down, and leaves the functions and links of other ports. MSIX_PENDING_SEND sends a pending vector whose function has Bus Master Enable and MSI-X Enable set and whose mask is clear, and otherwise changes nothing. -/
def Obligations.HostPortLinks : Prop :=
  (∀ (s : State) (h : Fin 4) (v : Fin 6) (w : LinkW) (flit : Bool), (s.kickstand = false ∨ h = 0) → s.flag (Reg.HIF_PORT_CFG h.val) Fld.HIF_PORT_CFG_EN = true →
    Completes (.hostLinkTrain h v w flit) s fun t =>
      t.hostUp h.val = true ∧ t.flag (Reg.HIF_PORT_STATUS h.val) Fld.HIF_PORT_STATUS_FLIT = flit ∧
      t.fld (Reg.HIF_PORT_STATUS h.val) Fld.HIF_PORT_STATUS_SPEED = v.val + 1 ∧ t.fld (Reg.HIF_PORT_STATUS h.val) Fld.HIF_PORT_STATUS_WIDTH = linkLanes w ∧
      KMap.get 0 t.hif.perst h.val = 0 ∧ RegsBut [Reg.HIF_PORT_STATUS h.val] s t ∧
      { t with regs := s.regs, hif := { t.hif with perst := s.hif.perst } } = s) ∧
  (∀ (s : State) (h : Fin 4) (v : Fin 6) (w : LinkW) (flit : Bool),
      s.flag (Reg.HIF_PORT_CFG h.val) Fld.HIF_PORT_CFG_EN = false ∨ (s.kickstand = true ∧ h ≠ 0) →
    Completes (.hostLinkTrain h v w flit) s fun t => KMap.get 0 t.hif.perst h.val = 0 ∧ { t with hif := { t.hif with perst := s.hif.perst } } = s) ∧
  (∀ (s : State) (h : Fin 4) (v : BitVec 32), v.getLsbD 31 = true →
    Completes (.hifPortCfgWrite h v) s fun t =>
      t.flag (Reg.HIF_PORT_CFG h.val) Fld.HIF_PORT_CFG_EN = true ∧
      t.vfVectors h.val = (if v.toNat % 2048 = 0 ∨ 1984 < v.toNat % 2048 ∨ (s.fn (256 * h.val)).vfEnable = true then s.vfVectors h.val else v.toNat % 2048) ∧
      OnlyRegs [Reg.HIF_PORT_CFG h.val] s t) ∧
  (∀ (s : State) (h : Fin 4) (v : BitVec 32), v.getLsbD 31 = false →
    Completes (.hifPortCfgWrite h v) s fun t =>
      (∀ f : Fin 256, (t.fn (256 * h.val + f.val)).bme = false ∧ (t.fn (256 * h.val + f.val)).msixEn = false) ∧
      (∀ f, f / 256 ≠ h.val → t.fn f = s.fn f) ∧
      (s.hif.funcs = .empty → t.hostUp h.val = false ∧ t.flag (Reg.HIF_PORT_CFG h.val) Fld.HIF_PORT_CFG_EN = false ∧
        OnlyRegs [Reg.HIF_PORT_CFG h.val, Reg.HIF_PORT_STATUS h.val] s t)) ∧
  (∀ (s : State) (h : Fin 4) (c : PortReset),
    Completes (.hostPortReset h c) s fun t =>
      (∀ f : Fin 256, t.fn (256 * h.val + f.val) = { FuncSt.init with flrAt := some s.mono } ∧ t.flrBusy (256 * h.val + f.val) = true) ∧
      (∀ f, f / 256 ≠ h.val → t.fn f = s.fn f) ∧ t.hostUp h.val = false ∧ (∀ k : Fin 4, k ≠ h → t.hostUp k.val = s.hostUp k.val) ∧
      KMap.get 0 t.hif.perst h.val = (if c = .perst then 1 else KMap.get 0 s.hif.perst h.val) ∧ t.hif.apt = s.hif.apt) ∧
  (∀ (s : State) (f : Fin 1024) (v : BitVec 11),
    Completes (.msixPendingSend f v) s fun t =>
      ((s.vec f.val v.toNat).pend = true → (s.fn f.val).bme = true → (s.fn f.val).msixEn = true → (s.vec f.val v.toNat).masked = false →
        t.out = s.out ++ [.msix f.val v.toNat] ∧ t.vec f.val v.toNat = { s.vec f.val v.toNat with pend := false } ∧
        (∀ x y, y < 2048 → (x, y) ≠ (f.val, v.toNat) → t.vec x y = s.vec x y) ∧ { t with out := s.out, hif := { t.hif with vecs := s.hif.vecs } } = s) ∧
      ((s.vec f.val v.toNat).pend = false ∨ s.vecReady f.val v.toNat = false → t = s))

/-- BME_CLEAR of a function with Bus Master Enable set clears it; its RUNNING and TURN_WAIT rings are PAUSED and its STOPPING rings STOPPED; with no read of it outstanding QUIESCED sets. BME_SET of a presented function takes the configuration given, sets Bus Master Enable and clears QUIESCED, and restarts no ring; of a function not presented it changes nothing. During FLR_BUSY both are answered with Retry Status and change nothing. FLR_START puts a VF's state to its reset values with FLR_BUSY set, moves all its outstanding tags into quarantine and leaves its rings STOPPED with nothing held; other functions stay. FLR_END clears FLR_BUSY of the function, and of a PF's VFs. -/
def Obligations.FunctionWithdrawal : Prop :=
  (∀ (s : State) (f : Fin 1024),
    Completes (.bmeClear f) s fun t =>
      (s.flrBusy f.val = true → t = s.emit (.crs f.val)) ∧
      (s.flrBusy f.val = false → (s.fn f.val).bme = false → t = s) ∧
      (s.flrBusy f.val = false → (s.fn f.val).bme = true →
        (t.fn f.val).bme = false ∧ (∀ x, x ≠ f.val → t.fn x = s.fn x) ∧
        (∀ g, g ∈ s.ringsUsed → s.ringOwner g = f.val →
          (s.ringState g = rsRunning ∨ s.ringState g = rsTurnWait → t.ringState g = rsPaused) ∧ (s.ringState g = rsStopping → t.ringState g = rsStopped)) ∧
        (s.hif.tags.l.any (fun (_, x) => x.func == f.val) = false →
          t.flag (Reg.HIF_FUNC_STATUS (f.val / 256) (f.val % 256)) Fld.HIF_FUNC_STATUS_QUIESCED = true) ∧
        (s.hif.tags.l.any (fun (_, x) => x.func == f.val) = true → (t.fn f.val).draining = true))) ∧
  (∀ (s : State) (f : Fin 1024) (c : FnCfg),
    Completes (.bmeSet f c) s fun t =>
      (s.flrBusy f.val = true → t = s.emit (.crs f.val)) ∧
      (s.flrBusy f.val = false → s.presented f.val = false → t = s) ∧
      (s.flrBusy f.val = false → s.presented f.val = true → (s.fn f.val).vfEnable = false →
        t.fn f.val = { s.fn f.val with
          bme := true
          draining := false
          msixEn := c.msixEn
          relaxed := c.relaxed
          ctoValue := c.cto.toNat
          mrrs := c.mrrs.val
          bar0 := c.bar0.val
          vfEnable := decide (f.val % 256 = 0) && c.vfEnable && decide (s.totalVfs (f.val / 256) ≠ 0) } ∧
        (∀ x, x ≠ f.val → t.fn x = s.fn x) ∧ t.flag (Reg.HIF_FUNC_STATUS (f.val / 256) (f.val % 256)) Fld.HIF_FUNC_STATUS_QUIESCED = false ∧
        RegsBut [Reg.HIF_FUNC_STATUS (f.val / 256) (f.val % 256)] s t ∧ { t with regs := s.regs, hif := { t.hif with funcs := s.hif.funcs } } = s) ∧
      (s.flrBusy f.val = false → s.presented f.val = true → f.val % 256 = 0 → (s.fn f.val).vfEnable = true → c.vfEnable = false →
        ∀ v : Fin 255, (t.fn (f.val + v.val + 1)).bme = false ∧ (t.fn (f.val + v.val + 1)).msixEn = false)) ∧
  (∀ (s : State) (f : Fin 1024), f.val % 256 ≠ 0 →
    Completes (.flrStart f) s fun t =>
      t.fn f.val = { FuncSt.init with flrAt := some s.mono } ∧ t.flrBusy f.val = true ∧ (∀ x, x ≠ f.val → t.fn x = s.fn x) ∧
      t.flag (Reg.HIF_FUNC_STATUS (f.val / 256) (f.val % 256)) Fld.HIF_FUNC_STATUS_QUIESCED = false ∧
      (∀ k x, lfind s.hif.tags.l k = some x → x.func = f.val → lfind t.hif.tags.l k = none ∧ KMap.get 0 t.hif.quar k = s.mono + s.quarSpan) ∧
      (∀ g, g ∈ s.ringsUsed → s.ringOwner g = f.val → t.ringState g = rsStopped ∧ t.ring g = .init) ∧ t.hif.apt = s.hif.apt) ∧
  (∀ (s : State) (f : Fin 1024),
    Completes (.flrStart f) s fun t => t.fn f.val = { FuncSt.init with flrAt := some s.mono } ∧ t.flrBusy f.val = true ∧
      (f.val % 256 = 0 → ∀ v : Fin 256, t.fn (f.val + v.val) = { FuncSt.init with flrAt := some s.mono })) ∧
  (∀ (s : State) (f : Fin 1024),
    Completes (.flrEnd f) s fun t =>
      t.flrBusy f.val = false ∧ (s.flrBusy f.val = true → (t.fn f.val).flrAt = none) ∧
      (f.val % 256 = 0 → ∀ v : Fin 256, t.flrBusy (f.val + v.val) = false) ∧ { t with regs := s.regs, hif := { t.hif with funcs := s.hif.funcs } } = s)

/-- APERTURE_ACCESS through a valid entry of a granule not retired reads or writes the bytes of the granule at its device address and changes no other byte; a read outside completes with Unsupported Request, a write outside is discarded, and both are reported and counted. While a start loads its image, function 0 writes the staging bytes. HIF_APT_WRITE of a valid entry that names an eligible granule stores it at its index; one that names another granule is refused: ERR sets and the map stays. HIF_APT_READ shows the entry and changes no map. HIF_APT_FUNC_WRITE with BASE + COUNT above 2,048 sets ERR and changes nothing else; otherwise it writes the register. HIF_IERR_STATUS_CLEAR clears the bits written 1 and frees the log where its error is among them. -/
def Obligations.ApertureAndInternalErrors : Prop :=
  (∀ (s : State) (f : Fin 1024) (off : BitVec 37) (e : AptEntry) (n : BitVec 13), s.fld Reg.BOOT_STATUS Fld.BOOT_STATUS_STATE ≠ bootLoad →
      s.aperture f.val off.toNat = some e →
    Completes (.apertureAccess f off (.read n) none) s fun t =>
      t.out = s.out ++ [.hostCpl f.val true false (s.ramBytes (granuleAddr e.hbm e.loc + off.toNat % 2 ^ 26) n.toNat)] ∧ t.ram = s.ram ∧
      { t with out := s.out, mem := s.mem, time := s.time, draws := s.draws, regs := s.regs, pmcIn := s.pmcIn } = s) ∧
  (∀ (s : State) (f : Fin 1024) (off : BitVec 37) (e : AptEntry) (b : BitVec 8), s.fld Reg.BOOT_STATUS Fld.BOOT_STATUS_STATE ≠ bootLoad →
      s.aperture f.val off.toNat = some e →
    Completes (.apertureAccess f off (.write [none, some b]) none) s fun t =>
      KMap.get 0 t.ram (granuleAddr e.hbm e.loc + off.toNat % 2 ^ 26 + 1) = b ∧
      (∀ a, a ≠ granuleAddr e.hbm e.loc + off.toNat % 2 ^ 26 + 1 → KMap.get 0 t.ram a = KMap.get 0 s.ram a) ∧ t.out = s.out) ∧
  (∀ (s : State) (f : Fin 1024) (off : BitVec 37) (op : AptOp), (f ≠ 0 ∨ s.fld Reg.BOOT_STATUS Fld.BOOT_STATUS_STATE ≠ bootLoad) →
      s.aperture f.val off.toNat = none →
    Completes (.apertureAccess f off op none) s fun t =>
      Counted (Ctr.HIF_APT_OUTSIDE (f.val / 256)) 1 s t ∧ RegsBut (Ctr.HIF_APT_OUTSIDE (f.val / 256)).regs s t ∧ AerErr.unsupportedRequest ∈ (t.fn f.val).aer ∧
      t.out = s.out ++ [.errMsg f.val .nonFatal] ++ (match op with | .read _ => [.hostCpl f.val false false []] | .write _ => []) ∧ t.ram = s.ram) ∧
  (∀ (s : State) (off : BitVec 37) (b : BitVec 8), s.fld Reg.BOOT_STATUS Fld.BOOT_STATUS_STATE = bootLoad → off.toNat < 2 ^ 26 →
    Completes (.apertureAccess 0 off (.write [some b]) none) s fun t =>
      KMap.get 0 t.boot.staging off.toNat = b ∧ (∀ a, a ≠ off.toNat → KMap.get 0 t.boot.staging a = KMap.get 0 s.boot.staging a) ∧
      { t with boot := { t.boot with staging := s.boot.staging } } = s) ∧
  (∀ (s : State) (v : BitVec 32) (i k : Nat) (hbm : Bool) (loc : Nat), s.fld Reg.HIF_APT_CMD_IDX Fld.HIF_APT_CMD_IDX_INDEX = i → i < 2048 →
      k = v.toNat / 1024 % 4 * 2048 + i → s.flag Reg.HIF_APT_DATA Fld.HIF_APT_DATA_VALID = true → s.flag Reg.HIF_APT_DATA Fld.HIF_APT_DATA_MEM = hbm →
      s.fld Reg.HIF_APT_DATA Fld.HIF_APT_DATA_LOC = loc → s.flag Reg.BOOT_UPG_BUF Fld.BOOT_UPG_BUF_VALID = false →
    Completes (.hifAptWrite v) s fun t =>
      (s.granuleOk hbm loc = true → t.aptEntry k = ⟨true, hbm, loc⟩ ∧ (∀ j, j ≠ k → t.aptEntry j = s.aptEntry j) ∧
        { t with hif := { t.hif with apt := s.hif.apt } } = s) ∧
      (s.granuleOk hbm loc = false → t.flag Reg.HIF_APT_STATUS Fld.HIF_APT_STATUS_ERR = true ∧ OnlyRegs [Reg.HIF_APT_STATUS] s t)) ∧
  (∀ (s : State) (v : BitVec 32) (i : Nat), s.fld Reg.HIF_APT_CMD_IDX Fld.HIF_APT_CMD_IDX_INDEX = i → i < 2048 →
    Completes (.hifAptRead v) s fun t =>
      t.flag Reg.HIF_APT_DATA Fld.HIF_APT_DATA_VALID = (s.aptEntry (v.toNat / 1024 % 4 * 2048 + i)).valid ∧
      t.flag Reg.HIF_APT_DATA Fld.HIF_APT_DATA_MEM = (s.aptEntry (v.toNat / 1024 % 4 * 2048 + i)).hbm ∧ OnlyRegs [Reg.HIF_APT_DATA] s t) ∧
  (∀ (s : State) (f : Fin 1024) (v : BitVec 32),
    Completes (.hifAptFuncWrite f v) s fun t =>
      (2048 < v.toNat / 2 ^ 16 % 2048 + v.toNat % 4096 → t.flag Reg.HIF_APT_STATUS Fld.HIF_APT_STATUS_ERR = true ∧ OnlyRegs [Reg.HIF_APT_STATUS] s t) ∧
      (v.toNat / 2 ^ 16 % 2048 + v.toNat % 4096 ≤ 2048 → t.reg (Reg.HIF_APT_FUNC (f.val / 256) (f.val % 256)) = v &&& 0x07FF0FFF ∧
        OnlyRegs [Reg.HIF_APT_FUNC (f.val / 256) (f.val % 256)] s t)) ∧
  (∀ (s : State) (v : BitVec 32),
    Completes (.hifIerrStatusClear v) s fun t =>
      (∀ n, n < 9 → (t.reg Reg.HIF_IERR_STATUS).getLsbD n = ((s.reg Reg.HIF_IERR_STATUS).getLsbD n && !v.getLsbD n)) ∧
      t.flag Reg.HIF_IERR_LOG0 Fld.HIF_IERR_LOG0_VALID = (s.flag Reg.HIF_IERR_LOG0 Fld.HIF_IERR_LOG0_VALID &&
        !(v.toNat % 512).testBit (s.fld Reg.HIF_IERR_LOG0 Fld.HIF_IERR_LOG0_SOURCE)) ∧ OnlyRegs [Reg.HIF_IERR_STATUS, Reg.HIF_IERR_LOG0] s t)

/-- COMPLETION_TIMEOUT of an outstanding tag whose deadline has come puts the tag in quarantine, records Completion Timeout, counts it, and by what the read was for puts the ring in ERROR, gives the frame TIMEOUT or fails the compare; before the deadline it changes nothing. READ_COMPLETION_RX of the last data before the deadline frees the tag and gives the data to its frame, part of the data is kept, and an error puts the ring in ERROR or gives the frame READ_ERROR; a completion at the deadline changes nothing; one for a quarantined tag frees it and counts HIF_LATE_CPL; any other is an Unexpected Completion. TAG_QUARANTINE_EXPIRE frees a tag when QUAR_SPAN has passed. RING_ERROR of a failed descriptor fetch puts its ring in ERROR. -/
def Obligations.DeviceReads : Prop :=
  (∀ (s : State) (h : Fin 4) (tag : BitVec 14),
    Completes (.completionTimeout h tag) s fun t =>
      (s.tag h.val tag.toNat = none → t = s) ∧
      (∀ x, s.tag h.val tag.toNat = some x → s.mono < x.deadline → t = s) ∧
      (∀ x, s.tag h.val tag.toNat = some x → x.deadline ≤ s.mono →
        t.tag h.val tag.toNat = none ∧ KMap.get 0 t.hif.quar (tagKey h.val tag.toNat) = s.mono + s.quarSpan ∧
        AerErr.completionTimeout ∈ (t.fn x.func).aer ∧ Counted (Ctr.HIF_CPL_TIMEOUT h.val) 1 s t ∧
        (∀ g i c, x.use = .descFetch g i c → g < 65536 → t.ringState g = rsError ∧ (t.ring g).pre = []) ∧
        (∀ g i o, x.use = .txData g i o → (t.ring g).tx = (s.ring g).tx.map (fun y => if y.first = i ∧ y.status = 0 then { y with status := 1 } else y)) ∧
        (∀ g j, x.use = .shadow g → (s.ring g).shadow = some j → (t.ring g).shadow = some { j with failed := true, reading := false }))) ∧
  (∀ (s : State) (f : Fin 1024) (tag : BitVec 14) (x : TagSt) (d : List (BitVec 8)), s.tag (f.val / 256) tag.toNat = some x → x.func = f.val →
    Completes (.readCompletionRx f tag (.data d)) s fun t =>
      (x.deadline ≤ s.mono → t = s) ∧
      (s.mono < x.deadline → x.got.length + d.length < x.len → t.tag (f.val / 256) tag.toNat = some { x with got := x.got ++ d } ∧
        { t with hif := { t.hif with tags := s.hif.tags } } = s) ∧
      (∀ g i o, s.mono < x.deadline → x.len ≤ x.got.length + d.length → x.use = .txData g i o → s.rings.l.all (fun r => r.2.todo.isEmpty) = true →
        t.tag (f.val / 256) tag.toNat = none ∧ t.out = s.out ∧
        (t.ring g).tx = (s.ring g).tx.map (fun y =>
          if y.first = i ∧ !y.reread then { y with data := KMap.set [] y.data o ((x.got ++ d).take x.len) } else y))) ∧
  (∀ (s : State) (f : Fin 1024) (tag : BitVec 14) (x : TagSt) (c : Cpl), s.tag (f.val / 256) tag.toNat = some x → x.func = f.val → s.mono < x.deadline →
      c = .unsupported ∨ c = .abort ∨ c = .poisoned → s.rings.l.all (fun r => r.2.todo.isEmpty) = true →
    Completes (.readCompletionRx f tag c) s fun t => t.tag (f.val / 256) tag.toNat = none ∧
      (c = .poisoned → AerErr.poisonedTlp ∈ (t.fn f.val).aer) ∧
      (∀ g i n, x.use = .descFetch g i n → g < 65536 → t.ringState g = rsError ∧ (t.ring g).pre = []) ∧
      (∀ g i o, x.use = .txData g i o → (s.ring g).tx.any (fun y => y.first == i && y.reread) = false →
        (t.ring g).tx = (s.ring g).tx.map (fun y => if y.first = i ∧ y.status = 0 then { y with status := 2 } else y))) ∧
  (∀ (s : State) (f : Fin 1024) (tag : BitVec 14) (c : Cpl), s.tag (f.val / 256) tag.toNat = none →
    Completes (.readCompletionRx f tag c) s fun t =>
      (lfind s.hif.quar.l (tagKey (f.val / 256) tag.toNat) = none →
        t.out = s.out ++ [.errMsg f.val .nonFatal] ∧ AerErr.unexpectedCompletion ∈ (t.fn f.val).aer ∧ t.regs = s.regs) ∧
      (∀ e, lfind s.hif.quar.l (tagKey (f.val / 256) tag.toNat) = some e → s.rings.l.all (fun r => r.2.todo.isEmpty) = true →
        lfind t.hif.quar.l (tagKey (f.val / 256) tag.toNat) = none ∧ Counted (Ctr.HIF_LATE_CPL (f.val / 256)) 1 s t ∧
        RegsBut (Ctr.HIF_LATE_CPL (f.val / 256)).regs s t ∧ t.out = s.out ∧ t.hif.funcs = s.hif.funcs)) ∧
  (∀ (s : State) (h : Fin 4) (tag : BitVec 14) (e : Nat), lfind s.hif.quar.l (tagKey h.val tag.toNat) = some e →
    Completes (.tagQuarantineExpire h tag) s fun t =>
      (s.mono < e → t = s) ∧
      (e ≤ s.mono → s.rings.l.all (fun r => r.2.todo.isEmpty) = true →
        lfind t.hif.quar.l (tagKey h.val tag.toNat) = none ∧ t.regs = s.regs ∧ t.out = s.out ∧ t.hif.tags = s.hif.tags)) ∧
  (∀ (s : State) (g : BitVec 16) (tag : BitVec 14) (x : TagSt) (i c : Nat), x.use = .descFetch g.toNat i c → x.func < 1024 → s.mono < x.deadline →
      s.hif.tags.l = [(tagKey (x.func / 256) tag.toNat, x)] → s.rings.l.all (fun r => r.2.todo.isEmpty) = true →
    Completes (.ringError g false) s fun t => t.ringState g.toNat = rsError ∧ (t.ring g.toNat).pre = [] ∧ t.hif.tags.l = []) ∧
  (∀ (s : State) (g : BitVec 16) (b : Bool), s.hif.tags.l = [] → exec (.ringError g b) s = .next s)

/-- PRODUCE from the owner, on a ring not in ERROR that takes descriptors, with an index at most the ring's slots ahead of DESC_CONS and not behind the descriptors prefetched, makes the index the producer index; CONSUME with an index at most as far ahead of the consumer index as CPL_PROD makes it the consumer index; with ARM clear nothing else changes. With ARM set and no entry waiting the ring is also armed. A doorbell of a function that is not one 8-byte write at offset 0 counts HIF_DB_MALFORMED; one from another party, with a reserved field set, to a ring in ERROR, or a PRODUCE to an EVENT or SAMPLE ring counts RING_DB_REFUSED; one with another index counts RING_DB_RANGE; these change nothing else. -/
def Obligations.Doorbells : Prop :=
  (∀ (s : State) (r : Req) (whole : Bool) (v w : BitVec 64) (g i : Nat), w = v &&& 0xFFFDFFFFFFFFFFFF → g = dbRing r w → i = w.toNat % 2 ^ 17 →
      (whole = true ∨ ∃ h, r = .hart h) → s.reqBlocked r = false → s.flag Reg.TDM_STATUS Fld.TDM_STATUS_OVERLAP = false →
    Completes (.produce r whole v) s fun t =>
      (s.party r ≠ s.ringOwner g ∨ dbZero r w = false ∨ s.ringState g = rsError ∨ s.ringKind g = rkEvent ∨ s.ringKind g = rkSample →
        Counted (Ctr.RING_DB_REFUSED (g / 16384)) 1 s t ∧ RegsBut (Ctr.RING_DB_REFUSED (g / 16384)).regs s t ∧
        { t with regs := s.regs, pmcIn := s.pmcIn } = s) ∧
      (s.party r = s.ringOwner g → dbZero r w = true → s.ringState g ≠ rsError → s.ringKind g ≠ rkEvent → s.ringKind g ≠ rkSample →
        (s.ringSlots g < idxDiff i (s.descCons g) → Counted (Ctr.RING_DB_RANGE (g / 16384)) 1 s t ∧
          RegsBut (Ctr.RING_DB_RANGE (g / 16384)).regs s t ∧ { t with regs := s.regs, pmcIn := s.pmcIn } = s) ∧
        (idxDiff i (s.descCons g) ≤ s.ringSlots g → (s.ring g).pre.length + (s.ring g).heldDescs ≤ idxDiff i (s.descCons g) →
          (w.getLsbD 48 = false ∨ s.cplProd g = (s.ring g).cplCons) →
          t.ring g = { s.ring g with descProd := i, armed := w.getLsbD 48 || (s.ring g).armed } ∧ (∀ x, x ≠ g → t.ring x = s.ring x) ∧
          { t with rings := s.rings } = s))) ∧
  (∀ (s : State) (r : Req) (whole : Bool) (v w : BitVec 64) (g i : Nat), w = v ||| 0x0002000000000000 → g = dbRing r w → i = w.toNat % 2 ^ 17 →
      (whole = true ∨ ∃ h, r = .hart h) → s.reqBlocked r = false → s.flag Reg.TDM_STATUS Fld.TDM_STATUS_OVERLAP = false →
    Completes (.consume r whole v) s fun t =>
      (s.party r ≠ s.ringOwner g ∨ dbZero r w = false ∨ s.ringState g = rsError →
        Counted (Ctr.RING_DB_REFUSED (g / 16384)) 1 s t ∧ RegsBut (Ctr.RING_DB_REFUSED (g / 16384)).regs s t ∧
        { t with regs := s.regs, pmcIn := s.pmcIn } = s) ∧
      (s.party r = s.ringOwner g → dbZero r w = true → s.ringState g ≠ rsError →
        (idxDiff (s.cplProd g) (s.ring g).cplCons < idxDiff i (s.ring g).cplCons → Counted (Ctr.RING_DB_RANGE (g / 16384)) 1 s t ∧
          RegsBut (Ctr.RING_DB_RANGE (g / 16384)).regs s t ∧ { t with regs := s.regs, pmcIn := s.pmcIn } = s) ∧
        (idxDiff i (s.ring g).cplCons ≤ idxDiff (s.cplProd g) (s.ring g).cplCons → s.ringKind g ≠ rkRx → (w.getLsbD 48 = false ∨ s.cplProd g = i) →
          t.ring g = { s.ring g with cplCons := i, armed := w.getLsbD 48 || (s.ring g).armed } ∧ (∀ x, x ≠ g → t.ring x = s.ring x) ∧
          { t with rings := s.rings } = s))) ∧
  (∀ (s : State) (f : Fin 1024) (v : BitVec 64),
    Completes (.produce (.func f) false v) s (fun t => Counted (Ctr.HIF_DB_MALFORMED (f.val / 256)) 1 s t ∧
      RegsBut (Ctr.HIF_DB_MALFORMED (f.val / 256)).regs s t ∧ { t with regs := s.regs, pmcIn := s.pmcIn } = s) ∧
    Completes (.consume (.func f) false v) s (fun t => Counted (Ctr.HIF_DB_MALFORMED (f.val / 256)) 1 s t ∧
      RegsBut (Ctr.HIF_DB_MALFORMED (f.val / 256)).regs s t ∧ { t with regs := s.regs, pmcIn := s.pmcIn } = s))

/-- For a requester that sees the ring: START of a STOPPED ring with a legal set-up runs and arms it; STOP of a RUNNING, PAUSED or TURN_WAIT ring whose owner can be reached and which holds no punt makes it STOPPING with nothing prefetched, and without access STOPPED; RESET of a STOPPED or ERROR ring puts all its indices to 0 and leaves it STOPPED and empty; in other states each sets REFUSED and changes nothing else. RING_SETUP_WRITE writes its register while the ring is STOPPED, RING_OWNER for the owner function alone, and is otherwise refused. A requester that does not see the ring changes nothing but HIF_VIEW_REFUSED of its port. STOPPING_END ends STOPPING once no work is left. INDEX_WORD_WRITE writes CPL_PROD and DESC_CONS behind the completion area, with no vector while INTR_EN is clear. -/
def Obligations.RingCommands : Prop :=
  (∀ (s : State) (r : Req) (g : BitVec 16) (v : BitVec 32), s.ringView r g.toNat = true → s.flag Reg.TDM_STATUS Fld.TDM_STATUS_OVERLAP = false →
    Completes (.start r g v) s (fun t =>
      (s.ringState g.toNat = rsStopped → s.startOk g.toNat = true → s.cplProd g.toNat = (s.ring g.toNat).cplCons →
        t.ringState g.toNat = rsRunning ∧ t.ring g.toNat = { s.ring g.toNat with armed := true, turnOut := false } ∧
        (∀ x, x ≠ g.toNat → t.ring x = s.ring x) ∧ RegsBut [Reg.RING_CTRL g.toNat] s t ∧ { t with regs := s.regs, rings := s.rings } = s) ∧
      ((s.ringState g.toNat ≠ rsStopped ∧ s.ringState g.toNat ≠ rsPaused) ∨ s.startOk g.toNat = false →
        t.flag (Reg.RING_CTRL g.toNat) Fld.RING_CTRL_REFUSED = true ∧ t.ringState g.toNat = s.ringState g.toNat ∧ OnlyRegs [Reg.RING_CTRL g.toNat] s t)) ∧
    Completes (.stop r g v) s (fun t =>
      (s.ringState g.toNat = rsRunning ∨ s.ringState g.toNat = rsTurnWait → s.ringBme g.toNat = true → (s.ring g.toNat).rx = [] →
        t.ringState g.toNat = rsStopping ∧ t.ring g.toNat = { s.ring g.toNat with pre := [], fetching := false, turnOut := false } ∧
        (∀ x, x ≠ g.toNat → t.ring x = s.ring x) ∧ RegsBut [Reg.RING_CTRL g.toNat] s t ∧ t.out = s.out) ∧
      (s.ringState g.toNat = rsRunning ∨ s.ringState g.toNat = rsTurnWait ∨ s.ringState g.toNat = rsPaused → s.ringBme g.toNat = false →
        t.ringState g.toNat = rsStopped ∧ t.out = s.out ∧ (t.ring g.toNat).tx = [] ∧ (t.ring g.toNat).reserved = 0) ∧
      (s.ringState g.toNat = rsStopped ∨ s.ringState g.toNat = rsStopping ∨ s.ringState g.toNat = rsError →
        t.flag (Reg.RING_CTRL g.toNat) Fld.RING_CTRL_REFUSED = true ∧ t.ringState g.toNat = s.ringState g.toNat ∧ OnlyRegs [Reg.RING_CTRL g.toNat] s t)) ∧
    Completes (.reset r g v) s (fun t =>
      (s.ringState g.toNat = rsStopped ∨ s.ringState g.toNat = rsError →
        t.ringState g.toNat = rsStopped ∧ t.cplProd g.toNat = 0 ∧ t.descCons g.toNat = 0 ∧ t.ring g.toNat = .init ∧ t.out = s.out) ∧
      (s.ringState g.toNat ≠ rsStopped → s.ringState g.toNat ≠ rsError →
        t.flag (Reg.RING_CTRL g.toNat) Fld.RING_CTRL_REFUSED = true ∧ t.ringState g.toNat = s.ringState g.toNat ∧ OnlyRegs [Reg.RING_CTRL g.toNat] s t))) ∧
  (∀ (s : State) (r : Req) (g : BitVec 16) (q : RingReg) (v : BitVec 32), s.ringView r g.toNat = true → s.flag Reg.TDM_STATUS Fld.TDM_STATUS_OVERLAP = false →
    Completes (.ringSetupWrite r g q v) s fun t =>
      (s.ringState g.toNat = rsStopped → q ≠ .owner ∨ s.isOwner r = true → q ≠ .cfg ∨ v.toNat / 2 ^ 29 ≠ 7 →
        t.reg (ringReg g.toNat q) = (match q with | .cfg => v &&& 0xFFBFF800 | .owner => v &&& 0x800003FF | _ => v) ∧ OnlyRegs [ringReg g.toNat q] s t) ∧
      (s.ringState g.toNat ≠ rsStopped → q ≠ .owner ∨ s.isOwner r = true →
        t.flag (Reg.RING_CTRL g.toNat) Fld.RING_CTRL_REFUSED = true ∧ OnlyRegs [Reg.RING_CTRL g.toNat] s t) ∧
      (q = .owner → s.isOwner r = false → t = s)) ∧
  (∀ (s : State) (f : Fin 1024) (g : BitVec 16) (v : BitVec 32), s.ringView (.func f) g.toNat = false →
    ∀ c ∈ [Instr.start (.func f) g v, .stop (.func f) g v, .reset (.func f) g v, .ringSetupWrite (.func f) g .cfg v],
      Completes c s fun t => Counted (Ctr.HIF_VIEW_REFUSED (f.val / 256)) 1 s t ∧ RegsBut (Ctr.HIF_VIEW_REFUSED (f.val / 256)).regs s t ∧
        { t with regs := s.regs, pmcIn := s.pmcIn } = s) ∧
  (∀ (s : State) (g : BitVec 16), s.tab.job = none →
    Completes (.stoppingEnd g) s fun t =>
      (s.ringState g.toNat = rsStopping → (s.ring g.toNat).tx = [] → (s.ring g.toNat).rx = [] → (s.ring g.toNat).turns = [] →
        (s.ring g.toNat).shadow = none → (s.ring g.toNat).held = [] → t.ringState g.toNat = rsStopped ∧ OnlyRegs [Reg.RING_CTRL g.toNat] s t) ∧
      (s.ringState g.toNat ≠ rsStopping ∨ (s.ring g.toNat).tx ≠ [] ∨ (s.ring g.toNat).rx ≠ [] ∨ (s.ring g.toNat).turns ≠ [] → t = s)) ∧
  (∀ (s : State) (g : BitVec 16),
    Completes (.indexWordWrite g) s fun t =>
      ((s.ring g.toNat).unreported = false ∨ s.ringBme g.toNat = false → t = s) ∧
      ((s.ring g.toNat).unreported = true → s.ringBme g.toNat = true → s.ringOwner g.toNat < 1024 →
        s.flag (Reg.RING_CFG g.toNat) Fld.RING_CFG_INTR_EN = false →
        t.out = s.out ++ [.hostWrite (s.ringOwner g.toNat)
          (s.reg64 (Reg.RING_CPL_BASE_LO g.toNat) + entrySize (s.ringKind g.toNat) * s.ringSlots g.toNat)
          (beBytes 4 (s.cplProd g.toNat) ++ beBytes 4 (s.descCons g.toNat))] ∧
        t.ring g.toNat = { s.ring g.toNat with unreported := false } ∧ (∀ x, x ≠ g.toNat → t.ring x = s.ring x) ∧
        { t with out := s.out, rings := s.rings } = s))

/-- DESCRIPTOR_FETCH of a RUNNING ring with posted descriptors and no fetch out issues one read, of at most as many as asked, posted, left before the area's end and carried by one read, into the ring's owner. TX_FRAME_TAKE of a RUNNING TX ring takes the descriptors up to the first EOP, or 16, when all have free slots; the frame's status is what its descriptors alone give; without an EOP among fewer than 16, or without slots, it changes nothing. TX_FRAME_READ_DONE completes a frame whose data is whole, or that failed, and of which no read is to be repeated: each descriptor with the frame's status; a good frame joins the host queue of slice s(4h + r mod 4), or during a ring load the staging bytes; a failed one is not sent. -/
def Obligations.RingTransmit : Prop :=
  (∀ (s : State) (g : BitVec 16) (n : BitVec 8) (f i cnt : Nat), s.ringState g.toNat = rsRunning → (s.ring g.toNat).fetching = false →
      hasDescs (s.ringKind g.toNat) = true → s.ringOwner g.toNat = f → f < 1024 → (s.fn f).bme = true → s.hostUp (f / 256) = true → s.tagsUsed (f / 256) = 0 →
      i = (s.descCons g.toNat + (s.ring g.toNat).heldDescs + (s.ring g.toNat).pre.length) % 2 ^ 17 →
      cnt = min (min n.toNat (idxDiff (s.ring g.toNat).descProd i)) (min (s.ringSlots g.toNat - i % s.ringSlots g.toNat) (s.readMax f / 32)) → 0 < cnt →
      idxDiff (s.ring g.toNat).descProd i ≤ s.ringSlots g.toNat →
    Completes (.descriptorFetch g n) s fun t => ∃ tag, tag < 16384 ∧
      t.tag (f / 256) tag = some ⟨f, .descFetch g.toNat i cnt, 32 * cnt, s.mono + ctoSpan (s.fn (f / 256 * 256)).ctoValue, []⟩ ∧
      t.out = s.out ++ [.hostRead f tag (s.descBase g.toNat + 32 * (i % s.ringSlots g.toNat)) (32 * cnt)] ∧
      t.ring g.toNat = { s.ring g.toNat with fetching := true } ∧ (∀ x, x ≠ g.toNat → t.ring x = s.ring x) ∧ t.regs = s.regs) ∧
  (∀ (s : State) (g : BitVec 16) (n : BitVec 8), s.ringState g.toNat ≠ rsRunning ∨ (s.ring g.toNat).fetching = true ∨ hasDescs (s.ringKind g.toNat) = false →
    exec (.descriptorFetch g n) s = .next s) ∧
  (∀ (s : State) (g : BitVec 16) (k : Nat), s.ringState g.toNat = rsRunning → s.ringKind g.toNat = rkTx →
      ((s.ring g.toNat).pre.take 16).findIdx? txEop = some k → k + 1 ≤ s.freeSlots g.toNat →
    Completes (.txFrameTake g) s fun t =>
      t.descCons g.toNat = (s.descCons g.toNat + (k + 1)) % 2 ^ 17 ∧ (t.ring g.toNat).pre = (s.ring g.toNat).pre.drop (k + 1) ∧
      (t.ring g.toNat).reserved = (s.ring g.toNat).reserved + (k + 1) ∧ RegsBut [Reg.RING_IDX g.toNat] s t ∧
      (t.ring g.toNat).tx.map (fun x => (x.first, x.status)) = (s.ring g.toNat).tx.map (fun x => (x.first, x.status)) ++
        [(s.descCons g.toNat, txStatus ((s.ring g.toNat).pre.take (k + 1)) true)]) ∧
  (∀ (s : State) (g : BitVec 16), s.ringState g.toNat ≠ rsRunning ∨ s.ringKind g.toNat ≠ rkTx ∨ (s.ring g.toNat).pre = [] ∨ s.freeSlots g.toNat = 0 →
    exec (.txFrameTake g) s = .next s) ∧
  (∀ (s : State) (g : BitVec 16) (x : TxFrame) (a n : Nat), (s.ring g.toNat).tx = [x] → s.ringState g.toNat ≠ rsPaused → x.reread = false →
      s.ringOwner g.toNat < 1024 → x.bufs = [(a, n)] →
    Completes (.txFrameReadDone g) s fun t =>
      (x.status = 0 → x.have_ < x.need → t = s) ∧
      (x.status ≠ 0 ∨ x.need ≤ x.have_ → (t.ring g.toNat).tx = [] ∧ t.cplProd g.toNat = (s.cplProd g.toNat + 1) % 2 ^ 17 ∧
        t.out = s.out ++ [.hostWrite (s.ringOwner g.toNat)
          (s.reg64 (Reg.RING_CPL_BASE_LO g.toNat) + entrySize (s.ringKind g.toNat) * (s.cplProd g.toNat % s.ringSlots g.toNat)) (txCpl x.status n)]) ∧
      (x.status ≠ 0 → t.ing = s.ing ∧ t.boot = s.boot) ∧
      (x.status = 0 → x.need ≤ x.have_ → s.ringLoads g.toNat = false → t.boot = s.boot ∧
        qGet t.ing.hostQ (4 * (g.toNat / 16384) + g.toNat % 4) = qGet s.ing.hostQ (4 * (g.toNat / 16384) + g.toNat % 4) ++ [s.ing.nextId] ∧
        (∃ k, t.pkt s.ing.nextId = some k ∧ k.port = 128 + g.toNat / 16384 ∧ k.hasIth = x.ith ∧ (x.data.l.flatMap (·.2)) <+: k.bytes)) ∧
      (x.status = 0 → x.need ≤ x.have_ → s.ringLoads g.toNat = true → t.ing = s.ing ∧
        t.boot.fill = s.boot.fill + (x.data.l.flatMap (·.2)).length))

/-- RX_FRAME_WRITE of a committed frame at the head of a RUNNING ring's writes, whose last bytes fit the one reserved descriptor left, writes them and the completion, in that order, and ends the frame; a frame not committed, cut or punted is left. RX_RING_WAIT_EXPIRE of a queue that does not wait changes nothing; of one whose wait has run out, and whose port is not eligible, it gives the class node room. PUNT_WRITE of a whole punt with no byte left completes its descriptors OK; of one that must end it completes them with that status; of one that finds no descriptor it opens the ring-wait window. PUNT_DRY_EXPIRE before the window closes changes nothing; at its end it ends the punt with TRUNCATED_DISCARD and counts RING_TRUNC. -/
def Obligations.RingReceive : Prop :=
  (∀ (s : State) (g : BitVec 16) (x : RxWrite) (d : List Byte), (s.ring g.toNat).rx = [x] → (s.ring g.toNat).pre = [] → s.ringState g.toNat = rsRunning →
      s.ringKind g.toNat = rkRx → s.ringOwner g.toNat < 1024 → x.punt = none → x.eg = none → x.cut = false → x.used = [] → x.descs = [d] → rxDescOk d = true →
      x.rest.length ≤ rxDescLen d →
    Completes (.rxFrameWrite g) s fun t =>
      t.out = s.out ++ [.hostWrite (s.ringOwner g.toNat) (beAt d 8 8) x.rest,
        .hostWrite (s.ringOwner g.toNat) (s.reg64 (Reg.RING_CPL_BASE_LO g.toNat) + 16 * (s.cplProd g.toNat % s.ringSlots g.toNat))
          (rxCpl 0 x.rest.length true true false x.reason x.source x.instant)] ∧
      (t.ring g.toNat).rx = [] ∧ t.cplProd g.toNat = (s.cplProd g.toNat + 1) % 2 ^ 17 ∧ t.descCons g.toNat = (s.descCons g.toNat + 1) % 2 ^ 17 ∧
      (∀ y, y ≠ g.toNat → t.ring y = s.ring y) ∧ RegsBut [Reg.RING_CTRL g.toNat, Reg.RING_IDX g.toNat] s t) ∧
  (∀ (s : State) (g : BitVec 16), (s.ring g.toNat).rx = [] ∨
      (∃ x l, (s.ring g.toNat).rx = x :: l ∧ (x.punt.isSome = true ∨ x.eg.isSome = true ∨ x.cut = true)) → exec (.rxFrameWrite g) s = .next s) ∧
  (∀ (s : State) (q : BitVec 19),
    (KMap.get 0 s.sch.waits q.toNat = 0 → KMap.get 0 s.sch.waitOver q.toNat ≠ 1 → exec (.rxRingWaitExpire q) s = .next s) ∧
    (∀ n, KMap.get 0 s.sch.waits q.toNat = n + 1 → n + s.ringWait ≤ s.mono → s.portOk (portOfNode (s.queuePort q.toNat)) = false →
      Completes (.rxRingWaitExpire q) s fun t => KMap.get 0 t.sch.waitOver q.toNat = 1 ∧
        (∀ k, k ≠ q.toNat → KMap.get 0 t.sch.waitOver k = KMap.get 0 s.sch.waitOver k) ∧
        (t.sch.waits = s.sch.waits) ∧ t.out = s.out)) ∧
  (∀ (s : State) (g : BitVec 16) (x : RxWrite) (p : Nat), (s.ring g.toNat).rx = [x] → x.punt = some p →
    Completes (.puntWrite g) s fun t =>
      (∀ u, x.endSt = none → x.whole = true → x.rest = [] → s.ringState g.toNat = rsRunning → s.ringOwner g.toNat < 1024 → s.ringKind g.toNat = rkRx →
        (s.ring g.toNat).pre = [] → x.descs = [] → x.used = [u] → u.bad = false →
        t.out = s.out ++ [.hostWrite (s.ringOwner g.toNat) (s.reg64 (Reg.RING_CPL_BASE_LO g.toNat) + 16 * (s.cplProd g.toNat % s.ringSlots g.toNat))
          (rxCpl 0 u.written true true true x.reason x.source x.instant)] ∧ (t.ring g.toNat).rx = []) ∧
      (x.endSt = some 6 → x.used = [] → x.descs = [] → (s.ring g.toNat).pre = [] → (t.ring g.toNat).rx = [] ∧ t.out = s.out ∧ t.regs = s.regs) ∧
      (x.endSt = none → x.rest ≠ [] → x.used = [] → (s.ring g.toNat).pre = [] → x.dry = none →
        (t.ring g.toNat).rx = [{ x with dry := some s.mono }] ∧ t.regs = s.regs ∧ t.out = s.out)) ∧
  (∀ (s : State) (g : BitVec 16) (x : RxWrite) (p d : Nat), (s.ring g.toNat).rx = [x] → x.punt = some p → x.dry = some d →
    Completes (.puntDryExpire g) s fun t =>
      (s.mono < d + s.ringWait → t = s) ∧
      (d + s.ringWait ≤ s.mono → x.used = [] → x.descs = [] → (s.ring g.toNat).pre = [] → (t.ring g.toNat).rx = [] ∧ t.out = s.out ∧
        Counted (Ctr.RING_TRUNC (g.toNat / 16384)) 1 s t ∧ RegsBut (Ctr.RING_TRUNC (g.toNat / 16384)).regs s t))

/-- SHADOW_COMPARE of a SHADOW ring with no compare under way and no descriptor ready changes nothing; a descriptor with fewer free slots than MAX_REPORT + 1 in a ring large enough waits; one with a field out of range, or that can never have its slots, is taken and completes at once with DONE status INVALID; one of a hart-owned ring in order is taken with MAX_REPORT slots more reserved. SHADOW_READ_RETURN of a compare whose read failed ends it with DONE status 0x03; of one with no entry left, with 0x01 when the epoch has changed since its start, else 0x02 when more differences were found than MAX_REPORT, else 0x00. -/
def Obligations.ShadowCompares : Prop :=
  (∀ (s : State) (g : BitVec 16), s.ringKind g.toNat ≠ rkShadow ∨ (s.ring g.toNat).shadow.isSome = true ∨ s.headDesc g.toNat = none →
    exec (.shadowCompare g) s = .next s) ∧
  (∀ (s : State) (g : BitVec 16) (d : List Byte), s.ringKind g.toNat = rkShadow → (s.ring g.toNat).shadow = none → s.headDesc g.toNat = some d →
    Completes (.shadowCompare g) s fun t =>
      (beAt d 1 1 + 1 ≤ s.ringSlots g.toNat → s.freeSlots g.toNat < beAt d 1 1 + 1 → t = s) ∧
      ((s.ringSlots g.toNat < beAt d 1 1 + 1 ∨ (shadowOk d = false ∧ beAt d 1 1 + 1 ≤ s.freeSlots g.toNat)) → s.ringOwner g.toNat < 1024 →
        (t.ring g.toNat).shadow = none ∧ (t.ring g.toNat).reserved = (s.ring g.toNat).reserved ∧ (t.ring g.toNat).pre = (s.ring g.toNat).pre.drop 1 ∧
        t.descCons g.toNat = (s.descCons g.toNat + 1) % 2 ^ 17 ∧ t.cplProd g.toNat = (s.cplProd g.toNat + 1) % 2 ^ 17 ∧
        t.out = s.out ++ [.hostWrite (s.ringOwner g.toNat) (s.reg64 (Reg.RING_CPL_BASE_LO g.toNat) + 16 * (s.cplProd g.toNat % s.ringSlots g.toNat))
          (beBytes 1 0x02 ++ beBytes 1 0x04 ++ beBytes 2 (beAt d 2 2) ++ beBytes 4 (beAt d 4 4) ++ beBytes 4 0 ++ beBytes 4 s.epoch)]) ∧
      (shadowOk d = true → beAt d 1 1 + 1 ≤ s.freeSlots g.toNat → 1024 ≤ s.ringOwner g.toNat →
        (t.ring g.toNat).reserved = (s.ring g.toNat).reserved + 1 + beAt d 1 1 ∧ t.out = s.out ∧
        (∃ j, (t.ring g.toNat).shadow = some j ∧ j.table = beAt d 0 1 ∧ j.left = beAt d 12 4 ∧ j.epoch = s.epoch ∧ j.found = 0 ∧ j.got ≠ []))) ∧
  (∀ (s : State) (g : BitVec 16) (j : ShadowJob), (s.ring g.toNat).shadow = some j → s.ringOwner g.toNat < 1024 → s.ringKind g.toNat = rkShadow →
      s.ringState g.toNat = rsRunning → j.got = [] →
    Completes (.shadowReadReturn g) s fun t =>
      ((j.failed = true ∨ j.left = 0) → (t.ring g.toNat).shadow = none ∧
        t.out = s.out ++ [.hostWrite (s.ringOwner g.toNat) (s.reg64 (Reg.RING_CPL_BASE_LO g.toNat) + 16 * (s.cplProd g.toNat % s.ringSlots g.toNat))
          (beBytes 1 0x02 ++ beBytes 1 (if j.failed = true then 3 else if s.epoch ≠ j.epoch then 1 else if j.maxReport < j.found then 2 else 0) ++
            beBytes 2 j.slice ++ beBytes 4 j.tag ++ beBytes 4 j.found ++ beBytes 4 s.epoch)] ∧ t.cplProd g.toNat = (s.cplProd g.toNat + 1) % 2 ^ 17) ∧
      (j.failed = false → j.left ≠ 0 → j.reading = true → (t.ring g.toNat).shadow = some j ∧ t.out = s.out ∧ t.regs = s.regs)) ∧
  (∀ (s : State) (g : BitVec 16), (s.ring g.toNat).shadow = none → exec (.shadowReadReturn g) s = .next s)

/-- For a hart that runs: PBLH, PBLW and PBLD inside the packet buffers, in reach of the domain and aligned, put the zero-extended big-endian value of their 2, 4 or 8 bytes into rd (x0 discards it) and change nothing else; PBSH, PBSW and PBSD store the low bytes, most significant first, and no other byte; outside they raise an access fault, misaligned a misaligned exception, and change nothing else. EQXRD keeps the instant and returns its short form, EQXRDS the seconds of the last one; in U mode with EQX_U clear both are illegal. LADD to an aligned ledger in reach adds modulo 2^64 and changes no other byte; elsewhere it raises a store access fault. A hart that does not run does nothing. -/
def Obligations.HartInstructions : Prop :=
  (∀ (s : State) (h : Fin 128) (rd : Fin 32) (a : BitVec 64), s.hartRuns h.val = true →
    ∀ p ∈ [(Instr.pblh h rd a, 2), (.pblw h rd a, 4), (.pbld h rd a, 8)], Completes p.1 s fun t =>
      (inPacketBuffer a.toNat p.2 = true → s.domReach (s.hartDom h.val) a.toNat p.2 false false = true → a.toNat % p.2 = 0 →
        t.hart h.val = (if rd = 0 then s.hart h.val else
          { s.hart h.val with x := KMap.set 0 (s.hart h.val).x rd.val (BitVec.ofNat 64 (ofBE (s.ramBytes a.toNat p.2))) }) ∧
        (∀ k, k ≠ h.val → t.hart k = s.hart k) ∧ { t with harts := s.harts } = s) ∧
      (inPacketBuffer a.toNat p.2 = false ∨ s.domReach (s.hartDom h.val) a.toNat p.2 false false = false →
        t = s.emit (.trap h.val .loadFault (s.hart h.val).pc a.toNat)) ∧
      (inPacketBuffer a.toNat p.2 = true → s.domReach (s.hartDom h.val) a.toNat p.2 false false = true → a.toNat % p.2 ≠ 0 →
        t = s.emit (.trap h.val .loadMisaligned (s.hart h.val).pc a.toNat))) ∧
  (∀ (s : State) (h : Fin 128) (a v : BitVec 64), s.hartRuns h.val = true →
    ∀ p ∈ [(Instr.pbsh h a v, 2), (.pbsw h a v, 4), (.pbsd h a v, 8)], Completes p.1 s fun t =>
      (inPacketBuffer a.toNat p.2 = true → s.domReach (s.hartDom h.val) a.toNat p.2 true false = true → a.toNat % p.2 = 0 →
        (∀ i, i < p.2 → KMap.get 0 t.ram (a.toNat + i) = BitVec.ofNat 8 (v.toNat / 256 ^ (p.2 - 1 - i))) ∧
        (∀ x, x < a.toNat ∨ a.toNat + p.2 ≤ x → KMap.get 0 t.ram x = KMap.get 0 s.ram x) ∧ { t with ram := s.ram } = s) ∧
      (inPacketBuffer a.toNat p.2 = false ∨ s.domReach (s.hartDom h.val) a.toNat p.2 true false = false →
        t = s.emit (.trap h.val .storeFault (s.hart h.val).pc a.toNat)) ∧
      (inPacketBuffer a.toNat p.2 = true → s.domReach (s.hartDom h.val) a.toNat p.2 true false = true → a.toNat % p.2 ≠ 0 →
        t = s.emit (.trap h.val .storeMisaligned (s.hart h.val).pc a.toNat))) ∧
  (∀ (s : State) (h : Fin 128) (rd : Fin 32) (user : Bool), s.hartRuns h.val = true → s.eqxOk h.val user = true →
    Completes (.eqxrd h rd user) s (fun t =>
      (t.hart h.val).eqx = s.now ∧ (rd ≠ 0 → KMap.get 0 (t.hart h.val).x rd.val = BitVec.ofNat 64 (s.now % 2 ^ 64)) ∧
      (∀ r, r ≠ rd.val ∨ r = 0 → KMap.get 0 (t.hart h.val).x r = KMap.get 0 (s.hart h.val).x r) ∧ (t.hart h.val).pc = (s.hart h.val).pc ∧
      (∀ k, k ≠ h.val → t.hart k = s.hart k) ∧ { t with harts := s.harts } = s) ∧
    Completes (.eqxrds h rd user) s (fun t =>
      (rd ≠ 0 → KMap.get 0 (t.hart h.val).x rd.val = BitVec.ofNat 64 ((s.hart h.val).eqx / 2 ^ 32 % 2 ^ 48)) ∧ (rd = 0 → t = s) ∧
      (∀ r, r ≠ rd.val → KMap.get 0 (t.hart h.val).x r = KMap.get 0 (s.hart h.val).x r) ∧
      (∀ k, k ≠ h.val → t.hart k = s.hart k) ∧ { t with harts := s.harts } = s)) ∧
  (∀ (s : State) (h : Fin 128) (rd : Fin 32), s.hartRuns h.val = true → s.flag (Reg.CPX_DOM_CFG (s.hartDom h.val)) Fld.CPX_DOM_CFG_EQX_U = false →
    exec (.eqxrd h rd true) s = .next (s.emit (.trap h.val .illegal (s.hart h.val).pc 0)) ∧
    exec (.eqxrds h rd true) s = .next (s.emit (.trap h.val .illegal (s.hart h.val).pc 0))) ∧
  (∀ (s : State) (h : Fin 128) (a v : BitVec 64), s.hartRuns h.val = true →
    Completes (.ladd h a v) s fun t =>
      (ledgerBase ≤ a.toNat → a.toNat + 8 ≤ ledgerEnd → a.toNat % 8 = 0 → s.domReach (s.hartDom h.val) a.toNat 8 true false = true →
        t.ramLE a.toNat 8 = (s.ramLE a.toNat 8 + v.toNat) % 2 ^ 64 ∧
        (∀ x, x < a.toNat ∨ a.toNat + 8 ≤ x → KMap.get 0 t.ram x = KMap.get 0 s.ram x) ∧ { t with ram := s.ram } = s) ∧
      (a.toNat < ledgerBase ∨ ledgerEnd < a.toNat + 8 ∨ a.toNat % 8 ≠ 0 ∨ s.domReach (s.hartDom h.val) a.toNat 8 true false = false →
        t = s.emit (.trap h.val .storeFault (s.hart h.val).pc a.toNat))) ∧
  (∀ (s : State) (h : Fin 128) (rd : Fin 32) (a v : BitVec 64) (u : Bool), s.hartRuns h.val = false →
    ∀ c ∈ [Instr.pblh h rd a, .pblw h rd a, .pbld h rd a, .pbsh h a v, .pbsw h a v, .pbsd h a v, .eqxrd h rd u, .eqxrds h rd u, .ladd h a v],
      exec c s = .next s)

/-- HART_MEMORY_ACCESS of a running hart to table DRAM or HBM that it may reach loads the little-endian value into rd or stores its bytes and no others; a 64-bit load of a ledger reads it; elsewhere above register space it raises an access fault; in register space a 32-bit load of a register outside the key vault returns what the access reads. HPM_OVERFLOW_TRAP of a counter from 3 on whose overflow bit is clear sets the bit and traps; with the bit set it changes nothing. HART_LOST with a spare takes it, and after an uncorrectable fault restarts the hart at its domain's vector; with no spare a correctable fault changes nothing, and an uncorrectable one stops the highest-index running hart, leaves one hart fewer and restarts the failed one. HART_RESET restarts the hart at its domain's vector with RUN as written. -/
def Obligations.HartsAndCores : Prop :=
  (∀ (s : State) (h : Fin 128) (op : HartOp) (a : BitVec 64) (n : Fin 4), s.hartRuns h.val = false → exec (.hartMemoryAccess h op a n none) s = .next s) ∧
  (∀ (s : State) (h : Fin 128) (a v : BitVec 64) (n : Fin 4), s.hartRuns h.val = true → s.hartMemory a.toNat = true →
      s.hartMemory (a.toNat + 2 ^ n.val - 1) = true → s.domReach (s.hartDom h.val) a.toNat (2 ^ n.val) true false = true →
    Completes (.hartMemoryAccess h (.store v) a n none) s fun t =>
      (∀ i, i < 2 ^ n.val → KMap.get 0 t.ram (a.toNat + i) = BitVec.ofNat 8 (v.toNat / 256 ^ i)) ∧
      (∀ x, x < a.toNat ∨ a.toNat + 2 ^ n.val ≤ x → KMap.get 0 t.ram x = KMap.get 0 s.ram x) ∧ t.harts = s.harts ∧ t.out = s.out) ∧
  (∀ (s : State) (h : Fin 128) (a : BitVec 64) (n : Fin 4) (rd : Fin 32), s.hartRuns h.val = true → s.hartMemory a.toNat = true →
      s.hartMemory (a.toNat + 2 ^ n.val - 1) = true → s.domReach (s.hartDom h.val) a.toNat (2 ^ n.val) false false = true →
    Completes (.hartMemoryAccess h (.load rd false) a n none) s fun t =>
      (rd ≠ 0 → KMap.get 0 (t.hart h.val).x rd.val = BitVec.ofNat 64 (s.ramLE a.toNat (2 ^ n.val))) ∧
      (∀ r, r ≠ rd.val ∨ r = 0 → KMap.get 0 (t.hart h.val).x r = KMap.get 0 (s.hart h.val).x r) ∧
      (∀ k, k ≠ h.val → t.hart k = s.hart k) ∧ t.ram = s.ram ∧ t.out = s.out) ∧
  (∀ (s : State) (h : Fin 128) (a : BitVec 64) (rd : Fin 32) (sg : Bool), s.hartRuns h.val = true → ledgerBase ≤ a.toNat → a.toNat + 8 ≤ ledgerEnd →
      a.toNat % 8 = 0 → s.domReach (s.hartDom h.val) a.toNat 8 false false = true →
    Completes (.hartMemoryAccess h (.load rd sg) a 3 none) s fun t =>
      (rd ≠ 0 → KMap.get 0 (t.hart h.val).x rd.val = BitVec.ofNat 64 (s.ramLE a.toNat 8)) ∧ { t with harts := s.harts } = s) ∧
  (∀ (s : State) (h : Fin 128) (op : HartOp) (a : BitVec 64) (n : Fin 4), s.hartRuns h.val = true → 2 ^ 32 ≤ a.toNat →
      (a.toNat < ledgerBase ∨ ledgerEnd ≤ a.toNat) → s.hartMemory a.toNat = false →
    exec (.hartMemoryAccess h op a n none) s = .next (s.emit (.trap h.val
      (match op with | .load .. => .loadFault | .store _ => .storeFault | .fetch => .fetchFault) (s.hart h.val).pc a.toNat))) ∧
  (∀ (s : State) (h : Fin 128) (a : BitVec 64) (rd : Fin 32), s.hartRuns h.val = true → a.toNat < 2 ^ 32 → a.toNat % 4 = 0 → kvcPage a.toNat = none →
    Completes (.hartMemoryAccess h (.load rd false) a 2 none) s fun t =>
      rd ≠ 0 → KMap.get 0 (t.hart h.val).x rd.val = BitVec.ofNat 64 (s.access (.hart h) a.toNat none true).1.toNat) ∧
  (∀ (s : State) (h : Fin 128) (n : Fin 32) (epc : BitVec 64) (k : Fin 9),
    Completes (.hpmOverflowTrap h n epc k) s fun t =>
      (s.hartRuns h.val = true → 3 ≤ n.val → (s.hart h.val).ovf.testBit n.val = false →
        (t.hart h.val).ovf.testBit n.val = true ∧ (∀ m, m ≠ n.val → (t.hart h.val).ovf.testBit m = (s.hart h.val).ovf.testBit m) ∧
        t.out = s.out ++ [.trap h.val .counterOverflow epc.toNat 0] ∧ { t with harts := s.harts, out := s.out } = s) ∧
      (s.hartRuns h.val = false ∨ n.val < 3 ∨ (s.hart h.val).ovf.testBit n.val = true → t = s)) ∧
  (∀ (s : State) (h : Fin 128) (core : Fin 10) (f : CoreFault), s.hartRuns h.val = true →
    Completes (.hartLost h core f) s fun t =>
      (0 < s.fld (Reg.CPX_CAP (h.val / 8)) Fld.CPX_CAP_SPARES →
        t.fld (Reg.CPX_CAP (h.val / 8)) Fld.CPX_CAP_SPARES = s.fld (Reg.CPX_CAP (h.val / 8)) Fld.CPX_CAP_SPARES - 1 ∧
        t.fld (Reg.CPX_CAP (h.val / 8)) Fld.CPX_CAP_HARTS = s.fld (Reg.CPX_CAP (h.val / 8)) Fld.CPX_CAP_HARTS ∧
        t.hart h.val = (if f = .uncorrectable then { s.hart h.val with
          pc := s.fld (Reg.CPX_DOM_VEC_HI (s.hartDom h.val)) Fld.CPX_DOM_VEC_HI_ADDR * 2 ^ 32 + (s.reg (Reg.CPX_DOM_VEC_LO (s.hartDom h.val))).toNat }
          else s.hart h.val) ∧ (∀ k, k ≠ h.val → t.hart k = s.hart k)) ∧
      (s.fld (Reg.CPX_CAP (h.val / 8)) Fld.CPX_CAP_SPARES = 0 → f = .correctable → t = s) ∧
      (∀ x, s.fld (Reg.CPX_CAP (h.val / 8)) Fld.CPX_CAP_SPARES = 0 → f = .uncorrectable → s.topHart (h.val / 8) = some x →
        t.flag (Reg.CPX_HART_CTRL x) Fld.CPX_HART_CTRL_RUN = false ∧
        t.fld (Reg.CPX_CAP (h.val / 8)) Fld.CPX_CAP_HARTS = s.fld (Reg.CPX_CAP (h.val / 8)) Fld.CPX_CAP_HARTS - 1 ∧
        (x ≠ h.val → (t.hart h.val).pc =
          s.fld (Reg.CPX_DOM_VEC_HI (s.hartDom h.val)) Fld.CPX_DOM_VEC_HI_ADDR * 2 ^ 32 + (s.reg (Reg.CPX_DOM_VEC_LO (s.hartDom h.val))).toNat))) ∧
  (∀ (s : State) (h : Fin 128) (v : BitVec 32),
    Completes (.hartReset h v) s fun t =>
      t.hart h.val = { s.hart h.val with
        pc := s.fld (Reg.CPX_DOM_VEC_HI (s.hartDom h.val)) Fld.CPX_DOM_VEC_HI_ADDR * 2 ^ 32 + (s.reg (Reg.CPX_DOM_VEC_LO (s.hartDom h.val))).toNat } ∧
      (∀ k, k ≠ h.val → t.hart k = s.hart k) ∧ t.flag (Reg.CPX_HART_CTRL h.val) Fld.CPX_HART_CTRL_RUN = v.getLsbD 0 ∧
      RegsBut [Reg.CPX_HART_CTRL h.val] s t ∧ { t with regs := s.regs, harts := s.harts } = s)

/-- ICR_TABLE_WRITE of an SA whose reserved bytes are zero installs the fields of ICR_DATA and keeps the key and its generation; with a reserved bit set, an index out of range, or a binding to a full set it sets ERR and changes nothing else; of a receive SC it installs its SCI, VALID and SA. ICR_TABLE_READ puts the 64 bytes of the entry into ICR_DATA and changes no table. ESP_RX_CHECK of a packet whose tail is good counts ICR_RX_ICV_FAIL or ICR_RX_REPLAY and drops the packet where the ICV fails or the replay window does not admit its number; otherwise the number is entered in the window and the packet re-enters as a recirculated packet of its slice. Of no packet it changes nothing. -/
def Obligations.InlineCrypto : Prop :=
  (∀ (s : State) (v : BitVec 32) (d : List Byte) (ing : Bool) (i : Nat), s.fdieUp = true → d = s.icrData → v.toNat / 2 ^ 28 % 8 = ing.toNat →
      i = v.toNat % 2 ^ 17 →
    Completes (.icrTableWrite v) s fun t =>
      (i < 65536 → beAt d 0 1 % 4 = 0 → beAt d 1 1 = 0 → beAt d 36 4 = 0 → beAt d 60 4 = 0 →
        t.sa (saIdx ing i) = ⟨beAt d 0 1, (s.sa (saIdx ing i)).keyGen, beAt d 4 4, beAt d 8 12, beAt d 20 8, beAt d 28 8, beAt d 40 16, beAt d 56 4,
          (s.sa (saIdx ing i)).key, 0⟩ ∧ (∀ k, k ≠ saIdx ing i → t.sa k = s.sa k) ∧ { t with icr := { t.icr with sas := s.icr.sas } } = s) ∧
      (65536 ≤ i ∨ beAt d 0 1 % 4 ≠ 0 ∨ beAt d 1 1 ≠ 0 ∨ beAt d 36 4 ≠ 0 ∨ beAt d 60 4 ≠ 0 →
        t.flag Reg.ICR_STATUS Fld.ICR_STATUS_ERR = true ∧ OnlyRegs [Reg.ICR_STATUS] s t)) ∧
  (∀ (s : State) (v : BitVec 32) (d : List Byte) (i : Nat), s.fdieUp = true → d = s.icrData → v.toNat / 2 ^ 28 % 8 = 2 → i = v.toNat % 2 ^ 17 → i < 1024 →
      beAt d 8 1 % 128 = 0 → beAt d 9 1 = 0 → beAt d 12 52 = 0 →
    Completes (.icrTableWrite v) s fun t => KMap.get .none t.icr.scs i = ⟨beAt d 8 1 == 128, beAt d 0 8, beAt d 10 2⟩ ∧
      (∀ k, k ≠ i → KMap.get .none t.icr.scs k = KMap.get .none s.icr.scs k) ∧ { t with icr := { t.icr with scs := s.icr.scs } } = s) ∧
  (∀ (s : State) (v : BitVec 32) (i : Nat), s.fdieUp = true → v.toNat / 2 ^ 28 % 8 = 3 → i = v.toNat % 2 ^ 17 → beAt s.icrData 0 4 / 2 ^ 31 = 1 →
      (∀ w : Fin 4, (KMap.get .none s.icr.binds (i / 4 * 4 + w.val)).valid = true) →
    Completes (.icrTableWrite v) s fun t => t.flag Reg.ICR_STATUS Fld.ICR_STATUS_ERR = true ∧ OnlyRegs [Reg.ICR_STATUS] s t) ∧
  (∀ (s : State) (v : BitVec 32) (i k : Nat), s.fdieUp = true → k = v.toNat / 2 ^ 28 % 8 → i = v.toNat % 2 ^ 17 →
    Completes (.icrTableRead v) s fun t =>
      (i < icrSize k → (∀ w : Fin 16, t.reg (Reg.ICR_DATA w.val) = BitVec.ofNat 32 (beAt (s.icrEntry k i) (4 * w.val) 4)) ∧
        OnlyRegs ((List.range 16).map Reg.ICR_DATA) s t) ∧
      (icrSize k ≤ i → t.flag Reg.ICR_STATUS Fld.ICR_STATUS_ERR = true ∧ OnlyRegs [Reg.ICR_STATUS] s t)) ∧
  (∀ (s : State) (p : BitVec 32) (k : IPkt) (n : Nat) (h e : Hdr) (a : Sa) (esp : List Byte) (tot pn nonce : Nat) (aad ct : List Byte),
      s.pkt p.toNat = some k → k.fwd = some (.esp n) → k.left = true → k.tail = some true → k.ps.l3At false = some h → k.ps.findK .esp = some e →
      a = s.sa (saIdx true n) → tot = (if h.kind = .ipv4 then h.off + beAt k.bytes (h.off + 2) 2 else h.off + 40 + beAt k.bytes (h.off + 4) 2) →
      esp = (k.bytes.take tot).drop e.off → pn = a.fullPn (beAt esp 4 4) → ct = (esp.drop 16).take (esp.length - 32) →
      aad = (if a.wide = true then beBytes 4 (beAt esp 0 4) ++ beBytes 8 pn else esp.take 8) → nonce = a.espNonce (beAt esp 8 8) →
    Completes (.espRxCheck p) s fun t =>
      (esp.length < 32 ∨ esp.drop (esp.length - 16) ≠ gcmTagBytes a.engineKey nonce aad ct →
        t.pkt p.toNat = none ∧ Counted Ctr.ICR_RX_ICV_FAIL 1 s t ∧ RegsBut Ctr.ICR_RX_ICV_FAIL.regs s t ∧ t.icr = s.icr ∧ t.ing.nextId = s.ing.nextId) ∧
      (32 ≤ esp.length → esp.drop (esp.length - 16) = gcmTagBytes a.engineKey nonce aad ct → a.espFresh pn = false →
        t.pkt p.toNat = none ∧ Counted Ctr.ICR_RX_REPLAY 1 s t ∧ RegsBut Ctr.ICR_RX_REPLAY.regs s t ∧ t.icr = s.icr ∧ t.ing.nextId = s.ing.nextId) ∧
      (32 ≤ esp.length → esp.drop (esp.length - 16) = gcmTagBytes a.engineKey nonce aad ct → a.espFresh pn = true →
        t.sa (saIdx true n) = a.accept pn ∧ t.regs = s.regs ∧ t.ing.nextId = s.ing.nextId + 1 ∧
        qGet t.ing.recircQ k.slice = qGet s.ing.recircQ k.slice ++ [s.ing.nextId] ∧
        (∃ x, t.pkt s.ing.nextId = some x ∧ x.recirc = true ∧ x.slice = k.slice ∧ x.port = k.port ∧ x.stage = .queued))) ∧
  (∀ (s : State) (p : BitVec 32), s.pkt p.toNat = none → exec (.espRxCheck p) s = .next s)

/-- A KVC_CMD write (ENC, DEC, UNWRAP, LOAD_ICR) by the party its page is bound to queues the operation and sets BUSY; while BUSY it sets REFUSED, and while the entropy source fails it is refused with ENTROPY_FAIL; a function outside the binding only counts in KVC_FAULT and HIF_VIEW_REFUSED. ERASE by the owner empties the slot, raises its generation, and ends every operation that uses it with KEY_ERASED; another page ends with NOT_OWNER. KVC_OPERATION_START starts the pending operation of the lowest page, which captures key, generation and inputs. KVC_OPERATION_END gives DOUT the AES result, loads or empties the unwrapped slot by its check value, or loads the SA; a failed check of slot, usage or field ends it with its status and leaves DOUT. KVC_ENTROPY_FAIL ends all operations with ENTROPY_FAIL; ENTROPY_RECOVER sets ENTROPY_OK. KVC_SLOT_CFG_WRITE writes the configuration of an empty slot alone. -/
def Obligations.KeyVault : Prop :=
  (∀ (s : State) (r : Req) (p : Fin 64) (v : BitVec 32), s.kvcBound r p.val = true → s.reqBlocked r = false → s.flag Reg.TDM_STATUS Fld.TDM_STATUS_OVERLAP = false →
    ∀ c ∈ [(Instr.enc r p v, 1), (.dec r p v, 2), (.unwrap r p v, 3), (.loadIcr r p v, 5)], Completes c.1 s fun t =>
      (s.flag (Reg.KVC_STATUS p.val) Fld.KVC_STATUS_BUSY = true →
        t.flag (Reg.KVC_STATUS p.val) Fld.KVC_STATUS_REFUSED = true ∧ OnlyRegs [Reg.KVC_STATUS p.val] s t) ∧
      (s.flag (Reg.KVC_STATUS p.val) Fld.KVC_STATUS_BUSY = false → s.flag Reg.KVC_CFG Fld.KVC_CFG_ENTROPY_OK = false →
        t.fld (Reg.KVC_STATUS p.val) Fld.KVC_STATUS_CODE = 6 ∧ OnlyRegs [Reg.KVC_STATUS p.val] s t) ∧
      (s.flag (Reg.KVC_STATUS p.val) Fld.KVC_STATUS_BUSY = false → s.flag Reg.KVC_CFG Fld.KVC_CFG_ENTROPY_OK = true →
        (∃ o, t.kvcOp p.val = some o ∧ o.cmd = Fld.KVC_CMD_OP.put v c.2 ∧ o.running = false) ∧ (∀ q, q ≠ p.val → t.kvcOp q = s.kvcOp q) ∧
        t.flag (Reg.KVC_STATUS p.val) Fld.KVC_STATUS_BUSY = true ∧ RegsBut [Reg.KVC_STATUS p.val] s t ∧ { t with regs := s.regs, kvc := s.kvc } = s)) ∧
  (∀ (s : State) (f : Fin 1024) (p : Fin 64) (v : BitVec 32), s.kvcBound (.func f) p.val = false →
    ∀ c ∈ [Instr.enc (.func f) p v, .dec (.func f) p v, .unwrap (.func f) p v, .erase (.func f) p v, .loadIcr (.func f) p v], Completes c s fun t =>
      Counted Ctr.KVC_FAULT 1 s t ∧ Counted (Ctr.HIF_VIEW_REFUSED (f.val / 256)) 1 s t ∧
      RegsBut (Ctr.KVC_FAULT.regs ++ (Ctr.HIF_VIEW_REFUSED (f.val / 256)).regs) s t ∧ { t with regs := s.regs, pmcIn := s.pmcIn } = s) ∧
  (∀ (s : State) (r : Req) (p : Fin 64) (v : BitVec 32) (i : Nat), s.kvcBound r p.val = true → s.reqBlocked r = false →
      s.flag Reg.TDM_STATUS Fld.TDM_STATUS_OVERLAP = false → s.flag (Reg.KVC_STATUS p.val) Fld.KVC_STATUS_BUSY = false →
      s.flag Reg.KVC_CFG Fld.KVC_CFG_ENTROPY_OK = true → i = v.toNat % 256 → v.toNat / 2 ^ 8 % 2 ^ 20 = 0 →
    Completes (.erase r p v) s fun t =>
      (s.ownsSlot p.val i = true → t.slotLoaded i = false ∧ t.slotGen i = (s.slotGen i + 1) % 65536 ∧ t.kvcKey i = 0 ∧
        t.fld (Reg.KVC_STATUS p.val) Fld.KVC_STATUS_CODE = 0 ∧
        (∀ q o, q < 64 → q ≠ p.val → s.kvcOp q = some o → s.kvcUses i q o = true → t.kvcOp q = none ∧
          t.fld (Reg.KVC_STATUS q) Fld.KVC_STATUS_CODE = 1 ∧ t.flag (Reg.KVC_STATUS q) Fld.KVC_STATUS_BUSY = false ∧
          (∀ w : Fin 4, t.reg (Reg.KVC_DOUT q w.val) = 0))) ∧
      (s.ownsSlot p.val i = false → t.fld (Reg.KVC_STATUS p.val) Fld.KVC_STATUS_CODE = 8 ∧ t.slotLoaded i = s.slotLoaded i ∧ t.kvcKey i = s.kvcKey i ∧
        Counted Ctr.KVC_OPS 1 s t ∧ RegsBut (Reg.KVC_STATUS p.val :: Ctr.KVC_OPS.regs) s t)) ∧
  (∀ (s : State), s.kvcCores ≤ s.kvcRunning ∨ s.flag Reg.KVC_CFG Fld.KVC_CFG_ENTROPY_OK = false → exec .kvcOperationStart s = .next s) ∧
  (∀ (s : State) (p : Nat) (o : KvcOp) (i : Nat), s.kvcRunning < s.kvcCores → s.flag Reg.KVC_CFG Fld.KVC_CFG_ENTROPY_OK = true → p < 64 →
      s.kvc.ops.l.find? (fun (_, o) => match o with | some x => !x.running | none => false) = some (p, some o) → i = o.cmd.toNat % 256 →
    Completes .kvcOperationStart s fun t =>
      t.kvcOp p = some { o with
        running := true
        code := s.kvcCheck p o.cmd (s.reg (Reg.KVC_ARG p))
        arg := s.reg (Reg.KVC_ARG p)
        gen := s.slotGen i
        key := s.kvcKey i
        kek := s.kvcKey ((s.reg (Reg.KVC_ARG p)).toNat % 256)
        din := s.beWords (Reg.KVC_DIN p) 8
        kcv := s.beWords (Reg.KVC_KCV p) 2 } ∧
      (∀ q, q ≠ p → t.kvcOp q = s.kvcOp q) ∧ { t with kvc := s.kvc } = s) ∧
  (∀ (s : State) (p : Fin 65) (o : KvcOp), p.val < 64 → s.kvcOp p.val = some o → o.running = true →
    Completes (.kvcOperationEnd p) s fun t =>
      t.kvcOp p.val = none ∧ t.flag (Reg.KVC_STATUS p.val) Fld.KVC_STATUS_BUSY = false ∧ t.fld (Reg.KVC_STATUS p.val) Fld.KVC_STATUS_GEN = o.gen % 65536 ∧
      Counted Ctr.KVC_OPS 1 s t ∧
      (o.code ≠ 0 → o.code < 256 → t.fld (Reg.KVC_STATUS p.val) Fld.KVC_STATUS_CODE = o.code ∧
        RegsBut (Reg.KVC_STATUS p.val :: Reg.KVC_CFG :: Ctr.KVC_OPS.regs) s t) ∧
      (o.code = 0 → o.cmd.toNat / 2 ^ 28 = 1 → t.fld (Reg.KVC_STATUS p.val) Fld.KVC_STATUS_CODE = 0 ∧
        (∀ w : Fin 4, t.reg (Reg.KVC_DOUT p.val w.val) = BitVec.ofNat 32 (aesEnc o.key (o.din / 2 ^ 128) >>> (32 * (3 - w.val))))) ∧
      (o.code = 0 → o.cmd.toNat / 2 ^ 28 = 2 → t.fld (Reg.KVC_STATUS p.val) Fld.KVC_STATUS_CODE = 0 ∧
        (∀ w : Fin 4, t.reg (Reg.KVC_DOUT p.val w.val) = BitVec.ofNat 32 (aesDec o.key (o.din / 2 ^ 128) >>> (32 * (3 - w.val))))) ∧
      (o.code = 0 → o.cmd.toNat / 2 ^ 28 = 3 → t.slotGen (o.cmd.toNat % 256) = (s.slotGen (o.cmd.toNat % 256) + 1) % 65536 ∧
        (aesEnc (unwrapKey o) 0 / 2 ^ 64 = o.kcv → t.fld (Reg.KVC_STATUS p.val) Fld.KVC_STATUS_CODE = 0 ∧ t.slotLoaded (o.cmd.toNat % 256) = true ∧
          t.kvcKey (o.cmd.toNat % 256) = unwrapKey o) ∧
        (aesEnc (unwrapKey o) 0 / 2 ^ 64 ≠ o.kcv → t.fld (Reg.KVC_STATUS p.val) Fld.KVC_STATUS_CODE = 4 ∧ t.slotLoaded (o.cmd.toNat % 256) = false ∧
          Counted Ctr.KVC_UNWRAP_FAIL 1 s t)) ∧
      (o.code = 0 → o.cmd.toNat / 2 ^ 28 = 5 →
        t.sa (saIdx (o.arg.getLsbD 31) (o.arg.toNat % 65536)) = { s.sa (saIdx (o.arg.getLsbD 31) (o.arg.toNat % 65536)) with key := o.key, keyGen := o.gen })) ∧
  (∀ (s : State) (p : Fin 65), s.kvcOp p.val = none → exec (.kvcOperationEnd p) s = .next s) ∧
  (∀ s : State,
    Completes .kvcEntropyFail s (fun t => t.flag Reg.KVC_CFG Fld.KVC_CFG_ENTROPY_OK = false ∧ (∀ p, t.kvcOp p = none) ∧
      (∀ p, p < 64 → s.kvcOp p ≠ none → t.fld (Reg.KVC_STATUS p) Fld.KVC_STATUS_CODE = 6 ∧ t.flag (Reg.KVC_STATUS p) Fld.KVC_STATUS_BUSY = false) ∧
      t.kvc.keys = s.kvc.keys ∧ t.icr = s.icr) ∧
    Completes .entropyRecover s (fun t => t.flag Reg.KVC_CFG Fld.KVC_CFG_ENTROPY_OK = true ∧ OnlyRegs [Reg.KVC_CFG] s t)) ∧
  (∀ (s : State) (i : Fin 256) (v : BitVec 32), i.val ≠ 0xFC → i.val ≠ 0xFD →
    Completes (.kvcSlotCfgWrite i v) s fun t =>
      (s.slotLoaded i.val = true → t = s) ∧
      (s.slotLoaded i.val = false → s.sealed = false → t.reg (Reg.KVC_SLOT_CFG i.val) = v &&& 0xE0003F3F ∧ OnlyRegs [Reg.KVC_SLOT_CFG i.val] s t) ∧
      (s.slotLoaded i.val = false → s.sealed = true → s.fld (Reg.KVC_SLOT_CFG i.val) Fld.KVC_SLOT_CFG_OWNER = 0 →
        Counted Ctr.CYC_REFUSED 1 s t ∧ RegsBut Ctr.CYC_REFUSED.regs s t))

/-- NOTICE_PROCESS, while the Cyclometer counts, takes the first notice of a slice's FIFO and counts it in CYC_NOTICES. Of a queue without METERED only the unmetered count of the window rises. A metered one adds 1 and max(0, LENGTH + overhead) to its subject: to the cache entry of subject and parity that is there, else to a new one; in a full set the entry least recently updated goes to the write-backs. A notice from before the open instant also counts as late. While an interval closes and is not frozen, a notice from before its boundary goes to the write-backs of the closing parity. COUNTER_WRITEBACK takes the first write-back of a slice, counts it, and adds it to the counter word of its parity; an uncorrectable word is zero in both banks before, and is marked damaged. INTERVAL_BOUNDARY, when island time has reached the boundary and none is closing, flips the parity, opens the next window at the last boundary reached, and moves the entries of the old parity in all 16 caches to the write-backs; the schedule in the registers takes effect. INTERVAL_FREEZE, 244,141 island cycles after the boundary, freezes the closing bank. Nothing outside the Cyclometer and the named counters changes but the notice ledger. -/
def Obligations.CyclometerCounting : Prop :=
  (∀ (s : State) (e : Fin 16), KMap.get [] s.eg.fifo e.val = [] ∨ s.counting = false → exec (.noticeProcess e) s = .next s) ∧
  (∀ (s : State) (e : Fin 16) (n : Notice) (l : List Notice), KMap.get [] s.eg.fifo e.val = n :: l → s.counting = true →
    Completes (.noticeProcess e) s fun t =>
      KMap.get [] t.eg.fifo e.val = l ∧ Counted Ctr.CYC_NOTICES 1 s t ∧ RegsBut Ctr.CYC_NOTICES.regs s t ∧
      t.ledGet ldNotice e.val 1 = s.ledGet ldNotice e.val 1 + 1 ∧
      { t with eg := s.eg, regs := s.regs, cyc := s.cyc, led := s.led, pmcIn := s.pmcIn } = s ∧
      (s.cyc.closing = none → noticeSubject (s.mapEntry n.queue) n = none →
        t.cyc = { s.cyc with win := { s.cyc.win with unmetered := s.cyc.win.unmetered + 1 } }) ∧
      (∀ x, s.cyc.closing = none → noticeSubject (s.mapEntry n.queue) n = some x →
        t.cyc.win.taken = s.cyc.win.taken + 1 ∧ t.cyc.win.takenBytes = s.cyc.win.takenBytes + s.noticeBytes n ∧
        (s.cyc.win.openAt ≤ n.inst → t.cyc.win.late = s.cyc.win.late ∧ t.cyc.win.latePkts = s.cyc.win.latePkts) ∧
        (n.inst < s.cyc.win.openAt → t.cyc.win.late = true ∧ t.cyc.win.latePkts = s.cyc.win.latePkts + 1 ∧
          t.cyc.win.lateBytes = s.cyc.win.lateBytes + s.noticeBytes n) ∧
        (∀ y, (s.cycCache e.val).find? (fun y => y.subject == x && y.par == s.cyc.par) = some y →
          t.cycCache e.val = (s.cycCache e.val).filter (fun z => !(z.subject == x && z.par == s.cyc.par)) ++
            [⟨x, s.cyc.par, y.pkts + 1, y.bytes + s.noticeBytes n⟩] ∧ t.cycWb e.val = s.cycWb e.val) ∧
        ((s.cycCache e.val).find? (fun y => y.subject == x && y.par == s.cyc.par) = none →
          ((s.cycCache e.val).filter (fun y => Config.cycSet y.subject == Config.cycSet x)).length < 16 →
          t.cycCache e.val = s.cycCache e.val ++ [⟨x, s.cyc.par, 1, s.noticeBytes n⟩] ∧ t.cycWb e.val = s.cycWb e.val) ∧
        (∀ old r, (s.cycCache e.val).find? (fun y => y.subject == x && y.par == s.cyc.par) = none →
          (s.cycCache e.val).filter (fun y => Config.cycSet y.subject == Config.cycSet x) = old :: r → 15 ≤ r.length →
          t.cycCache e.val = (s.cycCache e.val).filter (· != old) ++ [⟨x, s.cyc.par, 1, s.noticeBytes n⟩] ∧
          t.cycWb e.val = s.cycWb e.val ++ [old])) ∧
      (∀ x c, s.cyc.closing = some c → c.frozen = false → n.inst < c.boundary → noticeSubject (s.mapEntry n.queue) n = some x →
        t.cycWb e.val = s.cycWb e.val ++ [⟨x, !s.cyc.par, 1, s.noticeBytes n⟩] ∧ t.cyc.cache = s.cyc.cache ∧ t.cyc.win = s.cyc.win)) ∧
  (∀ (s : State) (e : Fin 16) (w : WordRes), s.cycWb e.val = [] → exec (.counterWriteback e w) s = .next s) ∧
  (∀ (s : State) (e : Fin 16) (w : WordRes) (x : CycEnt) (l : List CycEnt), s.cycWb e.val = x :: l →
    Completes (.counterWriteback e w) s fun t =>
      t.cycWb e.val = l ∧ Counted Ctr.CYC_WRITEBACKS 1 s t ∧ RegsBut Ctr.CYC_WRITEBACKS.regs s t ∧
      { t with regs := s.regs, cyc := s.cyc, pmcIn := s.pmcIn } = s ∧
      (w ≠ .uncorrectable →
        (∀ k, KMap.get (0, 0) t.cyc.bank k = if k = cntKey x.subject x.par then
          ((KMap.get (0, 0) s.cyc.bank k).1 + x.pkts, (KMap.get (0, 0) s.cyc.bank k).2 + x.bytes) else KMap.get (0, 0) s.cyc.bank k) ∧
        t.cyc.damaged = s.cyc.damaged ∧ t.cyc.win = s.cyc.win) ∧
      (w = .uncorrectable →
        (∀ k, KMap.get (0, 0) t.cyc.bank k = if k = cntKey x.subject x.par then (x.pkts, x.bytes)
          else if k = cntKey x.subject (!x.par) then (0, 0) else KMap.get (0, 0) s.cyc.bank k) ∧
        KMap.get 0 t.cyc.damaged (cntKey x.subject s.cyc.par) = 1 ∧ (x.par = s.cyc.par → t.cyc.win.memErr = s.cyc.win.memErr + 1))) ∧
  (∀ s : State, s.counting = false ∨ s.cyc.closing.isSome = true ∨ s.islandNow < s.cyc.next → exec .intervalBoundary s = .next s) ∧
  (∀ (s : State) (b : Nat), s.counting = true → s.cyc.closing = none → s.cyc.next ≤ s.islandNow →
      b = max s.cyc.next (lastBoundary s.cyc.interval s.cyc.phase s.islandNow) →
    Completes .intervalBoundary s fun t =>
      t.cyc.closing = some ⟨s.cyc.win, b, s.cyc.ticks, s.sealed, false, (s.cyc.sec.map (·.ver)).getD 0, s.cycFormat, s.cyc.dual⟩ ∧
      t.cyc.par = !s.cyc.par ∧ t.cyc.win = s.newWin b ∧ t.cyc.bank = s.cyc.bank ∧
      t.cyc.interval = s.regInterval ∧ t.cyc.phase = s.regPhase ∧ t.cyc.next = firstBoundary s.regInterval s.regPhase (b + 2 ^ 32) ∧
      (∀ e, e < 16 → t.cycCache e = (s.cycCache e).filter (fun x => x.par != s.cyc.par) ∧
        t.cycWb e = s.cycWb e ++ (s.cycCache e).filter (fun x => x.par == s.cyc.par)) ∧
      (s.cyc.newSec = none → t.cyc.sec = s.cyc.sec ∧ { t with cyc := s.cyc } = s) ∧
      (∀ x, s.cyc.newSec = some x → t.cyc.sec = some x ∧ t.cyc.newSec = none ∧ t.cycFormat = (Config.cycFormat x.hash).toNat % 256 ∧
        ((Config.cycFormat x.hash).toNat ≠ s.cycFormat → t.cyc.dual = some s.cycFormat ∧ t.flag Reg.CYC_STATUS Fld.CYC_STATUS_DUAL = true) ∧
        RegsBut [Reg.CYC_STATUS] s t ∧ { t with cyc := s.cyc, regs := s.regs } = s)) ∧
  (∀ s : State, s.cyc.closing = none → exec .intervalFreeze s = .next s) ∧
  (∀ (s : State) (x : CycClose), s.cyc.closing = some x → x.frozen = true ∨ s.cyc.ticks < x.tick + 244141 → exec .intervalFreeze s = .next s) ∧
  (∀ (s : State) (x : CycClose), s.cyc.closing = some x → x.frozen = false → x.tick + 244141 ≤ s.cyc.ticks →
    Completes .intervalFreeze s fun t =>
      t.cyc.closing = some { x with frozen := true } ∧ t.cyc.win = s.cyc.win ∧ t.cyc.par = s.cyc.par ∧ t.cyc.cache = s.cyc.cache ∧
      (∀ e, e < 16 → t.cycWb e = (s.cycWb e).filter (fun y => y.par == s.cyc.par)) ∧
      ((∀ e, e < 16 → (s.cycWb e).filter (fun y => y.par != s.cyc.par) = []) → t.cyc.bank = s.cyc.bank) ∧
      RegsBut Ctr.CYC_WRITEBACKS.regs s t ∧ { t with regs := s.regs, cyc := s.cyc, pmcIn := s.pmcIn } = s)

/-- RECORD_CLOSE of a frozen bank with room in store and directory, in format 1 and without dual writing, puts one record behind the held ones: number SEQ + 1, the FLAGS of the window, 128 + 24 n + 32 bytes for n entries, at the store's tail; the closing bank is zeroed, the open one stays, and STORE_FULL is clear. With slot 0xFE empty it waits unpublished; with a key there it carries the MAC, and the directory slot holds its number, format, flags, place and length. With too little store or no slot it writes none: STORE_FULL sets, the counts go on in the open interval, whose record will be EXTENDED with the open instant of the first. A write of CYC_ACK releases the published records of this run at or before the number, modulo 2^32; OLD_RUNS those of other runs. ISLAND_MARKER: the first marker with SERVICE set starts the island's time and counting; a difference of at most 2^-20 s is corrected in phase, a larger one taken at once with DISCONT. ISLAND_MARKER_LOSS after 3,815 island cycles without a marker leaves the island on its own. ISLAND_POWER_UP empties the island, draws a run and a nonce, and seals it if the seal record is in force. CYC_MAC_KEY_LOAD loads slot 0xFE from the running section where its key check holds, raises the slot's generation and publishes what waits. -/
def Obligations.CyclometerRecords : Prop :=
  (∀ s : State, s.cyc.closing = none → exec (.recordClose []) s = .next s) ∧
  (∀ (s : State) (x : CycClose) (bad : List (BitVec 23)), s.cyc.closing = some x → x.frozen = false → exec (.recordClose bad) s = .next s) ∧
  (∀ (s : State) (x : CycClose) (n slot : Nat), s.cyc.closing = some x → x.frozen = true → x.fmt = 1 → x.dual = none → s.cyc.damaged = .empty →
      n = (s.recEntries (!s.cyc.par)).length → s.storeUsed + unitsOf (160 + 24 * n) ≤ 3670016 → s.cyc.recs.length < 256 → s.nextSlot = some slot →
    Completes (.recordClose []) s fun t =>
      t.cyc.closing = none ∧ t.cyc.seq = s.cyc.seq + 1 ∧ t.cyc.tail = (s.cyc.tail + 64 * unitsOf (160 + 24 * n)) % 234881024 ∧
      t.flag Reg.CYC_STATUS Fld.CYC_STATUS_STORE_FULL = false ∧ t.cyc.win = s.cyc.win ∧ t.cyc.run = s.cyc.run ∧
      (∀ k, KMap.get (0, 0) t.cyc.bank k = if k % 2 = s.cyc.par.toNat then KMap.get (0, 0) s.cyc.bank k else (0, 0)) ∧
      (s.slotLoaded 0xFE = false →
        t.cyc.recs = s.cyc.recs ++ [⟨s.cyc.run, (s.cyc.seq + 1) % 2 ^ 32, 1, recFlags x false, s.cyc.tail, 160 + 24 * n, slot, false⟩] ∧
        t.storeBytes s.cyc.tail (160 + 24 * n) = s.recordBytes x (s.cyc.seq + 1) (s.recEntries (!s.cyc.par)) ∧
        RegsBut [Reg.CYC_STATUS, Reg.CYC_WIN_STATUS, Reg.CYC_WIN_OLDEST, Reg.CYC_WIN_FREE] s t ∧ { t with regs := s.regs, cyc := s.cyc } = s) ∧
      (s.slotLoaded 0xFE = true → (∀ r ∈ s.cyc.recs, r.published = true) →
        t.cyc.recs = s.cyc.recs ++ [⟨s.cyc.run, (s.cyc.seq + 1) % 2 ^ 32, 1, recFlags x false, s.cyc.tail, 160 + 24 * n, slot, true⟩] ∧
        t.storeBytes s.cyc.tail (160 + 24 * n) = macRecord (s.kvcKey 0xFE) (s.recordBytes x (s.cyc.seq + 1) (s.recEntries (!s.cyc.par))) ∧
        t.reg (Reg.CYC_DIR_SEQ slot) = BitVec.ofNat 32 (s.cyc.seq + 1) ∧
        t.reg (Reg.CYC_DIR_FMT slot) = BitVec.ofNat 32 (65536 + recFlags x false) ∧
        t.reg (Reg.CYC_DIR_OFFSET slot) = BitVec.ofNat 32 s.cyc.tail ∧ t.reg (Reg.CYC_DIR_LENGTH slot) = BitVec.ofNat 32 (160 + 24 * n) ∧
        { t with regs := s.regs, cyc := s.cyc } = s)) ∧
  (∀ (s : State) (x : CycClose) (n : Nat), s.cyc.closing = some x → x.frozen = true → x.fmt = 1 → x.dual = none →
      s.cyc.bank.wf (fun _ => (0, 0)) = true →
      n = (s.recEntries (!s.cyc.par)).length → 3670016 < s.storeUsed + unitsOf (160 + 24 * n) ∨ 256 ≤ s.cyc.recs.length →
    Completes (.recordClose []) s fun t =>
      t.flag Reg.CYC_STATUS Fld.CYC_STATUS_STORE_FULL = true ∧ t.cyc.closing = none ∧ t.cyc.recs = s.cyc.recs ∧ t.cyc.seq = s.cyc.seq ∧
      t.cyc.store = s.cyc.store ∧ t.cyc.win.extended = true ∧ t.cyc.win.openAt = x.win.openAt ∧
      t.cyc.win.unmetered = x.win.unmetered + s.cyc.win.unmetered ∧
      (∀ k, KMap.get (0, 0) t.cyc.bank (cntKey k s.cyc.par) =
        ((KMap.get (0, 0) s.cyc.bank (cntKey k s.cyc.par)).1 + (KMap.get (0, 0) s.cyc.bank (cntKey k (!s.cyc.par))).1,
         (KMap.get (0, 0) s.cyc.bank (cntKey k s.cyc.par)).2 + (KMap.get (0, 0) s.cyc.bank (cntKey k (!s.cyc.par))).2) ∧
        KMap.get (0, 0) t.cyc.bank (cntKey k (!s.cyc.par)) = (0, 0)) ∧
      RegsBut [Reg.CYC_STATUS] s t ∧ { t with regs := s.regs, cyc := s.cyc } = s) ∧
  (∀ (s : State) (v : BitVec 32), s.metered = true →
    Completes (.cycAckSeq v) s fun t =>
      t.reg Reg.CYC_ACK = v ∧ t.cyc.store = s.cyc.store ∧
      t.cyc.recs = s.cyc.recs.filter (fun r => !(r.published && (r.run == s.cyc.run && decide ((v.toNat + 2 ^ 32 - r.seq) % 2 ^ 32 < 2 ^ 31)))) ∧
      t.fld Reg.CYC_WIN_STATUS Fld.CYC_WIN_STATUS_RECORDS = (t.cyc.recs.filter (·.published)).length % 512 ∧
      { t with regs := s.regs, cyc := s.cyc } = s) ∧
  (∀ (s : State) (v : BitVec 32), s.metered = true → v.getLsbD 0 = true →
    Completes (.oldRuns v) s fun t =>
      t.cyc.recs = s.cyc.recs.filter (fun r => !(r.published && r.run != s.cyc.run)) ∧ t.reg Reg.CYC_ACK = s.reg Reg.CYC_ACK ∧
      (∀ r ∈ s.cyc.recs, r.published = true → r.run ≠ s.cyc.run → t.reg (Reg.CYC_DIR_LENGTH r.slot) = 0) ∧
      { t with regs := s.regs, cyc := s.cyc } = s) ∧
  (∀ (s : State) (f : Nat), s.metered = true → s.flag Reg.TIME_CTRL Fld.TIME_CTRL_SERVICE = true → s.tdieUp = true → s.aon.held = false →
      s.cyc.sec.isSome = true → f = s.time.follower.toNat →
    Completes .islandMarker s fun t =>
      (s.cyc.marker = none → t.cyc.island = s.time.follower ∧ t.cyc.marker = some s.cyc.ticks ∧ t.cyc.win.first = true ∧
        t.cyc.win.openAt = f / 2 ^ 32 ∧ t.flag Reg.CYC_STATUS Fld.CYC_STATUS_COUNTING = true ∧ RegsBut [Reg.CYC_STATUS] s t ∧
        { t with regs := s.regs, cyc := s.cyc } = s) ∧
      (∀ m, s.cyc.marker = some m → m + 954 ≤ s.cyc.ticks → max f s.cyc.island.toNat - min f s.cyc.island.toNat ≤ 2 ^ 44 →
        t = { s with
          cyc := { s.cyc with
            inc := 3 * s.time.followerInc.toNat
            marker := some s.cyc.ticks
            alone := false
            corr := (f : Int) - (s.cyc.island.toNat : Int)
            corrLeft := if s.cyc.alone then 976563 else 954 } }) ∧
      (∀ m, s.cyc.marker = some m → m + 954 ≤ s.cyc.ticks → 2 ^ 44 < max f s.cyc.island.toNat - min f s.cyc.island.toNat →
        t.cyc.island = s.time.follower ∧ t.cyc.win.discont = true ∧ t.cyc.closing = s.cyc.closing ∧ t.cyc.bank = s.cyc.bank ∧ { t with cyc := s.cyc } = s) ∧
      (∀ m, s.cyc.marker = some m → s.cyc.ticks < m + 954 → t = s)) ∧
  (∀ (s : State) (m : Nat), s.cyc.marker = some m →
    (s.cyc.ticks < m + 3815 → exec .islandMarkerLoss s = .next s) ∧
    (m + 3815 ≤ s.cyc.ticks → exec .islandMarkerLoss s = .next { s with cyc := { s.cyc with alone := true, corr := 0, corrLeft := 0 } })) ∧
  (∀ s : State, s.metered = false → exec .islandPowerUp s = .next s) ∧
  (∀ s : State, s.metered = true →
    Completes .islandPowerUp s fun t =>
      t.cyc = { CycSt.init with run := t.cyc.run } ∧ t.flag Reg.CYC_STATUS Fld.CYC_STATUS_SEALED = (s.inForce otpSeal).isSome ∧
      t.flag Reg.CYC_STATUS Fld.CYC_STATUS_COUNTING = false ∧ t.fld Reg.CYC_STATUS Fld.CYC_STATUS_SEAL_COUNT = s.sealCount % 128 ∧
      t.eg.fifo = .empty ∧ (∀ a, islandReg a = false → t.reg a = s.reg a) ∧ t.otp = s.otp ∧ t.kvc = s.kvc) ∧
  (∀ (s : State) (x : CycSec), s.metered = true → s.cyc.sec = some x → s.slotLoaded 0xFF = true →
    Completes .cycMacKeyLoad s fun t =>
      t.slotLoaded 0xFE = (s.macKey x).isSome ∧ t.slotGen 0xFE = (s.slotGen 0xFE + 1) % 65536 ∧ t.kvcKey 0xFE = (s.macKey x).getD 0 ∧
      ((s.macKey x).isSome = true → ∀ r ∈ t.cyc.recs, r.published = true) ∧
      ((s.macKey x).isSome = false → t.cyc = s.cyc ∧ RegsBut [Reg.KVC_SLOT_STATUS 0xFE] s t) ∧ t.cyc.bank = s.cyc.bank)

/-- A signed command runs its checks in order: the hash of AUTH_KEY against the seal record, the signature over bytes 0 to 135, DEVICE against the serial number, NONCE against the nonce (zero is allowed for CONFIRM_FORMAT), and the state. The first that fails sets the status 1 to 5 and nothing else but BUSY. UNSEAL, while sealed, burns the next bit of the seal counter, then clears SEALED and marks the window UNSEALED; with 64 bits burnt it ends with status 6, and with a burn that does not verify with status 7, both still sealed. SEAL, while unsealed, sets SEALED. CONFIRM_FORMAT, while dual writing and naming the new format, ends dual writing. A map write of a refused entry sets ERR and stores nothing; another stores the entry; while sealed every SL write is refused and counted in CYC_REFUSED. A map read puts the entry into CYC_MAP_DATA. The first write of CYC_CH_CFG with EN runs the check: on a pass UP sets; on a failure LINK_FAIL sets. Later writes do nothing. -/
def Obligations.CyclometerSeal : Prop :=
  (∀ (s : State) (c : Instr) (code st : Nat) (m key : List Byte), (c, code) ∈ [(Instr.unseal true, 1), (.seal, 2), (.confirmFormat, 3)] → s.metered = true →
      m = s.mailbox Reg.CYC_AUTH_MBOX → beAt m 0 2 = code → key = (m.drop 32).take 97 →
      (st = 1 ∧ s.authHash ≠ some (sha384 key)) ∨
      (s.authHash = some (sha384 key) ∧
        ((st = 2 ∧ ecdsaOk key (sha384 (m.take 136)) ((m.drop 136).take 96) = false) ∨
         (ecdsaOk key (sha384 (m.take 136)) ((m.drop 136).take 96) = true ∧
          ((st = 3 ∧ beAt m 4 8 ≠ s.serial) ∨
           (beAt m 4 8 = s.serial ∧ st = 4 ∧ (m.drop 12).take 16 ≠ (List.range 16).map (s.regByte Reg.CYC_NONCE) ∧
              (code = 3 → (m.drop 12).take 16 ≠ zeros 16)))))) →
    Completes c s fun t =>
      t.fld Reg.CYC_AUTH_CTRL Fld.CYC_AUTH_CTRL_STATUS = st ∧ t.flag Reg.CYC_AUTH_CTRL Fld.CYC_AUTH_CTRL_BUSY = false ∧ OnlyRegs [Reg.CYC_AUTH_CTRL] s t) ∧
  (∀ (s : State) (m key : List Byte), s.metered = true → m = s.mailbox Reg.CYC_AUTH_MBOX → key = (m.drop 32).take 97 →
      s.authHash = some (sha384 key) → ecdsaOk key (sha384 (m.take 136)) ((m.drop 136).take 96) = true → beAt m 4 8 = s.serial →
      (m.drop 12).take 16 = (List.range 16).map (s.regByte Reg.CYC_NONCE) ∨ beAt m 0 2 = 3 ∧ (m.drop 12).take 16 = zeros 16 →
    (beAt m 0 2 = 1 → s.flag Reg.CYC_STATUS Fld.CYC_STATUS_SEALED = true → s.sealCount < 64 →
      Completes (.unseal true) s (fun t =>
        t.fld Reg.CYC_AUTH_CTRL Fld.CYC_AUTH_CTRL_STATUS = 0 ∧ t.flag Reg.CYC_STATUS Fld.CYC_STATUS_SEALED = false ∧ t.sealed = false ∧
        t.otp.bits = s.otp.bits ||| BitVec.ofNat 16384 (2 ^ (7936 + s.sealCount)) ∧ t.cyc.win.unsealed = true ∧
        RegsBut ([Reg.CYC_AUTH_CTRL, Reg.CYC_STATUS] ++ (List.range 4).map Reg.CYC_NONCE) s t ∧
        { t with regs := s.regs, otp := s.otp, cyc := s.cyc, draws := s.draws } = s) ∧
      Completes (.unseal false) s (fun t =>
        t.fld Reg.CYC_AUTH_CTRL Fld.CYC_AUTH_CTRL_STATUS = 7 ∧ t.sealed = true ∧ t.otp = s.otp ∧ t.cyc = s.cyc)) ∧
    (beAt m 0 2 = 1 → s.flag Reg.CYC_STATUS Fld.CYC_STATUS_SEALED = true → s.sealCount = 64 →
      Completes (.unseal true) s fun t =>
        t.fld Reg.CYC_AUTH_CTRL Fld.CYC_AUTH_CTRL_STATUS = 6 ∧ t.sealed = true ∧ t.otp = s.otp ∧ t.cyc = s.cyc) ∧
    (beAt m 0 2 = 2 → s.flag Reg.CYC_STATUS Fld.CYC_STATUS_SEALED = false →
      Completes .seal s fun t =>
        t.fld Reg.CYC_AUTH_CTRL Fld.CYC_AUTH_CTRL_STATUS = 0 ∧ t.sealed = true ∧ t.otp = s.otp ∧ t.cyc = s.cyc ∧
        RegsBut ([Reg.CYC_AUTH_CTRL, Reg.CYC_STATUS] ++ (List.range 4).map Reg.CYC_NONCE) s t) ∧
    (beAt m 0 2 = 3 → s.cyc.dual.isSome = true → beAt m 28 4 % 65536 = s.cycFormat →
      Completes .confirmFormat s fun t =>
        t.fld Reg.CYC_AUTH_CTRL Fld.CYC_AUTH_CTRL_STATUS = 0 ∧ t.cyc = { s.cyc with dual := none } ∧
        t.flag Reg.CYC_STATUS Fld.CYC_STATUS_DUAL = false ∧ t.sealed = s.sealed ∧ t.otp = s.otp) ∧
    ((beAt m 0 2 = 1 ∧ s.sealed = false → Completes (.unseal true) s fun t =>
        t.fld Reg.CYC_AUTH_CTRL Fld.CYC_AUTH_CTRL_STATUS = 5 ∧ OnlyRegs [Reg.CYC_AUTH_CTRL] s t) ∧
     (beAt m 0 2 = 2 ∧ s.sealed = true → Completes .seal s fun t =>
        t.fld Reg.CYC_AUTH_CTRL Fld.CYC_AUTH_CTRL_STATUS = 5 ∧ OnlyRegs [Reg.CYC_AUTH_CTRL] s t) ∧
     (beAt m 0 2 = 3 ∧ s.cyc.dual = none → Completes .confirmFormat s fun t =>
        t.fld Reg.CYC_AUTH_CTRL Fld.CYC_AUTH_CTRL_STATUS = 5 ∧ OnlyRegs [Reg.CYC_AUTH_CTRL] s t))) ∧
  (∀ (s : State) (v : BitVec 32), s.metered = true →
    Completes (.cycMapWrite v) s (fun t =>
      (s.sealed = true → Counted Ctr.CYC_REFUSED 1 s t ∧ RegsBut Ctr.CYC_REFUSED.regs s t ∧ t.cyc = s.cyc) ∧
      (s.sealed = false → mapBad (s.reg Reg.CYC_MAP_DATA) = true →
        t.flag Reg.CYC_MAP_STATUS Fld.CYC_MAP_STATUS_ERR = true ∧ OnlyRegs [Reg.CYC_MAP_STATUS] s t) ∧
      (s.sealed = false → mapBad (s.reg Reg.CYC_MAP_DATA) = false → t.mapEntry (v.toNat % 2 ^ 19) = s.reg Reg.CYC_MAP_DATA ∧
        (∀ q, q ≠ v.toNat % 2 ^ 19 → t.mapEntry q = s.mapEntry q) ∧ { t with cyc := s.cyc } = s)) ∧
    Completes (.cycMapRead v) s (fun t => t.reg Reg.CYC_MAP_DATA = s.mapEntry (v.toNat % 2 ^ 19) ∧ OnlyRegs [Reg.CYC_MAP_DATA] s t)) ∧
  (∀ (s : State) (c : Fin 2) (v : BitVec 32) (ok : Bool),
    (s.metered = false ∨ KMap.get 0 s.written (Reg.CYC_CH_CFG (24 + c.val)) = 1 → exec (.meterChannelCheck c v ok) s = .next s) ∧
    (s.metered = true → KMap.get 0 s.written (Reg.CYC_CH_CFG (24 + c.val)) ≠ 1 → v.getLsbD 31 = true →
      Completes (.meterChannelCheck c v ok) s fun t =>
        (ok = true → t.flag (Reg.CYC_CH_CFG (24 + c.val)) Fld.CYC_CH_CFG_EN = true ∧ t.flag (Reg.CYC_CH_STATUS (24 + c.val)) Fld.CYC_CH_STATUS_UP = true ∧
          RegsBut [Reg.CYC_CH_CFG (24 + c.val), Reg.CYC_CH_STATUS (24 + c.val)] s t) ∧
        (ok = false → t.flag (Reg.CYC_CH_STATUS (24 + c.val)) Fld.CYC_CH_STATUS_LINK_FAIL = true)))

/-- TRUING_SNAPSHOT, once a further multiple of 2^-10 s has come and no evaluation runs, takes the imbalance of every audited scope that is not PENDING, sets BUSY and counts a snapshot in both dies' fixed counters that are not frozen; nothing else changes. An imbalance that a faulty update leaves in a scope that was balanced is in the snapshot with that delta. While an evaluation runs the snapshot is not taken and counts in TRU_SKIP. TRUING_EVALUATE ends the evaluation: TRU_LAST and TRU_AUDITS follow. A balanced snapshot reports nothing. A failing scope counts in TRU_FAULTS and goes to the log if that is free; a pool part is quarantined, any other scope is rebased by the delta, which is added to the items of cause UNEXPLAINED (the event's location is an open value). A purge of a range with COUNT 0, across quadrants or while one runs sets ERR alone. Another disables every queue of the range, empties it, leaves every other queue, and sets BUSY; DRAIN counts the copies in SCH_DRAIN_PKTS, DISCARD takes their number from the items of cause PURGE in each of two ledgers. PURGE_END clears BUSY. -/
def Obligations.ConservationAudit : Prop :=
  (∀ (s : State) (errs : List LedgerErr), s.trigDue tgAudit (spanExp 10) = false → exec (.truingSnapshot errs) s = .next s) ∧
  (∀ s : State, s.trigDue tgAudit (spanExp 10) = true → s.flag Reg.TRU_CFG Fld.TRU_CFG_EN = true → s.tdieUp = true → s.tru.snap = none →
    Completes (.truingSnapshot []) s fun t =>
      (∃ l, t.tru.snap = some (s.nowT, l) ∧
        (∀ x, x ∈ l ↔ (x.ledger, x.scope) ∈ s.audited ∧ x.delta = s.equation x.ledger x.scope - s.truBase x.ledger x.scope ∧ x.delta ≠ 0)) ∧
      t.flag Reg.TRU_STATUS Fld.TRU_STATUS_BUSY = true ∧
      (∀ d, d < 2 → (s.pmcSt d).frozen = false →
        t.reg64 (Reg.PMC_FIX_AUDITS_LO d) = (s.reg64 (Reg.PMC_FIX_AUDITS_LO d) + 1) % 2 ^ 64) ∧
      RegsBut [Reg.TRU_STATUS, Reg.PMC_FIX_AUDITS_LO 0, Reg.PMC_FIX_AUDITS_LO 0 + 4, Reg.PMC_FIX_AUDITS_LO 1, Reg.PMC_FIX_AUDITS_LO 1 + 4] s t ∧
      { t with tru := s.tru, regs := s.regs, time := s.time } = s) ∧
  (∀ (s : State) (e : LedgerErr), s.trigDue tgAudit (spanExp 10) = true → s.flag Reg.TRU_CFG Fld.TRU_CFG_EN = true → s.tdieUp = true → s.tru.snap = none →
      (e.ledger.val + 1, e.scope.toNat) ∈ s.audited → e.delta.toInt ≠ 0 → e.ledger.val ≠ 4 →
      s.equation (e.ledger.val + 1) e.scope.toNat = s.truBase (e.ledger.val + 1) e.scope.toNat →
    Completes (.truingSnapshot [e]) s fun t =>
      ∃ l, t.tru.snap = some (s.nowT, l) ∧ ⟨e.ledger.val + 1, e.scope.toNat, e.delta.toInt⟩ ∈ l) ∧
  (∀ s : State, s.trigDue tgAudit (spanExp 10) = true → s.flag Reg.TRU_CFG Fld.TRU_CFG_EN = true → s.tdieUp = true → s.tru.snap.isSome = true →
    Completes (.truingSnapshot []) s fun t =>
      t.tru = s.tru ∧ Counted Ctr.TRU_SKIP 1 s t ∧ RegsBut Ctr.TRU_SKIP.regs s t ∧ { t with regs := s.regs, pmcIn := s.pmcIn, time := s.time } = s) ∧
  (∀ s : State, s.tru.snap = none → exec .truingEvaluate s = .next s) ∧
  (∀ (s : State) (i : Nat) (l : List LedgerDelta), s.tru.snap = some (i, l) →
    Completes .truingEvaluate s fun t =>
      t.tru.snap = none ∧ t.flag Reg.TRU_STATUS Fld.TRU_STATUS_BUSY = false ∧
      t.reg Reg.TRU_LAST_FRAC = BitVec.ofNat 32 i ∧ t.reg Reg.TRU_LAST_SEC = BitVec.ofNat 32 (i / 2 ^ 32) ∧
      (l = [] → t.tru.base = s.tru.base ∧ Counted Ctr.TRU_AUDITS 1 s t ∧
        RegsBut (Ctr.TRU_AUDITS.regs ++ [Reg.TRU_STATUS, Reg.TRU_LAST_FRAC, Reg.TRU_LAST_SEC]) s t ∧
        { t with regs := s.regs, tru := s.tru, pmcIn := s.pmcIn } = s) ∧
      (∀ x, l = [x] →
        Counted Ctr.TRU_FAULTS 1 s t ∧ t.flag Reg.TRU_STATUS Fld.TRU_STATUS_FAULT = true ∧
        (s.flag Reg.TRU_STATUS Fld.TRU_STATUS_FAULT = false →
          t.reg Reg.TRU_FAULT_LOG = BitVec.ofNat 32 (2 ^ 31 + x.ledger * 2 ^ 16 + x.scope) ∧
          t.reg Reg.TRU_FAULT_DELTA_LO = (BitVec.ofInt 64 x.delta).setWidth 32 ∧
          t.reg Reg.TRU_FAULT_DELTA_HI = (BitVec.ofInt 64 x.delta).extractLsb' 32 32) ∧
        (s.flag Reg.TRU_STATUS Fld.TRU_STATUS_FAULT = true → t.reg Reg.TRU_FAULT_LOG = s.reg Reg.TRU_FAULT_LOG) ∧
        (x.ledger = 5 → x.scope < 16 → t.quarantined (x.scope / 4) (x.scope % 4) = true ∧ t.tru.base = s.tru.base) ∧
        (x.ledger ≠ 5 → t.truBase x.ledger x.scope = s.truBase x.ledger x.scope + x.delta ∧
          t.reg64 (Reg.TRU_LOSS_ITEMS_LO 5) = (s.reg64 (Reg.TRU_LOSS_ITEMS_LO 5) + (BitVec.ofInt 64 x.delta).toNat) % 2 ^ 64))) ∧
  (∀ (s : State) (first count : Nat), s.tdieUp = true → s.linkQuiesced = false → first = s.fld Reg.TRU_PURGE_FIRST Fld.TRU_PURGE_FIRST_QUEUE →
      count = s.fld Reg.TRU_PURGE_COUNT Fld.TRU_PURGE_COUNT_COUNT →
    (count = 0 ∨ (first + count - 1) / 131072 ≠ first / 131072 ∨ s.flag Reg.TRU_PURGE_STATUS Fld.TRU_PURGE_STATUS_BUSY = true →
      ∀ c ∈ [Instr.drain, .discard], Completes c s fun t =>
        t.flag Reg.TRU_PURGE_STATUS Fld.TRU_PURGE_STATUS_ERR = true ∧ OnlyRegs [Reg.TRU_PURGE_STATUS] s t) ∧
    (0 < count → (first + count - 1) / 131072 = first / 131072 → s.flag Reg.TRU_PURGE_STATUS Fld.TRU_PURGE_STATUS_BUSY = false →
        lsorted s.tm.queues.l = true →
      (∀ c ∈ [Instr.drain, .discard], Completes c s fun t =>
        t.tru.purge = some (first, count) ∧ t.flag Reg.TRU_PURGE_STATUS Fld.TRU_PURGE_STATUS_BUSY = true ∧
        (∀ n, first ≤ n → n < first + count → (t.queue n).copies = [] ∧ (t.qcfg n).getLsbD 29 = false) ∧
        (∀ n, n < first ∨ first + count ≤ n → t.queue n = s.queue n ∧ t.qcfg n = s.qcfg n)) ∧
      (∀ a, a = ((s.tm.queues.keys.filter (fun n => decide (first ≤ n) && decide (n < first + count))).map (fun n => (s.queue n).copies.length)).sum →
        Completes .drain s (fun t => t.reg64 (Ctr.SCH_DRAIN_PKTS (first / 131072)).lo = (s.reg64 (Ctr.SCH_DRAIN_PKTS (first / 131072)).lo + a) % 2 ^ 64 ∧
          t.reg64 (Reg.TRU_LOSS_ITEMS_LO 3) = s.reg64 (Reg.TRU_LOSS_ITEMS_LO 3)) ∧
        Completes .discard s (fun t => t.reg64 (Ctr.SCH_DRAIN_PKTS (first / 131072)).lo = s.reg64 (Ctr.SCH_DRAIN_PKTS (first / 131072)).lo ∧
          t.reg64 (Reg.TRU_LOSS_ITEMS_LO 3) = (s.reg64 (Reg.TRU_LOSS_ITEMS_LO 3) + 2 * (BitVec.ofInt 64 (-(a : Int))).toNat) % 2 ^ 64)))) ∧
  (∀ (s : State) (x : Nat × Nat), s.tru.purge = some x →
    Completes .purgeEnd s fun t => t.tru = { s.tru with purge := none } ∧ t.flag Reg.TRU_PURGE_STATUS Fld.TRU_PURGE_STATUS_BUSY = false ∧
      RegsBut [Reg.TRU_PURGE_STATUS] s t ∧ { t with regs := s.regs, tru := s.tru } = s) ∧
  (∀ s : State, s.tru.purge = none → exec .purgeEnd s = .next s)

/-- SNAP and FREEZE, writes of PMC_CTRL of a die that is up, store FREEZE, AT and OVF_EVT and set the target: the Equinox instant of PMC_SNAP_AT when AT is set, else the write instant plus 2^-20 s. SNAP arms the snapshot, a change of FREEZE arms the freeze or release; the other die's set stays. PMC_TARGET_REACHED before the target changes nothing. At it, the snapshot register of every counter without LATCH takes the counter's value and the others stay, and a freeze or release takes effect. A counter that names a counted event and counts events rises by the counts on their way, modulo 2^64, and sets its sticky bit when it wraps; a frozen set does not count. PMC_VAL_WRITE sets one counter. -/
def Obligations.PerformanceCounters : Prop :=
  (∀ (s : State) (d : Fin 2) (v : BitVec 32), (if d.val = 0 then s.fdieUp else s.tdieUp && !s.linkQuiesced) = true →
    ∀ c ∈ [(Instr.snap d v, v ||| 0x40000000#32), (.freeze d v, v)], Completes c.1 s fun t =>
      t.reg (Reg.PMC_CTRL d.val) = c.2 &&& 0xB0000000 ∧ (∀ e, e ≠ d.val → t.pmcSt e = s.pmcSt e) ∧
      RegsBut [Reg.PMC_CTRL d.val] s t ∧ { t with regs := s.regs, pmc := s.pmc } = s ∧
      (∀ x : Bool × Nat,
        x = (if c.2.getLsbD 29 then (true, s.dieNow d.val / 2 ^ 64 * 2 ^ 64 + (s.reg (Reg.PMC_SNAP_AT_SEC d.val)).toNat * 2 ^ 32 +
          (s.reg (Reg.PMC_SNAP_AT_FRAC d.val)).toNat) else (false, s.mono + 2 ^ 12)) →
        t.pmcSt d.val = { s.pmcSt d.val with
          snap := if c.2.getLsbD 30 then some x else (s.pmcSt d.val).snap
          freeze := if c.2.getLsbD 31 = s.flag (Reg.PMC_CTRL d.val) Fld.PMC_CTRL_FREEZE then (s.pmcSt d.val).freeze
            else some (x.1, x.2, c.2.getLsbD 31) })) ∧
  (∀ (s : State) (d : Fin 2), s.pmcIn = [] →
    Completes (.pmcTargetReached d) s fun t =>
      (∀ x, (s.pmcSt d.val).snap = some x → s.targetReached d.val x = true →
        (t.pmcSt d.val).snap = none ∧ (∀ n, n < 4096 → t.reg64 (Reg.PMC_VAL_LO d.val n) = s.reg64 (Reg.PMC_VAL_LO d.val n)) ∧
        (∀ n, n < 4096 → t.reg64 (Reg.PMC_SNAPV_LO d.val n) =
          if s.flag (Reg.PMC_SEL d.val n) Fld.PMC_SEL_LATCH then s.reg64 (Reg.PMC_SNAPV_LO d.val n) else s.reg64 (Reg.PMC_VAL_LO d.val n))) ∧
      (∀ x, (s.pmcSt d.val).snap = some x → s.targetReached d.val x = false → (t.pmcSt d.val).snap = some x ∧ t.regs = s.regs) ∧
      ((s.pmcSt d.val).snap = none → t.regs = s.regs) ∧
      (∀ k i f, (s.pmcSt d.val).freeze = some (k, i, f) →
        (s.targetReached d.val (k, i) = true → (t.pmcSt d.val).freeze = none ∧ (t.pmcSt d.val).frozen = f) ∧
        (s.targetReached d.val (k, i) = false → (t.pmcSt d.val).freeze = some (k, i, f) ∧ (t.pmcSt d.val).frozen = (s.pmcSt d.val).frozen)) ∧
      (∀ e, e ≠ d.val → t.pmcSt e = s.pmcSt e) ∧ { t with regs := s.regs, pmc := s.pmc } = s) ∧
  (∀ (s : State) (d : Fin 2) (n ovf bit k : Nat) (w : Word), (s.pmcSt d.val).snap = none → (s.pmcSt d.val).freeze = none →
      s.pmcSelected d.val = [(n, w)] → s.pmcSelected (1 - d.val) = [] → n < 4096 → Fld.PMC_SEL_MODE.get w = 0 →
      pmcSource d.val (Fld.PMC_SEL_CLUSTER.get w) (Fld.PMC_SEL_BLOCK.get w) (Fld.PMC_SEL_SUB.get w) (Fld.PMC_SEL_EVENT.get w) = some (ovf, bit) →
      k = ((s.pmcIn.filter (fun x => x.1 == ovf && x.2.1 == bit)).map (·.2.2)).sum →
    Completes (.pmcTargetReached d) s fun t =>
      t.pmcIn = [] ∧
      ((s.pmcSt d.val).frozen = true → t.regs = s.regs) ∧
      ((s.pmcSt d.val).frozen = false → t.reg64 (Reg.PMC_VAL_LO d.val n) = (s.reg64 (Reg.PMC_VAL_LO d.val n) + k) % 2 ^ 64 ∧
        (2 ^ 64 ≤ s.reg64 (Reg.PMC_VAL_LO d.val n) + k → (t.reg (Reg.PMC_OVF d.val (n / 32))).getLsbD (n % 32) = true) ∧
        (s.reg64 (Reg.PMC_VAL_LO d.val n) + k < 2 ^ 64 →
          RegsBut [Reg.PMC_VAL_LO d.val n, Reg.PMC_VAL_LO d.val n + 4] s t ∧ { t with regs := s.regs, pmcIn := s.pmcIn, pmc := s.pmc } = s))) ∧
  (∀ (s : State) (d : Fin 2) (n : Fin 4096) (v : BitVec 64), (if d.val = 0 then s.fdieUp else s.tdieUp && !s.linkQuiesced) = true → s.pmcIn = [] →
    Completes (.pmcValWrite d n v) s fun t =>
      t.reg64 (Reg.PMC_VAL_LO d.val n.val) = v.toNat ∧ OnlyRegs [Reg.PMC_VAL_LO d.val n.val, Reg.PMC_VAL_LO d.val n.val + 4] s t)

/-- COLD_START leaves everything but the island as after reset, with the failed-start counter and BOOT_CAUSE zero, held in reset. PORST_N with the supplies up and a RESTART of the owner function are warm resets: the island and the always-on registers stay; before CONFIRMED each counts as a failed start with cause WINDOW_EXPIRED and the state reached, and in CONFIRMED it does not; PORST_N holds the reset until its release. (That a reset while one is held or in Kickstand mode is not counted is the model's reading, log entry 68.) ROM_START without an identity record in force fails with OTP_INVALID. Else it loads the device key into slot 0xFD, and CYC_KEK into 0xFF on -LM, puts the vault in multi mode, sets the limit in force and enters Kickstand mode when the counter has reached the limit, else LOAD. A REPAIR entry of kind 6 takes a spare of its cluster and enters the repair log. BOOT_GO of the owner function in LOAD or KICKSTAND opens the start window and enters VERIFY; in any other state it sets REFUSED alone; from another function it is counted in HIF_VIEW_REFUSED. FAIL_CLEAR in Kickstand mode clears the counter, and a warm reset follows; else it does nothing. -/
def Obligations.BootStart : Prop :=
  (∀ s : State, Completes .coldStart s fun t =>
    t.reg Reg.BOOT_CAUSE = 0 ∧ t.reg Reg.THM_TRIP_LOG = 0 ∧ t.fld Reg.BOOT_STATUS Fld.BOOT_STATUS_FAILS = 0 ∧
    t.fld Reg.BOOT_STATUS Fld.BOOT_STATUS_LIMIT = 3 ∧ t.bootState = 0 ∧ t.cyc = s.cyc ∧ t.ram = .empty ∧ t.rings = .empty ∧ t.kvc = .init ∧
    (∀ a, a ∉ warmOwn → t.reg a = if islandReg a then s.reg a else resetWord a) ∧
    t.aon = { AonSt.init with
      up := false
      porst := false
      held := true }) ∧
  (∀ (s : State) (c : Instr) (a : AonSt), (c, a) ∈ [(Instr.warmReset, { s.aon with
        held := true
        porst := false
        gateTimeout := false }), (.restart (.func 0), { s.aon with held := false })] →
    Completes c s fun t =>
      WarmReset s t ∧ t.aon = a ∧
      (s.aon.held = false → s.bootState < 7 → s.kickstand = false →
        t.fld Reg.BOOT_STATUS Fld.BOOT_STATUS_FAILS = min 7 (s.fld Reg.BOOT_STATUS Fld.BOOT_STATUS_FAILS + 1) ∧
        t.fld Reg.BOOT_CAUSE Fld.BOOT_CAUSE_CAUSE = 1 ∧ t.fld Reg.BOOT_CAUSE Fld.BOOT_CAUSE_DETAIL = s.bootState) ∧
      (s.aon.held = true ∨ s.bootState = 7 ∨ s.kickstand = true →
        t.fld Reg.BOOT_STATUS Fld.BOOT_STATUS_FAILS = s.fld Reg.BOOT_STATUS Fld.BOOT_STATUS_FAILS ∧ t.reg Reg.BOOT_CAUSE = s.reg Reg.BOOT_CAUSE)) ∧
  (∀ (s : State) (f : Fin 1024), f ≠ 0 → ∀ c ∈ [Instr.restart (.func f), .bootGo (.func f), .failClear (.func f)],
    Completes c s fun t => Counted (Ctr.HIF_VIEW_REFUSED (f.val / 256)) 1 s t ∧ RegsBut (Ctr.HIF_VIEW_REFUSED (f.val / 256)).regs s t ∧
      { t with regs := s.regs, pmcIn := s.pmcIn } = s) ∧
  (∀ s : State, s.aon.held = true ∨ s.bootState ≠ 0 → exec .romStart s = .next s) ∧
  (∀ s : State, s.aon.held = false → s.bootState = 0 →
    (s.inForce otpIdentity = none → Completes .romStart s (StartFailed 0x0F 0 s)) ∧
    ((s.inForce otpIdentity).isSome = true → s.flag Reg.KVC_CFG Fld.KVC_CFG_ENTROPY_OK = true → (∀ i, i < 256 → s.repairEntry i = 0) → s.kvc.ops = .empty →
      Completes .romStart s fun t =>
        (s.kickLimit ≤ s.fld Reg.BOOT_STATUS Fld.BOOT_STATUS_FAILS → t.bootState = 8 ∧ t.kickstand = true) ∧
        (s.fld Reg.BOOT_STATUS Fld.BOOT_STATUS_FAILS < s.kickLimit → t.bootState = 1 ∧ t.kickstand = s.kickstand) ∧
        t.fld Reg.BOOT_STATUS Fld.BOOT_STATUS_LIMIT = s.kickLimit % 8 ∧ t.flag Reg.KVC_CFG Fld.KVC_CFG_MODE = true ∧
        t.slotLoaded 0xFD = true ∧ t.kvcKey 0xFD = s.deviceKey ∧
        (s.metered = true → t.slotLoaded 0xFF = s.cycKek.isSome ∧ t.kvcKey 0xFF = s.cycKek.getD 0) ∧ t.cyc = s.cyc ∧ t.otp = s.otp) ∧
    (∀ c row : Nat, (s.inForce otpIdentity).isSome = true → s.flag Reg.KVC_CFG Fld.KVC_CFG_ENTROPY_OK = true → c < 16 → row < 2 ^ 16 →
        (∀ i, i < 256 → s.repairEntry i = if i = 0 then 2 ^ 31 + 6 * 2 ^ 28 + c * 2 ^ 16 + row else 0) →
        0 < s.fld (Reg.CPX_CAP c) Fld.CPX_CAP_SPARES → s.fld Reg.DEV_REPAIR_STATUS Fld.DEV_REPAIR_STATUS_COUNT = 0 →
      Completes .romStart s fun t =>
        t.fld (Reg.CPX_CAP c) Fld.CPX_CAP_SPARES = s.fld (Reg.CPX_CAP c) Fld.CPX_CAP_SPARES - 1 ∧
        t.fld Reg.DEV_REPAIR_STATUS Fld.DEV_REPAIR_STATUS_COUNT = 1)) ∧
  (∀ s : State, (s.bootState = 1 ∨ s.bootState = 8 →
    Completes (.bootGo (.func 0)) s fun t =>
      t.bootState = 2 ∧ t.boot = { s.boot with window := some (s.mono + max 1 (s.fld Reg.BOOT_CFG Fld.BOOT_CFG_WINDOW) * 2 ^ 32) } ∧
      RegsBut [Reg.BOOT_STATUS] s t ∧ { t with regs := s.regs, boot := s.boot } = s) ∧
    (s.bootState ≠ 1 → s.bootState ≠ 8 → Completes (.bootGo (.func 0)) s fun t =>
      t.flag Reg.BOOT_STATUS Fld.BOOT_STATUS_REFUSED = true ∧ t.bootState = s.bootState ∧ OnlyRegs [Reg.BOOT_STATUS] s t)) ∧
  (∀ s : State, (s.kickstand = false → exec (.failClear (.func 0)) s = .next s) ∧
    (s.kickstand = true → Completes (.failClear (.func 0)) s fun t =>
      WarmReset s t ∧ t.fld Reg.BOOT_STATUS Fld.BOOT_STATUS_FAILS = 0 ∧ t.reg Reg.BOOT_CAUSE = s.reg Reg.BOOT_CAUSE))

/-- IMAGE_VERIFY_END in VERIFY runs the checks in order and fails the start with the cause of the first that fails: 2 the header or section table, 3 the hash of SIGN_KEY against the owner record's, or without one the root key hash, 4 the signature over bytes 0 to 167, 5 the hash tree (the leaf reported is an open value), 6 IMAGE_VERSION below MIN_VERSION. An image without confidential sections that passes is kept; the state is MEMORY, or in Kickstand mode RUNNING on k0. BOOT_MEMORY_UP in MEMORY fails with 8 or 9 and the channel or stack, or starts k0, arms the lease at the end of the window and enters CLUSTERS. CYC_SECTION_VERIFY_END fails with 0x0B for a wrong key hash, a wrong tree, or a section that differs from the running one while sealed, with 4 and detail 1 for its signature, and with 0x0C where the record MAC key fails its check; else RUNNING. CONFIRM of the owner function in RUNNING within the window enters CONFIRMED, clears the counter outside Kickstand mode and sets the lease end one SPAN later; at or past the window's close it fails with WINDOW_EXPIRED, and in any other state sets REFUSED. WINDOW_EXPIRED fails a start once its window has closed. BOOT_ABORT of domain 0 fails a start in CLUSTERS to RUNNING with its code. A start that fails counts and resets the device, but in Kickstand mode returns there. -/
def Obligations.BootImage : Prop :=
  (∀ s : State, s.bootState ≠ 2 → exec .imageVerifyEnd s = .next s) ∧
  (∀ (s : State) (rd : ImgRd), s.bootState = 2 → rd = s.stagingRd →
    (∀ d, formatFault rd = some d → Completes .imageVerifyEnd s (StartFailed 2 d s)) ∧
    (formatFault rd = none →
      (some (sha384 (imgKey rd)) ≠ (match s.ownerHash with | some h => some h | none => s.rootHash) → Completes .imageVerifyEnd s (StartFailed 3 0 s)) ∧
      (some (sha384 (imgKey rd)) = (match s.ownerHash with | some h => some h | none => s.rootHash) →
        (sigOk rd = false → Completes .imageVerifyEnd s (StartFailed 4 0 s)) ∧
        (sigOk rd = true →
          (rootOk rd (imgLength rd) = false → Completes .imageVerifyEnd s fun t => ∃ leaf, leaf < leaves (imgLength rd) ∧ StartFailed 5 leaf s t) ∧
          (rootOk rd (imgLength rd) = true →
            (rdBE rd 8 4 < s.minVersion → Completes .imageVerifyEnd s (StartFailed 6 (rdBE rd 8 4 % 65536) s)) ∧
            (s.minVersion ≤ rdBE rd 8 4 → (∀ i, i < imgSections rd → (secRow rd i).conf = false) →
              Completes .imageVerifyEnd s fun t =>
                t.boot.img = some ⟨rdBE rd 8 4, rdBE rd 12 4,
                  (List.range (imgSections rd)).map (fun i => ⟨(secRow rd i).kind, rdBytes rd (secRow rd i).off (secRow rd i).len⟩)⟩ ∧
                t.cyc = s.cyc ∧ t.kvc = s.kvc ∧ (s.kickstand = false → t.bootState = 3) ∧
                (s.kickstand = true → t.bootState = 6 ∧ t.reg Reg.BOOT_IMAGE_VER = BitVec.ofNat 32 (rdBE rd 8 4) ∧
                  (0 < s.fld (Reg.CPX_CAP 0) Fld.CPX_CAP_HARTS → t.flag (Reg.CPX_HART_CTRL 0) Fld.CPX_HART_CTRL_RUN = true)))))))) ∧
  (∀ s : State, s.bootState = 3 →
    (∀ c, Completes (.bootMemoryUp (some (.tdc c))) s fun t =>
      t.fld Reg.BOOT_CAUSE Fld.BOOT_CAUSE_CAUSE = 8 ∧ t.fld Reg.BOOT_CAUSE Fld.BOOT_CAUSE_DETAIL = c.val ∧ (s.kickstand = false → t.bootState = 0)) ∧
    (∀ h, Completes (.bootMemoryUp (some (.hbm h))) s fun t =>
      t.fld Reg.BOOT_CAUSE Fld.BOOT_CAUSE_CAUSE = 9 ∧ t.fld Reg.BOOT_CAUSE Fld.BOOT_CAUSE_DETAIL = h.val ∧ (s.kickstand = false → t.bootState = 0)) ∧
    (∀ i, s.boot.img = some i → Completes (.bootMemoryUp none) s fun t =>
      t.bootState = 4 ∧ t.time.lease = s.boot.window ∧ t.reg Reg.BOOT_IMAGE_VER = BitVec.ofNat 32 i.version ∧
      t.reg Reg.BOOT_STATE_VER = BitVec.ofNat 32 i.state ∧ t.flag (Reg.CPX_CAP 0) Fld.CPX_CAP_POWERED = true ∧
      (∀ h, h < s.fld (Reg.CPX_CAP 0) Fld.CPX_CAP_HARTS → h < 8 → t.flag (Reg.CPX_HART_CTRL h) Fld.CPX_HART_CTRL_RUN = true) ∧ t.cyc = s.cyc)) ∧
  (∀ s : State, s.bootState ≠ 3 → exec (.bootMemoryUp none) s = .next s) ∧
  (∀ (s : State) (i : Img) (d : List Byte) (rd : ImgRd), s.bootState = 4 ∨ s.bootState = 5 → s.boot.img = some i → i.section 4 = some d → rd = listRd d →
    (s.metered = false → Completes .cycSectionVerifyEnd s fun t => t.bootState = 6 ∧ OnlyRegs [Reg.BOOT_STATUS] s t) ∧
    (s.metered = true →
      (some (sha384 (imgKey rd)) ≠ s.cycImageHash → Completes .cycSectionVerifyEnd s (StartFailed 0x0B 0 s)) ∧
      (some (sha384 (imgKey rd)) = s.cycImageHash →
        (sigOk rd = false → Completes .cycSectionVerifyEnd s (StartFailed 4 1 s)) ∧
        (sigOk rd = true → rootOk rd d.length = false → Completes .cycSectionVerifyEnd s (StartFailed 0x0B 0 s)) ∧
        (sigOk rd = true → rootOk rd d.length = true →
          (∀ x, s.cyc.sec = some x → s.sealed = true → x.hash ≠ sha384 d → Completes .cycSectionVerifyEnd s (StartFailed 0x0B 1 s)) ∧
          (s.cyc.sec = none →
            Completes .cycSectionVerifyEnd s fun t =>
              if (s.macKey (cycSec d)).isSome then t.bootState = 6 ∧ t.cyc.sec = some (cycSec d) ∧ t.cycFormat = (Config.cycFormat (sha384 d)).toNat % 256
              else StartFailed 0x0C 0 s t))))) ∧
  (∀ s : State, (s.bootState ≠ 6 → Completes (.confirm (.func 0)) s fun t =>
      t.flag Reg.BOOT_STATUS Fld.BOOT_STATUS_REFUSED = true ∧ t.bootState = s.bootState ∧ OnlyRegs [Reg.BOOT_STATUS] s t) ∧
    (∀ w, s.bootState = 6 → s.boot.window = some w →
      (s.mono < w → Completes (.confirm (.func 0)) s fun t =>
        t.bootState = 7 ∧ t.boot = { s.boot with
          window := none
          span := s.fld Reg.BOOT_LEASE_CFG Fld.BOOT_LEASE_CFG_SPAN } ∧
        t.time = { s.time with lease := some (s.mono + s.fld Reg.BOOT_LEASE_CFG Fld.BOOT_LEASE_CFG_SPAN * 2 ^ 32) } ∧
        (s.kickstand = false → t.fld Reg.BOOT_STATUS Fld.BOOT_STATUS_FAILS = 0) ∧
        (s.kickstand = true → t.fld Reg.BOOT_STATUS Fld.BOOT_STATUS_FAILS = s.fld Reg.BOOT_STATUS Fld.BOOT_STATUS_FAILS) ∧
        (s.kvc.ops = .empty → t.flag Reg.KVC_CFG Fld.KVC_CFG_MODE = s.kickstand) ∧ RegsBut [Reg.BOOT_STATUS, Reg.KVC_CFG] s t ∧
        { t with regs := s.regs, boot := s.boot, time := s.time } = s) ∧
      (w ≤ s.mono → Completes (.confirm (.func 0)) s (StartFailed 1 6 s)))) ∧
  (∀ (s : State) (w : Nat), 2 ≤ s.bootState → s.bootState ≤ 6 → s.boot.window = some w →
    (s.mono < w → exec .windowExpired s = .next s) ∧ (w ≤ s.mono → Completes .windowExpired s (StartFailed 1 s.bootState s))) ∧
  (∀ s : State, s.bootState < 2 ∨ 6 < s.bootState → exec .windowExpired s = .next s) ∧
  (∀ (s : State) (h : Fin 128) (code : BitVec 8), s.isOwner (.hart h) = true → s.flag Reg.TDM_STATUS Fld.TDM_STATUS_OVERLAP = false →
    (4 ≤ s.bootState → s.bootState ≤ 6 → Completes (.firmwareAbort (.hart h) code) s (StartFailed 0x0D code.toNat s)) ∧
    (s.bootState < 4 ∨ 6 < s.bootState → exec (.firmwareAbort (.hart h) code) s = .next s)) ∧
  (∀ (s : State) (code : BitVec 8), s.isOwner (.func 0) = true → exec (.firmwareAbort (.func 0) code) s = .next s)

/-- A write of IDENTITY or SEAL ends with PROTECTED. OWNER and POLICY written through OTP_WR_CMD end with NOT_AUTHORIZED once an OWNER generation is in force, and for a hart (the model's reading, log entry 69); a REPAIR of kind 7 ends with INVALID. With nothing waiting, another write takes the lowest free generation, or the next REPAIR entry, and sets BUSY; with none left it ends with OTP_EXHAUSTED, without the programming rail with NO_SUPPLY, and nothing is burnt. OTP_BURN_END of a burn that verifies burns the data and VALID; of one that does not, it burns VOID and leaves the generation in force, with code OTP_FAIL. A signed owner command ends at its first failing check with status 1 to 5 and changes nothing else. UPGRADE_UNLOCK with LOCK set permits the next START; OTP_WRITE of OWNER or POLICY, whose signature also covers the write data, starts the write. -/
def Obligations.OneTimeSettings : Prop :=
  (∀ (s : State) (b : Bool), s.isOwner (.func 0) = true →
    (∀ c ∈ [Instr.otpWrIdentity (.func 0) b, .otpWrSeal (.func 0) b], Completes c s fun t =>
      t.fld Reg.OTP_STATUS Fld.OTP_STATUS_CODE = 4 ∧ OnlyRegs [Reg.OTP_STATUS] s t) ∧
    ((s.inForce otpOwner).isSome = true → ∀ c ∈ [Instr.otpWrOwner (.func 0) b, .otpWrPolicy (.func 0) b], Completes c s fun t =>
      t.fld Reg.OTP_STATUS Fld.OTP_STATUS_CODE = 5 ∧ OnlyRegs [Reg.OTP_STATUS] s t)) ∧
  (∀ (s : State) (h : Fin 128) (b : Bool), s.isOwner (.hart h) = true → s.flag Reg.TDM_STATUS Fld.TDM_STATUS_OVERLAP = false →
    (∀ c ∈ [Instr.otpWrOwner (.hart h) b, .otpWrPolicy (.hart h) b], Completes c s fun t =>
      t.fld Reg.OTP_STATUS Fld.OTP_STATUS_CODE = 5 ∧ OnlyRegs [Reg.OTP_STATUS] s t) ∧
    ((s.reg (Reg.OTP_WR_DATA 0)).toNat / 2 ^ 28 % 8 = 7 → Completes (.otpWrRepair (.hart h) b) s fun t =>
      t.fld Reg.OTP_STATUS Fld.OTP_STATUS_CODE = 6 ∧ OnlyRegs [Reg.OTP_STATUS] s t)) ∧
  (∀ (s : State) (c : Bool → Instr) (r : Nat), s.otp.writes = [] → s.flag Reg.TDM_STATUS Fld.TDM_STATUS_OVERLAP = false →
      ((s.isOwner (.func 0) = true ∧ s.inForce otpOwner = none ∧ (c, r) ∈ [(fun b => Instr.otpWrOwner (.func 0) b, 1), (fun b => .otpWrPolicy (.func 0) b, 2)]) ∨
       (∃ h : Fin 128, s.isOwner (.hart h) = true ∧ (s.reg (Reg.OTP_WR_DATA 0)).toNat / 2 ^ 28 % 8 ≠ 7 ∧ c = (fun b => .otpWrRepair (.hart h) b) ∧ r = 4)) →
    (∀ g, (if r = 4 then (if s.repairUsed < 256 then some s.repairUsed else none) else s.freeGen r) = some g → Completes (c true) s fun t =>
      t.otp = ⟨s.otp.bits, [⟨r, s.otpData r, false, some g⟩]⟩ ∧ t.flag Reg.OTP_STATUS Fld.OTP_STATUS_BUSY = true ∧
      RegsBut [Reg.OTP_STATUS] s t ∧ { t with regs := s.regs, otp := s.otp } = s) ∧
    ((if r = 4 then (if s.repairUsed < 256 then some s.repairUsed else none) else s.freeGen r) = none → Completes (c true) s fun t =>
      t.fld Reg.OTP_STATUS Fld.OTP_STATUS_CODE = 2 ∧ t.flag Reg.OTP_STATUS Fld.OTP_STATUS_BUSY = false ∧ OnlyRegs [Reg.OTP_STATUS] s t) ∧
    Completes (c false) s (fun t =>
      t.fld Reg.OTP_STATUS Fld.OTP_STATUS_CODE = 3 ∧ t.flag Reg.OTP_STATUS Fld.OTP_STATUS_BUSY = false ∧ OnlyRegs [Reg.OTP_STATUS] s t)) ∧
  (∀ (s : State) (b c : Bool), s.otp.writes = [] → exec (.otpBurnEnd b c) s = .next s) ∧
  (∀ (s : State) (r d g : Nat) (c : Bool), r = 1 ∨ r = 2 → s.otp.writes = [⟨r, d, false, some g⟩] → g < 4 → d < 2 ^ (otpRec r).size →
      s.otpBit ((otpRec r).flags + 2 * g) = false →
    Completes (.otpBurnEnd true c) s (fun t =>
      t.otp = ⟨s.otp.bits ||| BitVec.ofNat 16384 (d * 2 ^ ((otpRec r).base + (otpRec r).size * g)) ||| BitVec.ofNat 16384 (2 ^ ((otpRec r).flags + 2 * g)), []⟩ ∧
      t.fld Reg.OTP_STATUS Fld.OTP_STATUS_CODE = 0 ∧ t.flag Reg.OTP_STATUS Fld.OTP_STATUS_BUSY = false ∧
      t.fld Reg.BOOT_STATUS Fld.BOOT_STATUS_LIMIT = t.kickLimit % 8 ∧ RegsBut [Reg.OTP_STATUS, Reg.BOOT_STATUS] s t ∧
      { t with regs := s.regs, otp := s.otp } = s) ∧
    Completes (.otpBurnEnd false c) s (fun t =>
      t.otp.writes = [] ∧ t.otpBit ((otpRec r).flags + 2 * g + 1) = true ∧ t.inForce r = s.inForce r ∧
      (∀ i, (i < (otpRec r).base + (otpRec r).size * g ∨ (otpRec r).base + (otpRec r).size * (g + 1) ≤ i) → i ≠ (otpRec r).flags + 2 * g + 1 →
        t.otpBit i = s.otpBit i) ∧
      t.fld Reg.OTP_STATUS Fld.OTP_STATUS_CODE = 1 ∧ t.flag Reg.OTP_STATUS Fld.OTP_STATUS_BUSY = false)) ∧
  (∀ (s : State) (d g : Nat) (c : Bool), s.otp.writes = [⟨4, d, false, some g⟩] → g < 256 → d < 2 ^ 32 → s.repairEntry g = 0 →
    Completes (.otpBurnEnd true c) s fun t => t.repairEntry g = d ∧ t.otp.writes = [] ∧ t.fld Reg.OTP_STATUS Fld.OTP_STATUS_CODE = 0) ∧
  (∀ (s : State) (c : Instr) (code st : Nat) (m key extra : List Byte), s.isOwner (.func 0) = true → s.flag Reg.BOOT_AUTH_CTRL Fld.BOOT_AUTH_CTRL_BUSY = false →
      (c, code, extra) ∈ [(Instr.upgradeUnlock (.func 0), 0x0101, []), (.otpWrite (.func 0) true, 0x0102, s.otpDataBytes)] →
      m = s.mailbox Reg.BOOT_AUTH_MBOX → beAt m 0 2 = code → key = (m.drop 32).take 97 →
    ((st = 1 ∧ s.ownerHash ≠ some (sha384 key)) ∨
      (s.ownerHash = some (sha384 key) ∧
        ((st = 2 ∧ ecdsaOk key (sha384 (m.take 136 ++ extra)) ((m.drop 136).take 96) = false) ∨
         (ecdsaOk key (sha384 (m.take 136 ++ extra)) ((m.drop 136).take 96) = true ∧
          ((st = 3 ∧ beAt m 4 8 ≠ s.serial) ∨
           (beAt m 4 8 = s.serial ∧
            ((st = 4 ∧ (m.drop 12).take 16 ≠ (List.range 16).map (s.regByte Reg.BOOT_NONCE)) ∨
             ((m.drop 12).take 16 = (List.range 16).map (s.regByte Reg.BOOT_NONCE) ∧ st = 5 ∧
              ((code = 0x0101 ∧ s.ownerLock = false) ∨ (code = 0x0102 ∧ beAt m 28 4 % 8 ≠ 1 ∧ beAt m 28 4 % 8 ≠ 2))))))))) →
      Completes c s fun t => t.fld Reg.BOOT_AUTH_CTRL Fld.BOOT_AUTH_CTRL_STATUS = st ∧ OnlyRegs [Reg.BOOT_AUTH_CTRL] s t) ∧
    (s.ownerHash = some (sha384 key) → ecdsaOk key (sha384 (m.take 136 ++ extra)) ((m.drop 136).take 96) = true → beAt m 4 8 = s.serial →
        (m.drop 12).take 16 = (List.range 16).map (s.regByte Reg.BOOT_NONCE) →
      (code = 0x0101 → s.ownerLock = true → Completes c s fun t =>
        t.fld Reg.BOOT_AUTH_CTRL Fld.BOOT_AUTH_CTRL_STATUS = 0 ∧ t.boot = { s.boot with unlock := true } ∧
        RegsBut (Reg.BOOT_AUTH_CTRL :: (List.range 4).map Reg.BOOT_NONCE) s t ∧ t.otp = s.otp) ∧
      (∀ r g, code = 0x0102 → r = beAt m 28 4 % 8 → r = 1 ∨ r = 2 → s.otp.writes = [] → s.freeGen r = some g → Completes c s fun t =>
        t.otp = ⟨s.otp.bits, [⟨r, s.otpData r, true, some g⟩]⟩ ∧ t.flag Reg.BOOT_AUTH_CTRL Fld.BOOT_AUTH_CTRL_BUSY = true ∧
        t.flag Reg.OTP_STATUS Fld.OTP_STATUS_BUSY = true ∧ t.boot = s.boot)))

/-- BOOT_LEASE_CFG takes a SPAN within LEASE_MIN to LEASE_MAX of the policy; another sets REFUSED alone. LEASE_RENEW of domain 0 in CONFIRMED before the end moves the end to the write instant plus SPAN; at or past the end it does nothing, and a function's never does. LEASE_EXPIRED at the end sets BOOT_STATUS.LEASE_EXPIRED, once. UPGRADE_START is refused with the first of the conditions 0x01 to 0x0A that holds: 0x01 changes CODE alone (the model's reading, log entry 70), another also the state, REFUSED; with none the 64 MiB region is copied into the upgrade buffer and the state is VERIFYING. UPGRADE_VERIFY_END runs the image checks on the copy: a failure ends in REFUSED with the cause in DETAIL and BOOT_CAUSE unchanged; a pass starts k15 in STANDBY_BOOT. HANDOVER runs the conditions again and abandons with the first that holds, k15 powered down, or enters HANDOVER. UPGRADE_DONE with k0 back in control ends in DONE with the new image's versions. BOOT_UPG_BUF is written except while an upgrade runs, when REFUSED sets. -/
def Obligations.LeaseAndUpgrade : Prop :=
  (∀ (s : State) (v : BitVec 32), s.isOwner (.func 0) = true →
    (s.leaseMin ≤ v.toNat % 1024 → v.toNat % 1024 ≤ s.leaseMax → Completes (.bootLeaseCfgWrite (.func 0) v) s fun t =>
      t.fld Reg.BOOT_LEASE_CFG Fld.BOOT_LEASE_CFG_SPAN = v.toNat % 1024 ∧ OnlyRegs [Reg.BOOT_LEASE_CFG] s t) ∧
    (v.toNat % 1024 < s.leaseMin ∨ s.leaseMax < v.toNat % 1024 → Completes (.bootLeaseCfgWrite (.func 0) v) s fun t =>
      t.flag Reg.BOOT_STATUS Fld.BOOT_STATUS_REFUSED = true ∧ OnlyRegs [Reg.BOOT_STATUS] s t) ∧
    exec (.leaseRenew (.func 0)) s = .next s) ∧
  (∀ (s : State) (h : Fin 128) (e n : Nat), s.isOwner (.hart h) = true → s.flag Reg.TDM_STATUS Fld.TDM_STATUS_OVERLAP = false → s.time.lease = some e →
      n = s.fld Reg.BOOT_LEASE_CFG Fld.BOOT_LEASE_CFG_SPAN →
    (s.mono < e → s.flag Reg.BOOT_STATUS Fld.BOOT_STATUS_LEASE_EXPIRED = false → s.bootState = 7 →
      exec (.leaseRenew (.hart h)) s = .next { s with
        time := { s.time with lease := some (s.mono + n * 2 ^ 32) }
        boot := { s.boot with span := n } }) ∧
    (e ≤ s.mono ∨ s.flag Reg.BOOT_STATUS Fld.BOOT_STATUS_LEASE_EXPIRED = true → exec (.leaseRenew (.hart h)) s = .next s)) ∧
  (∀ (s : State) (e : Nat), s.time.lease = some e →
    (s.mono < e ∨ s.flag Reg.BOOT_STATUS Fld.BOOT_STATUS_LEASE_EXPIRED = true → exec .leaseExpired s = .next s) ∧
    (e ≤ s.mono → s.flag Reg.BOOT_STATUS Fld.BOOT_STATUS_LEASE_EXPIRED = false → Completes .leaseExpired s fun t =>
      t.flag Reg.BOOT_STATUS Fld.BOOT_STATUS_LEASE_EXPIRED = true ∧ t.bootState = s.bootState ∧ t.time.lease = some e ∧ t.cyc = s.cyc)) ∧
  (∀ (s : State) (loc : BitVec 11) (conds : List (Nat × Bool)), s.isOwner (.func 0) = true →
      conds = [(0x01, decide (1 ≤ s.upgState ∧ s.upgState ≤ 4)), (0x02, s.kickstand || s.bootState != 7), (0x03, s.ownerLock && !s.boot.unlock),
        (0x04, s.flag Reg.THM_STATUS Fld.THM_STATUS_THROTTLE || s.flag Reg.THM_STATUS Fld.THM_STATUS_OVER_MAX || s.flag Reg.THM_STATUS Fld.THM_STATUS_HBM_OVER ||
          s.flag Reg.PWR_STATUS Fld.PWR_STATUS_MARGIN_ALARM),
        (0x05, s.flag Reg.TDM_STATUS Fld.TDM_STATUS_SWITCHING || s.flag Reg.TDM_STATUS Fld.TDM_STATUS_OVERLAP), (0x06, s.leaseOver), (0x07, s.leaseLate),
        (0x08, s.cycSealedDiff (s.regionCyc loc.toNat)), (0x09, s.fld (Reg.CPX_CAP 15) Fld.CPX_CAP_HARTS == 0), (0x0A, s.badLoc loc.toNat)] →
    (∀ c, conds.find? (·.2) = some c → Completes (.upgradeStart (.func 0) loc) s fun t =>
      t.fld Reg.BOOT_UPG_STATUS Fld.BOOT_UPG_STATUS_CODE = c.1 ∧ t.upgState = (if c.1 = 1 then s.upgState else 6) ∧ OnlyRegs [Reg.BOOT_UPG_STATUS] s t) ∧
    (conds.find? (·.2) = none → s.MemoryCanonical → ∀ b, b = s.fld Reg.BOOT_UPG_BUF Fld.BOOT_UPG_BUF_LOC →
      Completes (.upgradeStart (.func 0) loc) s fun t =>
        t.upgState = 1 ∧ t.fld Reg.BOOT_UPG_STATUS Fld.BOOT_UPG_STATUS_CODE = 0 ∧ t.boot = { s.boot with
          unlock := false
          loc := b
          upg := none } ∧
        (∀ i, i < 2 ^ 26 → KMap.get 0 t.ram (granuleAddr false b + i) = KMap.get 0 s.ram (granuleAddr false loc.toNat + i)) ∧
        (∀ a, (∀ i, i < 2 ^ 26 → a ≠ granuleAddr false b + i) → KMap.get 0 t.ram a = KMap.get 0 s.ram a) ∧
        RegsBut [Reg.BOOT_UPG_STATUS] s t ∧ { t with regs := s.regs, boot := s.boot, ram := s.ram } = s)) ∧
  (∀ (s : State) (rd : ImgRd), s.upgState = 1 → rd = s.regionRd s.boot.loc →
    (∀ d, formatFault rd = some d → Completes .upgradeVerifyEnd s fun t =>
      t.upgState = 6 ∧ t.fld Reg.BOOT_UPG_STATUS Fld.BOOT_UPG_STATUS_DETAIL = 2 ∧ t.reg Reg.BOOT_CAUSE = s.reg Reg.BOOT_CAUSE ∧ RegsBut [Reg.BOOT_UPG_STATUS] s t) ∧
    (∀ (hash : Option Nat) (i : Img), formatFault rd = none → hash = (match s.ownerHash with | some h => some h | none => s.rootHash) →
        i = ⟨rdBE rd 8 4, rdBE rd 12 4, (List.range (imgSections rd)).map (fun i => ⟨(secRow rd i).kind, rdBytes rd (secRow rd i).off (secRow rd i).len⟩)⟩ →
      (some (sha384 (imgKey rd)) ≠ hash → Completes .upgradeVerifyEnd s fun t =>
        t.upgState = 6 ∧ t.fld Reg.BOOT_UPG_STATUS Fld.BOOT_UPG_STATUS_DETAIL = 3 ∧ RegsBut [Reg.BOOT_UPG_STATUS] s t) ∧
      (some (sha384 (imgKey rd)) = hash → sigOk rd = true → rootOk rd (imgLength rd) = true → s.minVersion ≤ rdBE rd 8 4 →
          (∀ j, j < imgSections rd → (secRow rd j).conf = false) →
        Completes .upgradeVerifyEnd s fun t =>
          if s.metered && ((s.cycSectionFault ((i.section 4).getD [])).isSome || (s.macKey (cycSec ((i.section 4).getD []))).isNone)
          then t.upgState = 6 ∧ RegsBut [Reg.BOOT_UPG_STATUS] s t
          else t.upgState = 2 ∧ t.boot.upg = some i ∧ t.flag (Reg.CPX_CAP 15) Fld.CPX_CAP_POWERED = true ∧
            (∀ h, h < 8 → h < s.fld (Reg.CPX_CAP 15) Fld.CPX_CAP_HARTS → t.flag (Reg.CPX_HART_CTRL (120 + h)) Fld.CPX_HART_CTRL_RUN = true) ∧
            t.cyc = s.cyc))) ∧
  (∀ (s : State) (conds : List (Nat × Bool)), s.upgState = 2 →
      conds = [(0x02, s.kickstand || s.bootState != 7),
        (0x04, s.flag Reg.THM_STATUS Fld.THM_STATUS_THROTTLE || s.flag Reg.THM_STATUS Fld.THM_STATUS_OVER_MAX || s.flag Reg.THM_STATUS Fld.THM_STATUS_HBM_OVER ||
          s.flag Reg.PWR_STATUS Fld.PWR_STATUS_MARGIN_ALARM),
        (0x05, s.flag Reg.TDM_STATUS Fld.TDM_STATUS_SWITCHING || s.flag Reg.TDM_STATUS Fld.TDM_STATUS_OVERLAP), (0x06, s.leaseOver), (0x07, s.leaseLate),
        (0x08, s.cycSealedDiff ((s.boot.upg.bind (fun i => i.section 4)).map sha384)), (0x09, s.fld (Reg.CPX_CAP 15) Fld.CPX_CAP_HARTS == 0)] →
    (∀ c, conds.find? (·.2) = some c → Completes .handover s fun t =>
      t.upgState = 7 ∧ t.fld Reg.BOOT_UPG_STATUS Fld.BOOT_UPG_STATUS_CODE = c.1 ∧ t.flag (Reg.CPX_CAP 15) Fld.CPX_CAP_POWERED = false ∧ t.boot.upg = none ∧
      (∀ h, h < 8 → t.flag (Reg.CPX_HART_CTRL (120 + h)) Fld.CPX_HART_CTRL_RUN = false)) ∧
    (conds.find? (·.2) = none → Completes .handover s fun t => t.upgState = 3 ∧ OnlyRegs [Reg.BOOT_UPG_STATUS] s t)) ∧
  (∀ (s : State) (i : Img), s.upgState = 4 → s.tdmActive = 0 → s.boot.upg = some i → Completes .upgradeDone s fun t =>
      t.upgState = 5 ∧ t.boot = { s.boot with
        img := some i
        upg := none } ∧
      t.reg Reg.BOOT_IMAGE_VER = BitVec.ofNat 32 i.version ∧ t.reg Reg.BOOT_STATE_VER = BitVec.ofNat 32 i.state ∧
      (i.section 4 = none ∨ s.metered = false → t.cyc = s.cyc) ∧
      (∀ d x, i.section 4 = some d → s.cyc.sec = some x → x.hash = sha384 d → t.cyc = s.cyc) ∧
      (∀ d x, i.section 4 = some d → s.metered = true → s.cyc.sec = some x → x.hash ≠ sha384 d → s.counting = true →
        t.cyc = { s.cyc with newSec := some (cycSec d) })) ∧
  (∀ s : State, s.upgState ≠ 1 → exec .upgradeVerifyEnd s = .next s) ∧ (∀ s : State, s.upgState ≠ 2 → exec .handover s = .next s) ∧
  (∀ s : State, s.upgState ≠ 4 → exec .upgradeDone s = .next s) ∧
  (∀ (s : State) (v : BitVec 32), s.isOwner (.func 0) = true →
    (1 ≤ s.upgState ∧ s.upgState ≤ 4 → Completes (.bootUpgBufWrite (.func 0) v) s fun t =>
      t.flag Reg.BOOT_STATUS Fld.BOOT_STATUS_REFUSED = true ∧ OnlyRegs [Reg.BOOT_STATUS] s t) ∧
    (s.upgState = 0 ∨ 4 < s.upgState → Completes (.bootUpgBufWrite (.func 0) v) s fun t =>
      t.reg Reg.BOOT_UPG_BUF = v &&& 0x800007FF ∧ OnlyRegs [Reg.BOOT_UPG_BUF] s t))

/-- HEARTBEAT of a supervisor within its window notes the instant and changes nothing else; one at or past the close, while detection is on, does what HEARTBEAT_TIMEOUT does. HEARTBEAT_TIMEOUT with EN clear, or FORCE_SWITCH in Kickstand mode (the model's reading, log entry 71), does nothing. A failure of the active cluster outside an overlap and a gap stops its harts, sets SWITCHING, counts in TDM_FAILOVERS and keeps ACTIVE. When k0 fails, PRIMARY becomes RESET and k15 is powered and runs. When k15 fails with k0 in HOLD_DOWN or READY, k0 becomes READY and runs; after an upgrade's HANDOVER k0 is held in RESET. FORCE_SWITCH of the owner function does the same whatever the heartbeat. PRIMARY_SELF_TEST_END passes to HOLD_DOWN with no failures counted and k0 running, or fails back to RESET, at the third consecutive failure to FAILED. HOLD_DOWN_END at the close of the window of HOLD seconds (0 acts as 1) enters READY. TDM_STANDBY_LATE, 200 ms after the failure, is raised once. CHECKPOINT_DUE, once a further multiple of the period has come, raises one timer interrupt of k0. TDM_SEQ_WRITE keeps the greater value. -/
def Obligations.TandemFailover : Prop :=
  (∀ (s : State) (r : Req) (k : Nat), s.tdmReach r = true → s.supervisor r = some k → s.overlap = false →
    (s.clusterDead k = false → Completes (.heartbeat r) s fun t =>
      { t with tdm := s.tdm } = s ∧ t.lastBeat k = some s.mono ∧
      (k = 0 → t.tdm = { s.tdm with hb0 := some s.mono }) ∧ (k = 15 → t.tdm = { s.tdm with hb15 := some s.mono })) ∧
    (s.clusterDead k = true → s.flag Reg.TDM_CFG Fld.TDM_CFG_EN = true → s.kickstand = false → k = s.tdmActive →
      exec (.heartbeat r) s = exec .heartbeatTimeout s)) ∧
  (∀ s : State, (s.flag Reg.TDM_CFG Fld.TDM_CFG_EN = false → exec .heartbeatTimeout s = .next s) ∧
    (s.kickstand = true → s.tdmReach (.func 0) = true → exec (.forceSwitch (.func 0)) s = .next s)) ∧
  (∀ (s : State) (c : Instr), s.kickstand = false → s.overlap = false → s.switching = false →
      (c = .heartbeatTimeout ∧ s.flag Reg.TDM_CFG Fld.TDM_CFG_EN = true ∧ s.clusterDead s.tdmActive = true) ∨ c = .forceSwitch (.func 0) ∧ s.tdmReach (.func 0) = true →
    Completes c s fun t =>
      t.switching = true ∧ t.tdmActive = s.tdmActive ∧ Counted Ctr.TDM_FAILOVERS 1 s t ∧ t.tdm.td = some s.mono ∧ t.overlap = false ∧
      (s.tdmActive = 0 → (∀ i, i < 8 → t.flag (Reg.CPX_HART_CTRL i) Fld.CPX_HART_CTRL_RUN = false) ∧ t.primary = 1 ∧
        t.flag (Reg.CPX_CAP 15) Fld.CPX_CAP_POWERED = true ∧
        (∀ i, i < 8 → i < s.fld (Reg.CPX_CAP 15) Fld.CPX_CAP_HARTS → t.flag (Reg.CPX_HART_CTRL (120 + i)) Fld.CPX_HART_CTRL_RUN = true)) ∧
      (s.tdmActive = 15 → (∀ i, i < 8 → t.flag (Reg.CPX_HART_CTRL (120 + i)) Fld.CPX_HART_CTRL_RUN = false) ∧
        (s.upgState = 3 ∨ s.upgState = 4 → t.primary = 1 ∧ t.tdm.heldReset = true) ∧
        (s.upgState ≠ 3 → s.upgState ≠ 4 → s.primary = 3 ∨ s.primary = 4 → t.primary = 4 ∧
          (∀ i, i < 8 → i < s.fld (Reg.CPX_CAP 0) Fld.CPX_CAP_HARTS → t.flag (Reg.CPX_HART_CTRL i) Fld.CPX_HART_CTRL_RUN = true)) ∧
        (s.upgState ≠ 3 → s.upgState ≠ 4 → s.primary ≠ 3 → s.primary ≠ 4 → t.primary = s.primary))) ∧
  (∀ s : State, s.primary = 2 →
    Completes (.primarySelfTestEnd true) s (fun t =>
      t.primary = 3 ∧ t.fld Reg.TDM_STATUS Fld.TDM_STATUS_SELFTEST_FAILS = 0 ∧ t.tdm = { s.tdm with
        hold := some s.mono
        hb0 := some s.mono } ∧
      (∀ i, i < 8 → i < s.fld (Reg.CPX_CAP 0) Fld.CPX_CAP_HARTS → t.flag (Reg.CPX_HART_CTRL i) Fld.CPX_HART_CTRL_RUN = true)) ∧
    (s.fld Reg.TDM_STATUS Fld.TDM_STATUS_SELFTEST_FAILS < 2 → Completes (.primarySelfTestEnd false) s fun t =>
      t.primary = 1 ∧ t.fld Reg.TDM_STATUS Fld.TDM_STATUS_SELFTEST_FAILS = s.fld Reg.TDM_STATUS Fld.TDM_STATUS_SELFTEST_FAILS + 1 ∧
      OnlyRegs [Reg.TDM_STATUS] s t) ∧
    (s.fld Reg.TDM_STATUS Fld.TDM_STATUS_SELFTEST_FAILS = 2 → Completes (.primarySelfTestEnd false) s fun t =>
      t.primary = 5 ∧ t.fld Reg.TDM_STATUS Fld.TDM_STATUS_SELFTEST_FAILS = 3)) ∧
  (∀ (s : State) (b : Bool), s.primary ≠ 2 → exec (.primarySelfTestEnd b) s = .next s) ∧
  (∀ (s : State) (i : Nat), s.tdm.hold = some i → s.primary = 3 →
    (s.mono < i + max 1 (s.fld Reg.TDM_CFG Fld.TDM_CFG_HOLD) * 2 ^ 32 → exec .holdDownEnd s = .next s) ∧
    (i + max 1 (s.fld Reg.TDM_CFG Fld.TDM_CFG_HOLD) * 2 ^ 32 ≤ s.mono → Completes .holdDownEnd s fun t => t.primary = 4 ∧ OnlyRegs [Reg.TDM_STATUS] s t)) ∧
  (∀ (s : State) (i : Nat), s.tdm.td = some i → s.switching = true → s.tdm.late = false →
    (5 * s.mono < 5 * i + 2 ^ 32 → exec .tdmStandbyLate s = .next s) ∧
    (5 * i + 2 ^ 32 ≤ 5 * s.mono → Completes .tdmStandbyLate s fun t => t.tdm = { s.tdm with late := true } ∧ t.switching = true)) ∧
  (∀ s : State, s.tdm.late = true → exec .tdmStandbyLate s = .next s) ∧
  (∀ (s : State) (p : Nat), p = max 1 (s.reg64 Reg.TDM_CKPT_PERIOD_LO) →
    (s.now / p ≤ KMap.get 0 s.time.trig tgCheckpoint / p → exec .checkpointDue s = .next s) ∧
    (KMap.get 0 s.time.trig tgCheckpoint / p < s.now / p → Completes .checkpointDue s fun t =>
      t.out = s.out ++ [.timerIrq 0] ∧ KMap.get 0 t.time.trig tgCheckpoint = s.now ∧ { t with out := s.out, time := s.time } = s)) ∧
  (∀ (s : State) (v : BitVec 64), s.tdmReach (.func 0) = true → Completes (.tdmSeqWrite (.func 0) v) s fun t =>
    t.reg64 Reg.TDM_SEQ_LO = max v.toNat (s.reg64 Reg.TDM_SEQ_LO) ∧ OnlyRegs [Reg.TDM_SEQ_LO, Reg.TDM_SEQ_LO + 4] s t)

/-- CLAIM of a supervisor that is not the active cluster, outside an overlap window: in a gap, k15 and a READY k0 take control, which ends the gap, changes ACTIVE and clears SWITCHING, and k0 becomes ACTIVE again; without a gap, k15 in an upgrade's HANDOVER and a READY k0 open the overlap window, with an empty log and the claimant's heartbeat noted. Every other CLAIM sets REFUSED and nothing else; so does one of a requester that is no supervisor. RELEASE of the outgoing cluster, and TDM_HANDOVER 2^-9 s after the claim, close the window: ACTIVE changes and TDM_HANDOVERS counts. An outgoing k15 powers down 2^-10 s later; an outgoing k0 goes to RESET, and the upgrade to PRIMARY_RELOAD. A failure of the outgoing cluster in the window passes control at once, and one of the incoming cluster leaves it. K15_POWER_DOWN, when its time has come, stops the harts of k15 and clears POWERED. -/
def Obligations.TandemHandover : Prop :=
  (∀ (s : State) (r : Req) (k : Nat), s.tdmReach r = true → s.supervisor r = some k → s.overlap = false → k = 0 ∨ k = 15 →
    (k ≠ s.tdmActive → s.switching = true → (k = 0 → s.primary = 4) → Completes (.claim r) s fun t =>
      t.tdmActive = k ∧ t.switching = false ∧ t.lastBeat k = some s.mono ∧ t.tdm.td = none ∧ (k = 0 → t.primary = 0) ∧ (k = 15 → t.primary = s.primary) ∧
      t.reg Reg.TDM_LAST_SWITCH_FRAC = BitVec.ofNat 32 s.now ∧
      RegsBut [Reg.TDM_STATUS, Reg.TDM_LAST_SWITCH_FRAC, Reg.TDM_LAST_SWITCH_SEC] s t ∧ { t with regs := s.regs, tdm := s.tdm } = s) ∧
    (k ≠ s.tdmActive → s.switching = false → (k = 0 → s.primary = 4) → (k = 15 → s.upgState = 3) → Completes (.claim r) s fun t =>
      t.overlap = true ∧ t.tdmActive = s.tdmActive ∧ t.tdm.tc = some s.mono ∧ t.tdm.ovl = [] ∧ t.lastBeat k = some s.mono ∧
      t.fld Reg.TDM_OVL_COUNT Fld.TDM_OVL_COUNT_COUNT = 0 ∧ RegsBut [Reg.TDM_STATUS, Reg.TDM_OVL_COUNT] s t ∧ { t with regs := s.regs, tdm := s.tdm } = s) ∧
    (k = s.tdmActive ∨ (k = 0 ∧ s.primary ≠ 4) ∨ (k = 15 ∧ s.switching = false ∧ s.upgState ≠ 3) → Completes (.claim r) s fun t =>
      t.flag Reg.TDM_STATUS Fld.TDM_STATUS_REFUSED = true ∧ t.tdmActive = s.tdmActive ∧ t.switching = s.switching ∧ t.overlap = false ∧
      OnlyRegs [Reg.TDM_STATUS] s t)) ∧
  (∀ s : State, s.tdmReach (.func 0) = true → Completes (.claim (.func 0)) s fun t =>
    t.flag Reg.TDM_STATUS Fld.TDM_STATUS_REFUSED = true ∧ OnlyRegs [Reg.TDM_STATUS] s t) ∧
  (∀ (s : State) (r : Req), s.tdmReach r = true → s.overlap = false → exec (.release r) s = .next s) ∧
  (∀ (s : State) (r : Req) (c : Instr), s.overlap = true →
      (c = .release r ∧ s.tdmReach r = true ∧ s.supervisor r = some s.tdmActive) ∨ (c = .tdmHandover ∧ ∃ i, s.tdm.tc = some i ∧ i + 2 ^ 23 ≤ s.mono) →
    Completes c s fun t =>
      t.overlap = false ∧ t.tdm.tc = none ∧ t.tdmActive = s.tdmOther ∧ t.reg64 Ctr.TDM_HANDOVERS.lo = (s.reg64 Ctr.TDM_HANDOVERS.lo + 1) % 2 ^ 64 ∧
      (s.tdmActive = 15 → t.primary = 0 ∧ t.tdm.down = some (s.mono + 2 ^ 22)) ∧
      (s.tdmActive = 0 → t.primary = 1 ∧ (∀ i, i < 8 → t.flag (Reg.CPX_HART_CTRL i) Fld.CPX_HART_CTRL_RUN = false) ∧
        (s.upgState = 3 → t.upgState = 4))) ∧
  (∀ (s : State) (i : Nat), s.tdm.tc = some i → s.mono < i + 2 ^ 23 → exec .tdmHandover s = .next s) ∧
  (∀ s : State, s.overlap = true → s.switching = false → s.kickstand = false → s.flag Reg.TDM_CFG Fld.TDM_CFG_EN = true →
    (s.clusterDead s.tdmActive = true → Completes .heartbeatTimeout s fun t => t.overlap = false ∧ t.tdmActive = s.tdmOther ∧ t.switching = false) ∧
    (s.clusterDead s.tdmActive = false → s.clusterDead s.tdmOther = true → Completes .heartbeatTimeout s fun t =>
      t.overlap = false ∧ t.tdmActive = s.tdmActive ∧ t.switching = false)) ∧
  (∀ (s : State) (i : Nat), s.tdm.down = some i →
    (s.mono < i → exec .k15PowerDown s = .next s) ∧
    (i ≤ s.mono → Completes .k15PowerDown s fun t =>
      t.flag (Reg.CPX_CAP 15) Fld.CPX_CAP_POWERED = false ∧ (∀ i, i < 8 → t.flag (Reg.CPX_HART_CTRL (120 + i)) Fld.CPX_HART_CTRL_RUN = false) ∧
      t.tdm = { s.tdm with down := none } ∧ RegsBut (Reg.CPX_CAP 15 :: (List.range 8).map (fun i => Reg.CPX_HART_CTRL (120 + i))) s t ∧
      { t with regs := s.regs, tdm := s.tdm } = s))

/-- AON_START starts the always-on domain and releases THERMTRIP_N. PORST_RELEASE raises PORST_N; the reset ends only with the domain running, every rail in its window, SYSREF present, no trip held and no test instruction current, and a recorded trip is let go by a rising edge at 95 degrees or below. GATE_TIMEOUT marks a held reset whose rails are not in. A brown-out of VDD_AON is a cold start, one of the island's rail an island power-up, one of another rail a warm reset that is held, and so is the loss of SYSREF; before CONFIRMED each counts as a failed start. SYSREF's return ends its hold; the loss of REFCLK_25M changes the oscillator alone. Scans: BYPASS shifts a zero and the bits scanned in; IDCODE gives 0x1256016F, least bit first, and Test-Logic-Reset selects it; SAMPLE/PRELOAD gives the pins and loads the cells; the five test instructions load only in a held reset, and hold it, and act as BYPASS otherwise; loading another instruction lets a release act. Each management code answers with the bytes of R530 in every state once the domain runs; an unlisted code is not acknowledged. (That Test-Logic-Reset selects IDCODE, that PORST_RELEASE also ends a brown-out, that a brown-out of the island's rail resets it at once, and the byte orders of the answers are the model's reading, log entry 74.) -/
def Obligations.PinsAndManagementPort : Prop :=
  let rel (a : AonSt) : AonSt := { a with held := a.held && !(a.porst && a.up && a.railsOut == 0 && !a.sysrefLost && !a.trip && !testIr a.ir) }
  (∀ s : State, exec .aonStart s = .next (if s.aon.up then s else { s with aon := { s.aon with
    up := true
    trip := false } })) ∧
  (∀ (s : State) (out : BitVec 9) (temp : BitVec 8), exec (.porstRelease out temp) s = .next { s with aon := rel { s.aon with
    porst := true
    railsOut := out.toNat
    temp := temp.toNat
    trip := s.aon.trip && !(!s.aon.porst && decide (temp.toNat ≤ 95)) } }) ∧
  (∀ s : State, exec .gateTimeout s = .next { s with aon := { s.aon with
    gateTimeout := s.aon.gateTimeout || (s.aon.held && s.aon.porst && s.aon.railsOut != 0) } }) ∧
  (∀ s : State, exec (.railBrownout 0) s = exec .coldStart s ∧ exec (.railBrownout 8) s = exec .islandPowerUp s) ∧
  (∀ (s : State) (c : Instr), c = .sysrefLoss false ∨ (∃ r : Fin 9, r ≠ 0 ∧ r ≠ 8 ∧ c = .railBrownout r) → Completes c s fun t =>
    WarmReset s t ∧ t.aon = { s.aon with
      held := true
      sysrefLost := s.aon.sysrefLost || decide (c = .sysrefLoss false)
      railsOut := t.aon.railsOut } ∧
    (∀ i : Fin 9, t.aon.railsOut.testBit i.val = (s.aon.railsOut.testBit i.val || decide (c = .railBrownout i))) ∧
    (s.aon.held = false → s.bootState < 7 → s.kickstand = false →
      t.fld Reg.BOOT_STATUS Fld.BOOT_STATUS_FAILS = min 7 (s.fld Reg.BOOT_STATUS Fld.BOOT_STATUS_FAILS + 1) ∧
      t.fld Reg.BOOT_CAUSE Fld.BOOT_CAUSE_CAUSE = 1 ∧ t.fld Reg.BOOT_CAUSE Fld.BOOT_CAUSE_DETAIL = s.bootState)) ∧
  (∀ s : State, exec (.sysrefLoss true) s = .next { s with aon := rel { s.aon with sysrefLost := false } }) ∧
  (∀ (s : State) (p : Bool), exec (.refclk25mLoss p) s = .next { s with aon := { s.aon with ownOsc := !p } }) ∧
  (∀ (s : State) (l pins : List Bool),
    (∀ c ∈ [Instr.bypass l] ++ (if s.aon.held then [] else [.extest l, .extestPulse l, .extestTrain l, .clamp l, .highz l]),
      exec c s = .next { s with
        out := s.out ++ [.tdo ((false :: l).take l.length)]
        aon := rel { s.aon with ir := .bypass } }) ∧
    (s.aon.held = true → ∀ x ∈ [(Instr.extest l, JtagIr.extest), (.extestPulse l, .extestPulse), (.extestTrain l, .extestTrain)],
      exec x.1 s = .next { s with
        out := s.out ++ [.tdo s.aon.cells]
        aon := { s.aon with
          ir := x.2
          cells := l } }) ∧
    (s.aon.held = true → ∀ x ∈ [(Instr.clamp l, JtagIr.clamp), (.highz l, .highz)],
      exec x.1 s = .next { s with
        out := s.out ++ [.tdo ((false :: l).take l.length)]
        aon := { s.aon with ir := x.2 } }) ∧
    exec (.samplePreload pins l) s = .next { s with
      out := s.out ++ [.tdo pins]
      aon := rel { s.aon with
        ir := .sample
        cells := l } } ∧
    (∃ b : List Bool, b.length = 32 ∧ (∀ i : Fin 32, b[i.val]? = some ((0x1256016F : Nat).testBit i.val)) ∧
      exec .idcode s = .next { s with
        out := s.out ++ [.tdo b]
        aon := rel { s.aon with ir := .idcode } }) ∧
    exec .tapReset s = .next { s with aon := rel { s.aon with ir := .idcode } }) ∧
  (∀ (s : State) (x : Instr × List Nat),
    x ∈ [(Instr.smbSerialRead, (List.range 8).map (fun i => s.serial / 256 ^ (7 - i))),
      (.smbCoreTargetRead .fwd, [s.fld Reg.DEV_CORE_TARGET Fld.DEV_CORE_TARGET_FCORE]), (.smbCoreTargetRead .trf, [s.fld Reg.DEV_CORE_TARGET Fld.DEV_CORE_TARGET_TCORE]),
      (.smbDieTempRead .fwd, [if s.aon.held ∨ s.flag Reg.DEV_DIE_STATUS Fld.DEV_DIE_STATUS_FDIE_IN_RESET then 0xFF else s.fld Reg.THM_STATUS Fld.THM_STATUS_FDIE_TEMP]),
      (.smbDieTempRead .trf, [if s.aon.held ∨ s.flag Reg.DEV_DIE_STATUS Fld.DEV_DIE_STATUS_TDIE_IN_RESET then 0xFF else s.fld Reg.THM_STATUS Fld.THM_STATUS_TDIE_TEMP]),
      (.smbAonTempRead, [s.aon.temp]),
      (.smbTripLogRead, [s.fld Reg.THM_TRIP_LOG Fld.THM_TRIP_LOG_TEMP, 128 * s.fld Reg.THM_TRIP_LOG Fld.THM_TRIP_LOG_TRIPPED +
        32 * s.fld Reg.THM_TRIP_LOG Fld.THM_TRIP_LOG_SOURCE + s.fld Reg.THM_TRIP_LOG Fld.THM_TRIP_LOG_STACK]),
      (.smbBootCauseRead, [s.fld Reg.BOOT_CAUSE Fld.BOOT_CAUSE_CAUSE, 0, s.fld Reg.BOOT_CAUSE Fld.BOOT_CAUSE_DETAIL / 256,
        s.fld Reg.BOOT_CAUSE Fld.BOOT_CAUSE_DETAIL % 256]),
      (.smbBootStatusRead, [16 * s.bootState + 8 * s.kickstand.toNat + s.fld Reg.BOOT_STATUS Fld.BOOT_STATUS_FAILS]),
      (.smbRailOutRead, [s.fld Reg.PWR_STATUS Fld.PWR_STATUS_RAIL_OUT]),
      (.smbRailStatusRead, [128 * (decide (s.aon.railsOut = 0)).toNat + 64 * s.aon.gateTimeout.toNat + 32 * (!s.aon.railsOut.testBit 8).toNat])] →
    exec x.1 s = .next { s with out := s.out ++ [.smb (if s.aon.up then some (x.2.map (BitVec.ofNat 8)) else none)] }) ∧
  (∀ (s : State) (c : BitVec 8), exec (.smbUnknownCode c) s = .next { s with out := s.out ++ [.smb none] })

/-- D2D_FLIT_RETRY counts in the D2D_RETRY of its end and records internal error 0; a flit that fails for the eighth time in a row, and D2D_LINK_FAILURE, clear LINK_UP and UP, set LAST_CAUSE to 3, count D2D_FAIL on both dies and record error 1; the IN_RESET bits stay. With the link down neither does anything. A hold ordered by the owner function, with both dies up and the other bit clear, sets the bit and IN_RESET, clears LINK_UP and records the cause; the registers of the die's scope hold their reset values, the Forwarding die's tables, arrays, learning and ports are empty while TIME, the Traffic die, the key vault, Tandem and the Cyclometer stay, and the Traffic die's pools, fabric and Truing are empty, with a new incarnation, while the Cyclometer, the gates and memory stay. A hold with the other bit set or the other die in reset sets REFUSED alone. A release clears the bit and IN_RESET; of a die that runs it does nothing. From another function each counts in HIF_VIEW_REFUSED. LINK_QUIESCE, once after a loss, marks the link quiesced at the ends that run, keeps t0 and enters what was lost: the credits (an amount that is free), an uncommitted copy with the Forwarding die, a partly taken packet with the Traffic die. LINK_RETRAIN with both dies up and a training that succeeds raises LINK_UP and UP, clears the marks and delivers the waiting commit notices in order; otherwise nothing changes. (The instants at which losses are entered are the model's reading, log entry 75.) -/
def Obligations.LinkAndDieResets : Prop :=
  (∀ (s : State) (d : Die) (b : Bool), s.linkUsable = false →
    exec (.d2dFlitRetry d b) s = .next s ∧ exec .d2dLinkFailure s = .next s) ∧
  (∀ (s : State) (d : Die) (b : Bool), s.linkUsable = true →
      (b = true → (match d with | .fwd => s.die.crcF | .trf => s.die.crcT) < 7) →
    Completes (.d2dFlitRetry d b) s fun t =>
      t.die = (match d with
        | .fwd => { s.die with crcF := (if b then s.die.crcF else 0) + 1 }
        | .trf => { s.die with crcT := (if b then s.die.crcT else 0) + 1 }) ∧
      t.linkUsable = true ∧ Counted (Ctr.D2D_RETRY (dieNo d)) 1 s t ∧ (t.fld Reg.HIF_IERR_STATUS Fld.HIF_IERR_STATUS_SRC).testBit 0 = true ∧
      t.reg Reg.DEV_DIE_STATUS = s.reg Reg.DEV_DIE_STATUS ∧ t.reg (Reg.D2D_STATUS 1) = s.reg (Reg.D2D_STATUS 1) ∧
      t.reg (Reg.D2D_STATUS 2) = s.reg (Reg.D2D_STATUS 2)) ∧
  (∀ (s : State) (c : Instr), s.linkUsable = true →
      c = .d2dLinkFailure ∨ (c = .d2dFlitRetry .fwd true ∧ 7 ≤ s.die.crcF) ∨ (c = .d2dFlitRetry .trf true ∧ 7 ≤ s.die.crcT) →
    Completes c s fun t =>
      t.linkUsable = false ∧ t.fld Reg.DEV_DIE_STATUS Fld.DEV_DIE_STATUS_LAST_CAUSE = 3 ∧ t.fdieUp = s.fdieUp ∧ t.tdieUp = s.tdieUp ∧
      t.linkQuiesced = s.linkQuiesced ∧ t.die = { s.die with
        crcF := 0
        crcT := 0
        lostF := true
        lostT := true } ∧
      (∀ i : Fin 2, Counted (Ctr.D2D_FAIL (i.val + 1)) 1 s t ∧ t.flag (Reg.D2D_STATUS (i.val + 1)) Fld.D2D_STATUS_UP = false) ∧
      (t.fld Reg.HIF_IERR_STATUS Fld.HIF_IERR_STATUS_SRC).testBit 1 = true) ∧
  (∀ (s : State) (f : Fin 1024) (d : Die), f ≠ 0 → ∀ c ∈ [Instr.fdieResetHold (.func f), .tdieResetHold (.func f), .dieResetRelease (.func f) d],
    Completes c s fun t => Counted (Ctr.HIF_VIEW_REFUSED (f.val / 256)) 1 s t ∧ RegsBut (Ctr.HIF_VIEW_REFUSED (f.val / 256)).regs s t ∧
      { t with regs := s.regs, pmcIn := s.pmcIn } = s) ∧
  (∀ s : State,
    (s.flag Reg.DEV_DIE_RESET Fld.DEV_DIE_RESET_TDIE = true ∨ (s.fdieUp = true ∧ s.tdieUp = false) → Completes (.fdieResetHold (.func 0)) s fun t =>
      t.flag Reg.DEV_DIE_STATUS Fld.DEV_DIE_STATUS_REFUSED = true ∧ t.fdieUp = s.fdieUp ∧ t.tdieUp = s.tdieUp ∧ t.linkUsable = s.linkUsable ∧
      OnlyRegs [Reg.DEV_DIE_STATUS] s t) ∧
    (s.flag Reg.DEV_DIE_RESET Fld.DEV_DIE_RESET_FDIE = true ∨ (s.tdieUp = true ∧ s.fdieUp = false) → Completes (.tdieResetHold (.func 0)) s fun t =>
      t.flag Reg.DEV_DIE_STATUS Fld.DEV_DIE_STATUS_REFUSED = true ∧ t.fdieUp = s.fdieUp ∧ t.tdieUp = s.tdieUp ∧ t.linkUsable = s.linkUsable ∧
      OnlyRegs [Reg.DEV_DIE_STATUS] s t) ∧
    (s.fdieUp = true → s.tdieUp = true → s.flag Reg.DEV_DIE_RESET Fld.DEV_DIE_RESET_TDIE = false → Completes (.fdieResetHold (.func 0)) s fun t =>
      t.fdieUp = false ∧ t.tdieUp = true ∧ t.linkUsable = false ∧ t.flag Reg.DEV_DIE_RESET Fld.DEV_DIE_RESET_FDIE = true ∧
      t.flag Reg.DEV_DIE_RESET Fld.DEV_DIE_RESET_TDIE = false ∧ t.fld Reg.DEV_DIE_STATUS Fld.DEV_DIE_STATUS_LAST_CAUSE = 1 ∧ t.die.lostF = true ∧
      (∀ a, fdieReg a = true → t.reg a = resetWord a) ∧ t.tab.exm = .empty ∧ t.acl = .init ∧ t.lrn = .init ∧ t.icr = .init ∧ t.port = .init ∧
      t.otn = .empty ∧ t.ing.fence = s.ing.fence ∧ t.ing.transit = .empty ∧ t.sch.gates = .empty ∧ t.turnIn = .init ∧ t.turnOut = .init ∧
      t.time = s.time ∧ t.kvc = s.kvc ∧ t.tm = s.tm ∧ t.cyc = s.cyc ∧ t.boot = s.boot ∧ t.tdm = s.tdm ∧ t.otp = s.otp ∧ t.aon = s.aon ∧
      (s.port.tx = .empty → s.turnIn = .init → s.turnOut = .init → s.partCopies = [] → ∀ a, fdieReg a = false → a ≠ Reg.DEV_DIE_RESET →
        a ≠ Reg.DEV_DIE_STATUS → t.reg a = s.reg a)) ∧
    (s.fdieUp = true → s.tdieUp = true → s.flag Reg.DEV_DIE_RESET Fld.DEV_DIE_RESET_FDIE = false → Completes (.tdieResetHold (.func 0)) s fun t =>
      t.tdieUp = false ∧ t.fdieUp = true ∧ t.linkUsable = false ∧ t.flag Reg.DEV_DIE_RESET Fld.DEV_DIE_RESET_TDIE = true ∧
      t.flag Reg.DEV_DIE_RESET Fld.DEV_DIE_RESET_FDIE = false ∧ t.fld Reg.DEV_DIE_STATUS Fld.DEV_DIE_STATUS_LAST_CAUSE = 2 ∧ t.die.lostT = true ∧
      (∀ a, tdieReg a = true → a ≠ Reg.FAB_DEV_CFG → t.reg a = resetWord a) ∧ 1 ≤ t.fld Reg.FAB_DEV_CFG Fld.FAB_DEV_CFG_INCARNATION ∧
      t.fab = .init ∧ t.tru = .init ∧ (∀ q, q < 4 → (t.quad q).use = .empty ∧ (t.quad q).pd = 0) ∧ t.tm.queues = .empty ∧ t.tm.hbmGone = s.tm.hbmGone ∧ t.sch.gates = s.sch.gates ∧
      t.time.followerInc = 0 ∧ t.time.master = s.time.master ∧ t.cyc = s.cyc ∧ t.kvc = s.kvc ∧ t.tab = s.tab ∧ t.ing = s.ing ∧ t.aon = s.aon ∧
      (∀ a, islandReg a = true ∨ fdieReg a = true → t.reg a = s.reg a))) ∧
  (∀ s : State, s.reg Reg.DEV_DIE_RESET = 0 → s.fdieUp = true → s.tdieUp = true → ∀ d, exec (.dieResetRelease (.func 0) d) s = .next s) ∧
  (∀ s : State,
    (s.reg Reg.DEV_DIE_RESET = 1 → s.fdieUp = false → s.tdieUp = true → Completes (.dieResetRelease (.func 0) .fwd) s fun t =>
      t.fdieUp = true ∧ t.tdieUp = true ∧ t.reg Reg.DEV_DIE_RESET = 0 ∧ t.linkUsable = s.linkUsable ∧ t.die = { s.die with retrainAt := some s.mono } ∧
      RegsBut [Reg.DEV_DIE_RESET, Reg.DEV_DIE_STATUS] s t ∧ { t with regs := s.regs, die := s.die } = s) ∧
    (s.reg Reg.DEV_DIE_RESET = 2 → s.fdieUp = true → s.tdieUp = false → Completes (.dieResetRelease (.func 0) .trf) s fun t =>
      t.fdieUp = true ∧ t.tdieUp = true ∧ t.reg Reg.DEV_DIE_RESET = 0 ∧ t.linkUsable = s.linkUsable ∧ t.die = { s.die with retrainAt := some s.mono } ∧
      RegsBut [Reg.DEV_DIE_RESET, Reg.DEV_DIE_STATUS] s t ∧ { t with regs := s.regs, die := s.die } = s)) ∧
  (∀ s : State, s.linkUsable = true ∨ s.linkQuiesced = true ∨ (s.die.lostF = false ∧ s.die.lostT = false) → exec .linkQuiesce s = .next s) ∧
  (∀ s : State, s.linkUsable = false → s.linkQuiesced = false → s.die.lostF = true ∨ s.die.lostT = true → Completes .linkQuiesce s fun t =>
    t.linkQuiesced = true ∧ t.linkUsable = false ∧ t.die = { s.die with t0 := some s.mono } ∧ t.flag Reg.TIME_STATUS Fld.TIME_STATUS_TDIE_DISCONT = true ∧
    (∀ i : Fin 2, (if i = 0 then s.fdieUp else s.tdieUp) = true → t.flag (Reg.D2D_STATUS (i.val + 1)) Fld.D2D_STATUS_UP = false ∧
      t.flag (Reg.D2D_STATUS (i.val + 1)) Fld.D2D_STATUS_QUIESCED = true ∧ t.flag (Reg.D2D_STATUS (i.val + 1)) Fld.D2D_STATUS_DISCONT = true) ∧
    (∀ i : Fin 2, (if i = 0 then s.fdieUp else s.tdieUp) = false → t.reg (Reg.D2D_STATUS (i.val + 1)) = s.reg (Reg.D2D_STATUS (i.val + 1))) ∧
    (s.eg.copies = .empty → s.ing.transit = .empty → t.reg64 (Reg.TRU_LOSS_UNITS_LO lcDieReset) = s.reg64 (Reg.TRU_LOSS_UNITS_LO lcDieReset) ∧
      ∃ d, d < 2 ^ 32 ∧ (t.reg64 (Reg.TRU_LOSS_ITEMS_LO lcDieReset) + d) % 2 ^ 64 = s.reg64 (Reg.TRU_LOSS_ITEMS_LO lcDieReset)) ∧
    (∀ (n : Nat) (x : EgCopy), s.die.lostF = true → s.eg.copies = KMap.set none .empty n (some x) → x.stage ≠ .done → x.copy.queue < 524288 →
        s.ing.transit = .empty →
      (t.reg64 (Reg.TRU_LOSS_UNITS_LO lcDieReset) + x.copy.data.length) % 2 ^ 64 = s.reg64 (Reg.TRU_LOSS_UNITS_LO lcDieReset) ∧ t.eg.copies = .empty) ∧
    (∀ (i : Fin 16) (c : TCopy), s.die.lostT = true → s.ing.transit = KMap.set [] .empty i.val [c] → c.prog.isSome = true → s.eg.copies = .empty →
      (t.reg64 (Reg.TRU_LOSS_UNITS_LO lcDieReset) + c.data.length) % 2 ^ 64 = s.reg64 (Reg.TRU_LOSS_UNITS_LO lcDieReset) ∧ t.ing.transit = .empty)) ∧
  (∀ (s : State) (ok : Bool), ok = false ∨ s.aon.held = true ∨ s.linkUsable = true ∨ s.fdieUp = false ∨ s.tdieUp = false →
    exec (.linkRetrain ok) s = .next s) ∧
  (∀ s : State, s.aon.held = false → s.linkUsable = false → s.fdieUp = true → s.tdieUp = true → Completes (.linkRetrain true) s fun t =>
    t.linkUsable = true ∧ t.linkQuiesced = false ∧ t.fdieUp = true ∧ t.tdieUp = true ∧ t.die = .init ∧
    (∀ i : Fin 2, t.flag (Reg.D2D_STATUS (i.val + 1)) Fld.D2D_STATUS_UP = true ∧ t.flag (Reg.D2D_STATUS (i.val + 1)) Fld.D2D_STATUS_QUIESCED = false ∧
      t.flag (Reg.D2D_STATUS (i.val + 1)) Fld.D2D_STATUS_DISCONT = false) ∧
    (∀ e, e < 16 → KMap.get [] t.eg.fifo e = KMap.get [] s.eg.fifo e ++ KMap.get [] s.eg.wait e) ∧ t.eg.wait = .empty ∧ t.eg.copies = s.eg.copies ∧
    RegsBut [Reg.DEV_DIE_STATUS, Reg.D2D_STATUS 1, Reg.D2D_STATUS 2] s t ∧ { t with regs := s.regs, eg := s.eg, die := s.die } = s)

/-- REG_WRITE by the owner function: an RW register takes the value, an RO one ignores it, W1C bits clear where the value has 1, an SL register is written while unsealed and, while sealed, stays and counts in CYC_REFUSED, a sealed-channel RWO register takes the first write alone; HIF_DVSEC_WIN of a presented function takes its four bits. RC_FIELD_READ returns the word and clears the fields. PAIR_LO_READ returns the low word and holds the high one for its requester, and the next read of the high address through BAR0 returns what is held; PAIR_LO_WRITE is held and changes nothing else; PAIR_HI_WRITE writes both halves, or the high one where nothing is held. (One holding register per requester is the model's reading, log entry 33.) A function other than the owner that leaves its view reads zero or writes nothing, and counts. UNASSIGNED_ACCESS of the owner reads zero or writes nothing and records internal error 2; a hart of domain 0 records none. Of a die in reset a read is zero and a write nothing, without a record. BAR0_ACCESS of a function that is not presented does nothing; else it acts as the access of the window's address; a write with a byte disabled counts as refused; a table entry of MSI-X is written and read by words. MGMT_LANE_ACCESS, whatever the dies do, reads and writes the island's registers; a failed transfer reads zero or writes nothing and records error 2; on LT2560-A1-L it reads zero and writes nothing. -/
def Obligations.RegisterAccesses : Prop :=
  (∀ (s : State) (v : Word), exec (.regWrite (.func 0) (.space (BitVec.ofNat 32 Reg.DEV_SCRATCH)) v) s = .next (s.setReg Reg.DEV_SCRATCH v)) ∧
  (∀ (s : State) (v : Word), ∃ t, exec (.regWrite (.func 0) (.space (BitVec.ofNat 32 Reg.DEV_ID)) v) s = .next t ∧ OnlyRegs [] s t) ∧
  (∀ (s : State) (v : Word), s.fdieUp = true → Completes (.regWrite (.func 0) (.space (BitVec.ofNat 32 (Reg.D2D_CNT_OVF 1))) v) s fun t =>
    t.fld (Reg.D2D_CNT_OVF 1) Fld.D2D_CNT_OVF_OVF =
      (s.fld (Reg.D2D_CNT_OVF 1) Fld.D2D_CNT_OVF_OVF) - (s.fld (Reg.D2D_CNT_OVF 1) Fld.D2D_CNT_OVF_OVF &&& v.toNat % 4) ∧
    OnlyRegs [Reg.D2D_CNT_OVF 1] s t) ∧
  (∀ (s : State) (p : Fin 132) (v : Word), s.metered = true →
    (s.sealed = false → Completes (.regWrite (.func 0) (.space (BitVec.ofNat 32 (Reg.CYC_PORT_OVH p.val))) v) s fun t =>
      t.fld (Reg.CYC_PORT_OVH p.val) Fld.CYC_PORT_OVH_OVH = v.toNat % 256 ∧ OnlyRegs [Reg.CYC_PORT_OVH p.val] s t) ∧
    (s.sealed = true → Completes (.regWrite (.func 0) (.space (BitVec.ofNat 32 (Reg.CYC_PORT_OVH p.val))) v) s fun t =>
      Counted Ctr.CYC_REFUSED 1 s t ∧ RegsBut Ctr.CYC_REFUSED.regs s t ∧ { t with regs := s.regs, pmcIn := s.pmcIn } = s)) ∧
  (∀ (s : State) (v : Word), s.metered = true →
    (KMap.get 0 s.written (Reg.CYC_CA_DLY 24) ≠ 1 → Completes (.regWrite (.func 0) (.space (BitVec.ofNat 32 (Reg.CYC_CA_DLY 24))) v) s fun t =>
      t.fld (Reg.CYC_CA_DLY 24) Fld.CYC_CA_DLY_DLY = v.toNat % 4096 ∧ KMap.get 0 t.written (Reg.CYC_CA_DLY 24) = 1 ∧ RegsBut [Reg.CYC_CA_DLY 24] s t) ∧
    (KMap.get 0 s.written (Reg.CYC_CA_DLY 24) = 1 → Completes (.regWrite (.func 0) (.space (BitVec.ofNat 32 (Reg.CYC_CA_DLY 24))) v) s fun t =>
      RegsBut [] s t)) ∧
  (∀ (s : State) (f : Fin 1024) (v : Word), s.presented f.val = true → Completes (.regWrite (.func f) (.dvsecWin f) v) s fun t =>
    (t.fn f.val).win = v &&& 0xF ∧ (∀ n, n ≠ f.val → t.fn n = s.fn n) ∧ { t with hif := s.hif } = s) ∧
  (∀ (s : State) (x : Nat × List Fld), x ∈ [(Reg.THM_MAX, [Fld.THM_MAX_FDIE, Fld.THM_MAX_TDIE]), (Reg.FWH_DRAIN_MAX, [Fld.FWH_DRAIN_MAX_CYCLES]),
      (Reg.FWH_EDRAIN_MAX, [Fld.FWH_EDRAIN_MAX_CYCLES])] → s.fdieUp = true →
    Completes (.rcFieldRead (.func 0) (BitVec.ofNat 32 x.1)) s fun t =>
      t.out = s.out ++ [.regData (.func 0) x.1 (s.reg x.1)] ∧ (∀ f ∈ x.2, t.fld x.1 f = 0) ∧ RegsBut [x.1] s t ∧
      { t with regs := s.regs, out := s.out } = s) ∧
  (∀ (s : State) (a : BitVec 32) (v : Word), a.toNat % 4 = 0 → halfOf a.toNat = .lo → a.toNat / 2 ^ 28 = 0 ∨ (0x1FC28000 ≤ a.toNat ∧ a.toNat < 0x1FC2C000) ∨
      (0x1FC30000 ≤ a.toNat ∧ a.toNat < 0x1FC44000) ∨ (0x1FC48000 ≤ a.toNat ∧ a.toNat < 0x1FF00000) →
    (Completes (.pairLoRead (.func 0) a) s fun t =>
      t.out = s.out ++ [.regData (.func 0) a.toNat (s.readWord (.func 0) a.toNat)] ∧
      (t.holdOf (.func 0)).readHi = some (a.toNat + 4, s.readWord (.func 0) (a.toNat + 4)) ∧
      (t.holdOf (.func 0)).writeLo = (s.holdOf (.func 0)).writeLo ∧ (∀ r, reqKey r ≠ 0 → t.holdOf r = s.holdOf r) ∧
      { t with hold := s.hold, out := s.out } = s) ∧
    (Completes (.pairLoWrite (.func 0) a v) s fun t =>
      (t.holdOf (.func 0)).writeLo = some (a.toNat, v) ∧ (t.holdOf (.func 0)).readHi = (s.holdOf (.func 0)).readHi ∧
      (∀ r, reqKey r ≠ 0 → t.holdOf r = s.holdOf r) ∧ { t with hold := s.hold } = s)) ∧
  (∀ (s : State) (a : BitVec 32) (x : Word), s.presented 0 = true → (s.fn 0).bar0 = 0 → (s.fn 0).win = 1 → a.toNat % 4 = 0 → halfOf a.toNat = .hi →
      0x1FC30000 ≤ a.toNat → a.toNat < 0x1FC44000 → (s.holdOf (.func 0)).readHi = some (a.toNat, x) →
    Completes (.bar0Access 0 (a - 0x10000000) 15 none) s fun t =>
      t.out = s.out ++ [.regData (.func 0) a.toNat x] ∧ (t.holdOf (.func 0)).readHi = none ∧ { t with hold := s.hold, out := s.out } = s) ∧
  (∀ (s : State) (v : Word) (h : Option (Nat × Word)), (s.holdOf (.func 0)).writeLo = h →
    Completes (.pairHiWrite (.func 0) (BitVec.ofNat 32 Reg.TDM_CKPT_PERIOD_HI) v) s fun t =>
      t.fld Reg.TDM_CKPT_PERIOD_HI Fld.TDM_CKPT_PERIOD_HI_SPAN = Fld.TDM_CKPT_PERIOD_HI_SPAN.get v ∧
      (∀ w, h = some (Reg.TDM_CKPT_PERIOD_LO, w) → t.reg Reg.TDM_CKPT_PERIOD_LO = w ∧ (t.holdOf (.func 0)).writeLo = none) ∧
      ((∀ w, h ≠ some (Reg.TDM_CKPT_PERIOD_LO, w)) → t.reg Reg.TDM_CKPT_PERIOD_LO = s.reg Reg.TDM_CKPT_PERIOD_LO ∧ t.hold = s.hold) ∧
      RegsBut [Reg.TDM_CKPT_PERIOD_LO, Reg.TDM_CKPT_PERIOD_HI] s t) ∧
  (∀ (s : State) (f : Fin 1024) (a v : BitVec 32), f ≠ 0 → (0x20 ≤ a.toNat ∧ a.toNat < 2 ^ 28) ∨ (2 ^ 29 ≤ a.toNat ∧ a.toNat < 3 * 2 ^ 28) →
    (Completes (.regWrite (.func f) (.space a) v) s fun t => Counted (Ctr.HIF_VIEW_REFUSED (f.val / 256)) 1 s t ∧
      RegsBut (Ctr.HIF_VIEW_REFUSED (f.val / 256)).regs s t ∧ { t with regs := s.regs, pmcIn := s.pmcIn } = s) ∧
    (∀ c ∈ [Instr.pairLoRead (.func f) a, .rcFieldRead (.func f) a], Completes c s fun t => Counted (Ctr.HIF_VIEW_REFUSED (f.val / 256)) 1 s t ∧
      RegsBut (Ctr.HIF_VIEW_REFUSED (f.val / 256)).regs s t ∧ t.out = s.out ++ [.regData (.func f) (a.toNat / 4 * 4) 0] ∧
      { t with regs := s.regs, pmcIn := s.pmcIn, out := s.out } = s)) ∧
  (∀ (s : State) (a : BitVec 32) (w : Option Word), assigned (a.toNat / 4 * 4) = false → kvcPage (a.toNat / 4 * 4) = none →
      (a.toNat < 0x30000000 ∨ 0x40000000 ≤ a.toNat) → s.fdieUp = true → s.tdieUp = true → s.linkQuiesced = false → islandReg (a.toNat / 4 * 4) = false →
    (Completes (.unassignedAccess (.func 0) a w) s fun t =>
      (t.fld Reg.HIF_IERR_STATUS Fld.HIF_IERR_STATUS_SRC).testBit 2 = true ∧
      (w = none → (.regData (.func 0) (a.toNat / 4 * 4) 0 : Output) ∈ t.out) ∧ { t with
        regs := s.regs
        out := s.out
        hif := s.hif
        rings := s.rings
        ram := s.ram
        evLost := s.evLost
        pmcIn := s.pmcIn } = s) ∧
    (∀ h : Fin 128, s.hartDom h.val = 0 → exec (.unassignedAccess (.hart h) a none) s = .next { s with out := s.out ++ [.regData (.hart h) (a.toNat / 4 * 4) 0] })) ∧
  (∀ (s : State) (a : BitVec 32) (v : Word), a.toNat % 4 = 0 → (fdieReg a.toNat = true ∧ s.fdieUp = false) ∨
      (tdieReg a.toNat = true ∧ (s.tdieUp = false ∨ s.linkQuiesced = true)) →
    exec (.regWrite (.func 0) (.space a) v) s = .next s ∧
    exec (.pairLoRead (.func 0) a) s = .next { s with out := s.out ++ [.regData (.func 0) a.toNat 0] }) ∧
  (∀ (s : State) (f : Fin 1024) (o : BitVec 32) (be : BitVec 4) (w : Option Word), s.presented f.val = false → exec (.bar0Access f o be w) s = .next s) ∧
  (∀ (s : State) (o : BitVec 32) (be : BitVec 4) (v : Word), s.presented 0 = true → (s.fn 0).bar0 = 0 → o.toNat < 0x0FF00000 →
    exec (.bar0Access 0 o 15 (some v)) s = exec (.regWrite (.func 0) (.space (BitVec.ofNat 32 ((s.fn 0).win.toNat % 16 * 2 ^ 28 + o.toNat))) v) s ∧
    (be ≠ 0 → exec (.bar0Access 0 o be none) s = exec (.rcFieldRead (.func 0) (BitVec.ofNat 32 ((s.fn 0).win.toNat % 16 * 2 ^ 28 + o.toNat))) s) ∧
    (be ≠ 15 → Completes (.bar0Access 0 o be (some v)) s fun t => Counted (Ctr.HIF_VIEW_REFUSED 0) 1 s t ∧
      RegsBut (Ctr.HIF_VIEW_REFUSED 0).regs s t ∧ { t with regs := s.regs, pmcIn := s.pmcIn } = s)) ∧
  (∀ (s : State) (f : Fin 1024) (i : Nat) (v : Word), s.presented f.val = true → i < s.vectorsOf f.val → i < 2048 →
    (∀ k, k < 4 → Completes (.bar0Access f (BitVec.ofNat 32 (0x0FF00000 + 16 * i + 4 * k)) 15 (some v)) s fun t =>
      t.vec f.val i = (match k with
        | 0 => { s.vec f.val i with addr := BitVec.ofNat 64 ((s.vec f.val i).addr.toNat / 2 ^ 32 * 2 ^ 32 + v.toNat / 4 * 4) }
        | 1 => { s.vec f.val i with addr := BitVec.ofNat 64 (v.toNat * 2 ^ 32 + (s.vec f.val i).addr.toNat % 2 ^ 32) }
        | 2 => { s.vec f.val i with data := v }
        | _ => { s.vec f.val i with masked := v.getLsbD 0 }) ∧
      (∀ j, j < 2048 → j ≠ i → t.vec f.val j = s.vec f.val j) ∧ { t with hif := s.hif } = s) ∧
    exec (.bar0Access f (BitVec.ofNat 32 (0x0FF00000 + 16 * i + 8)) 15 none) s =
      .next { s with out := s.out ++ [.regData (.func f) (0x0FF00000 + 16 * i + 8) (s.vec f.val i).data] }) ∧
  (∀ (s : State) (a : BitVec 32) (w : Option Word) (ok : Bool), s.metered = false → islandReg a.toNat = true → a.toNat % 4 = 0 → w = none ∨ a.toNat < 0x30000000 →
    exec (.mgmtLaneAccess (.func 0) a w ok) s = .next (match w with
      | none => { s with out := s.out ++ [.regData (.func 0) a.toNat 0] }
      | some _ => s)) ∧
  (∀ (s : State) (a : BitVec 32) (w : Option Word), s.metered = true → islandReg a.toNat = true → a.toNat < 0x30000000 →
    Completes (.mgmtLaneAccess (.func 0) a w false) s fun t =>
      (t.fld Reg.HIF_IERR_STATUS Fld.HIF_IERR_STATUS_SRC).testBit 2 = true ∧ t.cyc = s.cyc ∧
      (w = none → (.regData (.func 0) (a.toNat / 4 * 4) 0 : Output) ∈ t.out) ∧ (∀ b, islandReg b = true → t.reg b = s.reg b)) ∧
  (∀ (s : State) (v : Word), s.metered = true →
    exec (.mgmtLaneAccess (.func 0) (BitVec.ofNat 32 Reg.CYC_INTERVAL) none true) s =
      .next { s with out := s.out ++ [.regData (.func 0) Reg.CYC_INTERVAL (s.reg Reg.CYC_INTERVAL)] } ∧
    (s.sealed = false → 1 ≤ Fld.CYC_INTERVAL_SECONDS.get v → Fld.CYC_INTERVAL_SECONDS.get v ≤ 86400 →
      Completes (.mgmtLaneAccess (.func 0) (BitVec.ofNat 32 Reg.CYC_INTERVAL) (some v) true) s fun t =>
        t.fld Reg.CYC_INTERVAL Fld.CYC_INTERVAL_SECONDS = Fld.CYC_INTERVAL_SECONDS.get v ∧ OnlyRegs [Reg.CYC_INTERVAL] s t))

/-- For every command and state, a step of the state with the command at the front of its queue is the command's effect on the state with the rest of the queue. A step with none waiting answers the state after one cycle of the clocks. (The queue and the idle cycle are the model's own frame, log entry 30.) -/
def Obligations.StepRunsFrontCommand : Prop :=
  (∀ (c : Instr) (s : State) (l : List Instr), step { s with pending := c :: l } = exec c { s with pending := l }) ∧
  (∀ s : State, s.pending = [] → step s = .next s.tick)

/-- After reset no command waits, no register differs from its reset word and memory lists no byte, so the queue is ready and registers and memory are canonical. The identification registers hold part 0x2560, stepping A1, the lid and vendor codes and the ROM version; the capacity words hold the values of R544 for a slice, a core cluster, a quadrant, a bundle, the Cyclometer and both dies; TIME_INC holds its nominal value, the checkpoint period 0.01 s, DEV_STATUS and DEV_DIE_STATUS zero. (METER set and the memory's zero are the model's choice, log entries 20 and 32.) -/
def Obligations.ResetState : Prop :=
  State.reset.pending = [] ∧ State.reset.Ready ∧ State.reset.RegsCanonical ∧ State.reset.MemoryCanonical ∧
  (∀ a, State.reset.reg a = resetWord a) ∧ (∀ a, KMap.get 0 State.reset.ram a = 0) ∧
  (∀ x ∈ [((0x00000000 : Nat), (0x2560A111 : Word)), (0x00000004, 0x1EB700B7), (0x00000010, 0x00010000), (0x00000104, 0), (0x0000010C, 0),
      (0x00001000, 0x01640001), (0x0000103C, 0x01640001), (0x00001080, 0x02640008), (0x000010FC, 0x02640000), (0x00001100, 0x00640000),
      (0x00001120, 0x00640018), (0x00001150, 0x00640000), (0x000011FC, 0x04640000), (0x1FC00020, 0x6E80FE03), (0x1FC38018, 0x028F5C29), (0x1FC3801C, 0)],
    State.reset.reg x.1 = x.2)

/-- In every state whose waiting commands can be given, whose register words and whose device memory are in canonical form (addresses rise, and nothing is listed that an unlisted address reads as), every step that answers a next state leaves them so, and the queue is what stood behind the front command. Equal contents are therefore equal data after any command. -/
def Obligations.StepsKeepCanonicalForm : Prop :=
  ∀ s t : State, s.Ready → s.RegsCanonical → s.MemoryCanonical → step s = .next t →
    t.Ready ∧ t.RegsCanonical ∧ t.MemoryCanonical ∧ t.pending = s.pending.tail

/-- From every state, a run of as many steps as commands wait goes through and leaves none waiting; a run of any number of steps goes through; and a run of fewer steps leaves the commands behind those it ran, in their order. (The queue is the model's own frame, log entry 30.) -/
def Obligations.QueueRunsThrough : Prop :=
  (∀ (n : Nat) (s : State), Safe n s) ∧
  (∀ s : State, ∃ t, Host.Core.run core s.pending.length s = .next t ∧ t.pending = []) ∧
  (∀ (s : State) (n : Nat), n ≤ s.pending.length → ∃ t, Host.Core.run core n s = .next t ∧ t.pending = s.pending.drop n)
end

