-- ==== Sys2Proof/Laws/KMap.lean ====
section
/-! SUPPORT. The sparse table: reading after writing, and the canonical form kept by every operation. -/

namespace Sys2Proof.Machine

theorem lfind_lins_same {α : Type} (l : List (Nat × α)) (k : Nat) (v : α) : lfind (lins l k v) k = some v := by
  induction l with
  | nil => simp [lins, lfind]
  | cons e r ih =>
    obtain ⟨j, w⟩ := e
    simp only [lins]
    split_ifs with h1 h2
    · simp [lfind]
    · simp [lfind]
    · simp [lfind, Ne.symm h2, ih]

theorem lfind_lins_ne {α : Type} (l : List (Nat × α)) (k j : Nat) (v : α) (h : j ≠ k) : lfind (lins l k v) j = lfind l j := by
  induction l with
  | nil => simp [lins, lfind, Ne.symm h]
  | cons e r ih =>
    obtain ⟨i, w⟩ := e
    simp only [lins]
    split_ifs with h1 h2
    · simp [lfind, Ne.symm h]
    · subst h2; simp [lfind, Ne.symm h]
    · simp [lfind, ih]

theorem lfind_ldel_same {α : Type} (l : List (Nat × α)) (k : Nat) : lfind (ldel l k) k = none := by
  induction l with
  | nil => rfl
  | cons e r ih =>
    obtain ⟨j, w⟩ := e
    simp only [ldel]
    split_ifs with h1
    · exact ih
    · simp [lfind, Ne.symm h1, ih]

theorem lfind_ldel_ne {α : Type} (l : List (Nat × α)) (k j : Nat) (h : j ≠ k) : lfind (ldel l k) j = lfind l j := by
  induction l with
  | nil => rfl
  | cons e r ih =>
    obtain ⟨i, w⟩ := e
    simp only [ldel]
    split_ifs with h1
    · subst h1; simp [lfind, Ne.symm h, ih]
    · simp [lfind, ih]

/-- A key reads what was written to it. -/
@[simp] theorem KMap.get_set_same {α : Type} [DecidableEq α] (d : α) (m : KMap α) (k : Nat) (v : α) : KMap.get d (KMap.set d m k v) k = v := by
  by_cases h : v = d <;> simp [KMap.get, KMap.set, h, lfind_ldel_same, lfind_lins_same]

/-- Every other key reads what it read before. -/
theorem KMap.get_set_ne {α : Type} [DecidableEq α] (d e : α) (m : KMap α) (k j : Nat) (v : α) (h : j ≠ k) :
    KMap.get e (KMap.set d m k v) j = KMap.get e m j := by
  by_cases h' : v = d <;> simp [KMap.get, KMap.set, h', lfind_ldel_ne, lfind_lins_ne, h]

/-- The two together. -/
theorem KMap.get_set {α : Type} [DecidableEq α] (d : α) (m : KMap α) (k j : Nat) (v : α) :
    KMap.get d (KMap.set d m k v) j = if j = k then v else KMap.get d m j := by
  by_cases h : j = k
  · subst h; simp
  · simp [h, KMap.get_set_ne]

@[simp] theorem KMap.get_empty {α : Type} (d : α) (k : Nat) : KMap.get d .empty k = d := rfl

/-- Every key of a list is above a bound. -/
def lAbove {α : Type} (b : Nat) (l : List (Nat × α)) : Prop := ∀ e ∈ l, b < e.1

theorem lsorted_cons {α : Type} (e : Nat × α) (r : List (Nat × α)) : lsorted (e :: r) = true ↔ lAbove e.1 r ∧ lsorted r = true := by
  induction r generalizing e with
  | nil => simp [lsorted, lAbove]
  | cons f r ih =>
    obtain ⟨j, w⟩ := e
    obtain ⟨i, x⟩ := f
    simp only [lsorted, Bool.and_eq_true, decide_eq_true_eq]
    constructor
    · rintro ⟨h, hs⟩
      refine ⟨?_, hs⟩
      intro g hg
      rcases List.mem_cons.1 hg with rfl | hg
      · exact h
      · exact lt_trans h (((ih (i, x)).1 hs).1 g hg)
    · rintro ⟨h, hs⟩
      exact ⟨h (i, x) (by simp), hs⟩

theorem lAbove_lins {α : Type} (b : Nat) (l : List (Nat × α)) (k : Nat) (v : α) (h : lAbove b l) (hk : b < k) : lAbove b (lins l k v) := by
  induction l with
  | nil => intro e he; simp [lins] at he; subst he; exact hk
  | cons f r ih =>
    obtain ⟨j, w⟩ := f
    have hr : lAbove b r := fun e he => h e (by simp [he])
    have hj : b < j := h (j, w) (by simp)
    simp only [lins]
    split_ifs
    · intro e he
      rcases List.mem_cons.1 he with rfl | he
      · exact hk
      · exact h e he
    · intro e he
      rcases List.mem_cons.1 he with rfl | he
      · exact hk
      · exact hr e he
    · intro e he
      rcases List.mem_cons.1 he with rfl | he
      · exact hj
      · exact ih hr e he

theorem lsorted_lins {α : Type} (l : List (Nat × α)) (k : Nat) (v : α) (h : lsorted l = true) : lsorted (lins l k v) = true := by
  induction l with
  | nil => rfl
  | cons f r ih =>
    obtain ⟨j, w⟩ := f
    obtain ⟨ha, hs⟩ := (lsorted_cons _ _).1 h
    simp only [lins]
    split_ifs with h1 h2
    · refine (lsorted_cons _ _).2 ⟨?_, h⟩
      intro e he
      rcases List.mem_cons.1 he with rfl | he
      · exact h1
      · exact lt_trans h1 (ha e he)
    · exact (lsorted_cons _ _).2 ⟨by subst h2; exact ha, hs⟩
    · exact (lsorted_cons _ _).2 ⟨lAbove_lins _ _ _ _ ha (by simp at h1 ⊢; omega), ih hs⟩

theorem mem_lins {α : Type} (l : List (Nat × α)) (k : Nat) (v : α) (e : Nat × α) (h : e ∈ lins l k v) : e = (k, v) ∨ e ∈ l := by
  induction l with
  | nil => simp [lins] at h; exact .inl h
  | cons f r ih =>
    obtain ⟨j, w⟩ := f
    simp only [lins] at h
    split_ifs at h
    · rcases List.mem_cons.1 h with h | h
      · exact .inl h
      · exact .inr h
    · rcases List.mem_cons.1 h with h | h
      · exact .inl h
      · exact .inr (by simp [h])
    · rcases List.mem_cons.1 h with h | h
      · exact .inr (by simp [h])
      · rcases ih h with h | h
        · exact .inl h
        · exact .inr (by simp [h])

theorem mem_ldel {α : Type} (l : List (Nat × α)) (k : Nat) (e : Nat × α) (h : e ∈ ldel l k) : e ∈ l ∧ e.1 ≠ k := by
  induction l with
  | nil => simp [ldel] at h
  | cons f r ih =>
    obtain ⟨j, w⟩ := f
    simp only [ldel] at h
    split_ifs at h with h1
    · exact ⟨by simp [(ih h).1], (ih h).2⟩
    · rcases List.mem_cons.1 h with rfl | h
      · exact ⟨by simp, fun he => h1 he.symm⟩
      · exact ⟨by simp [(ih h).1], (ih h).2⟩

theorem lsorted_ldel {α : Type} (l : List (Nat × α)) (k : Nat) (h : lsorted l = true) : lsorted (ldel l k) = true := by
  induction l with
  | nil => rfl
  | cons f r ih =>
    obtain ⟨j, w⟩ := f
    obtain ⟨ha, hs⟩ := (lsorted_cons _ _).1 h
    simp only [ldel]
    split_ifs
    · exact ih hs
    · exact (lsorted_cons _ _).2 ⟨fun e he => ha e (mem_ldel _ _ _ he).1, ih hs⟩

theorem lsorted_filter {α : Type} (l : List (Nat × α)) (p : Nat × α → Bool) (h : lsorted l = true) : lsorted (l.filter p) = true := by
  induction l with
  | nil => rfl
  | cons f r ih =>
    obtain ⟨ha, hs⟩ := (lsorted_cons _ _).1 h
    simp only [List.filter_cons]
    split_ifs
    · exact (lsorted_cons _ _).2 ⟨fun e he => ha e (List.mem_filter.1 he).1, ih hs⟩
    · exact ih hs

/-- What the canonical form says. -/
theorem KMap.wf_iff {α : Type} [DecidableEq α] (d : Nat → α) (m : KMap α) :
    m.wf d = true ↔ lsorted m.l = true ∧ ∀ e ∈ m.l, e.2 ≠ d e.1 := by
  simp [KMap.wf]

/-- The empty table is canonical. -/
@[simp] theorem KMap.wf_empty {α : Type} [DecidableEq α] (d : Nat → α) : (KMap.empty : KMap α).wf d = true := rfl

/-- A write keeps the canonical form. -/
theorem KMap.wf_set {α : Type} [DecidableEq α] (d : Nat → α) (m : KMap α) (k : Nat) (v : α) (h : m.wf d = true) :
    (KMap.set (d k) m k v).wf d = true := by
  rw [KMap.wf_iff] at h ⊢
  obtain ⟨hs, hd⟩ := h
  by_cases hv : v = d k
  · simp only [KMap.set, hv, if_true]
    exact ⟨lsorted_ldel _ _ hs, fun e he => hd e (mem_ldel _ _ _ he).1⟩
  · simp only [KMap.set, hv, if_false]
    refine ⟨lsorted_lins _ _ _ hs, fun e he => ?_⟩
    rcases mem_lins _ _ _ _ he with rfl | he
    · exact hv
    · exact hd e he

/-- Keeping some of the entries keeps the canonical form. -/
theorem KMap.wf_filter {α : Type} [DecidableEq α] (d : Nat → α) (m : KMap α) (p : Nat → α → Bool) (h : m.wf d = true) :
    (m.filter p).wf d = true := by
  rw [KMap.wf_iff] at h ⊢
  exact ⟨lsorted_filter _ _ h.1, fun e he => h.2 e (List.mem_filter.1 he).1⟩

end Sys2Proof.Machine
end

