-- ==== Sys2Proof/Laws/Regs.lean ====
section
/-! SUPPORT. Register words and fields: what is read after a write, and what a write leaves. -/

namespace Sys2Proof.Machine

theorem Fld.mask_toNat (f : Fld) (h : f.lo + f.width ≤ 32) : f.mask.toNat = (2 ^ f.width - 1) <<< f.lo := by
  rw [Fld.mask, BitVec.toNat_ofNat]
  apply Nat.mod_eq_of_lt
  rw [Nat.shiftLeft_eq]
  calc (2 ^ f.width - 1) * 2 ^ f.lo < 2 ^ f.width * 2 ^ f.lo := by
        apply Nat.mul_lt_mul_of_pos_right
        · have := Nat.two_pow_pos f.width; omega
        · exact Nat.two_pow_pos _
    _ = 2 ^ (f.lo + f.width) := by rw [← pow_add, add_comm]
    _ ≤ 2 ^ 32 := Nat.pow_le_pow_right (by omega) h

theorem Fld.getLsbD_mask (f : Fld) (i : Nat) (h : f.lo + f.width ≤ 32) :
    f.mask.getLsbD i = (decide (f.lo ≤ i) && decide (i < f.lo + f.width)) := by
  rw [← BitVec.testBit_toNat, Fld.mask_toNat f h, Nat.testBit_shiftLeft, Nat.testBit_two_pow_sub_one]
  by_cases h1 : f.lo ≤ i
  · simp [h1]; omega
  · simp [h1]

theorem Fld.testBit_get (f : Fld) (w : Word) (i : Nat) : (f.get w).testBit i = (decide (i < f.width) && w.getLsbD (f.lo + i)) := by
  rw [Fld.get, Nat.testBit_mod_two_pow, Nat.testBit_shiftRight, BitVec.testBit_toNat]

theorem Fld.getLsbD_put (f : Fld) (w : Word) (v i : Nat) (hi : i < 32) (h : f.lo + f.width ≤ 32) :
    (f.put w v).getLsbD i = if f.lo ≤ i ∧ i < f.lo + f.width then v.testBit (i - f.lo) else w.getLsbD i := by
  rw [Fld.put, BitVec.getLsbD_or, BitVec.getLsbD_and, BitVec.getLsbD_and, BitVec.getLsbD_not, Fld.getLsbD_mask f i h,
    BitVec.getLsbD_ofNat, Nat.testBit_shiftLeft]
  by_cases h1 : f.lo ≤ i <;> by_cases h2 : i < f.lo + f.width <;> simp [h1, h2, hi]

/-- A field reads what was put into it, cut to its width. -/
theorem Fld.get_put (f : Fld) (w : Word) (v : Nat) (h : f.lo + f.width ≤ 32) : f.get (f.put w v) = v % 2 ^ f.width := by
  apply Nat.eq_of_testBit_eq
  intro i
  rw [Fld.testBit_get, Nat.testBit_mod_two_pow]
  by_cases hi : i < f.width
  · rw [Fld.getLsbD_put f w v _ (by omega) h]
    simp [hi]
  · simp [hi]

/-- A field that shares no bit with the one put into reads what it read before. -/
theorem Fld.get_put_ne (f g : Fld) (w : Word) (v : Nat) (h : f.lo + f.width ≤ 32) (hg : g.lo + g.width ≤ 32)
    (hd : f.lo + f.width ≤ g.lo ∨ g.lo + g.width ≤ f.lo) : g.get (f.put w v) = g.get w := by
  apply Nat.eq_of_testBit_eq
  intro i
  rw [Fld.testBit_get, Fld.testBit_get]
  by_cases hi : i < g.width
  · rw [Fld.getLsbD_put f w v _ (by omega) h, if_neg (by omega)]
  · simp [hi]

/-- The word of a register after a write. -/
@[simp] theorem State.reg_setReg_same (s : State) (a : Nat) (w : Word) : (s.setReg a w).reg a = w := by
  simp [State.reg, State.setReg]

/-- Every other register keeps its word. -/
theorem State.reg_setReg_ne (s : State) (a b : Nat) (w : Word) (h : b ≠ a) : (s.setReg a w).reg b = s.reg b := by
  simp [State.reg, State.setReg, KMap.get_set_ne _ _ _ _ _ _ h]

theorem State.reg_setReg (s : State) (a b : Nat) (w : Word) : (s.setReg a w).reg b = if b = a then w else s.reg b := by
  by_cases h : b = a
  · subst h; simp
  · simp [h, State.reg_setReg_ne]

/-- A field after it is set. -/
theorem State.fld_setFld_same (s : State) (a : Nat) (f : Fld) (v : Nat) (h : f.lo + f.width ≤ 32) :
    (s.setFld a f v).fld a f = v % 2 ^ f.width := by
  simp [State.fld, State.setFld, Fld.get_put f _ _ h]

/-- A field of another register keeps its value. -/
theorem State.fld_setFld_ne (s : State) (a b : Nat) (f g : Fld) (v : Nat) (h : b ≠ a) : (s.setFld a f v).fld b g = s.fld b g := by
  simp [State.fld, State.setFld, State.reg_setReg_ne _ _ _ _ h]

/-- Another field of the same register keeps its value. -/
theorem State.fld_setFld_other (s : State) (a : Nat) (f g : Fld) (v : Nat) (h : f.lo + f.width ≤ 32) (hg : g.lo + g.width ≤ 32)
    (hd : f.lo + f.width ≤ g.lo ∨ g.lo + g.width ≤ f.lo) : (s.setFld a f v).fld a g = s.fld a g := by
  simp [State.fld, State.setFld, Fld.get_put_ne f g _ _ h hg hd]

/-- A flag after it is set or cleared. -/
theorem State.flag_setFlag_same (s : State) (a : Nat) (f : Fld) (b : Bool) (h : f.lo + f.width ≤ 32) : (s.setFlag a f b).flag a f = b := by
  have hw : 2 ≤ 2 ^ f.width := by
    calc 2 = 2 ^ 1 := rfl
      _ ≤ 2 ^ f.width := Nat.pow_le_pow_right (by omega) (by simp [Fld.width])
  have hb : b.toNat % 2 ^ f.width = b.toNat := Nat.mod_eq_of_lt (lt_of_lt_of_le (by cases b <;> decide) hw)
  rw [State.flag, State.setFlag, State.fld_setFld_same _ _ _ _ h, hb]
  cases b <;> rfl

/-- A flag of another register keeps its value. -/
theorem State.flag_setFlag_ne (s : State) (a b : Nat) (f g : Fld) (x : Bool) (h : b ≠ a) : (s.setFlag a f x).flag b g = s.flag b g := by
  rw [State.flag, State.setFlag, State.fld_setFld_ne _ _ _ _ _ _ h, State.flag]

/-- Another flag of the same register keeps its value. -/
theorem State.flag_setFlag_other (s : State) (a : Nat) (f g : Fld) (x : Bool) (h : f.lo + f.width ≤ 32) (hg : g.lo + g.width ≤ 32)
    (hd : f.lo + f.width ≤ g.lo ∨ g.lo + g.width ≤ f.lo) : (s.setFlag a f x).flag a g = s.flag a g := by
  rw [State.flag, State.setFlag, State.fld_setFld_other _ _ _ _ _ h hg hd, State.flag]

/-- A pair reads what was written to it, modulo 2^64. -/
theorem State.reg64_setReg64 (s : State) (lo v : Nat) : (s.setReg64 lo v).reg64 lo = v % 2 ^ 64 := by
  rw [State.reg64, State.setReg64, State.reg_setReg_same, State.reg_setReg_ne _ _ _ _ (by omega), State.reg_setReg_same,
    BitVec.toNat_ofNat, BitVec.toNat_ofNat, Nat.shiftRight_eq_div_pow]
  omega

/-- The canonical form of the register words is kept by a write. -/
theorem State.regs_wf_setReg (s : State) (a : Nat) (w : Word) (h : s.regs.wf resetWord = true) :
    (s.setReg a w).regs.wf resetWord = true := by
  simpa [State.setReg] using KMap.wf_set resetWord s.regs a w h

/-- What a write of a register leaves: everything but the register words. -/
theorem State.setReg_frame (s : State) (a : Nat) (w : Word) : { s.setReg a w with regs := s.regs } = s := rfl

end Sys2Proof.Machine
end

