-- ==== Sys2Proof/Laws/State.lean ====
section
/-! SUPPORT. The named updates of the state: one lemma per field that an update leaves. -/

namespace Sys2Proof.Machine

@[simp] theorem State.setReg_pending (s : State) (a : Nat) (w : Word) : (s.setReg a w).pending = s.pending := by cases s; rfl
@[simp] theorem State.setReg_draws (s : State) (a : Nat) (w : Word) : (s.setReg a w).draws = s.draws := by cases s; rfl
@[simp] theorem State.setReg_out (s : State) (a : Nat) (w : Word) : (s.setReg a w).out = s.out := by cases s; rfl
@[simp] theorem State.setReg_hold (s : State) (a : Nat) (w : Word) : (s.setReg a w).hold = s.hold := by cases s; rfl
@[simp] theorem State.setReg_written (s : State) (a : Nat) (w : Word) : (s.setReg a w).written = s.written := by cases s; rfl
@[simp] theorem State.setReg_pmcIn (s : State) (a : Nat) (w : Word) : (s.setReg a w).pmcIn = s.pmcIn := by cases s; rfl
@[simp] theorem State.setReg_die (s : State) (a : Nat) (w : Word) : (s.setReg a w).die = s.die := by cases s; rfl
@[simp] theorem State.setReg_time (s : State) (a : Nat) (w : Word) : (s.setReg a w).time = s.time := by cases s; rfl
@[simp] theorem State.setReg_hif (s : State) (a : Nat) (w : Word) : (s.setReg a w).hif = s.hif := by cases s; rfl
@[simp] theorem State.setReg_rings (s : State) (a : Nat) (w : Word) : (s.setReg a w).rings = s.rings := by cases s; rfl
@[simp] theorem State.setReg_evLost (s : State) (a : Nat) (w : Word) : (s.setReg a w).evLost = s.evLost := by cases s; rfl
@[simp] theorem State.setReg_ram (s : State) (a : Nat) (w : Word) : (s.setReg a w).ram = s.ram := by cases s; rfl
@[simp] theorem State.setReg_tab (s : State) (a : Nat) (w : Word) : (s.setReg a w).tab = s.tab := by cases s; rfl
@[simp] theorem State.setReg_lrn (s : State) (a : Nat) (w : Word) : (s.setReg a w).lrn = s.lrn := by cases s; rfl
@[simp] theorem State.setReg_acl (s : State) (a : Nat) (w : Word) : (s.setReg a w).acl = s.acl := by cases s; rfl
@[simp] theorem State.setReg_pat (s : State) (a : Nat) (w : Word) : (s.setReg a w).pat = s.pat := by cases s; rfl
@[simp] theorem State.setReg_icr (s : State) (a : Nat) (w : Word) : (s.setReg a w).icr = s.icr := by cases s; rfl
@[simp] theorem State.setReg_ing (s : State) (a : Nat) (w : Word) : (s.setReg a w).ing = s.ing := by cases s; rfl
@[simp] theorem State.setReg_port (s : State) (a : Nat) (w : Word) : (s.setReg a w).port = s.port := by cases s; rfl
@[simp] theorem State.setReg_otn (s : State) (a : Nat) (w : Word) : (s.setReg a w).otn = s.otn := by cases s; rfl
@[simp] theorem State.setReg_fab (s : State) (a : Nat) (w : Word) : (s.setReg a w).fab = s.fab := by cases s; rfl
@[simp] theorem State.setReg_tm (s : State) (a : Nat) (w : Word) : (s.setReg a w).tm = s.tm := by cases s; rfl
@[simp] theorem State.setReg_sch (s : State) (a : Nat) (w : Word) : (s.setReg a w).sch = s.sch := by cases s; rfl
@[simp] theorem State.setReg_eg (s : State) (a : Nat) (w : Word) : (s.setReg a w).eg = s.eg := by cases s; rfl
@[simp] theorem State.setReg_mem (s : State) (a : Nat) (w : Word) : (s.setReg a w).mem = s.mem := by cases s; rfl
@[simp] theorem State.setReg_turnIn (s : State) (a : Nat) (w : Word) : (s.setReg a w).turnIn = s.turnIn := by cases s; rfl
@[simp] theorem State.setReg_turnOut (s : State) (a : Nat) (w : Word) : (s.setReg a w).turnOut = s.turnOut := by cases s; rfl
@[simp] theorem State.setReg_harts (s : State) (a : Nat) (w : Word) : (s.setReg a w).harts = s.harts := by cases s; rfl
@[simp] theorem State.setReg_kvc (s : State) (a : Nat) (w : Word) : (s.setReg a w).kvc = s.kvc := by cases s; rfl
@[simp] theorem State.setReg_boot (s : State) (a : Nat) (w : Word) : (s.setReg a w).boot = s.boot := by cases s; rfl
@[simp] theorem State.setReg_otp (s : State) (a : Nat) (w : Word) : (s.setReg a w).otp = s.otp := by cases s; rfl
@[simp] theorem State.setReg_cyc (s : State) (a : Nat) (w : Word) : (s.setReg a w).cyc = s.cyc := by cases s; rfl
@[simp] theorem State.setReg_tru (s : State) (a : Nat) (w : Word) : (s.setReg a w).tru = s.tru := by cases s; rfl
@[simp] theorem State.setReg_pmc (s : State) (a : Nat) (w : Word) : (s.setReg a w).pmc = s.pmc := by cases s; rfl
@[simp] theorem State.setReg_tdm (s : State) (a : Nat) (w : Word) : (s.setReg a w).tdm = s.tdm := by cases s; rfl
@[simp] theorem State.setReg_thm (s : State) (a : Nat) (w : Word) : (s.setReg a w).thm = s.thm := by cases s; rfl
@[simp] theorem State.setReg_aon (s : State) (a : Nat) (w : Word) : (s.setReg a w).aon = s.aon := by cases s; rfl
@[simp] theorem State.setReg_led (s : State) (a : Nat) (w : Word) : (s.setReg a w).led = s.led := by cases s; rfl

@[simp] theorem State.setFld_pending (s : State) (a : Nat) (f : Fld) (v : Nat) : (s.setFld a f v).pending = s.pending := by cases s; rfl
@[simp] theorem State.setFld_draws (s : State) (a : Nat) (f : Fld) (v : Nat) : (s.setFld a f v).draws = s.draws := by cases s; rfl
@[simp] theorem State.setFld_out (s : State) (a : Nat) (f : Fld) (v : Nat) : (s.setFld a f v).out = s.out := by cases s; rfl
@[simp] theorem State.setFld_hold (s : State) (a : Nat) (f : Fld) (v : Nat) : (s.setFld a f v).hold = s.hold := by cases s; rfl
@[simp] theorem State.setFld_written (s : State) (a : Nat) (f : Fld) (v : Nat) : (s.setFld a f v).written = s.written := by cases s; rfl
@[simp] theorem State.setFld_pmcIn (s : State) (a : Nat) (f : Fld) (v : Nat) : (s.setFld a f v).pmcIn = s.pmcIn := by cases s; rfl
@[simp] theorem State.setFld_die (s : State) (a : Nat) (f : Fld) (v : Nat) : (s.setFld a f v).die = s.die := by cases s; rfl
@[simp] theorem State.setFld_time (s : State) (a : Nat) (f : Fld) (v : Nat) : (s.setFld a f v).time = s.time := by cases s; rfl
@[simp] theorem State.setFld_hif (s : State) (a : Nat) (f : Fld) (v : Nat) : (s.setFld a f v).hif = s.hif := by cases s; rfl
@[simp] theorem State.setFld_rings (s : State) (a : Nat) (f : Fld) (v : Nat) : (s.setFld a f v).rings = s.rings := by cases s; rfl
@[simp] theorem State.setFld_evLost (s : State) (a : Nat) (f : Fld) (v : Nat) : (s.setFld a f v).evLost = s.evLost := by cases s; rfl
@[simp] theorem State.setFld_ram (s : State) (a : Nat) (f : Fld) (v : Nat) : (s.setFld a f v).ram = s.ram := by cases s; rfl
@[simp] theorem State.setFld_tab (s : State) (a : Nat) (f : Fld) (v : Nat) : (s.setFld a f v).tab = s.tab := by cases s; rfl
@[simp] theorem State.setFld_lrn (s : State) (a : Nat) (f : Fld) (v : Nat) : (s.setFld a f v).lrn = s.lrn := by cases s; rfl
@[simp] theorem State.setFld_acl (s : State) (a : Nat) (f : Fld) (v : Nat) : (s.setFld a f v).acl = s.acl := by cases s; rfl
@[simp] theorem State.setFld_pat (s : State) (a : Nat) (f : Fld) (v : Nat) : (s.setFld a f v).pat = s.pat := by cases s; rfl
@[simp] theorem State.setFld_icr (s : State) (a : Nat) (f : Fld) (v : Nat) : (s.setFld a f v).icr = s.icr := by cases s; rfl
@[simp] theorem State.setFld_ing (s : State) (a : Nat) (f : Fld) (v : Nat) : (s.setFld a f v).ing = s.ing := by cases s; rfl
@[simp] theorem State.setFld_port (s : State) (a : Nat) (f : Fld) (v : Nat) : (s.setFld a f v).port = s.port := by cases s; rfl
@[simp] theorem State.setFld_otn (s : State) (a : Nat) (f : Fld) (v : Nat) : (s.setFld a f v).otn = s.otn := by cases s; rfl
@[simp] theorem State.setFld_fab (s : State) (a : Nat) (f : Fld) (v : Nat) : (s.setFld a f v).fab = s.fab := by cases s; rfl
@[simp] theorem State.setFld_tm (s : State) (a : Nat) (f : Fld) (v : Nat) : (s.setFld a f v).tm = s.tm := by cases s; rfl
@[simp] theorem State.setFld_sch (s : State) (a : Nat) (f : Fld) (v : Nat) : (s.setFld a f v).sch = s.sch := by cases s; rfl
@[simp] theorem State.setFld_eg (s : State) (a : Nat) (f : Fld) (v : Nat) : (s.setFld a f v).eg = s.eg := by cases s; rfl
@[simp] theorem State.setFld_mem (s : State) (a : Nat) (f : Fld) (v : Nat) : (s.setFld a f v).mem = s.mem := by cases s; rfl
@[simp] theorem State.setFld_turnIn (s : State) (a : Nat) (f : Fld) (v : Nat) : (s.setFld a f v).turnIn = s.turnIn := by cases s; rfl
@[simp] theorem State.setFld_turnOut (s : State) (a : Nat) (f : Fld) (v : Nat) : (s.setFld a f v).turnOut = s.turnOut := by cases s; rfl
@[simp] theorem State.setFld_harts (s : State) (a : Nat) (f : Fld) (v : Nat) : (s.setFld a f v).harts = s.harts := by cases s; rfl
@[simp] theorem State.setFld_kvc (s : State) (a : Nat) (f : Fld) (v : Nat) : (s.setFld a f v).kvc = s.kvc := by cases s; rfl
@[simp] theorem State.setFld_boot (s : State) (a : Nat) (f : Fld) (v : Nat) : (s.setFld a f v).boot = s.boot := by cases s; rfl
@[simp] theorem State.setFld_otp (s : State) (a : Nat) (f : Fld) (v : Nat) : (s.setFld a f v).otp = s.otp := by cases s; rfl
@[simp] theorem State.setFld_cyc (s : State) (a : Nat) (f : Fld) (v : Nat) : (s.setFld a f v).cyc = s.cyc := by cases s; rfl
@[simp] theorem State.setFld_tru (s : State) (a : Nat) (f : Fld) (v : Nat) : (s.setFld a f v).tru = s.tru := by cases s; rfl
@[simp] theorem State.setFld_pmc (s : State) (a : Nat) (f : Fld) (v : Nat) : (s.setFld a f v).pmc = s.pmc := by cases s; rfl
@[simp] theorem State.setFld_tdm (s : State) (a : Nat) (f : Fld) (v : Nat) : (s.setFld a f v).tdm = s.tdm := by cases s; rfl
@[simp] theorem State.setFld_thm (s : State) (a : Nat) (f : Fld) (v : Nat) : (s.setFld a f v).thm = s.thm := by cases s; rfl
@[simp] theorem State.setFld_aon (s : State) (a : Nat) (f : Fld) (v : Nat) : (s.setFld a f v).aon = s.aon := by cases s; rfl
@[simp] theorem State.setFld_led (s : State) (a : Nat) (f : Fld) (v : Nat) : (s.setFld a f v).led = s.led := by cases s; rfl

@[simp] theorem State.setFlag_pending (s : State) (a : Nat) (f : Fld) (b : Bool) : (s.setFlag a f b).pending = s.pending := by cases s; rfl
@[simp] theorem State.setFlag_draws (s : State) (a : Nat) (f : Fld) (b : Bool) : (s.setFlag a f b).draws = s.draws := by cases s; rfl
@[simp] theorem State.setFlag_out (s : State) (a : Nat) (f : Fld) (b : Bool) : (s.setFlag a f b).out = s.out := by cases s; rfl
@[simp] theorem State.setFlag_hold (s : State) (a : Nat) (f : Fld) (b : Bool) : (s.setFlag a f b).hold = s.hold := by cases s; rfl
@[simp] theorem State.setFlag_written (s : State) (a : Nat) (f : Fld) (b : Bool) : (s.setFlag a f b).written = s.written := by cases s; rfl
@[simp] theorem State.setFlag_pmcIn (s : State) (a : Nat) (f : Fld) (b : Bool) : (s.setFlag a f b).pmcIn = s.pmcIn := by cases s; rfl
@[simp] theorem State.setFlag_die (s : State) (a : Nat) (f : Fld) (b : Bool) : (s.setFlag a f b).die = s.die := by cases s; rfl
@[simp] theorem State.setFlag_time (s : State) (a : Nat) (f : Fld) (b : Bool) : (s.setFlag a f b).time = s.time := by cases s; rfl
@[simp] theorem State.setFlag_hif (s : State) (a : Nat) (f : Fld) (b : Bool) : (s.setFlag a f b).hif = s.hif := by cases s; rfl
@[simp] theorem State.setFlag_rings (s : State) (a : Nat) (f : Fld) (b : Bool) : (s.setFlag a f b).rings = s.rings := by cases s; rfl
@[simp] theorem State.setFlag_evLost (s : State) (a : Nat) (f : Fld) (b : Bool) : (s.setFlag a f b).evLost = s.evLost := by cases s; rfl
@[simp] theorem State.setFlag_ram (s : State) (a : Nat) (f : Fld) (b : Bool) : (s.setFlag a f b).ram = s.ram := by cases s; rfl
@[simp] theorem State.setFlag_tab (s : State) (a : Nat) (f : Fld) (b : Bool) : (s.setFlag a f b).tab = s.tab := by cases s; rfl
@[simp] theorem State.setFlag_lrn (s : State) (a : Nat) (f : Fld) (b : Bool) : (s.setFlag a f b).lrn = s.lrn := by cases s; rfl
@[simp] theorem State.setFlag_acl (s : State) (a : Nat) (f : Fld) (b : Bool) : (s.setFlag a f b).acl = s.acl := by cases s; rfl
@[simp] theorem State.setFlag_pat (s : State) (a : Nat) (f : Fld) (b : Bool) : (s.setFlag a f b).pat = s.pat := by cases s; rfl
@[simp] theorem State.setFlag_icr (s : State) (a : Nat) (f : Fld) (b : Bool) : (s.setFlag a f b).icr = s.icr := by cases s; rfl
@[simp] theorem State.setFlag_ing (s : State) (a : Nat) (f : Fld) (b : Bool) : (s.setFlag a f b).ing = s.ing := by cases s; rfl
@[simp] theorem State.setFlag_port (s : State) (a : Nat) (f : Fld) (b : Bool) : (s.setFlag a f b).port = s.port := by cases s; rfl
@[simp] theorem State.setFlag_otn (s : State) (a : Nat) (f : Fld) (b : Bool) : (s.setFlag a f b).otn = s.otn := by cases s; rfl
@[simp] theorem State.setFlag_fab (s : State) (a : Nat) (f : Fld) (b : Bool) : (s.setFlag a f b).fab = s.fab := by cases s; rfl
@[simp] theorem State.setFlag_tm (s : State) (a : Nat) (f : Fld) (b : Bool) : (s.setFlag a f b).tm = s.tm := by cases s; rfl
@[simp] theorem State.setFlag_sch (s : State) (a : Nat) (f : Fld) (b : Bool) : (s.setFlag a f b).sch = s.sch := by cases s; rfl
@[simp] theorem State.setFlag_eg (s : State) (a : Nat) (f : Fld) (b : Bool) : (s.setFlag a f b).eg = s.eg := by cases s; rfl
@[simp] theorem State.setFlag_mem (s : State) (a : Nat) (f : Fld) (b : Bool) : (s.setFlag a f b).mem = s.mem := by cases s; rfl
@[simp] theorem State.setFlag_turnIn (s : State) (a : Nat) (f : Fld) (b : Bool) : (s.setFlag a f b).turnIn = s.turnIn := by cases s; rfl
@[simp] theorem State.setFlag_turnOut (s : State) (a : Nat) (f : Fld) (b : Bool) : (s.setFlag a f b).turnOut = s.turnOut := by cases s; rfl
@[simp] theorem State.setFlag_harts (s : State) (a : Nat) (f : Fld) (b : Bool) : (s.setFlag a f b).harts = s.harts := by cases s; rfl
@[simp] theorem State.setFlag_kvc (s : State) (a : Nat) (f : Fld) (b : Bool) : (s.setFlag a f b).kvc = s.kvc := by cases s; rfl
@[simp] theorem State.setFlag_boot (s : State) (a : Nat) (f : Fld) (b : Bool) : (s.setFlag a f b).boot = s.boot := by cases s; rfl
@[simp] theorem State.setFlag_otp (s : State) (a : Nat) (f : Fld) (b : Bool) : (s.setFlag a f b).otp = s.otp := by cases s; rfl
@[simp] theorem State.setFlag_cyc (s : State) (a : Nat) (f : Fld) (b : Bool) : (s.setFlag a f b).cyc = s.cyc := by cases s; rfl
@[simp] theorem State.setFlag_tru (s : State) (a : Nat) (f : Fld) (b : Bool) : (s.setFlag a f b).tru = s.tru := by cases s; rfl
@[simp] theorem State.setFlag_pmc (s : State) (a : Nat) (f : Fld) (b : Bool) : (s.setFlag a f b).pmc = s.pmc := by cases s; rfl
@[simp] theorem State.setFlag_tdm (s : State) (a : Nat) (f : Fld) (b : Bool) : (s.setFlag a f b).tdm = s.tdm := by cases s; rfl
@[simp] theorem State.setFlag_thm (s : State) (a : Nat) (f : Fld) (b : Bool) : (s.setFlag a f b).thm = s.thm := by cases s; rfl
@[simp] theorem State.setFlag_aon (s : State) (a : Nat) (f : Fld) (b : Bool) : (s.setFlag a f b).aon = s.aon := by cases s; rfl
@[simp] theorem State.setFlag_led (s : State) (a : Nat) (f : Fld) (b : Bool) : (s.setFlag a f b).led = s.led := by cases s; rfl

@[simp] theorem State.setReg64_pending (s : State) (a v : Nat) : (s.setReg64 a v).pending = s.pending := by cases s; rfl
@[simp] theorem State.setReg64_draws (s : State) (a v : Nat) : (s.setReg64 a v).draws = s.draws := by cases s; rfl
@[simp] theorem State.setReg64_out (s : State) (a v : Nat) : (s.setReg64 a v).out = s.out := by cases s; rfl
@[simp] theorem State.setReg64_hold (s : State) (a v : Nat) : (s.setReg64 a v).hold = s.hold := by cases s; rfl
@[simp] theorem State.setReg64_written (s : State) (a v : Nat) : (s.setReg64 a v).written = s.written := by cases s; rfl
@[simp] theorem State.setReg64_pmcIn (s : State) (a v : Nat) : (s.setReg64 a v).pmcIn = s.pmcIn := by cases s; rfl
@[simp] theorem State.setReg64_die (s : State) (a v : Nat) : (s.setReg64 a v).die = s.die := by cases s; rfl
@[simp] theorem State.setReg64_time (s : State) (a v : Nat) : (s.setReg64 a v).time = s.time := by cases s; rfl
@[simp] theorem State.setReg64_hif (s : State) (a v : Nat) : (s.setReg64 a v).hif = s.hif := by cases s; rfl
@[simp] theorem State.setReg64_rings (s : State) (a v : Nat) : (s.setReg64 a v).rings = s.rings := by cases s; rfl
@[simp] theorem State.setReg64_evLost (s : State) (a v : Nat) : (s.setReg64 a v).evLost = s.evLost := by cases s; rfl
@[simp] theorem State.setReg64_ram (s : State) (a v : Nat) : (s.setReg64 a v).ram = s.ram := by cases s; rfl
@[simp] theorem State.setReg64_tab (s : State) (a v : Nat) : (s.setReg64 a v).tab = s.tab := by cases s; rfl
@[simp] theorem State.setReg64_lrn (s : State) (a v : Nat) : (s.setReg64 a v).lrn = s.lrn := by cases s; rfl
@[simp] theorem State.setReg64_acl (s : State) (a v : Nat) : (s.setReg64 a v).acl = s.acl := by cases s; rfl
@[simp] theorem State.setReg64_pat (s : State) (a v : Nat) : (s.setReg64 a v).pat = s.pat := by cases s; rfl
@[simp] theorem State.setReg64_icr (s : State) (a v : Nat) : (s.setReg64 a v).icr = s.icr := by cases s; rfl
@[simp] theorem State.setReg64_ing (s : State) (a v : Nat) : (s.setReg64 a v).ing = s.ing := by cases s; rfl
@[simp] theorem State.setReg64_port (s : State) (a v : Nat) : (s.setReg64 a v).port = s.port := by cases s; rfl
@[simp] theorem State.setReg64_otn (s : State) (a v : Nat) : (s.setReg64 a v).otn = s.otn := by cases s; rfl
@[simp] theorem State.setReg64_fab (s : State) (a v : Nat) : (s.setReg64 a v).fab = s.fab := by cases s; rfl
@[simp] theorem State.setReg64_tm (s : State) (a v : Nat) : (s.setReg64 a v).tm = s.tm := by cases s; rfl
@[simp] theorem State.setReg64_sch (s : State) (a v : Nat) : (s.setReg64 a v).sch = s.sch := by cases s; rfl
@[simp] theorem State.setReg64_eg (s : State) (a v : Nat) : (s.setReg64 a v).eg = s.eg := by cases s; rfl
@[simp] theorem State.setReg64_mem (s : State) (a v : Nat) : (s.setReg64 a v).mem = s.mem := by cases s; rfl
@[simp] theorem State.setReg64_turnIn (s : State) (a v : Nat) : (s.setReg64 a v).turnIn = s.turnIn := by cases s; rfl
@[simp] theorem State.setReg64_turnOut (s : State) (a v : Nat) : (s.setReg64 a v).turnOut = s.turnOut := by cases s; rfl
@[simp] theorem State.setReg64_harts (s : State) (a v : Nat) : (s.setReg64 a v).harts = s.harts := by cases s; rfl
@[simp] theorem State.setReg64_kvc (s : State) (a v : Nat) : (s.setReg64 a v).kvc = s.kvc := by cases s; rfl
@[simp] theorem State.setReg64_boot (s : State) (a v : Nat) : (s.setReg64 a v).boot = s.boot := by cases s; rfl
@[simp] theorem State.setReg64_otp (s : State) (a v : Nat) : (s.setReg64 a v).otp = s.otp := by cases s; rfl
@[simp] theorem State.setReg64_cyc (s : State) (a v : Nat) : (s.setReg64 a v).cyc = s.cyc := by cases s; rfl
@[simp] theorem State.setReg64_tru (s : State) (a v : Nat) : (s.setReg64 a v).tru = s.tru := by cases s; rfl
@[simp] theorem State.setReg64_pmc (s : State) (a v : Nat) : (s.setReg64 a v).pmc = s.pmc := by cases s; rfl
@[simp] theorem State.setReg64_tdm (s : State) (a v : Nat) : (s.setReg64 a v).tdm = s.tdm := by cases s; rfl
@[simp] theorem State.setReg64_thm (s : State) (a v : Nat) : (s.setReg64 a v).thm = s.thm := by cases s; rfl
@[simp] theorem State.setReg64_aon (s : State) (a v : Nat) : (s.setReg64 a v).aon = s.aon := by cases s; rfl
@[simp] theorem State.setReg64_led (s : State) (a v : Nat) : (s.setReg64 a v).led = s.led := by cases s; rfl

@[simp] theorem State.setCtr_pending (s : State) (c : Ctr) (v : Nat) : (s.setCtr c v).pending = s.pending := by unfold State.setCtr; split <;> simp only [State.setReg_pending, State.setReg64_pending]
@[simp] theorem State.setCtr_draws (s : State) (c : Ctr) (v : Nat) : (s.setCtr c v).draws = s.draws := by unfold State.setCtr; split <;> simp only [State.setReg_draws, State.setReg64_draws]
@[simp] theorem State.setCtr_out (s : State) (c : Ctr) (v : Nat) : (s.setCtr c v).out = s.out := by unfold State.setCtr; split <;> simp only [State.setReg_out, State.setReg64_out]
@[simp] theorem State.setCtr_hold (s : State) (c : Ctr) (v : Nat) : (s.setCtr c v).hold = s.hold := by unfold State.setCtr; split <;> simp only [State.setReg_hold, State.setReg64_hold]
@[simp] theorem State.setCtr_written (s : State) (c : Ctr) (v : Nat) : (s.setCtr c v).written = s.written := by unfold State.setCtr; split <;> simp only [State.setReg_written, State.setReg64_written]
@[simp] theorem State.setCtr_pmcIn (s : State) (c : Ctr) (v : Nat) : (s.setCtr c v).pmcIn = s.pmcIn := by unfold State.setCtr; split <;> simp only [State.setReg_pmcIn, State.setReg64_pmcIn]
@[simp] theorem State.setCtr_die (s : State) (c : Ctr) (v : Nat) : (s.setCtr c v).die = s.die := by unfold State.setCtr; split <;> simp only [State.setReg_die, State.setReg64_die]
@[simp] theorem State.setCtr_time (s : State) (c : Ctr) (v : Nat) : (s.setCtr c v).time = s.time := by unfold State.setCtr; split <;> simp only [State.setReg_time, State.setReg64_time]
@[simp] theorem State.setCtr_hif (s : State) (c : Ctr) (v : Nat) : (s.setCtr c v).hif = s.hif := by unfold State.setCtr; split <;> simp only [State.setReg_hif, State.setReg64_hif]
@[simp] theorem State.setCtr_rings (s : State) (c : Ctr) (v : Nat) : (s.setCtr c v).rings = s.rings := by unfold State.setCtr; split <;> simp only [State.setReg_rings, State.setReg64_rings]
@[simp] theorem State.setCtr_evLost (s : State) (c : Ctr) (v : Nat) : (s.setCtr c v).evLost = s.evLost := by unfold State.setCtr; split <;> simp only [State.setReg_evLost, State.setReg64_evLost]
@[simp] theorem State.setCtr_ram (s : State) (c : Ctr) (v : Nat) : (s.setCtr c v).ram = s.ram := by unfold State.setCtr; split <;> simp only [State.setReg_ram, State.setReg64_ram]
@[simp] theorem State.setCtr_tab (s : State) (c : Ctr) (v : Nat) : (s.setCtr c v).tab = s.tab := by unfold State.setCtr; split <;> simp only [State.setReg_tab, State.setReg64_tab]
@[simp] theorem State.setCtr_lrn (s : State) (c : Ctr) (v : Nat) : (s.setCtr c v).lrn = s.lrn := by unfold State.setCtr; split <;> simp only [State.setReg_lrn, State.setReg64_lrn]
@[simp] theorem State.setCtr_acl (s : State) (c : Ctr) (v : Nat) : (s.setCtr c v).acl = s.acl := by unfold State.setCtr; split <;> simp only [State.setReg_acl, State.setReg64_acl]
@[simp] theorem State.setCtr_pat (s : State) (c : Ctr) (v : Nat) : (s.setCtr c v).pat = s.pat := by unfold State.setCtr; split <;> simp only [State.setReg_pat, State.setReg64_pat]
@[simp] theorem State.setCtr_icr (s : State) (c : Ctr) (v : Nat) : (s.setCtr c v).icr = s.icr := by unfold State.setCtr; split <;> simp only [State.setReg_icr, State.setReg64_icr]
@[simp] theorem State.setCtr_ing (s : State) (c : Ctr) (v : Nat) : (s.setCtr c v).ing = s.ing := by unfold State.setCtr; split <;> simp only [State.setReg_ing, State.setReg64_ing]
@[simp] theorem State.setCtr_port (s : State) (c : Ctr) (v : Nat) : (s.setCtr c v).port = s.port := by unfold State.setCtr; split <;> simp only [State.setReg_port, State.setReg64_port]
@[simp] theorem State.setCtr_otn (s : State) (c : Ctr) (v : Nat) : (s.setCtr c v).otn = s.otn := by unfold State.setCtr; split <;> simp only [State.setReg_otn, State.setReg64_otn]
@[simp] theorem State.setCtr_fab (s : State) (c : Ctr) (v : Nat) : (s.setCtr c v).fab = s.fab := by unfold State.setCtr; split <;> simp only [State.setReg_fab, State.setReg64_fab]
@[simp] theorem State.setCtr_tm (s : State) (c : Ctr) (v : Nat) : (s.setCtr c v).tm = s.tm := by unfold State.setCtr; split <;> simp only [State.setReg_tm, State.setReg64_tm]
@[simp] theorem State.setCtr_sch (s : State) (c : Ctr) (v : Nat) : (s.setCtr c v).sch = s.sch := by unfold State.setCtr; split <;> simp only [State.setReg_sch, State.setReg64_sch]
@[simp] theorem State.setCtr_eg (s : State) (c : Ctr) (v : Nat) : (s.setCtr c v).eg = s.eg := by unfold State.setCtr; split <;> simp only [State.setReg_eg, State.setReg64_eg]
@[simp] theorem State.setCtr_mem (s : State) (c : Ctr) (v : Nat) : (s.setCtr c v).mem = s.mem := by unfold State.setCtr; split <;> simp only [State.setReg_mem, State.setReg64_mem]
@[simp] theorem State.setCtr_turnIn (s : State) (c : Ctr) (v : Nat) : (s.setCtr c v).turnIn = s.turnIn := by unfold State.setCtr; split <;> simp only [State.setReg_turnIn, State.setReg64_turnIn]
@[simp] theorem State.setCtr_turnOut (s : State) (c : Ctr) (v : Nat) : (s.setCtr c v).turnOut = s.turnOut := by unfold State.setCtr; split <;> simp only [State.setReg_turnOut, State.setReg64_turnOut]
@[simp] theorem State.setCtr_harts (s : State) (c : Ctr) (v : Nat) : (s.setCtr c v).harts = s.harts := by unfold State.setCtr; split <;> simp only [State.setReg_harts, State.setReg64_harts]
@[simp] theorem State.setCtr_kvc (s : State) (c : Ctr) (v : Nat) : (s.setCtr c v).kvc = s.kvc := by unfold State.setCtr; split <;> simp only [State.setReg_kvc, State.setReg64_kvc]
@[simp] theorem State.setCtr_boot (s : State) (c : Ctr) (v : Nat) : (s.setCtr c v).boot = s.boot := by unfold State.setCtr; split <;> simp only [State.setReg_boot, State.setReg64_boot]
@[simp] theorem State.setCtr_otp (s : State) (c : Ctr) (v : Nat) : (s.setCtr c v).otp = s.otp := by unfold State.setCtr; split <;> simp only [State.setReg_otp, State.setReg64_otp]
@[simp] theorem State.setCtr_cyc (s : State) (c : Ctr) (v : Nat) : (s.setCtr c v).cyc = s.cyc := by unfold State.setCtr; split <;> simp only [State.setReg_cyc, State.setReg64_cyc]
@[simp] theorem State.setCtr_tru (s : State) (c : Ctr) (v : Nat) : (s.setCtr c v).tru = s.tru := by unfold State.setCtr; split <;> simp only [State.setReg_tru, State.setReg64_tru]
@[simp] theorem State.setCtr_pmc (s : State) (c : Ctr) (v : Nat) : (s.setCtr c v).pmc = s.pmc := by unfold State.setCtr; split <;> simp only [State.setReg_pmc, State.setReg64_pmc]
@[simp] theorem State.setCtr_tdm (s : State) (c : Ctr) (v : Nat) : (s.setCtr c v).tdm = s.tdm := by unfold State.setCtr; split <;> simp only [State.setReg_tdm, State.setReg64_tdm]
@[simp] theorem State.setCtr_thm (s : State) (c : Ctr) (v : Nat) : (s.setCtr c v).thm = s.thm := by unfold State.setCtr; split <;> simp only [State.setReg_thm, State.setReg64_thm]
@[simp] theorem State.setCtr_aon (s : State) (c : Ctr) (v : Nat) : (s.setCtr c v).aon = s.aon := by unfold State.setCtr; split <;> simp only [State.setReg_aon, State.setReg64_aon]
@[simp] theorem State.setCtr_led (s : State) (c : Ctr) (v : Nat) : (s.setCtr c v).led = s.led := by unfold State.setCtr; split <;> simp only [State.setReg_led, State.setReg64_led]

@[simp] theorem State.noteCount_pending (s : State) (x : Nat × Nat × Nat) : (s.noteCount x).pending = s.pending := by cases s; rfl
@[simp] theorem State.noteCount_regs (s : State) (x : Nat × Nat × Nat) : (s.noteCount x).regs = s.regs := by cases s; rfl
@[simp] theorem State.noteCount_draws (s : State) (x : Nat × Nat × Nat) : (s.noteCount x).draws = s.draws := by cases s; rfl
@[simp] theorem State.noteCount_out (s : State) (x : Nat × Nat × Nat) : (s.noteCount x).out = s.out := by cases s; rfl
@[simp] theorem State.noteCount_hold (s : State) (x : Nat × Nat × Nat) : (s.noteCount x).hold = s.hold := by cases s; rfl
@[simp] theorem State.noteCount_written (s : State) (x : Nat × Nat × Nat) : (s.noteCount x).written = s.written := by cases s; rfl
@[simp] theorem State.noteCount_die (s : State) (x : Nat × Nat × Nat) : (s.noteCount x).die = s.die := by cases s; rfl
@[simp] theorem State.noteCount_time (s : State) (x : Nat × Nat × Nat) : (s.noteCount x).time = s.time := by cases s; rfl
@[simp] theorem State.noteCount_hif (s : State) (x : Nat × Nat × Nat) : (s.noteCount x).hif = s.hif := by cases s; rfl
@[simp] theorem State.noteCount_rings (s : State) (x : Nat × Nat × Nat) : (s.noteCount x).rings = s.rings := by cases s; rfl
@[simp] theorem State.noteCount_evLost (s : State) (x : Nat × Nat × Nat) : (s.noteCount x).evLost = s.evLost := by cases s; rfl
@[simp] theorem State.noteCount_ram (s : State) (x : Nat × Nat × Nat) : (s.noteCount x).ram = s.ram := by cases s; rfl
@[simp] theorem State.noteCount_tab (s : State) (x : Nat × Nat × Nat) : (s.noteCount x).tab = s.tab := by cases s; rfl
@[simp] theorem State.noteCount_lrn (s : State) (x : Nat × Nat × Nat) : (s.noteCount x).lrn = s.lrn := by cases s; rfl
@[simp] theorem State.noteCount_acl (s : State) (x : Nat × Nat × Nat) : (s.noteCount x).acl = s.acl := by cases s; rfl
@[simp] theorem State.noteCount_pat (s : State) (x : Nat × Nat × Nat) : (s.noteCount x).pat = s.pat := by cases s; rfl
@[simp] theorem State.noteCount_icr (s : State) (x : Nat × Nat × Nat) : (s.noteCount x).icr = s.icr := by cases s; rfl
@[simp] theorem State.noteCount_ing (s : State) (x : Nat × Nat × Nat) : (s.noteCount x).ing = s.ing := by cases s; rfl
@[simp] theorem State.noteCount_port (s : State) (x : Nat × Nat × Nat) : (s.noteCount x).port = s.port := by cases s; rfl
@[simp] theorem State.noteCount_otn (s : State) (x : Nat × Nat × Nat) : (s.noteCount x).otn = s.otn := by cases s; rfl
@[simp] theorem State.noteCount_fab (s : State) (x : Nat × Nat × Nat) : (s.noteCount x).fab = s.fab := by cases s; rfl
@[simp] theorem State.noteCount_tm (s : State) (x : Nat × Nat × Nat) : (s.noteCount x).tm = s.tm := by cases s; rfl
@[simp] theorem State.noteCount_sch (s : State) (x : Nat × Nat × Nat) : (s.noteCount x).sch = s.sch := by cases s; rfl
@[simp] theorem State.noteCount_eg (s : State) (x : Nat × Nat × Nat) : (s.noteCount x).eg = s.eg := by cases s; rfl
@[simp] theorem State.noteCount_mem (s : State) (x : Nat × Nat × Nat) : (s.noteCount x).mem = s.mem := by cases s; rfl
@[simp] theorem State.noteCount_turnIn (s : State) (x : Nat × Nat × Nat) : (s.noteCount x).turnIn = s.turnIn := by cases s; rfl
@[simp] theorem State.noteCount_turnOut (s : State) (x : Nat × Nat × Nat) : (s.noteCount x).turnOut = s.turnOut := by cases s; rfl
@[simp] theorem State.noteCount_harts (s : State) (x : Nat × Nat × Nat) : (s.noteCount x).harts = s.harts := by cases s; rfl
@[simp] theorem State.noteCount_kvc (s : State) (x : Nat × Nat × Nat) : (s.noteCount x).kvc = s.kvc := by cases s; rfl
@[simp] theorem State.noteCount_boot (s : State) (x : Nat × Nat × Nat) : (s.noteCount x).boot = s.boot := by cases s; rfl
@[simp] theorem State.noteCount_otp (s : State) (x : Nat × Nat × Nat) : (s.noteCount x).otp = s.otp := by cases s; rfl
@[simp] theorem State.noteCount_cyc (s : State) (x : Nat × Nat × Nat) : (s.noteCount x).cyc = s.cyc := by cases s; rfl
@[simp] theorem State.noteCount_tru (s : State) (x : Nat × Nat × Nat) : (s.noteCount x).tru = s.tru := by cases s; rfl
@[simp] theorem State.noteCount_pmc (s : State) (x : Nat × Nat × Nat) : (s.noteCount x).pmc = s.pmc := by cases s; rfl
@[simp] theorem State.noteCount_tdm (s : State) (x : Nat × Nat × Nat) : (s.noteCount x).tdm = s.tdm := by cases s; rfl
@[simp] theorem State.noteCount_thm (s : State) (x : Nat × Nat × Nat) : (s.noteCount x).thm = s.thm := by cases s; rfl
@[simp] theorem State.noteCount_aon (s : State) (x : Nat × Nat × Nat) : (s.noteCount x).aon = s.aon := by cases s; rfl
@[simp] theorem State.noteCount_led (s : State) (x : Nat × Nat × Nat) : (s.noteCount x).led = s.led := by cases s; rfl

@[simp] theorem State.bump_pending (s : State) (c : Ctr) (n : Nat) : (s.bump c n).pending = s.pending := by simp only [State.bump, State.noteCount_pending, State.setCtr_pending]
@[simp] theorem State.bump_draws (s : State) (c : Ctr) (n : Nat) : (s.bump c n).draws = s.draws := by simp only [State.bump, State.noteCount_draws, State.setCtr_draws]
@[simp] theorem State.bump_out (s : State) (c : Ctr) (n : Nat) : (s.bump c n).out = s.out := by simp only [State.bump, State.noteCount_out, State.setCtr_out]
@[simp] theorem State.bump_hold (s : State) (c : Ctr) (n : Nat) : (s.bump c n).hold = s.hold := by simp only [State.bump, State.noteCount_hold, State.setCtr_hold]
@[simp] theorem State.bump_written (s : State) (c : Ctr) (n : Nat) : (s.bump c n).written = s.written := by simp only [State.bump, State.noteCount_written, State.setCtr_written]
@[simp] theorem State.bump_die (s : State) (c : Ctr) (n : Nat) : (s.bump c n).die = s.die := by simp only [State.bump, State.noteCount_die, State.setCtr_die]
@[simp] theorem State.bump_time (s : State) (c : Ctr) (n : Nat) : (s.bump c n).time = s.time := by simp only [State.bump, State.noteCount_time, State.setCtr_time]
@[simp] theorem State.bump_hif (s : State) (c : Ctr) (n : Nat) : (s.bump c n).hif = s.hif := by simp only [State.bump, State.noteCount_hif, State.setCtr_hif]
@[simp] theorem State.bump_rings (s : State) (c : Ctr) (n : Nat) : (s.bump c n).rings = s.rings := by simp only [State.bump, State.noteCount_rings, State.setCtr_rings]
@[simp] theorem State.bump_evLost (s : State) (c : Ctr) (n : Nat) : (s.bump c n).evLost = s.evLost := by simp only [State.bump, State.noteCount_evLost, State.setCtr_evLost]
@[simp] theorem State.bump_ram (s : State) (c : Ctr) (n : Nat) : (s.bump c n).ram = s.ram := by simp only [State.bump, State.noteCount_ram, State.setCtr_ram]
@[simp] theorem State.bump_tab (s : State) (c : Ctr) (n : Nat) : (s.bump c n).tab = s.tab := by simp only [State.bump, State.noteCount_tab, State.setCtr_tab]
@[simp] theorem State.bump_lrn (s : State) (c : Ctr) (n : Nat) : (s.bump c n).lrn = s.lrn := by simp only [State.bump, State.noteCount_lrn, State.setCtr_lrn]
@[simp] theorem State.bump_acl (s : State) (c : Ctr) (n : Nat) : (s.bump c n).acl = s.acl := by simp only [State.bump, State.noteCount_acl, State.setCtr_acl]
@[simp] theorem State.bump_pat (s : State) (c : Ctr) (n : Nat) : (s.bump c n).pat = s.pat := by simp only [State.bump, State.noteCount_pat, State.setCtr_pat]
@[simp] theorem State.bump_icr (s : State) (c : Ctr) (n : Nat) : (s.bump c n).icr = s.icr := by simp only [State.bump, State.noteCount_icr, State.setCtr_icr]
@[simp] theorem State.bump_ing (s : State) (c : Ctr) (n : Nat) : (s.bump c n).ing = s.ing := by simp only [State.bump, State.noteCount_ing, State.setCtr_ing]
@[simp] theorem State.bump_port (s : State) (c : Ctr) (n : Nat) : (s.bump c n).port = s.port := by simp only [State.bump, State.noteCount_port, State.setCtr_port]
@[simp] theorem State.bump_otn (s : State) (c : Ctr) (n : Nat) : (s.bump c n).otn = s.otn := by simp only [State.bump, State.noteCount_otn, State.setCtr_otn]
@[simp] theorem State.bump_fab (s : State) (c : Ctr) (n : Nat) : (s.bump c n).fab = s.fab := by simp only [State.bump, State.noteCount_fab, State.setCtr_fab]
@[simp] theorem State.bump_tm (s : State) (c : Ctr) (n : Nat) : (s.bump c n).tm = s.tm := by simp only [State.bump, State.noteCount_tm, State.setCtr_tm]
@[simp] theorem State.bump_sch (s : State) (c : Ctr) (n : Nat) : (s.bump c n).sch = s.sch := by simp only [State.bump, State.noteCount_sch, State.setCtr_sch]
@[simp] theorem State.bump_eg (s : State) (c : Ctr) (n : Nat) : (s.bump c n).eg = s.eg := by simp only [State.bump, State.noteCount_eg, State.setCtr_eg]
@[simp] theorem State.bump_mem (s : State) (c : Ctr) (n : Nat) : (s.bump c n).mem = s.mem := by simp only [State.bump, State.noteCount_mem, State.setCtr_mem]
@[simp] theorem State.bump_turnIn (s : State) (c : Ctr) (n : Nat) : (s.bump c n).turnIn = s.turnIn := by simp only [State.bump, State.noteCount_turnIn, State.setCtr_turnIn]
@[simp] theorem State.bump_turnOut (s : State) (c : Ctr) (n : Nat) : (s.bump c n).turnOut = s.turnOut := by simp only [State.bump, State.noteCount_turnOut, State.setCtr_turnOut]
@[simp] theorem State.bump_harts (s : State) (c : Ctr) (n : Nat) : (s.bump c n).harts = s.harts := by simp only [State.bump, State.noteCount_harts, State.setCtr_harts]
@[simp] theorem State.bump_kvc (s : State) (c : Ctr) (n : Nat) : (s.bump c n).kvc = s.kvc := by simp only [State.bump, State.noteCount_kvc, State.setCtr_kvc]
@[simp] theorem State.bump_boot (s : State) (c : Ctr) (n : Nat) : (s.bump c n).boot = s.boot := by simp only [State.bump, State.noteCount_boot, State.setCtr_boot]
@[simp] theorem State.bump_otp (s : State) (c : Ctr) (n : Nat) : (s.bump c n).otp = s.otp := by simp only [State.bump, State.noteCount_otp, State.setCtr_otp]
@[simp] theorem State.bump_cyc (s : State) (c : Ctr) (n : Nat) : (s.bump c n).cyc = s.cyc := by simp only [State.bump, State.noteCount_cyc, State.setCtr_cyc]
@[simp] theorem State.bump_tru (s : State) (c : Ctr) (n : Nat) : (s.bump c n).tru = s.tru := by simp only [State.bump, State.noteCount_tru, State.setCtr_tru]
@[simp] theorem State.bump_pmc (s : State) (c : Ctr) (n : Nat) : (s.bump c n).pmc = s.pmc := by simp only [State.bump, State.noteCount_pmc, State.setCtr_pmc]
@[simp] theorem State.bump_tdm (s : State) (c : Ctr) (n : Nat) : (s.bump c n).tdm = s.tdm := by simp only [State.bump, State.noteCount_tdm, State.setCtr_tdm]
@[simp] theorem State.bump_thm (s : State) (c : Ctr) (n : Nat) : (s.bump c n).thm = s.thm := by simp only [State.bump, State.noteCount_thm, State.setCtr_thm]
@[simp] theorem State.bump_aon (s : State) (c : Ctr) (n : Nat) : (s.bump c n).aon = s.aon := by simp only [State.bump, State.noteCount_aon, State.setCtr_aon]
@[simp] theorem State.bump_led (s : State) (c : Ctr) (n : Nat) : (s.bump c n).led = s.led := by simp only [State.bump, State.noteCount_led, State.setCtr_led]

@[simp] theorem State.emit_pending (s : State) (o : Output) : (s.emit o).pending = s.pending := by cases s; rfl
@[simp] theorem State.emit_regs (s : State) (o : Output) : (s.emit o).regs = s.regs := by cases s; rfl
@[simp] theorem State.emit_draws (s : State) (o : Output) : (s.emit o).draws = s.draws := by cases s; rfl
@[simp] theorem State.emit_hold (s : State) (o : Output) : (s.emit o).hold = s.hold := by cases s; rfl
@[simp] theorem State.emit_written (s : State) (o : Output) : (s.emit o).written = s.written := by cases s; rfl
@[simp] theorem State.emit_pmcIn (s : State) (o : Output) : (s.emit o).pmcIn = s.pmcIn := by cases s; rfl
@[simp] theorem State.emit_die (s : State) (o : Output) : (s.emit o).die = s.die := by cases s; rfl
@[simp] theorem State.emit_time (s : State) (o : Output) : (s.emit o).time = s.time := by cases s; rfl
@[simp] theorem State.emit_hif (s : State) (o : Output) : (s.emit o).hif = s.hif := by cases s; rfl
@[simp] theorem State.emit_rings (s : State) (o : Output) : (s.emit o).rings = s.rings := by cases s; rfl
@[simp] theorem State.emit_evLost (s : State) (o : Output) : (s.emit o).evLost = s.evLost := by cases s; rfl
@[simp] theorem State.emit_ram (s : State) (o : Output) : (s.emit o).ram = s.ram := by cases s; rfl
@[simp] theorem State.emit_tab (s : State) (o : Output) : (s.emit o).tab = s.tab := by cases s; rfl
@[simp] theorem State.emit_lrn (s : State) (o : Output) : (s.emit o).lrn = s.lrn := by cases s; rfl
@[simp] theorem State.emit_acl (s : State) (o : Output) : (s.emit o).acl = s.acl := by cases s; rfl
@[simp] theorem State.emit_pat (s : State) (o : Output) : (s.emit o).pat = s.pat := by cases s; rfl
@[simp] theorem State.emit_icr (s : State) (o : Output) : (s.emit o).icr = s.icr := by cases s; rfl
@[simp] theorem State.emit_ing (s : State) (o : Output) : (s.emit o).ing = s.ing := by cases s; rfl
@[simp] theorem State.emit_port (s : State) (o : Output) : (s.emit o).port = s.port := by cases s; rfl
@[simp] theorem State.emit_otn (s : State) (o : Output) : (s.emit o).otn = s.otn := by cases s; rfl
@[simp] theorem State.emit_fab (s : State) (o : Output) : (s.emit o).fab = s.fab := by cases s; rfl
@[simp] theorem State.emit_tm (s : State) (o : Output) : (s.emit o).tm = s.tm := by cases s; rfl
@[simp] theorem State.emit_sch (s : State) (o : Output) : (s.emit o).sch = s.sch := by cases s; rfl
@[simp] theorem State.emit_eg (s : State) (o : Output) : (s.emit o).eg = s.eg := by cases s; rfl
@[simp] theorem State.emit_mem (s : State) (o : Output) : (s.emit o).mem = s.mem := by cases s; rfl
@[simp] theorem State.emit_turnIn (s : State) (o : Output) : (s.emit o).turnIn = s.turnIn := by cases s; rfl
@[simp] theorem State.emit_turnOut (s : State) (o : Output) : (s.emit o).turnOut = s.turnOut := by cases s; rfl
@[simp] theorem State.emit_harts (s : State) (o : Output) : (s.emit o).harts = s.harts := by cases s; rfl
@[simp] theorem State.emit_kvc (s : State) (o : Output) : (s.emit o).kvc = s.kvc := by cases s; rfl
@[simp] theorem State.emit_boot (s : State) (o : Output) : (s.emit o).boot = s.boot := by cases s; rfl
@[simp] theorem State.emit_otp (s : State) (o : Output) : (s.emit o).otp = s.otp := by cases s; rfl
@[simp] theorem State.emit_cyc (s : State) (o : Output) : (s.emit o).cyc = s.cyc := by cases s; rfl
@[simp] theorem State.emit_tru (s : State) (o : Output) : (s.emit o).tru = s.tru := by cases s; rfl
@[simp] theorem State.emit_pmc (s : State) (o : Output) : (s.emit o).pmc = s.pmc := by cases s; rfl
@[simp] theorem State.emit_tdm (s : State) (o : Output) : (s.emit o).tdm = s.tdm := by cases s; rfl
@[simp] theorem State.emit_thm (s : State) (o : Output) : (s.emit o).thm = s.thm := by cases s; rfl
@[simp] theorem State.emit_aon (s : State) (o : Output) : (s.emit o).aon = s.aon := by cases s; rfl
@[simp] theorem State.emit_led (s : State) (o : Output) : (s.emit o).led = s.led := by cases s; rfl

@[simp] theorem State.setRing_pending (s : State) (g : Nat) (r : RingSt) : (s.setRing g r).pending = s.pending := by cases s; rfl
@[simp] theorem State.setRing_regs (s : State) (g : Nat) (r : RingSt) : (s.setRing g r).regs = s.regs := by cases s; rfl
@[simp] theorem State.setRing_draws (s : State) (g : Nat) (r : RingSt) : (s.setRing g r).draws = s.draws := by cases s; rfl
@[simp] theorem State.setRing_out (s : State) (g : Nat) (r : RingSt) : (s.setRing g r).out = s.out := by cases s; rfl
@[simp] theorem State.setRing_hold (s : State) (g : Nat) (r : RingSt) : (s.setRing g r).hold = s.hold := by cases s; rfl
@[simp] theorem State.setRing_written (s : State) (g : Nat) (r : RingSt) : (s.setRing g r).written = s.written := by cases s; rfl
@[simp] theorem State.setRing_pmcIn (s : State) (g : Nat) (r : RingSt) : (s.setRing g r).pmcIn = s.pmcIn := by cases s; rfl
@[simp] theorem State.setRing_die (s : State) (g : Nat) (r : RingSt) : (s.setRing g r).die = s.die := by cases s; rfl
@[simp] theorem State.setRing_time (s : State) (g : Nat) (r : RingSt) : (s.setRing g r).time = s.time := by cases s; rfl
@[simp] theorem State.setRing_hif (s : State) (g : Nat) (r : RingSt) : (s.setRing g r).hif = s.hif := by cases s; rfl
@[simp] theorem State.setRing_evLost (s : State) (g : Nat) (r : RingSt) : (s.setRing g r).evLost = s.evLost := by cases s; rfl
@[simp] theorem State.setRing_ram (s : State) (g : Nat) (r : RingSt) : (s.setRing g r).ram = s.ram := by cases s; rfl
@[simp] theorem State.setRing_tab (s : State) (g : Nat) (r : RingSt) : (s.setRing g r).tab = s.tab := by cases s; rfl
@[simp] theorem State.setRing_lrn (s : State) (g : Nat) (r : RingSt) : (s.setRing g r).lrn = s.lrn := by cases s; rfl
@[simp] theorem State.setRing_acl (s : State) (g : Nat) (r : RingSt) : (s.setRing g r).acl = s.acl := by cases s; rfl
@[simp] theorem State.setRing_pat (s : State) (g : Nat) (r : RingSt) : (s.setRing g r).pat = s.pat := by cases s; rfl
@[simp] theorem State.setRing_icr (s : State) (g : Nat) (r : RingSt) : (s.setRing g r).icr = s.icr := by cases s; rfl
@[simp] theorem State.setRing_ing (s : State) (g : Nat) (r : RingSt) : (s.setRing g r).ing = s.ing := by cases s; rfl
@[simp] theorem State.setRing_port (s : State) (g : Nat) (r : RingSt) : (s.setRing g r).port = s.port := by cases s; rfl
@[simp] theorem State.setRing_otn (s : State) (g : Nat) (r : RingSt) : (s.setRing g r).otn = s.otn := by cases s; rfl
@[simp] theorem State.setRing_fab (s : State) (g : Nat) (r : RingSt) : (s.setRing g r).fab = s.fab := by cases s; rfl
@[simp] theorem State.setRing_tm (s : State) (g : Nat) (r : RingSt) : (s.setRing g r).tm = s.tm := by cases s; rfl
@[simp] theorem State.setRing_sch (s : State) (g : Nat) (r : RingSt) : (s.setRing g r).sch = s.sch := by cases s; rfl
@[simp] theorem State.setRing_eg (s : State) (g : Nat) (r : RingSt) : (s.setRing g r).eg = s.eg := by cases s; rfl
@[simp] theorem State.setRing_mem (s : State) (g : Nat) (r : RingSt) : (s.setRing g r).mem = s.mem := by cases s; rfl
@[simp] theorem State.setRing_turnIn (s : State) (g : Nat) (r : RingSt) : (s.setRing g r).turnIn = s.turnIn := by cases s; rfl
@[simp] theorem State.setRing_turnOut (s : State) (g : Nat) (r : RingSt) : (s.setRing g r).turnOut = s.turnOut := by cases s; rfl
@[simp] theorem State.setRing_harts (s : State) (g : Nat) (r : RingSt) : (s.setRing g r).harts = s.harts := by cases s; rfl
@[simp] theorem State.setRing_kvc (s : State) (g : Nat) (r : RingSt) : (s.setRing g r).kvc = s.kvc := by cases s; rfl
@[simp] theorem State.setRing_boot (s : State) (g : Nat) (r : RingSt) : (s.setRing g r).boot = s.boot := by cases s; rfl
@[simp] theorem State.setRing_otp (s : State) (g : Nat) (r : RingSt) : (s.setRing g r).otp = s.otp := by cases s; rfl
@[simp] theorem State.setRing_cyc (s : State) (g : Nat) (r : RingSt) : (s.setRing g r).cyc = s.cyc := by cases s; rfl
@[simp] theorem State.setRing_tru (s : State) (g : Nat) (r : RingSt) : (s.setRing g r).tru = s.tru := by cases s; rfl
@[simp] theorem State.setRing_pmc (s : State) (g : Nat) (r : RingSt) : (s.setRing g r).pmc = s.pmc := by cases s; rfl
@[simp] theorem State.setRing_tdm (s : State) (g : Nat) (r : RingSt) : (s.setRing g r).tdm = s.tdm := by cases s; rfl
@[simp] theorem State.setRing_thm (s : State) (g : Nat) (r : RingSt) : (s.setRing g r).thm = s.thm := by cases s; rfl
@[simp] theorem State.setRing_aon (s : State) (g : Nat) (r : RingSt) : (s.setRing g r).aon = s.aon := by cases s; rfl
@[simp] theorem State.setRing_led (s : State) (g : Nat) (r : RingSt) : (s.setRing g r).led = s.led := by cases s; rfl

@[simp] theorem State.setFn_pending (s : State) (f : Nat) (x : FuncSt) : (s.setFn f x).pending = s.pending := by cases s; rfl
@[simp] theorem State.setFn_regs (s : State) (f : Nat) (x : FuncSt) : (s.setFn f x).regs = s.regs := by cases s; rfl
@[simp] theorem State.setFn_draws (s : State) (f : Nat) (x : FuncSt) : (s.setFn f x).draws = s.draws := by cases s; rfl
@[simp] theorem State.setFn_out (s : State) (f : Nat) (x : FuncSt) : (s.setFn f x).out = s.out := by cases s; rfl
@[simp] theorem State.setFn_hold (s : State) (f : Nat) (x : FuncSt) : (s.setFn f x).hold = s.hold := by cases s; rfl
@[simp] theorem State.setFn_written (s : State) (f : Nat) (x : FuncSt) : (s.setFn f x).written = s.written := by cases s; rfl
@[simp] theorem State.setFn_pmcIn (s : State) (f : Nat) (x : FuncSt) : (s.setFn f x).pmcIn = s.pmcIn := by cases s; rfl
@[simp] theorem State.setFn_die (s : State) (f : Nat) (x : FuncSt) : (s.setFn f x).die = s.die := by cases s; rfl
@[simp] theorem State.setFn_time (s : State) (f : Nat) (x : FuncSt) : (s.setFn f x).time = s.time := by cases s; rfl
@[simp] theorem State.setFn_rings (s : State) (f : Nat) (x : FuncSt) : (s.setFn f x).rings = s.rings := by cases s; rfl
@[simp] theorem State.setFn_evLost (s : State) (f : Nat) (x : FuncSt) : (s.setFn f x).evLost = s.evLost := by cases s; rfl
@[simp] theorem State.setFn_ram (s : State) (f : Nat) (x : FuncSt) : (s.setFn f x).ram = s.ram := by cases s; rfl
@[simp] theorem State.setFn_tab (s : State) (f : Nat) (x : FuncSt) : (s.setFn f x).tab = s.tab := by cases s; rfl
@[simp] theorem State.setFn_lrn (s : State) (f : Nat) (x : FuncSt) : (s.setFn f x).lrn = s.lrn := by cases s; rfl
@[simp] theorem State.setFn_acl (s : State) (f : Nat) (x : FuncSt) : (s.setFn f x).acl = s.acl := by cases s; rfl
@[simp] theorem State.setFn_pat (s : State) (f : Nat) (x : FuncSt) : (s.setFn f x).pat = s.pat := by cases s; rfl
@[simp] theorem State.setFn_icr (s : State) (f : Nat) (x : FuncSt) : (s.setFn f x).icr = s.icr := by cases s; rfl
@[simp] theorem State.setFn_ing (s : State) (f : Nat) (x : FuncSt) : (s.setFn f x).ing = s.ing := by cases s; rfl
@[simp] theorem State.setFn_port (s : State) (f : Nat) (x : FuncSt) : (s.setFn f x).port = s.port := by cases s; rfl
@[simp] theorem State.setFn_otn (s : State) (f : Nat) (x : FuncSt) : (s.setFn f x).otn = s.otn := by cases s; rfl
@[simp] theorem State.setFn_fab (s : State) (f : Nat) (x : FuncSt) : (s.setFn f x).fab = s.fab := by cases s; rfl
@[simp] theorem State.setFn_tm (s : State) (f : Nat) (x : FuncSt) : (s.setFn f x).tm = s.tm := by cases s; rfl
@[simp] theorem State.setFn_sch (s : State) (f : Nat) (x : FuncSt) : (s.setFn f x).sch = s.sch := by cases s; rfl
@[simp] theorem State.setFn_eg (s : State) (f : Nat) (x : FuncSt) : (s.setFn f x).eg = s.eg := by cases s; rfl
@[simp] theorem State.setFn_mem (s : State) (f : Nat) (x : FuncSt) : (s.setFn f x).mem = s.mem := by cases s; rfl
@[simp] theorem State.setFn_turnIn (s : State) (f : Nat) (x : FuncSt) : (s.setFn f x).turnIn = s.turnIn := by cases s; rfl
@[simp] theorem State.setFn_turnOut (s : State) (f : Nat) (x : FuncSt) : (s.setFn f x).turnOut = s.turnOut := by cases s; rfl
@[simp] theorem State.setFn_harts (s : State) (f : Nat) (x : FuncSt) : (s.setFn f x).harts = s.harts := by cases s; rfl
@[simp] theorem State.setFn_kvc (s : State) (f : Nat) (x : FuncSt) : (s.setFn f x).kvc = s.kvc := by cases s; rfl
@[simp] theorem State.setFn_boot (s : State) (f : Nat) (x : FuncSt) : (s.setFn f x).boot = s.boot := by cases s; rfl
@[simp] theorem State.setFn_otp (s : State) (f : Nat) (x : FuncSt) : (s.setFn f x).otp = s.otp := by cases s; rfl
@[simp] theorem State.setFn_cyc (s : State) (f : Nat) (x : FuncSt) : (s.setFn f x).cyc = s.cyc := by cases s; rfl
@[simp] theorem State.setFn_tru (s : State) (f : Nat) (x : FuncSt) : (s.setFn f x).tru = s.tru := by cases s; rfl
@[simp] theorem State.setFn_pmc (s : State) (f : Nat) (x : FuncSt) : (s.setFn f x).pmc = s.pmc := by cases s; rfl
@[simp] theorem State.setFn_tdm (s : State) (f : Nat) (x : FuncSt) : (s.setFn f x).tdm = s.tdm := by cases s; rfl
@[simp] theorem State.setFn_thm (s : State) (f : Nat) (x : FuncSt) : (s.setFn f x).thm = s.thm := by cases s; rfl
@[simp] theorem State.setFn_aon (s : State) (f : Nat) (x : FuncSt) : (s.setFn f x).aon = s.aon := by cases s; rfl
@[simp] theorem State.setFn_led (s : State) (f : Nat) (x : FuncSt) : (s.setFn f x).led = s.led := by cases s; rfl

@[simp] theorem State.setRingState_pending (s : State) (g st : Nat) : (s.setRingState g st).pending = s.pending := by simp only [State.setRingState, State.setFld_pending]
@[simp] theorem State.setRingState_draws (s : State) (g st : Nat) : (s.setRingState g st).draws = s.draws := by simp only [State.setRingState, State.setFld_draws]
@[simp] theorem State.setRingState_out (s : State) (g st : Nat) : (s.setRingState g st).out = s.out := by simp only [State.setRingState, State.setFld_out]
@[simp] theorem State.setRingState_hold (s : State) (g st : Nat) : (s.setRingState g st).hold = s.hold := by simp only [State.setRingState, State.setFld_hold]
@[simp] theorem State.setRingState_written (s : State) (g st : Nat) : (s.setRingState g st).written = s.written := by simp only [State.setRingState, State.setFld_written]
@[simp] theorem State.setRingState_pmcIn (s : State) (g st : Nat) : (s.setRingState g st).pmcIn = s.pmcIn := by simp only [State.setRingState, State.setFld_pmcIn]
@[simp] theorem State.setRingState_die (s : State) (g st : Nat) : (s.setRingState g st).die = s.die := by simp only [State.setRingState, State.setFld_die]
@[simp] theorem State.setRingState_time (s : State) (g st : Nat) : (s.setRingState g st).time = s.time := by simp only [State.setRingState, State.setFld_time]
@[simp] theorem State.setRingState_hif (s : State) (g st : Nat) : (s.setRingState g st).hif = s.hif := by simp only [State.setRingState, State.setFld_hif]
@[simp] theorem State.setRingState_rings (s : State) (g st : Nat) : (s.setRingState g st).rings = s.rings := by simp only [State.setRingState, State.setFld_rings]
@[simp] theorem State.setRingState_evLost (s : State) (g st : Nat) : (s.setRingState g st).evLost = s.evLost := by simp only [State.setRingState, State.setFld_evLost]
@[simp] theorem State.setRingState_ram (s : State) (g st : Nat) : (s.setRingState g st).ram = s.ram := by simp only [State.setRingState, State.setFld_ram]
@[simp] theorem State.setRingState_tab (s : State) (g st : Nat) : (s.setRingState g st).tab = s.tab := by simp only [State.setRingState, State.setFld_tab]
@[simp] theorem State.setRingState_lrn (s : State) (g st : Nat) : (s.setRingState g st).lrn = s.lrn := by simp only [State.setRingState, State.setFld_lrn]
@[simp] theorem State.setRingState_acl (s : State) (g st : Nat) : (s.setRingState g st).acl = s.acl := by simp only [State.setRingState, State.setFld_acl]
@[simp] theorem State.setRingState_pat (s : State) (g st : Nat) : (s.setRingState g st).pat = s.pat := by simp only [State.setRingState, State.setFld_pat]
@[simp] theorem State.setRingState_icr (s : State) (g st : Nat) : (s.setRingState g st).icr = s.icr := by simp only [State.setRingState, State.setFld_icr]
@[simp] theorem State.setRingState_ing (s : State) (g st : Nat) : (s.setRingState g st).ing = s.ing := by simp only [State.setRingState, State.setFld_ing]
@[simp] theorem State.setRingState_port (s : State) (g st : Nat) : (s.setRingState g st).port = s.port := by simp only [State.setRingState, State.setFld_port]
@[simp] theorem State.setRingState_otn (s : State) (g st : Nat) : (s.setRingState g st).otn = s.otn := by simp only [State.setRingState, State.setFld_otn]
@[simp] theorem State.setRingState_fab (s : State) (g st : Nat) : (s.setRingState g st).fab = s.fab := by simp only [State.setRingState, State.setFld_fab]
@[simp] theorem State.setRingState_tm (s : State) (g st : Nat) : (s.setRingState g st).tm = s.tm := by simp only [State.setRingState, State.setFld_tm]
@[simp] theorem State.setRingState_sch (s : State) (g st : Nat) : (s.setRingState g st).sch = s.sch := by simp only [State.setRingState, State.setFld_sch]
@[simp] theorem State.setRingState_eg (s : State) (g st : Nat) : (s.setRingState g st).eg = s.eg := by simp only [State.setRingState, State.setFld_eg]
@[simp] theorem State.setRingState_mem (s : State) (g st : Nat) : (s.setRingState g st).mem = s.mem := by simp only [State.setRingState, State.setFld_mem]
@[simp] theorem State.setRingState_turnIn (s : State) (g st : Nat) : (s.setRingState g st).turnIn = s.turnIn := by simp only [State.setRingState, State.setFld_turnIn]
@[simp] theorem State.setRingState_turnOut (s : State) (g st : Nat) : (s.setRingState g st).turnOut = s.turnOut := by simp only [State.setRingState, State.setFld_turnOut]
@[simp] theorem State.setRingState_harts (s : State) (g st : Nat) : (s.setRingState g st).harts = s.harts := by simp only [State.setRingState, State.setFld_harts]
@[simp] theorem State.setRingState_kvc (s : State) (g st : Nat) : (s.setRingState g st).kvc = s.kvc := by simp only [State.setRingState, State.setFld_kvc]
@[simp] theorem State.setRingState_boot (s : State) (g st : Nat) : (s.setRingState g st).boot = s.boot := by simp only [State.setRingState, State.setFld_boot]
@[simp] theorem State.setRingState_otp (s : State) (g st : Nat) : (s.setRingState g st).otp = s.otp := by simp only [State.setRingState, State.setFld_otp]
@[simp] theorem State.setRingState_cyc (s : State) (g st : Nat) : (s.setRingState g st).cyc = s.cyc := by simp only [State.setRingState, State.setFld_cyc]
@[simp] theorem State.setRingState_tru (s : State) (g st : Nat) : (s.setRingState g st).tru = s.tru := by simp only [State.setRingState, State.setFld_tru]
@[simp] theorem State.setRingState_pmc (s : State) (g st : Nat) : (s.setRingState g st).pmc = s.pmc := by simp only [State.setRingState, State.setFld_pmc]
@[simp] theorem State.setRingState_tdm (s : State) (g st : Nat) : (s.setRingState g st).tdm = s.tdm := by simp only [State.setRingState, State.setFld_tdm]
@[simp] theorem State.setRingState_thm (s : State) (g st : Nat) : (s.setRingState g st).thm = s.thm := by simp only [State.setRingState, State.setFld_thm]
@[simp] theorem State.setRingState_aon (s : State) (g st : Nat) : (s.setRingState g st).aon = s.aon := by simp only [State.setRingState, State.setFld_aon]
@[simp] theorem State.setRingState_led (s : State) (g st : Nat) : (s.setRingState g st).led = s.led := by simp only [State.setRingState, State.setFld_led]

@[simp] theorem State.partyWrite_pending (s : State) (p addr : Nat) (d : List Byte) : (s.partyWrite p addr d).pending = s.pending := by unfold State.partyWrite; split <;> simp only [State.emit_pending]
@[simp] theorem State.partyWrite_regs (s : State) (p addr : Nat) (d : List Byte) : (s.partyWrite p addr d).regs = s.regs := by unfold State.partyWrite; split <;> simp only [State.emit_regs]
@[simp] theorem State.partyWrite_draws (s : State) (p addr : Nat) (d : List Byte) : (s.partyWrite p addr d).draws = s.draws := by unfold State.partyWrite; split <;> simp only [State.emit_draws]
@[simp] theorem State.partyWrite_hold (s : State) (p addr : Nat) (d : List Byte) : (s.partyWrite p addr d).hold = s.hold := by unfold State.partyWrite; split <;> simp only [State.emit_hold]
@[simp] theorem State.partyWrite_written (s : State) (p addr : Nat) (d : List Byte) : (s.partyWrite p addr d).written = s.written := by unfold State.partyWrite; split <;> simp only [State.emit_written]
@[simp] theorem State.partyWrite_pmcIn (s : State) (p addr : Nat) (d : List Byte) : (s.partyWrite p addr d).pmcIn = s.pmcIn := by unfold State.partyWrite; split <;> simp only [State.emit_pmcIn]
@[simp] theorem State.partyWrite_die (s : State) (p addr : Nat) (d : List Byte) : (s.partyWrite p addr d).die = s.die := by unfold State.partyWrite; split <;> simp only [State.emit_die]
@[simp] theorem State.partyWrite_time (s : State) (p addr : Nat) (d : List Byte) : (s.partyWrite p addr d).time = s.time := by unfold State.partyWrite; split <;> simp only [State.emit_time]
@[simp] theorem State.partyWrite_hif (s : State) (p addr : Nat) (d : List Byte) : (s.partyWrite p addr d).hif = s.hif := by unfold State.partyWrite; split <;> simp only [State.emit_hif]
@[simp] theorem State.partyWrite_rings (s : State) (p addr : Nat) (d : List Byte) : (s.partyWrite p addr d).rings = s.rings := by unfold State.partyWrite; split <;> simp only [State.emit_rings]
@[simp] theorem State.partyWrite_evLost (s : State) (p addr : Nat) (d : List Byte) : (s.partyWrite p addr d).evLost = s.evLost := by unfold State.partyWrite; split <;> simp only [State.emit_evLost]
@[simp] theorem State.partyWrite_tab (s : State) (p addr : Nat) (d : List Byte) : (s.partyWrite p addr d).tab = s.tab := by unfold State.partyWrite; split <;> simp only [State.emit_tab]
@[simp] theorem State.partyWrite_lrn (s : State) (p addr : Nat) (d : List Byte) : (s.partyWrite p addr d).lrn = s.lrn := by unfold State.partyWrite; split <;> simp only [State.emit_lrn]
@[simp] theorem State.partyWrite_acl (s : State) (p addr : Nat) (d : List Byte) : (s.partyWrite p addr d).acl = s.acl := by unfold State.partyWrite; split <;> simp only [State.emit_acl]
@[simp] theorem State.partyWrite_pat (s : State) (p addr : Nat) (d : List Byte) : (s.partyWrite p addr d).pat = s.pat := by unfold State.partyWrite; split <;> simp only [State.emit_pat]
@[simp] theorem State.partyWrite_icr (s : State) (p addr : Nat) (d : List Byte) : (s.partyWrite p addr d).icr = s.icr := by unfold State.partyWrite; split <;> simp only [State.emit_icr]
@[simp] theorem State.partyWrite_ing (s : State) (p addr : Nat) (d : List Byte) : (s.partyWrite p addr d).ing = s.ing := by unfold State.partyWrite; split <;> simp only [State.emit_ing]
@[simp] theorem State.partyWrite_port (s : State) (p addr : Nat) (d : List Byte) : (s.partyWrite p addr d).port = s.port := by unfold State.partyWrite; split <;> simp only [State.emit_port]
@[simp] theorem State.partyWrite_otn (s : State) (p addr : Nat) (d : List Byte) : (s.partyWrite p addr d).otn = s.otn := by unfold State.partyWrite; split <;> simp only [State.emit_otn]
@[simp] theorem State.partyWrite_fab (s : State) (p addr : Nat) (d : List Byte) : (s.partyWrite p addr d).fab = s.fab := by unfold State.partyWrite; split <;> simp only [State.emit_fab]
@[simp] theorem State.partyWrite_tm (s : State) (p addr : Nat) (d : List Byte) : (s.partyWrite p addr d).tm = s.tm := by unfold State.partyWrite; split <;> simp only [State.emit_tm]
@[simp] theorem State.partyWrite_sch (s : State) (p addr : Nat) (d : List Byte) : (s.partyWrite p addr d).sch = s.sch := by unfold State.partyWrite; split <;> simp only [State.emit_sch]
@[simp] theorem State.partyWrite_eg (s : State) (p addr : Nat) (d : List Byte) : (s.partyWrite p addr d).eg = s.eg := by unfold State.partyWrite; split <;> simp only [State.emit_eg]
@[simp] theorem State.partyWrite_mem (s : State) (p addr : Nat) (d : List Byte) : (s.partyWrite p addr d).mem = s.mem := by unfold State.partyWrite; split <;> simp only [State.emit_mem]
@[simp] theorem State.partyWrite_turnIn (s : State) (p addr : Nat) (d : List Byte) : (s.partyWrite p addr d).turnIn = s.turnIn := by unfold State.partyWrite; split <;> simp only [State.emit_turnIn]
@[simp] theorem State.partyWrite_turnOut (s : State) (p addr : Nat) (d : List Byte) : (s.partyWrite p addr d).turnOut = s.turnOut := by unfold State.partyWrite; split <;> simp only [State.emit_turnOut]
@[simp] theorem State.partyWrite_harts (s : State) (p addr : Nat) (d : List Byte) : (s.partyWrite p addr d).harts = s.harts := by unfold State.partyWrite; split <;> simp only [State.emit_harts]
@[simp] theorem State.partyWrite_kvc (s : State) (p addr : Nat) (d : List Byte) : (s.partyWrite p addr d).kvc = s.kvc := by unfold State.partyWrite; split <;> simp only [State.emit_kvc]
@[simp] theorem State.partyWrite_boot (s : State) (p addr : Nat) (d : List Byte) : (s.partyWrite p addr d).boot = s.boot := by unfold State.partyWrite; split <;> simp only [State.emit_boot]
@[simp] theorem State.partyWrite_otp (s : State) (p addr : Nat) (d : List Byte) : (s.partyWrite p addr d).otp = s.otp := by unfold State.partyWrite; split <;> simp only [State.emit_otp]
@[simp] theorem State.partyWrite_cyc (s : State) (p addr : Nat) (d : List Byte) : (s.partyWrite p addr d).cyc = s.cyc := by unfold State.partyWrite; split <;> simp only [State.emit_cyc]
@[simp] theorem State.partyWrite_tru (s : State) (p addr : Nat) (d : List Byte) : (s.partyWrite p addr d).tru = s.tru := by unfold State.partyWrite; split <;> simp only [State.emit_tru]
@[simp] theorem State.partyWrite_pmc (s : State) (p addr : Nat) (d : List Byte) : (s.partyWrite p addr d).pmc = s.pmc := by unfold State.partyWrite; split <;> simp only [State.emit_pmc]
@[simp] theorem State.partyWrite_tdm (s : State) (p addr : Nat) (d : List Byte) : (s.partyWrite p addr d).tdm = s.tdm := by unfold State.partyWrite; split <;> simp only [State.emit_tdm]
@[simp] theorem State.partyWrite_thm (s : State) (p addr : Nat) (d : List Byte) : (s.partyWrite p addr d).thm = s.thm := by unfold State.partyWrite; split <;> simp only [State.emit_thm]
@[simp] theorem State.partyWrite_aon (s : State) (p addr : Nat) (d : List Byte) : (s.partyWrite p addr d).aon = s.aon := by unfold State.partyWrite; split <;> simp only [State.emit_aon]
@[simp] theorem State.partyWrite_led (s : State) (p addr : Nat) (d : List Byte) : (s.partyWrite p addr d).led = s.led := by unfold State.partyWrite; split <;> simp only [State.emit_led]

@[simp] theorem State.writeEntry_pending (s : State) (g : Nat) (d : List Byte) : (s.writeEntry g d).pending = s.pending := by simp only [State.writeEntry, State.setRing_pending, State.setFld_pending, State.partyWrite_pending]
@[simp] theorem State.writeEntry_draws (s : State) (g : Nat) (d : List Byte) : (s.writeEntry g d).draws = s.draws := by simp only [State.writeEntry, State.setRing_draws, State.setFld_draws, State.partyWrite_draws]
@[simp] theorem State.writeEntry_hold (s : State) (g : Nat) (d : List Byte) : (s.writeEntry g d).hold = s.hold := by simp only [State.writeEntry, State.setRing_hold, State.setFld_hold, State.partyWrite_hold]
@[simp] theorem State.writeEntry_written (s : State) (g : Nat) (d : List Byte) : (s.writeEntry g d).written = s.written := by simp only [State.writeEntry, State.setRing_written, State.setFld_written, State.partyWrite_written]
@[simp] theorem State.writeEntry_pmcIn (s : State) (g : Nat) (d : List Byte) : (s.writeEntry g d).pmcIn = s.pmcIn := by simp only [State.writeEntry, State.setRing_pmcIn, State.setFld_pmcIn, State.partyWrite_pmcIn]
@[simp] theorem State.writeEntry_die (s : State) (g : Nat) (d : List Byte) : (s.writeEntry g d).die = s.die := by simp only [State.writeEntry, State.setRing_die, State.setFld_die, State.partyWrite_die]
@[simp] theorem State.writeEntry_time (s : State) (g : Nat) (d : List Byte) : (s.writeEntry g d).time = s.time := by simp only [State.writeEntry, State.setRing_time, State.setFld_time, State.partyWrite_time]
@[simp] theorem State.writeEntry_hif (s : State) (g : Nat) (d : List Byte) : (s.writeEntry g d).hif = s.hif := by simp only [State.writeEntry, State.setRing_hif, State.setFld_hif, State.partyWrite_hif]
@[simp] theorem State.writeEntry_evLost (s : State) (g : Nat) (d : List Byte) : (s.writeEntry g d).evLost = s.evLost := by simp only [State.writeEntry, State.setRing_evLost, State.setFld_evLost, State.partyWrite_evLost]
@[simp] theorem State.writeEntry_tab (s : State) (g : Nat) (d : List Byte) : (s.writeEntry g d).tab = s.tab := by simp only [State.writeEntry, State.setRing_tab, State.setFld_tab, State.partyWrite_tab]
@[simp] theorem State.writeEntry_lrn (s : State) (g : Nat) (d : List Byte) : (s.writeEntry g d).lrn = s.lrn := by simp only [State.writeEntry, State.setRing_lrn, State.setFld_lrn, State.partyWrite_lrn]
@[simp] theorem State.writeEntry_acl (s : State) (g : Nat) (d : List Byte) : (s.writeEntry g d).acl = s.acl := by simp only [State.writeEntry, State.setRing_acl, State.setFld_acl, State.partyWrite_acl]
@[simp] theorem State.writeEntry_pat (s : State) (g : Nat) (d : List Byte) : (s.writeEntry g d).pat = s.pat := by simp only [State.writeEntry, State.setRing_pat, State.setFld_pat, State.partyWrite_pat]
@[simp] theorem State.writeEntry_icr (s : State) (g : Nat) (d : List Byte) : (s.writeEntry g d).icr = s.icr := by simp only [State.writeEntry, State.setRing_icr, State.setFld_icr, State.partyWrite_icr]
@[simp] theorem State.writeEntry_ing (s : State) (g : Nat) (d : List Byte) : (s.writeEntry g d).ing = s.ing := by simp only [State.writeEntry, State.setRing_ing, State.setFld_ing, State.partyWrite_ing]
@[simp] theorem State.writeEntry_port (s : State) (g : Nat) (d : List Byte) : (s.writeEntry g d).port = s.port := by simp only [State.writeEntry, State.setRing_port, State.setFld_port, State.partyWrite_port]
@[simp] theorem State.writeEntry_otn (s : State) (g : Nat) (d : List Byte) : (s.writeEntry g d).otn = s.otn := by simp only [State.writeEntry, State.setRing_otn, State.setFld_otn, State.partyWrite_otn]
@[simp] theorem State.writeEntry_fab (s : State) (g : Nat) (d : List Byte) : (s.writeEntry g d).fab = s.fab := by simp only [State.writeEntry, State.setRing_fab, State.setFld_fab, State.partyWrite_fab]
@[simp] theorem State.writeEntry_tm (s : State) (g : Nat) (d : List Byte) : (s.writeEntry g d).tm = s.tm := by simp only [State.writeEntry, State.setRing_tm, State.setFld_tm, State.partyWrite_tm]
@[simp] theorem State.writeEntry_sch (s : State) (g : Nat) (d : List Byte) : (s.writeEntry g d).sch = s.sch := by simp only [State.writeEntry, State.setRing_sch, State.setFld_sch, State.partyWrite_sch]
@[simp] theorem State.writeEntry_eg (s : State) (g : Nat) (d : List Byte) : (s.writeEntry g d).eg = s.eg := by simp only [State.writeEntry, State.setRing_eg, State.setFld_eg, State.partyWrite_eg]
@[simp] theorem State.writeEntry_mem (s : State) (g : Nat) (d : List Byte) : (s.writeEntry g d).mem = s.mem := by simp only [State.writeEntry, State.setRing_mem, State.setFld_mem, State.partyWrite_mem]
@[simp] theorem State.writeEntry_turnIn (s : State) (g : Nat) (d : List Byte) : (s.writeEntry g d).turnIn = s.turnIn := by simp only [State.writeEntry, State.setRing_turnIn, State.setFld_turnIn, State.partyWrite_turnIn]
@[simp] theorem State.writeEntry_turnOut (s : State) (g : Nat) (d : List Byte) : (s.writeEntry g d).turnOut = s.turnOut := by simp only [State.writeEntry, State.setRing_turnOut, State.setFld_turnOut, State.partyWrite_turnOut]
@[simp] theorem State.writeEntry_harts (s : State) (g : Nat) (d : List Byte) : (s.writeEntry g d).harts = s.harts := by simp only [State.writeEntry, State.setRing_harts, State.setFld_harts, State.partyWrite_harts]
@[simp] theorem State.writeEntry_kvc (s : State) (g : Nat) (d : List Byte) : (s.writeEntry g d).kvc = s.kvc := by simp only [State.writeEntry, State.setRing_kvc, State.setFld_kvc, State.partyWrite_kvc]
@[simp] theorem State.writeEntry_boot (s : State) (g : Nat) (d : List Byte) : (s.writeEntry g d).boot = s.boot := by simp only [State.writeEntry, State.setRing_boot, State.setFld_boot, State.partyWrite_boot]
@[simp] theorem State.writeEntry_otp (s : State) (g : Nat) (d : List Byte) : (s.writeEntry g d).otp = s.otp := by simp only [State.writeEntry, State.setRing_otp, State.setFld_otp, State.partyWrite_otp]
@[simp] theorem State.writeEntry_cyc (s : State) (g : Nat) (d : List Byte) : (s.writeEntry g d).cyc = s.cyc := by simp only [State.writeEntry, State.setRing_cyc, State.setFld_cyc, State.partyWrite_cyc]
@[simp] theorem State.writeEntry_tru (s : State) (g : Nat) (d : List Byte) : (s.writeEntry g d).tru = s.tru := by simp only [State.writeEntry, State.setRing_tru, State.setFld_tru, State.partyWrite_tru]
@[simp] theorem State.writeEntry_pmc (s : State) (g : Nat) (d : List Byte) : (s.writeEntry g d).pmc = s.pmc := by simp only [State.writeEntry, State.setRing_pmc, State.setFld_pmc, State.partyWrite_pmc]
@[simp] theorem State.writeEntry_tdm (s : State) (g : Nat) (d : List Byte) : (s.writeEntry g d).tdm = s.tdm := by simp only [State.writeEntry, State.setRing_tdm, State.setFld_tdm, State.partyWrite_tdm]
@[simp] theorem State.writeEntry_thm (s : State) (g : Nat) (d : List Byte) : (s.writeEntry g d).thm = s.thm := by simp only [State.writeEntry, State.setRing_thm, State.setFld_thm, State.partyWrite_thm]
@[simp] theorem State.writeEntry_aon (s : State) (g : Nat) (d : List Byte) : (s.writeEntry g d).aon = s.aon := by simp only [State.writeEntry, State.setRing_aon, State.setFld_aon, State.partyWrite_aon]
@[simp] theorem State.writeEntry_led (s : State) (g : Nat) (d : List Byte) : (s.writeEntry g d).led = s.led := by simp only [State.writeEntry, State.setRing_led, State.setFld_led, State.partyWrite_led]

@[simp] theorem State.writeCpl_pending (s : State) (g : Nat) (d : List Byte) : (s.writeCpl g d).pending = s.pending := by simp only [State.writeCpl]; split <;> simp only [State.setRing_pending, State.writeEntry_pending]
@[simp] theorem State.writeCpl_draws (s : State) (g : Nat) (d : List Byte) : (s.writeCpl g d).draws = s.draws := by simp only [State.writeCpl]; split <;> simp only [State.setRing_draws, State.writeEntry_draws]
@[simp] theorem State.writeCpl_hold (s : State) (g : Nat) (d : List Byte) : (s.writeCpl g d).hold = s.hold := by simp only [State.writeCpl]; split <;> simp only [State.setRing_hold, State.writeEntry_hold]
@[simp] theorem State.writeCpl_written (s : State) (g : Nat) (d : List Byte) : (s.writeCpl g d).written = s.written := by simp only [State.writeCpl]; split <;> simp only [State.setRing_written, State.writeEntry_written]
@[simp] theorem State.writeCpl_pmcIn (s : State) (g : Nat) (d : List Byte) : (s.writeCpl g d).pmcIn = s.pmcIn := by simp only [State.writeCpl]; split <;> simp only [State.setRing_pmcIn, State.writeEntry_pmcIn]
@[simp] theorem State.writeCpl_die (s : State) (g : Nat) (d : List Byte) : (s.writeCpl g d).die = s.die := by simp only [State.writeCpl]; split <;> simp only [State.setRing_die, State.writeEntry_die]
@[simp] theorem State.writeCpl_time (s : State) (g : Nat) (d : List Byte) : (s.writeCpl g d).time = s.time := by simp only [State.writeCpl]; split <;> simp only [State.setRing_time, State.writeEntry_time]
@[simp] theorem State.writeCpl_hif (s : State) (g : Nat) (d : List Byte) : (s.writeCpl g d).hif = s.hif := by simp only [State.writeCpl]; split <;> simp only [State.setRing_hif, State.writeEntry_hif]
@[simp] theorem State.writeCpl_evLost (s : State) (g : Nat) (d : List Byte) : (s.writeCpl g d).evLost = s.evLost := by simp only [State.writeCpl]; split <;> simp only [State.setRing_evLost, State.writeEntry_evLost]
@[simp] theorem State.writeCpl_tab (s : State) (g : Nat) (d : List Byte) : (s.writeCpl g d).tab = s.tab := by simp only [State.writeCpl]; split <;> simp only [State.setRing_tab, State.writeEntry_tab]
@[simp] theorem State.writeCpl_lrn (s : State) (g : Nat) (d : List Byte) : (s.writeCpl g d).lrn = s.lrn := by simp only [State.writeCpl]; split <;> simp only [State.setRing_lrn, State.writeEntry_lrn]
@[simp] theorem State.writeCpl_acl (s : State) (g : Nat) (d : List Byte) : (s.writeCpl g d).acl = s.acl := by simp only [State.writeCpl]; split <;> simp only [State.setRing_acl, State.writeEntry_acl]
@[simp] theorem State.writeCpl_pat (s : State) (g : Nat) (d : List Byte) : (s.writeCpl g d).pat = s.pat := by simp only [State.writeCpl]; split <;> simp only [State.setRing_pat, State.writeEntry_pat]
@[simp] theorem State.writeCpl_icr (s : State) (g : Nat) (d : List Byte) : (s.writeCpl g d).icr = s.icr := by simp only [State.writeCpl]; split <;> simp only [State.setRing_icr, State.writeEntry_icr]
@[simp] theorem State.writeCpl_ing (s : State) (g : Nat) (d : List Byte) : (s.writeCpl g d).ing = s.ing := by simp only [State.writeCpl]; split <;> simp only [State.setRing_ing, State.writeEntry_ing]
@[simp] theorem State.writeCpl_port (s : State) (g : Nat) (d : List Byte) : (s.writeCpl g d).port = s.port := by simp only [State.writeCpl]; split <;> simp only [State.setRing_port, State.writeEntry_port]
@[simp] theorem State.writeCpl_otn (s : State) (g : Nat) (d : List Byte) : (s.writeCpl g d).otn = s.otn := by simp only [State.writeCpl]; split <;> simp only [State.setRing_otn, State.writeEntry_otn]
@[simp] theorem State.writeCpl_fab (s : State) (g : Nat) (d : List Byte) : (s.writeCpl g d).fab = s.fab := by simp only [State.writeCpl]; split <;> simp only [State.setRing_fab, State.writeEntry_fab]
@[simp] theorem State.writeCpl_tm (s : State) (g : Nat) (d : List Byte) : (s.writeCpl g d).tm = s.tm := by simp only [State.writeCpl]; split <;> simp only [State.setRing_tm, State.writeEntry_tm]
@[simp] theorem State.writeCpl_sch (s : State) (g : Nat) (d : List Byte) : (s.writeCpl g d).sch = s.sch := by simp only [State.writeCpl]; split <;> simp only [State.setRing_sch, State.writeEntry_sch]
@[simp] theorem State.writeCpl_eg (s : State) (g : Nat) (d : List Byte) : (s.writeCpl g d).eg = s.eg := by simp only [State.writeCpl]; split <;> simp only [State.setRing_eg, State.writeEntry_eg]
@[simp] theorem State.writeCpl_mem (s : State) (g : Nat) (d : List Byte) : (s.writeCpl g d).mem = s.mem := by simp only [State.writeCpl]; split <;> simp only [State.setRing_mem, State.writeEntry_mem]
@[simp] theorem State.writeCpl_turnIn (s : State) (g : Nat) (d : List Byte) : (s.writeCpl g d).turnIn = s.turnIn := by simp only [State.writeCpl]; split <;> simp only [State.setRing_turnIn, State.writeEntry_turnIn]
@[simp] theorem State.writeCpl_turnOut (s : State) (g : Nat) (d : List Byte) : (s.writeCpl g d).turnOut = s.turnOut := by simp only [State.writeCpl]; split <;> simp only [State.setRing_turnOut, State.writeEntry_turnOut]
@[simp] theorem State.writeCpl_harts (s : State) (g : Nat) (d : List Byte) : (s.writeCpl g d).harts = s.harts := by simp only [State.writeCpl]; split <;> simp only [State.setRing_harts, State.writeEntry_harts]
@[simp] theorem State.writeCpl_kvc (s : State) (g : Nat) (d : List Byte) : (s.writeCpl g d).kvc = s.kvc := by simp only [State.writeCpl]; split <;> simp only [State.setRing_kvc, State.writeEntry_kvc]
@[simp] theorem State.writeCpl_boot (s : State) (g : Nat) (d : List Byte) : (s.writeCpl g d).boot = s.boot := by simp only [State.writeCpl]; split <;> simp only [State.setRing_boot, State.writeEntry_boot]
@[simp] theorem State.writeCpl_otp (s : State) (g : Nat) (d : List Byte) : (s.writeCpl g d).otp = s.otp := by simp only [State.writeCpl]; split <;> simp only [State.setRing_otp, State.writeEntry_otp]
@[simp] theorem State.writeCpl_cyc (s : State) (g : Nat) (d : List Byte) : (s.writeCpl g d).cyc = s.cyc := by simp only [State.writeCpl]; split <;> simp only [State.setRing_cyc, State.writeEntry_cyc]
@[simp] theorem State.writeCpl_tru (s : State) (g : Nat) (d : List Byte) : (s.writeCpl g d).tru = s.tru := by simp only [State.writeCpl]; split <;> simp only [State.setRing_tru, State.writeEntry_tru]
@[simp] theorem State.writeCpl_pmc (s : State) (g : Nat) (d : List Byte) : (s.writeCpl g d).pmc = s.pmc := by simp only [State.writeCpl]; split <;> simp only [State.setRing_pmc, State.writeEntry_pmc]
@[simp] theorem State.writeCpl_tdm (s : State) (g : Nat) (d : List Byte) : (s.writeCpl g d).tdm = s.tdm := by simp only [State.writeCpl]; split <;> simp only [State.setRing_tdm, State.writeEntry_tdm]
@[simp] theorem State.writeCpl_thm (s : State) (g : Nat) (d : List Byte) : (s.writeCpl g d).thm = s.thm := by simp only [State.writeCpl]; split <;> simp only [State.setRing_thm, State.writeEntry_thm]
@[simp] theorem State.writeCpl_aon (s : State) (g : Nat) (d : List Byte) : (s.writeCpl g d).aon = s.aon := by simp only [State.writeCpl]; split <;> simp only [State.setRing_aon, State.writeEntry_aon]
@[simp] theorem State.writeCpl_led (s : State) (g : Nat) (d : List Byte) : (s.writeCpl g d).led = s.led := by simp only [State.writeCpl]; split <;> simp only [State.setRing_led, State.writeEntry_led]

@[simp] theorem State.eventDrop_pending (s : State) (p : Nat) : (s.eventDrop p).pending = s.pending := by simp only [State.eventDrop, State.bump_pending]
@[simp] theorem State.eventDrop_draws (s : State) (p : Nat) : (s.eventDrop p).draws = s.draws := by simp only [State.eventDrop, State.bump_draws]
@[simp] theorem State.eventDrop_out (s : State) (p : Nat) : (s.eventDrop p).out = s.out := by simp only [State.eventDrop, State.bump_out]
@[simp] theorem State.eventDrop_hold (s : State) (p : Nat) : (s.eventDrop p).hold = s.hold := by simp only [State.eventDrop, State.bump_hold]
@[simp] theorem State.eventDrop_written (s : State) (p : Nat) : (s.eventDrop p).written = s.written := by simp only [State.eventDrop, State.bump_written]
@[simp] theorem State.eventDrop_die (s : State) (p : Nat) : (s.eventDrop p).die = s.die := by simp only [State.eventDrop, State.bump_die]
@[simp] theorem State.eventDrop_time (s : State) (p : Nat) : (s.eventDrop p).time = s.time := by simp only [State.eventDrop, State.bump_time]
@[simp] theorem State.eventDrop_hif (s : State) (p : Nat) : (s.eventDrop p).hif = s.hif := by simp only [State.eventDrop, State.bump_hif]
@[simp] theorem State.eventDrop_rings (s : State) (p : Nat) : (s.eventDrop p).rings = s.rings := by simp only [State.eventDrop, State.bump_rings]
@[simp] theorem State.eventDrop_ram (s : State) (p : Nat) : (s.eventDrop p).ram = s.ram := by simp only [State.eventDrop, State.bump_ram]
@[simp] theorem State.eventDrop_tab (s : State) (p : Nat) : (s.eventDrop p).tab = s.tab := by simp only [State.eventDrop, State.bump_tab]
@[simp] theorem State.eventDrop_lrn (s : State) (p : Nat) : (s.eventDrop p).lrn = s.lrn := by simp only [State.eventDrop, State.bump_lrn]
@[simp] theorem State.eventDrop_acl (s : State) (p : Nat) : (s.eventDrop p).acl = s.acl := by simp only [State.eventDrop, State.bump_acl]
@[simp] theorem State.eventDrop_pat (s : State) (p : Nat) : (s.eventDrop p).pat = s.pat := by simp only [State.eventDrop, State.bump_pat]
@[simp] theorem State.eventDrop_icr (s : State) (p : Nat) : (s.eventDrop p).icr = s.icr := by simp only [State.eventDrop, State.bump_icr]
@[simp] theorem State.eventDrop_ing (s : State) (p : Nat) : (s.eventDrop p).ing = s.ing := by simp only [State.eventDrop, State.bump_ing]
@[simp] theorem State.eventDrop_port (s : State) (p : Nat) : (s.eventDrop p).port = s.port := by simp only [State.eventDrop, State.bump_port]
@[simp] theorem State.eventDrop_otn (s : State) (p : Nat) : (s.eventDrop p).otn = s.otn := by simp only [State.eventDrop, State.bump_otn]
@[simp] theorem State.eventDrop_fab (s : State) (p : Nat) : (s.eventDrop p).fab = s.fab := by simp only [State.eventDrop, State.bump_fab]
@[simp] theorem State.eventDrop_tm (s : State) (p : Nat) : (s.eventDrop p).tm = s.tm := by simp only [State.eventDrop, State.bump_tm]
@[simp] theorem State.eventDrop_sch (s : State) (p : Nat) : (s.eventDrop p).sch = s.sch := by simp only [State.eventDrop, State.bump_sch]
@[simp] theorem State.eventDrop_eg (s : State) (p : Nat) : (s.eventDrop p).eg = s.eg := by simp only [State.eventDrop, State.bump_eg]
@[simp] theorem State.eventDrop_mem (s : State) (p : Nat) : (s.eventDrop p).mem = s.mem := by simp only [State.eventDrop, State.bump_mem]
@[simp] theorem State.eventDrop_turnIn (s : State) (p : Nat) : (s.eventDrop p).turnIn = s.turnIn := by simp only [State.eventDrop, State.bump_turnIn]
@[simp] theorem State.eventDrop_turnOut (s : State) (p : Nat) : (s.eventDrop p).turnOut = s.turnOut := by simp only [State.eventDrop, State.bump_turnOut]
@[simp] theorem State.eventDrop_harts (s : State) (p : Nat) : (s.eventDrop p).harts = s.harts := by simp only [State.eventDrop, State.bump_harts]
@[simp] theorem State.eventDrop_kvc (s : State) (p : Nat) : (s.eventDrop p).kvc = s.kvc := by simp only [State.eventDrop, State.bump_kvc]
@[simp] theorem State.eventDrop_boot (s : State) (p : Nat) : (s.eventDrop p).boot = s.boot := by simp only [State.eventDrop, State.bump_boot]
@[simp] theorem State.eventDrop_otp (s : State) (p : Nat) : (s.eventDrop p).otp = s.otp := by simp only [State.eventDrop, State.bump_otp]
@[simp] theorem State.eventDrop_cyc (s : State) (p : Nat) : (s.eventDrop p).cyc = s.cyc := by simp only [State.eventDrop, State.bump_cyc]
@[simp] theorem State.eventDrop_tru (s : State) (p : Nat) : (s.eventDrop p).tru = s.tru := by simp only [State.eventDrop, State.bump_tru]
@[simp] theorem State.eventDrop_pmc (s : State) (p : Nat) : (s.eventDrop p).pmc = s.pmc := by simp only [State.eventDrop, State.bump_pmc]
@[simp] theorem State.eventDrop_tdm (s : State) (p : Nat) : (s.eventDrop p).tdm = s.tdm := by simp only [State.eventDrop, State.bump_tdm]
@[simp] theorem State.eventDrop_thm (s : State) (p : Nat) : (s.eventDrop p).thm = s.thm := by simp only [State.eventDrop, State.bump_thm]
@[simp] theorem State.eventDrop_aon (s : State) (p : Nat) : (s.eventDrop p).aon = s.aon := by simp only [State.eventDrop, State.bump_aon]
@[simp] theorem State.eventDrop_led (s : State) (p : Nat) : (s.eventDrop p).led = s.led := by simp only [State.eventDrop, State.bump_led]

@[simp] theorem State.eventAt_pending (s : State) (p code die cluster inst loc : Nat) (l : List Byte) : (s.eventAt p code die cluster inst loc l).pending = s.pending := by
  unfold State.eventAt; split
  · exact State.eventDrop_pending s p
  split <;> simp only [State.eventDrop_pending, State.writeEntry_pending]
@[simp] theorem State.eventAt_draws (s : State) (p code die cluster inst loc : Nat) (l : List Byte) : (s.eventAt p code die cluster inst loc l).draws = s.draws := by
  unfold State.eventAt; split
  · exact State.eventDrop_draws s p
  split <;> simp only [State.eventDrop_draws, State.writeEntry_draws]
@[simp] theorem State.eventAt_hold (s : State) (p code die cluster inst loc : Nat) (l : List Byte) : (s.eventAt p code die cluster inst loc l).hold = s.hold := by
  unfold State.eventAt; split
  · exact State.eventDrop_hold s p
  split <;> simp only [State.eventDrop_hold, State.writeEntry_hold]
@[simp] theorem State.eventAt_written (s : State) (p code die cluster inst loc : Nat) (l : List Byte) : (s.eventAt p code die cluster inst loc l).written = s.written := by
  unfold State.eventAt; split
  · exact State.eventDrop_written s p
  split <;> simp only [State.eventDrop_written, State.writeEntry_written]
@[simp] theorem State.eventAt_die (s : State) (p code die cluster inst loc : Nat) (l : List Byte) : (s.eventAt p code die cluster inst loc l).die = s.die := by
  unfold State.eventAt; split
  · exact State.eventDrop_die s p
  split <;> simp only [State.eventDrop_die, State.writeEntry_die]
@[simp] theorem State.eventAt_time (s : State) (p code die cluster inst loc : Nat) (l : List Byte) : (s.eventAt p code die cluster inst loc l).time = s.time := by
  unfold State.eventAt; split
  · exact State.eventDrop_time s p
  split <;> simp only [State.eventDrop_time, State.writeEntry_time]
@[simp] theorem State.eventAt_hif (s : State) (p code die cluster inst loc : Nat) (l : List Byte) : (s.eventAt p code die cluster inst loc l).hif = s.hif := by
  unfold State.eventAt; split
  · exact State.eventDrop_hif s p
  split <;> simp only [State.eventDrop_hif, State.writeEntry_hif]
@[simp] theorem State.eventAt_tab (s : State) (p code die cluster inst loc : Nat) (l : List Byte) : (s.eventAt p code die cluster inst loc l).tab = s.tab := by
  unfold State.eventAt; split
  · exact State.eventDrop_tab s p
  split <;> simp only [State.eventDrop_tab, State.writeEntry_tab]
@[simp] theorem State.eventAt_lrn (s : State) (p code die cluster inst loc : Nat) (l : List Byte) : (s.eventAt p code die cluster inst loc l).lrn = s.lrn := by
  unfold State.eventAt; split
  · exact State.eventDrop_lrn s p
  split <;> simp only [State.eventDrop_lrn, State.writeEntry_lrn]
@[simp] theorem State.eventAt_acl (s : State) (p code die cluster inst loc : Nat) (l : List Byte) : (s.eventAt p code die cluster inst loc l).acl = s.acl := by
  unfold State.eventAt; split
  · exact State.eventDrop_acl s p
  split <;> simp only [State.eventDrop_acl, State.writeEntry_acl]
@[simp] theorem State.eventAt_pat (s : State) (p code die cluster inst loc : Nat) (l : List Byte) : (s.eventAt p code die cluster inst loc l).pat = s.pat := by
  unfold State.eventAt; split
  · exact State.eventDrop_pat s p
  split <;> simp only [State.eventDrop_pat, State.writeEntry_pat]
@[simp] theorem State.eventAt_icr (s : State) (p code die cluster inst loc : Nat) (l : List Byte) : (s.eventAt p code die cluster inst loc l).icr = s.icr := by
  unfold State.eventAt; split
  · exact State.eventDrop_icr s p
  split <;> simp only [State.eventDrop_icr, State.writeEntry_icr]
@[simp] theorem State.eventAt_ing (s : State) (p code die cluster inst loc : Nat) (l : List Byte) : (s.eventAt p code die cluster inst loc l).ing = s.ing := by
  unfold State.eventAt; split
  · exact State.eventDrop_ing s p
  split <;> simp only [State.eventDrop_ing, State.writeEntry_ing]
@[simp] theorem State.eventAt_port (s : State) (p code die cluster inst loc : Nat) (l : List Byte) : (s.eventAt p code die cluster inst loc l).port = s.port := by
  unfold State.eventAt; split
  · exact State.eventDrop_port s p
  split <;> simp only [State.eventDrop_port, State.writeEntry_port]
@[simp] theorem State.eventAt_otn (s : State) (p code die cluster inst loc : Nat) (l : List Byte) : (s.eventAt p code die cluster inst loc l).otn = s.otn := by
  unfold State.eventAt; split
  · exact State.eventDrop_otn s p
  split <;> simp only [State.eventDrop_otn, State.writeEntry_otn]
@[simp] theorem State.eventAt_fab (s : State) (p code die cluster inst loc : Nat) (l : List Byte) : (s.eventAt p code die cluster inst loc l).fab = s.fab := by
  unfold State.eventAt; split
  · exact State.eventDrop_fab s p
  split <;> simp only [State.eventDrop_fab, State.writeEntry_fab]
@[simp] theorem State.eventAt_tm (s : State) (p code die cluster inst loc : Nat) (l : List Byte) : (s.eventAt p code die cluster inst loc l).tm = s.tm := by
  unfold State.eventAt; split
  · exact State.eventDrop_tm s p
  split <;> simp only [State.eventDrop_tm, State.writeEntry_tm]
@[simp] theorem State.eventAt_sch (s : State) (p code die cluster inst loc : Nat) (l : List Byte) : (s.eventAt p code die cluster inst loc l).sch = s.sch := by
  unfold State.eventAt; split
  · exact State.eventDrop_sch s p
  split <;> simp only [State.eventDrop_sch, State.writeEntry_sch]
@[simp] theorem State.eventAt_eg (s : State) (p code die cluster inst loc : Nat) (l : List Byte) : (s.eventAt p code die cluster inst loc l).eg = s.eg := by
  unfold State.eventAt; split
  · exact State.eventDrop_eg s p
  split <;> simp only [State.eventDrop_eg, State.writeEntry_eg]
@[simp] theorem State.eventAt_mem (s : State) (p code die cluster inst loc : Nat) (l : List Byte) : (s.eventAt p code die cluster inst loc l).mem = s.mem := by
  unfold State.eventAt; split
  · exact State.eventDrop_mem s p
  split <;> simp only [State.eventDrop_mem, State.writeEntry_mem]
@[simp] theorem State.eventAt_turnIn (s : State) (p code die cluster inst loc : Nat) (l : List Byte) : (s.eventAt p code die cluster inst loc l).turnIn = s.turnIn := by
  unfold State.eventAt; split
  · exact State.eventDrop_turnIn s p
  split <;> simp only [State.eventDrop_turnIn, State.writeEntry_turnIn]
@[simp] theorem State.eventAt_turnOut (s : State) (p code die cluster inst loc : Nat) (l : List Byte) : (s.eventAt p code die cluster inst loc l).turnOut = s.turnOut := by
  unfold State.eventAt; split
  · exact State.eventDrop_turnOut s p
  split <;> simp only [State.eventDrop_turnOut, State.writeEntry_turnOut]
@[simp] theorem State.eventAt_harts (s : State) (p code die cluster inst loc : Nat) (l : List Byte) : (s.eventAt p code die cluster inst loc l).harts = s.harts := by
  unfold State.eventAt; split
  · exact State.eventDrop_harts s p
  split <;> simp only [State.eventDrop_harts, State.writeEntry_harts]
@[simp] theorem State.eventAt_kvc (s : State) (p code die cluster inst loc : Nat) (l : List Byte) : (s.eventAt p code die cluster inst loc l).kvc = s.kvc := by
  unfold State.eventAt; split
  · exact State.eventDrop_kvc s p
  split <;> simp only [State.eventDrop_kvc, State.writeEntry_kvc]
@[simp] theorem State.eventAt_boot (s : State) (p code die cluster inst loc : Nat) (l : List Byte) : (s.eventAt p code die cluster inst loc l).boot = s.boot := by
  unfold State.eventAt; split
  · exact State.eventDrop_boot s p
  split <;> simp only [State.eventDrop_boot, State.writeEntry_boot]
@[simp] theorem State.eventAt_otp (s : State) (p code die cluster inst loc : Nat) (l : List Byte) : (s.eventAt p code die cluster inst loc l).otp = s.otp := by
  unfold State.eventAt; split
  · exact State.eventDrop_otp s p
  split <;> simp only [State.eventDrop_otp, State.writeEntry_otp]
@[simp] theorem State.eventAt_cyc (s : State) (p code die cluster inst loc : Nat) (l : List Byte) : (s.eventAt p code die cluster inst loc l).cyc = s.cyc := by
  unfold State.eventAt; split
  · exact State.eventDrop_cyc s p
  split <;> simp only [State.eventDrop_cyc, State.writeEntry_cyc]
@[simp] theorem State.eventAt_tru (s : State) (p code die cluster inst loc : Nat) (l : List Byte) : (s.eventAt p code die cluster inst loc l).tru = s.tru := by
  unfold State.eventAt; split
  · exact State.eventDrop_tru s p
  split <;> simp only [State.eventDrop_tru, State.writeEntry_tru]
@[simp] theorem State.eventAt_pmc (s : State) (p code die cluster inst loc : Nat) (l : List Byte) : (s.eventAt p code die cluster inst loc l).pmc = s.pmc := by
  unfold State.eventAt; split
  · exact State.eventDrop_pmc s p
  split <;> simp only [State.eventDrop_pmc, State.writeEntry_pmc]
@[simp] theorem State.eventAt_tdm (s : State) (p code die cluster inst loc : Nat) (l : List Byte) : (s.eventAt p code die cluster inst loc l).tdm = s.tdm := by
  unfold State.eventAt; split
  · exact State.eventDrop_tdm s p
  split <;> simp only [State.eventDrop_tdm, State.writeEntry_tdm]
@[simp] theorem State.eventAt_thm (s : State) (p code die cluster inst loc : Nat) (l : List Byte) : (s.eventAt p code die cluster inst loc l).thm = s.thm := by
  unfold State.eventAt; split
  · exact State.eventDrop_thm s p
  split <;> simp only [State.eventDrop_thm, State.writeEntry_thm]
@[simp] theorem State.eventAt_aon (s : State) (p code die cluster inst loc : Nat) (l : List Byte) : (s.eventAt p code die cluster inst loc l).aon = s.aon := by
  unfold State.eventAt; split
  · exact State.eventDrop_aon s p
  split <;> simp only [State.eventDrop_aon, State.writeEntry_aon]
@[simp] theorem State.eventAt_led (s : State) (p code die cluster inst loc : Nat) (l : List Byte) : (s.eventAt p code die cluster inst loc l).led = s.led := by
  unfold State.eventAt; split
  · exact State.eventDrop_led s p
  split <;> simp only [State.eventDrop_led, State.writeEntry_led]

@[simp] theorem State.event_pending (s : State) (p code die cluster loc : Nat) (l : List Byte) : (s.event p code die cluster loc l).pending = s.pending := State.eventAt_pending _ _ _ _ _ _ _ _
@[simp] theorem State.event_draws (s : State) (p code die cluster loc : Nat) (l : List Byte) : (s.event p code die cluster loc l).draws = s.draws := State.eventAt_draws _ _ _ _ _ _ _ _
@[simp] theorem State.event_hold (s : State) (p code die cluster loc : Nat) (l : List Byte) : (s.event p code die cluster loc l).hold = s.hold := State.eventAt_hold _ _ _ _ _ _ _ _
@[simp] theorem State.event_written (s : State) (p code die cluster loc : Nat) (l : List Byte) : (s.event p code die cluster loc l).written = s.written := State.eventAt_written _ _ _ _ _ _ _ _
@[simp] theorem State.event_die (s : State) (p code die cluster loc : Nat) (l : List Byte) : (s.event p code die cluster loc l).die = s.die := State.eventAt_die _ _ _ _ _ _ _ _
@[simp] theorem State.event_time (s : State) (p code die cluster loc : Nat) (l : List Byte) : (s.event p code die cluster loc l).time = s.time := State.eventAt_time _ _ _ _ _ _ _ _
@[simp] theorem State.event_hif (s : State) (p code die cluster loc : Nat) (l : List Byte) : (s.event p code die cluster loc l).hif = s.hif := State.eventAt_hif _ _ _ _ _ _ _ _
@[simp] theorem State.event_tab (s : State) (p code die cluster loc : Nat) (l : List Byte) : (s.event p code die cluster loc l).tab = s.tab := State.eventAt_tab _ _ _ _ _ _ _ _
@[simp] theorem State.event_lrn (s : State) (p code die cluster loc : Nat) (l : List Byte) : (s.event p code die cluster loc l).lrn = s.lrn := State.eventAt_lrn _ _ _ _ _ _ _ _
@[simp] theorem State.event_acl (s : State) (p code die cluster loc : Nat) (l : List Byte) : (s.event p code die cluster loc l).acl = s.acl := State.eventAt_acl _ _ _ _ _ _ _ _
@[simp] theorem State.event_pat (s : State) (p code die cluster loc : Nat) (l : List Byte) : (s.event p code die cluster loc l).pat = s.pat := State.eventAt_pat _ _ _ _ _ _ _ _
@[simp] theorem State.event_icr (s : State) (p code die cluster loc : Nat) (l : List Byte) : (s.event p code die cluster loc l).icr = s.icr := State.eventAt_icr _ _ _ _ _ _ _ _
@[simp] theorem State.event_ing (s : State) (p code die cluster loc : Nat) (l : List Byte) : (s.event p code die cluster loc l).ing = s.ing := State.eventAt_ing _ _ _ _ _ _ _ _
@[simp] theorem State.event_port (s : State) (p code die cluster loc : Nat) (l : List Byte) : (s.event p code die cluster loc l).port = s.port := State.eventAt_port _ _ _ _ _ _ _ _
@[simp] theorem State.event_otn (s : State) (p code die cluster loc : Nat) (l : List Byte) : (s.event p code die cluster loc l).otn = s.otn := State.eventAt_otn _ _ _ _ _ _ _ _
@[simp] theorem State.event_fab (s : State) (p code die cluster loc : Nat) (l : List Byte) : (s.event p code die cluster loc l).fab = s.fab := State.eventAt_fab _ _ _ _ _ _ _ _
@[simp] theorem State.event_tm (s : State) (p code die cluster loc : Nat) (l : List Byte) : (s.event p code die cluster loc l).tm = s.tm := State.eventAt_tm _ _ _ _ _ _ _ _
@[simp] theorem State.event_sch (s : State) (p code die cluster loc : Nat) (l : List Byte) : (s.event p code die cluster loc l).sch = s.sch := State.eventAt_sch _ _ _ _ _ _ _ _
@[simp] theorem State.event_eg (s : State) (p code die cluster loc : Nat) (l : List Byte) : (s.event p code die cluster loc l).eg = s.eg := State.eventAt_eg _ _ _ _ _ _ _ _
@[simp] theorem State.event_mem (s : State) (p code die cluster loc : Nat) (l : List Byte) : (s.event p code die cluster loc l).mem = s.mem := State.eventAt_mem _ _ _ _ _ _ _ _
@[simp] theorem State.event_turnIn (s : State) (p code die cluster loc : Nat) (l : List Byte) : (s.event p code die cluster loc l).turnIn = s.turnIn := State.eventAt_turnIn _ _ _ _ _ _ _ _
@[simp] theorem State.event_turnOut (s : State) (p code die cluster loc : Nat) (l : List Byte) : (s.event p code die cluster loc l).turnOut = s.turnOut := State.eventAt_turnOut _ _ _ _ _ _ _ _
@[simp] theorem State.event_harts (s : State) (p code die cluster loc : Nat) (l : List Byte) : (s.event p code die cluster loc l).harts = s.harts := State.eventAt_harts _ _ _ _ _ _ _ _
@[simp] theorem State.event_kvc (s : State) (p code die cluster loc : Nat) (l : List Byte) : (s.event p code die cluster loc l).kvc = s.kvc := State.eventAt_kvc _ _ _ _ _ _ _ _
@[simp] theorem State.event_boot (s : State) (p code die cluster loc : Nat) (l : List Byte) : (s.event p code die cluster loc l).boot = s.boot := State.eventAt_boot _ _ _ _ _ _ _ _
@[simp] theorem State.event_otp (s : State) (p code die cluster loc : Nat) (l : List Byte) : (s.event p code die cluster loc l).otp = s.otp := State.eventAt_otp _ _ _ _ _ _ _ _
@[simp] theorem State.event_cyc (s : State) (p code die cluster loc : Nat) (l : List Byte) : (s.event p code die cluster loc l).cyc = s.cyc := State.eventAt_cyc _ _ _ _ _ _ _ _
@[simp] theorem State.event_tru (s : State) (p code die cluster loc : Nat) (l : List Byte) : (s.event p code die cluster loc l).tru = s.tru := State.eventAt_tru _ _ _ _ _ _ _ _
@[simp] theorem State.event_pmc (s : State) (p code die cluster loc : Nat) (l : List Byte) : (s.event p code die cluster loc l).pmc = s.pmc := State.eventAt_pmc _ _ _ _ _ _ _ _
@[simp] theorem State.event_tdm (s : State) (p code die cluster loc : Nat) (l : List Byte) : (s.event p code die cluster loc l).tdm = s.tdm := State.eventAt_tdm _ _ _ _ _ _ _ _
@[simp] theorem State.event_thm (s : State) (p code die cluster loc : Nat) (l : List Byte) : (s.event p code die cluster loc l).thm = s.thm := State.eventAt_thm _ _ _ _ _ _ _ _
@[simp] theorem State.event_aon (s : State) (p code die cluster loc : Nat) (l : List Byte) : (s.event p code die cluster loc l).aon = s.aon := State.eventAt_aon _ _ _ _ _ _ _ _
@[simp] theorem State.event_led (s : State) (p code die cluster loc : Nat) (l : List Byte) : (s.event p code die cluster loc l).led = s.led := State.eventAt_led _ _ _ _ _ _ _ _

@[simp] theorem State.ownerEvent_pending (s : State) (code die cluster loc : Nat) (l : List Byte) : (s.ownerEvent code die cluster loc l).pending = s.pending := State.eventAt_pending _ _ _ _ _ _ _ _
@[simp] theorem State.ownerEvent_draws (s : State) (code die cluster loc : Nat) (l : List Byte) : (s.ownerEvent code die cluster loc l).draws = s.draws := State.eventAt_draws _ _ _ _ _ _ _ _
@[simp] theorem State.ownerEvent_hold (s : State) (code die cluster loc : Nat) (l : List Byte) : (s.ownerEvent code die cluster loc l).hold = s.hold := State.eventAt_hold _ _ _ _ _ _ _ _
@[simp] theorem State.ownerEvent_written (s : State) (code die cluster loc : Nat) (l : List Byte) : (s.ownerEvent code die cluster loc l).written = s.written := State.eventAt_written _ _ _ _ _ _ _ _
@[simp] theorem State.ownerEvent_die (s : State) (code die cluster loc : Nat) (l : List Byte) : (s.ownerEvent code die cluster loc l).die = s.die := State.eventAt_die _ _ _ _ _ _ _ _
@[simp] theorem State.ownerEvent_time (s : State) (code die cluster loc : Nat) (l : List Byte) : (s.ownerEvent code die cluster loc l).time = s.time := State.eventAt_time _ _ _ _ _ _ _ _
@[simp] theorem State.ownerEvent_hif (s : State) (code die cluster loc : Nat) (l : List Byte) : (s.ownerEvent code die cluster loc l).hif = s.hif := State.eventAt_hif _ _ _ _ _ _ _ _
@[simp] theorem State.ownerEvent_tab (s : State) (code die cluster loc : Nat) (l : List Byte) : (s.ownerEvent code die cluster loc l).tab = s.tab := State.eventAt_tab _ _ _ _ _ _ _ _
@[simp] theorem State.ownerEvent_lrn (s : State) (code die cluster loc : Nat) (l : List Byte) : (s.ownerEvent code die cluster loc l).lrn = s.lrn := State.eventAt_lrn _ _ _ _ _ _ _ _
@[simp] theorem State.ownerEvent_acl (s : State) (code die cluster loc : Nat) (l : List Byte) : (s.ownerEvent code die cluster loc l).acl = s.acl := State.eventAt_acl _ _ _ _ _ _ _ _
@[simp] theorem State.ownerEvent_pat (s : State) (code die cluster loc : Nat) (l : List Byte) : (s.ownerEvent code die cluster loc l).pat = s.pat := State.eventAt_pat _ _ _ _ _ _ _ _
@[simp] theorem State.ownerEvent_icr (s : State) (code die cluster loc : Nat) (l : List Byte) : (s.ownerEvent code die cluster loc l).icr = s.icr := State.eventAt_icr _ _ _ _ _ _ _ _
@[simp] theorem State.ownerEvent_ing (s : State) (code die cluster loc : Nat) (l : List Byte) : (s.ownerEvent code die cluster loc l).ing = s.ing := State.eventAt_ing _ _ _ _ _ _ _ _
@[simp] theorem State.ownerEvent_port (s : State) (code die cluster loc : Nat) (l : List Byte) : (s.ownerEvent code die cluster loc l).port = s.port := State.eventAt_port _ _ _ _ _ _ _ _
@[simp] theorem State.ownerEvent_otn (s : State) (code die cluster loc : Nat) (l : List Byte) : (s.ownerEvent code die cluster loc l).otn = s.otn := State.eventAt_otn _ _ _ _ _ _ _ _
@[simp] theorem State.ownerEvent_fab (s : State) (code die cluster loc : Nat) (l : List Byte) : (s.ownerEvent code die cluster loc l).fab = s.fab := State.eventAt_fab _ _ _ _ _ _ _ _
@[simp] theorem State.ownerEvent_tm (s : State) (code die cluster loc : Nat) (l : List Byte) : (s.ownerEvent code die cluster loc l).tm = s.tm := State.eventAt_tm _ _ _ _ _ _ _ _
@[simp] theorem State.ownerEvent_sch (s : State) (code die cluster loc : Nat) (l : List Byte) : (s.ownerEvent code die cluster loc l).sch = s.sch := State.eventAt_sch _ _ _ _ _ _ _ _
@[simp] theorem State.ownerEvent_eg (s : State) (code die cluster loc : Nat) (l : List Byte) : (s.ownerEvent code die cluster loc l).eg = s.eg := State.eventAt_eg _ _ _ _ _ _ _ _
@[simp] theorem State.ownerEvent_mem (s : State) (code die cluster loc : Nat) (l : List Byte) : (s.ownerEvent code die cluster loc l).mem = s.mem := State.eventAt_mem _ _ _ _ _ _ _ _
@[simp] theorem State.ownerEvent_turnIn (s : State) (code die cluster loc : Nat) (l : List Byte) : (s.ownerEvent code die cluster loc l).turnIn = s.turnIn := State.eventAt_turnIn _ _ _ _ _ _ _ _
@[simp] theorem State.ownerEvent_turnOut (s : State) (code die cluster loc : Nat) (l : List Byte) : (s.ownerEvent code die cluster loc l).turnOut = s.turnOut := State.eventAt_turnOut _ _ _ _ _ _ _ _
@[simp] theorem State.ownerEvent_harts (s : State) (code die cluster loc : Nat) (l : List Byte) : (s.ownerEvent code die cluster loc l).harts = s.harts := State.eventAt_harts _ _ _ _ _ _ _ _
@[simp] theorem State.ownerEvent_kvc (s : State) (code die cluster loc : Nat) (l : List Byte) : (s.ownerEvent code die cluster loc l).kvc = s.kvc := State.eventAt_kvc _ _ _ _ _ _ _ _
@[simp] theorem State.ownerEvent_boot (s : State) (code die cluster loc : Nat) (l : List Byte) : (s.ownerEvent code die cluster loc l).boot = s.boot := State.eventAt_boot _ _ _ _ _ _ _ _
@[simp] theorem State.ownerEvent_otp (s : State) (code die cluster loc : Nat) (l : List Byte) : (s.ownerEvent code die cluster loc l).otp = s.otp := State.eventAt_otp _ _ _ _ _ _ _ _
@[simp] theorem State.ownerEvent_cyc (s : State) (code die cluster loc : Nat) (l : List Byte) : (s.ownerEvent code die cluster loc l).cyc = s.cyc := State.eventAt_cyc _ _ _ _ _ _ _ _
@[simp] theorem State.ownerEvent_tru (s : State) (code die cluster loc : Nat) (l : List Byte) : (s.ownerEvent code die cluster loc l).tru = s.tru := State.eventAt_tru _ _ _ _ _ _ _ _
@[simp] theorem State.ownerEvent_pmc (s : State) (code die cluster loc : Nat) (l : List Byte) : (s.ownerEvent code die cluster loc l).pmc = s.pmc := State.eventAt_pmc _ _ _ _ _ _ _ _
@[simp] theorem State.ownerEvent_tdm (s : State) (code die cluster loc : Nat) (l : List Byte) : (s.ownerEvent code die cluster loc l).tdm = s.tdm := State.eventAt_tdm _ _ _ _ _ _ _ _
@[simp] theorem State.ownerEvent_thm (s : State) (code die cluster loc : Nat) (l : List Byte) : (s.ownerEvent code die cluster loc l).thm = s.thm := State.eventAt_thm _ _ _ _ _ _ _ _
@[simp] theorem State.ownerEvent_aon (s : State) (code die cluster loc : Nat) (l : List Byte) : (s.ownerEvent code die cluster loc l).aon = s.aon := State.eventAt_aon _ _ _ _ _ _ _ _
@[simp] theorem State.ownerEvent_led (s : State) (code die cluster loc : Nat) (l : List Byte) : (s.ownerEvent code die cluster loc l).led = s.led := State.eventAt_led _ _ _ _ _ _ _ _

@[simp] theorem State.aer_pending (s : State) (f : Nat) (e : AerErr) : (s.aer f e).pending = s.pending := by unfold State.aer; split <;> simp only [State.setFn_pending]
@[simp] theorem State.aer_regs (s : State) (f : Nat) (e : AerErr) : (s.aer f e).regs = s.regs := by unfold State.aer; split <;> simp only [State.setFn_regs]
@[simp] theorem State.aer_draws (s : State) (f : Nat) (e : AerErr) : (s.aer f e).draws = s.draws := by unfold State.aer; split <;> simp only [State.setFn_draws]
@[simp] theorem State.aer_out (s : State) (f : Nat) (e : AerErr) : (s.aer f e).out = s.out := by unfold State.aer; split <;> simp only [State.setFn_out]
@[simp] theorem State.aer_hold (s : State) (f : Nat) (e : AerErr) : (s.aer f e).hold = s.hold := by unfold State.aer; split <;> simp only [State.setFn_hold]
@[simp] theorem State.aer_written (s : State) (f : Nat) (e : AerErr) : (s.aer f e).written = s.written := by unfold State.aer; split <;> simp only [State.setFn_written]
@[simp] theorem State.aer_pmcIn (s : State) (f : Nat) (e : AerErr) : (s.aer f e).pmcIn = s.pmcIn := by unfold State.aer; split <;> simp only [State.setFn_pmcIn]
@[simp] theorem State.aer_die (s : State) (f : Nat) (e : AerErr) : (s.aer f e).die = s.die := by unfold State.aer; split <;> simp only [State.setFn_die]
@[simp] theorem State.aer_time (s : State) (f : Nat) (e : AerErr) : (s.aer f e).time = s.time := by unfold State.aer; split <;> simp only [State.setFn_time]
@[simp] theorem State.aer_rings (s : State) (f : Nat) (e : AerErr) : (s.aer f e).rings = s.rings := by unfold State.aer; split <;> simp only [State.setFn_rings]
@[simp] theorem State.aer_evLost (s : State) (f : Nat) (e : AerErr) : (s.aer f e).evLost = s.evLost := by unfold State.aer; split <;> simp only [State.setFn_evLost]
@[simp] theorem State.aer_ram (s : State) (f : Nat) (e : AerErr) : (s.aer f e).ram = s.ram := by unfold State.aer; split <;> simp only [State.setFn_ram]
@[simp] theorem State.aer_tab (s : State) (f : Nat) (e : AerErr) : (s.aer f e).tab = s.tab := by unfold State.aer; split <;> simp only [State.setFn_tab]
@[simp] theorem State.aer_lrn (s : State) (f : Nat) (e : AerErr) : (s.aer f e).lrn = s.lrn := by unfold State.aer; split <;> simp only [State.setFn_lrn]
@[simp] theorem State.aer_acl (s : State) (f : Nat) (e : AerErr) : (s.aer f e).acl = s.acl := by unfold State.aer; split <;> simp only [State.setFn_acl]
@[simp] theorem State.aer_pat (s : State) (f : Nat) (e : AerErr) : (s.aer f e).pat = s.pat := by unfold State.aer; split <;> simp only [State.setFn_pat]
@[simp] theorem State.aer_icr (s : State) (f : Nat) (e : AerErr) : (s.aer f e).icr = s.icr := by unfold State.aer; split <;> simp only [State.setFn_icr]
@[simp] theorem State.aer_ing (s : State) (f : Nat) (e : AerErr) : (s.aer f e).ing = s.ing := by unfold State.aer; split <;> simp only [State.setFn_ing]
@[simp] theorem State.aer_port (s : State) (f : Nat) (e : AerErr) : (s.aer f e).port = s.port := by unfold State.aer; split <;> simp only [State.setFn_port]
@[simp] theorem State.aer_otn (s : State) (f : Nat) (e : AerErr) : (s.aer f e).otn = s.otn := by unfold State.aer; split <;> simp only [State.setFn_otn]
@[simp] theorem State.aer_fab (s : State) (f : Nat) (e : AerErr) : (s.aer f e).fab = s.fab := by unfold State.aer; split <;> simp only [State.setFn_fab]
@[simp] theorem State.aer_tm (s : State) (f : Nat) (e : AerErr) : (s.aer f e).tm = s.tm := by unfold State.aer; split <;> simp only [State.setFn_tm]
@[simp] theorem State.aer_sch (s : State) (f : Nat) (e : AerErr) : (s.aer f e).sch = s.sch := by unfold State.aer; split <;> simp only [State.setFn_sch]
@[simp] theorem State.aer_eg (s : State) (f : Nat) (e : AerErr) : (s.aer f e).eg = s.eg := by unfold State.aer; split <;> simp only [State.setFn_eg]
@[simp] theorem State.aer_mem (s : State) (f : Nat) (e : AerErr) : (s.aer f e).mem = s.mem := by unfold State.aer; split <;> simp only [State.setFn_mem]
@[simp] theorem State.aer_turnIn (s : State) (f : Nat) (e : AerErr) : (s.aer f e).turnIn = s.turnIn := by unfold State.aer; split <;> simp only [State.setFn_turnIn]
@[simp] theorem State.aer_turnOut (s : State) (f : Nat) (e : AerErr) : (s.aer f e).turnOut = s.turnOut := by unfold State.aer; split <;> simp only [State.setFn_turnOut]
@[simp] theorem State.aer_harts (s : State) (f : Nat) (e : AerErr) : (s.aer f e).harts = s.harts := by unfold State.aer; split <;> simp only [State.setFn_harts]
@[simp] theorem State.aer_kvc (s : State) (f : Nat) (e : AerErr) : (s.aer f e).kvc = s.kvc := by unfold State.aer; split <;> simp only [State.setFn_kvc]
@[simp] theorem State.aer_boot (s : State) (f : Nat) (e : AerErr) : (s.aer f e).boot = s.boot := by unfold State.aer; split <;> simp only [State.setFn_boot]
@[simp] theorem State.aer_otp (s : State) (f : Nat) (e : AerErr) : (s.aer f e).otp = s.otp := by unfold State.aer; split <;> simp only [State.setFn_otp]
@[simp] theorem State.aer_cyc (s : State) (f : Nat) (e : AerErr) : (s.aer f e).cyc = s.cyc := by unfold State.aer; split <;> simp only [State.setFn_cyc]
@[simp] theorem State.aer_tru (s : State) (f : Nat) (e : AerErr) : (s.aer f e).tru = s.tru := by unfold State.aer; split <;> simp only [State.setFn_tru]
@[simp] theorem State.aer_pmc (s : State) (f : Nat) (e : AerErr) : (s.aer f e).pmc = s.pmc := by unfold State.aer; split <;> simp only [State.setFn_pmc]
@[simp] theorem State.aer_tdm (s : State) (f : Nat) (e : AerErr) : (s.aer f e).tdm = s.tdm := by unfold State.aer; split <;> simp only [State.setFn_tdm]
@[simp] theorem State.aer_thm (s : State) (f : Nat) (e : AerErr) : (s.aer f e).thm = s.thm := by unfold State.aer; split <;> simp only [State.setFn_thm]
@[simp] theorem State.aer_aon (s : State) (f : Nat) (e : AerErr) : (s.aer f e).aon = s.aon := by unfold State.aer; split <;> simp only [State.setFn_aon]
@[simp] theorem State.aer_led (s : State) (f : Nat) (e : AerErr) : (s.aer f e).led = s.led := by unfold State.aer; split <;> simp only [State.setFn_led]

@[simp] theorem State.report_pending (s : State) (f : Nat) (e : AerErr) (c : ErrClass) : (s.report f e c).pending = s.pending := by simp only [State.report, State.emit_pending, State.aer_pending]
@[simp] theorem State.report_regs (s : State) (f : Nat) (e : AerErr) (c : ErrClass) : (s.report f e c).regs = s.regs := by simp only [State.report, State.emit_regs, State.aer_regs]
@[simp] theorem State.report_draws (s : State) (f : Nat) (e : AerErr) (c : ErrClass) : (s.report f e c).draws = s.draws := by simp only [State.report, State.emit_draws, State.aer_draws]
@[simp] theorem State.report_hold (s : State) (f : Nat) (e : AerErr) (c : ErrClass) : (s.report f e c).hold = s.hold := by simp only [State.report, State.emit_hold, State.aer_hold]
@[simp] theorem State.report_written (s : State) (f : Nat) (e : AerErr) (c : ErrClass) : (s.report f e c).written = s.written := by simp only [State.report, State.emit_written, State.aer_written]
@[simp] theorem State.report_pmcIn (s : State) (f : Nat) (e : AerErr) (c : ErrClass) : (s.report f e c).pmcIn = s.pmcIn := by simp only [State.report, State.emit_pmcIn, State.aer_pmcIn]
@[simp] theorem State.report_die (s : State) (f : Nat) (e : AerErr) (c : ErrClass) : (s.report f e c).die = s.die := by simp only [State.report, State.emit_die, State.aer_die]
@[simp] theorem State.report_time (s : State) (f : Nat) (e : AerErr) (c : ErrClass) : (s.report f e c).time = s.time := by simp only [State.report, State.emit_time, State.aer_time]
@[simp] theorem State.report_rings (s : State) (f : Nat) (e : AerErr) (c : ErrClass) : (s.report f e c).rings = s.rings := by simp only [State.report, State.emit_rings, State.aer_rings]
@[simp] theorem State.report_evLost (s : State) (f : Nat) (e : AerErr) (c : ErrClass) : (s.report f e c).evLost = s.evLost := by simp only [State.report, State.emit_evLost, State.aer_evLost]
@[simp] theorem State.report_ram (s : State) (f : Nat) (e : AerErr) (c : ErrClass) : (s.report f e c).ram = s.ram := by simp only [State.report, State.emit_ram, State.aer_ram]
@[simp] theorem State.report_tab (s : State) (f : Nat) (e : AerErr) (c : ErrClass) : (s.report f e c).tab = s.tab := by simp only [State.report, State.emit_tab, State.aer_tab]
@[simp] theorem State.report_lrn (s : State) (f : Nat) (e : AerErr) (c : ErrClass) : (s.report f e c).lrn = s.lrn := by simp only [State.report, State.emit_lrn, State.aer_lrn]
@[simp] theorem State.report_acl (s : State) (f : Nat) (e : AerErr) (c : ErrClass) : (s.report f e c).acl = s.acl := by simp only [State.report, State.emit_acl, State.aer_acl]
@[simp] theorem State.report_pat (s : State) (f : Nat) (e : AerErr) (c : ErrClass) : (s.report f e c).pat = s.pat := by simp only [State.report, State.emit_pat, State.aer_pat]
@[simp] theorem State.report_icr (s : State) (f : Nat) (e : AerErr) (c : ErrClass) : (s.report f e c).icr = s.icr := by simp only [State.report, State.emit_icr, State.aer_icr]
@[simp] theorem State.report_ing (s : State) (f : Nat) (e : AerErr) (c : ErrClass) : (s.report f e c).ing = s.ing := by simp only [State.report, State.emit_ing, State.aer_ing]
@[simp] theorem State.report_port (s : State) (f : Nat) (e : AerErr) (c : ErrClass) : (s.report f e c).port = s.port := by simp only [State.report, State.emit_port, State.aer_port]
@[simp] theorem State.report_otn (s : State) (f : Nat) (e : AerErr) (c : ErrClass) : (s.report f e c).otn = s.otn := by simp only [State.report, State.emit_otn, State.aer_otn]
@[simp] theorem State.report_fab (s : State) (f : Nat) (e : AerErr) (c : ErrClass) : (s.report f e c).fab = s.fab := by simp only [State.report, State.emit_fab, State.aer_fab]
@[simp] theorem State.report_tm (s : State) (f : Nat) (e : AerErr) (c : ErrClass) : (s.report f e c).tm = s.tm := by simp only [State.report, State.emit_tm, State.aer_tm]
@[simp] theorem State.report_sch (s : State) (f : Nat) (e : AerErr) (c : ErrClass) : (s.report f e c).sch = s.sch := by simp only [State.report, State.emit_sch, State.aer_sch]
@[simp] theorem State.report_eg (s : State) (f : Nat) (e : AerErr) (c : ErrClass) : (s.report f e c).eg = s.eg := by simp only [State.report, State.emit_eg, State.aer_eg]
@[simp] theorem State.report_mem (s : State) (f : Nat) (e : AerErr) (c : ErrClass) : (s.report f e c).mem = s.mem := by simp only [State.report, State.emit_mem, State.aer_mem]
@[simp] theorem State.report_turnIn (s : State) (f : Nat) (e : AerErr) (c : ErrClass) : (s.report f e c).turnIn = s.turnIn := by simp only [State.report, State.emit_turnIn, State.aer_turnIn]
@[simp] theorem State.report_turnOut (s : State) (f : Nat) (e : AerErr) (c : ErrClass) : (s.report f e c).turnOut = s.turnOut := by simp only [State.report, State.emit_turnOut, State.aer_turnOut]
@[simp] theorem State.report_harts (s : State) (f : Nat) (e : AerErr) (c : ErrClass) : (s.report f e c).harts = s.harts := by simp only [State.report, State.emit_harts, State.aer_harts]
@[simp] theorem State.report_kvc (s : State) (f : Nat) (e : AerErr) (c : ErrClass) : (s.report f e c).kvc = s.kvc := by simp only [State.report, State.emit_kvc, State.aer_kvc]
@[simp] theorem State.report_boot (s : State) (f : Nat) (e : AerErr) (c : ErrClass) : (s.report f e c).boot = s.boot := by simp only [State.report, State.emit_boot, State.aer_boot]
@[simp] theorem State.report_otp (s : State) (f : Nat) (e : AerErr) (c : ErrClass) : (s.report f e c).otp = s.otp := by simp only [State.report, State.emit_otp, State.aer_otp]
@[simp] theorem State.report_cyc (s : State) (f : Nat) (e : AerErr) (c : ErrClass) : (s.report f e c).cyc = s.cyc := by simp only [State.report, State.emit_cyc, State.aer_cyc]
@[simp] theorem State.report_tru (s : State) (f : Nat) (e : AerErr) (c : ErrClass) : (s.report f e c).tru = s.tru := by simp only [State.report, State.emit_tru, State.aer_tru]
@[simp] theorem State.report_pmc (s : State) (f : Nat) (e : AerErr) (c : ErrClass) : (s.report f e c).pmc = s.pmc := by simp only [State.report, State.emit_pmc, State.aer_pmc]
@[simp] theorem State.report_tdm (s : State) (f : Nat) (e : AerErr) (c : ErrClass) : (s.report f e c).tdm = s.tdm := by simp only [State.report, State.emit_tdm, State.aer_tdm]
@[simp] theorem State.report_thm (s : State) (f : Nat) (e : AerErr) (c : ErrClass) : (s.report f e c).thm = s.thm := by simp only [State.report, State.emit_thm, State.aer_thm]
@[simp] theorem State.report_aon (s : State) (f : Nat) (e : AerErr) (c : ErrClass) : (s.report f e c).aon = s.aon := by simp only [State.report, State.emit_aon, State.aer_aon]
@[simp] theorem State.report_led (s : State) (f : Nat) (e : AerErr) (c : ErrClass) : (s.report f e c).led = s.led := by simp only [State.report, State.emit_led, State.aer_led]

@[simp] theorem State.ierrLog_pending (s : State) (src die cluster code loc : Nat) : (s.ierrLog src die cluster code loc).pending = s.pending := by
  simp only [State.ierrLog]; split
  · simp only [State.setFld_pending]
  · rw [State.report_pending]; split <;> simp only [State.setFld_pending, State.setReg_pending]
@[simp] theorem State.ierrLog_draws (s : State) (src die cluster code loc : Nat) : (s.ierrLog src die cluster code loc).draws = s.draws := by
  simp only [State.ierrLog]; split
  · simp only [State.setFld_draws]
  · rw [State.report_draws]; split <;> simp only [State.setFld_draws, State.setReg_draws]
@[simp] theorem State.ierrLog_hold (s : State) (src die cluster code loc : Nat) : (s.ierrLog src die cluster code loc).hold = s.hold := by
  simp only [State.ierrLog]; split
  · simp only [State.setFld_hold]
  · rw [State.report_hold]; split <;> simp only [State.setFld_hold, State.setReg_hold]
@[simp] theorem State.ierrLog_written (s : State) (src die cluster code loc : Nat) : (s.ierrLog src die cluster code loc).written = s.written := by
  simp only [State.ierrLog]; split
  · simp only [State.setFld_written]
  · rw [State.report_written]; split <;> simp only [State.setFld_written, State.setReg_written]
@[simp] theorem State.ierrLog_pmcIn (s : State) (src die cluster code loc : Nat) : (s.ierrLog src die cluster code loc).pmcIn = s.pmcIn := by
  simp only [State.ierrLog]; split
  · simp only [State.setFld_pmcIn]
  · rw [State.report_pmcIn]; split <;> simp only [State.setFld_pmcIn, State.setReg_pmcIn]
@[simp] theorem State.ierrLog_die (s : State) (src die cluster code loc : Nat) : (s.ierrLog src die cluster code loc).die = s.die := by
  simp only [State.ierrLog]; split
  · simp only [State.setFld_die]
  · rw [State.report_die]; split <;> simp only [State.setFld_die, State.setReg_die]
@[simp] theorem State.ierrLog_time (s : State) (src die cluster code loc : Nat) : (s.ierrLog src die cluster code loc).time = s.time := by
  simp only [State.ierrLog]; split
  · simp only [State.setFld_time]
  · rw [State.report_time]; split <;> simp only [State.setFld_time, State.setReg_time]
@[simp] theorem State.ierrLog_rings (s : State) (src die cluster code loc : Nat) : (s.ierrLog src die cluster code loc).rings = s.rings := by
  simp only [State.ierrLog]; split
  · simp only [State.setFld_rings]
  · rw [State.report_rings]; split <;> simp only [State.setFld_rings, State.setReg_rings]
@[simp] theorem State.ierrLog_evLost (s : State) (src die cluster code loc : Nat) : (s.ierrLog src die cluster code loc).evLost = s.evLost := by
  simp only [State.ierrLog]; split
  · simp only [State.setFld_evLost]
  · rw [State.report_evLost]; split <;> simp only [State.setFld_evLost, State.setReg_evLost]
@[simp] theorem State.ierrLog_ram (s : State) (src die cluster code loc : Nat) : (s.ierrLog src die cluster code loc).ram = s.ram := by
  simp only [State.ierrLog]; split
  · simp only [State.setFld_ram]
  · rw [State.report_ram]; split <;> simp only [State.setFld_ram, State.setReg_ram]
@[simp] theorem State.ierrLog_tab (s : State) (src die cluster code loc : Nat) : (s.ierrLog src die cluster code loc).tab = s.tab := by
  simp only [State.ierrLog]; split
  · simp only [State.setFld_tab]
  · rw [State.report_tab]; split <;> simp only [State.setFld_tab, State.setReg_tab]
@[simp] theorem State.ierrLog_lrn (s : State) (src die cluster code loc : Nat) : (s.ierrLog src die cluster code loc).lrn = s.lrn := by
  simp only [State.ierrLog]; split
  · simp only [State.setFld_lrn]
  · rw [State.report_lrn]; split <;> simp only [State.setFld_lrn, State.setReg_lrn]
@[simp] theorem State.ierrLog_acl (s : State) (src die cluster code loc : Nat) : (s.ierrLog src die cluster code loc).acl = s.acl := by
  simp only [State.ierrLog]; split
  · simp only [State.setFld_acl]
  · rw [State.report_acl]; split <;> simp only [State.setFld_acl, State.setReg_acl]
@[simp] theorem State.ierrLog_pat (s : State) (src die cluster code loc : Nat) : (s.ierrLog src die cluster code loc).pat = s.pat := by
  simp only [State.ierrLog]; split
  · simp only [State.setFld_pat]
  · rw [State.report_pat]; split <;> simp only [State.setFld_pat, State.setReg_pat]
@[simp] theorem State.ierrLog_icr (s : State) (src die cluster code loc : Nat) : (s.ierrLog src die cluster code loc).icr = s.icr := by
  simp only [State.ierrLog]; split
  · simp only [State.setFld_icr]
  · rw [State.report_icr]; split <;> simp only [State.setFld_icr, State.setReg_icr]
@[simp] theorem State.ierrLog_ing (s : State) (src die cluster code loc : Nat) : (s.ierrLog src die cluster code loc).ing = s.ing := by
  simp only [State.ierrLog]; split
  · simp only [State.setFld_ing]
  · rw [State.report_ing]; split <;> simp only [State.setFld_ing, State.setReg_ing]
@[simp] theorem State.ierrLog_port (s : State) (src die cluster code loc : Nat) : (s.ierrLog src die cluster code loc).port = s.port := by
  simp only [State.ierrLog]; split
  · simp only [State.setFld_port]
  · rw [State.report_port]; split <;> simp only [State.setFld_port, State.setReg_port]
@[simp] theorem State.ierrLog_otn (s : State) (src die cluster code loc : Nat) : (s.ierrLog src die cluster code loc).otn = s.otn := by
  simp only [State.ierrLog]; split
  · simp only [State.setFld_otn]
  · rw [State.report_otn]; split <;> simp only [State.setFld_otn, State.setReg_otn]
@[simp] theorem State.ierrLog_fab (s : State) (src die cluster code loc : Nat) : (s.ierrLog src die cluster code loc).fab = s.fab := by
  simp only [State.ierrLog]; split
  · simp only [State.setFld_fab]
  · rw [State.report_fab]; split <;> simp only [State.setFld_fab, State.setReg_fab]
@[simp] theorem State.ierrLog_tm (s : State) (src die cluster code loc : Nat) : (s.ierrLog src die cluster code loc).tm = s.tm := by
  simp only [State.ierrLog]; split
  · simp only [State.setFld_tm]
  · rw [State.report_tm]; split <;> simp only [State.setFld_tm, State.setReg_tm]
@[simp] theorem State.ierrLog_sch (s : State) (src die cluster code loc : Nat) : (s.ierrLog src die cluster code loc).sch = s.sch := by
  simp only [State.ierrLog]; split
  · simp only [State.setFld_sch]
  · rw [State.report_sch]; split <;> simp only [State.setFld_sch, State.setReg_sch]
@[simp] theorem State.ierrLog_eg (s : State) (src die cluster code loc : Nat) : (s.ierrLog src die cluster code loc).eg = s.eg := by
  simp only [State.ierrLog]; split
  · simp only [State.setFld_eg]
  · rw [State.report_eg]; split <;> simp only [State.setFld_eg, State.setReg_eg]
@[simp] theorem State.ierrLog_mem (s : State) (src die cluster code loc : Nat) : (s.ierrLog src die cluster code loc).mem = s.mem := by
  simp only [State.ierrLog]; split
  · simp only [State.setFld_mem]
  · rw [State.report_mem]; split <;> simp only [State.setFld_mem, State.setReg_mem]
@[simp] theorem State.ierrLog_turnIn (s : State) (src die cluster code loc : Nat) : (s.ierrLog src die cluster code loc).turnIn = s.turnIn := by
  simp only [State.ierrLog]; split
  · simp only [State.setFld_turnIn]
  · rw [State.report_turnIn]; split <;> simp only [State.setFld_turnIn, State.setReg_turnIn]
@[simp] theorem State.ierrLog_turnOut (s : State) (src die cluster code loc : Nat) : (s.ierrLog src die cluster code loc).turnOut = s.turnOut := by
  simp only [State.ierrLog]; split
  · simp only [State.setFld_turnOut]
  · rw [State.report_turnOut]; split <;> simp only [State.setFld_turnOut, State.setReg_turnOut]
@[simp] theorem State.ierrLog_harts (s : State) (src die cluster code loc : Nat) : (s.ierrLog src die cluster code loc).harts = s.harts := by
  simp only [State.ierrLog]; split
  · simp only [State.setFld_harts]
  · rw [State.report_harts]; split <;> simp only [State.setFld_harts, State.setReg_harts]
@[simp] theorem State.ierrLog_kvc (s : State) (src die cluster code loc : Nat) : (s.ierrLog src die cluster code loc).kvc = s.kvc := by
  simp only [State.ierrLog]; split
  · simp only [State.setFld_kvc]
  · rw [State.report_kvc]; split <;> simp only [State.setFld_kvc, State.setReg_kvc]
@[simp] theorem State.ierrLog_boot (s : State) (src die cluster code loc : Nat) : (s.ierrLog src die cluster code loc).boot = s.boot := by
  simp only [State.ierrLog]; split
  · simp only [State.setFld_boot]
  · rw [State.report_boot]; split <;> simp only [State.setFld_boot, State.setReg_boot]
@[simp] theorem State.ierrLog_otp (s : State) (src die cluster code loc : Nat) : (s.ierrLog src die cluster code loc).otp = s.otp := by
  simp only [State.ierrLog]; split
  · simp only [State.setFld_otp]
  · rw [State.report_otp]; split <;> simp only [State.setFld_otp, State.setReg_otp]
@[simp] theorem State.ierrLog_cyc (s : State) (src die cluster code loc : Nat) : (s.ierrLog src die cluster code loc).cyc = s.cyc := by
  simp only [State.ierrLog]; split
  · simp only [State.setFld_cyc]
  · rw [State.report_cyc]; split <;> simp only [State.setFld_cyc, State.setReg_cyc]
@[simp] theorem State.ierrLog_tru (s : State) (src die cluster code loc : Nat) : (s.ierrLog src die cluster code loc).tru = s.tru := by
  simp only [State.ierrLog]; split
  · simp only [State.setFld_tru]
  · rw [State.report_tru]; split <;> simp only [State.setFld_tru, State.setReg_tru]
@[simp] theorem State.ierrLog_pmc (s : State) (src die cluster code loc : Nat) : (s.ierrLog src die cluster code loc).pmc = s.pmc := by
  simp only [State.ierrLog]; split
  · simp only [State.setFld_pmc]
  · rw [State.report_pmc]; split <;> simp only [State.setFld_pmc, State.setReg_pmc]
@[simp] theorem State.ierrLog_tdm (s : State) (src die cluster code loc : Nat) : (s.ierrLog src die cluster code loc).tdm = s.tdm := by
  simp only [State.ierrLog]; split
  · simp only [State.setFld_tdm]
  · rw [State.report_tdm]; split <;> simp only [State.setFld_tdm, State.setReg_tdm]
@[simp] theorem State.ierrLog_thm (s : State) (src die cluster code loc : Nat) : (s.ierrLog src die cluster code loc).thm = s.thm := by
  simp only [State.ierrLog]; split
  · simp only [State.setFld_thm]
  · rw [State.report_thm]; split <;> simp only [State.setFld_thm, State.setReg_thm]
@[simp] theorem State.ierrLog_aon (s : State) (src die cluster code loc : Nat) : (s.ierrLog src die cluster code loc).aon = s.aon := by
  simp only [State.ierrLog]; split
  · simp only [State.setFld_aon]
  · rw [State.report_aon]; split <;> simp only [State.setFld_aon, State.setReg_aon]
@[simp] theorem State.ierrLog_led (s : State) (src die cluster code loc : Nat) : (s.ierrLog src die cluster code loc).led = s.led := by
  simp only [State.ierrLog]; split
  · simp only [State.setFld_led]
  · rw [State.report_led]; split <;> simp only [State.setFld_led, State.setReg_led]

@[simp] theorem State.ierr_pending (s : State) (src die cluster loc : Nat) : (s.ierr src die cluster loc).pending = s.pending := by simp only [State.ierr]; split <;> simp only [State.ownerEvent_pending, State.ierrLog_pending]
@[simp] theorem State.ierr_draws (s : State) (src die cluster loc : Nat) : (s.ierr src die cluster loc).draws = s.draws := by simp only [State.ierr]; split <;> simp only [State.ownerEvent_draws, State.ierrLog_draws]
@[simp] theorem State.ierr_hold (s : State) (src die cluster loc : Nat) : (s.ierr src die cluster loc).hold = s.hold := by simp only [State.ierr]; split <;> simp only [State.ownerEvent_hold, State.ierrLog_hold]
@[simp] theorem State.ierr_written (s : State) (src die cluster loc : Nat) : (s.ierr src die cluster loc).written = s.written := by simp only [State.ierr]; split <;> simp only [State.ownerEvent_written, State.ierrLog_written]
@[simp] theorem State.ierr_die (s : State) (src die cluster loc : Nat) : (s.ierr src die cluster loc).die = s.die := by simp only [State.ierr]; split <;> simp only [State.ownerEvent_die, State.ierrLog_die]
@[simp] theorem State.ierr_time (s : State) (src die cluster loc : Nat) : (s.ierr src die cluster loc).time = s.time := by simp only [State.ierr]; split <;> simp only [State.ownerEvent_time, State.ierrLog_time]
@[simp] theorem State.ierr_tab (s : State) (src die cluster loc : Nat) : (s.ierr src die cluster loc).tab = s.tab := by simp only [State.ierr]; split <;> simp only [State.ownerEvent_tab, State.ierrLog_tab]
@[simp] theorem State.ierr_lrn (s : State) (src die cluster loc : Nat) : (s.ierr src die cluster loc).lrn = s.lrn := by simp only [State.ierr]; split <;> simp only [State.ownerEvent_lrn, State.ierrLog_lrn]
@[simp] theorem State.ierr_acl (s : State) (src die cluster loc : Nat) : (s.ierr src die cluster loc).acl = s.acl := by simp only [State.ierr]; split <;> simp only [State.ownerEvent_acl, State.ierrLog_acl]
@[simp] theorem State.ierr_pat (s : State) (src die cluster loc : Nat) : (s.ierr src die cluster loc).pat = s.pat := by simp only [State.ierr]; split <;> simp only [State.ownerEvent_pat, State.ierrLog_pat]
@[simp] theorem State.ierr_icr (s : State) (src die cluster loc : Nat) : (s.ierr src die cluster loc).icr = s.icr := by simp only [State.ierr]; split <;> simp only [State.ownerEvent_icr, State.ierrLog_icr]
@[simp] theorem State.ierr_ing (s : State) (src die cluster loc : Nat) : (s.ierr src die cluster loc).ing = s.ing := by simp only [State.ierr]; split <;> simp only [State.ownerEvent_ing, State.ierrLog_ing]
@[simp] theorem State.ierr_port (s : State) (src die cluster loc : Nat) : (s.ierr src die cluster loc).port = s.port := by simp only [State.ierr]; split <;> simp only [State.ownerEvent_port, State.ierrLog_port]
@[simp] theorem State.ierr_otn (s : State) (src die cluster loc : Nat) : (s.ierr src die cluster loc).otn = s.otn := by simp only [State.ierr]; split <;> simp only [State.ownerEvent_otn, State.ierrLog_otn]
@[simp] theorem State.ierr_fab (s : State) (src die cluster loc : Nat) : (s.ierr src die cluster loc).fab = s.fab := by simp only [State.ierr]; split <;> simp only [State.ownerEvent_fab, State.ierrLog_fab]
@[simp] theorem State.ierr_tm (s : State) (src die cluster loc : Nat) : (s.ierr src die cluster loc).tm = s.tm := by simp only [State.ierr]; split <;> simp only [State.ownerEvent_tm, State.ierrLog_tm]
@[simp] theorem State.ierr_sch (s : State) (src die cluster loc : Nat) : (s.ierr src die cluster loc).sch = s.sch := by simp only [State.ierr]; split <;> simp only [State.ownerEvent_sch, State.ierrLog_sch]
@[simp] theorem State.ierr_eg (s : State) (src die cluster loc : Nat) : (s.ierr src die cluster loc).eg = s.eg := by simp only [State.ierr]; split <;> simp only [State.ownerEvent_eg, State.ierrLog_eg]
@[simp] theorem State.ierr_mem (s : State) (src die cluster loc : Nat) : (s.ierr src die cluster loc).mem = s.mem := by simp only [State.ierr]; split <;> simp only [State.ownerEvent_mem, State.ierrLog_mem]
@[simp] theorem State.ierr_turnIn (s : State) (src die cluster loc : Nat) : (s.ierr src die cluster loc).turnIn = s.turnIn := by simp only [State.ierr]; split <;> simp only [State.ownerEvent_turnIn, State.ierrLog_turnIn]
@[simp] theorem State.ierr_turnOut (s : State) (src die cluster loc : Nat) : (s.ierr src die cluster loc).turnOut = s.turnOut := by simp only [State.ierr]; split <;> simp only [State.ownerEvent_turnOut, State.ierrLog_turnOut]
@[simp] theorem State.ierr_harts (s : State) (src die cluster loc : Nat) : (s.ierr src die cluster loc).harts = s.harts := by simp only [State.ierr]; split <;> simp only [State.ownerEvent_harts, State.ierrLog_harts]
@[simp] theorem State.ierr_kvc (s : State) (src die cluster loc : Nat) : (s.ierr src die cluster loc).kvc = s.kvc := by simp only [State.ierr]; split <;> simp only [State.ownerEvent_kvc, State.ierrLog_kvc]
@[simp] theorem State.ierr_boot (s : State) (src die cluster loc : Nat) : (s.ierr src die cluster loc).boot = s.boot := by simp only [State.ierr]; split <;> simp only [State.ownerEvent_boot, State.ierrLog_boot]
@[simp] theorem State.ierr_otp (s : State) (src die cluster loc : Nat) : (s.ierr src die cluster loc).otp = s.otp := by simp only [State.ierr]; split <;> simp only [State.ownerEvent_otp, State.ierrLog_otp]
@[simp] theorem State.ierr_cyc (s : State) (src die cluster loc : Nat) : (s.ierr src die cluster loc).cyc = s.cyc := by simp only [State.ierr]; split <;> simp only [State.ownerEvent_cyc, State.ierrLog_cyc]
@[simp] theorem State.ierr_tru (s : State) (src die cluster loc : Nat) : (s.ierr src die cluster loc).tru = s.tru := by simp only [State.ierr]; split <;> simp only [State.ownerEvent_tru, State.ierrLog_tru]
@[simp] theorem State.ierr_pmc (s : State) (src die cluster loc : Nat) : (s.ierr src die cluster loc).pmc = s.pmc := by simp only [State.ierr]; split <;> simp only [State.ownerEvent_pmc, State.ierrLog_pmc]
@[simp] theorem State.ierr_tdm (s : State) (src die cluster loc : Nat) : (s.ierr src die cluster loc).tdm = s.tdm := by simp only [State.ierr]; split <;> simp only [State.ownerEvent_tdm, State.ierrLog_tdm]
@[simp] theorem State.ierr_thm (s : State) (src die cluster loc : Nat) : (s.ierr src die cluster loc).thm = s.thm := by simp only [State.ierr]; split <;> simp only [State.ownerEvent_thm, State.ierrLog_thm]
@[simp] theorem State.ierr_aon (s : State) (src die cluster loc : Nat) : (s.ierr src die cluster loc).aon = s.aon := by simp only [State.ierr]; split <;> simp only [State.ownerEvent_aon, State.ierrLog_aon]
@[simp] theorem State.ierr_led (s : State) (src die cluster loc : Nat) : (s.ierr src die cluster loc).led = s.led := by simp only [State.ierr]; split <;> simp only [State.ownerEvent_led, State.ierrLog_led]

@[simp] theorem State.setCap_pending (s : State) (d c : Nat) (w : CapWord) : (s.setCap d c w).pending = s.pending := by simp only [State.setCap]; split <;> simp only [State.ownerEvent_pending, State.ierrLog_pending, State.setReg_pending]
@[simp] theorem State.setCap_draws (s : State) (d c : Nat) (w : CapWord) : (s.setCap d c w).draws = s.draws := by simp only [State.setCap]; split <;> simp only [State.ownerEvent_draws, State.ierrLog_draws, State.setReg_draws]
@[simp] theorem State.setCap_hold (s : State) (d c : Nat) (w : CapWord) : (s.setCap d c w).hold = s.hold := by simp only [State.setCap]; split <;> simp only [State.ownerEvent_hold, State.ierrLog_hold, State.setReg_hold]
@[simp] theorem State.setCap_written (s : State) (d c : Nat) (w : CapWord) : (s.setCap d c w).written = s.written := by simp only [State.setCap]; split <;> simp only [State.ownerEvent_written, State.ierrLog_written, State.setReg_written]
@[simp] theorem State.setCap_die (s : State) (d c : Nat) (w : CapWord) : (s.setCap d c w).die = s.die := by simp only [State.setCap]; split <;> simp only [State.ownerEvent_die, State.ierrLog_die, State.setReg_die]
@[simp] theorem State.setCap_time (s : State) (d c : Nat) (w : CapWord) : (s.setCap d c w).time = s.time := by simp only [State.setCap]; split <;> simp only [State.ownerEvent_time, State.ierrLog_time, State.setReg_time]
@[simp] theorem State.setCap_tab (s : State) (d c : Nat) (w : CapWord) : (s.setCap d c w).tab = s.tab := by simp only [State.setCap]; split <;> simp only [State.ownerEvent_tab, State.ierrLog_tab, State.setReg_tab]
@[simp] theorem State.setCap_lrn (s : State) (d c : Nat) (w : CapWord) : (s.setCap d c w).lrn = s.lrn := by simp only [State.setCap]; split <;> simp only [State.ownerEvent_lrn, State.ierrLog_lrn, State.setReg_lrn]
@[simp] theorem State.setCap_acl (s : State) (d c : Nat) (w : CapWord) : (s.setCap d c w).acl = s.acl := by simp only [State.setCap]; split <;> simp only [State.ownerEvent_acl, State.ierrLog_acl, State.setReg_acl]
@[simp] theorem State.setCap_pat (s : State) (d c : Nat) (w : CapWord) : (s.setCap d c w).pat = s.pat := by simp only [State.setCap]; split <;> simp only [State.ownerEvent_pat, State.ierrLog_pat, State.setReg_pat]
@[simp] theorem State.setCap_icr (s : State) (d c : Nat) (w : CapWord) : (s.setCap d c w).icr = s.icr := by simp only [State.setCap]; split <;> simp only [State.ownerEvent_icr, State.ierrLog_icr, State.setReg_icr]
@[simp] theorem State.setCap_ing (s : State) (d c : Nat) (w : CapWord) : (s.setCap d c w).ing = s.ing := by simp only [State.setCap]; split <;> simp only [State.ownerEvent_ing, State.ierrLog_ing, State.setReg_ing]
@[simp] theorem State.setCap_port (s : State) (d c : Nat) (w : CapWord) : (s.setCap d c w).port = s.port := by simp only [State.setCap]; split <;> simp only [State.ownerEvent_port, State.ierrLog_port, State.setReg_port]
@[simp] theorem State.setCap_otn (s : State) (d c : Nat) (w : CapWord) : (s.setCap d c w).otn = s.otn := by simp only [State.setCap]; split <;> simp only [State.ownerEvent_otn, State.ierrLog_otn, State.setReg_otn]
@[simp] theorem State.setCap_fab (s : State) (d c : Nat) (w : CapWord) : (s.setCap d c w).fab = s.fab := by simp only [State.setCap]; split <;> simp only [State.ownerEvent_fab, State.ierrLog_fab, State.setReg_fab]
@[simp] theorem State.setCap_tm (s : State) (d c : Nat) (w : CapWord) : (s.setCap d c w).tm = s.tm := by simp only [State.setCap]; split <;> simp only [State.ownerEvent_tm, State.ierrLog_tm, State.setReg_tm]
@[simp] theorem State.setCap_sch (s : State) (d c : Nat) (w : CapWord) : (s.setCap d c w).sch = s.sch := by simp only [State.setCap]; split <;> simp only [State.ownerEvent_sch, State.ierrLog_sch, State.setReg_sch]
@[simp] theorem State.setCap_eg (s : State) (d c : Nat) (w : CapWord) : (s.setCap d c w).eg = s.eg := by simp only [State.setCap]; split <;> simp only [State.ownerEvent_eg, State.ierrLog_eg, State.setReg_eg]
@[simp] theorem State.setCap_mem (s : State) (d c : Nat) (w : CapWord) : (s.setCap d c w).mem = s.mem := by simp only [State.setCap]; split <;> simp only [State.ownerEvent_mem, State.ierrLog_mem, State.setReg_mem]
@[simp] theorem State.setCap_turnIn (s : State) (d c : Nat) (w : CapWord) : (s.setCap d c w).turnIn = s.turnIn := by simp only [State.setCap]; split <;> simp only [State.ownerEvent_turnIn, State.ierrLog_turnIn, State.setReg_turnIn]
@[simp] theorem State.setCap_turnOut (s : State) (d c : Nat) (w : CapWord) : (s.setCap d c w).turnOut = s.turnOut := by simp only [State.setCap]; split <;> simp only [State.ownerEvent_turnOut, State.ierrLog_turnOut, State.setReg_turnOut]
@[simp] theorem State.setCap_harts (s : State) (d c : Nat) (w : CapWord) : (s.setCap d c w).harts = s.harts := by simp only [State.setCap]; split <;> simp only [State.ownerEvent_harts, State.ierrLog_harts, State.setReg_harts]
@[simp] theorem State.setCap_kvc (s : State) (d c : Nat) (w : CapWord) : (s.setCap d c w).kvc = s.kvc := by simp only [State.setCap]; split <;> simp only [State.ownerEvent_kvc, State.ierrLog_kvc, State.setReg_kvc]
@[simp] theorem State.setCap_boot (s : State) (d c : Nat) (w : CapWord) : (s.setCap d c w).boot = s.boot := by simp only [State.setCap]; split <;> simp only [State.ownerEvent_boot, State.ierrLog_boot, State.setReg_boot]
@[simp] theorem State.setCap_otp (s : State) (d c : Nat) (w : CapWord) : (s.setCap d c w).otp = s.otp := by simp only [State.setCap]; split <;> simp only [State.ownerEvent_otp, State.ierrLog_otp, State.setReg_otp]
@[simp] theorem State.setCap_cyc (s : State) (d c : Nat) (w : CapWord) : (s.setCap d c w).cyc = s.cyc := by simp only [State.setCap]; split <;> simp only [State.ownerEvent_cyc, State.ierrLog_cyc, State.setReg_cyc]
@[simp] theorem State.setCap_tru (s : State) (d c : Nat) (w : CapWord) : (s.setCap d c w).tru = s.tru := by simp only [State.setCap]; split <;> simp only [State.ownerEvent_tru, State.ierrLog_tru, State.setReg_tru]
@[simp] theorem State.setCap_pmc (s : State) (d c : Nat) (w : CapWord) : (s.setCap d c w).pmc = s.pmc := by simp only [State.setCap]; split <;> simp only [State.ownerEvent_pmc, State.ierrLog_pmc, State.setReg_pmc]
@[simp] theorem State.setCap_tdm (s : State) (d c : Nat) (w : CapWord) : (s.setCap d c w).tdm = s.tdm := by simp only [State.setCap]; split <;> simp only [State.ownerEvent_tdm, State.ierrLog_tdm, State.setReg_tdm]
@[simp] theorem State.setCap_thm (s : State) (d c : Nat) (w : CapWord) : (s.setCap d c w).thm = s.thm := by simp only [State.setCap]; split <;> simp only [State.ownerEvent_thm, State.ierrLog_thm, State.setReg_thm]
@[simp] theorem State.setCap_aon (s : State) (d c : Nat) (w : CapWord) : (s.setCap d c w).aon = s.aon := by simp only [State.setCap]; split <;> simp only [State.ownerEvent_aon, State.ierrLog_aon, State.setReg_aon]
@[simp] theorem State.setCap_led (s : State) (d c : Nat) (w : CapWord) : (s.setCap d c w).led = s.led := by simp only [State.setCap]; split <;> simp only [State.ownerEvent_led, State.ierrLog_led, State.setReg_led]

@[simp] theorem State.modCap_pending (s : State) (d c : Nat) (f : CapWord → CapWord) : (s.modCap d c f).pending = s.pending := State.setCap_pending _ _ _ _
@[simp] theorem State.modCap_draws (s : State) (d c : Nat) (f : CapWord → CapWord) : (s.modCap d c f).draws = s.draws := State.setCap_draws _ _ _ _
@[simp] theorem State.modCap_hold (s : State) (d c : Nat) (f : CapWord → CapWord) : (s.modCap d c f).hold = s.hold := State.setCap_hold _ _ _ _
@[simp] theorem State.modCap_written (s : State) (d c : Nat) (f : CapWord → CapWord) : (s.modCap d c f).written = s.written := State.setCap_written _ _ _ _
@[simp] theorem State.modCap_die (s : State) (d c : Nat) (f : CapWord → CapWord) : (s.modCap d c f).die = s.die := State.setCap_die _ _ _ _
@[simp] theorem State.modCap_time (s : State) (d c : Nat) (f : CapWord → CapWord) : (s.modCap d c f).time = s.time := State.setCap_time _ _ _ _
@[simp] theorem State.modCap_tab (s : State) (d c : Nat) (f : CapWord → CapWord) : (s.modCap d c f).tab = s.tab := State.setCap_tab _ _ _ _
@[simp] theorem State.modCap_lrn (s : State) (d c : Nat) (f : CapWord → CapWord) : (s.modCap d c f).lrn = s.lrn := State.setCap_lrn _ _ _ _
@[simp] theorem State.modCap_acl (s : State) (d c : Nat) (f : CapWord → CapWord) : (s.modCap d c f).acl = s.acl := State.setCap_acl _ _ _ _
@[simp] theorem State.modCap_pat (s : State) (d c : Nat) (f : CapWord → CapWord) : (s.modCap d c f).pat = s.pat := State.setCap_pat _ _ _ _
@[simp] theorem State.modCap_icr (s : State) (d c : Nat) (f : CapWord → CapWord) : (s.modCap d c f).icr = s.icr := State.setCap_icr _ _ _ _
@[simp] theorem State.modCap_ing (s : State) (d c : Nat) (f : CapWord → CapWord) : (s.modCap d c f).ing = s.ing := State.setCap_ing _ _ _ _
@[simp] theorem State.modCap_port (s : State) (d c : Nat) (f : CapWord → CapWord) : (s.modCap d c f).port = s.port := State.setCap_port _ _ _ _
@[simp] theorem State.modCap_otn (s : State) (d c : Nat) (f : CapWord → CapWord) : (s.modCap d c f).otn = s.otn := State.setCap_otn _ _ _ _
@[simp] theorem State.modCap_fab (s : State) (d c : Nat) (f : CapWord → CapWord) : (s.modCap d c f).fab = s.fab := State.setCap_fab _ _ _ _
@[simp] theorem State.modCap_tm (s : State) (d c : Nat) (f : CapWord → CapWord) : (s.modCap d c f).tm = s.tm := State.setCap_tm _ _ _ _
@[simp] theorem State.modCap_sch (s : State) (d c : Nat) (f : CapWord → CapWord) : (s.modCap d c f).sch = s.sch := State.setCap_sch _ _ _ _
@[simp] theorem State.modCap_eg (s : State) (d c : Nat) (f : CapWord → CapWord) : (s.modCap d c f).eg = s.eg := State.setCap_eg _ _ _ _
@[simp] theorem State.modCap_mem (s : State) (d c : Nat) (f : CapWord → CapWord) : (s.modCap d c f).mem = s.mem := State.setCap_mem _ _ _ _
@[simp] theorem State.modCap_turnIn (s : State) (d c : Nat) (f : CapWord → CapWord) : (s.modCap d c f).turnIn = s.turnIn := State.setCap_turnIn _ _ _ _
@[simp] theorem State.modCap_turnOut (s : State) (d c : Nat) (f : CapWord → CapWord) : (s.modCap d c f).turnOut = s.turnOut := State.setCap_turnOut _ _ _ _
@[simp] theorem State.modCap_harts (s : State) (d c : Nat) (f : CapWord → CapWord) : (s.modCap d c f).harts = s.harts := State.setCap_harts _ _ _ _
@[simp] theorem State.modCap_kvc (s : State) (d c : Nat) (f : CapWord → CapWord) : (s.modCap d c f).kvc = s.kvc := State.setCap_kvc _ _ _ _
@[simp] theorem State.modCap_boot (s : State) (d c : Nat) (f : CapWord → CapWord) : (s.modCap d c f).boot = s.boot := State.setCap_boot _ _ _ _
@[simp] theorem State.modCap_otp (s : State) (d c : Nat) (f : CapWord → CapWord) : (s.modCap d c f).otp = s.otp := State.setCap_otp _ _ _ _
@[simp] theorem State.modCap_cyc (s : State) (d c : Nat) (f : CapWord → CapWord) : (s.modCap d c f).cyc = s.cyc := State.setCap_cyc _ _ _ _
@[simp] theorem State.modCap_tru (s : State) (d c : Nat) (f : CapWord → CapWord) : (s.modCap d c f).tru = s.tru := State.setCap_tru _ _ _ _
@[simp] theorem State.modCap_pmc (s : State) (d c : Nat) (f : CapWord → CapWord) : (s.modCap d c f).pmc = s.pmc := State.setCap_pmc _ _ _ _
@[simp] theorem State.modCap_tdm (s : State) (d c : Nat) (f : CapWord → CapWord) : (s.modCap d c f).tdm = s.tdm := State.setCap_tdm _ _ _ _
@[simp] theorem State.modCap_thm (s : State) (d c : Nat) (f : CapWord → CapWord) : (s.modCap d c f).thm = s.thm := State.setCap_thm _ _ _ _
@[simp] theorem State.modCap_aon (s : State) (d c : Nat) (f : CapWord → CapWord) : (s.modCap d c f).aon = s.aon := State.setCap_aon _ _ _ _
@[simp] theorem State.modCap_led (s : State) (d c : Nat) (f : CapWord → CapWord) : (s.modCap d c f).led = s.led := State.setCap_led _ _ _ _

@[simp] theorem State.logRepair_pending (s : State) (r k : Nat) (soft : Bool) (die cluster e : Nat) : (s.logRepair r k soft die cluster e).pending = s.pending := by simp only [State.logRepair]; split <;> simp only [State.setReg_pending, State.setFld_pending, State.setFlag_pending]
@[simp] theorem State.logRepair_draws (s : State) (r k : Nat) (soft : Bool) (die cluster e : Nat) : (s.logRepair r k soft die cluster e).draws = s.draws := by simp only [State.logRepair]; split <;> simp only [State.setReg_draws, State.setFld_draws, State.setFlag_draws]
@[simp] theorem State.logRepair_out (s : State) (r k : Nat) (soft : Bool) (die cluster e : Nat) : (s.logRepair r k soft die cluster e).out = s.out := by simp only [State.logRepair]; split <;> simp only [State.setReg_out, State.setFld_out, State.setFlag_out]
@[simp] theorem State.logRepair_hold (s : State) (r k : Nat) (soft : Bool) (die cluster e : Nat) : (s.logRepair r k soft die cluster e).hold = s.hold := by simp only [State.logRepair]; split <;> simp only [State.setReg_hold, State.setFld_hold, State.setFlag_hold]
@[simp] theorem State.logRepair_written (s : State) (r k : Nat) (soft : Bool) (die cluster e : Nat) : (s.logRepair r k soft die cluster e).written = s.written := by simp only [State.logRepair]; split <;> simp only [State.setReg_written, State.setFld_written, State.setFlag_written]
@[simp] theorem State.logRepair_pmcIn (s : State) (r k : Nat) (soft : Bool) (die cluster e : Nat) : (s.logRepair r k soft die cluster e).pmcIn = s.pmcIn := by simp only [State.logRepair]; split <;> simp only [State.setReg_pmcIn, State.setFld_pmcIn, State.setFlag_pmcIn]
@[simp] theorem State.logRepair_die (s : State) (r k : Nat) (soft : Bool) (die cluster e : Nat) : (s.logRepair r k soft die cluster e).die = s.die := by simp only [State.logRepair]; split <;> simp only [State.setReg_die, State.setFld_die, State.setFlag_die]
@[simp] theorem State.logRepair_time (s : State) (r k : Nat) (soft : Bool) (die cluster e : Nat) : (s.logRepair r k soft die cluster e).time = s.time := by simp only [State.logRepair]; split <;> simp only [State.setReg_time, State.setFld_time, State.setFlag_time]
@[simp] theorem State.logRepair_hif (s : State) (r k : Nat) (soft : Bool) (die cluster e : Nat) : (s.logRepair r k soft die cluster e).hif = s.hif := by simp only [State.logRepair]; split <;> simp only [State.setReg_hif, State.setFld_hif, State.setFlag_hif]
@[simp] theorem State.logRepair_rings (s : State) (r k : Nat) (soft : Bool) (die cluster e : Nat) : (s.logRepair r k soft die cluster e).rings = s.rings := by simp only [State.logRepair]; split <;> simp only [State.setReg_rings, State.setFld_rings, State.setFlag_rings]
@[simp] theorem State.logRepair_evLost (s : State) (r k : Nat) (soft : Bool) (die cluster e : Nat) : (s.logRepair r k soft die cluster e).evLost = s.evLost := by simp only [State.logRepair]; split <;> simp only [State.setReg_evLost, State.setFld_evLost, State.setFlag_evLost]
@[simp] theorem State.logRepair_ram (s : State) (r k : Nat) (soft : Bool) (die cluster e : Nat) : (s.logRepair r k soft die cluster e).ram = s.ram := by simp only [State.logRepair]; split <;> simp only [State.setReg_ram, State.setFld_ram, State.setFlag_ram]
@[simp] theorem State.logRepair_tab (s : State) (r k : Nat) (soft : Bool) (die cluster e : Nat) : (s.logRepair r k soft die cluster e).tab = s.tab := by simp only [State.logRepair]; split <;> simp only [State.setReg_tab, State.setFld_tab, State.setFlag_tab]
@[simp] theorem State.logRepair_lrn (s : State) (r k : Nat) (soft : Bool) (die cluster e : Nat) : (s.logRepair r k soft die cluster e).lrn = s.lrn := by simp only [State.logRepair]; split <;> simp only [State.setReg_lrn, State.setFld_lrn, State.setFlag_lrn]
@[simp] theorem State.logRepair_acl (s : State) (r k : Nat) (soft : Bool) (die cluster e : Nat) : (s.logRepair r k soft die cluster e).acl = s.acl := by simp only [State.logRepair]; split <;> simp only [State.setReg_acl, State.setFld_acl, State.setFlag_acl]
@[simp] theorem State.logRepair_pat (s : State) (r k : Nat) (soft : Bool) (die cluster e : Nat) : (s.logRepair r k soft die cluster e).pat = s.pat := by simp only [State.logRepair]; split <;> simp only [State.setReg_pat, State.setFld_pat, State.setFlag_pat]
@[simp] theorem State.logRepair_icr (s : State) (r k : Nat) (soft : Bool) (die cluster e : Nat) : (s.logRepair r k soft die cluster e).icr = s.icr := by simp only [State.logRepair]; split <;> simp only [State.setReg_icr, State.setFld_icr, State.setFlag_icr]
@[simp] theorem State.logRepair_ing (s : State) (r k : Nat) (soft : Bool) (die cluster e : Nat) : (s.logRepair r k soft die cluster e).ing = s.ing := by simp only [State.logRepair]; split <;> simp only [State.setReg_ing, State.setFld_ing, State.setFlag_ing]
@[simp] theorem State.logRepair_port (s : State) (r k : Nat) (soft : Bool) (die cluster e : Nat) : (s.logRepair r k soft die cluster e).port = s.port := by simp only [State.logRepair]; split <;> simp only [State.setReg_port, State.setFld_port, State.setFlag_port]
@[simp] theorem State.logRepair_otn (s : State) (r k : Nat) (soft : Bool) (die cluster e : Nat) : (s.logRepair r k soft die cluster e).otn = s.otn := by simp only [State.logRepair]; split <;> simp only [State.setReg_otn, State.setFld_otn, State.setFlag_otn]
@[simp] theorem State.logRepair_fab (s : State) (r k : Nat) (soft : Bool) (die cluster e : Nat) : (s.logRepair r k soft die cluster e).fab = s.fab := by simp only [State.logRepair]; split <;> simp only [State.setReg_fab, State.setFld_fab, State.setFlag_fab]
@[simp] theorem State.logRepair_tm (s : State) (r k : Nat) (soft : Bool) (die cluster e : Nat) : (s.logRepair r k soft die cluster e).tm = s.tm := by simp only [State.logRepair]; split <;> simp only [State.setReg_tm, State.setFld_tm, State.setFlag_tm]
@[simp] theorem State.logRepair_sch (s : State) (r k : Nat) (soft : Bool) (die cluster e : Nat) : (s.logRepair r k soft die cluster e).sch = s.sch := by simp only [State.logRepair]; split <;> simp only [State.setReg_sch, State.setFld_sch, State.setFlag_sch]
@[simp] theorem State.logRepair_eg (s : State) (r k : Nat) (soft : Bool) (die cluster e : Nat) : (s.logRepair r k soft die cluster e).eg = s.eg := by simp only [State.logRepair]; split <;> simp only [State.setReg_eg, State.setFld_eg, State.setFlag_eg]
@[simp] theorem State.logRepair_mem (s : State) (r k : Nat) (soft : Bool) (die cluster e : Nat) : (s.logRepair r k soft die cluster e).mem = s.mem := by simp only [State.logRepair]; split <;> simp only [State.setReg_mem, State.setFld_mem, State.setFlag_mem]
@[simp] theorem State.logRepair_turnIn (s : State) (r k : Nat) (soft : Bool) (die cluster e : Nat) : (s.logRepair r k soft die cluster e).turnIn = s.turnIn := by simp only [State.logRepair]; split <;> simp only [State.setReg_turnIn, State.setFld_turnIn, State.setFlag_turnIn]
@[simp] theorem State.logRepair_turnOut (s : State) (r k : Nat) (soft : Bool) (die cluster e : Nat) : (s.logRepair r k soft die cluster e).turnOut = s.turnOut := by simp only [State.logRepair]; split <;> simp only [State.setReg_turnOut, State.setFld_turnOut, State.setFlag_turnOut]
@[simp] theorem State.logRepair_harts (s : State) (r k : Nat) (soft : Bool) (die cluster e : Nat) : (s.logRepair r k soft die cluster e).harts = s.harts := by simp only [State.logRepair]; split <;> simp only [State.setReg_harts, State.setFld_harts, State.setFlag_harts]
@[simp] theorem State.logRepair_kvc (s : State) (r k : Nat) (soft : Bool) (die cluster e : Nat) : (s.logRepair r k soft die cluster e).kvc = s.kvc := by simp only [State.logRepair]; split <;> simp only [State.setReg_kvc, State.setFld_kvc, State.setFlag_kvc]
@[simp] theorem State.logRepair_boot (s : State) (r k : Nat) (soft : Bool) (die cluster e : Nat) : (s.logRepair r k soft die cluster e).boot = s.boot := by simp only [State.logRepair]; split <;> simp only [State.setReg_boot, State.setFld_boot, State.setFlag_boot]
@[simp] theorem State.logRepair_otp (s : State) (r k : Nat) (soft : Bool) (die cluster e : Nat) : (s.logRepair r k soft die cluster e).otp = s.otp := by simp only [State.logRepair]; split <;> simp only [State.setReg_otp, State.setFld_otp, State.setFlag_otp]
@[simp] theorem State.logRepair_cyc (s : State) (r k : Nat) (soft : Bool) (die cluster e : Nat) : (s.logRepair r k soft die cluster e).cyc = s.cyc := by simp only [State.logRepair]; split <;> simp only [State.setReg_cyc, State.setFld_cyc, State.setFlag_cyc]
@[simp] theorem State.logRepair_tru (s : State) (r k : Nat) (soft : Bool) (die cluster e : Nat) : (s.logRepair r k soft die cluster e).tru = s.tru := by simp only [State.logRepair]; split <;> simp only [State.setReg_tru, State.setFld_tru, State.setFlag_tru]
@[simp] theorem State.logRepair_pmc (s : State) (r k : Nat) (soft : Bool) (die cluster e : Nat) : (s.logRepair r k soft die cluster e).pmc = s.pmc := by simp only [State.logRepair]; split <;> simp only [State.setReg_pmc, State.setFld_pmc, State.setFlag_pmc]
@[simp] theorem State.logRepair_tdm (s : State) (r k : Nat) (soft : Bool) (die cluster e : Nat) : (s.logRepair r k soft die cluster e).tdm = s.tdm := by simp only [State.logRepair]; split <;> simp only [State.setReg_tdm, State.setFld_tdm, State.setFlag_tdm]
@[simp] theorem State.logRepair_thm (s : State) (r k : Nat) (soft : Bool) (die cluster e : Nat) : (s.logRepair r k soft die cluster e).thm = s.thm := by simp only [State.logRepair]; split <;> simp only [State.setReg_thm, State.setFld_thm, State.setFlag_thm]
@[simp] theorem State.logRepair_aon (s : State) (r k : Nat) (soft : Bool) (die cluster e : Nat) : (s.logRepair r k soft die cluster e).aon = s.aon := by simp only [State.logRepair]; split <;> simp only [State.setReg_aon, State.setFld_aon, State.setFlag_aon]
@[simp] theorem State.logRepair_led (s : State) (r k : Nat) (soft : Bool) (die cluster e : Nat) : (s.logRepair r k soft die cluster e).led = s.led := by simp only [State.logRepair]; split <;> simp only [State.setReg_led, State.setFld_led, State.setFlag_led]

@[simp] theorem State.loss_pending (s : State) (ledger cause scope : Nat) (items units : Int) (subject : Nat) (d : Bool) : (s.loss ledger cause scope items units subject d).pending = s.pending := by simp only [State.loss, State.ownerEvent_pending, State.setReg64_pending]
@[simp] theorem State.loss_draws (s : State) (ledger cause scope : Nat) (items units : Int) (subject : Nat) (d : Bool) : (s.loss ledger cause scope items units subject d).draws = s.draws := by simp only [State.loss, State.ownerEvent_draws, State.setReg64_draws]
@[simp] theorem State.loss_hold (s : State) (ledger cause scope : Nat) (items units : Int) (subject : Nat) (d : Bool) : (s.loss ledger cause scope items units subject d).hold = s.hold := by simp only [State.loss, State.ownerEvent_hold, State.setReg64_hold]
@[simp] theorem State.loss_written (s : State) (ledger cause scope : Nat) (items units : Int) (subject : Nat) (d : Bool) : (s.loss ledger cause scope items units subject d).written = s.written := by simp only [State.loss, State.ownerEvent_written, State.setReg64_written]
@[simp] theorem State.loss_die (s : State) (ledger cause scope : Nat) (items units : Int) (subject : Nat) (d : Bool) : (s.loss ledger cause scope items units subject d).die = s.die := by simp only [State.loss, State.ownerEvent_die, State.setReg64_die]
@[simp] theorem State.loss_time (s : State) (ledger cause scope : Nat) (items units : Int) (subject : Nat) (d : Bool) : (s.loss ledger cause scope items units subject d).time = s.time := by simp only [State.loss, State.ownerEvent_time, State.setReg64_time]
@[simp] theorem State.loss_hif (s : State) (ledger cause scope : Nat) (items units : Int) (subject : Nat) (d : Bool) : (s.loss ledger cause scope items units subject d).hif = s.hif := by simp only [State.loss, State.ownerEvent_hif, State.setReg64_hif]
@[simp] theorem State.loss_tab (s : State) (ledger cause scope : Nat) (items units : Int) (subject : Nat) (d : Bool) : (s.loss ledger cause scope items units subject d).tab = s.tab := by simp only [State.loss, State.ownerEvent_tab, State.setReg64_tab]
@[simp] theorem State.loss_lrn (s : State) (ledger cause scope : Nat) (items units : Int) (subject : Nat) (d : Bool) : (s.loss ledger cause scope items units subject d).lrn = s.lrn := by simp only [State.loss, State.ownerEvent_lrn, State.setReg64_lrn]
@[simp] theorem State.loss_acl (s : State) (ledger cause scope : Nat) (items units : Int) (subject : Nat) (d : Bool) : (s.loss ledger cause scope items units subject d).acl = s.acl := by simp only [State.loss, State.ownerEvent_acl, State.setReg64_acl]
@[simp] theorem State.loss_pat (s : State) (ledger cause scope : Nat) (items units : Int) (subject : Nat) (d : Bool) : (s.loss ledger cause scope items units subject d).pat = s.pat := by simp only [State.loss, State.ownerEvent_pat, State.setReg64_pat]
@[simp] theorem State.loss_icr (s : State) (ledger cause scope : Nat) (items units : Int) (subject : Nat) (d : Bool) : (s.loss ledger cause scope items units subject d).icr = s.icr := by simp only [State.loss, State.ownerEvent_icr, State.setReg64_icr]
@[simp] theorem State.loss_ing (s : State) (ledger cause scope : Nat) (items units : Int) (subject : Nat) (d : Bool) : (s.loss ledger cause scope items units subject d).ing = s.ing := by simp only [State.loss, State.ownerEvent_ing, State.setReg64_ing]
@[simp] theorem State.loss_port (s : State) (ledger cause scope : Nat) (items units : Int) (subject : Nat) (d : Bool) : (s.loss ledger cause scope items units subject d).port = s.port := by simp only [State.loss, State.ownerEvent_port, State.setReg64_port]
@[simp] theorem State.loss_otn (s : State) (ledger cause scope : Nat) (items units : Int) (subject : Nat) (d : Bool) : (s.loss ledger cause scope items units subject d).otn = s.otn := by simp only [State.loss, State.ownerEvent_otn, State.setReg64_otn]
@[simp] theorem State.loss_fab (s : State) (ledger cause scope : Nat) (items units : Int) (subject : Nat) (d : Bool) : (s.loss ledger cause scope items units subject d).fab = s.fab := by simp only [State.loss, State.ownerEvent_fab, State.setReg64_fab]
@[simp] theorem State.loss_tm (s : State) (ledger cause scope : Nat) (items units : Int) (subject : Nat) (d : Bool) : (s.loss ledger cause scope items units subject d).tm = s.tm := by simp only [State.loss, State.ownerEvent_tm, State.setReg64_tm]
@[simp] theorem State.loss_sch (s : State) (ledger cause scope : Nat) (items units : Int) (subject : Nat) (d : Bool) : (s.loss ledger cause scope items units subject d).sch = s.sch := by simp only [State.loss, State.ownerEvent_sch, State.setReg64_sch]
@[simp] theorem State.loss_eg (s : State) (ledger cause scope : Nat) (items units : Int) (subject : Nat) (d : Bool) : (s.loss ledger cause scope items units subject d).eg = s.eg := by simp only [State.loss, State.ownerEvent_eg, State.setReg64_eg]
@[simp] theorem State.loss_mem (s : State) (ledger cause scope : Nat) (items units : Int) (subject : Nat) (d : Bool) : (s.loss ledger cause scope items units subject d).mem = s.mem := by simp only [State.loss, State.ownerEvent_mem, State.setReg64_mem]
@[simp] theorem State.loss_turnIn (s : State) (ledger cause scope : Nat) (items units : Int) (subject : Nat) (d : Bool) : (s.loss ledger cause scope items units subject d).turnIn = s.turnIn := by simp only [State.loss, State.ownerEvent_turnIn, State.setReg64_turnIn]
@[simp] theorem State.loss_turnOut (s : State) (ledger cause scope : Nat) (items units : Int) (subject : Nat) (d : Bool) : (s.loss ledger cause scope items units subject d).turnOut = s.turnOut := by simp only [State.loss, State.ownerEvent_turnOut, State.setReg64_turnOut]
@[simp] theorem State.loss_harts (s : State) (ledger cause scope : Nat) (items units : Int) (subject : Nat) (d : Bool) : (s.loss ledger cause scope items units subject d).harts = s.harts := by simp only [State.loss, State.ownerEvent_harts, State.setReg64_harts]
@[simp] theorem State.loss_kvc (s : State) (ledger cause scope : Nat) (items units : Int) (subject : Nat) (d : Bool) : (s.loss ledger cause scope items units subject d).kvc = s.kvc := by simp only [State.loss, State.ownerEvent_kvc, State.setReg64_kvc]
@[simp] theorem State.loss_boot (s : State) (ledger cause scope : Nat) (items units : Int) (subject : Nat) (d : Bool) : (s.loss ledger cause scope items units subject d).boot = s.boot := by simp only [State.loss, State.ownerEvent_boot, State.setReg64_boot]
@[simp] theorem State.loss_otp (s : State) (ledger cause scope : Nat) (items units : Int) (subject : Nat) (d : Bool) : (s.loss ledger cause scope items units subject d).otp = s.otp := by simp only [State.loss, State.ownerEvent_otp, State.setReg64_otp]
@[simp] theorem State.loss_cyc (s : State) (ledger cause scope : Nat) (items units : Int) (subject : Nat) (d : Bool) : (s.loss ledger cause scope items units subject d).cyc = s.cyc := by simp only [State.loss, State.ownerEvent_cyc, State.setReg64_cyc]
@[simp] theorem State.loss_tru (s : State) (ledger cause scope : Nat) (items units : Int) (subject : Nat) (d : Bool) : (s.loss ledger cause scope items units subject d).tru = s.tru := by simp only [State.loss, State.ownerEvent_tru, State.setReg64_tru]
@[simp] theorem State.loss_pmc (s : State) (ledger cause scope : Nat) (items units : Int) (subject : Nat) (d : Bool) : (s.loss ledger cause scope items units subject d).pmc = s.pmc := by simp only [State.loss, State.ownerEvent_pmc, State.setReg64_pmc]
@[simp] theorem State.loss_tdm (s : State) (ledger cause scope : Nat) (items units : Int) (subject : Nat) (d : Bool) : (s.loss ledger cause scope items units subject d).tdm = s.tdm := by simp only [State.loss, State.ownerEvent_tdm, State.setReg64_tdm]
@[simp] theorem State.loss_thm (s : State) (ledger cause scope : Nat) (items units : Int) (subject : Nat) (d : Bool) : (s.loss ledger cause scope items units subject d).thm = s.thm := by simp only [State.loss, State.ownerEvent_thm, State.setReg64_thm]
@[simp] theorem State.loss_aon (s : State) (ledger cause scope : Nat) (items units : Int) (subject : Nat) (d : Bool) : (s.loss ledger cause scope items units subject d).aon = s.aon := by simp only [State.loss, State.ownerEvent_aon, State.setReg64_aon]
@[simp] theorem State.loss_led (s : State) (ledger cause scope : Nat) (items units : Int) (subject : Nat) (d : Bool) : (s.loss ledger cause scope items units subject d).led = s.led := by simp only [State.loss, State.ownerEvent_led, State.setReg64_led]

@[simp] theorem State.emit_out (s : State) (o : Output) : (s.emit o).out = s.out ++ [o] := rfl
@[simp] theorem State.emit_reg (s : State) (o : Output) (a : Nat) : (s.emit o).reg a = s.reg a := by cases s; rfl
@[simp] theorem State.emit_fld (s : State) (o : Output) (a : Nat) (f : Fld) : (s.emit o).fld a f = s.fld a f := by cases s; rfl
@[simp] theorem State.emit_flag (s : State) (o : Output) (a : Nat) (f : Fld) : (s.emit o).flag a f = s.flag a f := by cases s; rfl
@[simp] theorem State.noteCount_reg (s : State) (x : Nat × Nat × Nat) (a : Nat) : (s.noteCount x).reg a = s.reg a := by cases s; rfl
@[simp] theorem State.noteCount_fld (s : State) (x : Nat × Nat × Nat) (a : Nat) (f : Fld) : (s.noteCount x).fld a f = s.fld a f := by cases s; rfl
@[simp] theorem State.noteCount_flag (s : State) (x : Nat × Nat × Nat) (a : Nat) (f : Fld) : (s.noteCount x).flag a f = s.flag a f := by cases s; rfl
@[simp] theorem State.setRing_reg (s : State) (g : Nat) (r : RingSt) (a : Nat) : (s.setRing g r).reg a = s.reg a := by cases s; rfl
@[simp] theorem State.setRing_fld (s : State) (g : Nat) (r : RingSt) (a : Nat) (f : Fld) : (s.setRing g r).fld a f = s.fld a f := by cases s; rfl
@[simp] theorem State.setRing_flag (s : State) (g : Nat) (r : RingSt) (a : Nat) (f : Fld) : (s.setRing g r).flag a f = s.flag a f := by cases s; rfl
@[simp] theorem State.setFn_reg (s : State) (n : Nat) (x : FuncSt) (a : Nat) : (s.setFn n x).reg a = s.reg a := by cases s; rfl
@[simp] theorem State.setFn_fld (s : State) (n : Nat) (x : FuncSt) (a : Nat) (f : Fld) : (s.setFn n x).fld a f = s.fld a f := by cases s; rfl
@[simp] theorem State.setFn_flag (s : State) (n : Nat) (x : FuncSt) (a : Nat) (f : Fld) : (s.setFn n x).flag a f = s.flag a f := by cases s; rfl

end Sys2Proof.Machine
end

