-- ==== Sys2Proof/Laws/Frames.lean ====
section
/-! SUPPORT. What the shared updates leave alone, in the terms of Safety.lean. -/

namespace Sys2Proof.Machine

theorem RegsBut.rfl (l : List Nat) (s : State) : RegsBut l s s := fun _ _ => Eq.refl _

theorem RegsBut.trans {l : List Nat} {s t u : State} (h : RegsBut l s t) (k : RegsBut l t u) : RegsBut l s u :=
  fun a ha => (k a ha).trans (h a ha)

theorem RegsBut.mono {l m : List Nat} {s t : State} (h : RegsBut l s t) (hl : ∀ a ∈ l, a ∈ m) : RegsBut m s t :=
  fun a ha => h a (fun hm => ha (hl a hm))

theorem RegsBut.setReg (l : List Nat) (s : State) (a : Nat) (w : Word) (h : a ∈ l) : RegsBut l s (s.setReg a w) :=
  fun b hb => State.reg_setReg_ne s a b w (fun e => hb (e ▸ h))

theorem RegsBut.setFld (l : List Nat) (s : State) (a : Nat) (f : Fld) (v : Nat) (h : a ∈ l) : RegsBut l s (s.setFld a f v) :=
  RegsBut.setReg l s a _ h

theorem RegsBut.setFlag (l : List Nat) (s : State) (a : Nat) (f : Fld) (b : Bool) (h : a ∈ l) : RegsBut l s (s.setFlag a f b) :=
  RegsBut.setReg l s a _ h

theorem RegsBut.setReg64 (l : List Nat) (s : State) (lo v : Nat) (h : lo ∈ l) (h4 : lo + 4 ∈ l) : RegsBut l s (s.setReg64 lo v) :=
  (RegsBut.setReg l s lo _ h).trans (RegsBut.setReg l _ (lo + 4) _ h4)

theorem RegsBut.setCtr (s : State) (c : Ctr) (v : Nat) : RegsBut c.regs s (s.setCtr c v) := by
  unfold State.setCtr
  have h1 : RegsBut c.regs s (s.setReg64 c.lo v) := RegsBut.setReg64 _ _ _ _ (by simp [Ctr.regs]) (by simp [Ctr.regs])
  split
  · exact h1
  · exact h1.trans (RegsBut.setReg _ _ _ _ (by simp [Ctr.regs]))

/-- A count touches the registers of its counter. -/
theorem RegsBut.bump (s : State) (c : Ctr) (n : Nat) : RegsBut c.regs s (s.bump c n) :=
  fun a ha => (State.noteCount_reg _ _ a).trans (RegsBut.setCtr s c _ a ha)

theorem OnlyRegs.setReg (l : List Nat) (s : State) (a : Nat) (w : Word) (h : a ∈ l) : OnlyRegs l s (s.setReg a w) :=
  ⟨by cases s; rfl, RegsBut.setReg l s a w h⟩

theorem OnlyRegs.setFld (l : List Nat) (s : State) (a : Nat) (f : Fld) (v : Nat) (h : a ∈ l) : OnlyRegs l s (s.setFld a f v) :=
  OnlyRegs.setReg l s a _ h

theorem OnlyRegs.setFlag (l : List Nat) (s : State) (a : Nat) (f : Fld) (b : Bool) (h : a ∈ l) : OnlyRegs l s (s.setFlag a f b) :=
  OnlyRegs.setReg l s a _ h

/-- The value of a counter after a count (R89). -/
theorem State.reg64_bump (s : State) (c : Ctr) (n : Nat) (h : c.ovf ≠ c.lo) (h4 : c.ovf ≠ c.lo + 4) :
    (s.bump c n).reg64 c.lo = (s.reg64 c.lo + n) % 2 ^ 64 := by
  have e (t : State) (x) : (t.noteCount x).reg64 c.lo = t.reg64 c.lo := by rw [State.reg64, State.reg64, State.noteCount_reg, State.noteCount_reg]
  rw [State.bump, e, State.setCtr]
  split
  · exact State.reg64_setReg64 _ _ _
  · rw [State.reg64, State.reg_setReg_ne _ _ _ _ h4.symm, State.reg_setReg_ne _ _ _ _ h.symm, ← State.reg64, State.reg64_setReg64]

end Sys2Proof.Machine
end

