-- ==== Sys2Proof/Tests/Slice0.lean ====
section
/-! SUPPORT. Small checks: commands that cannot be given, and for every statement with conditions a state that meets them. -/

namespace Sys2Proof.Tests

open Sys2Proof Sys2Proof.Machine

set_option Elab.async false

/-! ### Commands that cannot be given: one for each check of WellFormed.lean -/

/-- A head of `n` zero bytes. -/
def headA (n : Nat) (whole : Bool) : RxHead := ⟨List.replicate n 0, whole, 0, none⟩

theorem test_unassigned_of_a_register : (Instr.unassignedAccess (.func 0) 0x11C08004 none).wellFormed = false := by decide +kernel
theorem test_unassigned_of_a_gap : (Instr.unassignedAccess (.func 0) 0x0FF00000 none).wellFormed = true := by decide +kernel
theorem test_pair_read_of_a_high_half : (Instr.pairLoRead (.func 0) 0x1FC00024).wellFormed = false := by decide +kernel
theorem test_pair_read_of_a_low_half : (Instr.pairLoRead (.func 0) 0x1FC00020).wellFormed = true := by decide +kernel
theorem test_pair_write_of_an_operand : (Instr.pairLoWrite (.func 0) (BitVec.ofNat 32 (Reg.MCR_WR_DATA_LO 0)) 1).wellFormed = false := by decide +kernel
theorem test_pair_write_of_a_single : (Instr.pairHiWrite (.func 0) 0x100 1).wellFormed = false := by decide +kernel
theorem test_clear_read_of_a_plain_register : (Instr.rcFieldRead (.func 0) 0x100).wellFormed = false := by decide +kernel
theorem test_lane_access_elsewhere : (Instr.mgmtLaneAccess (.func 0) 0x2FC08000 none true).wellFormed = false := by decide +kernel
theorem test_lane_access_of_the_window : (Instr.mgmtLaneAccess (.func 0) 0x30000000 none true).wellFormed = true := by decide +kernel
theorem test_head_too_short : (Instr.frameHandoff 0 (headA 319 false)).wellFormed = false := by decide +kernel
theorem test_head_too_long : (Instr.gfpFrame 0 (headA 321 true) true).wellFormed = false := by decide +kernel
theorem test_pause_head_too_short : (Instr.pauseFrameRx 0 (headA 64 false)).wellFormed = false := by decide +kernel
theorem test_dequeue_of_another_quadrant : (Instr.schedulerSelect 5 (some (.packetSram 2 0 0))).wellFormed = false := by decide +kernel
theorem test_dequeue_of_its_quadrant : (Instr.schedulerSelect 5 (some (.packetSram 1 0 0))).wellFormed = true := by decide +kernel
theorem test_64_gigatransfers_without_flits : (Instr.hostLinkTrain 0 5 .x16 false).wellFormed = false := by decide +kernel
theorem test_aperture_across_4_kib : (Instr.apertureAccess 0 0xFFE (.read 4) none).wellFormed = false := by decide +kernel
theorem test_aperture_of_nothing : (Instr.apertureAccess 0 0 (.write []) none).wellFormed = false := by decide +kernel
theorem test_listed_management_code : (Instr.smbUnknownCode 0x41).wellFormed = false := by decide +kernel

/-! ### The table gives no bits (00, opcode_table.json) -/

theorem test_no_word_spells_a_command : decodeTableWord 32 0x12345678 = none := rfl
theorem test_fetch_word_changes_nothing : State.reset.withFetchWord 32 0x12345678 = State.reset := rfl

/-! ### The worked example of chapter 23 -/

theorem test_address_of_prs_limits_s7 : Reg.PRS_LIMITS 7 = 0x11C08004 := rfl
theorem test_address_of_ring_ctrl_32808 : Reg.RING_CTRL 32808 = 0x1FE00518 := by decide

/-! ### A state for each statement that has conditions -/

theorem witness_TimeRunsEachCycle : State.reset.pending = [] ∧ State.reset.aon.held = false := by decide +kernel


/-- The reset state with a pending increment whose target has come. -/
def sInc : State := { State.reset with time := { TimeSt.init with pendInc := some (6148914691, 0) } }
theorem witness_TimeIncrement :
    (6148914691 * 1023 ≤ (6148914691 : BitVec 64).toNat * 1024 ∧ (6148914691 : BitVec 64).toNat * 1024 ≤ 6148914691 * 1025) ∧
    ((0 : BitVec 64).toNat * 1024 < 6148914691 * 1023) ∧ (6148914691 * 1025 < (2 ^ 63 : BitVec 64).toNat * 1024) ∧
    (sInc.time.pendInc = some (6148914691, 0) ∧ 0 ≤ sInc.mono) := by decide +kernel

/-- The reset state with a pending step whose target has come. -/
def sStep : State := { State.reset with time := { TimeSt.init with pendStep := some (5, 0) } }
/-- The reset state with SERVICE set. -/
def sService : State := State.reset.setFlag Reg.TIME_CTRL Fld.TIME_CTRL_SERVICE true
theorem witness_TimeStepAndService :
    (State.reset.flag Reg.TIME_CTRL Fld.TIME_CTRL_SERVICE = false ∧ Fld.TIME_CTRL_SERVICE.get 0x10 = 0) ∧
    sService.flag Reg.TIME_CTRL Fld.TIME_CTRL_SERVICE = true ∧ (sStep.time.pendStep = some (5, 0) ∧ 0 ≤ sStep.mono) := by decide +kernel


/-- The reset state at a second after start, of both clocks. -/
def sSecond : State := { State.reset with time := { TimeSt.init with master := 2 ^ 64 * 100, mono := 2 ^ 64 * 100 } }
theorem witness_TimeMarkersAndLatches :
    ((KMap.get 0 sSecond.time.trig 1 + 1) * 2 ^ 12 ≤ sSecond.now ∧ sSecond.linkUsable = false) ∧
    ((KMap.get 0 sSecond.time.trig 1 + 1) * 2 ^ 12 ≤ (sSecond.setFlag Reg.DEV_DIE_STATUS Fld.DEV_DIE_STATUS_LINK_UP true).now ∧
      (sSecond.setFlag Reg.DEV_DIE_STATUS Fld.DEV_DIE_STATUS_LINK_UP true).linkUsable = true) ∧
    ((KMap.get 0 sSecond.time.trig 0 + 1) * 2 ^ 32 ≤ sSecond.now ∧ sSecond.time.latch = none) ∧
    ({ State.reset with time := { TimeSt.init with latch := some (4, 0) } } : State).time.latch = some (4, 0) ∧
    (sSecond.flag Reg.TIME_CTRL Fld.TIME_CTRL_WD_EN = true ∧ sSecond.time.lastInc + sSecond.wdSpan ≤ sSecond.mono ∧
      sSecond.flag Reg.TIME_STATUS Fld.TIME_STATUS_WD_HOLDOVER = false) := by decide +kernel


def sRef : State := { State.reset.setFld Reg.TIME_CTRL Fld.TIME_CTRL_REF10M_EN 1 with time := { TimeSt.init with ppsOut := true } }
def sPps : State := { State.reset.setFld Reg.TIME_CTRL Fld.TIME_CTRL_PPS_OUT_EN 1 with time := { TimeSt.init with master := 2 ^ 64 * 100 } }
theorem witness_TimeCapturesAndReferences :
    (State.reset.time.ppsEdge = none ∧
    (({ State.reset with time := { TimeSt.init with ppsEdge := some 0 } } : State).time.ppsEdge = some 0 ∧
      ({ State.reset with time := { TimeSt.init with ppsEdge := some 0 } } : State).mono < 0 + 2 ^ 31)) ∧
    (sRef.flag Reg.TIME_CTRL Fld.TIME_CTRL_REF10M_EN = true ∧ sRef.time.master.toNat % 2 ^ 64 / 2 ^ 28 < 2 ^ 16) ∧
    (sPps.flag Reg.TIME_CTRL Fld.TIME_CTRL_PPS_OUT_EN = true ∧ KMap.get 0 sPps.time.trig 2 < sPps.ppsIndex) ∧
    (sRef.time.ppsOut = true ∧ sRef.time.ppsFall ≤ sRef.mono) := by decide +kernel


/-- Port 0 enabled for Ethernet, with preemption, its link up and verification as given. -/
def sPort (pre : Bool) (up : Bool) (v : Nat) : State :=
  (((State.reset.setFlag (portCfg 0) Fld.PORT_CFG_EN true).setFlag (portCfg 0) Fld.PORT_CFG_PREEMPT_EN pre).setFlag (portStatus 0)
    Fld.PORT_STATUS_LINK_UP up).setVerify 0 v
/-- The same with three attempts made. -/
def sTried : State := { sPort true true 1 with port := { PortSt.init with tries := KMap.set 0 .empty 0 3 } }
/-- A configuration at 10 Gb/s with frames of 1,518 bytes, not enabled. -/
def cfgPlain : Word := Fld.PORT_CFG_MAX_FRAME.put 0 1518
theorem witness_PortConfiguration :
    (State.reset.fdieUp = true ∧ State.reset.portEn 0 = false ∧ State.reset.portRefused 0 cfgPlain = false) ∧
    (State.reset.portRefused 0 0 = true) ∧
    ((sPort false false 0).fdieUp = true ∧ (sPort false false 0).portEn 0 = true ∧ (sPort false false 0).portOtn 0 = false ∧
      (sPort false false 0).linkUp 0 = false ∧ (sPort false false 0).preEn 0 = false) ∧
    ((sPort true true 0).macOn 0 = true ∧ (sPort true true 0).preEn 0 = true ∧ (sPort true true 0).linkUp 0 = true ∧ (sPort true true 0).verify 0 < 2 ∧
      KMap.get 0 (sPort true true 0).port.due 0 ≤ (sPort true true 0).mono ∧ KMap.get 0 (sPort true true 0).port.tries 0 < 3) ∧
    (sTried.macOn 0 = true ∧ sTried.preEn 0 = true ∧ sTried.linkUp 0 = true ∧ sTried.verify 0 = 1 ∧ sTried.verify 0 < 2 ∧
      KMap.get 0 sTried.port.due 0 ≤ sTried.mono ∧ 3 ≤ KMap.get 0 sTried.port.tries 0) := by decide +kernel


/-- A frame's first bytes with the group bit set. -/
def headGroup (n : Nat) : RxHead := ⟨0x01 :: List.replicate (n - 1) 0, false, 0, none⟩
/-- A pause frame of 64 bytes. -/
def headPause : RxHead := ⟨List.replicate 12 0 ++ [0x88, 0x08, 0x00, 0x01] ++ List.replicate 48 0, true, 0, none⟩
/-- Packet 0 of port 0 in reception, at a stage. -/
def inPkt (st : IStage) : IPkt := { (IPkt.new 0 0 [] none 0 1518) with stage := st }
def sPkt (k : IPkt) : State := let s := State.reset.setPkt 0 k; { s with ing := { s.ing with nextId := 1, cur := KMap.set 0 .empty 0 1 } }
theorem witness_PortFrames :
    ((sPort false true 0).macOn 0 = true ∧ (sPort false true 0).secMatch 0 (headGroup 320).data = .clear ∧
      (sPort false true 0).station 0 (beAt (headGroup 320).data 0 6) = some false ∧ KMap.get 0 (sPort false true 0).ing.fence (0 / 8) = 0) ∧
    (64 ≤ headPause.data.length ∧ isPause headPause.data = true ∧ (sPort false true 0).flag (portCfg 0) Fld.PORT_CFG_PAUSE_RX_EN = false) ∧
    (KMap.get 0 State.reset.port.pause (9 * 0 + 0) ≤ State.reset.mono) ∧ ((sPort false true 0).preActive 0 = false) ∧
    ((sPort true true 2).macOn 0 = true ∧ (sPort true true 2).preActive 0 = true ∧ (sPort true true 2).preRx 0 = none) ∧
    ((sPkt (inPkt .entered)).fdieUp = true ∧ (sPkt (inPkt .entered)).curPkt 0 false = some (0, inPkt .entered) ∧
      (inPkt .entered).isCommitted = false ∧ (inPkt .entered).sec = none ∧ (inPkt .entered).err = none ∧ (inPkt .entered).parse = none ∧
      (inPkt .entered).maxFrame < (inPkt .entered).bytes.length + (List.replicate 1519 (0 : Byte)).length ∧
      (inPkt .entered).bytes.length + [(0 : Byte)].length ≤ (inPkt .entered).maxFrame) ∧
    ((State.reset.setTx 0 false (some ⟨64, 0, 0, false, 0⟩)).txNow 0 false = some ⟨64, 0, 0, false, 0⟩) := by decide +kernel

/-- Port 0 an enabled OTN port of one instance. -/
def sOtn (x : OtnInst) : State :=
  let s := (((State.reset.setFld (portCfg 0) Fld.PORT_CFG_KIND 1).setFlag (portCfg 0) Fld.PORT_CFG_EN true).setFld (otnCfg 0) Fld.OTN_CFG_N 0)
  s.setOtnP 0 ((s.otnP 0).setInst 0 x)
def instIn (st : Nat) : OtnInst := { OtnInst.init with st := st, mfas := some 7, misses := 4 }
def sOtnAligned : State := let s := sOtn { instIn 3 with queue := [⟨9, 0, 0, 0, 0, 0⟩] }
  s.setOtnP 0 { s.otnP 0 with aligned := true }
def otnFrame (m : Nat) : OtnFrame := ⟨true, BitVec.ofNat 8 m, 0, 0, false, 0, 0, false, 1, 5, []⟩
theorem witness_OtnFraming :
    (State.reset.fdieUp = true ∧ State.reset.portEn 0 = false ∧ (sOtn .init).portEn 0 = true ∧
      Fld.OTN_CFG_N.get 3 ≠ (sOtn .init).fld (otnCfg 0) Fld.OTN_CFG_N) ∧
    ((sOtn .init).otnOn 0 = true ∧ 0 < (sOtn .init).otnN 0 ∧ (((sOtn .init).otnP 0).inst 0).st = 0 ∧ (((sOtn .init).otnP 0).inst 0).pos ≤ 1000) ∧
    ((((sOtn (instIn 1)).otnP 0).inst 0).st = 1) ∧
    (((sOtn (instIn 2)).otnP 0).inst 0 = instIn 2 ∧ (instIn 2).st = 2 ∧ (otnFrame 8).fas = true ∧ (instIn 2).mfas = some 7 ∧
      (7 + 1) % 256 = (otnFrame 8).mfas.toNat ∧ (instIn 2).misses = 4 ∧ (instIn 2).queue.length < 256) ∧
    (sOtnAligned.otnOn 0 = true ∧ (sOtnAligned.insts 0).all (instReady (sOtnAligned.otnN 0)) = true ∧ (sOtnAligned.otnP 0).aligned = true ∧
      sOtnAligned.insts 0 = [{ instIn 3 with queue := [⟨9, 0, 0, 0, 0, 0⟩] }]) ∧
    (((sOtn .init).setReg (otnStatus 0) 0).otnOn 0 = true ∧ ((sOtn .init).setReg (otnStatus 0) 0).otnBit 0 0 ≠
      ((sOtn .init).setReg (otnStatus 0) 0).defectNow 0 0 (((sOtn .init).setReg (otnStatus 0) 0).otnBit 0 0)) ∧
    ((sOtn .init).otnBit 0 7 = (sOtn .init).defectNow 0 7 ((sOtn .init).otnBit 0 7)) := by decide +kernel


def sGfp (st pli : Nat) : State := let s := ((sOtn (instIn 3)).setFld (portCfg 0) Fld.PORT_CFG_MAX_FRAME 1518).setReg (otnStatus 0) 0
  s.setOtnP 0 { s.otnP 0 with gfp := st, pli := pli }
/-- A core header of length 100 with its cHEC, scrambled. -/
def coreHead : BitVec 32 := BitVec.ofNat 32 (100 * 65536 + hec16 100) ^^^ 0xB6AB31E0
/-- A client frame's first bytes: the payload header with its tHEC and a group address. -/
def gfpHead (ty : Nat) : RxHead := ⟨beBytes 2 ty ++ beBytes 2 (hec16 ty) ++ 0x01 :: List.replicate 95 0, false, 0, none⟩
theorem witness_OtnGfpFrames :
    ((sGfp 0 0).otnOn 0 = true ∧ (sGfp 0 0).aisAction 0 = false ∧ hecCheck (coreHead ^^^ 0xB6AB31E0).toNat = some (100, false) ∧
      ((sGfp 0 0).otnP 0).gfp = 0 ∧ ((sGfp 1 0).otnP 0).gfp = 1) ∧
    (hecCheck ((coreHead ^^^ 1) ^^^ 0xB6AB31E0).toNat = some (100, true) ∧ hecCheck ((coreHead ^^^ 3) ^^^ 0xB6AB31E0).toNat = none ∧
      ((sGfp 2 0).otnP 0).gfp = 2 ∧ (sGfp 2 0).curPkt 0 false = none) ∧
    (4 ≤ ((sGfp 2 100).otnP 0).pli ∧ hecCheck (beAt (gfpHead 1).data 0 4) = some (1, false) ∧
      hecCheck (beAt (gfpHead 0x8000).data 0 4) = some (0x8000, false) ∧ hecCheck (beAt (gfpHead 2).data 0 4) = some (2, false) ∧
      hecCheck 3 = none ∧ 68 ≤ ((sGfp 2 100).otnP 0).pli ∧ ((sGfp 2 100).otnP 0).pli - 4 ≤ (sGfp 2 100).maxFrame 0 ∧
      (sGfp 2 100).secMatch 0 (((gfpHead 1).data.drop 4).take 96) = .clear ∧
      (sGfp 2 100).station 0 (beAt (((gfpHead 1).data.drop 4).take 96) 0 6) = some false ∧ KMap.get 0 (sGfp 2 100).ing.fence 0 = 0) := by
  decide +kernel

/-- A whole packet of port 0 at a stage, with an empty parse. -/
def fullPkt (st : IStage) : IPkt := { (IPkt.new 0 0 [] (some 64) 0 1518) with stage := st, parse := some (Parse.start false) }
def sQueue : State := let s := sPkt (fullPkt .queued); { s with ing := { s.ing with lineQ := qSet .empty 0 [0] } }
def sRead : State := sPkt { fullPkt .launched with reads := [.exm 5 ⟨0, 0, 0⟩] }
theorem witness_SlicePipelineFront :
    (sQueue.fdieUp = true ∧ sQueue.tdieUp = true ∧ KMap.get 0 sQueue.ing.fence 0 = 0 ∧ KMap.get 0 sQueue.ing.hold 0 ≤ sQueue.time.cycles ∧
      qGet sQueue.ing.respinQ 0 = [] ∧ qGet sQueue.ing.lineQ 0 = [0] ∧ sQueue.pkt 0 = some (fullPkt .queued) ∧ (fullPkt .queued).len = some 64 ∧
      (fullPkt .queued).respun = false ∧ sQueue.transitUsed 0 + 64 ≤ 600000 ∧ sQueue.leaseOver = false) ∧
    ((sPkt (fullPkt .entered)).pkt 0 = some (fullPkt .entered) ∧ (fullPkt .entered).stage = .entered) ∧
    ((sPkt (fullPkt .launched)).pkt 0 = some (fullPkt .launched) ∧ (fullPkt .launched).known = true) ∧
    ((fullPkt .parsed).ps.mal = none ∧ (fullPkt .parsed).ps.csumErr = false ∧ (fullPkt .parsed).ps.horizon = false ∧
      (fullPkt .parsed).ps.frag = none ∧ (sPkt (fullPkt .parsed)).espHit (fullPkt .parsed) = none) ∧
    ((sPkt (fullPkt .loop)).pkt 0 = some (fullPkt .loop) ∧ (qGet (sPkt (fullPkt .loop)).ing.respinQ 0).length < 32) := by decide +kernel


def sCompared : State := sPkt (fullPkt .compared)
def sRichBucket : State := (sPkt (fullPkt .acl2)).setBucket 0 0 ⟨5000, 5000, 10⟩
theorem witness_SlicePipelineJoin :
    (sCompared.pkt 0 = some (fullPkt .compared) ∧ (fullPkt .compared).skips = false ∧ (fullPkt .compared).lost = false ∧
      (fullPkt .compared).reads = [] ∧ sCompared.keysOf (fullPkt .compared) (fullPkt .compared).ps = .none) ∧
    ((sPkt (fullPkt .joined)).pkt 0 = some (fullPkt .joined) ∧
      (sPkt (fullPkt .joined)).aclSearch 0 0 0 ((sPkt (fullPkt .joined)).keyCtx (fullPkt .joined)) = none ∧
      (sPkt (fullPkt .joined)).flag Reg.ACL_STAGE_CFG Fld.ACL_STAGE_CFG_MISS1_DENY = false) ∧
    ((sPkt (fullPkt .acl1)).aclSearch 0 0 1 ((sPkt (fullPkt .acl1)).keyCtx (fullPkt .acl1)) = none) ∧
    ((sPkt (fullPkt .joined)).pat.verdicts = [] ∧ (sPkt (fullPkt .acl1)).pat.verdicts = []) ∧
    (sRichBucket.pkt 0 = some (fullPkt .acl2) ∧ (fullPkt .acl2).ts ≤ (sRichBucket.bucketOf 0 0).at_ ∧
      ((fullPkt .acl2).chargeLen : Int) ≤ (sRichBucket.bucketOf 0 0).tc ∧ ((fullPkt .acl2).chargeLen : Int) ≤ (sRichBucket.bucketOf 0 0).tp) ∧
    ((sPkt (fullPkt .policed)).forward (fullPkt .policed) = .drop) ∧
    ((sPkt { fullPkt .policed with fwd := some (.nh 1) }).forward { fullPkt .policed with fwd := some (.nh 1) } = .nh 1) ∧
    ((sPkt { fullPkt .read with fwd := some (.nh 1) }).leaseOver = false ∧ { fullPkt .read with fwd := some (.nh 1) }.fwd = some (.nh 1)) ∧
    ((inPkt .committed).tail ≠ some true ∧ (sPkt (inPkt .committed)).pkt 0 = some (inPkt .committed)) := by decide +kernel

def sFwOpen : State := { State.reset with tab := { TabSt.init with openB := [⟨0, fwBatch, []⟩], nextB := 1 } }
def sAclStaged : State := { State.reset with acl := { AclSt.init with staged := [(0, none)] } }
def sTurn : State := (State.reset.setFlag Reg.FWH_EPOCH_STATUS Fld.FWH_EPOCH_STATUS_TURN_PENDING true).setFlag Reg.FWH_EEPOCH_STATUS
  Fld.FWH_EEPOCH_STATUS_TURN_PENDING true
def sTurnRing : State := { sTurn.setRingState 3 rsTurnWait with turnIn := { TurnSt.init with wait := [(3, 7)] } }
def sLive : State := (State.reset.setFlag Reg.FWH_EPOCH_STATUS Fld.FWH_EPOCH_STATUS_PREV_LIVE true).setFlag Reg.FWH_EEPOCH_STATUS
  Fld.FWH_EEPOCH_STATUS_PREV_LIVE true
theorem witness_EpochTurns :
    (sFwOpen.fdieUp = true ∧ sFwOpen.openBatch fwBatch = some ⟨0, fwBatch, []⟩ ∧ sFwOpen.acl.staged = []) ∧
    (sAclStaged.fdieUp = true ∧ sAclStaged.openBatch fwBatch = none ∧ sAclStaged.acl.staged ≠ [] ∧ sAclStaged.acl.phase = .idle) ∧
    (sTurnRing.flag Reg.FWH_EPOCH_STATUS Fld.FWH_EPOCH_STATUS_TURN_PENDING = true ∧ sTurnRing.prevLive = false ∧ sTurnRing.fdieUp = true ∧
      sTurnRing.acl.phase ≠ .closed ∧ sTurnRing.acl.phase ≠ .published ∧ sTurnRing.turnIn.wait.all (fun x => decide (x.1 < 65536)) = true ∧
      sTurnRing.ringState 3 = rsTurnWait) ∧
    (State.reset.flag Reg.FWH_EPOCH_STATUS Fld.FWH_EPOCH_STATUS_TURN_PENDING = false ∧ sLive.prevLive = true ∧ State.reset.prevLive = false) ∧
    (sLive.inFlight (prevOf sLive.epoch) = 0 ∧ sLive.turnIn.done = []) ∧
    (sTurn.flag Reg.FWH_EEPOCH_STATUS Fld.FWH_EEPOCH_STATUS_TURN_PENDING = true ∧ sTurn.egPrevLive = false ∧ sTurn.turnOut.wait = []) ∧
    (sLive.egPrevLive = true ∧ sLive.egInFlight (prevOf sLive.egEpoch) = 0 ∧ sLive.turnOut.done = [] ∧
      State.reset.egPrevLive = false) := by decide +kernel


/-- Ring 5 of function 0, an update ring of 16 slots that runs, with one fetched descriptor. -/
def sUpd (d : List Byte) : State :=
  let s := (((State.reset.setFld (Reg.RING_CFG 5) Fld.RING_CFG_KIND rkUpdate).setFld (Reg.RING_CFG 5) Fld.RING_CFG_LOG2SIZE 4).setRingState 5 rsRunning)
  s.setRing 5 { s.ring 5 with pre := [d], descProd := 1 }
def dRoute (op : Nat) : List Byte := beBytes 1 op ++ beBytes 1 0 ++ beBytes 2 7 ++ beBytes 4 99 ++ beBytes 1 24 ++ beBytes 3 0 ++
  beBytes 4 (if op = 1 then 0x10000001 else 0) ++ beBytes 16 (0xCB007100 * 2 ^ 96)
def dExm (op : Nat) : List Byte := beBytes 1 op ++ beBytes 1 0 ++ beBytes 2 7 ++ beBytes 4 99 ++ beBytes 1 1 ++ beBytes 3 0 ++
  beBytes 4 (if op = 3 then 0x10000001 else 0) ++ beBytes 16 (0x020000000001 * 2 ^ 80)
def dEgt : List Byte := beBytes 1 5 ++ beBytes 1 0 ++ beBytes 2 0 ++ beBytes 4 99 ++ beBytes 1 0 ++ beBytes 3 9 ++ beBytes 4 0 ++ beBytes 16 0
def dPlain (op : Nat) : List Byte := beBytes 1 op ++ zeros 31
def keyMac : ExmKey := ⟨1, 7, 0x020000000001 * 2 ^ 80⟩
/-- The route of dRoute is published. -/
def sUpdRoute : State := let s := sUpd (dRoute 2)
  { s with tab := { s.tab with routes := [⟨false, 7, 24, 0xCB007100, 0x10000001, 0, none, 1⟩] } }
/-- The key of dExm is published, in the first slot of its first bucket. -/
def sUpdExm : State := let s := sUpd (dExm 4)
  s.setSlot (4 * s.bucket false keyMac) ⟨keyMac, false, false, false, 0x10000001, 0, none, false, 0, none⟩
def sUpdTurn : State := let s := sUpd (dPlain 0xF0)
  { s with tab := { s.tab with openB := [⟨0, 5, []⟩], nextB := 1 } }
theorem exmLive_sUpdExm : (sUpdExm.exmLive keyMac).isSome = true := by
  have h : sUpdExm.slot (4 * sUpdExm.bucket false keyMac) = some ⟨keyMac, false, false, false, 0x10000001, 0, none, false, 0, none⟩ := by
    simp [sUpdExm, State.slot, State.setSlot, KMap.set, sUpd, State.reset, TabSt.init, KMap.empty, lins, lfind, State.bucket, ExmEntry.free,
      State.setRing, State.setRingState, State.setFld, State.setReg, keyMac]
  have hm : 4 * sUpdExm.bucket false keyMac ∈ sUpdExm.candidates keyMac := by
    unfold State.candidates; simp only; split <;> simp [slotsOf]
  unfold State.exmLive
  rw [List.findSome?_isSome_iff]
  exact ⟨_, hm, by rw [h]; simp⟩
theorem exmFreeSlot_sUpd : ∃ i, (sUpd (dExm 3)).exmFreeSlot keyMac = some i := by
  rw [← Option.isSome_iff_exists, State.exmFreeSlot, List.find?_isSome]
  refine ⟨4 * (sUpd (dExm 3)).bucket false keyMac, ?_, ?_⟩
  · unfold State.candidates; simp only; split <;> simp [slotsOf]
  · simp [State.slot, State.slotLost, State.regionLost, sUpd, State.reset, TabSt.init, MemSt.init, KMap.empty, KMap.get, lfind, State.setRing,
      State.setRingState, State.setFld, State.setReg]
theorem staged_sUpdExm : sUpdExm.stagedOps = [] ∧ (∀ j e, sUpdExm.slot j = some e → e.batch = none) := by
  refine ⟨by decide +kernel, fun j e h => ?_⟩
  simp only [State.slot, sUpdExm, State.setSlot, KMap.set, ExmEntry.free] at h
  simp [sUpd, State.reset, TabSt.init, KMap.empty, lins, lfind, State.setRing, State.setRingState, State.setFld, State.setReg, keyMac] at h
  rw [← h.2]
theorem witness_UpdateRingEntries :
    ((sUpd (dRoute 1)).updHead 5 (· == 0x01) routeUsesExm = some (dRoute 1) ∧ routeEntryOk (dRoute 1) true = true ∧
      (sUpd (dRoute 1)).openOps 5 = [] ∧ (sUpd (dRoute 1)).routePublished false 7 24 0xCB007100 = false ∧
      (sUpd (dRoute 1)).stagedCount < 262144 ∧ (sUpd (dRoute 1)).unitsUsed + 1 ≤ 8388608 ∧ (sUpd (dRoute 1)).ringOwner 5 < 1024) ∧
    (sUpdRoute.updHead 5 (· == 0x02) routeUsesExm = some (dRoute 2) ∧ routeEntryOk (dRoute 2) false = true ∧ sUpdRoute.openOps 5 = [] ∧
      sUpdRoute.routePublished false 7 24 0xCB007100 = true ∧ sUpdRoute.stagedCount < 262144) ∧
    ((sUpd (dExm 3)).updHead 5 (· == 0x03) (fun _ => true) = some (dExm 3) ∧ exmEntryOk (dExm 3) true = true ∧
      keyMac = ⟨uSub (dExm 3), uTable (dExm 3), uData (dExm 3)⟩ ∧ (sUpd (dExm 3)).stagedCount < 262144 ∧ (sUpd (dExm 3)).tab.exm.l = []) ∧
    (exmEntryOk (dExm 4) false = true ∧ sUpdExm.stagedCount < 262144 ∧ sUpdExm.updHead 5 (· == 0x04) (fun _ => true) = some (dExm 4)) ∧
    ((sUpd dEgt).updHead 5 (· == 0x05) (fun _ => false) = some dEgt ∧ uIndex dEgt = 9 ∧ egtOk 9 (BitVec.ofNat 128 (uData dEgt)) = true ∧
      uFlags dEgt = 0 ∧ uTable dEgt = 0 ∧ uSub dEgt = 0 ∧ uResult dEgt = 0 ∧ (sUpd dEgt).regionLost 2 (egtSram 9) = false) ∧
    ((sUpd (dPlain 6)).updHead 5 (fun o => o == 0 || (decide (0x06 ≤ o) && o != 0xF0 && o != 0xF1)) (fun _ => false) = some (dPlain 6)) ∧
    ((sUpd (dPlain 0xF1)).updHead 5 (· == 0xF1) (fun _ => false) = some (dPlain 0xF1) ∧
      (((dPlain 0xF1).take 4).drop 1 ++ (dPlain 0xF1).drop 8).all (· == 0) = true) ∧
    (sUpdTurn.updHead 5 (· == 0xF0) (fun _ => false) = some (dPlain 0xF0) ∧ uFlags (dPlain 0xF0) = 0 ∧ beAt (dPlain 0xF0) 2 2 = 0 ∧
      beAt (dPlain 0xF0) 8 24 = 0 ∧ sUpdTurn.openBatch 5 = some ⟨0, 5, []⟩) := by decide +kernel

def sJob (p : List Nat) (e : ExmEntry) (r : Nat) : State := let s := State.reset.setSlot 8 ⟨⟨1, 3, 2 ^ 80⟩, false, false, false, 0, 0, none, false, 0, none⟩
  { s with tab := { s.tab with job := some ⟨p, 12, r, e, none, [], [], false⟩ } }
def oldEntry : ExmEntry := ⟨⟨1, 3, 2 ^ 80⟩, false, false, false, 0, 2 ^ 31, none, false, 0, none⟩
def sOld : State := State.reset.setSlot 8 oldEntry
theorem witness_ExactMatchUpkeep :
    ((sJob [] oldEntry 1).tab.job = some ⟨[], 12, 1, oldEntry, none, [], [], false⟩ ∧ (sJob [] oldEntry 1).time.cycles < 1) ∧
    ((sJob [8] oldEntry 0).tab.job = some ⟨[8], 12, 0, oldEntry, none, [], [], false⟩ ∧ 0 ≤ (sJob [8] oldEntry 0).time.cycles ∧
      (sJob [8] oldEntry 0).slot 8 = some ⟨⟨1, 3, 2 ^ 80⟩, false, false, false, 0, 0, none, false, 0, none⟩ ∧ 8 ≠ 12 ∧
      (sJob [8] oldEntry 0).tab.exm.wf (fun _ => .free) = true) ∧
    (oldEntry.key.ktype ≠ 0) ∧
    (sOld.tab.job = none ∧ sOld.slot 8 = some oldEntry ∧ oldEntry.batch = none ∧
      2 ^ 29 < (sOld.epoch + 2 ^ 32 - oldEntry.birth % 2 ^ 32) % 2 ^ 32) ∧
    (State.reset.fdieUp = true ∧ State.reset.tab.exm.l = [] ∧ Fld.LPM_V6_CONT_LEN0.get 96 = 96 ∧ Fld.LPM_V6_CONT_LEN1.get 96 = 0 ∧
      Fld.LPM_V6_CONT_LEN0.get 64 = 64) := by decide +kernel


def sLearn (l : List LearnEv) (rs : List FlapRec) : State := let s := State.reset.setFlag Reg.LRN_CFG Fld.LRN_CFG_EN true
  { s with lrn := { s.lrn with queue := l, recs := rs } }
def evA : LearnEv := ⟨7, 0x020000000001, 5, 0⟩
/-- The entry of the event's key in the first slot of its first bucket. -/
def sLearnt (e : ExmEntry) (rs : List FlapRec) : State := let s := sLearn [evA] rs
  s.setSlot (4 * s.bucket false (macKey 7 0x020000000001)) { e with key := macKey 7 0x020000000001 }
def recA (m c : Nat) (f : Option Nat) : FlapRec := ⟨macKey 7 0x020000000001, m, c, 0, 0, f⟩
theorem exmLive_sLearnt (e : ExmEntry) (rs : List FlapRec) (h1 : e.death = none) (h2 : e.batch = none) :
    ∃ i, (sLearnt e rs).exmLive (macKey 7 0x020000000001) = some (i, { e with key := macKey 7 0x020000000001 }) := by
  have hs (n : Nat) : (sLearnt e rs).slot n = if 4 * (sLearnt e rs).bucket false (macKey 7 0x020000000001) = n
      then some { e with key := macKey 7 0x020000000001 } else none := by
    simp [sLearnt, State.slot, State.setSlot, KMap.set, sLearn, State.reset, TabSt.init, KMap.empty, lins, lfind, State.bucket, ExmEntry.free,
      State.setFlag, State.setFld, State.setReg, macKey]
  have hm : 4 * (sLearnt e rs).bucket false (macKey 7 0x020000000001) ∈ (sLearnt e rs).candidates (macKey 7 0x020000000001) := by
    unfold State.candidates; simp only; split <;> simp [slotsOf]
  have : ((sLearnt e rs).exmLive (macKey 7 0x020000000001)).isSome = true := by
    unfold State.exmLive; rw [List.findSome?_isSome_iff]
    exact ⟨_, hm, by rw [hs, if_pos rfl]; simp [h1, h2]⟩
  obtain ⟨⟨i, x⟩, hx⟩ := Option.isSome_iff_exists.1 this
  refine ⟨i, hx.trans ?_⟩
  have hx' := hx
  unfold State.exmLive at hx'
  obtain ⟨n, -, hn⟩ := List.exists_of_findSome?_eq_some hx'
  rw [hs] at hn; split at hn <;> simp_all
theorem exmFreeSlot_sLearn : (∃ i, (sLearn [evA] []).exmFreeSlot (macKey 7 0x020000000001) = some i) ∧
    (sLearn [evA] []).exmLive (macKey 7 0x020000000001) = none := by
  have hs (n : Nat) : (sLearn [evA] []).slot n = none := by
    simp [State.slot, sLearn, State.reset, TabSt.init, KMap.empty, lfind, State.setFlag, State.setFld, State.setReg]
  constructor
  · rw [← Option.isSome_iff_exists, State.exmFreeSlot, List.find?_isSome]
    refine ⟨4 * (sLearn [evA] []).bucket false (macKey 7 0x020000000001), ?_, ?_⟩
    · unfold State.candidates; simp only; split <;> simp [slotsOf]
    · rw [hs, State.slotLost, State.regionLost, State.regionLost, show (sLearn [evA] []).mem.gone = .empty from by decide +kernel]; rfl
  · unfold State.exmLive; rw [List.findSome?_eq_none_iff]; intro n _; rw [hs]
theorem witness_LearningEngine :
    ((sLearnt { ExmEntry.free with result := 7 } []).lrn.queue = [evA] ∧ (sLearnt { ExmEntry.free with result := 7 } []).tab.job = none ∧
      (sLearnt { ExmEntry.free with result := 7 } []).lrn.removals = [] ∧
      (sLearnt { ExmEntry.free with result := 7 } []).flag Reg.LRN_CFG Fld.LRN_CFG_EN = true ∧
      (7 : Word) ≠ (sLearnt { ExmEntry.free with result := 7 } []).learnResult 5 ∧
      (sLearnt { ExmEntry.free with result := 7 } []).flapRec (macKey 7 0x020000000001) = none ∧
      (sLearnt { ExmEntry.free with result := 0x10000000 } []).learnResult 5 = 0x10000000) ∧
    ((sLearnt { ExmEntry.free with result := 7 } [recA 0 3 none]).flapRec (macKey 7 0x020000000001) = some (recA 0 3 none) ∧
      0 < (sLearnt { ExmEntry.free with result := 7 } [recA 0 3 none]).holdoff ∧ evA.inst / second = (recA 0 3 none).n) ∧
    ((sLearnt { ExmEntry.free with result := 7 } [recA (2 ^ 33) 0 none]).flapRec (macKey 7 0x020000000001) = some (recA (2 ^ 33) 0 none) ∧
      (sLearnt { ExmEntry.free with result := 7 } [recA (2 ^ 33) 0 none]).holdoff ≤ 2 ^ 33 - evA.inst) ∧
    ((sLearnt { ExmEntry.free with frozen := true } [recA 0 4 (some 0)]).flapRec (macKey (7 : BitVec 16).toNat (0x020000000001 : BitVec 48).toNat) =
        some (recA 0 4 (some 0)) ∧ (sLearnt { ExmEntry.free with frozen := true } [recA 0 4 (some 0)]).isFrozen (macKey 7 0x020000000001) = true ∧
      (sLearnt { ExmEntry.free with frozen := true } [recA 0 4 (some 0)]).fdieUp = true ∧
      0 ≤ (sLearnt { ExmEntry.free with frozen := true } [recA 0 4 (some 0)]).mono) ∧
    ((sLearn [] [recA 0 0 none]).flapRec (macKey (7 : BitVec 16).toNat (0x020000000001 : BitVec 48).toNat) = some (recA 0 0 none) ∧
      (recA 0 0 none).close ≤ (sLearn [] [recA 0 0 none]).mono) := by decide +kernel


def agedE (h : Bool) (m : Nat) : ExmEntry := ⟨macKey 7 0x020000000001, false, true, false, 0, 0, none, h, m, none⟩
def sAge : State := let s := (State.reset.setFlag Reg.LRN_CFG Fld.LRN_CFG_AGE_EN true).setReg Reg.LRN_SWEEP_NUM 2
  { ((((s.setSlot 0 (agedE true 0)).setSlot 1 (agedE false 1)).setSlot 2 (agedE false 0)).setSlot 3 { agedE false 0 with isStatic := true }) with
    lrn := { s.lrn with sweep := some (0, false) } }
def sAgeDue : State := { sAge with time := { sAge.time with master := 0xFFFFFFFFFFFFFFFFFFFFFFFF } }
def sRemove : State := let s := sLearnt (agedE false 1) []
  { s with lrn := { s.lrn with removals := [(macKey 7 0x020000000001, 1)] } }
theorem exmLive_sRemove : ∃ i, sRemove.exmLive (macKey 7 0x020000000001) = some (i, agedE false 1) := exmLive_sLearnt (agedE false 1) [] rfl rfl
theorem witness_AgingSweeps :
    ((KMap.get 0 sAgeDue.time.trig tgAge / sAgeDue.agePeriod + 1) * sAgeDue.agePeriod ≤ sAgeDue.now ∧
      sAgeDue.flag Reg.LRN_CFG Fld.LRN_CFG_AGE_EN = true ∧ sAgeDue.reg Reg.LRN_SWEEP_NUM ≠ 0xFFFFFFFF ∧
      sAge.now < (KMap.get 0 sAge.time.trig tgAge / sAge.agePeriod + 1) * sAge.agePeriod) ∧
    (sAge.lrn.sweep = some (0, false) ∧ (sAge.reg Reg.LRN_SWEEP_NUM).toNat = 2 ∧ sAge.lrn.removals.length + 4 ≤ 65536 ∧
      sAge.slot 0 = some (agedE true 0) ∧ sAge.slot 1 = some (agedE false 1) ∧ sAge.aged (agedE false 1) = true ∧
      sAge.slot 2 = some (agedE false 0) ∧ sAge.slot 3 = some { agedE false 0 with isStatic := true } ∧
      sAge.aged { agedE false 0 with isStatic := true } = false) ∧
    (sRemove.lrn.removals = [(macKey 7 0x020000000001, 1)] ∧ sRemove.tab.job = none ∧ (agedE false 1).mark = 1 ∧ (agedE false 1).learned = true ∧
      sRemove.prevLive = false) := by decide +kernel
theorem wf_sRemove : sRemove.tab.exm.wf (fun _ => .free) = true := by
  simp [sRemove, sLearnt, State.setSlot, KMap.set, sLearn, State.reset, TabSt.init, KMap.empty, lins, KMap.wf, lsorted, ExmEntry.free, State.setFlag,
    State.setFld, State.setReg, macKey, agedE]

/-- Bank 0 enabled with the L2 layout; operands zero. -/
def sAcl : State := State.reset.setFld (Reg.ACL_BANK_CFG 0) Fld.ACL_BANK_CFG_EN 1
def rowA : AclRow := ⟨1, 1, 0, true, true⟩
def sAclRow : State := sAcl.setAclRow 5 rowA
def sAclPhase (p : AclPhase) : State := { sAclRow with acl := { sAclRow.acl with batch := [(5, none), (6, some ⟨1, 1, 0, false, false⟩)], phase := p } }
theorem witness_AclCommands :
    (sAcl.fdieUp = true ∧ sAcl.flag Reg.ACL_STATUS Fld.ACL_STATUS_BUSY = false ∧ sAcl.acl.phase = .idle ∧ Fld.ACL_WR_CMD_BANK.get 5 = 0 ∧
      Fld.ACL_WR_CMD_UNIT.get 5 = 5 ∧ actOk (sAcl.reg64 Reg.ACL_WR_ACT_LO) = true ∧
      sAcl.regWords Reg.ACL_WR_KEY 10 < 2 ^ (80 * sAcl.bankWidth 0) ∧ sAcl.regWords Reg.ACL_WR_MASK 10 < 2 ^ (80 * sAcl.bankWidth 0) ∧
      sAcl.bankFld 0 Fld.ACL_BANK_CFG_EN = 1 ∧ 5 % sAcl.bankWidth 0 = 0 ∧ (sAcl.aclRow 5).held = false ∧ sAcl.acl.staged.length < 4096 ∧
      State.reset.bankFld 0 Fld.ACL_BANK_CFG_EN = 0) ∧
    ((sAclRow.aclRow 5).held = true ∧ sAclRow.bankFld 0 Fld.ACL_BANK_CFG_EN = 1 ∧ sAclRow.aclValid 0 5 = true) ∧
    ((sAcl.setFlag Reg.ACL_STATUS Fld.ACL_STATUS_BUSY true).flag Reg.ACL_STATUS Fld.ACL_STATUS_BUSY = true ∧ (sAclPhase .closed).acl.phase ≠ .idle) ∧
    ((sAclPhase .closed).acl.phase = .closed ∧ (sAclPhase .closed).prevLive = false ∧ ((sAclPhase .closed).acl.batch.map (·.1)).Nodup) ∧
    ((sAclPhase .published).acl.phase = .published ∧ (sAclPhase .published).acl.cmd = none ∧ (sAclPhase .published).prevLive = false) ∧
    (Fld.ACL_BANK_CFG_WIDTH.get 0x94000000 = layoutWidth (Fld.ACL_BANK_CFG_LAYOUT.get 0x94000000) ∧ sAcl.bankHolds 0 = false ∧
      sAclRow.bankHolds 0 = true ∧ Fld.ACL_BANK_CFG_LAYOUT.get 0x94000000 ≠ sAclRow.bankFld 0 Fld.ACL_BANK_CFG_LAYOUT ∧
      Fld.ACL_BANK_CFG_TAG_OFFSET.get 0x94000000 ≤ 154) ∧
    (sAcl.groupHolds 0 0 = false ∧ sAcl.groupHolds 0 1 = false) := by decide +kernel


def sPatOn : State := (State.reset.setFlag Reg.PAT_CFG Fld.PAT_CFG_EN true).setReg (Reg.PAT_SET_CFG 2) 0x80100000
def kPat : IPkt := { fullPkt .committed with acl := { AclOut.none with inspect := some 2 } }
def sPat : State := sPatOn.setPkt 0 kPat
def ctxA : PatCtx := ⟨0, 2, 9, List.replicate 8 0, false, none, true, 0, 0, 1, 0, 0, 0, none, 0⟩
def sPatCtx : State := sPatOn.setPatCtx 0 0 (some ctxA)
def sPatRow (res : Nat) : State := sPatCtx.setPatRow 0 ⟨true, true, 0, 0, res⟩
def sPatShort : State := sPatOn.setPatCtx 0 0 (some { ctxA with data := [0] })
def sPatEnded : State := { sPatOn with pat := { sPatOn.pat with ended := [{ ctxA with tail := some true, hit := some (1, 3) }] },
                                       time := { sPatOn.time with cycles := 10 } }
def sPatVerdict : State := { sPatOn with pat := { sPatOn.pat with verdicts := [⟨9, true, 3, 0⟩] } }
theorem witness_PatternEngine :
    (sPat.pkt 0 = some kPat ∧ kPat.acl.inspect = some 2 ∧ kPat.slice = 0 ∧ kPat.stage = .committed ∧ kPat.aclDone = false ∧ kPat.ps.horizon = false ∧
      sPat.flag Reg.PAT_CFG Fld.PAT_CFG_EN = true ∧ sPat.flag (Reg.PAT_SET_CFG 2) Fld.PAT_SET_CFG_EN = true ∧
      (List.range 8).find? (fun c => (sPat.patCtx 0 c).isNone) = some 0) ∧
    (sPatCtx.patCtx 0 0 = some ctxA ∧ ctxA.started = true ∧ ctxA.pos + 4 < min ctxA.data.length 4096 ∧ sPatCtx.patLookup ctxA 0 = none ∧
      (sPatRow 0).patLookup ctxA 0 = some ⟨true, true, 0, 0, 0⟩ ∧ (sPatRow (2 ^ 29)).patLookup ctxA 0 = some ⟨true, true, 0, 0, 2 ^ 29⟩ ∧
      (sPatRow (2 ^ 29)).patQueue 0 = [] ∧ ctxA.tail = none ∧ sPatCtx.patClass 2 0 = 0) ∧
    (sPatShort.patCtx 0 0 = some { ctxA with data := [0] }) ∧
    (sPatEnded.pat.ended.find? (fun y => y.pkt == 0) = some { ctxA with tail := some true, hit := some (1, 3) } ∧ 0 < sPatEnded.verdictLife) ∧
    (⟨9, true, 3, 0⟩ ∈ sPatVerdict.pat.verdicts ∧ 0 ≤ sPatVerdict.mono) ∧
    (sPatOn.fdieUp = true ∧ sPatOn.regWords Reg.PAT_WR_KEY 3 % 2 ^ 80 < 2 ^ 50 ∧ sPatOn.reg64 Reg.PAT_WR_RES_LO >>> 25 % 4 ≠ 3 ∧
      sPatOn.reg64 Reg.PAT_WR_RES_LO % 2 ^ 15 = 0 ∧ ((sPatRow 0).patRow 0).used = true ∧ (sPatOn.patRow 0).used = false) ∧
    (1 ≤ Fld.PAT_SET_CFG_BANK_COUNT.get 0x80100000 ∧
      Fld.PAT_SET_CFG_FIRST_BANK.get 0x80100000 + Fld.PAT_SET_CFG_BANK_COUNT.get 0x80100000 ≤ 32) := by decide +kernel

/-- Device 5, in incarnation 17, with lane 0 of bundle 0 active in both directions; bundle 0 reaches device 7. -/
def sFab : State :=
  let u := (State.reset.setReg (Reg.FAB_REACH 7) 0x01000000).setFlag Reg.DEV_DIE_STATUS Fld.DEV_DIE_STATUS_LINK_UP true
  let s := { u with regs := ⟨lins u.regs.l Reg.FAB_DEV_CFG 0x80050011⟩ }
  s.putLane 0 { LaneSt.init with st := lnActive, rx := lnActive }
def ithA : Ith := ⟨none, 0, 3, 0, 0, none, none, none⟩
def copyA : TCopy := ⟨0, .uni 7 10, ithA, zeros 48, some true, 0, 2, none⟩
def sCopy (c : TCopy) (x : SrcStream) : State := ((sFab.setTransit 0 [c]).setSrcS 7 2 x)
def hdrA (ty dst seq : Nat) : BitVec 128 := cellHdr ty 7 dst (if ty = 3 ∨ ty = 4 then 0 else 2) 16 seq 0 3 0 63 0
def sRx (x : DstStream) (sy inc : Nat) : State :=
  let s := sFab.setDstS 7 2 x
  { s with fab := { s.fab with synced := KMap.set 0 s.fab.synced 7 sy, incIn := KMap.set 0 s.fab.incIn 7 inc } }
def cellA (seq : Nat) : RxCell := ⟨false, 2, 16, seq, 0, 0, true, true, false, ithA, zeros 48⟩
def demandA (inc echo : Nat) : List Byte := beBytes 2 inc ++ beBytes 2 echo ++ zeros 100
theorem witness_FabricCells :
    (sFab.fabOn = true ∧ sFab.linkUsable = true ∧ (sCopy copyA { SrcStream.init with granted := 1 }).transitOf 0 = [copyA] ∧
      (sCopy copyA { SrcStream.init with granted := 1 }).pkt 0 = none ∧ copyA.data.length ≤ 240 ∧
      (sCopy copyA { SrcStream.init with granted := 1 }).laneOpen 0 = true ∧ (sFab.reach 7).testBit 0 = true ∧
      ((sCopy copyA { SrcStream.init with granted := 1 }).srcS 7 2).credit ≠ 0) ∧
    ((sCopy { copyA with prog := some [⟨7, 0, false, 0, 0⟩] } .init).reachable 7 = true ∧
      ((sCopy { copyA with prog := some [⟨7, 0, false, 0, 0⟩] } .init).srcS 7 2).credit = 0 ∧
      (sCopy { copyA with prog := some [⟨8, 0, false, 0, 0⟩] } .init).reachable 8 = false) ∧
    ((sFab.lane (laneNo 0 0)).rx = lnActive ∧ hdrHec 1 ≠ hBits 1 15 0 ∧ hdrHec (hdrA 5 5 0) = hBits (hdrA 5 5 0) 15 0 ∧
      hBits (hdrA 5 5 0) 127 124 = 5 ∧ hBits (hdrA 1 9 0) 112 102 ≠ sFab.devId ∧ hBits (hdrA 1 5 0) 112 102 = sFab.devId ∧
      KMap.get 0 sFab.fab.synced 7 ≠ 1 ∧ KMap.get 0 (sRx .init 1 9).fab.synced 7 = 1) ∧
    (((sRx .init 1 9).dstS 7 2).held = [] ∧ hBits (hdrA 1 5 0) 78 55 = ((sRx .init 1 9).dstS 7 2).exp ∧ hBits (hdrA 1 5 0) 123 113 = 7 ∧
      hBits (hdrA 1 5 0) 101 99 = 2 ∧ hBits (hdrA 1 5 (2 ^ 23)) 78 55 = 2 ^ 23 ∧ hBits (hdrA 1 5 (2 ^ 23 - 1)) 78 55 = 2 ^ 23 - 1) ∧
    (((sRx { DstStream.init with held := [(cellA 3, 0)] } 1 9).dstS 7 2).held = [(cellA 3, 0)] ∧
      0 < (sRx { DstStream.init with held := [(cellA 3, 0)] } 1 9).reorderSpan ∧
      (let s := sRx { DstStream.init with held := [(cellA 3, 0)] } 1 9
       let u := { s with time := { s.time with mono := 2 ^ 64 } }
       0 + u.reorderSpan ≤ u.mono)) ∧
    (hBits (hdrA 3 5 0) 127 124 = 3 ∧ hdrHec (hdrA 3 5 0) = hBits (hdrA 3 5 0) 15 0 ∧ sFab.fab.bund = .empty ∧
      KMap.get 0 (sRx .init 1 9).fab.incIn 7 = beAt (demandA 9 0) 0 2 ∧ KMap.get 0 sFab.fab.incIn 7 = 0 ∧
      beAt (demandA 9 0) 0 2 ≠ 0 ∧ beAt (demandA 9 17) 2 2 = sFab.incarnation) ∧
    (hBits (hdrA 4 5 0) 127 124 = 4 ∧ KMap.get 0 sFab.fab.incOut 7 = beAt (demandA 0 0) 0 2 ∧ beAt (demandA 0 3) 2 2 ≠ sFab.incarnation) ∧
    ((sRx { DstStream.init with backlog := 5 } 1 9).leaseOver = false ∧
      (sRx { DstStream.init with backlog := 5 } 1 9).fab.dst.l = [(strm 7 2, { DstStream.init with backlog := 5 })] ∧
      (sRx { DstStream.init with backlog := 5 } 1 9).classW 2 = 1 ∧
      (sRx { DstStream.init with backlog := 5 } 1 9).fab.dst.wf (fun _ => .init) = true ∧
      (sRx { DstStream.init with backlog := 5 } 1 9).outstanding ≤ (sRx { DstStream.init with backlog := 5 } 1 9).cap ∧
      (let s := sFab
       { s with time := { s.time with lease := some 0 } }.leaseOver = true)) ∧
    (sFab.fab.refresh ≤ sFab.mono ∧ sFab.backlog 7 2 = 0 ∧ ((sFab.setSrcS 7 2 { SrcStream.init with granted := 4 }).srcS 7 2).credit = 4 ∧
      (sFab.setSrcS 7 2 { SrcStream.init with granted := 4 }).backlog 7 2 = 0 ∧
      sFab.mono < 0 + expSpan (sFab.fld Reg.FAB_FLOW_CFG Fld.FAB_FLOW_CFG_HOLD)) := by decide +kernel


/-- The interface with lane 1 of bundle 0 as given, and at an elapsed time. -/
def sLane (x : LaneSt) : State := let s := sFab.putLane 1 x; { s with time := { s.time with mono := 2 ^ 64 } }
def peerA : LaneSt := { LaneSt.init with st := lnPeer, dev := 9, bundle := 2, lane := 1, ver := 1, seen := true }
def sLone (x : LaneSt) : State := (sLane x).putLane 0 .init
theorem witness_FabricLanes :
    ((sLane { LaneSt.init with st := lnSignal }).fabOn = true ∧ ((sLane { LaneSt.init with st := lnSignal }).lane (laneNo 0 1)).st = lnSignal) ∧
    (((sLane { LaneSt.init with st := lnCwLock, aligns := 2 }).lane 1).aligns < 3 ∧
      3 ≤ ((sLane { LaneSt.init with st := lnCwLock, aligns := 3 }).lane 1).aligns) ∧
    ((∀ m ∈ bundleLanes 0, m ≠ laneNo 0 1 → ((sLone peerA).lane m).st < lnPeer ∨ ((sLone peerA).lane m).st = lnFailed) ∧
      (9 : Nat) ≠ (sLone peerA).devId ∧ (sLone peerA).fabOn = true) ∧
    ((sLone peerA).peerOk 0 1 = true ∧ ((sLone { peerA with readies := 2 }).peerOk 0 1 = true) ∧
      2 ≤ ((sLone { peerA with readies := 2 }).lane (laneNo 0 1)).readies) ∧
    ((sFab.lane (laneNo 0 0)).st = lnActive ∧ (sFab.bund 0).down = none ∧ (sFab.bund 0).rxDown = none ∧
      ((sFab.putLane 2 { LaneSt.init with st := lnQuiet }).putLane 3 { LaneSt.init with st := lnQuiet }).pairIs 0 1 lnQuiet = true) ∧
    ((sFab.lane (laneNo 0 0)).unc ≤ 64) ∧
    (((sLane { LaneSt.init with st := lnFailed }).lane 1).failAt + spanExp 4 ≤ (sLane { LaneSt.init with st := lnFailed }).mono ∧
      (sLane { LaneSt.init with st := lnFailed, failAt := 2 ^ 32 }).mono < 2 ^ 32 + spanExp 4) ∧
    (sFab.linkQuiesced = false ∧ (0x80000003 : BitVec 32).toNat.testBit 31 = true ∧ (sFab.lane (laneNo 0 1)).st = lnDown) ∧
    (sFab.tdieUp = true ∧ sFab.fabEn = true ∧ { sFab with regs := ⟨[(Reg.FAB_DEV_CFG, 0)]⟩ }.fabEn = false) ∧
    (((sLane { LaneSt.init with st := lnQuiet }).lane (laneNo 0 1)).st = lnQuiet ∧
      ((sLane { LaneSt.init with st := lnQuiet }).lane 1).burst ≤ (sLane { LaneSt.init with st := lnQuiet }).mono) := by decide +kernel


def sBund (x : BundSt) : State := let s := sFab.setBund 0 x; { s with time := { s.time with mono := 2 ^ 64 } }
def sWide : State := (((sFab.putLane 1 { LaneSt.init with rx := lnActive })).putLane 2 { LaneSt.init with st := lnQuiet }).putLane 3 { LaneSt.init with st := lnQuiet }
def sBusy (x : BundSt) : State := let s := sWide.setBund 0 x; { s with time := { s.time with master := 2 ^ 64 } }
def shiftA : Shift := ⟨0, 6, 0, 0, false⟩
theorem witness_Derailleur :
    (sWide.fabOn = true ∧ (sWide.bund 0).ans = none ∧ (sWide.bund 0).rxDown = none ∧ sWide.outstanding + 512 ≤ sWide.cap) ∧
    (sWide.pairIs 0 1 lnQuiet = true ∧ sWide.pairIs 0 2 lnQuiet = false) ∧
    ((sBund { BundSt.init with ans := some (6, true) }).bund 0).ans = some (6, true) ∧
    (((sWide.setDstS 7 2 { DstStream.init with granted := 1 }).outstanding + 512 > (sWide.setDstS 7 2 { DstStream.init with granted := 1 }).cap) ∧
      512 ≤ (sWide.setDstS 7 2 { DstStream.init with granted := 1 }).cap) ∧
    (((sBund { BundSt.init with down := some shiftA }).bund 0).down = some shiftA ∧ shiftA.pair = 0 ∧ shiftA.num = 6) ∧
    (((sBund { BundSt.init with down := some { shiftA with acked := true } }).bund 0).down = some { shiftA with acked := true } ∧
      ((sBund .init).lane (laneNo 0 0)).st = lnActive ∧ ((sBund .init).lane 1).st ≠ lnQuiet ∧
      (((sBund .init).putLane 1 { LaneSt.init with st := lnQuiet }).lane 1).st = lnQuiet) ∧
    (((sBund { BundSt.init with rxDown := some { shiftA with acked := true } }).bund 0).rxDown = some { shiftA with acked := true }) ∧
    (((sBund { BundSt.init with rxDown := some shiftA }).bund 0).rxDown = some shiftA ∧ shiftA.at_ + spanExp 16 ≤ (sBund .init).mono ∧
      sFab.mono < shiftA.at_ + spanExp 16) ∧
    (shiftA.at_ + spanExp 20 ≤ (sBund .init).mono ∧ shiftA.tries < 4 ∧ ((sBund { BundSt.init with down := some { shiftA with tries := 4 } }).bund 0).up = none) ∧
    ((sBusy .init).trigDue (tgDer 0) (spanExp 16) = true ∧ sWide.trigDue (tgDer 0) (spanExp 16) = false ∧ (sBusy .init).activeTx 0 ≠ 0 ∧
      95 * (196000000000 * (sBusy { BundSt.init with bytes := 400000 }).activeTx 0) ≤ 400000 * 8 * 65536 * 100) ∧
    (let s := sFab.putLane 0 { LaneSt.init with rx := lnQuiet }
     let u := { s.putLane 1 { LaneSt.init with rx := lnQuiet } with fab := { (s.putLane 1 { LaneSt.init with rx := lnQuiet }).fab with limited := some 0 } }
     let v := { u with time := { u.time with follower := 2 ^ 64 } }
     v.fab.limited = some 0 ∧ (0 + spanExp 16 - 1) / spanExp 16 * spanExp 16 + spanExp 16 ≤ v.nowT ∧ (v.bund 0).up = none ∧
       v.pairRx 0 0 lnQuiet = true) := by decide +kernel


theorem witness_FabricFirmware :
    (sFab.fabOn = true ∧ (zeros 31).length = 31 ∧ sFab.linkQuiesced = false ∧ sFab.tdieUp = true ∧
      Fld.FAB_TIME_TX_LANE.get 0x00000007 = 0 ∧ (sFab.lane (laneNo 0 0)).st = lnActive ∧ Fld.FAB_TIME_TX_LANE.get 0x001F0000 = 31 ∧
      (65537 : Nat) % 65536 ≠ Fld.FAB_MCL_CMD_LIST.get 2) := by decide +kernel

/-- Quadrant 0 with its pools on; queue 0 enabled, with a guarantee of 1,000 KiB, on the recirculation port. -/
def sTm : State :=
  let s := State.reset.setFlag (Reg.BUF_CFG 0) Fld.BUF_CFG_EN true
  { s with sch := { s.sch with cfg := KMap.set 0 s.sch.cfg (nodeKey 1 0) (32 * 2 ^ 67) },
           tm := { s.tm with qcfg := KMap.set 0 s.tm.qcfg 0 (1000 * 2 ^ 104 + 2000 * 2 ^ 80 + 2 ^ 29) } }
def resA : Residue := ⟨1, 0, none, ithA, zeros 100, 0, 1000⟩
def sRes (mono : Nat) : State := let s := sTm.setResidue 0 [resA]
  { s with time := { s.time with mono := mono * 2 ^ 32 }, tm := { s.tm with store := KMap.set none s.tm.store 1 (some ⟨0, [0], 0, true⟩) } }
def sCrossing (p : Option Nat) (st : EgStage) : State :=
  let c : Copy := ⟨p, 0, 112, ithA, zeros 100, false, none, [7, 8], 0⟩
  let s := (sTm.setStored 1 (some ⟨0, [0], 1, false⟩)).setPageRef 0 7 2
  { s with eg := { s.eg with copies := KMap.set none s.eg.copies 4 (some ⟨c, 0, 0, st, false, 0, [], 0, 0, false, 0⟩) } }
def sQuar : State := State.reset.quarantine 0 1
theorem witness_BuffersAndReplication :
    (((sRes 2000).quad 0).residue[0]? = some resA ∧ resA.deadline ≤ (sRes 2000).mono) ∧
    ((sRes 0).copyReady 0 (admSize 104 false) false = true ∧ (sRes 0).mono < resA.deadline) ∧
    ((sRes 0).redTest 0 ithA (zeros 100) = (.pass, ((sRes 0).redTest 0 ithA (zeros 100)).2) ∧ (sRes 0).spilling 0 = false ∧
      (sRes 0).pdFree 0 ≠ 0 ∧ (sRes 0).canTake 0 2 = true) ∧
    (((sRes 0).setFlag Reg.BOOT_STATUS Fld.BOOT_STATUS_KICKSTAND true).hasRoom 9 112 = false) ∧
    ((KMap.get none (sCrossing none .crossing).eg.copies 4).isSome = true ∧ (sCrossing none .crossing).pageRef 0 7 = 2 ∧
      (sCrossing (some 1) .done).stored 1 = some ⟨0, [0], 1, false⟩) ∧
    (sQuar.quarantined 0 1 = true ∧ KMap.get 0 (sQuar.quad 0).owe 1 = 0 ∧ sTm.quarantined 0 1 = false) ∧
    (State.reset.tdieUp = true ∧ State.reset.linkQuiesced = false ∧ sTm.bufEn 0 = true ∧ State.reset.bufEn 0 = false ∧
      (State.reset.setReg (bufReg 0 .pool0) (1 &&& bufMask .pool0)).sramBytes 0 ≤ 36 * 2 ^ 20 ∧
      36 * 2 ^ 20 < (State.reset.setReg (bufReg 0 .pool0) (0x3FFFF &&& bufMask .pool0)).sramBytes 0) ∧
    (bitsOf (State.reset.qdata 0) 28 0 = 0 ∧ qAlpha (State.reset.qdata 0) < 12 ∧
      State.reset.nodeLost lvClass 0 = false ∧ 12 ≤ qAlpha ((State.reset.setReg (Reg.ADM_QDATA 0 1) 0xF00000).qdata 0) ∧ (sTm.queue 0).drops < 2 ^ 32) ∧
    ((State.reset.reg (Reg.MCR_WR_DATA_LO 0)).toNat % 32 = 0 ∧ ((State.reset.setReg (Reg.MCR_WR_DATA_LO 0) 1).reg (Reg.MCR_WR_DATA_LO 0)).toNat % 32 ≠ 0 ∧
      ((State.reset.setReg (Reg.MCR_WR_DATA_LO 0) 0x40000).reg (Reg.MCR_WR_DATA_LO 0)).toNat / 2 ^ 18 % 2 ^ 13 ≠ 0) := by decide +kernel

/-- Queue 0, with a shaped class node, on the LOOPBACK port of quadrant 0: every node of its path is enabled. -/
def sSch (copies : List Copy) : State :=
  let s := sTm.setFlag (Reg.SCH_CFG 0) Fld.SCH_CFG_EN true
  let en : BitVec 128 := 2 ^ 127
  let c1 := KMap.set 0 (KMap.set 0 s.sch.cfg (nodeKey 0 33) en) (nodeKey 1 0) (en + 33 * 2 ^ 67)
  let c2 := KMap.set 0 (KMap.set 0 c1 (nodeKey 2 0) en) (nodeKey 3 0) (en + 2 ^ 126 + 2 ^ 103 + 2 ^ 80)
  { s with sch := { s.sch with cfg := c2 }, tm := { s.tm with queues := KMap.set .init s.tm.queues 0 { QSt.init with copies := copies, depth := 112 } } }
def copyQ : Copy := ⟨none, 0, 112, ithA, zeros 100, false, none, [], 0⟩
def sWheel (c : Int) : State := (sSch []).setNode 3 0 ⟨c, 0, some (5, 0), 0⟩
def sSample (r : Option Round) : State :=
  let s := (State.reset.setFlag (Reg.SCH_SAMPLE_CFG 0) Fld.SCH_SAMPLE_CFG_EN true).setRound 0 r
  { s with time := { s.time with follower := 2 ^ 70 } }
def sSampleRing : State :=
  ((sSample (some ⟨0, 8⟩)).setFld (Reg.RING_CFG 0) Fld.RING_CFG_KIND rkSample).setRingState 0 rsRunning
theorem witness_Scheduler :
    (State.reset.flag (Reg.SCH_CFG 0) Fld.SCH_CFG_EN = false) ∧
    ((sSch [copyQ]).flag (Reg.SCH_CFG 0) Fld.SCH_CFG_EN = true ∧ (sSch [copyQ]).tdieUp = true ∧ (sSch [copyQ]).egServes 0 = true ∧
      (sSch []).eligible 0 = [] ∧ (sSch [copyQ]).eligible 0 = [0] ∧ (sSch [copyQ]).queuePort 0 = 33 ∧ toRing (portOfNode 33) = false ∧
      ((sSch [copyQ]).queue 0).copies = [copyQ] ∧ cfgShape ((sSch [copyQ]).nodeCfg lvClass 0) = true) ∧
    (((sWheel 5).node 3 0).wheel = some (5, 0) ∧ nodeQuad 3 0 = 0 ∧ 0 ≤ (sWheel 5).nowT ∧ 0 ≤ (sWheel 5).creditAt 3 0 (sWheel 5).nowT ∧
      (sWheel (-5)).creditAt 3 0 (sWheel (-5)).nowT < 0 ∧ cfgRate ((sWheel (-5)).nodeCfg 3 0) ≠ 0) ∧
    (Fld.SCH_NCMD_INDEX.get 36 = 36 ∧ Fld.SCH_NCMD_LEVEL.get 36 = 0 ∧ levelSize 0 = 36 ∧ State.reset.linkQuiesced = false ∧
      State.reset.nodeLost 3 0 = false ∧ nodeCfgOk 3 (State.reset.schData 0) = true ∧
      nodeCfgOk 3 ((State.reset.setReg (Reg.SCH_NDATA 0 0) 1).schData 0) = false) ∧
    ((sWheel 5).packetMode (portOfNode (36 * 0 + 32)) = false ∧ ((sWheel 5).setReg (Reg.SCH_PORT_CFG 0 32) 0).packetMode (portOfNode (36 * 0 + 32)) = true) ∧
    ((sSample none).round 0 = none ∧ (sSample none).tdieUp = true ∧
      KMap.get 0 (sSample none).time.trig (tgSample 0) / (sSample none).sampleSpan 0 < (sSample none).nowT / (sSample none).sampleSpan 0) ∧
    ((sSample (some ⟨0, 8⟩)).round 0 = some ⟨0, 8⟩ ∧ (sSample (some ⟨0, 8⟩)).ringState ((sSample (some ⟨0, 8⟩)).sampleRing 0) ≠ rsRunning) ∧
    (sSampleRing.round 0 = some ⟨0, 8⟩ ∧ sSampleRing.ringKind (sSampleRing.sampleRing 0) = rkSample ∧ sSampleRing.ringOwner 0 < 1024 ∧
      sSampleRing.ringState (sSampleRing.sampleRing 0) = rsRunning ∧ sSampleRing.freeSlots (sSampleRing.sampleRing 0) ≠ 0) := by decide +kernel


def listA : GateList := ⟨[(64, 0, 1)], 4096, 0⟩
/-- Line port 0 up, with gates as given and one staged frame of class 0. -/
def sGate (g : GateSt) (en : Bool) (st : EgStage) : State :=
  let s := ((sPort true true 2).setFlag (gateCfg 0) Fld.GATE_CFG_EN en).setGate 0 g
  s.setEgCopy 4 (some ⟨copyQ, 0, 0, st, false, 0, zeros 60, 64, 0, false, 0⟩)
def sGo : State :=
  let s := (State.reset.setReg (Reg.GATE_ADMIN_CYCLE 0 0) 4096).setFld (Reg.GATE_ADMIN_LEN 0 0) Fld.GATE_ADMIN_LEN_VAL 1
  s.setGate 0 { GateSt.init with admin := KMap.set (0, 0, 0) .empty 0 (64, 0, 1) }
theorem witness_TimeGates :
    (State.reset.fdieUp = true ∧ (State.reset.gate 0).pend = none ∧ ((sGate { GateSt.init with pend := some (listA, 9) } true .staged).gate 0).pend = some (listA, 9) ∧
      ((sGate { GateSt.init with oper := some listA } true .staged).gate 0).oper = some listA) ∧
    ((State.reset.adminList 0).ok = false ∧ (sGo.adminList 0).ok = true) ∧
    ((sGate { GateSt.init with pend := some (listA, 9) } true .staged).now < 9 ∧ 0 ≤ (sGate { GateSt.init with pend := some (listA, 0) } true .staged).now) ∧
    ((sGate { GateSt.init with oper := some listA } true .staged).gateEn 0 = true ∧
      listA.base ≤ (sGate { GateSt.init with oper := some listA } true .staged).now ∧ listA.at_ 0 = some (0, 0, 1) ∧
      (sGate { GateSt.init with oper := some listA } true .staged).preActive 0 = true) ∧
    (State.reset.portOtn 0 = false ∧ ((State.reset.setFld (portCfg 0) Fld.PORT_CFG_KIND 1).portOtn 0) = true ∧ Fld.GATE_CFG_EN.get 0x80000000 = 1) ∧
    ((sGate .init false .staged).fdieUp = true ∧ (sGate .init false .staged).portEn 0 = true ∧ (sGate .init false .staged).linkUp 0 = true ∧
      ((sGate .init false .staged).stageHeads 0).length = 1 ∧ (sGate .init false .staged).tooLong 0 0 64 = false ∧
      (sGate .init false .staged).leaseOver = false ∧ (sGate .init false .staged).txNow 0 false = none ∧ (sGate .init false .staged).txNow 0 true = none ∧
      (sGate .init false .staged).eg.copies.wf (fun _ => none) = true) ∧
    ((sGate .init false .staged).mayLeave 0 0 64 ((sGate .init false .staged).now + (sGate .init false .staged).txLat 0) = true) ∧
    ((sGate { GateSt.init with oper := some { listA with entries := [(64, 0, 1), (64, 0, 2)] } } true .staged).tooLong 0 0 4000 = true) ∧
    ((sGate { GateSt.init with oper := some { listA with entries := [(64, 0, 0)] } } true .staged).listAt 0 5 =
      some { listA with entries := [(64, 0, 0)] } ∧ ({ listA with entries := [(64, 0, 0)] } : GateList).openAt 0 5 = false) := by decide +kernel


def egA (p : Nat) (st : EgStage) : EgCopy := ⟨copyQ, 0, p, st, false, 0, [], 0, 0, false, 0⟩
def sEg (x : EgCopy) : State := (sPort true true 2).setEgCopy 4 (some x)
def rxA : RxWrite :=
  { punt := none, eg := some 4, used := [], descs := [], rest := [], reason := 0, source := 0, instant := 0, dry := none, whole := false, endSt := none,
    slice := 0, room := 0, cut := false }
def sEgRing : State := let s := sEg (egA 128 .released); s.setRing 0 { s.ring 0 with rx := [rxA] }
theorem witness_EgressSlices :
    ((sEg (egA 0 .staged)).egCopy 4 = some (egA 0 .staged)) ∧ (isDrain 134 = true ∧ (sEg (egA 134 .crossing)).fdieUp = true) ∧
    (isDrain 128 = false ∧ (sEg { egA 128 .crossing with expired := true }).egCopy 4 = some { egA 128 .crossing with expired := true }) ∧
    ((sEg (egA 0 .crossing)).linkUp 0 = true ∧ copyQ.encap = none ∧ typeAt copyQ.data + 2 ≤ copyQ.data.length ∧
      (sEg (egA 0 .crossing)).secApplies 0 copyQ.data = false ∧ max 60 copyQ.data.length + 4 ≤ (sEg (egA 0 .crossing)).maxFrame 0 ∧
      ((sEg (egA 0 .crossing)).setFld (portCfg 0) Fld.PORT_CFG_MAX_FRAME 64).maxFrame 0 < max 60 copyQ.data.length + 4) ∧
    ((sEg (egA 0 .released)).tdieUp = true ∧ (sEg (egA 0 .released)).commitStalls 0 = false ∧ copyQ.hdr.oneStep = none ∧ copyQ.hdr.ptp = none ∧
      (sEg (egA 0 .released)).secApplies 0 [] = false ∧ (sEg (egA 0 .released)).metered = true ∧ (sEg (egA 0 .released)).linkQuiesced = false) ∧
    (((sEg (egA 0 .released)).setFlag Reg.DEV_DIE_STATUS Fld.DEV_DIE_STATUS_QUIESCED true).linkQuiesced = true) ∧
    ((sEgRing.ring (ringOfQueue 128 copyQ.queue)).rx = [rxA] ∧ rxA.eg = some 4 ∧ sEgRing.egCopy 4 = some (egA 128 .released)) := by decide +kernel

theorem witness_MemoryProtection :
    (State.reset.ageLimit (.tdc 0) ≤ (0xFFFFFFFF : BitVec 32).toNat ∧ (0 : BitVec 32).toNat < State.reset.ageLimit (.hbm 0)) ∧
    ((0x80000000 : BitVec 32).getLsbD 31 = true ∧ State.reset.flag (Reg.TDC_CH_CFG 3) Fld.TDC_CH_CFG_EN = false ∧
      (State.reset.setFlag (Reg.TDC_CH_CFG 3) Fld.TDC_CH_CFG_EN true).flag (Reg.TDC_CH_CFG 3) Fld.TDC_CH_CFG_EN = true) ∧
    (State.reset.tdieUp = true ∧ State.reset.linkQuiesced = false ∧ State.reset.flag (Reg.HBMC_ST_CFG 3) Fld.HBMC_ST_CFG_EN = false) ∧
    (isMeter (.hbm 0 0 0 0) = false ∧ (State.reset.setFld Reg.TDC_CFG Fld.TDC_CFG_NR_K 0).fld Reg.TDC_CFG Fld.TDC_CFG_NR_K = 0 ∧
      (State.reset.setFld Reg.HBMC_CFG Fld.HBMC_CFG_NR_K 0).fld Reg.HBMC_CFG Fld.HBMC_CFG_NR_K = 0 ∧ (corrCtr (.hbm 0 0 0 0)).isSome = true ∧
      (3 : Fin 26).val < 24) := by decide +kernel


def sHot (f cool : Nat) : State :=
  let s := State.reset.setFld Reg.THM_STATUS Fld.THM_STATUS_FDIE_TEMP f
  { s with time := { s.time with master := 2 ^ 64 }, thm := { s.thm with cool := cool } }
def sSpareUsed : State := ((sPkt (fullPkt .parsed)).setBit Reg.PWR_SPARE_STAGE 0)
theorem witness_ThermalAndFences :
    (State.reset.aon.held = false ∧ State.reset.aon.trip = false ∧ (120 : BitVec 8).toNat = 120 ∧ (200 : BitVec 8).toNat = 200 ∧
      { State.reset with aon := { State.reset.aon with held := true } }.aon.held = true ∧ State.reset.thm.hbmOver = .empty) ∧
    (State.reset.trigDue tgGov (spanExp 10) = false ∧ (sHot 101 0).trigDue tgGov (spanExp 10) = true ∧
      (sHot 101 0).flag Reg.THM_CFG Fld.THM_CFG_GOV_EN = true ∧
      (sHot 101 0).govTemp < max ((sHot 101 0).fld Reg.THM_STATUS Fld.THM_STATUS_FDIE_TEMP) ((sHot 101 0).fld Reg.THM_STATUS Fld.THM_STATUS_TDIE_TEMP) ∧
      max ((sHot 97 15).fld Reg.THM_STATUS Fld.THM_STATUS_FDIE_TEMP) ((sHot 97 15).fld Reg.THM_STATUS Fld.THM_STATUS_TDIE_TEMP) +
        (sHot 97 15).govHyst ≤ (sHot 97 15).govTemp) ∧
    (State.reset.spareStageUsed 0 = false ∧ sSpareUsed.spareStageUsed 0 = true ∧ sSpareUsed.isFenced 0 = false ∧
      sSpareUsed.pkt 0 = some (fullPkt .parsed) ∧ (sSpareUsed.setBit Reg.PWR_FENCE 0).isFenced 0 = true ∧
      (sPkt (fullPkt .committed)).pkt 0 = some (fullPkt .committed) ∧ (sPkt (fullPkt .committed)).ing.pkts.wf (fun _ => none) = true) ∧
    (State.reset.sliceStand 0 ≠ 1 ∧ (State.reset.setStand 0 1).sliceStand 0 = 1) ∧
    (State.reset.fld (Reg.CPX_CAP 1) Fld.CPX_CAP_SPARES ≠ 0 ∧ (State.reset.setFld (Reg.CPX_CAP 1) Fld.CPX_CAP_SPARES 0).fld (Reg.CPX_CAP 1) Fld.CPX_CAP_SPARES = 0) ∧
    (spareRows (memKind (.tableDram 0 0 0 0)) ≤ KMap.get 0 State.reset.mem.spare (goneKey 0 (State.reset.memRegion (.tableDram 0 0 0 0))) ∧
      KMap.get 0 State.reset.mem.spare (goneKey 1 (State.reset.memRegion (.hbm 0 0 0 0))) < spareRows (memKind (.hbm 0 0 0 0))) := by decide +kernel

def sPend : State :=
  (State.reset.setFn 3 { FuncSt.init with bme := true, msixEn := true }).setVec 3 5 { VecSt.init with pend := true, masked := false }
theorem witness_HostPortLinks :
    (State.reset.kickstand = false ∧ State.reset.flag (Reg.HIF_PORT_CFG 0) Fld.HIF_PORT_CFG_EN = true ∧
      State.reset.flag (Reg.HIF_PORT_CFG 3) Fld.HIF_PORT_CFG_EN = false) ∧
    ((0x80000008 : BitVec 32).getLsbD 31 = true ∧ (0x00000008 : BitVec 32).getLsbD 31 = false ∧ State.reset.hif.funcs = .empty) ∧
    ((sPend.vec 3 5).pend = true ∧ (sPend.fn 3).bme = true ∧ (sPend.fn 3).msixEn = true ∧ (sPend.vec 3 5).masked = false ∧
      sPend.vecReady 3 5 = true ∧ (sPend.vec 3 6).pend = false) := by decide +kernel


def sFn (f : Nat) (x : FuncSt) : State := (State.reset.setFn f x).setFlag (Reg.HIF_PORT_STATUS 0) Fld.HIF_PORT_STATUS_LINK_UP true
def sFnRing (st kind : Nat) : State :=
  ((((sFn 0 { FuncSt.init with bme := true, msixEn := true }).setFld (Reg.RING_CFG 3) Fld.RING_CFG_KIND kind).setFld (Reg.RING_CFG 3)
    Fld.RING_CFG_LOG2SIZE 6).setReg64 (Reg.RING_CPL_BASE_LO 3) 0x2000).setRingState 3 st
def tagA (f : Nat) (u : ReadFor) : TagSt := ⟨f, u, 64, 100, []⟩
def cfgA : FnCfg := ⟨true, false, 2, 2, false, 0⟩
theorem witness_FunctionWithdrawal :
    (State.reset.flrBusy 0 = false ∧ (State.reset.setFlag (Reg.HIF_FUNC_STATUS 0 0) Fld.HIF_FUNC_STATUS_FLR_BUSY true).flrBusy 0 = true ∧
      ((sFnRing rsRunning 1).fn 0).bme = true ∧ 3 ∈ (sFnRing rsRunning 1).ringsUsed ∧ (sFnRing rsRunning 1).ringOwner 3 = 0 ∧
      (sFnRing rsRunning 1).ringState 3 = rsRunning ∧ (sFnRing rsStopping 1).ringState 3 = rsStopping ∧
      (sFnRing rsRunning 1).hif.tags.l.any (fun (_, x) => x.func == 0) = false ∧
      ((sFnRing rsRunning 1).setTag 7 (tagA 0 .stale)).hif.tags.l.any (fun (_, x) => x.func == 0) = true) ∧
    (State.reset.presented 0 = false ∧ (sFn 0 .init).presented 0 = true ∧ ((sFn 0 .init).fn 0).vfEnable = false ∧
      ((sFn 0 { FuncSt.init with vfEnable := true }).fn 0).vfEnable = true ∧ cfgA.vfEnable = false) ∧
    (lfind (((sFn 7 .init).setTag 9 (tagA 7 .stale)).hif.tags.l) 9 = some (tagA 7 .stale) ∧ (tagA 7 .stale).func = 7) ∧
    (((sFnRing rsRunning 1).setFld (Reg.RING_OWNER 3) Fld.RING_OWNER_ID 7).ringOwner 3 = 7 ∧
      3 ∈ ((sFnRing rsRunning 1).setFld (Reg.RING_OWNER 3) Fld.RING_OWNER_ID 7).ringsUsed) := by decide +kernel


def sApt : State :=
  ({ State.reset with hif := { State.reset.hif with apt := KMap.set .init .empty 0 ⟨true, true, 511⟩ } }).setFld (Reg.HIF_APT_FUNC 0 0) Fld.HIF_APT_FUNC_COUNT 1
def sAptCmd (loc : Nat) : State :=
  ((State.reset.setFlag Reg.HIF_APT_DATA Fld.HIF_APT_DATA_VALID true).setFlag Reg.HIF_APT_DATA Fld.HIF_APT_DATA_MEM false).setFld Reg.HIF_APT_DATA
    Fld.HIF_APT_DATA_LOC loc
theorem witness_ApertureAndInternalErrors :
    (sApt.fld Reg.BOOT_STATUS Fld.BOOT_STATUS_STATE ≠ bootLoad ∧ sApt.aperture 0 0x123 = some ⟨true, true, 511⟩ ∧ sApt.aperture 0 0x4000000 = none) ∧
    ((State.reset.setFld Reg.BOOT_STATUS Fld.BOOT_STATUS_STATE bootLoad).fld Reg.BOOT_STATUS Fld.BOOT_STATUS_STATE = bootLoad) ∧
    ((sAptCmd 0).fld Reg.HIF_APT_CMD_IDX Fld.HIF_APT_CMD_IDX_INDEX = 0 ∧ (sAptCmd 0).flag Reg.HIF_APT_DATA Fld.HIF_APT_DATA_VALID = true ∧
      (sAptCmd 0).flag Reg.HIF_APT_DATA Fld.HIF_APT_DATA_MEM = false ∧ (sAptCmd 0).fld Reg.HIF_APT_DATA Fld.HIF_APT_DATA_LOC = 0 ∧
      (sAptCmd 0).flag Reg.BOOT_UPG_BUF Fld.BOOT_UPG_BUF_VALID = false ∧ (sAptCmd 1).granuleOk false 1 = false ∧
      ((sAptCmd 12).granuleOk false 12 = true)) := by decide +kernel

def sTag (u : ReadFor) (due mono : Nat) : State :=
  let s := { State.reset.setTag (tagKey 0 9) ⟨3, u, 4, due, [1]⟩ with time := { TimeSt.init with mono := mono * 2 ^ 32 } }
  s.setRing 5 { s.ring 5 with
    tx := [⟨2, [(0, 4)], false, false, 0, .empty, 0, false⟩]
    shadow := some ⟨1, 0, 0, 0, 0, 1, 0, 0, 0, [], true, false⟩ }
theorem witness_DeviceReads :
    ((sTag (.txData 5 2 0) 7 7).tag 0 9 = some ⟨3, .txData 5 2 0, 4, 7, [1]⟩ ∧ 7 ≤ (sTag (.txData 5 2 0) 7 7).mono ∧
      (sTag (.txData 5 2 0) 7 6).mono < 7 ∧ (sTag (.descFetch 5 0 1) 7 7).tag 0 9 = some ⟨3, .descFetch 5 0 1, 4, 7, [1]⟩ ∧
      (sTag (.shadow 5) 7 7).tag 0 9 = some ⟨3, .shadow 5, 4, 7, [1]⟩ ∧ ((sTag (.shadow 5) 7 7).ring 5).shadow.isSome = true) ∧
    ((sTag (.txData 5 2 0) 7 6).rings.l.all (fun r => r.2.todo.isEmpty) = true ∧
      ((sTag (.txData 5 2 0) 7 6).ring 5).tx.any (fun y => y.first == 2 && y.reread) = false) ∧
    (State.reset.tag 0 9 = none ∧ lfind State.reset.hif.quar.l (tagKey 0 9) = none ∧ lfind (State.reset.setQuar (tagKey 0 9) 5).hif.quar.l (tagKey 0 9) = some 5 ∧
      State.reset.mono < 5 ∧ 5 ≤ (sTag .stale 7 5).mono) ∧
    ((sTag (.descFetch 5 0 1) 7 6).hif.tags.l = [(tagKey (3 / 256) 9, ⟨3, .descFetch 5 0 1, 4, 7, [1]⟩)] ∧ State.reset.hif.tags.l = []) := by decide +kernel


def sDb (st : Nat) : State :=
  let s := (sFnRing st 1).setFld (Reg.RING_CTRL 3) Fld.RING_CTRL_CPL_PROD 5
  s.setRing 3 { s.ring 3 with cplCons := 2 }
theorem witness_Doorbells :
    (dbRing (.func 0) (BitVec.ofNat 64 (3 * 2 ^ 50 + 7) &&& 0xFFFDFFFFFFFFFFFF) = 3 ∧ dbRing (.hart 9) (BitVec.ofNat 64 (3 * 2 ^ 50 + 7)) = 3 ∧
      (sDb rsRunning).party (.func 0) = (sDb rsRunning).ringOwner 3 ∧
      dbZero (.func 0) (BitVec.ofNat 64 (3 * 2 ^ 50 + 7)) = true ∧ (sDb rsRunning).reqBlocked (.func 0) = false ∧
      (sDb rsRunning).flag Reg.TDM_STATUS Fld.TDM_STATUS_OVERLAP = false ∧ (sDb rsRunning).ringState 3 ≠ rsError ∧ (sDb rsError).ringState 3 = rsError ∧
      (sDb rsRunning).ringKind 3 ≠ rkEvent ∧ (sDb rsRunning).ringKind 3 ≠ rkSample ∧ (sDb rsRunning).ringKind 3 ≠ rkRx) ∧
    (idxDiff 64 ((sDb rsRunning).descCons 3) ≤ (sDb rsRunning).ringSlots 3 ∧ (sDb rsRunning).ringSlots 3 < idxDiff 65 ((sDb rsRunning).descCons 3) ∧
      ((sDb rsRunning).ring 3).pre.length + ((sDb rsRunning).ring 3).heldDescs ≤ idxDiff 64 ((sDb rsRunning).descCons 3)) ∧
    (idxDiff 5 ((sDb rsRunning).ring 3).cplCons ≤ idxDiff ((sDb rsRunning).cplProd 3) ((sDb rsRunning).ring 3).cplCons ∧
      idxDiff ((sDb rsRunning).cplProd 3) ((sDb rsRunning).ring 3).cplCons < idxDiff 6 ((sDb rsRunning).ring 3).cplCons ∧ (sDb rsRunning).cplProd 3 = 5) ∧
    ((sFnRing rsRunning 1).cplProd 3 = ((sFnRing rsRunning 1).ring 3).cplCons) := by decide +kernel


def sUnrep : State := let s := sFnRing rsRunning 1; s.setRing 3 { s.ring 3 with unreported := true }
theorem witness_RingCommands :
    ((sFnRing rsStopped 1).ringView (.func 0) 3 = true ∧ (sFnRing rsStopped 1).ringView (.func 5) 3 = false ∧
      (sFnRing rsStopped 1).flag Reg.TDM_STATUS Fld.TDM_STATUS_OVERLAP = false ∧ (sFnRing rsStopped 1).ringState 3 = rsStopped ∧
      (sFnRing rsStopped 1).startOk 3 = true ∧ (sFnRing rsStopped 1).cplProd 3 = ((sFnRing rsStopped 1).ring 3).cplCons ∧
      (sFnRing rsStopped 0).startOk 3 = false) ∧
    ((sFnRing rsRunning 1).ringState 3 = rsRunning ∧ (sFnRing rsRunning 1).ringBme 3 = true ∧ ((sFnRing rsRunning 1).ring 3).rx = [] ∧
      ((sFnRing rsRunning 1).setFn 0 .init).ringBme 3 = false ∧ (sFnRing rsError 1).ringState 3 = rsError ∧ (sFnRing rsPaused 1).ringState 3 = rsPaused) ∧
    ((sFnRing rsStopped 1).isOwner (.func 0) = true ∧ (sFnRing rsStopped 1).isOwner (.hart 20) = true ∧
      ((sFnRing rsStopped 1).setFld (Reg.RING_OWNER 3) Fld.RING_OWNER_ID 5).ringView (.func 5) 3 = true ∧ (sFnRing rsStopped 1).isOwner (.func 5) = false) ∧
    ((sFnRing rsStopping 1).ringState 3 = rsStopping ∧ (sFnRing rsStopping 1).tab.job = none ∧ ((sFnRing rsStopping 1).ring 3).tx = [] ∧
      ((sFnRing rsStopping 1).ring 3).turns = [] ∧ ((sFnRing rsStopping 1).ring 3).shadow = none ∧ ((sFnRing rsStopping 1).ring 3).held = []) ∧
    ((sUnrep.ring 3).unreported = true ∧ sUnrep.ringBme 3 = true ∧ sUnrep.ringOwner 3 < 1024 ∧ sUnrep.flag (Reg.RING_CFG 3) Fld.RING_CFG_INTR_EN = false) :=
  by decide +kernel


def sFetch : State := let s := sFnRing rsRunning 1; s.setRing 3 { s.ring 3 with descProd := 2 }
def dTx (flags len : Nat) : List Byte := beBytes 1 flags ++ [0] ++ beBytes 2 len ++ zeros 28
def sTake (l : List (List Byte)) : State := let s := sFnRing rsRunning 1; s.setRing 3 { s.ring 3 with pre := l, descProd := l.length }
def txA (st have_ : Nat) : TxFrame := ⟨0, [(0x5000, 4)], false, false, 0, KMap.set [] .empty 0 (zeros have_), st, false⟩
def sDone (x : TxFrame) : State := let s := sFnRing rsRunning 1; s.setRing 3 { s.ring 3 with tx := [x], reserved := 1 }
theorem witness_RingTransmit :
    (sFetch.ringState 3 = rsRunning ∧ (sFetch.ring 3).fetching = false ∧ hasDescs (sFetch.ringKind 3) = true ∧ sFetch.ringOwner 3 = 0 ∧
      (sFetch.fn 0).bme = true ∧ sFetch.hostUp 0 = true ∧ sFetch.tagsUsed 0 = 0 ∧
      0 < min (min 8 (idxDiff (sFetch.ring 3).descProd 0)) (min (sFetch.ringSlots 3 - 0) (sFetch.readMax 0 / 32)) ∧
      idxDiff (sFetch.ring 3).descProd 0 ≤ sFetch.ringSlots 3 ∧ (sFnRing rsPaused 1).ringState 3 ≠ rsRunning) ∧
    ((sTake [dTx 0x80 64, dTx 0x40 64]).ringKind 3 = rkTx ∧ (((sTake [dTx 0x80 64, dTx 0x40 64]).ring 3).pre.take 16).findIdx? txEop = some 1 ∧
      1 + 1 ≤ (sTake [dTx 0x80 64, dTx 0x40 64]).freeSlots 3 ∧ ((sTake []).ring 3).pre = []) ∧
    (((sDone (txA 0 4)).ring 3).tx = [txA 0 4] ∧ (sDone (txA 0 4)).ringState 3 ≠ rsPaused ∧ (txA 0 4).reread = false ∧ (sDone (txA 0 4)).ringOwner 3 < 1024 ∧
      (txA 0 4).need ≤ (txA 0 4).have_ ∧ (txA 0 3).have_ < (txA 0 3).need ∧ (txA 1 0).status ≠ 0 ∧ (sDone (txA 0 4)).ringLoads 3 = false) ∧
    (((((sDone (txA 0 4)).setRing 0 ((sDone (txA 0 4)).ring 3)).setFld Reg.BOOT_STATUS Fld.BOOT_STATUS_STATE bootLoad).setFlag Reg.BOOT_CTRL
      Fld.BOOT_CTRL_RING_LOAD true).ringLoads 0 = true) := by decide +kernel


def dRx (len : Nat) : List Byte := zeros 2 ++ beBytes 2 len ++ zeros 4 ++ beBytes 8 0x7000 ++ zeros 16
def sRxHead (x : RxWrite) : State := let s := sFnRing rsRunning 2; s.setRing 3 { s.ring 3 with rx := [x], reserved := 1 }
def rxGo : RxWrite := { rxA with eg := none, descs := [dRx 64], rest := zeros 60 }
def rxPunt : RxWrite := { rxA with eg := none, punt := some 4, whole := true }
def sWait (n : Nat) : State := { State.reset with sch := { State.reset.sch with waits := KMap.set 0 .empty 9 1 }, time := { TimeSt.init with mono := n * 2 ^ 32 } }
theorem witness_RingReceive :
    (((sRxHead rxGo).ring 3).rx = [rxGo] ∧ ((sRxHead rxGo).ring 3).pre = [] ∧ (sRxHead rxGo).ringState 3 = rsRunning ∧ (sRxHead rxGo).ringKind 3 = rkRx ∧
      (sRxHead rxGo).ringOwner 3 < 1024 ∧ rxGo.punt = none ∧ rxGo.eg = none ∧ rxGo.cut = false ∧ rxGo.used = [] ∧ rxGo.descs = [dRx 64] ∧
      rxDescOk (dRx 64) = true ∧ rxGo.rest.length ≤ rxDescLen (dRx 64) ∧ ((sRxHead rxA).ring 3).rx = [rxA] ∧ rxA.eg.isSome = true) ∧
    (KMap.get 0 State.reset.sch.waits 9 = 0 ∧ KMap.get 0 State.reset.sch.waitOver 9 ≠ 1 ∧ KMap.get 0 (sWait 500000).sch.waits 9 = 0 + 1 ∧
      0 + (sWait 500000).ringWait ≤ (sWait 500000).mono ∧ (sWait 500000).portOk (portOfNode ((sWait 500000).queuePort 9)) = false) ∧
    (((sRxHead rxPunt).ring 3).rx = [rxPunt] ∧ rxPunt.punt = some 4 ∧ rxPunt.endSt = none ∧ rxPunt.whole = true ∧ rxPunt.rest = [] ∧ rxPunt.descs = [] ∧
      (⟨0, 64, 60, false⟩ : RxUsed).bad = false ∧ { rxPunt with endSt := some 6 }.endSt = some 6 ∧ { rxPunt with rest := zeros 4 }.dry = none) ∧
    ({ rxPunt with dry := some 0 }.dry = some 0 ∧ (sRxHead rxPunt).mono < 0 + (sRxHead rxPunt).ringWait ∧ 0 + (sWait 500000).ringWait ≤ (sWait 500000).mono) := by
  decide +kernel


def dShadow (table max n : Nat) : List Byte := beBytes 1 table ++ beBytes 1 max ++ zeros 2 ++ beBytes 4 77 ++ zeros 4 ++ beBytes 4 n ++ beBytes 8 0x4000 ++ zeros 8
def sShadow (d : List Byte) (hart : Bool) : State :=
  let s := (sFnRing rsRunning 6).setFlag (Reg.RING_OWNER 3) Fld.RING_OWNER_HART hart
  s.setRing 3 { s.ring 3 with pre := [d] }
def jobA (left found : Nat) (failed : Bool) : ShadowJob := ⟨1, 2, 0, 77, 0, left, 0x4000, 0, found, [], true, failed⟩
def sShadowJob (j : ShadowJob) : State := let s := sFnRing rsRunning 6; s.setRing 3 { s.ring 3 with shadow := some j, reserved := 3 }
theorem witness_ShadowCompares :
    ((sShadow (dShadow 1 2 4) false).ringKind 3 = rkShadow ∧ ((sShadow (dShadow 1 2 4) false).ring 3).shadow = none ∧
      (sShadow (dShadow 1 2 4) false).headDesc 3 = some (dShadow 1 2 4) ∧ shadowOk (dShadow 1 2 4) = true ∧ shadowOk (dShadow 9 2 4) = false ∧
      beAt (dShadow 1 2 4) 1 1 + 1 ≤ (sShadow (dShadow 1 2 4) false).freeSlots 3 ∧
      (sShadow (dShadow 1 200 4) false).ringSlots 3 < beAt (dShadow 1 200 4) 1 1 + 1 ∧ (sShadow (dShadow 1 2 4) false).ringOwner 3 < 1024 ∧
      1024 ≤ (sShadow (dShadow 1 2 4) true).ringOwner 3 ∧ (sShadow (dShadow 1 2 4) true).headDesc 3 = some (dShadow 1 2 4)) ∧
    ((sDb rsRunning).ringKind 3 ≠ rkShadow) ∧
    (((sShadow (dShadow 1 63 4) false).setRing 3 { (sShadow (dShadow 1 63 4) false).ring 3 with reserved := 1 }).freeSlots 3 < beAt (dShadow 1 63 4) 1 1 + 1) ∧
    (((sShadowJob (jobA 0 5 false)).ring 3).shadow = some (jobA 0 5 false) ∧ (sShadowJob (jobA 0 5 false)).ringOwner 3 < 1024 ∧
      (sShadowJob (jobA 0 5 false)).ringKind 3 = rkShadow ∧ (sShadowJob (jobA 0 5 false)).ringState 3 = rsRunning ∧ (jobA 0 5 false).got = [] ∧
      (jobA 4 0 true).failed = true ∧ (jobA 4 0 false).reading = true) := by decide +kernel

def sHart : State := State.reset.setFlag (Reg.CPX_HART_CTRL 9) Fld.CPX_HART_CTRL_RUN true
theorem witness_HartInstructions :
    (sHart.hartRuns 9 = true ∧ State.reset.hartRuns 9 = false) ∧
    (∀ n ∈ [2, 4, 8], inPacketBuffer 0x103FFFFF8 n = true ∧ sHart.domReach (sHart.hartDom 9) 0x103FFFFF8 n true false = true ∧
      sHart.domReach (sHart.hartDom 9) 0x103FFFFF8 n false false = true ∧ 0x103FFFFF8 % n = 0 ∧ inPacketBuffer 0x103FFFFFF n = false ∧
      inPacketBuffer 0x103FFFFF7 n = true ∧ 0x103FFFFF7 % n ≠ 0) ∧
    ((sHart.setFld (Reg.CPX_HART_DOM 9) Fld.CPX_HART_DOM_DOMAIN 5).domReach 5 0x103FFFFF8 2 true false = false) ∧
    (sHart.eqxOk 9 true = true ∧ (sHart.setFlag (Reg.CPX_DOM_CFG 0) Fld.CPX_DOM_CFG_EQX_U false).flag (Reg.CPX_DOM_CFG 0) Fld.CPX_DOM_CFG_EQX_U = false) ∧
    (ledgerBase ≤ 0x2007FFFF8 ∧ 0x2007FFFF8 + 8 ≤ ledgerEnd ∧ 0x2007FFFF8 % 8 = 0 ∧ ledgerEnd < 0x200800000 + 8) := by decide +kernel


def sNoSpare : State := sHart.setFld (Reg.CPX_CAP 1) Fld.CPX_CAP_SPARES 0
theorem witness_HartsAndCores :
    (State.reset.hartRuns 9 = false ∧ sHart.hartRuns 9 = true ∧ sHart.hartMemory 0x40C000000 = true ∧ sHart.hartMemory (0x40C000000 + 2 ^ 3 - 1) = true ∧
      sHart.domReach (sHart.hartDom 9) 0x40C000000 (2 ^ 3) true false = true ∧ sHart.hartMemory 0x400000000 = false) ∧
    (ledgerBase ≤ 0x200000008 ∧ 0x200000008 + 8 ≤ ledgerEnd ∧ 0x200000008 % 8 = 0 ∧ 2 ^ 32 ≤ 0x400000000 ∧ ledgerEnd ≤ 0x400000000) ∧
    (kvcPage 0x1FC00000 = none ∧ 0x1FC00000 < 2 ^ 32) ∧
    ((sHart.hart 9).ovf.testBit 3 = false ∧ (sHart.setHart 9 { sHart.hart 9 with ovf := 8 }).hart 9 = { HartSt.init with ovf := 8 }) ∧
    (0 < sHart.fld (Reg.CPX_CAP (9 / 8)) Fld.CPX_CAP_SPARES ∧ sNoSpare.fld (Reg.CPX_CAP (9 / 8)) Fld.CPX_CAP_SPARES = 0 ∧
      sNoSpare.topHart (9 / 8) = some 9 ∧ sNoSpare.hartRuns 9 = true ∧
      (sNoSpare.setFlag (Reg.CPX_HART_CTRL 11) Fld.CPX_HART_CTRL_RUN true).topHart (9 / 8) = some 11) := by decide +kernel


def sIcr (d : List Byte) : State := State.reset.setIcrData d
def saBytes : List Byte := [0xC0, 0] ++ zeros 62
def scBytes : List Byte := beBytes 8 77 ++ [0x80, 0, 0, 9] ++ zeros 52
def sFullSet : State := { sIcr ([0x80] ++ zeros 63) with
  icr := { State.reset.icr with binds := ⟨[(0, ⟨true, 1, 0⟩), (1, ⟨true, 1, 0⟩), (2, ⟨true, 1, 0⟩), (3, ⟨true, 1, 0⟩)]⟩ } }
def espCt : List Byte := zeros 2 ++ [0, 59]
def espBody (spoil : Bool) : List Byte :=
  let hd := beBytes 4 0x1234 ++ beBytes 4 7
  let icv := gcmTagBytes 0 0 hd espCt
  hd ++ zeros 8 ++ espCt ++ (if spoil then zeros 16 else icv)
def kEsp (spoil : Bool) : IPkt := { fullPkt .committed with
  bytes := zeros 14 ++ ([0x45, 0, 0, 56] ++ zeros 16) ++ espBody spoil
  fwd := some (.esp 3)
  left := true
  tail := some true
  parse := some { Parse.start false with hdrs := [⟨.eth, 0, 14, 0⟩, ⟨.ipv4, 14, 20, 0⟩, ⟨.esp, 34, 8, 0⟩] } }
def sEsp (spoil : Bool) (next : Nat) : State := (sPkt (kEsp spoil)).setSa (saIdx true 3) { Sa.none with flags := 0xE0, nextPn := next }
theorem witness_InlineCrypto :
    ((sIcr saBytes).fdieUp = true ∧ (sIcr saBytes).icrData = saBytes ∧ (0x90000005 : BitVec 32).toNat / 2 ^ 28 % 8 = true.toNat ∧
      beAt saBytes 0 1 % 4 = 0 ∧ beAt saBytes 1 1 = 0 ∧ beAt saBytes 36 4 = 0 ∧ beAt saBytes 60 4 = 0 ∧ beAt ([1] ++ zeros 63) 0 1 % 4 ≠ 0 ∧
      (sIcr ([1] ++ zeros 63)).icrData = [1] ++ zeros 63) ∧
    ((sIcr scBytes).icrData = scBytes ∧ (0x20000005 : BitVec 32).toNat / 2 ^ 28 % 8 = 2 ∧ beAt scBytes 8 1 % 128 = 0 ∧ beAt scBytes 9 1 = 0 ∧
      beAt scBytes 12 52 = 0) ∧
    (beAt sFullSet.icrData 0 4 / 2 ^ 31 = 1 ∧ (∀ w : Fin 4, (KMap.get .none sFullSet.icr.binds (2 / 4 * 4 + w.val)).valid = true) ∧
      (0x30000002 : BitVec 32).toNat / 2 ^ 28 % 8 = 3) ∧
    (5 < icrSize 2 ∧ icrSize 5 ≤ 5) ∧
    (∀ b : Bool, (sEsp b 1).pkt 0 = some (kEsp b) ∧ (kEsp b).fwd = some (.esp 3) ∧ (kEsp b).left = true ∧ (kEsp b).tail = some true ∧
      (kEsp b).ps.l3At false = some ⟨.ipv4, 14, 20, 0⟩ ∧ (kEsp b).ps.findK .esp = some ⟨.esp, 34, 8, 0⟩ ∧
      ((kEsp b).bytes.take (14 + beAt (kEsp b).bytes 16 2)).drop 34 = espBody b) ∧
    (((sEsp false 1).sa (saIdx true 3)).wide = false ∧ ((sEsp false 1).sa (saIdx true 3)).engineKey = 0 ∧
      ((sEsp false 1).sa (saIdx true 3)).espNonce (beAt (espBody false) 8 8) = 0 ∧ (espBody false).length = 36 ∧
      (espBody false).drop 20 = gcmTagBytes 0 0 ((espBody false).take 8) (((espBody false).drop 16).take 4) ∧
      (espBody true).drop 20 ≠ gcmTagBytes 0 0 ((espBody true).take 8) (((espBody true).drop 16).take 4) ∧
      ((sEsp false 1).sa (saIdx true 3)).espFresh 7 = true ∧ ((sEsp false 2000).sa (saIdx true 3)).espFresh 7 = false) := by decide +kernel


def sKvc : State := ((State.reset.setReg (Reg.KVC_PAGE_BIND 3) 0x80000000).setReg (Reg.KVC_SLOT_CFG 17) 0x80000003).loadSlot 17 (some 0)
def opA (op : Nat) (code : Nat) (run : Bool) : KvcOp := ⟨Fld.KVC_CMD_OP.put 17 op, run, code, 0, 1, 0, 0, 0, 0⟩
def sOp (p : Nat) (o : KvcOp) : State := (sKvc.setKvcOp p (some o)).setFlag (Reg.KVC_STATUS p) Fld.KVC_STATUS_BUSY true
theorem witness_KeyVault :
    (sKvc.kvcBound (.func 0) 3 = true ∧ sKvc.reqBlocked (.func 0) = false ∧ sKvc.flag Reg.TDM_STATUS Fld.TDM_STATUS_OVERLAP = false ∧
      sKvc.flag (Reg.KVC_STATUS 3) Fld.KVC_STATUS_BUSY = false ∧ (sOp 3 (opA 1 0 false)).flag (Reg.KVC_STATUS 3) Fld.KVC_STATUS_BUSY = true ∧
      sKvc.flag Reg.KVC_CFG Fld.KVC_CFG_ENTROPY_OK = true ∧
      (sKvc.setFlag Reg.KVC_CFG Fld.KVC_CFG_ENTROPY_OK false).flag Reg.KVC_CFG Fld.KVC_CFG_ENTROPY_OK = false ∧ sKvc.kvcBound (.func 5) 3 = false) ∧
    (sKvc.ownsSlot 3 17 = true ∧ sKvc.ownsSlot 3 18 = false ∧ (sOp 9 (opA 1 0 true)).kvcOp 9 = some (opA 1 0 true) ∧
      (sOp 9 (opA 1 0 true)).kvcUses 17 9 (opA 1 0 true) = true ∧ (0x40000011 : BitVec 32).toNat / 2 ^ 8 % 2 ^ 20 = 0) ∧
    ((sOp 9 (opA 1 0 false)).kvcRunning < (sOp 9 (opA 1 0 false)).kvcCores ∧
      (sOp 9 (opA 1 0 false)).kvc.ops.l.find? (fun (_, o) => match o with | some x => !x.running | none => false) = some (9, some (opA 1 0 false)) ∧
      ((sOp 9 (opA 1 0 true)).setFlag Reg.KVC_CFG Fld.KVC_CFG_MODE false).kvcCores ≤ ((sOp 9 (opA 1 0 true)).setFlag Reg.KVC_CFG Fld.KVC_CFG_MODE false).kvcRunning) ∧
    ((opA 1 0 true).running = true ∧ (opA 1 3 true).code = 3 ∧ (opA 3 0 true).cmd.toNat / 2 ^ 28 = 3 ∧ (opA 5 0 true).cmd.toNat / 2 ^ 28 = 5 ∧
      (opA 2 0 true).cmd.toNat / 2 ^ 28 = 2 ∧ (opA 1 0 true).cmd.toNat / 2 ^ 28 = 1 ∧ aesEnc (unwrapKey (opA 3 0 true)) 0 / 2 ^ 64 ≠ (opA 3 0 true).kcv ∧
      aesEnc (unwrapKey { opA 3 0 true with kcv := aesEnc (unwrapKey (opA 3 0 true)) 0 / 2 ^ 64 }) 0 / 2 ^ 64 = aesEnc (unwrapKey (opA 3 0 true)) 0 / 2 ^ 64) ∧
    (sKvc.kvcOp 9 = none) ∧
    (sKvc.slotLoaded 17 = true ∧ sKvc.slotLoaded 18 = false ∧ sKvc.sealed = true ∧
      (sKvc.setFlag Reg.CYC_STATUS Fld.CYC_STATUS_SEALED false).sealed = false ∧ sKvc.fld (Reg.KVC_SLOT_CFG 18) Fld.KVC_SLOT_CFG_OWNER = 0) := by decide +kernel

/-- The island counts; queue 9 is metered with subject 500, and slice 2 holds one notice of that queue. -/
def sCyc (queue inst : Nat) (c : CycSt → CycSt) : State :=
  let s := State.reset.setFlag Reg.CYC_STATUS Fld.CYC_STATUS_COUNTING true
  { s with
    eg := { s.eg with fifo := KMap.set [] .empty 2 [⟨queue, 100, 3, none, none, inst⟩] }
    cyc := c { CycSt.init with
      map := KMap.set none .empty 9 (some 0x800001F4)
      win := { CycWin.init with openAt := 50 }
      next := 1000 } }
def entA (n : Nat) : CycEnt := ⟨n, false, 2, 300⟩
def clsA (frozen : Bool) : CycClose := ⟨CycWin.init, 1000, 5, true, frozen, 1, 1, none⟩
theorem witness_CyclometerCounting :
    (∀ c ∈ [sCyc 9 60 id, sCyc 9 40 id, sCyc 8 60 id], KMap.get [] c.eg.fifo 2 ≠ [] ∧ c.counting = true ∧ c.cyc.closing = none) ∧
    (KMap.get [] (sCyc 9 60 id).eg.fifo 2 = [⟨9, 100, 3, none, none, 60⟩] ∧ KMap.get [] State.reset.eg.fifo 2 = [] ∧ State.reset.counting = false ∧
      noticeSubject ((sCyc 9 60 id).mapEntry 9) ⟨9, 100, 3, none, none, 60⟩ = some 500 ∧
      noticeSubject ((sCyc 8 60 id).mapEntry 8) ⟨8, 100, 3, none, none, 60⟩ = none ∧ (sCyc 9 60 id).cyc.win.openAt = 50) ∧
    ((sCyc 9 60 fun c => { c with cache := KMap.set [] .empty 2 [entA 500] }).cycCache 2 = [entA 500] ∧ (entA 500).subject = 500 ∧
      (sCyc 9 60 id).cycCache 2 = [] ∧
      (sCyc 9 60 fun c => { c with cache := KMap.set [] .empty 2 (List.replicate 16 { entA 500 with par := true }) }).cycCache 2 =
        List.replicate 16 { entA 500 with par := true }) ∧
    ((sCyc 9 60 fun c => { c with closing := some (clsA false) }).cyc.closing = some (clsA false) ∧ (clsA false).frozen = false ∧
      60 < (clsA false).boundary ∧ (sCyc 9 60 fun c => { c with closing := some (clsA true) }).cyc.closing.isSome = true) ∧
    ((sCyc 9 60 fun c => { c with wb := KMap.set [] .empty 2 [entA 500] }).cycWb 2 = [entA 500] ∧ (sCyc 9 60 id).cycWb 2 = [] ∧
      (entA 500).par = (sCyc 9 60 id).cyc.par) ∧
    ((sCyc 9 60 fun c => { c with island := 2 ^ 50 }).cyc.next ≤ (sCyc 9 60 fun c => { c with island := 2 ^ 50 }).islandNow ∧
      (sCyc 9 60 id).islandNow < (sCyc 9 60 id).cyc.next ∧ (sCyc 9 60 id).cyc.newSec = none ∧
      (sCyc 9 60 fun c => { c with newSec := some ⟨5, 2⟩ }).cyc.newSec = some ⟨5, 2⟩) ∧
    ((sCyc 9 60 fun c => { c with closing := some (clsA false), ticks := 244146 }).cyc.ticks = (clsA false).tick + 244141 ∧
      (sCyc 9 60 id).cyc.ticks < (clsA false).tick + 244141) := by decide +kernel


/-- The Cyclometer with a frozen bank of one subject, 500, and `l` held records. -/
def sRec (l : List CycRec) (key : Bool) : State :=
  let s := sCyc 9 60 fun c => { c with
    closing := some (clsA true)
    par := true
    bank := KMap.set (0, 0) .empty (cntKey 500 false) (2, 300)
    recs := l }
  if key then s.loadSlot 0xFE (some 5) else s
def cycA (i : Nat) (pub : Bool) : CycRec := ⟨0, 1 + i, 1, 0, 192 * i, 184, i, pub⟩
/-- A follower at `f`, a section, and a marker `m`, with the Equinox time in service. -/
def sIsl (m : Option Nat) (ticks f : Nat) : State :=
  let s := (sCyc 9 60 fun c => { c with
    marker := m
    ticks := ticks
    sec := some ⟨5, 2⟩ }).setFlag Reg.TIME_CTRL Fld.TIME_CTRL_SERVICE true
  { s with time := { s.time with follower := BitVec.ofNat 112 f } }
theorem witness_CyclometerRecords :
    ((sRec [] false).cyc.closing = some (clsA true) ∧ (clsA true).frozen = true ∧ (clsA true).fmt = 1 ∧ (clsA true).dual = none ∧ (clsA false).frozen = false ∧
      (sRec [] false).cyc.damaged = .empty ∧ ((sRec [] false).recEntries (!(sRec [] false).cyc.par)).length = 1 ∧
      (sRec [] false).storeUsed + unitsOf (160 + 24 * 1) ≤ 3670016 ∧ (sRec [] false).nextSlot = some 0 ∧ (sRec [] false).slotLoaded 0xFE = false ∧
      (sRec [] true).slotLoaded 0xFE = true ∧ (sCyc 9 60 id).cyc.closing = none) ∧
    ((sRec ((List.range 256).map (fun i => cycA i true)) false).cyc.recs.length = 256 ∧ (sRec [cycA 0 true] false).cyc.recs.length < 256 ∧
      (sRec [cycA 0 true] true).cyc.recs = [cycA 0 true] ∧
      3670016 < (sRec [cycA 0 true] false).storeUsed + unitsOf (160 + 24 * 1) ∧ (sRec [] false).cyc.bank.wf (fun _ => (0, 0)) = true) ∧
    ((sRec [] false).metered = true ∧ (1 : BitVec 32).getLsbD 0 = true ∧ (cycA 3 true).run ≠ (9 : BitVec 64)) ∧
    ((∀ c ∈ [sIsl none 0 5, sIsl (some 5) 1000 (2 ^ 43), sIsl (some 5) 1000 (2 ^ 60), sIsl (some 5) 500 5], c.metered = true ∧
        c.flag Reg.TIME_CTRL Fld.TIME_CTRL_SERVICE = true ∧ c.tdieUp = true ∧ c.aon.held = false ∧ c.cyc.sec.isSome = true) ∧
      (sIsl none 0 5).cyc.marker = none ∧ (sIsl (some 5) 1000 (2 ^ 43)).cyc.marker = some 5 ∧ 5 + 954 ≤ (sIsl (some 5) 1000 (2 ^ 43)).cyc.ticks ∧
      (sIsl (some 5) 1000 (2 ^ 43)).cyc.island.toNat = 0 ∧ (sIsl (some 5) 500 5).cyc.ticks < 5 + 954 ∧ 5 + 3815 ≤ (sIsl (some 5) 3820 5).cyc.ticks) ∧
    ((sIsl none 0 5).cyc.sec = some ⟨5, 2⟩ ∧ ((sIsl none 0 5).loadSlot 0xFF (some 1)).slotLoaded 0xFF = true ∧
      (State.reset.setFlag Reg.DEV_ID Fld.DEV_ID_METER false).metered = false) := by decide +kernel


def authX : Nat := 0xfc0384de2f92892655895a889bf3bfafc24c635910cfdfd4d92fcc4854cc6da151b2d3559bf74571028525e291804d75
def authY : Nat := 0x1d5845ebe73d777bbb0f8ec563be60a5e26a29a9621ab09b3cb0e3fc9c7b9b52954874dbbadc56ed233181bd34ab814e
def authKeyA : List Byte := [4] ++ beBytes 48 authX ++ beBytes 48 authY
/-- A signed command with a zero nonce for the device of serial number 0. -/
def signedA (code arg r t : Nat) : List Byte :=
  beBytes 2 code ++ zeros 26 ++ beBytes 4 arg ++ authKeyA ++ zeros 7 ++ beBytes 48 r ++ beBytes 48 t ++ zeros 24
def cmdUnseal : List Byte := signedA 1 0 0xe2733cd507f7bc9f65c5641c4562b93ed77753b5992c34d91b1115823f6171f0593c95a5ae11ff64c6e0c460b6e1951c
  0x2b1f770b5e94938627b81a30c8cac8f8cc18e1e17445fb9384399387598b8679229ab398593f1bc9f852a722b48a0c68
def cmdSeal : List Byte := signedA 2 0 0xc9e54007eb72bfd6fa8ff2f7f6355f752b8901f3935d2bd9a74edbd88bb30cb1f64e6cec50a8affb690c4ace74f00ded
  0xa749ed42cf7a17971df90f268a0dfeac830bb9004de40e01edb839c9ac764e084d6a692fc11762c3be3ade3b16fcc61e
def cmdConfirm : List Byte := signedA 3 2 0x4e892874aef63ace56bd3ef4ed5bc6c645e8de32a64391a037a3687f5047cc58a1e73493359d2cdb84678703a672e0b2
  0xf33e0801c827c2a86a56ee2b064abde11a5ad5fe72361f7dae897097b6ad703cacea2cbb60d611e7932bf16d23a052a6
/-- The SHA-384 of that key as a fuse field holds it, its bytes in the other order. -/
def authHashA : Nat := 26359157172164147968620189791995127656066677718689140288358713047263395101259021929954318439319100070382288829289804
/-- A seal record with the authority's key hash, in force, with `n` bits of the seal counter burnt. -/
def sealOtp (n : Nat) : BitVec 16384 :=
  BitVec.ofNat 16384 ((authHashA + 1474935688 * 2 ^ 1024) * 2 ^ 3584 + 2 ^ 16210 + (2 ^ n - 1) * 2 ^ 7936)
/-- A mailbox with a command, the nonce zero, the seal record above. -/
def sAuth (cmd : List Byte) (n : Nat) (sealed_ : Bool) : State :=
  let s := (List.range 64).foldl (fun s w => s.setReg (Reg.CYC_AUTH_MBOX w) (BitVec.ofNat 32 ((List.range 4).foldl (fun a i =>
    a + (cmd.getD (4 * w + i) 0).toNat * 256 ^ i) 0))) State.reset
  let s1 : State := (List.range 4).foldl (fun s i => { s with regs := ⟨lins s.regs.l (Reg.CYC_NONCE i) 0⟩ }) s
  let s2 := s1.setFlag Reg.CYC_STATUS Fld.CYC_STATUS_SEALED sealed_
  { s2 with otp := ⟨sealOtp n, []⟩ }
def authGiven (s : State) : Bool :=
  let m := s.mailbox Reg.CYC_AUTH_MBOX
  s.authHash == some (sha384 ((m.drop 32).take 97)) && beAt m 4 8 == s.serial && (m.drop 12).take 16 == (List.range 16).map (s.regByte Reg.CYC_NONCE)
def authSigned (s : State) : Bool :=
  let m := s.mailbox Reg.CYC_AUTH_MBOX
  ecdsaOk ((m.drop 32).take 97) (sha384 (m.take 136)) ((m.drop 136).take 96)
def sDual : State :=
  let s := (sAuth cmdConfirm 0 true).setFld Reg.CYC_STATUS Fld.CYC_STATUS_FORMAT 2
  { s with cyc := { s.cyc with dual := some 1 } }
theorem witness_CyclometerSeal_unseal : authGiven (sAuth cmdUnseal 3 true) = true ∧ authSigned (sAuth cmdUnseal 3 true) = true := by decide +kernel
theorem witness_CyclometerSeal_seal : authGiven (sAuth cmdSeal 3 false) = true ∧ authSigned (sAuth cmdSeal 3 false) = true := by decide +kernel
theorem witness_CyclometerSeal_confirm : authGiven sDual = true ∧ authSigned sDual = true := by decide +kernel
theorem witness_CyclometerSeal_refused :
    authSigned (sAuth (signedA 1 0 1 1) 3 true) = false ∧ authGiven (sAuth (signedA 1 0 1 1) 3 true) = true ∧
    (State.reset.authHash ≠ some (sha384 ((State.reset.mailbox Reg.CYC_AUTH_MBOX).drop 32 |>.take 97))) := by decide +kernel
def sNonce : State := let s := sAuth cmdUnseal 3 true; { s with regs := ⟨lins s.regs.l (Reg.CYC_NONCE 2) 7⟩ }
theorem witness_CyclometerSeal_nonce :
    sNonce.serial = 0 ∧ (List.range 16).map (sNonce.regByte Reg.CYC_NONCE) ≠ zeros 16 ∧ beAt (cmdUnseal.take 4 ++ [1] ++ zeros 7) 4 8 ≠ 0 := by decide +kernel
theorem witness_CyclometerSeal :
    (beAt ((sAuth cmdUnseal 3 true).mailbox Reg.CYC_AUTH_MBOX) 0 2 = 1 ∧ (sAuth cmdUnseal 3 true).sealed = true ∧ (sAuth cmdUnseal 3 true).sealCount = 3 ∧
      (sAuth cmdUnseal 64 true).sealCount = 64 ∧ (sAuth cmdUnseal 3 false).sealed = false) ∧
    (beAt ((sAuth cmdSeal 3 false).mailbox Reg.CYC_AUTH_MBOX) 0 2 = 2 ∧ (sAuth cmdSeal 3 false).sealed = false) ∧
    (beAt (sDual.mailbox Reg.CYC_AUTH_MBOX) 0 2 = 3 ∧ sDual.cyc.dual.isSome = true ∧ beAt (sDual.mailbox Reg.CYC_AUTH_MBOX) 28 4 % 65536 = sDual.cycFormat ∧
      (sAuth cmdConfirm 0 true).cyc.dual = none) ∧
    (mapBad 0xE0000000 = true ∧ mapBad 0x800001F4 = false ∧ (sAuth cmdSeal 3 false).metered = true) ∧
    (KMap.get 0 State.reset.written (Reg.CYC_CH_CFG 24) ≠ 1 ∧ (0x80000000 : BitVec 32).getLsbD 31 = true ∧
      KMap.get 0 ({ State.reset with written := KMap.set 0 .empty (Reg.CYC_CH_CFG 24) 1 }).written (Reg.CYC_CH_CFG 24) = 1) := by decide +kernel

/-- One second has passed, so that an audit is due; a snapshot under evaluation shows `l`. -/
def sTru (l : Option (List LedgerDelta)) : State :=
  { sSecond with tru := { TruSt.init with snap := l.map (fun x => (7, x)) } }
def errA : LedgerErr := ⟨0, 3, 2⟩
/-- Queue 5 holds two copies, queue 9 one, and a purge names `count` queues from 5 on. -/
def sPurge (count : Nat) (busy : Bool) : State :=
  let c (q : Nat) : Copy := ⟨none, q, 112, ithA, zeros 100, false, none, [], 0⟩
  let s := ((State.reset.setFld Reg.TRU_PURGE_FIRST Fld.TRU_PURGE_FIRST_QUEUE 5).setFld Reg.TRU_PURGE_COUNT Fld.TRU_PURGE_COUNT_COUNT count).setFlag
    Reg.TRU_PURGE_STATUS Fld.TRU_PURGE_STATUS_BUSY busy
  (s.setQueue 5 { s.queue 5 with copies := [c 5, c 5] }).setQueue 9 { s.queue 9 with copies := [c 9] }
theorem witness_ConservationAudit :
    (State.reset.trigDue tgAudit (spanExp 10) = false ∧
      (∀ l ∈ [none, some [⟨1, 3, 2⟩]], (sTru l).trigDue tgAudit (spanExp 10) = true ∧ (sTru l).flag Reg.TRU_CFG Fld.TRU_CFG_EN = true ∧
        (sTru l).tdieUp = true) ∧ (sTru none).tru.snap = none ∧ (sTru (some [])).tru.snap = some (7, []) ∧
      (sTru (some [⟨1, 3, 2⟩])).tru.snap = some (7, [⟨1, 3, 2⟩]) ∧ (sTru (some [⟨5, 3, 2⟩])).tru.snap = some (7, [⟨5, 3, 2⟩])) ∧
    ((errA.ledger.val + 1, errA.scope.toNat) ∈ (sTru none).audited ∧ errA.delta.toInt ≠ 0 ∧ errA.ledger.val ≠ 4 ∧
      (sTru none).equation 1 3 = (sTru none).truBase 1 3) ∧
    ((sTru none).flag Reg.TRU_STATUS Fld.TRU_STATUS_FAULT = false ∧
      ((sTru none).setFlag Reg.TRU_STATUS Fld.TRU_STATUS_FAULT true).flag Reg.TRU_STATUS Fld.TRU_STATUS_FAULT = true) ∧
    ((sPurge 3 false).tdieUp = true ∧ (sPurge 3 false).linkQuiesced = false ∧ (sPurge 3 false).fld Reg.TRU_PURGE_FIRST Fld.TRU_PURGE_FIRST_QUEUE = 5 ∧
      (sPurge 3 false).fld Reg.TRU_PURGE_COUNT Fld.TRU_PURGE_COUNT_COUNT = 3 ∧ (sPurge 0 false).fld Reg.TRU_PURGE_COUNT Fld.TRU_PURGE_COUNT_COUNT = 0 ∧
      (5 + 131070 - 1) / 131072 ≠ 5 / 131072 ∧ (5 + 3 - 1) / 131072 = 5 / 131072 ∧
      (sPurge 3 true).flag Reg.TRU_PURGE_STATUS Fld.TRU_PURGE_STATUS_BUSY = true ∧
      (sPurge 3 false).flag Reg.TRU_PURGE_STATUS Fld.TRU_PURGE_STATUS_BUSY = false ∧ lsorted (sPurge 3 false).tm.queues.l = true) ∧
    (({ State.reset with tru := { TruSt.init with purge := some (5, 3) } } : State).tru.purge = some (5, 3) ∧ State.reset.tru.purge = none) := by decide +kernel


/-- A counter set of the Traffic die with a snapshot and a freeze armed at an elapsed time. -/
def sPmc (at_ : Nat) : State := { State.reset with pmc := KMap.set .init .empty 1 { PmcSt.init with
  snap := some (false, at_)
  freeze := some (false, at_, true) } }
/-- Counter 40 of the Traffic die counts TRU_FAULTS, and `n` of them are on their way. -/
def sPmcSel (n : Nat) (frozen : Bool) : State :=
  let s := State.reset.setReg (Reg.PMC_SEL 1 40) (BitVec.ofNat 32 (2 ^ 31 + 63 * 2 ^ 21 + 2 * 2 ^ 13 + 1))
  let s1 := s.setReg64 (Reg.PMC_VAL_LO 1 40) (2 ^ 64 - 4)
  { s1 with
    pmcIn := [(Ctr.TRU_FAULTS.ovf, 1, n)]
    pmc := KMap.set .init .empty 1 { PmcSt.init with frozen := frozen } }
theorem witness_PerformanceCounters :
    (State.reset.fdieUp = true ∧ State.reset.tdieUp = true ∧ State.reset.linkQuiesced = false ∧ (0x20000000 : BitVec 32).getLsbD 29 = true) ∧
    ((sPmc 0).pmcIn = [] ∧ ((sPmc 0).pmcSt 1).snap = some (false, 0) ∧ (sPmc 0).targetReached 1 (false, 0) = true ∧
      (sPmc 5).targetReached 1 (false, 5) = false ∧ ((sPmc 0).pmcSt 1).freeze = some (false, 0, true)) ∧
    (∀ f : Bool, ((sPmcSel 3 f).pmcSt 1).snap = none ∧ ((sPmcSel 3 f).pmcSt 1).freeze = none ∧
      (sPmcSel 3 f).pmcSelected 1 = [(40, BitVec.ofNat 32 (2 ^ 31 + 63 * 2 ^ 21 + 2 * 2 ^ 13 + 1))] ∧ (sPmcSel 3 f).pmcSelected 0 = [] ∧
      pmcSource 1 63 2 0 1 = some (Ctr.TRU_FAULTS.ovf, 1) ∧ ((sPmcSel 3 f).pmcSt 1).frozen = f) ∧
    ((sPmcSel 3 false).reg64 (Reg.PMC_VAL_LO 1 40) + 3 < 2 ^ 64 ∧ 2 ^ 64 ≤ (sPmcSel 4 false).reg64 (Reg.PMC_VAL_LO 1 40) + 4) := by decide +kernel

def sBoot (st : Nat) : State := State.reset.setBootState st
def sKick (st : Nat) : State := (sBoot st).setFlag Reg.BOOT_STATUS Fld.BOOT_STATUS_KICKSTAND true
def sRepair : State := { State.reset with otp := ⟨State.reset.otp.bits ||| BitVec.ofNat 16384 ((2 ^ 31 + 6 * 2 ^ 28 + 3 * 2 ^ 16 + 1) * 2 ^ 8000), []⟩ }
theorem witness_BootStart :
    (State.reset.aon.held = false ∧ State.reset.bootState = 0 ∧ State.reset.kickstand = false ∧ (sBoot 7).bootState = 7 ∧ (sKick 8).kickstand = true ∧
      (sBoot 1).bootState = 1 ∧ (sBoot 8).bootState = 8 ∧ (sBoot 3).bootState ≠ 1 ∧ (sBoot 3).bootState ≠ 8 ∧ (5 : Fin 1024) ≠ 0) ∧
    ((State.reset.inForce otpIdentity).isSome = true ∧ ({ State.reset with otp := ⟨0, []⟩ } : State).inForce otpIdentity = none ∧
      State.reset.flag Reg.KVC_CFG Fld.KVC_CFG_ENTROPY_OK = true ∧ (∀ i, i < 256 → State.reset.repairEntry i = 0) ∧ State.reset.kvc.ops = .empty ∧
      State.reset.metered = true ∧ State.reset.kickLimit = 3 ∧ State.reset.fld Reg.BOOT_STATUS Fld.BOOT_STATUS_FAILS < State.reset.kickLimit ∧
      State.reset.kickLimit ≤ (State.reset.setFld Reg.BOOT_STATUS Fld.BOOT_STATUS_FAILS 5).fld Reg.BOOT_STATUS Fld.BOOT_STATUS_FAILS) ∧
    ((sRepair.inForce otpIdentity).isSome = true ∧ (∀ i, i < 256 → sRepair.repairEntry i = if i = 0 then 2 ^ 31 + 6 * 2 ^ 28 + 3 * 2 ^ 16 + 1 else 0) ∧
      0 < sRepair.fld (Reg.CPX_CAP 3) Fld.CPX_CAP_SPARES ∧ sRepair.fld Reg.DEV_REPAIR_STATUS Fld.DEV_REPAIR_STATUS_COUNT = 0) := by decide +kernel


/-- The header of an image or of a Cyclometer section, signed by the key above. -/
def imgHead (version state n len root r t : Nat) : List Byte :=
  [0x47, 0x4D, 0x4E, 0x31, 0, 1] ++ beBytes 2 n ++ beBytes 4 version ++ beBytes 4 state ++ beBytes 4 len ++ beBytes 48 root ++ authKeyA ++ zeros 3 ++
    beBytes 48 r ++ beBytes 48 t
def rowA4 (kind off len : Nat) : List Byte := beBytes 1 kind ++ zeros 3 ++ beBytes 4 off ++ beBytes 4 len ++ zeros 20
/-- An image of 360 bytes with three empty sections. -/
def imgA : List Byte := imgHead 7 9 3 360
  0xd9937cf5659135ae4f27a663cabac8911aac90cab7e55bc27c62396ad0fb5e9d844f99d4a76eff2090e71d0789d8f2bf
  0x1c9995f13660352b0ed83873047d46f487d8323c508234c978315fa9f3d355b257a88fa60ccac4f95da684e0a6e913a2
  0x8104b849dba3ea87eb733e926e0cf98650acc5aa1e38936a6de8da6936042f7a781f7f55784ef8aa4238d7080a9bbf3b ++
  rowA4 1 360 0 ++ rowA4 2 360 0 ++ rowA4 4 360 0
/-- A Cyclometer section of 264 bytes. -/
def cycSecA : List Byte := imgHead 3 0 0 264
  0x532c3cec1b6f790a3ff3db123d043ae0c49a3c77068a895c7d3b28426f0139ad92f1f4693b180d250e23c1b63e35812d
  0x4e9694f5690f99d523b17129c9fc7b1920fa15b6fe435e3e4c79c21f7a01fdce9141fd2929be27bcab997955cd126404
  0x497868b43ab2207e36571a1b4199cc6a04d6489eaa30692f79f9fd6b7a2b001189f1d664618e184013eecb7f1db26238
/-- Identity and seal records in force with the hash of that key as root key hash and as Cyclometer image key hash. -/
def bootOtp : BitVec 16384 :=
  BitVec.ofNat 16384 (authHashA * 2 ^ 96 + 3291215776 * 2 ^ 736 + (authHashA * 2 ^ 384 + 1994302988 * 2 ^ 1024) * 2 ^ 3584 + 2 ^ 16192 + 2 ^ 16210)
/-- An image under verification. -/
def sImg (b : List Byte) (kick : Bool) : State :=
  let s := (sBoot 2).setFlag Reg.BOOT_STATUS Fld.BOOT_STATUS_KICKSTAND kick
  { s with
    otp := ⟨bootOtp, []⟩
    boot := { s.boot with staging := ⟨(List.range b.length).map (fun i => (i, b.getD i 0))⟩ } }
/-- A start in state `st` with an image that holds a Cyclometer section, its window closing at `w`. -/
def sStart (st : Nat) (d : List Byte) (w : Nat) : State :=
  let s := sBoot st
  { s with
    otp := ⟨bootOtp, []⟩
    boot := { s.boot with
      img := some ⟨7, 9, [⟨4, d⟩]⟩
      window := some w } }
theorem witness_BootImage_key :
    formatFault (sImg imgA false).stagingRd = none ∧ (sImg imgA false).ownerHash = none ∧
    some (sha384 (imgKey (sImg imgA false).stagingRd)) = (sImg imgA false).rootHash ∧ formatFault (sImg [] false).stagingRd = some 0xFFFF ∧
    (sImg imgA false).minVersion = 0 := by decide +kernel
theorem witness_BootImage_sig : sigOk (sImg imgA false).stagingRd = true := by decide +kernel
theorem witness_BootImage_root :
    rootOk (sImg imgA false).stagingRd 360 = true ∧ imgLength (sImg imgA false).stagingRd = 360 ∧ imgSections (sImg imgA false).stagingRd = 3 ∧
    (∀ i, i < 3 → (secRow (sImg imgA false).stagingRd i).conf = false) := by decide +kernel
theorem witness_BootImage_cyc :
    some (sha384 (imgKey (listRd cycSecA))) = (sStart 4 cycSecA 5).cycImageHash ∧ sigOk (listRd cycSecA) = true ∧ rootOk (listRd cycSecA) cycSecA.length = true ∧
    some (sha384 (imgKey (listRd cycSecA))) ≠ State.reset.cycImageHash ∧ sha384 cycSecA ≠ 5 := by decide +kernel
/-- A wrong byte behind the signed bytes spoils the tree alone; a wrong signature is one; an image below MIN_VERSION is old. -/
def imgB : List Byte := imgA.set 271 103
def policyOtp : BitVec 16384 := bootOtp ||| BitVec.ofNat 16384 ((2 ^ 26 * 2 ^ 23 + 907896676 * 2 ^ 96) * 2 ^ 3072 + 2 ^ 16202)
theorem witness_BootImage_bad :
    formatFault (sImg imgB false).stagingRd = none ∧ rootOk (sImg imgB false).stagingRd 360 = false ∧
    sigOk (listRd (imgHead 7 9 3 360 0 0 1)) = false ∧ rootOk (listRd (cycSecA ++ [1])) 265 = false ∧
    7 < ({ sImg imgA false with otp := ⟨policyOtp, []⟩ } : State).minVersion := by decide +kernel
theorem witness_BootImage :
    ((sImg imgA true).bootState = 2 ∧ (sImg imgA true).kickstand = true ∧ (sImg imgA false).kickstand = false ∧
      (sStart 3 [] 5).bootState = 3 ∧ (sStart 3 [] 5).boot.img = some ⟨7, 9, [⟨4, []⟩]⟩ ∧ (sStart 6 [] 5).bootState ≠ 3) ∧
    ((sStart 4 cycSecA 5).bootState = 4 ∧ (sStart 5 cycSecA 5).bootState = 5 ∧ (Img.section ⟨7, 9, [⟨4, cycSecA⟩]⟩ 4) = some cycSecA ∧
      (sStart 4 cycSecA 5).metered = true ∧ (sStart 4 cycSecA 5).sealed = true ∧ (sStart 4 cycSecA 5).cyc.sec = none ∧
      ((sStart 4 [] 5).setFlag Reg.DEV_ID Fld.DEV_ID_METER false).metered = false) ∧
    ((sStart 6 [] 5).bootState = 6 ∧ (sStart 6 [] 5).boot.window = some 5 ∧ (sStart 6 [] 5).mono < 5 ∧ (sStart 6 [] 0).boot.window = some 0 ∧
      0 ≤ (sStart 6 [] 0).mono ∧ (sStart 6 [] 5).isOwner (.hart 0) = true ∧ (sStart 6 [] 5).isOwner (.func 0) = true ∧
      (sStart 6 [] 5).flag Reg.TDM_STATUS Fld.TDM_STATUS_OVERLAP = false) := by decide +kernel

def sOtp (bits : BitVec 16384) (l : List OtpWrite) : State := { State.reset with otp := ⟨bits, l⟩ }
/-- An OWNER record with that key's hash, LOCK set, in force. -/
def ownerOtp : BitVec 16384 := BitVec.ofNat 16384 ((authHashA + 2 ^ 384 + 537287302 * 2 ^ 480) * 2 ^ 1024 + 2 ^ 16194)
/-- The same with LOCK clear. -/
def openOtp : BitVec 16384 := BitVec.ofNat 16384 ((authHashA + 3148027625 * 2 ^ 480) * 2 ^ 1024 + 2 ^ 16194)
def cmdUnlock : List Byte := signedA 0x0101 0 0x55e0077c50dac025bb8a610e93c554e2eb4bf136f019b5fa10cee034e587aec83c1f36943ee6ea075fec255a574bfbd7
  0xd881b926b8c942ecb5351aebdf42c6ffee99509f5fe6bbf31ae188b319d29177d60b9c60bcc8361845d5e0e0175e11b9
def cmdOtp : List Byte := signedA 0x0102 2 0x5e51571d4fe9077c626e8b90737d4743c576e834b7a43ddbeeb1fe55dd23e1960922a48eeba23102218690984787adbe
  0x2ae9ea76c1f074deaf1ec9bbd9b2d02752e2f8520953acd01794bc80544861b329844943ecb61dd4fd2baf9503de1337
/-- An owner command in the mailbox, the nonce zero. -/
def sOwn (cmd : List Byte) (bits : BitVec 16384) : State :=
  let s := (List.range 64).foldl (fun s w => s.setReg (Reg.BOOT_AUTH_MBOX w) (BitVec.ofNat 32 ((List.range 4).foldl (fun a i =>
    a + (cmd.getD (4 * w + i) 0).toNat * 256 ^ i) 0))) State.reset
  let s1 : State := (List.range 4).foldl (fun s i => { s with regs := ⟨lins s.regs.l (Reg.BOOT_NONCE i) 0⟩ }) s
  { s1 with otp := ⟨bits, []⟩ }
def ownGiven (s : State) : Bool :=
  let m := s.mailbox Reg.BOOT_AUTH_MBOX
  s.ownerHash == some (sha384 ((m.drop 32).take 97)) && beAt m 4 8 == s.serial && (m.drop 12).take 16 == (List.range 16).map (s.regByte Reg.BOOT_NONCE)
theorem witness_OneTimeSettings_unlock :
    ownGiven (sOwn cmdUnlock ownerOtp) = true ∧ beAt cmdUnlock 0 2 = 0x0101 ∧
    ecdsaOk authKeyA (sha384 (cmdUnlock.take 136)) ((cmdUnlock.drop 136).take 96) = true := by decide +kernel
theorem witness_OneTimeSettings_write :
    ownGiven (sOwn cmdOtp ownerOtp) = true ∧ beAt cmdOtp 0 2 = 0x0102 ∧ beAt cmdOtp 28 4 % 8 = 2 ∧ (sOwn cmdOtp ownerOtp).otpDataBytes = zeros 128 ∧
    ecdsaOk authKeyA (sha384 (cmdOtp.take 136 ++ zeros 128)) ((cmdOtp.drop 136).take 96) = true := by decide +kernel
theorem witness_OneTimeSettings :
    (State.reset.isOwner (.func 0) = true ∧ State.reset.isOwner (.hart 0) = true ∧ State.reset.flag Reg.TDM_STATUS Fld.TDM_STATUS_OVERLAP = false ∧
      State.reset.inForce otpOwner = none ∧ ((sOtp ownerOtp []).inForce otpOwner).isSome = true ∧ State.reset.otp.writes = [] ∧
      State.reset.freeGen 1 = some 0 ∧ (sOtp (BitVec.ofNat 16384 (0xFF * 2 ^ 16194)) []).freeGen 1 = none ∧ State.reset.repairUsed < 256 ∧
      (State.reset.reg (Reg.OTP_WR_DATA 0)).toNat / 2 ^ 28 % 8 ≠ 7 ∧
      ((State.reset.setReg (Reg.OTP_WR_DATA 0) 0xF0000000).reg (Reg.OTP_WR_DATA 0)).toNat / 2 ^ 28 % 8 = 7) ∧
    ((sOtp 0 [⟨2, 5, false, some 1⟩]).otp.writes = [⟨2, 5, false, some 1⟩] ∧ 5 < 2 ^ (otpRec 2).size ∧
      (sOtp 0 [⟨2, 5, false, some 1⟩]).otpBit ((otpRec 2).flags + 2 * 1) = false ∧ (sOtp 0 [⟨4, 5, false, some 1⟩]).repairEntry 1 = 0) ∧
    ((sOtp ownerOtp []).ownerLock = true ∧ (sOtp openOtp []).ownerLock = false ∧ ((sOtp openOtp []).ownerHash).isSome = true ∧
      (sOtp ownerOtp []).freeGen 2 = some 0 ∧ State.reset.flag Reg.BOOT_AUTH_CTRL Fld.BOOT_AUTH_CTRL_BUSY = false) := by decide +kernel


/-- A confirmed device with a lease that ends at `e`, in upgrade state `u`; region 3 of channel 2 is mapped to the owner and that of channel 3 is the
upgrade buffer. -/
def sLease (e mono u : Nat) : State :=
  let s := ((((sBoot 7).setUpg u 0 0).setReg Reg.BOOT_UPG_BUF 0x800000CC).setFld (Reg.HIF_APT_FUNC 0 0) Fld.HIF_APT_FUNC_COUNT 1).setFld
    (Reg.HIF_APT_FUNC 0 0) Fld.HIF_APT_FUNC_BASE 0
  { s with
    time := { s.time with
      lease := some e
      mono := mono * 2 ^ 32 }
    hif := { s.hif with apt := KMap.set .init .empty 0 ⟨true, false, 0x8C⟩ } }
/-- The conditions of R486 in order: those of START, of which HANDOVER leaves out the first, third and last. -/
def condsA (s : State) (loc : Nat) (h : Option Nat) : List (Nat × Bool) :=
  [(0x01, decide (1 ≤ s.upgState ∧ s.upgState ≤ 4)), (0x02, s.kickstand || s.bootState != 7), (0x03, s.ownerLock && !s.boot.unlock),
    (0x04, s.flag Reg.THM_STATUS Fld.THM_STATUS_THROTTLE || s.flag Reg.THM_STATUS Fld.THM_STATUS_OVER_MAX || s.flag Reg.THM_STATUS Fld.THM_STATUS_HBM_OVER ||
      s.flag Reg.PWR_STATUS Fld.PWR_STATUS_MARGIN_ALARM),
    (0x05, s.flag Reg.TDM_STATUS Fld.TDM_STATUS_SWITCHING || s.flag Reg.TDM_STATUS Fld.TDM_STATUS_OVERLAP), (0x06, s.leaseOver), (0x07, s.leaseLate),
    (0x08, s.cycSealedDiff h), (0x09, s.fld (Reg.CPX_CAP 15) Fld.CPX_CAP_HARTS == 0), (0x0A, s.badLoc loc)]
/-- An upgrade whose copied image is the one above. -/
def sUpgImg : State :=
  { (sLease (2 ^ 40) 0 1) with
    otp := ⟨bootOtp, []⟩
    ram := ⟨(sImg imgA false).boot.staging.l.map (fun e => (granuleAddr false 0xCC + e.1, e.2))⟩
    boot := { (sLease (2 ^ 40) 0 1).boot with loc := 0xCC } }
theorem get_shift {α : Type} (d : α) (l : List (Nat × α)) (b a : Nat) :
    KMap.get d ⟨l.map (fun e => (b + e.1, e.2))⟩ (b + a) = KMap.get d ⟨l⟩ a := by
  have h : lfind (l.map (fun e => (b + e.1, e.2))) (b + a) = lfind l a := by
    induction l with
    | nil => rfl
    | cons e r ih => simp [lfind, ih]
  simp [KMap.get, h]
theorem sUpgImg_reads : sUpgImg.regionRd sUpgImg.boot.loc = (sImg imgA false).stagingRd := by
  have h1 : sUpgImg.ram = ⟨(sImg imgA false).boot.staging.l.map (fun e => (granuleAddr false 0xCC + e.1, e.2))⟩ := rfl
  have h2 : sUpgImg.boot.loc = 0xCC := rfl
  funext a
  simp only [State.regionRd, State.stagingRd, h1, h2, get_shift]
/-- What the image above passes, in the upgrade buffer. -/
theorem witness_LeaseAndUpgrade_image :
    formatFault (sUpgImg.regionRd sUpgImg.boot.loc) = none ∧ sigOk (sUpgImg.regionRd sUpgImg.boot.loc) = true ∧
    rootOk (sUpgImg.regionRd sUpgImg.boot.loc) (imgLength (sUpgImg.regionRd sUpgImg.boot.loc)) = true ∧
    some (sha384 (imgKey (sUpgImg.regionRd sUpgImg.boot.loc))) = sUpgImg.rootHash ∧
    (∀ j, j < imgSections (sUpgImg.regionRd sUpgImg.boot.loc) → (secRow (sUpgImg.regionRd sUpgImg.boot.loc) j).conf = false) := by
  rw [sUpgImg_reads]
  obtain ⟨h1, -, h3, -⟩ := witness_BootImage_key
  obtain ⟨h4, h5, h6, h7⟩ := witness_BootImage_root
  exact ⟨h1, witness_BootImage_sig, by rw [h5]; exact h4, h3, by rw [h6]; exact h7⟩
theorem witness_LeaseAndUpgrade :
    (State.reset.isOwner (.func 0) = true ∧ State.reset.leaseMin ≤ (30 : BitVec 32).toNat % 1024 ∧ (30 : BitVec 32).toNat % 1024 ≤ State.reset.leaseMax ∧
      State.reset.leaseMax < (700 : BitVec 32).toNat % 1024 ∧ (0 : BitVec 32).toNat % 1024 < State.reset.leaseMin) ∧
    ((sLease 5 0 0).isOwner (.hart 0) = true ∧ (sLease 5 0 0).flag Reg.TDM_STATUS Fld.TDM_STATUS_OVERLAP = false ∧ (sLease 5 0 0).time.lease = some 5 ∧
      (sLease 5 0 0).mono < 5 ∧ 5 ≤ (sLease 5 6 0).mono ∧ (sLease 5 6 0).flag Reg.BOOT_STATUS Fld.BOOT_STATUS_LEASE_EXPIRED = false ∧ (sLease 5 0 0).bootState = 7) ∧
    ((condsA (sLease (2 ^ 40) 0 0) 0x8C none).find? (·.2) = none ∧ (sLease (2 ^ 40) 0 0).regionCyc 0x8C = none ∧ (sLease (2 ^ 40) 0 0).ram.wf (fun _ => 0) = true ∧
      (condsA (sLease (2 ^ 40) 0 1) 0x8C none).find? (·.2) = some (1, true) ∧ (condsA (sLease 1 (2 ^ 33) 0) 0x8C none).find? (·.2) = some (6, true) ∧
      (condsA (sLease (2 ^ 33) 0 0) 0x8C none).find? (·.2) = some (7, true) ∧ (condsA (sLease (2 ^ 40) 0 0) 0xCC none).find? (·.2) = some (10, true)) ∧
    ((sLease (2 ^ 40) 0 2).upgState = 2 ∧ (((condsA (sLease (2 ^ 40) 0 2) 0 none).filter (fun c => c.1 != 1 && c.1 != 3 && c.1 != 10)).find? (·.2)) = none ∧
      (((condsA (sLease 1 (2 ^ 33) 2) 0 none).filter (fun c => c.1 != 1 && c.1 != 3 && c.1 != 10)).find? (·.2)) = some (6, true)) ∧
    ((sLease (2 ^ 40) 0 4).upgState = 4 ∧ (sLease (2 ^ 40) 0 4).tdmActive = 0 ∧ (sLease (2 ^ 40) 0 5).upgState = 5 ∧ sUpgImg.upgState = 1 ∧
      sUpgImg.minVersion ≤ 7 ∧ sUpgImg.ownerHash = none ∧
      ({ (sLease (2 ^ 40) 0 4) with boot := { BootSt.init with upg := some ⟨7, 9, []⟩ } } : State).boot.upg = some ⟨7, 9, []⟩ ∧
      Img.section ⟨7, 9, []⟩ 4 = none) := by decide +kernel

/-- Hart 0 and hart 120 run in domain 0; k0 and k15 had their last heartbeats at 5, and `mono` is the elapsed time; `p` is PRIMARY, `a` is ACTIVE. -/
def sTan (mono p : Nat) (a : Bool) : State :=
  let s := ((((State.reset.setFlag (Reg.CPX_CAP 15) Fld.CPX_CAP_POWERED true).setFlag (Reg.CPX_HART_CTRL 0) Fld.CPX_HART_CTRL_RUN true).setFlag (Reg.CPX_HART_CTRL 120) Fld.CPX_HART_CTRL_RUN true).setFld
    Reg.TDM_STATUS Fld.TDM_STATUS_PRIMARY p).setFlag Reg.TDM_STATUS Fld.TDM_STATUS_ACTIVE a
  { s with
    time := { s.time with mono := mono * 2 ^ 32 }
    tdm := { s.tdm with
      hb0 := some 5
      hb15 := some 5
      td := some 5
      hold := some 5 } }
def sGap (mono : Nat) : State := (sTan mono 0 false).setFlag Reg.TDM_STATUS Fld.TDM_STATUS_SWITCHING true
theorem witness_TandemFailover :
    ((sTan 6 0 false).tdmReach (.hart 0) = true ∧ (sTan 6 0 false).supervisor (.hart 0) = some 0 ∧ (sTan 6 0 false).supervisor (.hart 120) = some 15 ∧
      (sTan 6 0 false).overlap = false ∧ (sTan 6 0 false).clusterDead 0 = false ∧ (sTan (2 ^ 31) 0 false).clusterDead 0 = true ∧
      (sTan 6 0 false).flag Reg.TDM_CFG Fld.TDM_CFG_EN = true ∧ (sTan 6 0 false).kickstand = false ∧ (sTan 6 0 false).tdmActive = 0 ∧
      ((sTan 6 0 false).setFlag Reg.TDM_CFG Fld.TDM_CFG_EN false).flag Reg.TDM_CFG Fld.TDM_CFG_EN = false ∧ (sKick 8).kickstand = true ∧
      (sKick 8).tdmReach (.func 0) = true) ∧
    ((sTan 6 0 false).switching = false ∧ (sTan (2 ^ 31) 3 true).clusterDead (sTan (2 ^ 31) 3 true).tdmActive = true ∧ (sTan 6 3 true).tdmActive = 15 ∧
      (sTan 6 3 true).primary = 3 ∧ (sTan 6 4 true).primary = 4 ∧ (sTan 6 2 true).primary = 2 ∧ (sTan 6 3 true).upgState ≠ 3 ∧ (sTan 6 3 true).upgState ≠ 4 ∧
      ((sTan 6 3 true).setUpg 4 0 0).upgState = 4 ∧ 0 < (sTan 6 3 true).fld (Reg.CPX_CAP 15) Fld.CPX_CAP_HARTS) ∧
    ((sTan 6 2 false).fld Reg.TDM_STATUS Fld.TDM_STATUS_SELFTEST_FAILS < 2 ∧
      ((sTan 6 2 false).setFld Reg.TDM_STATUS Fld.TDM_STATUS_SELFTEST_FAILS 2).fld Reg.TDM_STATUS Fld.TDM_STATUS_SELFTEST_FAILS = 2 ∧
      (sTan 6 3 false).tdm.hold = some 5 ∧ (sTan 6 3 false).mono < 5 + max 1 ((sTan 6 3 false).fld Reg.TDM_CFG Fld.TDM_CFG_HOLD) * 2 ^ 32 ∧
      5 + max 1 ((sTan (2 ^ 39) 3 false).fld Reg.TDM_CFG Fld.TDM_CFG_HOLD) * 2 ^ 32 ≤ (sTan (2 ^ 39) 3 false).mono) ∧
    ((sGap 6).switching = true ∧ (sGap 6).tdm.td = some 5 ∧ (sGap 6).tdm.late = false ∧ 5 * (sGap 6).mono < 5 * 5 + 2 ^ 32 ∧
      5 * 5 + 2 ^ 32 ≤ 5 * (sGap (2 ^ 31)).mono) ∧
    (max 1 (State.reset.reg64 Reg.TDM_CKPT_PERIOD_LO) = 0x028F5C29 ∧ State.reset.now / 0x028F5C29 ≤ 0 ∧
      KMap.get 0 sSecond.time.trig tgCheckpoint / 0x028F5C29 < sSecond.now / 0x028F5C29) := by decide +kernel


def sOvl (mono : Nat) (a : Bool) : State :=
  let s := (sTan mono 4 a).setFlag Reg.TDM_STATUS Fld.TDM_STATUS_OVERLAP true
  { s with tdm := { s.tdm with
    tc := some 5
    down := some 5 } }
theorem witness_TandemHandover :
    ((sGap 6).supervisor (.hart 120) = some 15 ∧ 15 ≠ (sGap 6).tdmActive ∧ (sGap 6).switching = true ∧ (sTan 6 4 true).supervisor (.hart 0) = some 0 ∧
      0 ≠ (sTan 6 4 true).tdmActive ∧ (sTan 6 4 true).primary = 4 ∧ (sTan 6 4 true).switching = false ∧ ((sTan 6 0 false).setUpg 3 0 0).upgState = 3 ∧
      (sTan 6 0 false).upgState ≠ 3 ∧ (sTan 6 3 true).primary ≠ 4 ∧ (sTan 6 0 false).tdmReach (.hart 120) = true ∧ (sTan 6 0 false).tdmReach (.func 0) = true) ∧
    ((sOvl 6 true).overlap = true ∧ (sOvl 6 true).supervisor (.hart 120) = some (sOvl 6 true).tdmActive ∧ (sOvl 6 true).tdmReach (.hart 120) = true ∧
      (sOvl 6 false).tdmActive = 0 ∧ (sOvl 6 true).tdm.tc = some 5 ∧ 5 + 2 ^ 23 ≤ (sOvl (2 ^ 25) true).mono ∧ (sOvl 0 true).mono < 5 + 2 ^ 23) ∧
    ((sOvl 6 true).switching = false ∧ (sOvl 6 true).clusterDead 15 = false ∧
      ((sOvl 6 true).setFld (Reg.CPX_CAP 0) Fld.CPX_CAP_HARTS 0).clusterDead 0 = true ∧ (sOvl (2 ^ 31) true).clusterDead (sOvl (2 ^ 31) true).tdmActive = true ∧
      (sOvl 6 true).tdm.down = some 5 ∧ (sOvl 0 true).mono < 5 ∧ 5 ≤ (sOvl 6 true).mono) := by decide +kernel

def sHeld (f : AonSt → AonSt) : State := { State.reset with aon := f { State.reset.aon with held := true } }
theorem witness_PinsAndManagementPort :
    (State.reset.aon.held = false ∧ State.reset.aon.up = true ∧ State.reset.bootState < 7 ∧ State.reset.kickstand = false ∧ (sHeld id).aon.held = true ∧
      (3 : Fin 9) ≠ 0 ∧ (3 : Fin 9) ≠ 8 ∧ (sHeld (fun a => { a with up := false })).aon.up = false) ∧
    ((sHeld (fun a => { a with railsOut := 4 })).aon.porst = true ∧ (sHeld (fun a => { a with railsOut := 4 })).aon.railsOut ≠ 0) := by decide +kernel

def sLink (up q f t : Bool) (d : DieSt) : State :=
  let s := ((State.reset.setFlag Reg.DEV_DIE_STATUS Fld.DEV_DIE_STATUS_LINK_UP up).setFlag Reg.DEV_DIE_STATUS Fld.DEV_DIE_STATUS_QUIESCED q).setFlag
    Reg.DEV_DIE_STATUS Fld.DEV_DIE_STATUS_FDIE_IN_RESET (!f)
  { s.setFlag Reg.DEV_DIE_STATUS Fld.DEV_DIE_STATUS_TDIE_IN_RESET (!t) with die := d }
def lostA (f t : Bool) : DieSt := { DieSt.init with
  lostF := f
  lostT := t }
def sLostCopy : State := { sLink false false false true (lostA true false) with
  eg := { State.reset.eg with copies := KMap.set none .empty 4 (some (egA 0 .staged)) } }
def sLostPart (c : TCopy) : State := { sLink false false true false (lostA false true) with
  ing := { State.reset.ing with transit := KMap.set [] .empty 3 [c] } }
theorem witness_LinkAndDieResets :
    (State.reset.linkUsable = false ∧ (sLink true false true true .init).linkUsable = true ∧
      (sLink true false true true { DieSt.init with crcF := 6 }).die.crcF < 7 ∧ 7 ≤ (sLink true false true true { DieSt.init with crcT := 7 }).die.crcT ∧
      (5 : Fin 1024) ≠ 0) ∧
    ((sLink true false true true .init).fdieUp = true ∧ (sLink true false true true .init).tdieUp = true ∧
      (sLink true false true true .init).flag Reg.DEV_DIE_RESET Fld.DEV_DIE_RESET_TDIE = false ∧
      (sLink true false true true .init).flag Reg.DEV_DIE_RESET Fld.DEV_DIE_RESET_FDIE = false ∧
      (sLink false false true false .init).tdieUp = false ∧ (sLink false false false true .init).fdieUp = false ∧
      ((sLink true false true true .init).setReg Reg.DEV_DIE_RESET 2).flag Reg.DEV_DIE_RESET Fld.DEV_DIE_RESET_TDIE = true ∧
      (sLink true false true true .init).partCopies = [] ∧ State.reset.reg Reg.DEV_DIE_RESET = 0 ∧
      ((sLink false false false true .init).setReg Reg.DEV_DIE_RESET 1).reg Reg.DEV_DIE_RESET = 1) ∧
    ((sLink false true true false .init).linkQuiesced = true ∧ (sLink false false false true (lostA true false)).linkQuiesced = false ∧
      (sLink false false false true (lostA true false)).die.lostF = true ∧ (sLink false false true false (lostA false true)).die.lostT = true ∧
      sLostCopy.eg.copies = KMap.set none .empty 4 (some (egA 0 .staged)) ∧ (egA 0 .staged).stage ≠ .done ∧ (egA 0 .staged).copy.queue < 524288 ∧
      sLostCopy.ing.transit = .empty ∧ (sLostPart { copyA with prog := some [] }).ing.transit = KMap.set [] .empty 3 [{ copyA with prog := some [] }] ∧
      ({ copyA with prog := some [] } : TCopy).prog.isSome = true ∧ (sLostPart copyA).eg.copies = .empty ∧ State.reset.aon.held = false) := by decide +kernel

def sHold : State := { State.reset.setFn 0 { State.reset.fn 0 with
    win := 1
    bar0 := 0 } with hold := KMap.set .none .empty 0 ⟨some (Reg.TDM_CKPT_PERIOD_HI, 9), some (Reg.TDM_CKPT_PERIOD_LO, 7)⟩ }
def sHost : State := sHold.setFlag (Reg.HIF_PORT_STATUS 0) Fld.HIF_PORT_STATUS_LINK_UP true
theorem witness_RegisterAccesses :
    (State.reset.fdieUp = true ∧ State.reset.tdieUp = true ∧ State.reset.linkQuiesced = false ∧ State.reset.metered = true ∧ sKvc.sealed = true ∧
      KMap.get 0 State.reset.written (Reg.CYC_CA_DLY 24) ≠ 1 ∧
      KMap.get 0 ({ State.reset with written := KMap.set 0 .empty (Reg.CYC_CA_DLY 24) 1 } : State).written (Reg.CYC_CA_DLY 24) = 1 ∧ (5 : Fin 1024) ≠ 0) ∧
    (halfOf Reg.TDM_CKPT_PERIOD_LO = .lo ∧ halfOf Reg.TDM_CKPT_PERIOD_HI = .hi ∧ 0x1FC30000 ≤ Reg.TDM_CKPT_PERIOD_HI ∧ Reg.TDM_CKPT_PERIOD_HI < 0x1FC44000 ∧
      (sHold.holdOf (.func 0)).readHi = some (Reg.TDM_CKPT_PERIOD_HI, 9) ∧ (sHold.holdOf (.func 0)).writeLo = some (Reg.TDM_CKPT_PERIOD_LO, 7) ∧
      sHost.presented 0 = true ∧ (sHost.fn 0).bar0 = 0 ∧ (sHost.fn 0).win = 1 ∧ sHost.presented 5 = false ∧ 0 < sHost.vectorsOf 0) ∧
    (assigned 0x60000000 = false ∧ kvcPage 0x60000000 = none ∧ islandReg 0x60000000 = false ∧ State.reset.hartDom 3 = 0 ∧ fdieReg (Reg.PORT_CFG 0 0) = true ∧
      (sLink false false false true .init).fdieUp = false ∧ tdieReg (Reg.BUF_POOL_CFG0 1) = true ∧ (sLink false true true true .init).linkQuiesced = true ∧
      (State.reset.setFlag Reg.DEV_ID Fld.DEV_ID_METER false).metered = false ∧ islandReg Reg.CYC_INTERVAL = true) := by decide +kernel

theorem witness_StepRunsFrontCommand : State.reset.pending = [] := by decide +kernel


theorem witness_StepsKeepCanonicalForm : State.reset.Ready ∧ State.reset.RegsCanonical ∧ State.reset.MemoryCanonical :=
  ⟨fun _ h => absurd h List.not_mem_nil, rfl, rfl⟩


theorem witness_QueueRunsThrough : Host.Core.run core State.reset.pending.length State.reset = .next State.reset := rfl

end Sys2Proof.Tests
end

section
/-! PROOF. What reports leave alone: events (R383), internal errors (R356), capacity words (R544), the repair log (R541) and the loss ledger (R456),
as relations between the state before and the state after. -/

namespace Sys2Proof.Machine.DeviceOrganisation

/-! ### Completion -/

/-- A command that answers a state with the same queue completes in it. -/
theorem completes_of_answer {c : Instr} {s t : State} {P : State → Prop} (hc : exec c s = answer s t) (hq : t.pending = s.pending) (h : P t) :
    Completes c s P :=
  ⟨t, by rw [hc, answer, ← hq], h⟩

/-! ### Registers within a set -/

/-- Between two states only registers of a set may differ. -/
def RegsWithin (p : Nat → Bool) (s t : State) : Prop := ∀ a, p a = false → t.reg a = s.reg a

section
variable {p q : Nat → Bool} {s t u : State}

theorem RegsWithin.refl (p : Nat → Bool) (s : State) : RegsWithin p s s := fun _ _ => rfl

theorem RegsWithin.trans (h : RegsWithin p s t) (k : RegsWithin p t u) : RegsWithin p s u := fun a ha => (k a ha).trans (h a ha)

theorem RegsWithin.mono (h : RegsWithin p s t) (hpq : ∀ a, p a = true → q a = true) : RegsWithin q s t :=
  fun a ha => h a (by by_contra hp; simp [hpq a (by simpa using hp)] at ha)

theorem RegsWithin.of_regs (h : t.regs = s.regs) : RegsWithin p s t := fun a _ => by simp [State.reg, h]

theorem RegsWithin.of_but {l : List Nat} (h : RegsBut l s t) (hl : ∀ a ∈ l, p a = true) : RegsWithin p s t :=
  fun a ha => h a (fun hm => by simp [hl a hm] at ha)

theorem RegsWithin.setReg {a : Nat} {w : Word} (h : RegsWithin p s t) (ha : p a = true) : RegsWithin p s (t.setReg a w) :=
  h.trans (.of_but (RegsBut.setReg [a] t a w (by simp)) (by simp [ha]))

theorem RegsWithin.setFld {a : Nat} {f : Fld} {v : Nat} (h : RegsWithin p s t) (ha : p a = true) : RegsWithin p s (t.setFld a f v) := h.setReg ha

theorem RegsWithin.setFlag {a : Nat} {f : Fld} {b : Bool} (h : RegsWithin p s t) (ha : p a = true) : RegsWithin p s (t.setFlag a f b) := h.setReg ha

theorem RegsWithin.bump {c : Ctr} {n : Nat} (h : RegsWithin p s t) (hc : ∀ a ∈ c.regs, p a = true) : RegsWithin p s (t.bump c n) :=
  h.trans (.of_but (RegsBut.bump t c n) hc)

/-- A draw writes no register. -/
theorem RegsWithin.draw (h : RegsWithin p s t) : RegsWithin p s t.draw.2 := h

theorem RegsWithin.fld (h : RegsWithin p s t) {a : Nat} (ha : p a = false) (f : Fld) : t.fld a f = s.fld a f := by rw [State.fld, h a ha, State.fld]

theorem RegsWithin.flag (h : RegsWithin p s t) {a : Nat} (ha : p a = false) (f : Fld) : t.flag a f = s.flag a f := by
  rw [State.flag, h.fld ha, State.flag]

theorem RegsWithin.reg64 (h : RegsWithin p s t) {a : Nat} (ha : p a = false) (ha4 : p (a + 4) = false) : t.reg64 a = s.reg64 a := by
  rw [State.reg64, h a ha, h _ ha4, State.reg64]

/-- A count stands while neither its counter nor its overflow register is written again. -/
theorem RegsWithin.counted {c : Ctr} {n : Nat} (h : RegsWithin p s t) (hc : Counted c n u s) (hp : ∀ a ∈ c.regs, p a = false) : Counted c n u t := by
  simp only [Ctr.regs, List.mem_cons, List.not_mem_nil, or_false, forall_eq_or_imp, forall_eq] at hp
  obtain ⟨hlo, hhi, hovf⟩ := hp
  rw [Counted, h.reg64 hlo hhi, h _ hovf]
  exact hc

end

/-- A relation kept by each step of a fold is kept by the fold. -/
theorem foldl_rel {σ β : Type*} {R : σ → σ → Prop} (hr : ∀ s, R s s) (ht : ∀ s t u, R s t → R t u → R s u) {f : σ → β → σ} (l : List β)
    (hf : ∀ s, ∀ x ∈ l, R s (f s x)) (s : σ) : R s (l.foldl f s) := by
  induction l generalizing s with
  | nil => exact hr s
  | cons x l ih => exact ht _ _ _ (hf s x (by simp)) (ih (fun s y hy => hf s y (by simp [hy])) _)

/-- A count has its counter risen by the amount (R89). -/
theorem counted_bump (s : State) (c : Ctr) (n : Nat) (hlo : c.ovf ≠ c.lo) (hhi : c.ovf ≠ c.lo + 4) (hbit : c.bit < 32) :
    Counted c n s (s.bump c n) := by
  refine ⟨State.reg64_bump s c n hlo hhi, fun hw => ?_⟩
  have hset : ¬ s.reg64 c.lo + n < 2 ^ 64 := by omega
  rw [State.bump, State.noteCount_reg, State.setCtr, if_neg hset, State.reg_setReg_same]
  rw [BitVec.getLsbD_or, BitVec.getLsbD_ofNat, Nat.testBit_two_pow_self]
  simp [hbit]

/-! ### Reports -/

/-- What a report may change: registers, rings, what is presented outside, memory, and the host functions. All else stays. -/
def Reported (s t : State) : Prop :=
  { t with
    regs := s.regs
    out := s.out
    pmcIn := s.pmcIn
    hif := s.hif
    rings := s.rings
    evLost := s.evLost
    ram := s.ram } = s

namespace Reported
variable {s t u : State}

theorem refl (s : State) : Reported s s := rfl

theorem trans (h : Reported s t) (k : Reported t u) : Reported s u := by
  rw [Reported, ← h, ← k]

theorem setReg {a : Nat} {w : Word} (h : Reported s t) : Reported s (t.setReg a w) := h.trans rfl
theorem setFld {a : Nat} {f : Fld} {v : Nat} (h : Reported s t) : Reported s (t.setFld a f v) := h.setReg
theorem setFlag {a : Nat} {f : Fld} {b : Bool} (h : Reported s t) : Reported s (t.setFlag a f b) := h.setReg
theorem setRing {g : Nat} {r : RingSt} (h : Reported s t) : Reported s (t.setRing g r) := h.trans rfl
theorem bump {c : Ctr} {n : Nat} (h : Reported s t) : Reported s (t.bump c n) := h.trans (by simp [Reported])
theorem ownerEvent {code die cl loc : Nat} {d : List Byte} (h : Reported s t) : Reported s (t.ownerEvent code die cl loc d) :=
  h.trans (by simp [Reported])
theorem ierr {src die cl loc : Nat} (h : Reported s t) : Reported s (t.ierr src die cl loc) := h.trans (by simp [Reported])
theorem modCap {d c : Nat} {f : CapWord → CapWord} (h : Reported s t) : Reported s (t.modCap d c f) := h.trans (by simp [Reported])
theorem logRepair {r k d c e : Nat} {soft : Bool} (h : Reported s t) : Reported s (t.logRepair r k soft d c e) := h.trans (by simp [Reported])
theorem loss {l c sc sub : Nat} {i n : Int} {b : Bool} (h : Reported s t) : Reported s (t.loss l c sc i n sub b) := h.trans (by simp [Reported])
theorem writeCpl {g : Nat} {d : List Byte} (h : Reported s t) : Reported s (t.writeCpl g d) := h.trans (by simp [Reported])

theorem foldl {β : Type*} {f : State → β → State} (l : List β) (hf : ∀ s, ∀ x ∈ l, Reported s (f s x)) (s : State) : Reported s (l.foldl f s) :=
  foldl_rel refl (fun _ _ _ => trans) l hf s

theorem eq (h : Reported s t) :
    { t with regs := s.regs, out := s.out, pmcIn := s.pmcIn, hif := s.hif, rings := s.rings, evLost := s.evLost, ram := s.ram } = s := h

theorem pending (h : Reported s t) : t.pending = s.pending := (congrArg State.pending h.eq :)
theorem die (h : Reported s t) : t.die = s.die := (congrArg State.die h.eq :)
theorem time (h : Reported s t) : t.time = s.time := (congrArg State.time h.eq :)
theorem tab (h : Reported s t) : t.tab = s.tab := (congrArg State.tab h.eq :)
theorem lrn (h : Reported s t) : t.lrn = s.lrn := (congrArg State.lrn h.eq :)
theorem acl (h : Reported s t) : t.acl = s.acl := (congrArg State.acl h.eq :)
theorem icr (h : Reported s t) : t.icr = s.icr := (congrArg State.icr h.eq :)
theorem port (h : Reported s t) : t.port = s.port := (congrArg State.port h.eq :)
theorem otn (h : Reported s t) : t.otn = s.otn := (congrArg State.otn h.eq :)
theorem turnOut (h : Reported s t) : t.turnOut = s.turnOut := (congrArg State.turnOut h.eq :)
theorem ing (h : Reported s t) : t.ing = s.ing := (congrArg State.ing h.eq :)
theorem fab (h : Reported s t) : t.fab = s.fab := (congrArg State.fab h.eq :)
theorem tm (h : Reported s t) : t.tm = s.tm := (congrArg State.tm h.eq :)
theorem sch (h : Reported s t) : t.sch = s.sch := (congrArg State.sch h.eq :)
theorem eg (h : Reported s t) : t.eg = s.eg := (congrArg State.eg h.eq :)
theorem mem (h : Reported s t) : t.mem = s.mem := (congrArg State.mem h.eq :)
theorem turnIn (h : Reported s t) : t.turnIn = s.turnIn := (congrArg State.turnIn h.eq :)
theorem kvc (h : Reported s t) : t.kvc = s.kvc := (congrArg State.kvc h.eq :)
theorem boot (h : Reported s t) : t.boot = s.boot := (congrArg State.boot h.eq :)
theorem otp (h : Reported s t) : t.otp = s.otp := (congrArg State.otp h.eq :)
theorem tdm (h : Reported s t) : t.tdm = s.tdm := (congrArg State.tdm h.eq :)
theorem cyc (h : Reported s t) : t.cyc = s.cyc := (congrArg State.cyc h.eq :)
theorem tru (h : Reported s t) : t.tru = s.tru := (congrArg State.tru h.eq :)
theorem thm (h : Reported s t) : t.thm = s.thm := (congrArg State.thm h.eq :)
theorem aon (h : Reported s t) : t.aon = s.aon := (congrArg State.aon h.eq :)
end Reported

/-! ### Events -/

/-- The registers that an event of the owner function can write: those of the rings, and the counter of dropped events (R383). -/
def eventReg (a : Nat) : Bool := (Ctr.RING_EVT_DROP 0).regs.contains a || (decide (0x1FD00000 ≤ a) && decide (a < 0x1FF00000))

theorem eventReg_eq_false {a : Nat} :
    eventReg a = false ↔ a ≠ 0x1fc48230 ∧ a ≠ 0x1fc48234 ∧ a ≠ 0x1fc481f0 ∧ (a < 0x1FD00000 ∨ 0x1FF00000 ≤ a) := by
  simp [eventReg, Ctr.regs, Ctr.RING_EVT_DROP]
  omega

theorem lt_of_mem_ringsUsed {s : State} {g : Nat} (h : g ∈ s.ringsUsed) : g < 65536 := by
  simp only [State.ringsUsed, List.mem_filterMap, Option.ite_none_right_eq_some, Option.some.injEq] at h
  obtain ⟨a, -, ⟨-, ha, -⟩, rfl⟩ := h
  omega

theorem regsBut_writeEntry (s : State) (g : Nat) (d : List Byte) : RegsBut [Reg.RING_CTRL g] s (s.writeEntry g d) := by
  intro a ha
  simp only [State.writeEntry, State.setRing_reg]
  rw [RegsBut.setFld [Reg.RING_CTRL g] _ _ _ _ (by simp) a ha, State.reg, State.partyWrite_regs, State.reg]

theorem regsBut_writeCpl (s : State) (g : Nat) (d : List Byte) : RegsBut [Reg.RING_CTRL g] s (s.writeCpl g d) := by
  intro a ha
  simp only [State.writeCpl]
  split
  · simp
  · rw [regsBut_writeEntry _ g d a ha, State.setRing_reg]

/-- A count of lost events writes no register. -/
theorem RegsWithin.evLost {p : Nat → Bool} (s : State) (e : KMap Nat) : RegsWithin p s { s with evLost := e } := .of_regs rfl

theorem regsWithin_ownerEvent (s : State) (code die cl loc : Nat) (d : List Byte) : RegsWithin eventReg s (s.ownerEvent code die cl loc d) := by
  have hDrop : RegsWithin eventReg s (s.eventDrop 0) := by
    have hPort : partyPort 0 = 0 := by decide
    simp only [State.eventDrop, hPort]
    exact ((RegsWithin.refl _ s).bump (by decide)).trans (.evLost _ _)
  rw [State.ownerEvent, State.event, State.eventAt]
  split
  · exact hDrop
  case _ g hg =>
    have hlt : g < 65536 := lt_of_mem_ringsUsed (List.mem_of_find?_eq_some hg)
    have hRange : 0x1FD00000 ≤ Reg.RING_CTRL g ∧ Reg.RING_CTRL g < 0x1FF00000 := by
      unfold Reg.RING_CTRL
      omega
    have hCtrl : eventReg (Reg.RING_CTRL g) = true := by simp [eventReg, hRange]
    split
    · exact hDrop
    · exact RegsWithin.trans (.of_but (regsBut_writeEntry s g _) (by simpa using hCtrl)) (.evLost _ _)

theorem RegsWithin.ownerEvent {p : Nat → Bool} {s t : State} {code die cl loc : Nat} {d : List Byte} (h : RegsWithin p s t)
    (hp : ∀ a, eventReg a = true → p a = true) : RegsWithin p s (t.ownerEvent code die cl loc d) :=
  h.trans ((regsWithin_ownerEvent t code die cl loc d).mono hp)

/-! ### Internal errors and capacity words -/

/-- The registers that an internal error can write (R356), its event included. -/
def alarmReg (a : Nat) : Bool :=
  [Reg.HIF_IERR_STATUS, Reg.HIF_IERR_LOG0, Reg.HIF_IERR_LOG1, Reg.HIF_IERR_LOG2, Reg.HIF_IERR_LOG3].contains a || eventReg a

theorem alarmReg_eq_false {a : Nat} :
    alarmReg a = false ↔ a ≠ 0x1fc80010 ∧ a ≠ 0x1fc80020 ∧ a ≠ 0x1fc80024 ∧ a ≠ 0x1fc80028 ∧ a ≠ 0x1fc8002c ∧ eventReg a = false := by
  simp [alarmReg, Reg.HIF_IERR_STATUS, Reg.HIF_IERR_LOG0, Reg.HIF_IERR_LOG1, Reg.HIF_IERR_LOG2, Reg.HIF_IERR_LOG3, and_assoc]

theorem alarmReg_of_eventReg (a : Nat) (h : eventReg a = true) : alarmReg a = true := by simp [alarmReg, h]

/-- The registers of the log of internal errors. -/
def errorLogReg (a : Nat) : Bool := [Reg.HIF_IERR_LOG0, Reg.HIF_IERR_LOG1, Reg.HIF_IERR_LOG2, Reg.HIF_IERR_LOG3].contains a

/-- Beside its status bit an internal error writes the log alone. -/
theorem regsWithin_ierrLog_of_status (s : State) (src die cl code loc : Nat) :
    RegsWithin errorLogReg (s.setFld Reg.HIF_IERR_STATUS Fld.HIF_IERR_STATUS_SRC (s.fld Reg.HIF_IERR_STATUS Fld.HIF_IERR_STATUS_SRC ||| 2 ^ src))
      (s.ierrLog src die cl code loc) := by
  simp only [State.ierrLog]
  split
  · exact .refl _ _
  · refine RegsWithin.trans ?_ (.of_regs (State.report_regs _ _ _ _))
    split
    · exact .refl _ _
    · exact .setReg (.setReg (.setReg (.setReg (.refl _ _) (by decide)) (by decide)) (by decide)) (by decide)

theorem regsWithin_ierrLog (s : State) (src die cl code loc : Nat) : RegsWithin alarmReg s (s.ierrLog src die cl code loc) :=
  RegsWithin.trans (.setFld (.refl _ _) (by decide))
    ((regsWithin_ierrLog_of_status s src die cl code loc).mono (fun a h => by simp only [errorLogReg, alarmReg, List.contains_eq_mem] at *; simp_all))

/-- The status bit of a source is set once it is logged. -/
theorem ierrLog_status (s : State) (src die cl code loc : Nat) (h : src < 9) :
    ((s.ierrLog src die cl code loc).fld Reg.HIF_IERR_STATUS Fld.HIF_IERR_STATUS_SRC).testBit src = true := by
  rw [(regsWithin_ierrLog_of_status s src die cl code loc).fld (by decide), State.fld_setFld_same _ _ _ _ (by decide), Nat.testBit_mod_two_pow]
  simp [Fld.width, Fld.HIF_IERR_STATUS_SRC, h]

theorem regsWithin_ierr_event (s : State) (src die cl loc : Nat) :
    RegsWithin eventReg (s.ierrLog src die cl (Config.ierrEventCode src).toNat loc) (s.ierr src die cl loc) := by
  simp only [State.ierr]
  split
  · exact .refl _ _
  · exact regsWithin_ownerEvent _ _ _ _ _ _

theorem regsWithin_ierr (s : State) (src die cl loc : Nat) : RegsWithin alarmReg s (s.ierr src die cl loc) :=
  (regsWithin_ierrLog s src die cl _ loc).trans ((regsWithin_ierr_event s src die cl loc).mono alarmReg_of_eventReg)

theorem RegsWithin.ierr {p : Nat → Bool} {s t : State} {src die cl loc : Nat} (h : RegsWithin p s t) (hp : ∀ a, alarmReg a = true → p a = true) :
    RegsWithin p s (t.ierr src die cl loc) :=
  h.trans ((regsWithin_ierr t src die cl loc).mono hp)

/-- An internal error sets the status bit of its source (R356). -/
theorem ierr_status (s : State) (src die cl loc : Nat) (h : src < 9) :
    ((s.ierr src die cl loc).fld Reg.HIF_IERR_STATUS Fld.HIF_IERR_STATUS_SRC).testBit src = true := by
  rw [(regsWithin_ierr_event s src die cl loc).fld (by decide)]
  exact ierrLog_status s src die cl _ loc h

/-- A change of a capacity word writes that word and reports it. -/
theorem RegsWithin.modCap {p : Nat → Bool} {s t : State} {d c : Nat} {f : CapWord → CapWord} (h : RegsWithin p s t)
    (ha : ∀ a, alarmReg a = true → p a = true) (hc : p (Reg.DEV_CAP d c) = true) : RegsWithin p s (t.modCap d c f) := by
  simp only [State.modCap, State.setCap]
  split
  · exact h
  · exact ((h.setReg hc).trans ((regsWithin_ierrLog _ _ _ _ _ _).mono ha)).ownerEvent (fun a h => ha a (alarmReg_of_eventReg a h))

/-- The capacity word after a change of its fields (R544). -/
theorem modCap_word (s : State) (d c : Nat) (f : CapWord → CapWord) (ha : alarmReg (Reg.DEV_CAP d c) = false) :
    (s.modCap d c f).reg (Reg.DEV_CAP d c) = capWord (s.reg (Reg.DEV_CAP d c)) (f (capOf (s.reg (Reg.DEV_CAP d c)))) := by
  simp only [State.modCap, State.setCap]
  split
  case isTrue h => exact h.symm
  case isFalse =>
    rw [(regsWithin_ownerEvent _ _ _ _ _ _) _ (alarmReg_eq_false.1 ha).2.2.2.2.2, regsWithin_ierrLog _ _ _ _ _ _ _ ha, State.reg_setReg_same]

end Sys2Proof.Machine.DeviceOrganisation
end

section
/-! PROOF. Sensors, trips, the governor and the supply margins (R503 to R510): what each shows and what it leaves. -/

namespace Sys2Proof.Machine.DeviceOrganisation

theorem fld_lt (s : State) (a : Nat) (f : Fld) : s.fld a f < 2 ^ f.width := Nat.mod_lt _ (Nat.two_pow_pos _)

/-! ### OVER_MAX and HBM_OVER -/

/-- The registers that a change of a status bit of THM_STATUS can write. -/
def overReg (a : Nat) : Bool := a == Reg.THM_STATUS || eventReg a

theorem overReg_of_eventReg (a : Nat) (h : eventReg a = true) : overReg a = true := by simp [overReg, h]

theorem regsWithin_thmEvent (s : State) (code : Nat) : RegsWithin eventReg s (s.thmEvent code) := regsWithin_ownerEvent _ _ _ _ _ _

theorem regsWithin_setOver (s : State) (f : Fld) (b : Bool) : RegsWithin overReg s (s.setOver f b) := by
  simp only [State.setOver]
  split
  · exact .refl _ _
  · have hWritten : RegsWithin overReg s ((s.setFlag Reg.THM_STATUS f b).setFlag Reg.THM_STATUS Fld.THM_STATUS_EVT true) :=
      .setFlag (.setFlag (.refl _ _) (by decide)) (by decide)
    split
    · exact hWritten.ownerEvent overReg_of_eventReg
    · exact hWritten

theorem reported_setOver (s : State) (f : Fld) (b : Bool) : Reported s (s.setOver f b) := by
  simp only [State.setOver]
  split
  · exact .refl _
  · split
    · exact .ownerEvent (.setFlag (.setFlag (.refl _)))
    · exact .setFlag (.setFlag (.refl _))

/-- What a change of a status bit leaves in THM_STATUS: all but that bit and EVT. -/
theorem setOver_fld (s : State) (f g : Fld) (b : Bool) (hf : f.lo + f.width ≤ 32) (hg : g.lo + g.width ≤ 32)
    (hfg : f.lo + f.width ≤ g.lo ∨ g.lo + g.width ≤ f.lo)
    (hEvt : Fld.THM_STATUS_EVT.lo + Fld.THM_STATUS_EVT.width ≤ g.lo ∨ g.lo + g.width ≤ Fld.THM_STATUS_EVT.lo) :
    (s.setOver f b).fld Reg.THM_STATUS g = s.fld Reg.THM_STATUS g := by
  have hWritten : ((s.setFlag Reg.THM_STATUS f b).setFlag Reg.THM_STATUS Fld.THM_STATUS_EVT true).fld Reg.THM_STATUS g = s.fld Reg.THM_STATUS g := by
    rw [State.setFlag, State.fld_setFld_other _ _ _ _ _ (by decide) hg hEvt, State.setFlag, State.fld_setFld_other _ _ _ _ _ hf hg hfg]
  simp only [State.setOver]
  split
  · rfl
  · split
    · rw [(regsWithin_thmEvent _ _).fld (by decide), hWritten]
    · exact hWritten

/-- A status bit takes its new value. -/
theorem setOver_flag (s : State) (f : Fld) (b : Bool) (hf : f.lo + f.width ≤ 32)
    (hEvt : Fld.THM_STATUS_EVT.lo + Fld.THM_STATUS_EVT.width ≤ f.lo ∨ f.lo + f.width ≤ Fld.THM_STATUS_EVT.lo) :
    (s.setOver f b).flag Reg.THM_STATUS f = b := by
  have hWritten : ((s.setFlag Reg.THM_STATUS f b).setFlag Reg.THM_STATUS Fld.THM_STATUS_EVT true).flag Reg.THM_STATUS f = b := by
    rw [State.flag_setFlag_other _ _ _ _ _ (by decide) hf hEvt, State.flag_setFlag_same _ _ _ _ hf]
  simp only [State.setOver]
  split
  · assumption
  · split
    · rw [(regsWithin_thmEvent _ _).flag (by decide), hWritten]
    · exact hWritten

/-! ### Trips (R509) -/

theorem lfind_filter_key {α : Type} (l : List (Nat × α)) (p : Nat → Bool) (k : Nat) :
    lfind (l.filter (fun e => p e.1)) k = if p k then lfind l k else none := by
  induction l with
  | nil => simp [lfind]
  | cons e r ih =>
    obtain ⟨j, w⟩ := e
    by_cases hj : j = k
    · subst hj
      by_cases hp : p j <;> simp [hp, lfind, ih]
    · by_cases hp : p j <;> simp [hp, lfind, hj, ih]

/-- Keeping the entries of some keys leaves these keys and clears the others. -/
theorem get_filter_key {α : Type} (d : α) (m : KMap α) (p : Nat → Bool) (k : Nat) :
    KMap.get d (m.filter (fun a _ => p a)) k = if p k then KMap.get d m k else d := by
  rw [KMap.get, KMap.filter, lfind_filter_key]
  split <;> simp [KMap.get]

/-- The registers that a warm reset sets anew beside those it clears. -/
def drawnReg (a : Nat) : Bool := [Reg.BOOT_STATUS, Reg.FAB_DEV_CFG, Reg.BOOT_NONCE 0, Reg.BOOT_NONCE 1, Reg.BOOT_NONCE 2, Reg.BOOT_NONCE 3].contains a

theorem regsWithin_drawNonce (s : State) : RegsWithin drawnReg s (s.drawNonce Reg.BOOT_NONCE) := by
  refine RegsWithin.trans (.draw (.refl _ s)) (foldl_rel (.refl _) (fun _ _ _ => .trans) _ (fun u i hi => .setReg (.refl _ _) ?_) _)
  fin_cases hi <;> decide

/-- The last part of a warm reset: the start counter, the incarnation and the boot nonce. -/
theorem regsWithin_warmDraws (s : State) (fails limit inc : Nat) :
    RegsWithin drawnReg s (((((s.setFld Reg.BOOT_STATUS Fld.BOOT_STATUS_FAILS fails).setFld Reg.BOOT_STATUS Fld.BOOT_STATUS_LIMIT limit).draw.2).setFld
      Reg.FAB_DEV_CFG Fld.FAB_DEV_CFG_INCARNATION inc).drawNonce Reg.BOOT_NONCE) :=
  .trans (.setFld (.draw (.setFld (.setFld (.refl _ _) (by decide)) (by decide))) (by decide)) (regsWithin_drawNonce _)

/-- A warm reset keeps the words of some registers and clears the others, those apart that it sets itself (R466). -/
theorem warmReset_reg (s : State) (held : Bool) (a : Nat) (ha : drawnReg a = false) :
    (s.warmReset held).reg a = if keptReg a then s.reg a else resetWord a :=
  (regsWithin_warmDraws _ _ _ _ a ha).trans (get_filter_key (resetWord a) s.regs keptReg a)

theorem warmReset_aon (s : State) (held : Bool) : (s.warmReset held).aon = { s.aon with held := held } := by
  simp [State.warmReset, State.drawNonce, State.draw, List.range_succ]

theorem warmReset_pending (s : State) (held : Bool) : (s.warmReset held).pending = s.pending := by
  simp [State.warmReset, State.drawNonce, State.draw, List.range_succ]

theorem fld_withAon (s : State) (x : AonSt) (a : Nat) (f : Fld) : ({ s with aon := x } : State).fld a f = s.fld a f := by
  cases s; rfl

/-- A trip holds the device in reset and records its source, reading and stack (R509). -/
theorem thermalTrip_spec (s : State) (source temp stack : Nat) (h : s.aon.trip = false) :
    (s.thermalTrip source temp stack).aon = { s.aon with held := true, trip := true } ∧
    (s.thermalTrip source temp stack).flag Reg.THM_TRIP_LOG Fld.THM_TRIP_LOG_TRIPPED = true ∧
    (s.thermalTrip source temp stack).fld Reg.THM_TRIP_LOG Fld.THM_TRIP_LOG_SOURCE = source % 4 ∧
    (s.thermalTrip source temp stack).fld Reg.THM_TRIP_LOG Fld.THM_TRIP_LOG_TEMP = temp % 256 ∧
    (s.thermalTrip source temp stack).fld Reg.THM_TRIP_LOG Fld.THM_TRIP_LOG_STACK = stack % 8 := by
  have hLog (u : State) (b : Bool) (f : Fld) : (u.warmReset b).fld Reg.THM_TRIP_LOG f = u.fld Reg.THM_TRIP_LOG f := by
    rw [State.fld, warmReset_reg u b _ (by decide), if_pos (by decide), State.fld]
  simp only [State.thermalTrip, h, Bool.false_eq_true, if_false]
  refine ⟨by rw [warmReset_aon]; simp, ?_, ?_, ?_, ?_⟩
  all_goals
    simp (disch := decide) only [State.flag, State.setFlag, fld_withAon, hLog, State.fld_setFld_same, State.fld_setFld_other]
    rfl

theorem thermalTrip_pending (s : State) (source temp stack : Nat) : (s.thermalTrip source temp stack).pending = s.pending := by
  simp only [State.thermalTrip]
  split
  · rfl
  · rw [warmReset_pending]
    simp

end Sys2Proof.Machine.DeviceOrganisation
end

section
/-! PROOF. What SENSOR_READ, HBM_TEMP_READ and PWR_MARGIN show (R332, R503, R508 to R510). -/

namespace Sys2Proof.Machine.DeviceOrganisation

/-! ### SENSOR_READ (R503, R508) -/

/-- The device with the readings of the dies and the always-on sensor shown, and the highest of them noted. -/
def showTemps (s : State) (f t aon : Nat) : State :=
  (((({ s with aon := { s.aon with temp := aon } }.setFld Reg.THM_STATUS Fld.THM_STATUS_FDIE_TEMP f).setFld Reg.THM_STATUS
    Fld.THM_STATUS_TDIE_TEMP t).setFld Reg.THM_MAX Fld.THM_MAX_FDIE (max f (s.fld Reg.THM_MAX Fld.THM_MAX_FDIE))).setFld Reg.THM_MAX
    Fld.THM_MAX_TDIE (max t (s.fld Reg.THM_MAX Fld.THM_MAX_TDIE)))

/-- OVER_MAX follows the hotter die, with a hysteresis of 2 degrees (R508). -/
def judgeMax (s : State) (h : Nat) : State :=
  if 105 < h then s.setOver Fld.THM_STATUS_OVER_MAX true else if h ≤ 103 then s.setOver Fld.THM_STATUS_OVER_MAX false else s

theorem sensorRead_eq (s : State) (f t aon : Nat) (h : s.aon.held = false) :
    sensorRead f t aon none s =
      if 115 ≤ f then (judgeMax (showTemps s f t aon) (max f t)).thermalTrip 1 f 0
      else if 115 ≤ t then (judgeMax (showTemps s f t aon) (max f t)).thermalTrip 2 t 0
      else judgeMax (showTemps s f t aon) (max f t) := by
  simp (disch := decide) only [sensorRead, h, Bool.false_eq_true, if_false, judgeMax, showTemps, State.fld_setFld_ne, fld_withAon]

theorem showTemps_status (s : State) (f t aon : Nat) :
    (showTemps s f t aon).fld Reg.THM_STATUS Fld.THM_STATUS_FDIE_TEMP = f % 256 ∧
    (showTemps s f t aon).fld Reg.THM_STATUS Fld.THM_STATUS_TDIE_TEMP = t % 256 ∧
    (showTemps s f t aon).overMax = s.overMax := by
  simp (disch := decide) only [showTemps, State.overMax, State.flag, State.fld_setFld_ne, State.fld_setFld_same, State.fld_setFld_other, fld_withAon]
  exact ⟨rfl, rfl, trivial⟩

theorem showTemps_max (s : State) (f t aon : Nat) :
    (showTemps s f t aon).fld Reg.THM_MAX Fld.THM_MAX_FDIE = max f (s.fld Reg.THM_MAX Fld.THM_MAX_FDIE) % 256 ∧
    (showTemps s f t aon).fld Reg.THM_MAX Fld.THM_MAX_TDIE = max t (s.fld Reg.THM_MAX Fld.THM_MAX_TDIE) % 256 := by
  refine ⟨?_, ?_⟩
  · rw [showTemps, State.fld_setFld_other _ _ _ _ _ (by decide) (by decide) (by decide), State.fld_setFld_same _ _ _ _ (by decide)]
    rfl
  · rw [showTemps, State.fld_setFld_same _ _ _ _ (by decide)]
    rfl

theorem showTemps_aon (s : State) (f t aon : Nat) : (showTemps s f t aon).aon = { s.aon with temp := aon } := by simp [showTemps]

theorem showTemps_pending (s : State) (f t aon : Nat) : (showTemps s f t aon).pending = s.pending := by simp [showTemps]

theorem reported_judgeMax (s : State) (h : Nat) : Reported s (judgeMax s h) := by
  unfold judgeMax
  split_ifs
  · exact reported_setOver _ _ _
  · exact reported_setOver _ _ _
  · exact .refl _

theorem judgeMax_overMax (s : State) (h : Nat) : (judgeMax s h).overMax = if 105 < h then true else if h ≤ 103 then false else s.overMax := by
  unfold judgeMax
  split_ifs
  · exact setOver_flag _ _ _ (by decide) (by decide)
  · exact setOver_flag _ _ _ (by decide) (by decide)
  · rfl

/-- A change of OVER_MAX leaves the readings and their maxima. -/
theorem setOver_readings (s : State) (b : Bool) :
    (s.setOver Fld.THM_STATUS_OVER_MAX b).fld Reg.THM_STATUS Fld.THM_STATUS_FDIE_TEMP = s.fld Reg.THM_STATUS Fld.THM_STATUS_FDIE_TEMP ∧
    (s.setOver Fld.THM_STATUS_OVER_MAX b).fld Reg.THM_STATUS Fld.THM_STATUS_TDIE_TEMP = s.fld Reg.THM_STATUS Fld.THM_STATUS_TDIE_TEMP ∧
    ∀ g, (s.setOver Fld.THM_STATUS_OVER_MAX b).fld Reg.THM_MAX g = s.fld Reg.THM_MAX g :=
  ⟨setOver_fld _ _ _ _ (by decide) (by decide) (by decide) (by decide), setOver_fld _ _ _ _ (by decide) (by decide) (by decide) (by decide),
    (regsWithin_setOver _ _ _).fld (by decide)⟩

theorem judgeMax_readings (s : State) (h : Nat) :
    (judgeMax s h).fld Reg.THM_STATUS Fld.THM_STATUS_FDIE_TEMP = s.fld Reg.THM_STATUS Fld.THM_STATUS_FDIE_TEMP ∧
    (judgeMax s h).fld Reg.THM_STATUS Fld.THM_STATUS_TDIE_TEMP = s.fld Reg.THM_STATUS Fld.THM_STATUS_TDIE_TEMP ∧
    ∀ g, (judgeMax s h).fld Reg.THM_MAX g = s.fld Reg.THM_MAX g := by
  unfold judgeMax
  split_ifs
  · exact setOver_readings s true
  · exact setOver_readings s false
  · exact ⟨rfl, rfl, fun _ => rfl⟩

/-- SENSOR_READ of a device held in reset moves the always-on reading alone (R503). -/
theorem sensorRead_held (s : State) (f t aon : Nat) (h : s.aon.held = true) :
    sensorRead f t aon none s = { s with aon := { s.aon with temp := aon } } := by
  simp only [sensorRead, h, if_true]

/-- The readings after SENSOR_READ below the trip (R503, R508). -/
theorem sensorRead_below (s : State) (f t aon : Nat) (h : s.aon.held = false) (hf : f < 115) (ht : t < 115) :
    (sensorRead f t aon none s).fld Reg.THM_STATUS Fld.THM_STATUS_FDIE_TEMP = f ∧
    (sensorRead f t aon none s).fld Reg.THM_STATUS Fld.THM_STATUS_TDIE_TEMP = t ∧
    (sensorRead f t aon none s).fld Reg.THM_MAX Fld.THM_MAX_FDIE = max f (s.fld Reg.THM_MAX Fld.THM_MAX_FDIE) ∧
    (sensorRead f t aon none s).fld Reg.THM_MAX Fld.THM_MAX_TDIE = max t (s.fld Reg.THM_MAX Fld.THM_MAX_TDIE) ∧
    (sensorRead f t aon none s).overMax = (if 105 < max f t then true else if max f t ≤ 103 then false else s.overMax) := by
  have hFdie : s.fld Reg.THM_MAX Fld.THM_MAX_FDIE < 256 := fld_lt s _ Fld.THM_MAX_FDIE
  have hTdie : s.fld Reg.THM_MAX Fld.THM_MAX_TDIE < 256 := fld_lt s _ Fld.THM_MAX_TDIE
  obtain ⟨hShownF, hShownT, hOver⟩ := showTemps_status s f t aon
  obtain ⟨hMaxF, hMaxT⟩ := showTemps_max s f t aon
  obtain ⟨hKeptF, hKeptT, hKeptMax⟩ := judgeMax_readings (showTemps s f t aon) (max f t)
  rw [sensorRead_eq s f t aon h, if_neg (by omega), if_neg (by omega), hKeptF, hKeptT, hKeptMax, hKeptMax, hShownF, hShownT, hMaxF, hMaxT,
    judgeMax_overMax, hOver]
  exact ⟨by omega, by omega, by omega, by omega, rfl⟩

theorem judged_aon (s : State) (f t aon : Nat) : (judgeMax (showTemps s f t aon) (max f t)).aon = { s.aon with temp := aon } := by
  rw [(reported_judgeMax _ _).aon, showTemps_aon]

/-- A reading of the Forwarding die at the trip (R509). -/
theorem sensorRead_trip (s : State) (f t aon : Nat) (h : s.aon.held = false) (hTrip : s.aon.trip = false) (hf : 115 ≤ f) (hf8 : f < 256) :
    (sensorRead f t aon none s).aon.held = true ∧ (sensorRead f t aon none s).aon.trip = true ∧
    (sensorRead f t aon none s).flag Reg.THM_TRIP_LOG Fld.THM_TRIP_LOG_TRIPPED = true ∧
    (sensorRead f t aon none s).fld Reg.THM_TRIP_LOG Fld.THM_TRIP_LOG_SOURCE = 1 ∧
    (sensorRead f t aon none s).fld Reg.THM_TRIP_LOG Fld.THM_TRIP_LOG_TEMP = f := by
  obtain ⟨hAon, hTripped, hSource, hTemp, -⟩ :=
    thermalTrip_spec (judgeMax (showTemps s f t aon) (max f t)) 1 f 0 (by rw [judged_aon]; exact hTrip)
  rw [sensorRead_eq s f t aon h, if_pos hf, hAon, hTripped, hSource, hTemp]
  exact ⟨rfl, rfl, rfl, rfl, Nat.mod_eq_of_lt hf8⟩

theorem sensorRead_pending (s : State) (f t aon : Nat) : (sensorRead f t aon none s).pending = s.pending := by
  have hJudged : (judgeMax (showTemps s f t aon) (max f t)).pending = s.pending := by
    rw [(reported_judgeMax _ _).pending, showTemps_pending]
  cases h : s.aon.held with
  | true => rw [sensorRead_held s f t aon h]
  | false =>
    rw [sensorRead_eq s f t aon h]
    split_ifs
    · rw [thermalTrip_pending, hJudged]
    · rw [thermalTrip_pending, hJudged]
    · exact hJudged

/-! ### HBM_TEMP_READ (R332, R508, R509) -/

/-- The device with a stack's reading shown, and its mark of being over kept for HBM_OVER. -/
def showStack (s : State) (st temp : Nat) : State :=
  { hbmTempRead st temp s with
    thm := { s.thm with
      hbmOver := KMap.set 0 s.thm.hbmOver st (if 95 < temp then 1 else if temp ≤ 93 then 0 else KMap.get 0 s.thm.hbmOver st) } }

/-- HBM_OVER follows the marks of the stacks. -/
def judgeStacks (s : State) : State := s.setOver Fld.THM_STATUS_HBM_OVER (!s.thm.hbmOver.l.isEmpty)

theorem reported_hbmTempRead (s : State) (st temp : Nat) : Reported s (hbmTempRead st temp s) := by
  unfold hbmTempRead
  split_ifs
  · exact .setFlag (.setFld (.refl _))
  · exact .setFlag (.setFld (.refl _))
  · exact .setFld (.refl _)

theorem hbmSensor_eq (s : State) (st temp : Nat) (h : s.aon.held = false) :
    hbmSensor st temp s = if 105 ≤ temp then (judgeStacks (showStack s st temp)).thermalTrip 3 temp st else judgeStacks (showStack s st temp) := by
  simp only [hbmSensor, h, Bool.false_eq_true, if_false, showStack, judgeStacks, (reported_hbmTempRead s st temp).thm]

theorem fld_withThm (s : State) (x : ThmSt) (a : Nat) (f : Fld) : ({ s with thm := x } : State).fld a f = s.fld a f := by
  cases s; rfl

theorem stackStatus_ne (st : Nat) : overReg (Reg.HBMC_ST_STATUS st) = false := by
  simp [overReg, eventReg_eq_false, Reg.HBMC_ST_STATUS, Reg.THM_STATUS]
  omega

/-- A stack's status shows its reading and whether it is hot, with a hysteresis of 2 degrees (R332). -/
theorem hbmTempRead_status (s : State) (st temp : Nat) :
    (hbmTempRead st temp s).fld (Reg.HBMC_ST_STATUS st) Fld.HBMC_ST_STATUS_TEMP = temp % 256 ∧
    (hbmTempRead st temp s).flag (Reg.HBMC_ST_STATUS st) Fld.HBMC_ST_STATUS_HOT =
      if 85 < temp then true else if temp < 83 then false else s.flag (Reg.HBMC_ST_STATUS st) Fld.HBMC_ST_STATUS_HOT := by
  have hTemp : (s.setFld (Reg.HBMC_ST_STATUS st) Fld.HBMC_ST_STATUS_TEMP temp).fld (Reg.HBMC_ST_STATUS st) Fld.HBMC_ST_STATUS_TEMP = temp % 256 :=
    State.fld_setFld_same _ _ _ _ (by decide)
  have hHot (u : State) (b : Bool) :
      (u.setFlag (Reg.HBMC_ST_STATUS st) Fld.HBMC_ST_STATUS_HOT b).fld (Reg.HBMC_ST_STATUS st) Fld.HBMC_ST_STATUS_TEMP =
        u.fld (Reg.HBMC_ST_STATUS st) Fld.HBMC_ST_STATUS_TEMP ∧
      (u.setFlag (Reg.HBMC_ST_STATUS st) Fld.HBMC_ST_STATUS_HOT b).flag (Reg.HBMC_ST_STATUS st) Fld.HBMC_ST_STATUS_HOT = b :=
    ⟨State.fld_setFld_other _ _ _ _ _ (by decide) (by decide) (by decide), State.flag_setFlag_same _ _ _ _ (by decide)⟩
  unfold hbmTempRead
  split_ifs
  · exact ⟨(hHot _ true).1.trans hTemp, (hHot _ true).2⟩
  · exact ⟨(hHot _ false).1.trans hTemp, (hHot _ false).2⟩
  · refine ⟨hTemp, ?_⟩
    rw [State.flag, State.fld_setFld_other _ _ _ _ _ (by decide) (by decide) (by decide), State.flag]

theorem judgeStacks_status (s : State) (st temp : Nat) (f : Fld) :
    (judgeStacks (showStack s st temp)).fld (Reg.HBMC_ST_STATUS st) f = (hbmTempRead st temp s).fld (Reg.HBMC_ST_STATUS st) f := by
  rw [judgeStacks, (regsWithin_setOver _ _ _).fld (stackStatus_ne st), showStack, fld_withThm]

theorem judgeStacks_hbmOver (s : State) : (judgeStacks s).hbmOver = !s.thm.hbmOver.l.isEmpty := setOver_flag _ _ _ (by decide) (by decide)

theorem lins_ne_nil {α : Type} (l : List (Nat × α)) (k : Nat) (v : α) : lins l k v ≠ [] := by
  cases l with
  | nil => simp [lins]
  | cons e r =>
    simp only [lins]
    split_ifs <;> simp

theorem judgeStacks_aon (s : State) (st temp : Nat) : (judgeStacks (showStack s st temp)).aon = s.aon := by
  rw [judgeStacks, (reported_setOver _ _ _).aon, showStack]
  exact (reported_hbmTempRead s st temp).aon

theorem hbmSensor_pending (s : State) (st temp : Nat) (h : s.aon.held = false) : (hbmSensor st temp s).pending = s.pending := by
  have hShown : (judgeStacks (showStack s st temp)).pending = s.pending := by
    rw [judgeStacks, (reported_setOver _ _ _).pending, showStack]
    exact (reported_hbmTempRead s st temp).pending
  rw [hbmSensor_eq s st temp h]
  split_ifs
  · rw [thermalTrip_pending, hShown]
  · exact hShown

/-- A stack above 95 degrees sets HBM_OVER (R508). -/
theorem hbmSensor_over (s : State) (st temp : Nat) (h : s.aon.held = false) (hOver : 95 < temp) (hBelow : temp < 105) :
    (hbmSensor st temp s).hbmOver = true := by
  rw [hbmSensor_eq s st temp h, if_neg (by omega), judgeStacks_hbmOver]
  simp [showStack, hOver, KMap.set, lins_ne_nil]

/-- The last stack back at 93 degrees or below clears HBM_OVER (R508). -/
theorem hbmSensor_not_over (s : State) (st temp : Nat) (h : s.aon.held = false) (hLow : temp ≤ 93) (hNone : s.thm.hbmOver = .empty) :
    (hbmSensor st temp s).hbmOver = false := by
  rw [hbmSensor_eq s st temp h, if_neg (by omega), judgeStacks_hbmOver]
  simp [showStack, hLow, show ¬ 95 < temp by omega, KMap.set, hNone, KMap.empty, ldel]

/-! ### PWR_MARGIN (R510) -/

theorem withBit_testBit (v i j : Nat) (b : Bool) : (withBit v i b).testBit j = if j = i then b else v.testBit j := by
  unfold withBit
  split_ifs with hb hj hj
  · rw [hj, hb]
  · rfl
  · subst hj
    rw [Nat.testBit_xor, Nat.testBit_two_pow_self]
    cases b <;> simp_all
  · rw [Nat.testBit_xor, Nat.testBit_two_pow_of_ne (Ne.symm hj)]
    simp

theorem withBit_lt (v i n : Nat) (b : Bool) (hv : v < 2 ^ n) (hi : i < n) : withBit v i b < 2 ^ n := by
  unfold withBit
  split_ifs
  · exact hv
  · exact Nat.xor_lt_two_pow hv (Nat.pow_lt_pow_right (by omega) hi)

/-- The device with one rail's bit of RAIL_OUT written. -/
def showRail (s : State) (rail : Nat) (out : Bool) : State :=
  (s.setRail rail out).setFld Reg.PWR_STATUS Fld.PWR_STATUS_RAIL_OUT (withBit (s.fld Reg.PWR_STATUS Fld.PWR_STATUS_RAIL_OUT) rail out)

/-- MARGIN_ALARM follows RAIL_OUT, with an event when it sets (R510). -/
def judgeMargin (s : State) (alarm : Bool) : State :=
  if s.flag Reg.PWR_STATUS Fld.PWR_STATUS_MARGIN_ALARM = alarm then s
  else if alarm then
    ((s.setFlag Reg.PWR_STATUS Fld.PWR_STATUS_MARGIN_ALARM alarm).setFlag Reg.PWR_STATUS Fld.PWR_STATUS_EVT true).thmEvent 0x0F02
  else (s.setFlag Reg.PWR_STATUS Fld.PWR_STATUS_MARGIN_ALARM alarm).setFlag Reg.PWR_STATUS Fld.PWR_STATUS_EVT true

theorem pwrMargin_eq (s : State) (rail : Nat) (out : Bool) (h : s.aon.held = false) :
    pwrMargin rail out s = judgeMargin (showRail s rail out) (withBit (s.fld Reg.PWR_STATUS Fld.PWR_STATUS_RAIL_OUT) rail out != 0) := by
  simp only [pwrMargin, h, Bool.false_eq_true, if_false, judgeMargin, showRail]
  rfl

theorem judgeMargin_status (s : State) (alarm : Bool) :
    (judgeMargin s alarm).flag Reg.PWR_STATUS Fld.PWR_STATUS_MARGIN_ALARM = alarm ∧
    (judgeMargin s alarm).fld Reg.PWR_STATUS Fld.PWR_STATUS_RAIL_OUT = s.fld Reg.PWR_STATUS Fld.PWR_STATUS_RAIL_OUT := by
  have hWritten :
      (((s.setFlag Reg.PWR_STATUS Fld.PWR_STATUS_MARGIN_ALARM alarm).setFlag Reg.PWR_STATUS Fld.PWR_STATUS_EVT true).flag Reg.PWR_STATUS
        Fld.PWR_STATUS_MARGIN_ALARM = alarm) ∧
      ((s.setFlag Reg.PWR_STATUS Fld.PWR_STATUS_MARGIN_ALARM alarm).setFlag Reg.PWR_STATUS Fld.PWR_STATUS_EVT true).fld Reg.PWR_STATUS
        Fld.PWR_STATUS_RAIL_OUT = s.fld Reg.PWR_STATUS Fld.PWR_STATUS_RAIL_OUT := by
    refine ⟨?_, ?_⟩
    · rw [State.flag_setFlag_other _ _ _ _ _ (by decide) (by decide) (by decide), State.flag_setFlag_same _ _ _ _ (by decide)]
    · simp (disch := decide) only [State.setFlag, State.fld_setFld_other]
  unfold judgeMargin
  split_ifs with hSame hAlarm
  · exact ⟨hSame, rfl⟩
  · rw [(regsWithin_thmEvent _ _).flag (by decide), (regsWithin_thmEvent _ _).fld (by decide)]
    exact hWritten
  · exact hWritten

theorem judgeMargin_pending (s : State) (alarm : Bool) : (judgeMargin s alarm).pending = s.pending := by
  have hEvent (u : State) : (u.thmEvent 0x0F02).pending = u.pending := (Reported.ownerEvent (.refl u)).pending
  unfold judgeMargin
  split_ifs <;> simp [hEvent]

theorem showRail_railOut (s : State) (rail : Nat) (out : Bool) (hr : rail < 8) :
    (showRail s rail out).fld Reg.PWR_STATUS Fld.PWR_STATUS_RAIL_OUT = withBit (s.fld Reg.PWR_STATUS Fld.PWR_STATUS_RAIL_OUT) rail out := by
  rw [showRail, State.fld_setFld_same _ _ _ _ (by decide)]
  exact Nat.mod_eq_of_lt (withBit_lt _ _ 8 _ (fld_lt s _ Fld.PWR_STATUS_RAIL_OUT) hr)

/-- PWR_MARGIN writes one rail's bit, and the alarm shows whether a bit is set (R510). -/
theorem pwrMargin_status (s : State) (rail : Nat) (out : Bool) (h : s.aon.held = false) (hr : rail < 8) :
    (pwrMargin rail out s).fld Reg.PWR_STATUS Fld.PWR_STATUS_RAIL_OUT = withBit (s.fld Reg.PWR_STATUS Fld.PWR_STATUS_RAIL_OUT) rail out ∧
    (pwrMargin rail out s).flag Reg.PWR_STATUS Fld.PWR_STATUS_MARGIN_ALARM =
      ((pwrMargin rail out s).fld Reg.PWR_STATUS Fld.PWR_STATUS_RAIL_OUT != 0) := by
  obtain ⟨hAlarm, hRail⟩ := judgeMargin_status (showRail s rail out) (withBit (s.fld Reg.PWR_STATUS Fld.PWR_STATUS_RAIL_OUT) rail out != 0)
  rw [pwrMargin_eq s rail out h, hAlarm, hRail, showRail_railOut s rail out hr]
  exact ⟨rfl, rfl⟩

theorem pwrMargin_pending (s : State) (rail : Nat) (out : Bool) (h : s.aon.held = false) : (pwrMargin rail out s).pending = s.pending := by
  rw [pwrMargin_eq s rail out h, judgeMargin_pending]
  simp [showRail, State.setRail]

end Sys2Proof.Machine.DeviceOrganisation
end

section
/-! PROOF. GOVERNOR_EVALUATE (R505 to R507): the requests of both sources and the level in force. -/

namespace Sys2Proof.Machine.DeviceOrganisation

/-- The hotter die, as shown. -/
def hottest (s : State) : Nat := max (s.fld Reg.THM_STATUS Fld.THM_STATUS_FDIE_TEMP) (s.fld Reg.THM_STATUS Fld.THM_STATUS_TDIE_TEMP)

/-- The next thermal request and its count of low evaluations (R505). -/
def thermRequest (s : State) : Nat × Nat :=
  if s.flag Reg.THM_CFG Fld.THM_CFG_GOV_EN then
    govRequest (s.fld Reg.THM_STATUS Fld.THM_STATUS_THERM_LEVEL) s.thm.cool (decide (s.govTemp < hottest s))
      (decide (hottest s + s.govHyst ≤ s.govTemp))
  else (0, 0)

/-- The currents of the last ten periods. -/
def currents (s : State) (amps : Nat) : List Nat := (amps :: s.thm.icc).take 10

/-- The next electrical request and its count of low evaluations (R506). -/
def elecRequest (s : State) (amps : Nat) : Nat × Nat :=
  if s.flag Reg.PWR_CFG Fld.PWR_CFG_ICC_EN then
    govRequest (s.fld Reg.THM_STATUS Fld.THM_STATUS_ELEC_LEVEL) s.thm.low (decide (s.iccMax * (currents s amps).length < (currents s amps).sum))
      (decide (100 * (currents s amps).sum < 95 * s.iccMax * (currents s amps).length))
  else (0, 0)

/-- The level that comes into force (R507). -/
def nextLevel (s : State) (amps : Nat) : Nat :=
  govLevel (s.fld Reg.THM_STATUS Fld.THM_STATUS_LEVEL) (max (thermRequest s).1 (elecRequest s amps).1)

/-- The device with the requests, their counts, the level and the average current shown. -/
def showLevels (s : State) (amps : Nat) : State :=
  (((({ s with thm := { s.thm with cool := (thermRequest s).2, low := (elecRequest s amps).2, icc := currents s amps } }).setFld Reg.THM_STATUS
    Fld.THM_STATUS_THERM_LEVEL (thermRequest s).1).setFld Reg.THM_STATUS Fld.THM_STATUS_ELEC_LEVEL (elecRequest s amps).1).setFld Reg.THM_STATUS
    Fld.THM_STATUS_LEVEL (nextLevel s amps)).setFld Reg.PWR_ICC_AVG Fld.PWR_ICC_AVG_AMPS ((currents s amps).sum / (currents s amps).length)

/-- A period at a level above 0 counts. -/
def countPeriod (s : State) (level : Nat) : State := if 0 < level then s.bump Ctr.PWR_THROTTLE_PERIODS 1 else s

/-- THROTTLE shows a level above 0, with an event at a change. -/
def judgeThrottle (s : State) (level : Nat) : State :=
  if s.throttled = decide (0 < level) then s
  else
    ((s.setFlag Reg.THM_STATUS Fld.THM_STATUS_THROTTLE (decide (0 < level))).setFlag Reg.THM_STATUS Fld.THM_STATUS_EVT true).ownerEvent 0x0F00 1 63
      level []

theorem governorEvaluate_due (s : State) (amps : Nat) (hDue : s.trigDue tgGov (spanExp 10) = true) (hHeld : s.aon.held = false) :
    governorEvaluate amps s = judgeThrottle
      (countPeriod (showLevels (s.trigFire tgGov (spanExp 10)) amps) (nextLevel (s.trigFire tgGov (spanExp 10)) amps))
      (nextLevel (s.trigFire tgGov (spanExp 10)) amps) := by
  unfold governorEvaluate
  rw [if_neg (by simp [hDue, hHeld])]
  rfl

theorem governorEvaluate_idle (s : State) (amps : Nat) (h : s.trigDue tgGov (spanExp 10) = false ∨ s.aon.held = true) : governorEvaluate amps s = s := by
  unfold governorEvaluate
  rw [if_pos (by rcases h with h | h <;> simp [h])]

/-! ### Bounds -/

theorem govRequest_le (req count : Nat) (high low : Bool) (h : req < 16) : (govRequest req count high low).1 < 16 := by
  unfold govRequest
  split_ifs <;> dsimp only <;> omega

theorem thermRequest_lt (s : State) : (thermRequest s).1 < 16 := by
  unfold thermRequest
  split_ifs
  · exact govRequest_le _ _ _ _ (fld_lt s _ Fld.THM_STATUS_THERM_LEVEL)
  · decide

theorem elecRequest_lt (s : State) (amps : Nat) : (elecRequest s amps).1 < 16 := by
  unfold elecRequest
  split_ifs
  · exact govRequest_le _ _ _ _ (fld_lt s _ Fld.THM_STATUS_ELEC_LEVEL)
  · decide

theorem nextLevel_lt (s : State) (amps : Nat) : nextLevel s amps < 16 := by
  have hOld : s.fld Reg.THM_STATUS Fld.THM_STATUS_LEVEL < 16 := fld_lt s _ Fld.THM_STATUS_LEVEL
  have hTherm := thermRequest_lt s
  have hElec := elecRequest_lt s amps
  unfold nextLevel govLevel
  split_ifs <;> omega

/-! ### What is shown -/

/-- The three levels that a state shows, and the thermal part. -/
def showsLevels (s : State) (therm elec level : Nat) : Prop :=
  s.fld Reg.THM_STATUS Fld.THM_STATUS_THERM_LEVEL = therm ∧ s.fld Reg.THM_STATUS Fld.THM_STATUS_ELEC_LEVEL = elec ∧
  s.fld Reg.THM_STATUS Fld.THM_STATUS_LEVEL = level

theorem showLevels_levels (s : State) (amps : Nat) :
    showsLevels (showLevels s amps) (thermRequest s).1 (elecRequest s amps).1 (nextLevel s amps) := by
  refine ⟨?_, ?_, ?_⟩
  · rw [showLevels, State.fld_setFld_ne _ _ _ _ _ _ (by decide), State.fld_setFld_other _ _ _ _ _ (by decide) (by decide) (by decide),
      State.fld_setFld_other _ _ _ _ _ (by decide) (by decide) (by decide), State.fld_setFld_same _ _ _ _ (by decide)]
    exact Nat.mod_eq_of_lt (thermRequest_lt s)
  · rw [showLevels, State.fld_setFld_ne _ _ _ _ _ _ (by decide), State.fld_setFld_other _ _ _ _ _ (by decide) (by decide) (by decide),
      State.fld_setFld_same _ _ _ _ (by decide)]
    exact Nat.mod_eq_of_lt (elecRequest_lt s amps)
  · rw [showLevels, State.fld_setFld_ne _ _ _ _ _ _ (by decide), State.fld_setFld_same _ _ _ _ (by decide)]
    exact Nat.mod_eq_of_lt (nextLevel_lt s amps)

theorem reported_judgeThrottle (s : State) (level : Nat) : Reported s (judgeThrottle s level) := by
  unfold judgeThrottle
  split_ifs
  · exact .refl _
  · exact .ownerEvent (.setFlag (.setFlag (.refl _)))

theorem reported_countPeriod (s : State) (level : Nat) : Reported s (countPeriod s level) := by
  unfold countPeriod
  split_ifs
  · exact .bump (.refl _)
  · exact .refl _

theorem judgeThrottle_throttled (s : State) (level : Nat) : (judgeThrottle s level).throttled = decide (0 < level) := by
  unfold judgeThrottle
  split_ifs with h
  · exact h
  · rw [State.throttled, (regsWithin_ownerEvent _ _ _ _ _ _).flag (by decide), State.flag_setFlag_other _ _ _ _ _ (by decide) (by decide) (by decide),
      State.flag_setFlag_same _ _ _ _ (by decide)]

/-- THROTTLE and its event leave the levels. -/
theorem judgeThrottle_fld (s : State) (level : Nat) (f : Fld) (hf : f.lo + f.width ≤ 32)
    (hThr : Fld.THM_STATUS_THROTTLE.lo + Fld.THM_STATUS_THROTTLE.width ≤ f.lo ∨ f.lo + f.width ≤ Fld.THM_STATUS_THROTTLE.lo)
    (hEvt : Fld.THM_STATUS_EVT.lo + Fld.THM_STATUS_EVT.width ≤ f.lo ∨ f.lo + f.width ≤ Fld.THM_STATUS_EVT.lo) :
    (judgeThrottle s level).fld Reg.THM_STATUS f = s.fld Reg.THM_STATUS f := by
  unfold judgeThrottle
  split_ifs with h
  · rfl
  · rw [(regsWithin_ownerEvent _ _ _ _ _ _).fld (by decide), State.setFlag, State.fld_setFld_other _ _ _ _ _ (by decide) hf hEvt, State.setFlag,
      State.fld_setFld_other _ _ _ _ _ (by decide) hf hThr]

theorem countPeriod_fld (s : State) (level : Nat) (f : Fld) : (countPeriod s level).fld Reg.THM_STATUS f = s.fld Reg.THM_STATUS f := by
  unfold countPeriod
  split_ifs
  · exact (RegsWithin.bump (p := fun a => decide (0x1fc40000 ≤ a)) (.refl _ s) (by decide)).fld (by decide) f
  · rfl

/-- What the governor shows once it is due: the requests, the level they give, and THROTTLE (R505 to R507). -/
theorem governorEvaluate_shows (s : State) (amps : Nat) (hDue : s.trigDue tgGov (spanExp 10) = true) (hHeld : s.aon.held = false) :
    showsLevels (governorEvaluate amps s) (thermRequest s).1 (elecRequest s amps).1 (nextLevel s amps) ∧
    (governorEvaluate amps s).throttled = decide (0 < nextLevel s amps) ∧ (governorEvaluate amps s).thm.cool = (thermRequest s).2 ∧
    (governorEvaluate amps s).pending = s.pending := by
  obtain ⟨hTherm, hElec, hLevel⟩ := showLevels_levels (s.trigFire tgGov (spanExp 10)) amps
  have hReport := (reported_countPeriod (showLevels (s.trigFire tgGov (spanExp 10)) amps) (nextLevel (s.trigFire tgGov (spanExp 10)) amps)).trans
    (reported_judgeThrottle _ (nextLevel (s.trigFire tgGov (spanExp 10)) amps))
  rw [governorEvaluate_due s amps hDue hHeld]
  refine ⟨⟨?_, ?_, ?_⟩, judgeThrottle_throttled _ _, ?_, ?_⟩
  · rw [judgeThrottle_fld _ _ _ (by decide) (by decide) (by decide), countPeriod_fld, hTherm]
    rfl
  · rw [judgeThrottle_fld _ _ _ (by decide) (by decide) (by decide), countPeriod_fld, hElec]
    rfl
  · rw [judgeThrottle_fld _ _ _ (by decide) (by decide) (by decide), countPeriod_fld, hLevel]
    rfl
  · rw [hReport.thm]
    simp [showLevels]
    rfl
  · rw [hReport.pending]
    simp [showLevels]
    rfl

/-- The thermal request rises when the hotter die is above the target (R505). -/
theorem thermRequest_high (s : State) (hEn : s.flag Reg.THM_CFG Fld.THM_CFG_GOV_EN = true) (h : s.govTemp < hottest s) :
    thermRequest s = (min 8 (s.fld Reg.THM_STATUS Fld.THM_STATUS_THERM_LEVEL + 1), 0) := by
  simp [thermRequest, govRequest, hEn, h]

/-- The thermal request falls on the 16th low evaluation in a row (R505). -/
theorem thermRequest_low (s : State) (hEn : s.flag Reg.THM_CFG Fld.THM_CFG_GOV_EN = true) (h : hottest s + s.govHyst ≤ s.govTemp) :
    thermRequest s = (s.fld Reg.THM_STATUS Fld.THM_STATUS_THERM_LEVEL - (if s.thm.cool = 15 then 1 else 0),
      if s.thm.cool = 15 then 0 else s.thm.cool + 1) := by
  have hNotHigh : ¬ s.govTemp < hottest s := by omega
  simp only [thermRequest, govRequest, hEn, hNotHigh, h, decide_true, decide_false, if_true, Bool.false_eq_true, if_false]
  by_cases hCool : s.thm.cool = 15 <;> simp [hCool]

end Sys2Proof.Machine.DeviceOrganisation
end

section
/-! PROOF. Spares, fenced slices and their takeover (R17, R512 to R514, R544). -/

namespace Sys2Proof.Machine.DeviceOrganisation

/-! ### Capacity words and the repair log -/

/-- A capacity word holds the fields put into it, each cut to its width (R544). -/
theorem capOf_capWord (old : Word) (c : CapWord) : capOf (capWord old c) = ⟨c.fenced, c.spare % 64, c.percent % 256, c.count % 65536⟩ := by
  obtain ⟨fenced, spare, percent, count⟩ := c
  have hBool (b : Bool) : b.toNat < 2 := by cases b <;> decide
  simp only [capWord, capOf, BitVec.toNat_ofNat, Nat.shiftRight_eq_div_pow, Nat.testBit_eq_decide_div_mod_eq, CapWord.mk.injEq]
  generalize hRed : (decide (old.toNat / 2 ^ 30 % 2 = 1) || decide (percent < 100) || fenced) = red
  have hr := hBool red
  refine ⟨?_, ?_, ?_, ?_⟩
  · cases fenced
    · simp only [Bool.toNat_false, decide_eq_false_iff_not]
      omega
    · simp only [Bool.toNat_true, decide_eq_true_eq]
      omega
  all_goals
    have hf := hBool fenced
    omega

theorem capWord_fenced (old : Word) (c : CapWord) : (capWord old c).getLsbD 31 = c.fenced := by
  rw [← BitVec.testBit_toNat]
  exact congrArg CapWord.fenced (capOf_capWord old c)

/-- The registers that a change of capacity can write. -/
def capacityReg (a : Nat) : Bool := alarmReg a || (decide (0x1000 ≤ a) && decide (a < 0x1200))

theorem capacityReg_of_alarmReg (a : Nat) (h : alarmReg a = true) : capacityReg a = true := by simp [capacityReg, h]

theorem capacityReg_cap (d c : Nat) (hd : d = 1 ∨ d = 2) (hc : c < 64) : capacityReg (Reg.DEV_CAP d c) = true := by
  have hRange : 0x1000 ≤ Reg.DEV_CAP d c ∧ Reg.DEV_CAP d c < 0x1200 := by
    unfold Reg.DEV_CAP
    omega
  simp [capacityReg, hRange]

theorem alarmReg_cap (d c : Nat) (hd : d = 1 ∨ d = 2) (hc : c < 64) : alarmReg (Reg.DEV_CAP d c) = false := by
  rw [alarmReg_eq_false, eventReg_eq_false]
  unfold Reg.DEV_CAP
  omega

/-- The registers of the repair log (R541). -/
def repairReg (a : Nat) : Bool := a == Reg.DEV_REPAIR_STATUS || (decide (0x4000 ≤ a) && decide (a < 0x8000))

theorem repairReg_cap (d c : Nat) (hd : d = 1 ∨ d = 2) (hc : c < 64) : repairReg (Reg.DEV_CAP d c) = false := by
  have hRange : Reg.DEV_REPAIR_STATUS < Reg.DEV_CAP d c ∧ Reg.DEV_CAP d c < 0x4000 := by
    unfold Reg.DEV_CAP Reg.DEV_REPAIR_STATUS
    omega
  simp [repairReg, hRange.1.ne', hRange.2]

theorem repairReg_log (n w : Nat) (hn : n < 1024) (hw : w < 4) : repairReg (Reg.DEV_REPAIR_LOG n w) = true := by
  have hRange : 0x4000 ≤ Reg.DEV_REPAIR_LOG n w ∧ Reg.DEV_REPAIR_LOG n w < 0x8000 := by
    unfold Reg.DEV_REPAIR_LOG
    omega
  simp [repairReg, hRange]

theorem regsWithin_logRepair (s : State) (r k : Nat) (soft : Bool) (d c e : Nat) : RegsWithin repairReg s (s.logRepair r k soft d c e) := by
  simp only [State.logRepair]
  split
  · exact .refl _ _
  case isFalse hn =>
    have hLog (w : Nat) (hw : w < 4) := repairReg_log (s.fld Reg.DEV_REPAIR_STATUS Fld.DEV_REPAIR_STATUS_COUNT) w (by omega) hw
    exact .setFlag (.setFld (.setReg (.setReg (.setReg (.setReg (.refl _ _) (hLog 0 (by decide))) (hLog 1 (by decide))) (hLog 2 (by decide)))
      (hLog 3 (by decide))) (by decide)) (by decide)

/-! ### One bit of a register -/

theorem setBit_reg (s : State) (a i j : Nat) (hi : i < 32) : ((s.setBit a i).reg a).getLsbD j = ((s.reg a).getLsbD j || decide (j = i)) := by
  rw [State.setBit, State.reg_setReg_same, BitVec.getLsbD_or, BitVec.getLsbD_ofNat]
  by_cases h : j = i
  · subst h
    rw [Nat.testBit_two_pow_self]
    simp [hi]
  · rw [Nat.testBit_two_pow_of_ne (Ne.symm h)]
    simp [h]

/-! ### The spare stage (R17) -/

theorem reported_takeSpareStage (s : State) (sl stage : Nat) : Reported s (s.takeSpareStage sl stage false) := by
  simp only [State.takeSpareStage, Bool.false_eq_true, if_false]
  exact .logRepair (.modCap (.setReg (.refl s)))

theorem takeSpareStage_regs (s : State) (sl stage : Nat) (hsl : sl < 32) :
    (s.takeSpareStage sl stage false).spareStageUsed sl = true ∧ ∀ i, (s.takeSpareStage sl stage false).isFenced i = s.isFenced i := by
  have hCap : RegsWithin capacityReg (s.setBit Reg.PWR_SPARE_STAGE sl) ((s.setBit Reg.PWR_SPARE_STAGE sl).modCap 1 sl (fun c => { c with spare := 0 })) :=
    .modCap (.refl _ _) capacityReg_of_alarmReg (capacityReg_cap 1 sl (.inl rfl) (by omega))
  have hLog := regsWithin_logRepair ((s.setBit Reg.PWR_SPARE_STAGE sl).modCap 1 sl (fun c => { c with spare := 0 }))
    (5 * 2 ^ 28 + sl * 2 ^ 16 + stage) rlStage true 1 sl stage
  simp only [State.takeSpareStage, Bool.false_eq_true, if_false, State.spareStageUsed, State.isFenced]
  rw [hLog _ (by decide), hCap _ (by decide), hLog _ (by decide), hCap _ (by decide), setBit_reg _ _ _ _ hsl]
  refine ⟨by simp, fun i => ?_⟩
  rw [State.setBit, State.reg_setReg_ne _ _ _ _ (by decide)]

/-! ### How slices stand (R512, R513) -/

theorem partnerOf_spec (sl : Nat) (h : sl < 32) : partnerOf sl ≠ sl ∧ partnerOf sl < 32 ∧ (partnerOf sl < 16 ↔ sl < 16) := by
  unfold partnerOf
  split_ifs <;> omega

theorem sliceStand_congr {s t : State} (hi : t.ing.fence = s.ing.fence) (he : t.eg.fence = s.eg.fence) (sl : Nat) : t.sliceStand sl = s.sliceStand sl := by
  simp only [State.sliceStand, hi, he]

theorem sliceStand_setStand (s : State) (a b v : Nat) : (s.setStand a v).sliceStand b = if b = a then v else s.sliceStand b := by
  by_cases ha : a < 16 <;> by_cases hb : b < 16 <;> simp only [State.setStand, State.sliceStand, ha, hb, if_true, if_false]
  · exact KMap.get_set _ _ _ _ _
  · rw [if_neg (by omega)]
  · rw [if_neg (by omega)]
  · rw [KMap.get_set]
    exact if_congr (by omega) rfl rfl

theorem setStand_regs (s : State) (a v : Nat) : (s.setStand a v).regs = s.regs := by
  unfold State.setStand
  split <;> cases s <;> rfl

theorem setStand_pending (s : State) (a v : Nat) : (s.setStand a v).pending = s.pending := by
  unfold State.setStand
  split <;> cases s <;> rfl

theorem setStand_pkts (s : State) (a v : Nat) : (s.setStand a v).ing.pkts = s.ing.pkts := by
  unfold State.setStand
  split <;> cases s <;> rfl

/-- FENCE_TAKEOVER of a slice that is fenced and waits (R513). -/
theorem fenceTakeover_takes (s : State) (sl : Nat) (hsl : sl < 32) (h : s.sliceStand sl = 1) :
    (fenceTakeover sl s).sliceStand sl = 2 ∧ capOf ((fenceTakeover sl s).reg (Reg.DEV_CAP 1 (partnerOf sl))) =
      { capOf (s.reg (Reg.DEV_CAP 1 (partnerOf sl))) with percent := 50, count := 2 } ∧ (fenceTakeover sl s).pending = s.pending := by
  obtain ⟨-, hPartner, -⟩ := partnerOf_spec sl hsl
  have hCap (f : CapWord → CapWord) : Reported (s.setStand sl 2) ((s.setStand sl 2).modCap 1 (partnerOf sl) f) := .modCap (.refl _)
  simp only [fenceTakeover, h, ne_eq, not_true_eq_false, if_false]
  refine ⟨?_, ?_, ?_⟩
  · refine (sliceStand_congr (congrArg IngSt.fence (hCap _).ing) (congrArg EgSt.fence (hCap _).eg) sl).trans ?_
    rw [sliceStand_setStand, if_pos rfl]
  · rw [modCap_word _ _ _ _ (alarmReg_cap 1 _ (.inl rfl) (by omega)), capOf_capWord, State.reg, setStand_regs, ← State.reg]
    have hSpare : (capOf (s.reg (Reg.DEV_CAP 1 (partnerOf sl)))).spare % 64 = (capOf (s.reg (Reg.DEV_CAP 1 (partnerOf sl)))).spare :=
      Nat.mod_mod _ _
    simp [hSpare]
  · rw [(hCap _).pending, setStand_pending]

/-! ### Copies of the egress side -/

@[simp] theorem endEgCopy_regs (s : State) (n : Nat) (x : EgCopy) : (s.endEgCopy n x).regs = s.regs := by cases s; rfl
@[simp] theorem endEgCopy_pending (s : State) (n : Nat) (x : EgCopy) : (s.endEgCopy n x).pending = s.pending := by cases s; rfl
@[simp] theorem endEgCopy_ing (s : State) (n : Nat) (x : EgCopy) : (s.endEgCopy n x).ing = s.ing := by cases s; rfl
@[simp] theorem endEgCopy_die (s : State) (n : Nat) (x : EgCopy) : (s.endEgCopy n x).die = s.die := by cases s; rfl
@[simp] theorem endEgCopy_fence (s : State) (n : Nat) (x : EgCopy) : (s.endEgCopy n x).eg.fence = s.eg.fence := by cases s; rfl

@[simp] theorem egDrop_regs (s : State) (q : Nat) : (s.egDrop q).regs = s.regs := by cases s; rfl
@[simp] theorem egDrop_pending (s : State) (q : Nat) : (s.egDrop q).pending = s.pending := by cases s; rfl
@[simp] theorem egDrop_ing (s : State) (q : Nat) : (s.egDrop q).ing = s.ing := by cases s; rfl
@[simp] theorem egDrop_eg (s : State) (q : Nat) : (s.egDrop q).eg = s.eg := by cases s; rfl

/-- The descriptors that a copy reserved go back to its ring; nothing else changes (R379). -/
theorem unreserveRx_eq (s : State) (n : Nat) (x : EgCopy) : ∃ r, s.unreserveRx n x = { s with rings := r } := by
  simp only [State.unreserveRx]
  split
  · exact ⟨_, rfl⟩
  · split
    · exact ⟨_, rfl⟩
    · exact ⟨_, rfl⟩

@[simp] theorem unreserveRx_regs (s : State) (n : Nat) (x : EgCopy) : (s.unreserveRx n x).regs = s.regs := by
  obtain ⟨r, h⟩ := unreserveRx_eq s n x
  rw [h]
@[simp] theorem unreserveRx_pending (s : State) (n : Nat) (x : EgCopy) : (s.unreserveRx n x).pending = s.pending := by
  obtain ⟨r, h⟩ := unreserveRx_eq s n x
  rw [h]
@[simp] theorem unreserveRx_ing (s : State) (n : Nat) (x : EgCopy) : (s.unreserveRx n x).ing = s.ing := by
  obtain ⟨r, h⟩ := unreserveRx_eq s n x
  rw [h]
@[simp] theorem unreserveRx_eg (s : State) (n : Nat) (x : EgCopy) : (s.unreserveRx n x).eg = s.eg := by
  obtain ⟨r, h⟩ := unreserveRx_eq s n x
  rw [h]
@[simp] theorem unreserveRx_die (s : State) (n : Nat) (x : EgCopy) : (s.unreserveRx n x).die = s.die := by
  obtain ⟨r, h⟩ := unreserveRx_eq s n x
  rw [h]

/-! ### Packets and copies dropped by a fence (R512, R513) -/

/-- The registers that a sweep of packets or copies can write: none of the capacity words, and not PWR_FENCE. -/
def sweepReg (a : Nat) : Bool := decide (0x1200 ≤ a) && a != Reg.PWR_FENCE

/-- What a sweep of packets or copies leaves: how the slices stand, and of the packets those it does not drop. -/
structure Swept (s t : State) : Prop where
  regs : RegsWithin sweepReg s t
  pending : t.pending = s.pending
  ingFence : t.ing.fence = s.ing.fence
  egFence : t.eg.fence = s.eg.fence
  pkts : ∀ e ∈ t.ing.pkts.l, e ∈ s.ing.pkts.l
  gone : ∀ p, s.pkt p = none → t.pkt p = none

theorem Swept.refl (s : State) : Swept s s := ⟨.refl _ _, rfl, rfl, rfl, fun _ h => h, fun _ h => h⟩

theorem Swept.trans {s t u : State} (h : Swept s t) (k : Swept t u) : Swept s u :=
  ⟨h.regs.trans k.regs, k.pending.trans h.pending, k.ingFence.trans h.ingFence, k.egFence.trans h.egFence, fun e he => h.pkts e (k.pkts e he),
    fun p hp => k.gone p (h.gone p hp)⟩

theorem Swept.foldl {β : Type*} {f : State → β → State} (l : List β) (hf : ∀ s, ∀ x ∈ l, Swept s (f s x)) (s : State) : Swept s (l.foldl f s) :=
  foldl_rel Swept.refl (fun _ _ _ => Swept.trans) l hf s

theorem giveBack_eq (s : State) (i : Nat) (x : Charge) (n : Int) (final : Bool) :
    ∃ b c, s.giveBack i x n final = { s with ing := { s.ing with buckets := b, tokens := c } } := by
  simp only [State.giveBack, State.setBucket, State.setTokens]
  exact ⟨_, _, rfl⟩

/-- Tokens go back to the buckets of the slices; nothing else changes (R145). -/
theorem returnTokens_eq (s : State) (k : IPkt) : ∃ b c, s.returnTokens k = { s with ing := { s.ing with buckets := b, tokens := c } } := by
  refine foldl_rel (R := fun s t => ∃ b c, t = { s with ing := { s.ing with buckets := b, tokens := c } }) (fun s => ⟨_, _, rfl⟩) ?_ _
    (fun s x _ => giveBack_eq s _ _ _ _) s
  rintro s t u ⟨b, c, rfl⟩ ⟨b', c', rfl⟩
  exact ⟨b', c', rfl⟩

/-- A packet dropped before commit is deleted; beside it only tokens, room and what its port receives change (R143). -/
theorem forget_eq (s : State) (p : Nat) (k : IPkt) : ∃ b c r d, s.forget p k =
    { s with ing := { s.ing with buckets := b, tokens := c, puntRoom := r, cur := d, pkts := KMap.set none s.ing.pkts p none } } := by
  obtain ⟨b, c, hTokens⟩ := returnTokens_eq s k
  simp only [State.forget, hTokens, State.delPkt]
  split
  · exact ⟨_, _, _, _, rfl⟩
  · exact ⟨_, _, _, _, rfl⟩

theorem swept_dropPkt (s : State) (p : Nat) (k : IPkt) (c : Ctr) (hc : ∀ a ∈ c.regs, sweepReg a = true) : Swept s (s.dropPkt p k c) := by
  obtain ⟨b, t, r, d, hForget⟩ := forget_eq s p k
  refine ⟨?_, ?_, ?_, ?_, ?_, ?_⟩
  · exact RegsWithin.bump (.of_regs (by rw [hForget])) hc
  all_goals simp only [State.dropPkt, hForget, State.bump_pending, State.bump_ing, State.bump_eg, State.pkt]
  · exact fun e he => (mem_ldel _ _ _ he).1
  · intro q hq
    rw [KMap.get_set, hq, ite_self]

theorem dropPkt_pkt (s : State) (p q : Nat) (k : IPkt) (c : Ctr) : (s.dropPkt p k c).pkt q = if q = p then none else s.pkt q := by
  obtain ⟨b, t, r, d, hForget⟩ := forget_eq s p k
  simp only [State.dropPkt, hForget, State.pkt, State.bump_ing]
  exact KMap.get_set _ _ _ _ _

theorem sweepReg_dropCause (i : Nat) (hi : i < 16) : ∀ a ∈ (Ctr.FWH_DROP_CNT i dcFwdDrop).regs, sweepReg a = true := by
  simp [Ctr.regs, Ctr.FWH_DROP_CNT, dcFwdDrop, sweepReg, Reg.PWR_FENCE]
  omega

theorem sweepReg_fenceDrop (i : Nat) : ∀ a ∈ (Ctr.PWR_FENCE_DROP i).regs, sweepReg a = true := by
  simp [Ctr.regs, Ctr.PWR_FENCE_DROP, sweepReg, Reg.PWR_FENCE]
  omega

theorem swept_fenceIngress (s : State) (i : Nat) (past : Nat → Bool) (hi : i < 16) : Swept s (s.fenceIngress i past) := by
  refine Swept.foldl _ (fun u x _ => ?_) s
  obtain ⟨p, k⟩ := x
  dsimp only
  split
  case isTrue h =>
    have hSlice : k.slice = i := by simp_all
    exact swept_dropPkt u p k _ (hSlice ▸ sweepReg_dropCause i hi)
  case isFalse => exact .refl u

theorem swept_dropWaiting (s : State) (i : Nat) : Swept s (s.dropWaiting i) := by
  refine Swept.foldl _ (fun u x _ => ?_) s
  obtain ⟨p, k⟩ := x
  dsimp only
  split
  · exact swept_dropPkt u p k _ (sweepReg_fenceDrop i)
  · exact .refl u

theorem swept_egressDrop (s : State) (n : Nat) (x : EgCopy) : Swept s (s.egressDrop n x Ctr.EGT_KIND_DROP) := by
  have hBump : RegsWithin sweepReg s (s.bump Ctr.EGT_KIND_DROP 1) := .bump (.refl _ _) (by decide)
  refine ⟨hBump.trans (.of_regs (by simp [State.egressDrop])), ?_, ?_, ?_, ?_, ?_⟩
  all_goals simp [State.egressDrop, State.pkt]

theorem swept_fenceEgress (s : State) (e : Nat) (past : Nat → Bool) : Swept s (s.fenceEgress e past) := by
  refine Swept.foldl _ (fun u x _ => ?_) s
  obtain ⟨n, o⟩ := x
  dsimp only
  split
  · split
    · exact swept_egressDrop u n _
    · exact .refl u
  · exact .refl u

theorem fenceEgress_ing (s : State) (e : Nat) (past : Nat → Bool) : (s.fenceEgress e past).ing = s.ing := by
  refine foldl_rel (R := fun s t : State => t.ing = s.ing) (fun _ => rfl) (fun _ _ _ h k => k.trans h) _ (fun u x _ => ?_) s
  obtain ⟨n, o⟩ := x
  dsimp only
  split
  · split
    · simp [State.egressDrop]
    · rfl
  · rfl

end Sys2Proof.Machine.DeviceOrganisation
end

section
/-! PROOF. SLICE_FENCED and ENGINE_SUBSTITUTION: what a fence shows, drops and keeps, and what a spare takes over (R17, R512 to R514). -/

namespace Sys2Proof.Machine.DeviceOrganisation

/-! ### A slice is fenced (R512, R513) -/

/-- The first part of a fence: the bit, the capacity word, the repair log and the event. -/
def markFenced (s : State) (sl stage : Nat) : State :=
  (((s.setBit Reg.PWR_FENCE sl).modCap 1 sl (fun c => { c with fenced := true, percent := 0, count := 0 })).logRepair 0 rlFence true 1 sl stage).ownerEvent
    0x0F03 1 sl sl []

/-- How the slice and its partner then stand. -/
def markStand (s : State) (sl : Nat) : State :=
  if s.isFenced (partnerOf sl) then (s.setStand sl 3).setStand (partnerOf sl) 3 else s.setStand sl 1

/-- The packets or copies inside that have not passed the failed stage are dropped. -/
def sweepInside (s : State) (sl : Nat) (past : Nat → Bool) : State :=
  if sl < 16 then s.fenceIngress sl past else s.fenceEgress (sl - 16) past

/-- With both slices of an ingress pair fenced, the frames that wait are dropped. -/
def sweepWaiting (s : State) (sl : Nat) : State :=
  if sl < 16 ∧ s.isFenced (partnerOf sl) then (s.dropWaiting sl).dropWaiting (partnerOf sl) else s

theorem fence_eq (s : State) (sl stage : Nat) (past : Nat → Bool) :
    s.fence sl stage false past = sweepWaiting (sweepInside (markStand (markFenced s sl stage) sl) sl past) sl := by
  simp only [State.fence, Bool.false_eq_true, if_false]
  rfl

theorem reported_markFenced (s : State) (sl stage : Nat) : Reported s (markFenced s sl stage) :=
  .ownerEvent (.logRepair (.modCap (.setReg (.refl s))))

theorem markFenced_regs (s : State) (sl stage : Nat) (hsl : sl < 32) :
    (∀ i, (markFenced s sl stage).isFenced i = (s.isFenced i || decide (i = sl))) ∧
    ((markFenced s sl stage).reg (Reg.DEV_CAP 1 sl)).getLsbD 31 = true := by
  have hCap := alarmReg_cap 1 sl (.inl rfl) (by omega)
  have hMod : RegsWithin capacityReg (s.setBit Reg.PWR_FENCE sl)
      ((s.setBit Reg.PWR_FENCE sl).modCap 1 sl (fun c => { c with fenced := true, percent := 0, count := 0 })) :=
    .modCap (.refl _ _) capacityReg_of_alarmReg (capacityReg_cap 1 sl (.inl rfl) (by omega))
  refine ⟨fun i => ?_, ?_⟩
  · rw [State.isFenced, markFenced, regsWithin_ownerEvent _ _ _ _ _ _ _ (by decide), regsWithin_logRepair _ _ _ _ _ _ _ _ (by decide),
      hMod _ (by decide), setBit_reg _ _ _ _ hsl, State.isFenced]
  · rw [markFenced, regsWithin_ownerEvent _ _ _ _ _ _ _ (alarmReg_eq_false.1 hCap).2.2.2.2.2,
      regsWithin_logRepair _ _ _ _ _ _ _ _ (repairReg_cap 1 sl (.inl rfl) (by omega)), modCap_word _ _ _ _ hCap, capWord_fenced]

theorem markStand_regs (s : State) (sl : Nat) : (markStand s sl).regs = s.regs := by
  unfold markStand
  split_ifs <;> simp only [setStand_regs]

theorem markStand_pending (s : State) (sl : Nat) : (markStand s sl).pending = s.pending := by
  unfold markStand
  split_ifs <;> simp only [setStand_pending]

theorem markStand_pkts (s : State) (sl : Nat) : (markStand s sl).ing.pkts = s.ing.pkts := by
  unfold markStand
  split_ifs <;> simp only [setStand_pkts]

theorem markStand_sliceStand (s : State) (sl : Nat) (hsl : sl < 32) :
    (markStand s sl).sliceStand sl = if s.isFenced (partnerOf sl) then 3 else 1 := by
  obtain ⟨hNe, -, -⟩ := partnerOf_spec sl hsl
  unfold markStand
  split_ifs
  · rw [sliceStand_setStand, if_neg (Ne.symm hNe), sliceStand_setStand, if_pos rfl]
  · rw [sliceStand_setStand, if_pos rfl]

theorem swept_sweepInside (s : State) (sl : Nat) (past : Nat → Bool) : Swept s (sweepInside s sl past) := by
  unfold sweepInside
  split_ifs with h
  · exact swept_fenceIngress s sl past h
  · exact swept_fenceEgress s _ past

theorem swept_sweepWaiting (s : State) (sl : Nat) : Swept s (sweepWaiting s sl) := by
  unfold sweepWaiting
  split_ifs
  · exact (swept_dropWaiting s sl).trans (swept_dropWaiting _ _)
  · exact .refl s

theorem swept_fence (s : State) (sl stage : Nat) (past : Nat → Bool) :
    Swept (markStand (markFenced s sl stage) sl) (s.fence sl stage false past) := by
  rw [fence_eq]
  exact (swept_sweepInside _ sl past).trans (swept_sweepWaiting _ sl)

/-- A fence shows in its bit, its capacity word and how the slice stands (R512, R513, R544). -/
theorem fence_shows (s : State) (sl stage : Nat) (past : Nat → Bool) (hsl : sl < 32) :
    (s.fence sl stage false past).isFenced sl = true ∧ ((s.fence sl stage false past).reg (Reg.DEV_CAP 1 sl)).getLsbD 31 = true ∧
    (s.fence sl stage false past).sliceStand sl = (if s.isFenced (partnerOf sl) then 3 else 1) ∧
    (s.fence sl stage false past).pending = s.pending := by
  obtain ⟨hNe, -, -⟩ := partnerOf_spec sl hsl
  obtain ⟨hFenced, hCap⟩ := markFenced_regs s sl stage hsl
  have hSwept := swept_fence s sl stage past
  have hMarked (a : Nat) : (markStand (markFenced s sl stage) sl).reg a = (markFenced s sl stage).reg a := by rw [State.reg, markStand_regs, State.reg]
  have hLow : sweepReg (Reg.DEV_CAP 1 sl) = false := by
    simp [sweepReg, Reg.DEV_CAP]
    omega
  refine ⟨?_, ?_, ?_, ?_⟩
  · rw [State.isFenced, hSwept.regs _ (by decide), hMarked, ← State.isFenced, hFenced]
    simp
  · rw [hSwept.regs _ hLow, hMarked, hCap]
  · rw [sliceStand_congr hSwept.ingFence hSwept.egFence, markStand_sliceStand _ _ hsl, hFenced]
    simp [hNe]
  · rw [hSwept.pending, markStand_pending, (reported_markFenced s sl stage).pending]

/-! ### Which packets a fence drops -/

/-- A step of a fold reaches a fact that every step keeps. -/
theorem foldl_reaches {σ β : Type*} {P : σ → Prop} {f : σ → β → σ} (hKeep : ∀ s x, P s → P (f s x)) (l : List β) (x : β) (hx : x ∈ l)
    (hReach : ∀ s, P (f s x)) (s : σ) : P (l.foldl f s) := by
  have hKept : ∀ (m : List β) (s : σ), P s → P (m.foldl f s) := by
    intro m
    induction m with
    | nil => exact fun s h => h
    | cons y m ih => exact fun s h => ih _ (hKeep s y h)
  induction l generalizing s with
  | nil => simp at hx
  | cons y l ih =>
    rcases List.mem_cons.1 hx with rfl | hx
    · exact hKept l _ (hReach s)
    · exact ih hx _

theorem mem_of_lfind {α : Type} {l : List (Nat × α)} {k : Nat} {v : α} (h : lfind l k = some v) : (k, v) ∈ l := by
  induction l with
  | nil => simp [lfind] at h
  | cons e r ih =>
    obtain ⟨j, w⟩ := e
    simp only [lfind] at h
    split_ifs at h with hj
    · simp_all
    · exact List.mem_cons_of_mem _ (ih h)

/-- In a canonical table a key is listed once. -/
theorem lfind_of_mem {α : Type} {l : List (Nat × α)} {k : Nat} {v : α} (hs : lsorted l = true) (h : (k, v) ∈ l) : lfind l k = some v := by
  induction l with
  | nil => simp at h
  | cons e r ih =>
    obtain ⟨j, w⟩ := e
    obtain ⟨hAbove, hr⟩ := (lsorted_cons _ _).1 hs
    rcases List.mem_cons.1 h with h | h
    · simp_all [lfind]
    · have hlt : j < k := hAbove _ h
      simp [lfind, hlt.ne, ih hr h]

theorem mem_allPkts {s : State} {p : Nat} {k : IPkt} (h : s.pkt p = some k) : (p, k) ∈ s.allPkts := by
  have hFind : lfind s.ing.pkts.l p = some (some k) := by
    rw [State.pkt, KMap.get] at h
    cases hl : lfind s.ing.pkts.l p with
    | none => simp [hl] at h
    | some v => simp_all
  simp only [State.allPkts, List.mem_filterMap]
  exact ⟨_, mem_of_lfind hFind, rfl⟩

theorem mem_pkts_of_mem_allPkts {s : State} {p : Nat} {k : IPkt} (h : (p, k) ∈ s.allPkts) : (p, some k) ∈ s.ing.pkts.l := by
  simp only [State.allPkts, List.mem_filterMap] at h
  obtain ⟨⟨q, o⟩, hMem, hSome⟩ := h
  cases o with
  | none => simp at hSome
  | some x => simp_all

/-- A packet inside a fenced ingress slice that has not passed the failed stage is gone (R512). -/
theorem fenceIngress_drops (s : State) (i : Nat) (past : Nat → Bool) (p : Nat) (k : IPkt) (h : s.pkt p = some k) (hi : k.slice = i)
    (hPast : past p = false) (hStage : k.stage ∉ [.queued, .respinQ, .committed, .handed]) : (s.fenceIngress i past).pkt p = none := by
  refine foldl_reaches (P := fun u => u.pkt p = none) (fun u x hu => ?_) s.allPkts (p, k) (mem_allPkts h) (fun u => ?_) s
  · dsimp only
    split
    · rw [State.dropCause, dropPkt_pkt, hu, ite_self]
    · exact hu
  · simp only [List.mem_cons, List.not_mem_nil, or_false, not_or] at hStage
    obtain ⟨hQueued, hRespin, hCommitted, hHanded⟩ := hStage
    dsimp only
    rw [if_pos (by simp [hi, hPast, hQueued, hRespin, hCommitted, hHanded]), State.dropCause, dropPkt_pkt, if_pos rfl]

/-- Drops of other packets leave a packet. -/
theorem foldl_drops_keep {f : State → Nat × IPkt → State} {p : Nat} (l : List (Nat × IPkt))
    (hf : ∀ u, ∀ x ∈ l, (∃ c, f u x = u.dropPkt x.1 x.2 c ∧ x.1 ≠ p) ∨ f u x = u) (s : State) : (l.foldl f s).pkt p = s.pkt p := by
  refine foldl_rel (R := fun u v : State => v.pkt p = u.pkt p) (fun _ => rfl) (fun _ _ _ h k => k.trans h) l (fun u x hx => ?_) s
  rcases hf u x hx with ⟨c, hDrop, hNe⟩ | hSame
  · rw [hDrop, dropPkt_pkt, if_neg (Ne.symm hNe)]
  · rw [hSame]

/-- The only packet listed under the number of a committed packet is that packet. -/
def OnlyCommitted (s : State) (p : Nat) : Prop := ∀ k, (p, some k) ∈ s.ing.pkts.l → k.stage = .committed

theorem onlyCommitted_of_wf {s : State} {p : Nat} {k : IPkt} (hw : s.ing.pkts.wf (fun _ => none) = true) (h : s.pkt p = some k)
    (hStage : k.stage = .committed) : OnlyCommitted s p := by
  intro j hj
  have hFind := lfind_of_mem ((KMap.wf_iff _ _).1 hw).1 hj
  have hSame : j = k := by simpa [State.pkt, KMap.get, hFind] using h
  rw [hSame, hStage]

theorem OnlyCommitted.of_swept {s t : State} {p : Nat} (h : OnlyCommitted s p) (hst : Swept s t) : OnlyCommitted t p :=
  fun k hk => h k (hst.pkts _ hk)

theorem fenceIngress_keeps (s : State) (i : Nat) (past : Nat → Bool) (p : Nat) (h : OnlyCommitted s p) : (s.fenceIngress i past).pkt p = s.pkt p := by
  refine foldl_drops_keep s.allPkts (fun u x hx => ?_) s
  obtain ⟨q, k⟩ := x
  dsimp only
  split
  case isTrue hDrop =>
    refine .inl ⟨_, rfl, ?_⟩
    rintro rfl
    have hStage := h k (mem_pkts_of_mem_allPkts hx)
    simp [hStage] at hDrop
  case isFalse => exact .inr rfl

theorem dropWaiting_keeps (s : State) (i : Nat) (p : Nat) (h : OnlyCommitted s p) : (s.dropWaiting i).pkt p = s.pkt p := by
  refine foldl_drops_keep s.allPkts (fun u x hx => ?_) s
  obtain ⟨q, k⟩ := x
  dsimp only
  split
  case isTrue hDrop =>
    refine .inl ⟨_, rfl, ?_⟩
    rintro rfl
    have hStage := h k (mem_pkts_of_mem_allPkts hx)
    simp [hStage] at hDrop
  case isFalse => exact .inr rfl

theorem markStand_markFenced_pkts (s : State) (sl stage : Nat) : (markStand (markFenced s sl stage) sl).ing.pkts = s.ing.pkts := by
  rw [markStand_pkts, (reported_markFenced s sl stage).ing]

/-- A fence drops the packets inside that have not passed the failed stage (R512). -/
theorem fence_drops (s : State) (sl stage : Nat) (past : Nat → Bool) (p : Nat) (k : IPkt) (hsl : sl < 16) (h : s.pkt p = some k)
    (hi : k.slice = sl) (hPast : past p = false) (hStage : k.stage ∉ [.queued, .respinQ, .committed, .handed]) :
    (s.fence sl stage false past).pkt p = none := by
  rw [fence_eq]
  refine (swept_sweepWaiting _ sl).gone p ?_
  rw [sweepInside, if_pos hsl]
  exact fenceIngress_drops _ sl past p k (by rw [State.pkt, markStand_markFenced_pkts]; exact h) hi hPast hStage

/-- A committed packet outlives the fence of any slice (R512). -/
theorem fence_keeps_committed (s : State) (sl stage : Nat) (past : Nat → Bool) (p : Nat) (k : IPkt)
    (hw : s.ing.pkts.wf (fun _ => none) = true) (h : s.pkt p = some k) (hStage : k.stage = .committed) :
    (s.fence sl stage false past).pkt p = some k := by
  have hStart : OnlyCommitted (markStand (markFenced s sl stage) sl) p := by
    intro j hj
    rw [markStand_markFenced_pkts] at hj
    exact onlyCommitted_of_wf hw h hStage j hj
  have hInside := hStart.of_swept (swept_sweepInside _ sl past)
  have hWait : (s.fence sl stage false past).pkt p = (sweepInside (markStand (markFenced s sl stage) sl) sl past).pkt p := by
    rw [fence_eq, sweepWaiting]
    split_ifs
    · rw [dropWaiting_keeps _ _ p (hInside.of_swept (swept_dropWaiting _ sl)), dropWaiting_keeps _ _ p hInside]
    · rfl
  have hSweep : (sweepInside (markStand (markFenced s sl stage) sl) sl past).pkt p = (markStand (markFenced s sl stage) sl).pkt p := by
    rw [sweepInside]
    split_ifs
    · exact fenceIngress_keeps _ sl past p hStart
    · rw [State.pkt, fenceEgress_ing, State.pkt]
  rw [hWait, hSweep, State.pkt, markStand_markFenced_pkts]
  exact h

/-! ### Engines substituted (R17) -/

/-- A spare core takes a failed one's place: one spare less, in the complex's word and in its capacity word (R17, R544). -/
theorem coreSubstitution (s : State) (k : Fin 16) (c : Fin 10) (h : s.fld (Reg.CPX_CAP k.val) Fld.CPX_CAP_SPARES ≠ 0) :
    (engineSubstitution (.core k c) s).fld (Reg.CPX_CAP k.val) Fld.CPX_CAP_SPARES = s.fld (Reg.CPX_CAP k.val) Fld.CPX_CAP_SPARES - 1 ∧
    (capOf ((engineSubstitution (.core k c) s).reg (Reg.DEV_CAP 1 (32 + k.val)))).spare = s.fld (Reg.CPX_CAP k.val) Fld.CPX_CAP_SPARES - 1 ∧
    (engineSubstitution (.core k c) s).pending = s.pending := by
  have hk := k.isLt
  have hSpares : s.fld (Reg.CPX_CAP k.val) Fld.CPX_CAP_SPARES < 16 := fld_lt s _ Fld.CPX_CAP_SPARES
  have hTaken : (s.setFld (Reg.CPX_CAP k.val) Fld.CPX_CAP_SPARES (s.fld (Reg.CPX_CAP k.val) Fld.CPX_CAP_SPARES - 1)).fld (Reg.CPX_CAP k.val)
      Fld.CPX_CAP_SPARES = s.fld (Reg.CPX_CAP k.val) Fld.CPX_CAP_SPARES - 1 := by
    rw [State.fld_setFld_same _ _ _ _ (by decide)]
    exact Nat.mod_eq_of_lt (lt_of_le_of_lt (Nat.sub_le _ _) hSpares)
  have hCore : capacityReg (Reg.CPX_CAP k.val) = false ∧ repairReg (Reg.CPX_CAP k.val) = false := by
    have hRange : 0x1fc28400 ≤ Reg.CPX_CAP k.val ∧ Reg.CPX_CAP k.val < 0x1fc28440 := by
      unfold Reg.CPX_CAP
      omega
    generalize Reg.CPX_CAP k.val = a at hRange
    have hAlarm : alarmReg a = false := by
      rw [alarmReg_eq_false, eventReg_eq_false]
      omega
    simp [capacityReg, repairReg, hAlarm, Reg.DEV_REPAIR_STATUS]
    omega
  have hMod (u : State) (f : CapWord → CapWord) : RegsWithin capacityReg u (u.modCap 1 (32 + k.val) f) :=
    .modCap (.refl _ _) capacityReg_of_alarmReg (capacityReg_cap 1 _ (.inl rfl) (by omega))
  simp only [engineSubstitution, h, if_false, State.logCore, State.coreCap]
  refine ⟨?_, ?_, ?_⟩
  · rw [(regsWithin_logRepair _ _ _ _ _ _ _).fld hCore.2, (hMod _ _).fld hCore.1, hTaken]
  · rw [regsWithin_logRepair _ _ _ _ _ _ _ _ (repairReg_cap 1 _ (.inl rfl) (by omega)), modCap_word _ _ _ _ (alarmReg_cap 1 _ (.inl rfl) (by omega)),
      capOf_capWord]
    change (State.fld _ (Reg.CPX_CAP k.val) Fld.CPX_CAP_SPARES) % 64 = _
    rw [hTaken]
    omega
  · simp

/-- The device with one more spare row of a region in use. -/
def useRow (s : State) (key : Nat) : State := { s with mem := { s.mem with spare := KMap.set 0 s.mem.spare key (KMap.get 0 s.mem.spare key + 1) } }

/-- A spare row takes a failed one's place (R17, R337). -/
theorem rowSubstitution (s : State) (l : MemLoc)
    (h : KMap.get 0 s.mem.spare (goneKey (memKind l) (s.memRegion l)) < spareRows (memKind l)) :
    KMap.get 0 (engineSubstitution (.row l) s).mem.spare (goneKey (memKind l) (s.memRegion l)) =
      KMap.get 0 s.mem.spare (goneKey (memKind l) (s.memRegion l)) + 1 ∧ (engineSubstitution (.row l) s).pending = s.pending := by
  have hReport : Reported (useRow s (goneKey (memKind l) (s.memRegion l))) (engineSubstitution (.row l) s) := by
    simp only [engineSubstitution, h, if_true, State.rowFails, State.memEvent]
    split
    · exact .bump (.logRepair (.ownerEvent (.refl _)))
    · exact .logRepair (.ownerEvent (.refl _))
  rw [hReport.mem, hReport.pending]
  exact ⟨KMap.get_set_same _ _ _ _, rfl⟩

end Sys2Proof.Machine.DeviceOrganisation
end

section
/-! PROOF. O29: the statement on temperatures, margins, fences and spares, put together command by command. -/

namespace Sys2Proof.Machine.DeviceOrganisation

theorem hbmSensor_below (s : State) (st temp : Nat) (h : s.aon.held = false) (ht : temp < 105) :
    (hbmSensor st temp s).fld (Reg.HBMC_ST_STATUS st) Fld.HBMC_ST_STATUS_TEMP = temp ∧
    (hbmSensor st temp s).flag (Reg.HBMC_ST_STATUS st) Fld.HBMC_ST_STATUS_HOT =
      if 85 < temp then true else if temp < 83 then false else s.flag (Reg.HBMC_ST_STATUS st) Fld.HBMC_ST_STATUS_HOT := by
  obtain ⟨hTemp, hHot⟩ := hbmTempRead_status s st temp
  rw [hbmSensor_eq s st temp h, if_neg (by omega), State.flag, judgeStacks_status, judgeStacks_status, hTemp, ← State.flag, hHot]
  exact ⟨Nat.mod_eq_of_lt (by omega), rfl⟩

theorem hbmSensor_trip (s : State) (st temp : Nat) (h : s.aon.held = false) (hTrip : s.aon.trip = false) (hst : st < 8) (ht : 105 ≤ temp) :
    (hbmSensor st temp s).aon.held = true ∧ (hbmSensor st temp s).fld Reg.THM_TRIP_LOG Fld.THM_TRIP_LOG_SOURCE = 3 ∧
    (hbmSensor st temp s).fld Reg.THM_TRIP_LOG Fld.THM_TRIP_LOG_STACK = st := by
  obtain ⟨hAon, -, hSource, -, hStack⟩ :=
    thermalTrip_spec (judgeStacks (showStack s st temp)) 3 temp st (by rw [judgeStacks_aon]; exact hTrip)
  rw [hbmSensor_eq s st temp h, if_pos ht, hAon, hSource, hStack]
  exact ⟨rfl, rfl, Nat.mod_eq_of_lt hst⟩

theorem completes_sensorRead (s : State) (f g aon : BitVec 8) : Completes (.sensorRead f g aon none) s fun t =>
    (s.aon.held = true → t = { s with aon := { s.aon with temp := aon.toNat } }) ∧
    (s.aon.held = false → f.toNat < 115 → g.toNat < 115 →
      t.fld Reg.THM_STATUS Fld.THM_STATUS_FDIE_TEMP = f.toNat ∧ t.fld Reg.THM_STATUS Fld.THM_STATUS_TDIE_TEMP = g.toNat ∧
      t.fld Reg.THM_MAX Fld.THM_MAX_FDIE = max f.toNat (s.fld Reg.THM_MAX Fld.THM_MAX_FDIE) ∧
      t.fld Reg.THM_MAX Fld.THM_MAX_TDIE = max g.toNat (s.fld Reg.THM_MAX Fld.THM_MAX_TDIE) ∧
      t.overMax = (if 105 < max f.toNat g.toNat then true else if max f.toNat g.toNat ≤ 103 then false else s.overMax)) ∧
    (s.aon.held = false → s.aon.trip = false → 115 ≤ f.toNat →
      t.aon.held = true ∧ t.aon.trip = true ∧ t.flag Reg.THM_TRIP_LOG Fld.THM_TRIP_LOG_TRIPPED = true ∧
      t.fld Reg.THM_TRIP_LOG Fld.THM_TRIP_LOG_SOURCE = 1 ∧ t.fld Reg.THM_TRIP_LOG Fld.THM_TRIP_LOG_TEMP = f.toNat) :=
  completes_of_answer rfl (sensorRead_pending s f.toNat g.toNat aon.toNat)
    ⟨sensorRead_held s f.toNat g.toNat aon.toNat, sensorRead_below s f.toNat g.toNat aon.toNat,
      fun hHeld hTrip hf => sensorRead_trip s f.toNat g.toNat aon.toNat hHeld hTrip hf f.isLt⟩

theorem completes_governorEvaluate (s : State) (amps : BitVec 12) : Completes (.governorEvaluate amps) s fun t =>
    ((s.trigDue tgGov (spanExp 10) = false ∨ s.aon.held = true) → t = s) ∧
    (s.trigDue tgGov (spanExp 10) = true → s.aon.held = false →
      (s.flag Reg.THM_CFG Fld.THM_CFG_GOV_EN = true →
        s.govTemp < max (s.fld Reg.THM_STATUS Fld.THM_STATUS_FDIE_TEMP) (s.fld Reg.THM_STATUS Fld.THM_STATUS_TDIE_TEMP) →
        t.fld Reg.THM_STATUS Fld.THM_STATUS_THERM_LEVEL = min 8 (s.fld Reg.THM_STATUS Fld.THM_STATUS_THERM_LEVEL + 1) ∧ t.thm.cool = 0) ∧
      (s.flag Reg.THM_CFG Fld.THM_CFG_GOV_EN = true →
        max (s.fld Reg.THM_STATUS Fld.THM_STATUS_FDIE_TEMP) (s.fld Reg.THM_STATUS Fld.THM_STATUS_TDIE_TEMP) + s.govHyst ≤ s.govTemp →
        t.fld Reg.THM_STATUS Fld.THM_STATUS_THERM_LEVEL = s.fld Reg.THM_STATUS Fld.THM_STATUS_THERM_LEVEL - (if s.thm.cool = 15 then 1 else 0) ∧
        t.thm.cool = (if s.thm.cool = 15 then 0 else s.thm.cool + 1)) ∧
      t.fld Reg.THM_STATUS Fld.THM_STATUS_LEVEL = govLevel (s.fld Reg.THM_STATUS Fld.THM_STATUS_LEVEL)
        (max (t.fld Reg.THM_STATUS Fld.THM_STATUS_THERM_LEVEL) (t.fld Reg.THM_STATUS Fld.THM_STATUS_ELEC_LEVEL)) ∧
      t.throttled = decide (0 < t.fld Reg.THM_STATUS Fld.THM_STATUS_LEVEL)) := by
  by_cases hIdle : s.trigDue tgGov (spanExp 10) = false ∨ s.aon.held = true
  · have hSame := governorEvaluate_idle s amps.toNat hIdle
    refine completes_of_answer rfl (congrArg State.pending hSame) ⟨fun _ => hSame, fun hDue hHeld => ?_⟩
    simp [hDue, hHeld] at hIdle
  · obtain ⟨hDue, hHeld⟩ : s.trigDue tgGov (spanExp 10) = true ∧ s.aon.held = false := by simpa using hIdle
    obtain ⟨⟨hTherm, hElec, hLevel⟩, hThrottled, hCool, hPending⟩ := governorEvaluate_shows s amps.toNat hDue hHeld
    refine completes_of_answer rfl hPending ⟨fun h => absurd h hIdle, fun _ _ => ⟨fun hEn hHigh => ?_, fun hEn hLow => ?_, ?_, ?_⟩⟩
    · rw [hTherm, hCool, thermRequest_high s hEn hHigh]
      exact ⟨rfl, rfl⟩
    · rw [hTherm, hCool, thermRequest_low s hEn hLow]
      exact ⟨rfl, rfl⟩
    · rw [hLevel, hTherm, hElec, nextLevel]
    · rw [hThrottled, hLevel]

theorem completes_sliceFenced (s : State) (sl : Fin 32) (stage : BitVec 16) (past : List (BitVec 32)) : Completes (.sliceFenced sl stage past) s fun t =>
    (s.spareStageUsed sl.val = false → t.spareStageUsed sl.val = true ∧ t.isFenced sl.val = s.isFenced sl.val ∧ t.ing = s.ing ∧ t.eg = s.eg) ∧
    (s.spareStageUsed sl.val = true → s.isFenced sl.val = true → t = s) ∧
    (s.spareStageUsed sl.val = true → s.isFenced sl.val = false → t.isFenced sl.val = true ∧ (t.reg (Reg.DEV_CAP 1 sl.val)).getLsbD 31 = true ∧
      t.sliceStand sl.val = (if s.isFenced (partnerOf sl.val) then 3 else 1) ∧
      (∀ p k, sl.val < 16 → s.pkt p = some k → k.slice = sl.val → p ∉ past.map (·.toNat) → k.stage ∉ [.queued, .respinQ, .committed, .handed] →
        t.pkt p = none) ∧
      (∀ p k, s.ing.pkts.wf (fun _ => none) = true → s.pkt p = some k → k.stage = .committed → t.pkt p = some k)) := by
  have hExec : exec (.sliceFenced sl stage past) s =
      answer s (s.stageFails sl.val stage.toNat false (fun n => past.any (fun p => p.toNat == n))) := rfl
  cases hSpare : s.spareStageUsed sl.val with
  | false =>
    have hReport := reported_takeSpareStage s sl.val stage.toNat
    obtain ⟨hUsed, hFenced⟩ := takeSpareStage_regs s sl.val stage.toNat sl.isLt
    simp only [State.stageFails, hSpare, Bool.not_false, if_true] at hExec
    exact completes_of_answer hExec hReport.pending
      ⟨fun _ => ⟨hUsed, hFenced sl.val, hReport.ing, hReport.eg⟩, fun h => absurd h (by decide), fun h => absurd h (by decide)⟩
  | true =>
    simp only [State.stageFails, hSpare, Bool.not_true, Bool.false_eq_true, if_false] at hExec
    cases hFenced : s.isFenced sl.val with
    | true =>
      simp only [hFenced, if_true] at hExec
      exact completes_of_answer hExec rfl ⟨fun h => absurd h (by decide), fun _ _ => rfl, fun _ h => absurd h (by decide)⟩
    | false =>
      simp only [hFenced, Bool.false_eq_true, if_false] at hExec
      obtain ⟨hBit, hCap, hStand, hPending⟩ :=
        fence_shows s sl.val stage.toNat (fun n => past.any (fun p => p.toNat == n)) sl.isLt
      refine completes_of_answer hExec hPending ⟨fun h => absurd h (by decide), fun _ h => absurd h (by decide), fun _ _ =>
        ⟨hBit, hCap, hStand, fun p k hsl hk hSlice hPast hStage => fence_drops s _ _ _ p k hsl hk hSlice ?_ hStage,
          fun p k hw hk hStage => fence_keeps_committed s _ _ _ p k hw hk hStage⟩⟩
      simpa using hPast

/-- Settles O29: the cases of each command, from the lemmas on what it shows, keeps and drops. -/
theorem thermalAndFences : Obligations.ThermalAndFences := by
  refine ⟨completes_sensorRead, fun s st temp hHeld => ?stack, completes_governorEvaluate, fun s rail out hHeld => ?rail, completes_sliceFenced,
    fun s sl => ?takeover, fun s k c => ?core, fun s sl n => ?stage, fun s l => ?row⟩
  case stack =>
    exact completes_of_answer rfl (hbmSensor_pending s st.val temp.toNat hHeld)
      ⟨hbmSensor_below s st.val temp.toNat hHeld, hbmSensor_over s st.val temp.toNat hHeld, hbmSensor_not_over s st.val temp.toNat hHeld,
        fun ht hTrip => hbmSensor_trip s st.val temp.toNat hHeld hTrip st.isLt ht⟩
  case rail =>
    obtain ⟨hBits, hAlarm⟩ := pwrMargin_status s rail.val out hHeld rail.isLt
    refine completes_of_answer rfl (pwrMargin_pending s rail.val out hHeld) ⟨?_, fun i _ hi => ?_, hAlarm⟩
    · rw [hBits, withBit_testBit, if_pos rfl]
    · rw [hBits, withBit_testBit, if_neg hi]
  case takeover =>
    by_cases hStand : s.sliceStand sl.val = 1
    · obtain ⟨hTaken, hCap, hPending⟩ := fenceTakeover_takes s sl.val sl.isLt hStand
      exact completes_of_answer rfl hPending ⟨fun h => absurd hStand h, fun _ => ⟨hTaken, by rw [hCap], by rw [hCap]⟩⟩
    · have hSame : fenceTakeover sl.val s = s := by simp only [fenceTakeover, ne_eq, hStand, not_false_eq_true, if_true]
      exact completes_of_answer rfl (congrArg State.pending hSame) ⟨fun _ => hSame, fun h => absurd h hStand⟩
  case core =>
    by_cases hNone : s.fld (Reg.CPX_CAP k.val) Fld.CPX_CAP_SPARES = 0
    · have hSame : engineSubstitution (.core k c) s = s := by simp only [engineSubstitution, hNone, if_true]
      exact completes_of_answer rfl (congrArg State.pending hSame) ⟨fun _ => hSame, fun h => absurd hNone h⟩
    · obtain ⟨hSpares, hCap, hPending⟩ := coreSubstitution s k c hNone
      exact completes_of_answer rfl hPending ⟨fun h => absurd h hNone, fun _ => ⟨hSpares, hCap⟩⟩
  case stage =>
    have hExec : exec (.engineSubstitution (.stage sl n)) s = answer s (engineSubstitution (.stage sl n) s) := rfl
    cases hUsed : s.spareStageUsed sl.val with
    | true =>
      simp only [engineSubstitution, hUsed, if_true] at hExec
      exact completes_of_answer hExec rfl ⟨hUsed, fun _ => rfl⟩
    | false =>
      simp only [engineSubstitution, hUsed, Bool.false_eq_true, if_false] at hExec
      exact completes_of_answer hExec (reported_takeSpareStage s sl.val n.toNat).pending
        ⟨(takeSpareStage_regs s sl.val n.toNat sl.isLt).1, fun h => absurd h (by decide)⟩
  case row =>
    by_cases hLeft : KMap.get 0 s.mem.spare (goneKey (memKind l) (s.memRegion l)) < spareRows (memKind l)
    · obtain ⟨hRow, hPending⟩ := rowSubstitution s l hLeft
      exact completes_of_answer rfl hPending ⟨fun h => absurd hLeft (by omega), fun _ => hRow⟩
    · have hSame : engineSubstitution (.row l) s = s := by simp only [engineSubstitution, hLeft, if_false]
      exact completes_of_answer rfl (congrArg State.pending hSame) ⟨fun _ => hSame, fun h => absurd h hLeft⟩

end Sys2Proof.Machine.DeviceOrganisation
end

section
/-! PROOF. The die-to-die link: retries, failure and retraining (R36, R37, R39, R40, R545). -/

namespace Sys2Proof.Machine.DeviceOrganisation

theorem answer_self (s : State) : answer s s = .next s := rfl

theorem Counted.of_reg64 {c : Ctr} {n : Nat} {s t u : State} (h : Counted c n u t) (hu : u.reg64 c.lo = s.reg64 c.lo) : Counted c n s t := by
  rw [Counted, ← hu]
  exact h

/-- The registers of one end of the link: block D2D of the Forwarding die, 0, or of the Traffic die, 1. -/
def endReg (d a : Nat) : Bool := decide (d2dStatus d ≤ a) && decide (a < d2dStatus d + 0x4000)

/-! ### Retries (R36) -/

/-- Failures in a row of a die's flit, this one included (R37). -/
def failures (s : State) (d : Die) (again : Bool) : Nat :=
  (if again then (match d with | .fwd => s.die.crcF | .trf => s.die.crcT) else 0) + 1

/-- The device with a retry noted, counted and recorded. -/
def countRetry (s : State) (d : Die) (again : Bool) : State :=
  ({ s with die := match d with
      | .fwd => { s.die with crcF := failures s d again }
      | .trf => { s.die with crcT := failures s d again } }.bump (Ctr.D2D_RETRY (dieNo d)) 1).ierr ieD2dRetry (dieNo d) 63 0

theorem d2dFlitRetry_eq (s : State) (d : Die) (again : Bool) (h : s.linkUsable = true) :
    d2dFlitRetry d again s = if 8 ≤ failures s d again then d2dLinkFailure (countRetry s d again) else countRetry s d again := by
  cases d <;> simp only [d2dFlitRetry, h, Bool.not_true, Bool.false_eq_true, if_false] <;> rfl

theorem countRetry_die (s : State) (d : Die) (again : Bool) :
    (countRetry s d again).die = match d with
      | .fwd => { s.die with crcF := failures s d again }
      | .trf => { s.die with crcT := failures s d again } := by
  unfold countRetry
  exact (Reported.ierr (.bump (.refl _))).die

theorem countRetry_pending (s : State) (d : Die) (again : Bool) : (countRetry s d again).pending = s.pending := by
  unfold countRetry
  exact (Reported.ierr (.bump (.refl _))).pending

theorem d2dRetry_regs (d : Die) : ∀ a ∈ (Ctr.D2D_RETRY (dieNo d)).regs, alarmReg a = false ∧
    a ≠ Reg.DEV_DIE_STATUS ∧ a ≠ Reg.D2D_STATUS 1 ∧ a ≠ Reg.D2D_STATUS 2 ∧ a ≠ (Ctr.D2D_FAIL 1).lo ∧ a ≠ (Ctr.D2D_FAIL 1).lo + 4 ∧
    a ≠ (Ctr.D2D_FAIL 2).lo ∧ a ≠ (Ctr.D2D_FAIL 2).lo + 4 := by
  cases d <;> decide

/-- The registers that a retry can write. -/
def retryReg (d : Die) (a : Nat) : Bool := (Ctr.D2D_RETRY (dieNo d)).regs.contains a || alarmReg a

theorem regsWithin_countRetry (s : State) (d : Die) (again : Bool) : RegsWithin (retryReg d) s (countRetry s d again) :=
  .ierr (.bump (.of_regs rfl) (by simp +contextual [retryReg])) (by simp +contextual [retryReg])

theorem retryReg_eq_false (d : Die) : retryReg d Reg.DEV_DIE_STATUS = false ∧ retryReg d (Reg.D2D_STATUS 1) = false ∧
    retryReg d (Reg.D2D_STATUS 2) = false ∧ ∀ i : Fin 2, retryReg d (Ctr.D2D_FAIL (i.val + 1)).lo = false ∧
      retryReg d ((Ctr.D2D_FAIL (i.val + 1)).lo + 4) = false := by
  cases d <;> decide

/-- A retry counts once and sets the status bit of its source (R36). -/
theorem countRetry_counted (s : State) (d : Die) (again : Bool) : Counted (Ctr.D2D_RETRY (dieNo d)) 1 s (countRetry s d again) ∧
    ((countRetry s d again).fld Reg.HIF_IERR_STATUS Fld.HIF_IERR_STATUS_SRC).testBit 0 = true := by
  refine ⟨?_, ierr_status _ _ _ _ _ (by decide)⟩
  refine RegsWithin.counted (regsWithin_ierr _ _ _ _ _) ?_ (fun a ha => (d2dRetry_regs d a ha).1)
  refine Counted.of_reg64 (counted_bump _ _ _ ?_ ?_ ?_) rfl
  all_goals cases d <;> decide

/-! ### Failure (R37) -/

/-- The link is down, by a failure. -/
def dropLink (s : State) : State :=
  (s.setFlag Reg.DEV_DIE_STATUS Fld.DEV_DIE_STATUS_LINK_UP false).setFld Reg.DEV_DIE_STATUS Fld.DEV_DIE_STATUS_LAST_CAUSE 3

/-- One end shows the link down and counts the failure. -/
def failEnd (s : State) (d : Nat) : State := (s.setFlag (d2dStatus d) Fld.D2D_STATUS_UP false).bump (Ctr.D2D_FAIL (d + 1)) 1

/-- Both dies count as lost to each other. -/
def loseBoth (s : State) : State := { s with die := { s.die with crcF := 0, crcT := 0, lostF := true, lostT := true } }

/-- Both dies record the failure. -/
def recordFailure (s : State) : State := (s.ierr ieD2dFail 1 63 0).ierr ieD2dFail 2 63 0

theorem d2dLinkFailure_eq (s : State) (h : s.linkUsable = true) :
    d2dLinkFailure s = recordFailure (loseBoth (failEnd (failEnd (dropLink s) 0) 1)) := by
  simp only [d2dLinkFailure, h, Bool.not_true, Bool.false_eq_true, if_false]
  rfl

theorem regsWithin_recordFailure {p : Nat → Bool} {s t : State} (h : RegsWithin p s t) (hp : ∀ a, alarmReg a = true → p a = true) :
    RegsWithin p s (recordFailure (loseBoth t)) := .ierr (.ierr (h.trans (.of_regs rfl)) hp) hp

theorem reported_recordFailure (s : State) : Reported s (recordFailure s) := .ierr (.ierr (.refl s))

theorem failCtr_regs (d : Fin 2) : ∀ a ∈ (Ctr.D2D_FAIL (d.val + 1)).regs, endReg d.val a = true ∧ a ≠ d2dStatus d.val ∧ alarmReg a = false := by
  fin_cases d <;> decide

theorem regsWithin_failEnd {p : Nat → Bool} {s t : State} (d : Fin 2) (h : RegsWithin p s t) (hp : ∀ a, endReg d.val a = true → p a = true) :
    RegsWithin p s (failEnd t d.val) :=
  .bump (.setFlag h (hp _ (by fin_cases d <;> decide))) (fun a ha => hp a (failCtr_regs d a ha).1)

/-- After one end has failed: its count, and UP. -/
theorem failEnd_shows (s : State) (d : Fin 2) : Counted (Ctr.D2D_FAIL (d.val + 1)) 1 s (failEnd s d.val) ∧
    (failEnd s d.val).flag (d2dStatus d.val) Fld.D2D_STATUS_UP = false := by
  refine ⟨Counted.of_reg64 (counted_bump _ _ _ ?_ ?_ ?_) ?_, ?_⟩
  · fin_cases d <;> decide
  · fin_cases d <;> decide
  · fin_cases d <;> decide
  · have hFlag : RegsWithin (fun a => a == d2dStatus d.val) s (s.setFlag (d2dStatus d.val) Fld.D2D_STATUS_UP false) := .setFlag (.refl _ _) (by simp)
    exact hFlag.reg64 (by fin_cases d <;> decide) (by fin_cases d <;> decide)
  · have hBump : RegsWithin (fun a => (Ctr.D2D_FAIL (d.val + 1)).regs.contains a) (s.setFlag (d2dStatus d.val) Fld.D2D_STATUS_UP false)
        (failEnd s d.val) := .bump (.refl _ _) (by simp)
    rw [hBump.flag (by fin_cases d <;> decide), State.flag_setFlag_same _ _ _ _ (by decide)]

/-- A failure of the link (R37): both ends count it, DEV_DIE_STATUS shows it, and the error is recorded. -/
theorem d2dLinkFailure_shows (s : State) (h : s.linkUsable = true) :
    (d2dLinkFailure s).linkUsable = false ∧ (d2dLinkFailure s).fld Reg.DEV_DIE_STATUS Fld.DEV_DIE_STATUS_LAST_CAUSE = 3 ∧
    (d2dLinkFailure s).fdieUp = s.fdieUp ∧ (d2dLinkFailure s).tdieUp = s.tdieUp ∧ (d2dLinkFailure s).linkQuiesced = s.linkQuiesced ∧
    (d2dLinkFailure s).die = { s.die with crcF := 0, crcT := 0, lostF := true, lostT := true } ∧
    (∀ i : Fin 2, Counted (Ctr.D2D_FAIL (i.val + 1)) 1 s (d2dLinkFailure s) ∧
      (d2dLinkFailure s).flag (Reg.D2D_STATUS (i.val + 1)) Fld.D2D_STATUS_UP = false) ∧
    ((d2dLinkFailure s).fld Reg.HIF_IERR_STATUS Fld.HIF_IERR_STATUS_SRC).testBit 1 = true ∧ (d2dLinkFailure s).pending = s.pending := by
  have hDrop : RegsWithin (fun a => a == Reg.DEV_DIE_STATUS) s (dropLink s) := .setFld (.setFlag (.refl _ _) (by decide)) (by decide)
  have hEnds : RegsWithin (fun a => endReg 0 a || endReg 1 a || alarmReg a) (dropLink s) (d2dLinkFailure s) := by
    rw [d2dLinkFailure_eq s h]
    exact regsWithin_recordFailure (regsWithin_failEnd 1 (regsWithin_failEnd 0 (.refl _ _) (by simp +contextual)) (by simp +contextual))
      (by simp +contextual)
  have hStatus (f : Fld) : (d2dLinkFailure s).fld Reg.DEV_DIE_STATUS f = (dropLink s).fld Reg.DEV_DIE_STATUS f := hEnds.fld (by decide) f
  have hDropped : (dropLink s).fld Reg.DEV_DIE_STATUS Fld.DEV_DIE_STATUS_LINK_UP = 0 ∧
      (dropLink s).fld Reg.DEV_DIE_STATUS Fld.DEV_DIE_STATUS_LAST_CAUSE = 3 ∧
      (dropLink s).fld Reg.DEV_DIE_STATUS Fld.DEV_DIE_STATUS_FDIE_IN_RESET = s.fld Reg.DEV_DIE_STATUS Fld.DEV_DIE_STATUS_FDIE_IN_RESET ∧
      (dropLink s).fld Reg.DEV_DIE_STATUS Fld.DEV_DIE_STATUS_TDIE_IN_RESET = s.fld Reg.DEV_DIE_STATUS Fld.DEV_DIE_STATUS_TDIE_IN_RESET ∧
      (dropLink s).fld Reg.DEV_DIE_STATUS Fld.DEV_DIE_STATUS_QUIESCED = s.fld Reg.DEV_DIE_STATUS Fld.DEV_DIE_STATUS_QUIESCED := by
    simp (disch := decide) only [dropLink, State.setFlag, State.fld_setFld_same, State.fld_setFld_other]
    decide
  obtain ⟨hLink, hCause, hF, hT, hQ⟩ := hDropped
  have hReport := reported_recordFailure (loseBoth (failEnd (failEnd (dropLink s) 0) 1))
  refine ⟨?_, ?_, ?_, ?_, ?_, ?_, fun i => ?_, ?_, ?_⟩
  · rw [State.linkUsable, State.flag, hStatus, hLink]
    rfl
  · rw [hStatus, hCause]
  · rw [State.fdieUp, State.flag, hStatus, hF, ← State.flag, ← State.fdieUp]
  · rw [State.tdieUp, State.flag, hStatus, hT, ← State.flag, ← State.tdieUp]
  · rw [State.linkQuiesced, State.flag, hStatus, hQ, ← State.flag, ← State.linkQuiesced]
  · rw [d2dLinkFailure_eq s h, hReport.die]
    simp [loseBoth, failEnd, dropLink]
  · have hi : i = 0 ∨ i = 1 := by omega
    rcases hi with rfl | rfl
    · obtain ⟨hCount, hUp⟩ := failEnd_shows (dropLink s) 0
      have hRest : RegsWithin (fun a => endReg 1 a || alarmReg a) (failEnd (dropLink s) 0) (d2dLinkFailure s) := by
        rw [d2dLinkFailure_eq s h]
        exact regsWithin_recordFailure (regsWithin_failEnd 1 (.refl _ _) (by simp +contextual)) (by simp +contextual)
      exact ⟨Counted.of_reg64 (hRest.counted hCount (by decide)) (hDrop.reg64 (by decide) (by decide)), (hRest.flag (by decide) _).trans hUp⟩
    · obtain ⟨hCount, hUp⟩ := failEnd_shows (failEnd (dropLink s) 0) 1
      have hFirst : RegsWithin (fun a => a == Reg.DEV_DIE_STATUS || endReg 0 a) s (failEnd (dropLink s) 0) :=
        regsWithin_failEnd 0 (hDrop.mono (by simp +contextual)) (by simp +contextual)
      have hRest : RegsWithin alarmReg (failEnd (failEnd (dropLink s) 0) 1) (d2dLinkFailure s) := by
        rw [d2dLinkFailure_eq s h]
        exact regsWithin_recordFailure (.refl _ _) (by simp)
      exact ⟨Counted.of_reg64 (hRest.counted hCount (by decide)) (hFirst.reg64 (by decide) (by decide)), (hRest.flag (by decide) _).trans hUp⟩
  · rw [d2dLinkFailure_eq s h]
    exact ierr_status _ _ _ _ _ (by decide)
  · rw [d2dLinkFailure_eq s h, hReport.pending]
    simp [loseBoth, failEnd, dropLink]

/-! ### Retraining (R39, R40) -/

/-- One end shows the link up again. -/
def raiseEnd (s : State) (d : Nat) : State :=
  ((s.setFlag (d2dStatus d) Fld.D2D_STATUS_UP true).setFlag (d2dStatus d) Fld.D2D_STATUS_QUIESCED false).setFlag (d2dStatus d) Fld.D2D_STATUS_DISCONT false

/-- The link is up and no longer marked quiesced. -/
def raiseLink (s : State) : State :=
  (s.setFlag Reg.DEV_DIE_STATUS Fld.DEV_DIE_STATUS_LINK_UP true).setFlag Reg.DEV_DIE_STATUS Fld.DEV_DIE_STATUS_QUIESCED false

/-- The FIFOs with the notices that waited behind what they hold. -/
def deliver (fifo wait : KMap (List Notice)) : KMap (List Notice) :=
  (List.range 16).foldl (fun m e => KMap.set [] m e (KMap.get [] m e ++ KMap.get [] wait e)) fifo

/-- Every slice's waiting notices come behind those in its FIFO, in order (R40). -/
theorem get_deliver (fifo wait : KMap (List Notice)) (e : Nat) (he : e < 16) :
    KMap.get [] (deliver fifo wait) e = KMap.get [] fifo e ++ KMap.get [] wait e := by
  have hPrefix : ∀ n, KMap.get [] ((List.range n).foldl (fun m e => KMap.set [] m e (KMap.get [] m e ++ KMap.get [] wait e)) fifo) e =
      if e < n then KMap.get [] fifo e ++ KMap.get [] wait e else KMap.get [] fifo e := by
    intro n
    induction n with
    | zero => simp
    | succ n ih =>
      rw [List.range_succ, List.foldl_append, List.foldl_cons, List.foldl_nil, KMap.get_set]
      by_cases hen : e = n
      · subst hen
        rw [ih]
        simp
      · rw [if_neg hen, ih]
        exact if_congr (by omega) rfl rfl
  rw [deliver, hPrefix 16, if_pos he]

/-- The registers of the link once it is up again. -/
def raised (s : State) : State := raiseEnd (raiseEnd (raiseLink s) 0) 1

/-- The notices that waited are delivered, and nothing is noted of the link any more. -/
def deliverAll (s : State) (e : EgSt) : State :=
  { s with
    eg := { e with
      fifo := deliver e.fifo e.wait
      wait := .empty }
    die := .init }

theorem linkRetrain_eq (s : State) (hHeld : s.aon.held = false) (hDown : s.linkUsable = false) (hF : s.fdieUp = true) (hT : s.tdieUp = true) :
    linkRetrain true s = deliverAll (raised s) s.eg := by
  simp only [linkRetrain, hHeld, hDown, hF, hT, Bool.not_true, Bool.false_eq_true, or_false, if_false]
  rfl

theorem raiseEnd_flags (s : State) (d : Nat) : (raiseEnd s d).flag (d2dStatus d) Fld.D2D_STATUS_UP = true ∧
    (raiseEnd s d).flag (d2dStatus d) Fld.D2D_STATUS_QUIESCED = false ∧ (raiseEnd s d).flag (d2dStatus d) Fld.D2D_STATUS_DISCONT = false := by
  refine ⟨?_, ?_, State.flag_setFlag_same _ _ _ _ (by decide)⟩
  · rw [raiseEnd, State.flag_setFlag_other _ _ _ _ _ (by decide) (by decide) (by decide),
      State.flag_setFlag_other _ _ _ _ _ (by decide) (by decide) (by decide), State.flag_setFlag_same _ _ _ _ (by decide)]
  · rw [raiseEnd, State.flag_setFlag_other _ _ _ _ _ (by decide) (by decide) (by decide), State.flag_setFlag_same _ _ _ _ (by decide)]

theorem regsWithin_raiseEnd (s : State) (d : Nat) : RegsWithin (fun a => a == d2dStatus d) s (raiseEnd s d) :=
  .setFlag (.setFlag (.setFlag (.refl _ _) (by simp)) (by simp)) (by simp)

theorem raiseLink_status (s : State) : (raiseLink s).linkUsable = true ∧ (raiseLink s).linkQuiesced = false ∧ (raiseLink s).fdieUp = s.fdieUp ∧
    (raiseLink s).tdieUp = s.tdieUp := by
  refine ⟨?_, State.flag_setFlag_same _ _ _ _ (by decide), ?_, ?_⟩
  · rw [State.linkUsable, raiseLink, State.flag_setFlag_other _ _ _ _ _ (by decide) (by decide) (by decide), State.flag_setFlag_same _ _ _ _ (by decide)]
  · rw [State.fdieUp, raiseLink, State.flag_setFlag_other _ _ _ _ _ (by decide) (by decide) (by decide),
      State.flag_setFlag_other _ _ _ _ _ (by decide) (by decide) (by decide), State.fdieUp]
  · rw [State.tdieUp, raiseLink, State.flag_setFlag_other _ _ _ _ _ (by decide) (by decide) (by decide),
      State.flag_setFlag_other _ _ _ _ _ (by decide) (by decide) (by decide), State.tdieUp]

end Sys2Proof.Machine.DeviceOrganisation
end

section
/-! PROOF. DEV_DIE_RESET: refusals, the hold of one die and its release (R41, R542). -/

namespace Sys2Proof.Machine.DeviceOrganisation

/-! ### Writes of DEV_DIE_RESET -/

theorem isOwner_func (s : State) (f : Fin 1024) : s.isOwner (.func f) = decide (f = 0) := by
  have hHart : (f.val == 1024) = false := beq_eq_false_iff_ne.2 f.isLt.ne
  simp only [State.isOwner, State.party, State.reqBlocked, Bool.not_false, Bool.and_true, hHart, Bool.or_false]
  exact decide_eq_decide.2 (Fin.ext_iff (a := f) (b := 0)).symm

/-- From another function a write of DEV_DIE_RESET is refused (R542). -/
theorem dieResetWrite_func (s : State) (f : Fin 1024) (v : Word) (h : f ≠ 0) :
    dieResetWrite (.func f) v s = s.bump (Ctr.HIF_VIEW_REFUSED (f.val / 256)) 1 := by
  simp [dieResetWrite, isOwner_func, h, State.viewRefused]

theorem viewRefused_shows (s : State) (p : Nat) (hp : p < 4) : Counted (Ctr.HIF_VIEW_REFUSED p) 1 s (s.bump (Ctr.HIF_VIEW_REFUSED p) 1) ∧
    RegsBut (Ctr.HIF_VIEW_REFUSED p).regs s (s.bump (Ctr.HIF_VIEW_REFUSED p) 1) ∧
    { s.bump (Ctr.HIF_VIEW_REFUSED p) 1 with regs := s.regs, pmcIn := s.pmcIn } = s := by
  refine ⟨counted_bump _ _ _ ?_ ?_ ?_, RegsBut.bump _ _ _, by simp⟩
  all_goals interval_cases p <;> decide

/-- The two bits of a word ordered for DEV_DIE_RESET. -/
theorem dieWord_bits (s : State) (b : Bool) :
    (Fld.DEV_DIE_RESET_FDIE.get (s.dieWord Fld.DEV_DIE_RESET_FDIE b) == 1) = b ∧
    (Fld.DEV_DIE_RESET_TDIE.get (s.dieWord Fld.DEV_DIE_RESET_FDIE b) == 1) = s.flag Reg.DEV_DIE_RESET Fld.DEV_DIE_RESET_TDIE ∧
    (Fld.DEV_DIE_RESET_TDIE.get (s.dieWord Fld.DEV_DIE_RESET_TDIE b) == 1) = b ∧
    (Fld.DEV_DIE_RESET_FDIE.get (s.dieWord Fld.DEV_DIE_RESET_TDIE b) == 1) = s.flag Reg.DEV_DIE_RESET Fld.DEV_DIE_RESET_FDIE := by
  simp (disch := decide) only [State.dieWord, Fld.get_put, Fld.get_put_ne]
  refine ⟨?_, rfl, ?_, rfl⟩ <;> cases b <;> rfl

/-- The Forwarding die is held while the Traffic die runs and is not ordered into reset; else the order is refused (R542). -/
theorem fdieHold_eq (s : State) (h : s.fdieUp = true ∨ s.flag Reg.DEV_DIE_RESET Fld.DEV_DIE_RESET_TDIE = true) :
    exec (.fdieResetHold (.func 0)) s = answer s (
      if s.flag Reg.DEV_DIE_RESET Fld.DEV_DIE_RESET_TDIE = true ∨ s.tdieUp = false then s.dieRefused else s.holdDie .fwd) := by
  obtain ⟨hSet, hOther, -, -⟩ := dieWord_bits s true
  change answer s (dieResetWrite (.func 0) _ s) = _
  simp only [dieResetWrite, isOwner_func, hSet, hOther]
  rcases h with h | h <;> cases hOrder : s.flag Reg.DEV_DIE_RESET Fld.DEV_DIE_RESET_TDIE <;> cases hUp : s.tdieUp <;> simp_all

/-- The same of the Traffic die. -/
theorem tdieHold_eq (s : State) (h : s.tdieUp = true ∨ s.flag Reg.DEV_DIE_RESET Fld.DEV_DIE_RESET_FDIE = true) :
    exec (.tdieResetHold (.func 0)) s = answer s (
      if s.flag Reg.DEV_DIE_RESET Fld.DEV_DIE_RESET_FDIE = true ∨ s.fdieUp = false then s.dieRefused else s.holdDie .trf) := by
  obtain ⟨-, -, hSet, hOther⟩ := dieWord_bits s true
  change answer s (dieResetWrite (.func 0) _ s) = _
  simp only [dieResetWrite, isOwner_func, hSet, hOther]
  rcases h with h | h <;> cases hOrder : s.flag Reg.DEV_DIE_RESET Fld.DEV_DIE_RESET_FDIE <;> cases hUp : s.fdieUp <;> simp_all

/-- A refused order sets REFUSED alone. -/
theorem dieRefused_shows (s : State) : s.dieRefused.flag Reg.DEV_DIE_STATUS Fld.DEV_DIE_STATUS_REFUSED = true ∧ s.dieRefused.fdieUp = s.fdieUp ∧
    s.dieRefused.tdieUp = s.tdieUp ∧ s.dieRefused.linkUsable = s.linkUsable ∧ OnlyRegs [Reg.DEV_DIE_STATUS] s s.dieRefused := by
  refine ⟨State.flag_setFlag_same _ _ _ _ (by decide), ?_, ?_, ?_, OnlyRegs.setFlag _ _ _ _ _ (by simp)⟩
  · rw [State.fdieUp, State.dieRefused, State.flag_setFlag_other _ _ _ _ _ (by decide) (by decide) (by decide), State.fdieUp]
  · rw [State.tdieUp, State.dieRefused, State.flag_setFlag_other _ _ _ _ _ (by decide) (by decide) (by decide), State.tdieUp]
  · rw [State.linkUsable, State.dieRefused, State.flag_setFlag_other _ _ _ _ _ (by decide) (by decide) (by decide), State.linkUsable]

/-! ### Release -/

/-- The bit of a die in DEV_DIE_RESET. -/
def resetFld : Die → Fld
  | .fwd => Fld.DEV_DIE_RESET_FDIE
  | .trf => Fld.DEV_DIE_RESET_TDIE

/-- The bit of a die in DEV_DIE_STATUS. -/
def heldFld : Die → Fld
  | .fwd => Fld.DEV_DIE_STATUS_FDIE_IN_RESET
  | .trf => Fld.DEV_DIE_STATUS_TDIE_IN_RESET

/-- Both bits of a die changed. -/
def markDie (s : State) (d : Die) (b : Bool) : State := (s.setFlag Reg.DEV_DIE_RESET (resetFld d) b).setFlag Reg.DEV_DIE_STATUS (heldFld d) b

/-- A change of what is noted of the link writes no register. -/
theorem reg_withDie (s : State) (x : DieSt) (a : Nat) : ({ s with die := x } : State).reg a = s.reg a := by cases s; rfl

theorem freeDie_reg (s : State) (d : Die) (a : Nat) : (s.freeDie d).reg a = (markDie s d false).reg a := by
  cases d <;> exact reg_withDie _ _ a

/-- The status of the device once a die's bits are changed: that of the other die, and of the link, stays. -/
theorem markDie_status (s : State) (b : Bool) :
    (markDie s .fwd b).fdieUp = !b ∧ (markDie s .fwd b).tdieUp = s.tdieUp ∧ (markDie s .trf b).tdieUp = !b ∧ (markDie s .trf b).fdieUp = s.fdieUp ∧
    ∀ d, (markDie s d b).linkUsable = s.linkUsable ∧ (markDie s d b).reg Reg.DEV_DIE_RESET = (resetFld d).put (s.reg Reg.DEV_DIE_RESET) b.toNat := by
  have hOther (d : Die) (f : Fld) (hf : f.lo + f.width ≤ 32)
      (hd : (heldFld d).lo + (heldFld d).width ≤ f.lo ∨ f.lo + f.width ≤ (heldFld d).lo) :
      (markDie s d b).flag Reg.DEV_DIE_STATUS f = s.flag Reg.DEV_DIE_STATUS f := by
    rw [markDie, State.flag_setFlag_other _ _ _ _ _ (by cases d <;> decide) hf hd, State.flag_setFlag_ne _ _ _ _ _ _ (by decide)]
  refine ⟨?_, ?_, ?_, ?_, fun d => ⟨?_, ?_⟩⟩
  · rw [State.fdieUp, markDie, heldFld, State.flag_setFlag_same _ _ _ _ (by decide)]
  · rw [State.tdieUp, hOther _ _ (by decide) (by decide), State.tdieUp]
  · rw [State.tdieUp, markDie, heldFld, State.flag_setFlag_same _ _ _ _ (by decide)]
  · rw [State.fdieUp, hOther _ _ (by decide) (by decide), State.fdieUp]
  · rw [State.linkUsable, hOther _ _ (by decide) (by cases d <;> decide), State.linkUsable]
  · rw [markDie, State.setFlag, State.setFld, State.reg_setReg_ne _ _ _ _ (by decide), State.setFlag, State.setFld, State.reg_setReg_same]

theorem freeDie_flag (s : State) (d : Die) (a : Nat) (f : Fld) : (s.freeDie d).flag a f = (markDie s d false).flag a f := by
  rw [State.flag, State.fld, freeDie_reg, ← State.fld, ← State.flag]

/-- A die released: its bits are clear, and the rest of the status stays. -/
theorem freeDie_status (s : State) (d : Die) : (s.freeDie d).fdieUp = (markDie s d false).fdieUp ∧
    (s.freeDie d).tdieUp = (markDie s d false).tdieUp ∧ (s.freeDie d).linkUsable = s.linkUsable ∧
    (s.freeDie d).reg Reg.DEV_DIE_RESET = (resetFld d).put (s.reg Reg.DEV_DIE_RESET) 0 ∧
    RegsBut [Reg.DEV_DIE_RESET, Reg.DEV_DIE_STATUS] s (s.freeDie d) := by
  obtain ⟨-, -, -, -, hBoth⟩ := markDie_status s false
  obtain ⟨hLink, hReset⟩ := hBoth d
  refine ⟨?_, ?_, ?_, (freeDie_reg s d _).trans hReset, fun a ha => ?_⟩
  · rw [State.fdieUp, freeDie_flag, ← State.fdieUp]
  · rw [State.tdieUp, freeDie_flag, ← State.tdieUp]
  · rw [State.linkUsable, freeDie_flag, ← State.linkUsable, hLink]
  · rw [freeDie_reg]
    exact (RegsBut.setFlag _ _ _ _ _ (by simp)).trans (RegsBut.setFlag _ _ _ _ _ (by simp)) a ha

/-- A release changes registers, and notes when the link may train again. -/
theorem freeDie_frame (s : State) (d : Die) : (s.freeDie d).die = { s.die with retrainAt := some s.mono } ∧
    { s.freeDie d with regs := s.regs, die := s.die } = s := by
  cases d <;> cases s <;> exact ⟨rfl, rfl⟩

/-- With the other bit clear and the other die up, a die in reset leaves it, and of a die that runs nothing happens (R542). -/
theorem fdieRelease_eq (s : State) (h : s.flag Reg.DEV_DIE_RESET Fld.DEV_DIE_RESET_TDIE = false) (hUp : s.tdieUp = true) :
    exec (.dieResetRelease (.func 0) .fwd) s = answer s (if s.fdieUp then s else s.freeDie .fwd) := by
  obtain ⟨hSet, hOther, -, -⟩ := dieWord_bits s false
  obtain ⟨-, hFreed, -⟩ := freeDie_status s .fwd
  obtain ⟨-, hKept, -⟩ := markDie_status s false
  change answer s (dieResetWrite (.func 0) (s.dieWord Fld.DEV_DIE_RESET_FDIE false) s) = _
  simp only [dieResetWrite, isOwner_func, hSet, hOther]
  cases hRun : s.fdieUp <;> simp_all

/-- The same of the Traffic die. -/
theorem tdieRelease_eq (s : State) (h : s.flag Reg.DEV_DIE_RESET Fld.DEV_DIE_RESET_FDIE = false) (hUp : s.fdieUp = true) :
    exec (.dieResetRelease (.func 0) .trf) s = answer s (if s.tdieUp then s else s.freeDie .trf) := by
  obtain ⟨-, -, hSet, hOther⟩ := dieWord_bits s false
  change answer s (dieResetWrite (.func 0) (s.dieWord Fld.DEV_DIE_RESET_TDIE false) s) = _
  simp only [dieResetWrite, isOwner_func, hSet, hOther]
  cases hRun : s.tdieUp <;> simp_all

end Sys2Proof.Machine.DeviceOrganisation
end

section
/-! PROOF. The loss ledger (R456): what an entry writes, and that it takes the items and units lost from their totals. -/

namespace Sys2Proof.Machine.DeviceOrganisation

/-- A total of the ledger after an amount, modulo 2^64. -/
def addTotal (s : State) (lo : Nat) (x : Int) : State := s.setReg64 lo ((s.reg64 lo + (BitVec.ofInt 64 x).toNat) % 2 ^ 64)

/-- The ledger entry of a loss, before its event. -/
def enterLoss (s : State) (cause : Nat) (items units : Int) : State :=
  addTotal (addTotal s (Reg.TRU_LOSS_ITEMS_LO cause) items) (Reg.TRU_LOSS_UNITS_LO cause) units

theorem loss_eq (s : State) (ledger cause scope : Nat) (items units : Int) (subject : Nat) (b : Bool) :
    s.loss ledger cause scope items units subject b = (enterLoss s cause items units).ownerEvent 0x0B01 2 63 scope
      (beBytes 1 ledger ++ beBytes 1 cause ++ beBytes 1 (b.toNat * 128) ++ [0] ++
        beBytes 8 (BitVec.ofInt 64 items).toNat ++ beBytes 8 (BitVec.ofInt 64 units).toNat ++ beBytes 4 subject) := rfl

/-- The registers of the totals of one cause, and those that an event can write. -/
def lossReg (cause a : Nat) : Bool := decide (Reg.TRU_LOSS_ITEMS_LO cause ≤ a) && decide (a < Reg.TRU_LOSS_ITEMS_LO cause + 16) || eventReg a

theorem RegsWithin.setReg64 {p : Nat → Bool} {s t : State} {lo v : Nat} (h : RegsWithin p s t) (hlo : p lo = true) (hhi : p (lo + 4) = true) :
    RegsWithin p s (t.setReg64 lo v) := .setReg (.setReg h hlo) hhi

theorem lossReg_totals (cause : Nat) : lossReg cause (Reg.TRU_LOSS_ITEMS_LO cause) = true ∧ lossReg cause (Reg.TRU_LOSS_ITEMS_LO cause + 4) = true ∧
    lossReg cause (Reg.TRU_LOSS_UNITS_LO cause) = true ∧ lossReg cause (Reg.TRU_LOSS_UNITS_LO cause + 4) = true := by
  have hRange (a : Nat) (h : Reg.TRU_LOSS_ITEMS_LO cause ≤ a ∧ a < Reg.TRU_LOSS_ITEMS_LO cause + 16) : lossReg cause a = true := by simp [lossReg, h]
  unfold Reg.TRU_LOSS_UNITS_LO Reg.TRU_LOSS_ITEMS_LO at *
  exact ⟨hRange _ (by omega), hRange _ (by omega), hRange _ (by omega), hRange _ (by omega)⟩

theorem RegsWithin.loss {p : Nat → Bool} {s t : State} {ledger cause scope subject : Nat} {items units : Int} {b : Bool} (h : RegsWithin p s t)
    (hp : ∀ a, lossReg cause a = true → p a = true) : RegsWithin p s (t.loss ledger cause scope items units subject b) := by
  obtain ⟨hItems, hItems4, hUnits, hUnits4⟩ := lossReg_totals cause
  rw [loss_eq]
  refine .ownerEvent (.setReg64 (.setReg64 h (hp _ hItems) (hp _ hItems4)) (hp _ hUnits) (hp _ hUnits4)) (fun a ha => hp a ?_)
  simp [lossReg, ha]

theorem reg64_lt (s : State) (lo : Nat) : s.reg64 lo < 2 ^ 64 := by
  have hLow := (s.reg lo).isLt
  have hHigh := (s.reg (lo + 4)).isLt
  rw [State.reg64]
  omega

/-- A total from which an amount was taken. -/
def Took (lo n : Nat) (s t : State) : Prop := (t.reg64 lo + n) % 2 ^ 64 = s.reg64 lo

theorem Took.zero {lo : Nat} {s t : State} (h : Took lo 0 s t) : t.reg64 lo = s.reg64 lo := by
  rw [← h, Nat.add_zero, Nat.mod_eq_of_lt (reg64_lt t lo)]

/-- What was taken stands while the registers stay after it. -/
theorem Took.of_regs {lo n : Nat} {s t u : State} (h : Took lo n s t) (hRegs : u.regs = t.regs) : Took lo n s u := by
  have hSame : u.reg64 lo = t.reg64 lo := by simp only [State.reg64, State.reg, hRegs]
  rw [Took, hSame]
  exact h

/-- What was taken is taken from any state with the same registers. -/
theorem Took.of_before {lo n : Nat} {r s t : State} (h : Took lo n s t) (hRegs : s.regs = r.regs) : Took lo n r t := by
  have hSame : s.reg64 lo = r.reg64 lo := by simp only [State.reg64, State.reg, hRegs]
  rw [Took, ← hSame]
  exact h

theorem took_addTotal (s : State) (lo n : Nat) : Took lo n s (addTotal s lo (-(n : Int))) := by
  have hWord := reg64_lt s lo
  rw [Took, addTotal, State.reg64_setReg64, BitVec.toNat_ofInt]
  omega

/-- A loss takes the items and the units from the totals of its cause (R456). -/
theorem loss_took (s : State) (ledger scope subject n m : Nat) (b : Bool) :
    Took (Reg.TRU_LOSS_ITEMS_LO lcDieReset) n s (s.loss ledger lcDieReset scope (-(n : Int)) (-(m : Int)) subject b) ∧
    Took (Reg.TRU_LOSS_UNITS_LO lcDieReset) m s (s.loss ledger lcDieReset scope (-(n : Int)) (-(m : Int)) subject b) := by
  have hEvent (u : State) (code die cl loc : Nat) (d : List Byte) (lo : Nat) (hlo : eventReg lo = false) (hhi : eventReg (lo + 4) = false) :
      (u.ownerEvent code die cl loc d).reg64 lo = u.reg64 lo := (regsWithin_ownerEvent _ _ _ _ _ _).reg64 hlo hhi
  have hItems : RegsWithin (fun a => a == Reg.TRU_LOSS_ITEMS_LO lcDieReset || a == Reg.TRU_LOSS_ITEMS_LO lcDieReset + 4) s
      (addTotal s (Reg.TRU_LOSS_ITEMS_LO lcDieReset) (-(n : Int))) := .setReg64 (.refl _ _) (by simp) (by simp)
  have hUnits : RegsWithin (fun a => a == Reg.TRU_LOSS_UNITS_LO lcDieReset || a == Reg.TRU_LOSS_UNITS_LO lcDieReset + 4)
      (addTotal s (Reg.TRU_LOSS_ITEMS_LO lcDieReset) (-(n : Int))) (enterLoss s lcDieReset (-(n : Int)) (-(m : Int))) :=
    .setReg64 (.refl _ _) (by simp) (by simp)
  rw [loss_eq, Took, Took, hEvent _ _ _ _ _ _ _ (by decide) (by decide), hEvent _ _ _ _ _ _ _ (by decide) (by decide)]
  constructor
  · rw [hUnits.reg64 (by decide) (by decide)]
    exact took_addTotal s _ n
  · rw [← hItems.reg64 (a := Reg.TRU_LOSS_UNITS_LO lcDieReset) (by decide) (by decide)]
    exact took_addTotal _ _ m

end Sys2Proof.Machine.DeviceOrganisation
end

section
/-! PROOF. The hold of the Forwarding die (R41, R542). -/

namespace Sys2Proof.Machine.DeviceOrganisation

/-! ### The status registers of a die that is held -/

/-- The order to hold a die: its two bits, and the cause. -/
def orderHold (s : State) (d : Die) (cause : Nat) : State := (markDie s d true).setFld Reg.DEV_DIE_STATUS Fld.DEV_DIE_STATUS_LAST_CAUSE cause

/-- The link goes down. -/
def linkDown (s : State) : State := s.setFlag Reg.DEV_DIE_STATUS Fld.DEV_DIE_STATUS_LINK_UP false

theorem regsWithin_orderHold (s : State) (d : Die) (cause : Nat) :
    RegsWithin (fun a => a == Reg.DEV_DIE_RESET || a == Reg.DEV_DIE_STATUS) s (orderHold s d cause) :=
  .setFld (.setFlag (.setFlag (.refl _ _) (by decide)) (by decide)) (by decide)

theorem reported_orderHold (s : State) (d : Die) (cause : Nat) : Reported s (orderHold s d cause) := .setFld (.setFlag (.setFlag (.refl s)))

/-- What the status registers show once a die is held, whatever else its hold writes between the order and the fall of the link. -/
theorem hold_status (s t : State) (d : Die) (cause : Nat) (hCause : cause < 4) {p : Nat → Bool} (h : RegsWithin p (orderHold s d cause) t)
    (hReset : p Reg.DEV_DIE_RESET = false) (hStatus : p Reg.DEV_DIE_STATUS = false) :
    (linkDown t).fdieUp = (markDie s d true).fdieUp ∧ (linkDown t).tdieUp = (markDie s d true).tdieUp ∧ (linkDown t).linkUsable = false ∧
    (linkDown t).reg Reg.DEV_DIE_RESET = (resetFld d).put (s.reg Reg.DEV_DIE_RESET) 1 ∧
    (linkDown t).fld Reg.DEV_DIE_STATUS Fld.DEV_DIE_STATUS_LAST_CAUSE = cause := by
  have hKept (f : Fld) (hf : f.lo + f.width ≤ 28) :
      (linkDown t).flag Reg.DEV_DIE_STATUS f = (markDie s d true).flag Reg.DEV_DIE_STATUS f := by
    have hLinkUp : f.lo + f.width ≤ Fld.DEV_DIE_STATUS_LINK_UP.lo := hf.trans (by decide)
    rw [linkDown, State.flag_setFlag_other _ _ _ _ _ (by decide) (by omega) (.inr hLinkUp), h.flag hStatus, State.flag, State.flag, orderHold,
      State.fld_setFld_other _ _ _ _ _ (by decide) (by omega) (.inr hf)]
  obtain ⟨-, -, -, -, hMark⟩ := markDie_status s true
  refine ⟨?_, ?_, State.flag_setFlag_same _ _ _ _ (by decide), ?_, ?_⟩
  · rw [State.fdieUp, hKept _ (by decide), State.fdieUp]
  · rw [State.tdieUp, hKept _ (by decide), State.tdieUp]
  · rw [linkDown, State.setFlag, State.setFld, State.reg_setReg_ne _ _ _ _ (by decide), h _ hReset, orderHold, State.setFld,
      State.reg_setReg_ne _ _ _ _ (by decide), (hMark d).2]
    rfl
  · rw [linkDown, State.setFlag, State.fld_setFld_other _ _ _ _ _ (by decide) (by decide) (by decide), h.fld hStatus, orderHold,
      State.fld_setFld_same _ _ _ _ (by decide)]
    exact Nat.mod_eq_of_lt hCause

/-! ### What the Forwarding die loses (R41, R456) -/

/-- The losses that the end of the Forwarding die enters. -/
def fdieLosses (s : State) : State := s.lossFabTx.lossMetered.discardTurns

/-- The tables of the Forwarding die after its reset. -/
def clearFdie (s : State) : State :=
  let s1 := s.clearBlock fdieReg fdieLedger 0
  { s1 with
    tab := { TabSt.init with exmSeed := s1.draws }
    pat := { PatSt.init with seed := s1.draws + 1 }
    draws := s1.draws + 2
    lrn := .init
    acl := .init
    icr := .init
    ing := { IngSt.init with fence := s1.ing.fence }
    port := .init
    otn := .empty
    turnIn := .init
    turnOut := .init
    sch := { s1.sch with gates := .empty } }

theorem resetFdie_eq (s : State) : s.resetFdie = clearFdie (fdieLosses s) := by rfl

/-- The other die notes that the Forwarding die is lost. -/
def loseFdie (s : State) : State := { s with die := { s.die with lostF := true } }

theorem holdDie_fwd_eq (s : State) : s.holdDie .fwd = linkDown (clearFdie (fdieLosses (loseFdie (orderHold s .fwd 1)))) := by
  rw [← resetFdie_eq]
  rfl

/-- Beside the fabric's streams only reports change. -/
def FabReported (s t : State) : Prop := ∃ f, Reported { s with fab := f } t

theorem FabReported.trans {s t u : State} (h : FabReported s t) (k : Reported t u) : FabReported s u := by
  obtain ⟨f, hf⟩ := h
  exact ⟨f, hf.trans k⟩

theorem freeContexts_eq (s : State) (c : TCopy) : ∃ f, s.freeContexts c = { s with fab := f } := by
  refine foldl_rel (R := fun s t : State => ∃ f, t = { s with fab := f }) (fun s => ⟨s.fab, rfl⟩) ?_ _ (fun s x _ => ?_) s
  · rintro s t u ⟨f, rfl⟩ ⟨g, rfl⟩
    exact ⟨g, rfl⟩
  · dsimp only
    split
    · exact ⟨_, rfl⟩
    · exact ⟨_, rfl⟩

theorem foldl_freeContexts_eq (s : State) (l : List (Nat × TCopy)) : ∃ f, l.foldl (fun s x => s.freeContexts x.2) s = { s with fab := f } := by
  refine foldl_rel (R := fun s t : State => ∃ f, t = { s with fab := f }) (fun s => ⟨s.fab, rfl⟩) ?_ _ (fun s x _ => freeContexts_eq s x.2) s
  rintro s t u ⟨f, rfl⟩ ⟨g, rfl⟩
  exact ⟨g, rfl⟩

/-- A change of the fabric's streams writes no register. -/
theorem regsWithin_fab (p : Nat → Bool) (s : State) (f : FabSt) : RegsWithin p s { s with fab := f } := .of_regs rfl

/-- The registers above the capacity words' page: those of DEV_DIE_RESET and DEV_DIE_STATUS lie below. -/
def highReg (a : Nat) : Bool := decide (0x1000 ≤ a)

theorem highReg_of_lossReg (cause a : Nat) (h : lossReg cause a = true) : highReg a = true := by
  simp only [lossReg, Bool.or_eq_true, Bool.and_eq_true, decide_eq_true_eq, highReg] at *
  rcases h with ⟨h, -⟩ | h
  · unfold Reg.TRU_LOSS_ITEMS_LO at h
    omega
  · by_contra hLow
    exact Bool.false_ne_true ((eventReg_eq_false.2 (by omega)).symm.trans h)

theorem lossFabTx_shows (s : State) : FabReported s s.lossFabTx ∧ RegsWithin highReg s s.lossFabTx := by
  obtain ⟨f, hf⟩ := foldl_freeContexts_eq s s.partCopies
  simp only [State.lossFabTx, hf]
  split
  · exact ⟨⟨f, .refl _⟩, regsWithin_fab _ _ f⟩
  · exact ⟨⟨f, .loss (.refl _)⟩, .loss (regsWithin_fab _ _ f) (highReg_of_lossReg _)⟩

theorem lossMetered_shows (s : State) : Reported s s.lossMetered ∧ RegsWithin highReg s s.lossMetered := by
  simp only [State.lossMetered]
  split
  · exact ⟨.refl s, .refl _ s⟩
  · exact ⟨.loss (.refl s), .loss (.refl _ s) (highReg_of_lossReg _)⟩

theorem highReg_ringCtrl (g : Nat) : highReg (Reg.RING_CTRL g) = true := by
  simp only [highReg, decide_eq_true_eq]
  unfold Reg.RING_CTRL
  omega

theorem turnRings_shows (s : State) (l : List (Nat × Nat)) : Reported s (s.turnRings l) ∧ RegsWithin highReg s (s.turnRings l) := by
  refine ⟨Reported.foldl l (fun u x _ => ?_) s, foldl_rel (.refl _) (fun _ _ _ => .trans) l (fun u x _ => ?_) s⟩
  all_goals
    obtain ⟨g, tag⟩ := x
    dsimp only
    split
  · exact .setFld (.setRing (.refl u))
  · exact .setRing (.refl u)
  · exact .setFld (.of_regs (State.setRing_regs _ _ _)) (highReg_ringCtrl g)
  · exact .of_regs (State.setRing_regs _ _ _)

theorem turnEntries_shows (s : State) (side status epoch drain : Nat) (l : List (Nat × Nat)) :
    Reported s (s.turnEntries side status epoch drain l) ∧ RegsWithin highReg s (s.turnEntries side status epoch drain l) := by
  refine ⟨Reported.foldl l (fun u x _ => ?_) s, foldl_rel (.refl _) (fun _ _ _ => .trans) l (fun u x _ => ?_) s⟩
  all_goals
    obtain ⟨g, tag⟩ := x
    dsimp only
    split
  · exact .writeCpl (.setRing (.refl u))
  · exact .refl u
  · exact RegsWithin.trans (.of_regs (State.setRing_regs _ _ _)) (.of_but (regsBut_writeCpl _ g _) (by simp [highReg_ringCtrl]))
  · exact .refl _ u

theorem discardTurns_shows (s : State) : Reported s s.discardTurns ∧ RegsWithin highReg s s.discardTurns := by
  simp only [State.discardTurns]
  exact ⟨((((turnRings_shows _ _).1.trans (turnEntries_shows _ _ _ _ _ _).1).trans (turnRings_shows _ _).1).trans (turnEntries_shows _ _ _ _ _ _).1),
    ((((turnRings_shows _ _).2.trans (turnEntries_shows _ _ _ _ _ _).2).trans (turnRings_shows _ _).2).trans (turnEntries_shows _ _ _ _ _ _).2)⟩

theorem fdieLosses_shows (s : State) : FabReported s (fdieLosses s) ∧ RegsWithin highReg s (fdieLosses s) :=
  ⟨((lossFabTx_shows s).1.trans (lossMetered_shows _).1).trans (discardTurns_shows _).1,
    ((lossFabTx_shows s).2.trans (lossMetered_shows _).2).trans (discardTurns_shows _).2⟩

theorem partCopies_congr {s t : State} (h : t.ing = s.ing) : t.partCopies = s.partCopies := by rw [State.partCopies, h, State.partCopies]

/-- With no turn waiting, no frame leaving a port and no packet part taken, the end of the Forwarding die loses nothing. -/
theorem fdieLosses_quiet (s : State) (hTx : s.port.tx = .empty) (hIn : s.turnIn = .init) (hOut : s.turnOut = .init) (hPart : s.partCopies = []) :
    fdieLosses s = s := by
  have hFab : s.lossFabTx = s := by simp [State.lossFabTx, hPart]
  have hMet : s.lossMetered = s := by simp [State.lossMetered, hTx, KMap.empty]
  have hTurns : s.discardTurns = s := by simp [State.discardTurns, hIn, hOut, TurnSt.init, State.turnRings, State.turnEntries]
  rw [fdieLosses, hFab, hMet, hTurns]

/-! ### The reset of the Forwarding die -/

theorem clearFdie_reg (s : State) (a : Nat) : (clearFdie s).reg a = if fdieReg a then resetWord a else s.reg a := by
  have hFilter : (clearFdie s).regs = s.regs.filter (fun b _ => !fdieReg b) := rfl
  rw [State.reg, hFilter, get_filter_key, State.reg]
  cases fdieReg a <;> rfl

theorem regsWithin_clearFdie (s : State) : RegsWithin fdieReg s (clearFdie s) := fun a ha => by rw [clearFdie_reg, ha, if_neg Bool.false_ne_true]

/-- The tables that the reset of the Forwarding die empties. -/
theorem clearFdie_empty (s : State) : (clearFdie s).tab.exm = .empty ∧ (clearFdie s).acl = .init ∧ (clearFdie s).lrn = .init ∧
    (clearFdie s).icr = .init ∧ (clearFdie s).port = .init ∧ (clearFdie s).otn = .empty ∧ (clearFdie s).ing.fence = s.ing.fence ∧ (clearFdie s).ing.transit = .empty ∧
    (clearFdie s).sch.gates = .empty ∧ (clearFdie s).turnIn = .init ∧ (clearFdie s).turnOut = .init :=
  ⟨rfl, rfl, rfl, rfl, rfl, rfl, rfl, rfl, rfl, rfl, rfl⟩

/-- What the reset of the Forwarding die leaves. -/
theorem clearFdie_kept (s : State) : (clearFdie s).time = s.time ∧ (clearFdie s).kvc = s.kvc ∧ (clearFdie s).tm = s.tm ∧
    (clearFdie s).cyc = s.cyc ∧ (clearFdie s).boot = s.boot ∧ (clearFdie s).tdm = s.tdm ∧ (clearFdie s).otp = s.otp ∧ (clearFdie s).aon = s.aon ∧ (clearFdie s).die = s.die ∧
    (clearFdie s).pending = s.pending :=
  ⟨rfl, rfl, rfl, rfl, rfl, rfl, rfl, rfl, rfl, rfl⟩

/-- The device as the hold of the Forwarding die finds it once the losses are entered. -/
def fdieLost (s : State) : State := fdieLosses (loseFdie (orderHold s .fwd 1))

theorem fdieLost_kept (s : State) : (fdieLost s).time = s.time ∧ (fdieLost s).kvc = s.kvc ∧ (fdieLost s).tm = s.tm ∧ (fdieLost s).cyc = s.cyc ∧
    (fdieLost s).boot = s.boot ∧ (fdieLost s).tdm = s.tdm ∧ (fdieLost s).otp = s.otp ∧ (fdieLost s).aon = s.aon ∧ (fdieLost s).die.lostF = true ∧
    (fdieLost s).pending = s.pending ∧ (fdieLost s).ing.fence = s.ing.fence := by
  obtain ⟨f, hLost⟩ := (fdieLosses_shows (loseFdie (orderHold s .fwd 1))).1
  have hOrder := reported_orderHold s .fwd 1
  exact ⟨hLost.time.trans hOrder.time, hLost.kvc.trans hOrder.kvc, hLost.tm.trans hOrder.tm, hLost.cyc.trans hOrder.cyc,
    hLost.boot.trans hOrder.boot, hLost.tdm.trans hOrder.tdm,
    hLost.otp.trans hOrder.otp, hLost.aon.trans hOrder.aon, congrArg DieSt.lostF hLost.die,
    hLost.pending.trans hOrder.pending, congrArg IngSt.fence (hLost.ing.trans hOrder.ing)⟩

theorem holdDie_fwd_within (s : State) : RegsWithin (fun a => fdieReg a || highReg a) (orderHold s .fwd 1) (clearFdie (fdieLost s)) := by
  have hLose : RegsWithin (fun a => fdieReg a || highReg a) (orderHold s .fwd 1) (loseFdie (orderHold s .fwd 1)) := fun a _ => reg_withDie _ _ a
  exact (hLose.trans ((fdieLosses_shows _).2.mono (by simp +contextual))).trans ((regsWithin_clearFdie _).mono (by simp +contextual))

theorem linkDown_reg (s : State) (a : Nat) (ha : a ≠ Reg.DEV_DIE_STATUS) : (linkDown s).reg a = s.reg a := State.reg_setReg_ne _ _ _ _ ha

theorem reported_linkDown (s : State) : Reported s (linkDown s) := .setFlag (.refl s)

/-- The registers of the Forwarding die's scope hold their reset values once it is held. -/
theorem holdDie_fwd_cleared (s : State) (a : Nat) (ha : fdieReg a = true) : (s.holdDie .fwd).reg a = resetWord a := by
  have hNe : a ≠ Reg.DEV_DIE_STATUS := by
    rintro rfl
    exact absurd ha (by decide)
  rw [holdDie_fwd_eq, linkDown_reg _ _ hNe, clearFdie_reg, if_pos ha]

/-- With nothing to lose, the hold of the Forwarding die writes only its scope and the status registers. -/
theorem holdDie_fwd_quiet (s : State) (hTx : s.port.tx = .empty) (hIn : s.turnIn = .init) (hOut : s.turnOut = .init) (hPart : s.partCopies = [])
    (a : Nat) (ha : fdieReg a = false) (hReset : a ≠ Reg.DEV_DIE_RESET) (hStatus : a ≠ Reg.DEV_DIE_STATUS) : (s.holdDie .fwd).reg a = s.reg a := by
  have hOrder := reported_orderHold s .fwd 1
  have hQuiet : fdieLosses (loseFdie (orderHold s .fwd 1)) = loseFdie (orderHold s .fwd 1) :=
    fdieLosses_quiet _ ((congrArg PortSt.tx hOrder.port).trans hTx) (hOrder.turnIn.trans hIn) (hOrder.turnOut.trans hOut)
      ((partCopies_congr (t := loseFdie (orderHold s .fwd 1)) hOrder.ing).trans hPart)
  rw [holdDie_fwd_eq, hQuiet, linkDown_reg _ _ hStatus, clearFdie_reg, if_neg (by simp [ha]), loseFdie, reg_withDie]
  exact regsWithin_orderHold s .fwd 1 a (by simp [hReset, hStatus])

/-- The hold of the Forwarding die (R542). -/
theorem fdieHold_completes (s : State) (hF : s.fdieUp = true) (hT : s.tdieUp = true) (hBit : s.flag Reg.DEV_DIE_RESET Fld.DEV_DIE_RESET_TDIE = false) :
    Completes (.fdieResetHold (.func 0)) s fun t =>
      t.fdieUp = false ∧ t.tdieUp = true ∧ t.linkUsable = false ∧ t.flag Reg.DEV_DIE_RESET Fld.DEV_DIE_RESET_FDIE = true ∧
      t.flag Reg.DEV_DIE_RESET Fld.DEV_DIE_RESET_TDIE = false ∧ t.fld Reg.DEV_DIE_STATUS Fld.DEV_DIE_STATUS_LAST_CAUSE = 1 ∧ t.die.lostF = true ∧
      (∀ a, fdieReg a = true → t.reg a = resetWord a) ∧ t.tab.exm = .empty ∧ t.acl = .init ∧ t.lrn = .init ∧ t.icr = .init ∧ t.port = .init ∧
      t.otn = .empty ∧ t.ing.fence = s.ing.fence ∧ t.ing.transit = .empty ∧ t.sch.gates = .empty ∧ t.turnIn = .init ∧ t.turnOut = .init ∧
      t.time = s.time ∧ t.kvc = s.kvc ∧ t.tm = s.tm ∧ t.cyc = s.cyc ∧ t.boot = s.boot ∧ t.tdm = s.tdm ∧ t.otp = s.otp ∧ t.aon = s.aon ∧
      (s.port.tx = .empty → s.turnIn = .init → s.turnOut = .init → s.partCopies = [] → ∀ a, fdieReg a = false → a ≠ Reg.DEV_DIE_RESET →
        a ≠ Reg.DEV_DIE_STATUS → t.reg a = s.reg a) := by
  have hHold : s.holdDie .fwd = linkDown (clearFdie (fdieLost s)) := holdDie_fwd_eq s
  have hDown := reported_linkDown (clearFdie (fdieLost s))
  obtain ⟨hStatF, hStatT, hLink, hReset, hCause⟩ := hold_status s _ .fwd 1 (by decide) (holdDie_fwd_within s) (by decide) (by decide)
  obtain ⟨hMarkF, hMarkT, -⟩ := markDie_status s true
  obtain ⟨hExm, hAcl, hLrn, hIcr, hPort, hOtn, hFence, hTransit, hGates, hIn, hOut⟩ := clearFdie_empty (fdieLost s)
  obtain ⟨cTime, cKvc, cTm, cCyc, cBoot, cTdm, cOtp, cAon, cDie, cPending⟩ := clearFdie_kept (fdieLost s)
  obtain ⟨kTime, kKvc, kTm, kCyc, kBoot, kTdm, kOtp, kAon, kDie, kPending, kFence⟩ := fdieLost_kept s
  refine completes_of_answer (t := s.holdDie .fwd) ?_ ?_ ⟨?_, ?_, ?_, ?_, ?_, ?_, ?_, holdDie_fwd_cleared s, ?_, ?_, ?_, ?_, ?_, ?_, ?_, ?_, ?_, ?_, ?_,
    ?_, ?_, ?_, ?_, ?_, ?_, ?_, ?_, holdDie_fwd_quiet s⟩
  · rw [fdieHold_eq s (.inl hF), if_neg (by simp [hBit, hT])]
  all_goals rw [hHold]
  · rw [hDown.pending, cPending, kPending]
  · rw [hStatF, hMarkF, Bool.not_true]
  · rw [hStatT, hMarkT, hT]
  · exact hLink
  · rw [State.flag, State.fld, hReset, resetFld, Fld.get_put _ _ _ (by decide)]
    rfl
  · rw [State.flag, State.fld, hReset, resetFld, Fld.get_put_ne _ _ _ _ (by decide) (by decide) (by decide)]
    exact hBit
  · exact hCause
  · rw [hDown.die, cDie, kDie]
  · rw [hDown.tab, hExm]
  · rw [hDown.acl, hAcl]
  · rw [hDown.lrn, hLrn]
  · rw [hDown.icr, hIcr]
  · rw [hDown.port, hPort]
  · rw [hDown.otn, hOtn]
  · rw [hDown.ing, hFence, kFence]
  · rw [hDown.ing, hTransit]
  · rw [hDown.sch, hGates]
  · rw [hDown.turnIn, hIn]
  · rw [hDown.turnOut, hOut]
  · rw [hDown.time, cTime, kTime]
  · rw [hDown.kvc, cKvc, kKvc]
  · rw [hDown.tm, cTm, kTm]
  · rw [hDown.cyc, cCyc, kCyc]
  · rw [hDown.boot, cBoot, kBoot]
  · rw [hDown.tdm, cTdm, kTdm]
  · rw [hDown.otp, cOtp, kOtp]
  · rw [hDown.aon, cAon, kAon]

end Sys2Proof.Machine.DeviceOrganisation
end

section
/-! PROOF. The hold of the Traffic die (R41, R272, R542). -/

namespace Sys2Proof.Machine.DeviceOrganisation

/-- The Traffic die's tables after its reset: the copies of a quad are gone with what was owed for them. -/
def clearTdie (s : State) : State :=
  let s1 := s.clearBlock tdieReg tdieLedger 1
  let quads := (List.range 4).foldl (fun m q =>
    let x := s.quad q
    KMap.set .init m q { QuadSt.init with gone := x.owe.l.foldl (fun g e => KMap.set 0 g e.1 (KMap.get 0 g e.1 + e.2)) x.gone }) KMap.empty
  { s1 with
    tm := { TmSt.init with
      quads := quads
      hbmGone := s.tm.hbmGone }
    fab := .init
    sch := { SchSt.init with gates := s.sch.gates }
    tru := .init
    time := { s.time with
      follower := 0
      followerInc := 0 } }

/-- The new incarnation of the Traffic die (R272). -/
def newIncarnation (s : State) : State :=
  s.draw.2.setFld Reg.FAB_DEV_CFG Fld.FAB_DEV_CFG_INCARNATION (s.draw.1 % 65535 + 1)

/-- The buffers report their whole capacity again (R544). -/
def wholeBuffers (s : State) : State := (List.range 8).foldl (fun s b => s.modCap 2 (8 + b) (fun c => { c with percent := 100, count := 24 })) s

theorem resetTdie_eq (s : State) : s.resetTdie = wholeBuffers (newIncarnation (clearTdie s)) := by rfl

/-- The other die notes that the Traffic die is lost. -/
def loseTdie (s : State) : State := { s with die := { s.die with lostT := true } }

theorem holdDie_trf_eq (s : State) : s.holdDie .trf = linkDown (wholeBuffers (newIncarnation (clearTdie (loseTdie (orderHold s .trf 2))))) := by
  rw [← resetTdie_eq]
  rfl

/-! ### Registers -/

theorem clearTdie_reg (s : State) (a : Nat) : (clearTdie s).reg a = if tdieReg a then resetWord a else s.reg a := by
  have hFilter : (clearTdie s).regs = s.regs.filter (fun b _ => !tdieReg b) := rfl
  rw [State.reg, hFilter, get_filter_key, State.reg]
  cases tdieReg a <;> rfl

theorem regsWithin_newIncarnation (s : State) : RegsWithin (fun a => a == Reg.FAB_DEV_CFG) s (newIncarnation s) :=
  .setFld (.draw (.refl _ s)) (by decide)

/-- An incarnation is not zero (R272). -/
theorem newIncarnation_pos (s : State) : 1 ≤ (newIncarnation s).fld Reg.FAB_DEV_CFG Fld.FAB_DEV_CFG_INCARNATION := by
  rw [newIncarnation, State.fld_setFld_same _ _ _ _ (by decide)]
  have hWidth : Fld.FAB_DEV_CFG_INCARNATION.width = 16 := by decide
  rw [hWidth]
  omega

theorem wholeBuffers_shows (s : State) : Reported s (wholeBuffers s) ∧ RegsWithin capacityReg s (wholeBuffers s) := by
  refine ⟨Reported.foldl _ (fun u b _ => .modCap (.refl u)) s, foldl_rel (.refl _) (fun _ _ _ => .trans) _ (fun u b hb => ?_) s⟩
  have hBuffer : b < 8 := List.mem_range.1 hb
  exact .modCap (.refl _ u) capacityReg_of_alarmReg (capacityReg_cap 2 _ (.inr rfl) (by omega))

/-- The registers of the dies' scopes and of the island are none that a change of capacity can write. -/
theorem capacityReg_eq_false {a : Nat} (h : (tdieReg a || islandReg a || fdieReg a) = true) : capacityReg a = false := by
  have hAlarm : alarmReg a = false ∧ 0x1200 ≤ a := by
    simp only [tdieReg, islandReg, fdieReg, Bool.or_eq_true, Bool.and_eq_true, decide_eq_true_eq] at h
    rw [alarmReg_eq_false, eventReg_eq_false]
    omega
  simp [capacityReg, hAlarm.1]
  omega

theorem scope_ne_status {a : Nat} (h : (tdieReg a || islandReg a || fdieReg a) = true) : a ≠ Reg.DEV_DIE_STATUS ∧ a ≠ Reg.DEV_DIE_RESET := by
  constructor
  all_goals
    rintro rfl
    exact absurd h (by decide)

theorem holdDie_trf_within (s : State) :
    RegsWithin (fun a => a == Reg.FAB_DEV_CFG || capacityReg a) (clearTdie (loseTdie (orderHold s .trf 2)))
      (wholeBuffers (newIncarnation (clearTdie (loseTdie (orderHold s .trf 2))))) :=
  ((regsWithin_newIncarnation _).mono (by simp +contextual)).trans ((wholeBuffers_shows _).2.mono (by simp +contextual))

/-- The registers of the Traffic die's scope hold their reset values once it is held, but for the incarnation. -/
theorem holdDie_trf_cleared (s : State) (a : Nat) (ha : tdieReg a = true) (hInc : a ≠ Reg.FAB_DEV_CFG) : (s.holdDie .trf).reg a = resetWord a := by
  have hScope : (tdieReg a || islandReg a || fdieReg a) = true := by simp [ha]
  rw [holdDie_trf_eq, linkDown_reg _ _ (scope_ne_status hScope).1, holdDie_trf_within s a (by simp [hInc, capacityReg_eq_false hScope]), clearTdie_reg,
    if_pos ha]

/-- The island's registers and the Forwarding die's are not in the Traffic die's scope. -/
theorem tdieReg_eq_false {a : Nat} (h : islandReg a = true ∨ fdieReg a = true) : tdieReg a = false := by
  rw [Bool.eq_false_iff]
  intro hTdie
  simp only [tdieReg, fdieReg, Bool.or_eq_true, Bool.and_eq_true, decide_eq_true_eq, Bool.not_eq_true'] at h hTdie
  rcases h with hIsland | hFdie
  · simp only [hIsland, Bool.true_eq_false, and_false, false_or] at hTdie
    simp only [islandReg, Bool.or_eq_true, Bool.and_eq_true, decide_eq_true_eq] at hIsland
    omega
  · omega

/-- The island's registers and those of the Forwarding die's scope stay when the Traffic die is held. -/
theorem holdDie_trf_kept (s : State) (a : Nat) (ha : islandReg a = true ∨ fdieReg a = true) : (s.holdDie .trf).reg a = s.reg a := by
  have hScope : (tdieReg a || islandReg a || fdieReg a) = true := by
    rcases ha with ha | ha <;> simp [ha]
  have hOutside := tdieReg_eq_false ha
  have hInc : a ≠ Reg.FAB_DEV_CFG := by
    rintro rfl
    exact absurd ha (by decide)
  obtain ⟨hStatus, hReset⟩ := scope_ne_status hScope
  rw [holdDie_trf_eq, linkDown_reg _ _ hStatus, holdDie_trf_within s a (by simp [hInc, capacityReg_eq_false hScope]), clearTdie_reg,
    if_neg (by simp [hOutside]), loseTdie, reg_withDie]
  exact regsWithin_orderHold s .trf 2 a (by simp [hReset, hStatus])

/-! ### Tables -/

/-- The tables that the reset of the Traffic die empties. -/
theorem clearTdie_empty (s : State) : (clearTdie s).fab = .init ∧ (clearTdie s).tru = .init ∧ (clearTdie s).tm.queues = .empty ∧
    (clearTdie s).time.followerInc = 0 := ⟨rfl, rfl, rfl, rfl⟩

/-- What the reset of the Traffic die leaves. -/
theorem clearTdie_kept (s : State) : (clearTdie s).tm.hbmGone = s.tm.hbmGone ∧ (clearTdie s).sch.gates = s.sch.gates ∧
    (clearTdie s).time.master = s.time.master ∧ (clearTdie s).cyc = s.cyc ∧ (clearTdie s).kvc = s.kvc ∧ (clearTdie s).tab = s.tab ∧
    (clearTdie s).ing = s.ing ∧ (clearTdie s).aon = s.aon ∧ (clearTdie s).die = s.die ∧ (clearTdie s).pending = s.pending :=
  ⟨rfl, rfl, rfl, rfl, rfl, rfl, rfl, rfl, rfl, rfl⟩

/-- The quads hold no page and no copy after the reset of the Traffic die. -/
theorem clearTdie_quad (s : State) (q : Nat) (hq : q < 4) : ((clearTdie s).quad q).use = .empty ∧ ((clearTdie s).quad q).pd = 0 := by
  simp only [clearTdie, State.quad, List.range_succ, List.range_zero, List.nil_append, List.cons_append, List.foldl_cons, List.foldl_nil, KMap.get_set]
  interval_cases q <;> exact ⟨rfl, rfl⟩

theorem reported_newIncarnation (s : State) : Reported s.draw.2 (newIncarnation s) := .setFld (.refl _)

/-- The device as the hold of the Traffic die finds it once the tables are empty. -/
def tdieCleared (s : State) : State := clearTdie (loseTdie (orderHold s .trf 2))

/-- After the tables are empty only reports and a draw follow. -/
theorem holdDie_trf_reported (s : State) : Reported (tdieCleared s).draw.2 (s.holdDie .trf) := by
  rw [holdDie_trf_eq]
  exact ((reported_newIncarnation _).trans (wholeBuffers_shows _).1).trans (reported_linkDown _)

theorem tdieCleared_kept (s : State) : (tdieCleared s).tm.hbmGone = s.tm.hbmGone ∧ (tdieCleared s).sch.gates = s.sch.gates ∧
    (tdieCleared s).time.master = s.time.master ∧ (tdieCleared s).cyc = s.cyc ∧ (tdieCleared s).kvc = s.kvc ∧ (tdieCleared s).tab = s.tab ∧
    (tdieCleared s).ing = s.ing ∧ (tdieCleared s).aon = s.aon ∧ (tdieCleared s).die.lostT = true ∧ (tdieCleared s).pending = s.pending := by
  have hOrder := reported_orderHold s .trf 2
  obtain ⟨hGone, hGates, hMaster, hCyc, hKvc, hTab, hIng, hAon, hDie, hPending⟩ := clearTdie_kept (loseTdie (orderHold s .trf 2))
  exact ⟨hGone.trans (congrArg TmSt.hbmGone hOrder.tm), hGates.trans (congrArg SchSt.gates hOrder.sch),
    hMaster.trans (congrArg TimeSt.master hOrder.time),
    hCyc.trans hOrder.cyc, hKvc.trans hOrder.kvc, hTab.trans hOrder.tab, hIng.trans hOrder.ing, hAon.trans hOrder.aon, congrArg DieSt.lostT hDie,
    hPending.trans hOrder.pending⟩

/-- The new incarnation stands once the Traffic die is held. -/
theorem holdDie_trf_incarnation (s : State) : 1 ≤ (s.holdDie .trf).fld Reg.FAB_DEV_CFG Fld.FAB_DEV_CFG_INCARNATION := by
  rw [holdDie_trf_eq, State.fld, linkDown_reg _ _ (by decide), (wholeBuffers_shows _).2 _ (by decide), ← State.fld]
  exact newIncarnation_pos _

/-- The hold of the Traffic die (R542). -/
theorem tdieHold_completes (s : State) (hF : s.fdieUp = true) (hT : s.tdieUp = true) (hBit : s.flag Reg.DEV_DIE_RESET Fld.DEV_DIE_RESET_FDIE = false) :
    Completes (.tdieResetHold (.func 0)) s fun t =>
      t.tdieUp = false ∧ t.fdieUp = true ∧ t.linkUsable = false ∧ t.flag Reg.DEV_DIE_RESET Fld.DEV_DIE_RESET_TDIE = true ∧
      t.flag Reg.DEV_DIE_RESET Fld.DEV_DIE_RESET_FDIE = false ∧ t.fld Reg.DEV_DIE_STATUS Fld.DEV_DIE_STATUS_LAST_CAUSE = 2 ∧ t.die.lostT = true ∧
      (∀ a, tdieReg a = true → a ≠ Reg.FAB_DEV_CFG → t.reg a = resetWord a) ∧ 1 ≤ t.fld Reg.FAB_DEV_CFG Fld.FAB_DEV_CFG_INCARNATION ∧
      t.fab = .init ∧ t.tru = .init ∧ (∀ q, q < 4 → (t.quad q).use = .empty ∧ (t.quad q).pd = 0) ∧ t.tm.queues = .empty ∧ t.tm.hbmGone = s.tm.hbmGone ∧
      t.sch.gates = s.sch.gates ∧ t.time.followerInc = 0 ∧ t.time.master = s.time.master ∧ t.cyc = s.cyc ∧ t.kvc = s.kvc ∧ t.tab = s.tab ∧
      t.ing = s.ing ∧ t.aon = s.aon ∧ (∀ a, islandReg a = true ∨ fdieReg a = true → t.reg a = s.reg a) := by
  have hWithin : RegsWithin (fun a => tdieReg a || (a == Reg.FAB_DEV_CFG || capacityReg a)) (orderHold s .trf 2)
      (wholeBuffers (newIncarnation (tdieCleared s))) := by
    refine RegsWithin.trans (fun a ha => ?_) ((holdDie_trf_within s).mono (by simp +contextual))
    rw [clearTdie_reg, if_neg (by simp_all), loseTdie, reg_withDie]
  have hHeld := holdDie_trf_reported s
  obtain ⟨hStatF, hStatT, hLink, hReset, hCause⟩ := hold_status s _ .trf 2 (by decide) hWithin (by decide) (by decide)
  rw [tdieCleared, ← holdDie_trf_eq] at hStatF hStatT hLink hReset hCause
  obtain ⟨-, -, hMarkT, hMarkF, -⟩ := markDie_status s true
  obtain ⟨hFab, hTru, hQueues, hFollower⟩ := clearTdie_empty (loseTdie (orderHold s .trf 2))
  obtain ⟨hGone, hGates, hMaster, hCyc, hKvc, hTab, hIng, hAon, hDie, hPending⟩ := tdieCleared_kept s
  refine completes_of_answer (t := s.holdDie .trf) ?_ (hHeld.pending.trans hPending) ⟨?_, ?_, hLink, ?_, ?_, hCause, ?_, holdDie_trf_cleared s,
    holdDie_trf_incarnation s, hHeld.fab.trans hFab, hHeld.tru.trans hTru, fun q hq => ?_, (congrArg TmSt.queues hHeld.tm).trans hQueues,
    (congrArg TmSt.hbmGone hHeld.tm).trans hGone, (congrArg SchSt.gates hHeld.sch).trans hGates,
    (congrArg TimeSt.followerInc hHeld.time).trans hFollower, (congrArg TimeSt.master hHeld.time).trans hMaster, hHeld.cyc.trans hCyc,
    hHeld.kvc.trans hKvc, hHeld.tab.trans hTab, hHeld.ing.trans hIng, hHeld.aon.trans hAon, holdDie_trf_kept s⟩
  · rw [tdieHold_eq s (.inl hT), if_neg (by simp [hBit, hF])]
  · rw [hStatT, hMarkT, Bool.not_true]
  · rw [hStatF, hMarkF, hF]
  · rw [State.flag, State.fld, hReset, resetFld, Fld.get_put _ _ _ (by decide)]
    rfl
  · rw [State.flag, State.fld, hReset, resetFld, Fld.get_put_ne _ _ _ _ (by decide) (by decide) (by decide)]
    exact hBit
  · exact (congrArg DieSt.lostT hHeld.die).trans hDie
  · rw [State.quad, hHeld.tm]
    exact clearTdie_quad _ q hq

end Sys2Proof.Machine.DeviceOrganisation
end

section
/-! PROOF. LINK_QUIESCE: the marks, and the losses entered at t0 (R37, R456, R543). -/

namespace Sys2Proof.Machine.DeviceOrganisation

/-! ### The marks -/

/-- One end, if it runs, shows the link down, quiesced and discontinuous. -/
def markEnd (s : State) (d : Nat) (up : Bool) : State :=
  if up then ((s.setFlag (d2dStatus d) Fld.D2D_STATUS_UP false).setFlag (d2dStatus d) Fld.D2D_STATUS_QUIESCED true).setFlag (d2dStatus d)
    Fld.D2D_STATUS_DISCONT true
  else s

/-- The device shows the link quiesced, and the time of the Traffic die discontinuous. -/
def markLink (s : State) : State :=
  (s.setFlag Reg.DEV_DIE_STATUS Fld.DEV_DIE_STATUS_QUIESCED true).setFlag Reg.TIME_STATUS Fld.TIME_STATUS_TDIE_DISCONT true

theorem markQuiesced_eq (s : State) : s.markQuiesced = markLink (markEnd (markEnd s 0 s.fdieUp) 1 s.tdieUp) := by rfl

theorem reported_markEnd {s t : State} (h : Reported s t) (d : Nat) (up : Bool) : Reported s (markEnd t d up) := by
  unfold markEnd
  split
  · exact .setFlag (.setFlag (.setFlag h))
  · exact h

theorem reported_markQuiesced (s : State) : Reported s s.markQuiesced := by
  rw [markQuiesced_eq]
  exact .setFlag (.setFlag (reported_markEnd (reported_markEnd (.refl s) _ _) _ _))

theorem regsWithin_markEnd {p : Nat → Bool} {s t : State} (h : RegsWithin p s t) (d : Nat) (up : Bool) (hp : p (d2dStatus d) = true) :
    RegsWithin p s (markEnd t d up) := by
  unfold markEnd
  split
  · exact .setFlag (.setFlag (.setFlag h hp) hp) hp
  · exact h

/-- The status registers outside the ends of the link. -/
def deviceMark (a : Nat) : Bool := a == Reg.DEV_DIE_STATUS || a == Reg.TIME_STATUS

theorem regsWithin_markLink (s : State) : RegsWithin deviceMark s (markLink s) := .setFlag (.setFlag (.refl _ s) (by decide)) (by decide)

/-- The registers that the marks can write. -/
def markReg (a : Nat) : Bool := a == d2dStatus 0 || a == d2dStatus 1 || deviceMark a

theorem regsWithin_markQuiesced (s : State) : RegsWithin markReg s s.markQuiesced := by
  rw [markQuiesced_eq]
  exact .trans (regsWithin_markEnd (regsWithin_markEnd (.refl _ s) 0 _ (by decide)) 1 _ (by decide))
    ((regsWithin_markLink _).mono (by simp +contextual [markReg]))

/-- An end that runs shows its three marks; of one in reset the register stays. -/
def EndMarked (d : Nat) (up : Bool) (s t : State) : Prop :=
  (up = true → t.flag (d2dStatus d) Fld.D2D_STATUS_UP = false ∧ t.flag (d2dStatus d) Fld.D2D_STATUS_QUIESCED = true ∧
    t.flag (d2dStatus d) Fld.D2D_STATUS_DISCONT = true) ∧
  (up = false → t.reg (d2dStatus d) = s.reg (d2dStatus d))

theorem EndMarked.of_reg {d : Nat} {up : Bool} {r s t u : State} (h : EndMarked d up s t) (hs : s.reg (d2dStatus d) = r.reg (d2dStatus d))
    (hu : u.reg (d2dStatus d) = t.reg (d2dStatus d)) : EndMarked d up r u := by
  simp only [EndMarked, State.flag, State.fld, hu] at *
  exact ⟨h.1, fun hUp => (h.2 hUp).trans hs⟩

theorem markEnd_marked (s : State) (d : Nat) (up : Bool) : EndMarked d up s (markEnd s d up) := by
  cases up
  · exact ⟨fun h => absurd h (by decide), fun _ => rfl⟩
  · refine ⟨fun _ => ?_, fun h => absurd h (by decide)⟩
    rw [markEnd, if_pos rfl]
    refine ⟨?_, ?_, State.flag_setFlag_same _ _ _ _ (by decide)⟩
    · rw [State.flag_setFlag_other _ _ _ _ _ (by decide) (by decide) (by decide),
        State.flag_setFlag_other _ _ _ _ _ (by decide) (by decide) (by decide), State.flag_setFlag_same _ _ _ _ (by decide)]
    · rw [State.flag_setFlag_other _ _ _ _ _ (by decide) (by decide) (by decide), State.flag_setFlag_same _ _ _ _ (by decide)]

theorem markQuiesced_ends (s : State) : EndMarked 0 s.fdieUp s s.markQuiesced ∧ EndMarked 1 s.tdieUp s s.markQuiesced := by
  have hFirst : RegsWithin (fun a => a == d2dStatus 0) s (markEnd s 0 s.fdieUp) := regsWithin_markEnd (.refl _ s) 0 _ (by decide)
  have hSecond : RegsWithin (fun a => a == d2dStatus 1) (markEnd s 0 s.fdieUp) (markEnd (markEnd s 0 s.fdieUp) 1 s.tdieUp) :=
    regsWithin_markEnd (.refl _ _) 1 _ (by decide)
  have hLink := regsWithin_markLink (markEnd (markEnd s 0 s.fdieUp) 1 s.tdieUp)
  rw [markQuiesced_eq]
  exact ⟨(markEnd_marked s 0 s.fdieUp).of_reg rfl ((hLink _ (by decide)).trans (hSecond _ (by decide))),
    (markEnd_marked _ 1 s.tdieUp).of_reg (hFirst _ (by decide)) (hLink _ (by decide))⟩

/-- The link shows quiesced, and stays down or up. -/
theorem markQuiesced_link (s : State) : s.markQuiesced.linkQuiesced = true ∧ s.markQuiesced.linkUsable = s.linkUsable ∧
    s.markQuiesced.flag Reg.TIME_STATUS Fld.TIME_STATUS_TDIE_DISCONT = true := by
  have hEnds : RegsWithin (fun a => a == d2dStatus 0 || a == d2dStatus 1) s (markEnd (markEnd s 0 s.fdieUp) 1 s.tdieUp) :=
    regsWithin_markEnd (regsWithin_markEnd (.refl _ s) 0 _ (by decide)) 1 _ (by decide)
  rw [markQuiesced_eq]
  refine ⟨?_, ?_, State.flag_setFlag_same _ _ _ _ (by decide)⟩
  · rw [State.linkQuiesced, markLink, State.flag_setFlag_ne _ _ _ _ _ _ (by decide), State.flag_setFlag_same _ _ _ _ (by decide)]
  · rw [State.linkUsable, markLink, State.flag_setFlag_ne _ _ _ _ _ _ (by decide),
      State.flag_setFlag_other _ _ _ _ _ (by decide) (by decide) (by decide), hEnds.flag (by decide), State.linkUsable]

/-! ### Losses -/

/-- Between two states only losses were entered, and what was lost let go of: the link's notes, the queue and the other registers stay. -/
structure LossesOnly (s t : State) : Prop where
  regs : RegsWithin (lossReg lcDieReset) s t
  die : t.die = s.die
  pending : t.pending = s.pending

namespace LossesOnly
variable {s t u : State}

theorem refl (s : State) : LossesOnly s s := ⟨.refl _ s, rfl, rfl⟩

theorem trans (h : LossesOnly s t) (k : LossesOnly t u) : LossesOnly s u :=
  ⟨h.regs.trans k.regs, k.die.trans h.die, k.pending.trans h.pending⟩

theorem of_eq (hRegs : t.regs = s.regs) (hDie : t.die = s.die) (hPending : t.pending = s.pending) : LossesOnly s t := ⟨.of_regs hRegs, hDie, hPending⟩

theorem loss (s : State) (ledger scope subject : Nat) (items units : Int) (b : Bool) :
    LossesOnly s (s.loss ledger lcDieReset scope items units subject b) :=
  ⟨.loss (.refl _ s) (fun _ ha => ha), by simp, by simp⟩

theorem foldl {β : Type*} {f : State → β → State} (l : List β) (hf : ∀ s, ∀ x ∈ l, LossesOnly s (f s x)) (s : State) : LossesOnly s (l.foldl f s) :=
  foldl_rel refl (fun _ _ _ => trans) l hf s

end LossesOnly

/-! ### Copies let go of -/

/-- Between two states only the traffic manager's memories differ. -/
def TmOnly (s t : State) : Prop := ∃ m, t = { s with tm := m }

theorem TmOnly.refl (s : State) : TmOnly s s := ⟨s.tm, rfl⟩

theorem TmOnly.trans {s t u : State} (h : TmOnly s t) (k : TmOnly t u) : TmOnly s u := by
  obtain ⟨m, rfl⟩ := h
  obtain ⟨m', rfl⟩ := k
  exact ⟨m', rfl⟩

theorem TmOnly.foldl {β : Type*} {f : State → β → State} (l : List β) (hf : ∀ s x, TmOnly s (f s x)) (s : State) : TmOnly s (l.foldl f s) :=
  foldl_rel TmOnly.refl (fun _ _ _ => TmOnly.trans) l (fun s x _ => hf s x) s

theorem tmOnly_freeBuf (s : State) (q i : Nat) : TmOnly s (s.freeBuf q i) := by
  simp only [State.freeBuf]
  split
  · exact ⟨_, rfl⟩
  · split
    · exact ⟨_, rfl⟩
    · exact ⟨_, rfl⟩

theorem tmOnly_setStored (s : State) (n : Nat) (x : Option SPkt) : TmOnly s (s.setStored n x) := ⟨_, rfl⟩

theorem tmOnly_checkStored (s : State) (n : Nat) : TmOnly s (s.checkStored n) := by
  simp only [State.checkStored]
  split
  · split
    · exact (tmOnly_setStored s n none).trans (.foldl _ (fun u i => tmOnly_freeBuf u _ i) _)
    · exact .refl s
  · exact .refl s

theorem tmOnly_unref (s : State) (n : Nat) : TmOnly s (s.unref n) := by
  simp only [State.unref]
  split
  · exact (tmOnly_setStored s n _).trans (tmOnly_checkStored _ n)
  · exact .refl s

/-- The pages of a copy go back to the pools; nothing else changes (R280, R285). -/
theorem tmOnly_releaseCopy (s : State) (c : Copy) : TmOnly s (s.releaseCopy c) := by
  simp only [State.releaseCopy]
  split
  · exact TmOnly.trans ⟨_, rfl⟩ (tmOnly_unref _ _)
  · exact .foldl _ (fun u p => ⟨_, rfl⟩) s

/-- The end of a copy's crossing lets its pages go; beside them only the copies of the egress side change. -/
theorem copyLinkCrossed_frame (s : State) (n : Nat) : ∃ m c, copyLinkCrossed n s = { s with tm := m, eg := { s.eg with copies := c } } := by
  simp only [copyLinkCrossed]
  split
  · exact ⟨s.tm, s.eg.copies, rfl⟩
  · split
    · exact ⟨s.tm, s.eg.copies, rfl⟩
    · obtain ⟨m, hm⟩ := tmOnly_releaseCopy { s with eg := { s.eg with copies := _ } } _
      exact ⟨m, _, hm⟩

theorem lossesOnly_copyLinkCrossed (s : State) (n : Nat) : LossesOnly s (copyLinkCrossed n s) := by
  obtain ⟨m, c, h⟩ := copyLinkCrossed_frame s n
  rw [h]
  exact .of_eq rfl rfl rfl

theorem lossesOnly_endEgCopy (s : State) (n m : Nat) (x y : EgCopy) : LossesOnly s ((s.unreserveRx n x).endEgCopy m y) :=
  .of_eq (by simp) (by simp) (by simp)

theorem lossesOnly_lossEgress (s : State) : LossesOnly s s.lossEgress := by
  simp only [State.lossEgress]
  refine .trans (.trans (.foldl _ (fun u q _ => ?_) s) (.foldl _ (fun u x _ => lossesOnly_endEgCopy u _ _ _ _) _))
    (.foldl _ (fun u n _ => lossesOnly_copyLinkCrossed u n) _)
  split
  · exact .refl u
  · exact .loss u _ _ _ _ _ _

theorem lossesOnly_setTransit (s : State) (i : Nat) (l : List TCopy) : LossesOnly s (s.setTransit i l) := .of_eq rfl rfl rfl

theorem lossesOnly_lossIngress (s : State) : LossesOnly s s.lossIngress := by
  simp only [State.lossIngress]
  refine .foldl _ (fun u i _ => ?_) s
  split
  · exact .refl u
  · exact (lossesOnly_setTransit u _ _).trans (.loss _ _ _ _ _ _ _)

theorem lossesOnly_setEgCopy (s : State) (n m : Nat) (x : EgCopy) (y : Option EgCopy) : LossesOnly s ((s.unreserveRx n x).setEgCopy m y) :=
  .of_eq (unreserveRx_regs s n x) (unreserveRx_die s n x) (unreserveRx_pending s n x)

theorem lossesOnly_lossCrossing (s : State) : LossesOnly s s.lossCrossing := by
  refine LossesOnly.foldl _ (fun u x _ => ?_) s
  obtain ⟨n, o⟩ := x
  dsimp only
  split
  · split
    · exact lossesOnly_setEgCopy u _ _ _ _
    · exact .refl u
  · exact .refl u

theorem lossesOnly_lossCredit (s : State) : LossesOnly s s.lossCredit :=
  .trans (t := s.draw.2) (.of_eq rfl rfl rfl) (.loss _ _ _ _ _ _ _)

/-- A new base for the equations changes Truing's memory alone (R452). -/
theorem rebaseAll_eq (s : State) : ∃ x, s.rebaseAll = { s with tru := x } := by
  refine foldl_rel (R := fun s t : State => ∃ x, t = { s with tru := x }) (fun s => ⟨s.tru, rfl⟩) ?_ _ (fun u x _ => ?_) s
  · rintro s t u ⟨x, rfl⟩ ⟨y, rfl⟩
    exact ⟨y, rfl⟩
  · obtain ⟨l, y⟩ := x
    dsimp only
    split
    · exact ⟨_, rfl⟩
    · exact ⟨u.tru, rfl⟩

theorem lossesOnly_rebaseAll (s : State) : LossesOnly s s.rebaseAll := by
  obtain ⟨x, hBase⟩ := rebaseAll_eq s
  rw [hBase]
  exact .of_eq rfl rfl rfl

/-! ### The command -/

/-- The instant of the loss is kept (R543). -/
def noteT0 (s : State) : State := { s with die := { s.die with t0 := some s.mono } }

/-- The copies lost with the Forwarding die. -/
def loseCopies (s : State) : State := if s.die.lostF then s.lossEgress else s

/-- The packets lost with the Traffic die. -/
def losePackets (s : State) : State := if s.die.lostT then s.lossIngress.lossCrossing else s

theorem linkQuiesce_eq (s : State) (hDown : s.linkUsable = false) (hQuiet : s.linkQuiesced = false) (hLost : s.die.lostF = true ∨ s.die.lostT = true) :
    linkQuiesce s = (losePackets (loseCopies (noteT0 s).markQuiesced)).lossCredit.rebaseAll := by
  have hGuard : ¬ (s.linkUsable = true ∨ s.linkQuiesced = true ∨ (!(s.die.lostF || s.die.lostT)) = true) := by
    rcases hLost with h | h <;> simp [hDown, hQuiet, h]
  rw [linkQuiesce, if_neg hGuard]
  extract_lets _ s1 s2 s3
  have hMarked : (noteT0 s).markQuiesced = s1 := rfl
  have hCopies : loseCopies s1 = s2 := rfl
  have hPackets : losePackets s2 = s3 := rfl
  rw [hMarked, hCopies, hPackets]

theorem lossesOnly_losses (s : State) : LossesOnly s ((losePackets (loseCopies s)).lossCredit.rebaseAll) := by
  have hCopies : LossesOnly s (loseCopies s) := by
    unfold loseCopies
    split
    · exact lossesOnly_lossEgress s
    · exact .refl s
  have hPackets : LossesOnly (loseCopies s) (losePackets (loseCopies s)) := by
    unfold losePackets
    split
    · exact (lossesOnly_lossIngress _).trans (lossesOnly_lossCrossing _)
    · exact .refl _
  exact ((hCopies.trans hPackets).trans (lossesOnly_lossCredit _)).trans (lossesOnly_rebaseAll _)

end Sys2Proof.Machine.DeviceOrganisation
end

section
/-! PROOF. LINK_QUIESCE: the amounts that leave the totals of the loss ledger (R456, R543). -/

namespace Sys2Proof.Machine.DeviceOrganisation

/-! ### Folds with one effective step -/

/-- A fold in which only one key has an effect is one step. -/
theorem foldl_eq_step {σ : Type*} {P : σ → Prop} {f : σ → Nat → σ} (k : Nat) (hKeep : ∀ s, P s → P (f s k)) (l : List Nat)
    (hOther : ∀ s, P s → ∀ q ∈ l, q ≠ k → f s q = s) (hn : l.Nodup) (hk : k ∈ l) (s : σ) (hs : P s) : l.foldl f s = f s k := by
  have hRest : ∀ (m : List Nat), (∀ q ∈ m, q ∈ l ∧ q ≠ k) → ∀ u, P u → m.foldl f u = u := by
    intro m
    induction m with
    | nil => exact fun _ _ _ => rfl
    | cons q m ih =>
      intro hm u hu
      obtain ⟨hq, hne⟩ := hm q (by simp)
      rw [List.foldl_cons, hOther u hu q hq hne]
      exact ih (fun x hx => hm x (by simp [hx])) u hu
  obtain ⟨a, b, rfl⟩ := List.append_of_mem hk
  simp only [List.nodup_append, List.nodup_cons, List.mem_cons] at hn
  obtain ⟨-, ⟨hb, -⟩, hab⟩ := hn
  rw [List.foldl_append, hRest a (fun q hq => ⟨by simp [hq], hab q hq k (.inl rfl)⟩) s hs, List.foldl_cons]
  refine hRest b (fun q hq => ⟨by simp [hq], ?_⟩) _ (hKeep s hs)
  rintro rfl
  exact hb hq

/-! ### Tables with one entry -/

theorem set_empty {α : Type} [DecidableEq α] {d v : α} (k : Nat) (h : v ≠ d) : KMap.set d .empty k v = ⟨[(k, v)]⟩ := by
  simp [KMap.set, KMap.empty, lins, h]

theorem set_single_default {α : Type} [DecidableEq α] (d v : α) (k : Nat) : KMap.set d ⟨[(k, v)]⟩ k d = .empty := by
  simp [KMap.set, KMap.empty, ldel]

theorem set_single {α : Type} [DecidableEq α] {d v w : α} (k : Nat) (h : w ≠ d) : KMap.set d ⟨[(k, v)]⟩ k w = ⟨[(k, w)]⟩ := by
  simp [KMap.set, lins, h]

/-! ### Nothing lost -/

theorem lossEgress_empty (s : State) (h : s.eg.copies = .empty) : s.lossEgress = s := by
  simp [State.lossEgress, h, KMap.empty, KMap.keys]

theorem lossCrossing_empty (s : State) (h : s.eg.copies = .empty) : s.lossCrossing = s := by
  simp [State.lossCrossing, h, KMap.empty]

theorem lossIngress_empty (s : State) (h : s.ing.transit = .empty) : s.lossIngress = s :=
  List.foldl_fixed' (fun i => by simp [State.transitOf, h]) _

/-! ### One copy with the Forwarding die -/

theorem copyLinkCrossed_done (s : State) (n : Nat) (x : EgCopy) (h : s.eg.copies = ⟨[(n, some x)]⟩) (hDone : x.stage = .done)
    (hCross : x.crossed = false) : TmOnly { s with eg := { s.eg with copies := .empty } } (copyLinkCrossed n s) := by
  have hGet : KMap.get none s.eg.copies n = some x := by simp [h, KMap.get, lfind]
  simp only [copyLinkCrossed, hGet, hCross, hDone, Bool.false_eq_true, if_false, if_true]
  rw [h, set_single_default]
  exact tmOnly_releaseCopy _ _

/-- The copies that the egress side holds and has not ended. -/
def liveCopies (s : State) : List (Nat × EgCopy) :=
  s.eg.copies.l.filterMap (fun (n, o) => match o with
    | some x => if x.stage != .done then some (n, x) else none
    | none => none)

/-- The loss of the copies of one quad is entered. -/
def loseQuad (live : List (Nat × EgCopy)) (s : State) (q : Nat) : State :=
  let l := live.filter (fun e => e.2.copy.queue / 131072 == q)
  if l.isEmpty then s
  else s.loss ldEgress lcDieReset q (-(l.length : Int)) (-((l.map (fun e => e.2.copy.data.length)).sum : Int)) 0 true

/-- The copies end, and what they reserved goes back. -/
def endCopies (live : List (Nat × EgCopy)) (s : State) : State := live.foldl (fun s (n, x) => (s.unreserveRx n x).endEgCopy n x) s

/-- No copy crosses the link any more. -/
def endCrossings (s : State) : State := s.eg.copies.keys.foldl (fun s n => copyLinkCrossed n s) s

theorem lossEgress_eq (s : State) : s.lossEgress = endCrossings (endCopies (liveCopies s) ((List.range 4).foldl (loseQuad (liveCopies s)) s)) := by rfl

theorem liveCopies_single {s : State} {n : Nat} {x : EgCopy} (h : s.eg.copies = ⟨[(n, some x)]⟩) (hStage : x.stage ≠ .done) :
    liveCopies s = [(n, x)] := by
  simp [liveCopies, h, hStage]

theorem loseQuad_single (s : State) (n q : Nat) (x : EgCopy) :
    loseQuad [(n, x)] s q = if x.copy.queue / 131072 = q
      then s.loss ldEgress lcDieReset q (-((1 : Nat) : Int)) (-(x.copy.data.length : Int)) 0 true else s := by
  unfold loseQuad
  by_cases hq : x.copy.queue / 131072 = q <;> simp [hq]

/-- Of one copy one loss is entered, in its quad. -/
theorem loseQuads_single (s : State) (n : Nat) (x : EgCopy) (hQueue : x.copy.queue < 524288) :
    (List.range 4).foldl (loseQuad [(n, x)]) s =
      s.loss ldEgress lcDieReset (x.copy.queue / 131072) (-((1 : Nat) : Int)) (-(x.copy.data.length : Int)) 0 true := by
  rw [foldl_eq_step (P := fun _ => True) (x.copy.queue / 131072) (fun _ _ => trivial) (List.range 4) (fun u _ q _ hq => ?_) List.nodup_range
    (List.mem_range.2 (by omega)) s trivial, loseQuad_single, if_pos rfl]
  rw [loseQuad_single, if_neg (Ne.symm hq)]

/-- A copy that ends is no longer listed once it has crossed. -/
theorem endCrossings_single (s : State) (n : Nat) (x : EgCopy) (h : s.eg.copies = ⟨[(n, some x)]⟩) :
    (endCrossings ((s.unreserveRx n x).endEgCopy n x)).regs = s.regs ∧ (endCrossings ((s.unreserveRx n x).endEgCopy n x)).eg.copies = .empty ∧
    (endCrossings ((s.unreserveRx n x).endEgCopy n x)).ing = s.ing := by
  have hEnded : ((s.unreserveRx n x).endEgCopy n x).eg.copies =
      KMap.set none ⟨[(n, some x)]⟩ n (if x.crossed then none else some { x with
        stage := .done
        frame := [] }) := by
    rw [← h, ← unreserveRx_eg s n x]
    rfl
  cases hCross : x.crossed
  · rw [hCross, if_neg Bool.false_ne_true, set_single _ (Option.some_ne_none _)] at hEnded
    obtain ⟨m, hm⟩ := copyLinkCrossed_done _ n _ hEnded rfl rfl
    have hOne : endCrossings ((s.unreserveRx n x).endEgCopy n x) = copyLinkCrossed n ((s.unreserveRx n x).endEgCopy n x) := by
      simp [endCrossings, hEnded, KMap.keys]
    rw [hOne, hm]
    exact ⟨by simp, rfl, by simp⟩
  · rw [hCross, if_pos rfl, set_single_default] at hEnded
    have hNone : endCrossings ((s.unreserveRx n x).endEgCopy n x) = (s.unreserveRx n x).endEgCopy n x := by
      simp [endCrossings, hEnded, KMap.keys, KMap.empty]
    rw [hNone]
    exact ⟨by simp, hEnded, by simp⟩

/-- The only copy is lost: its bytes leave the units, and no copy is left (R456). -/
theorem lossEgress_single (s : State) (n : Nat) (x : EgCopy) (h : s.eg.copies = ⟨[(n, some x)]⟩) (hStage : x.stage ≠ .done)
    (hQueue : x.copy.queue < 524288) :
    Took (Reg.TRU_LOSS_UNITS_LO lcDieReset) x.copy.data.length s s.lossEgress ∧ s.lossEgress.eg.copies = .empty ∧ s.lossEgress.ing = s.ing := by
  have hLoss : s.lossEgress = endCrossings (endCopies [(n, x)]
      (s.loss ldEgress lcDieReset (x.copy.queue / 131072) (-((1 : Nat) : Int)) (-(x.copy.data.length : Int)) 0 true)) := by
    rw [lossEgress_eq, liveCopies_single h hStage, loseQuads_single s n x hQueue]
  obtain ⟨hRegs, hCopies, hIng⟩ := endCrossings_single
    (s.loss ldEgress lcDieReset (x.copy.queue / 131072) (-((1 : Nat) : Int)) (-(x.copy.data.length : Int)) 0 true) n x (by simpa using h)
  have hTook := (loss_took s ldEgress (x.copy.queue / 131072) 0 1 x.copy.data.length true).2
  rw [hLoss]
  refine ⟨?_, hCopies, hIng.trans (by simp)⟩
  exact hTook.of_regs hRegs

/-! ### One packet with the Traffic die -/

/-- The loss of the packets partly taken from one slice is entered. -/
def loseSlice (s : State) (i : Nat) : State :=
  let l := (s.transitOf i).filter (fun c => c.prog.isSome)
  if l.isEmpty then s
  else
    (s.setTransit i ((s.transitOf i).filter (fun c => c.prog.isNone))).loss ldIngress lcDieReset i (-(l.length : Int))
      (-((l.map (fun c => c.data.length)).sum : Int)) 0 true

theorem lossIngress_eq (s : State) : s.lossIngress = (List.range 16).foldl loseSlice s := by rfl

theorem loseSlice_none (s : State) (i : Nat) (h : s.transitOf i = []) : loseSlice s i = s := by simp [loseSlice, h]

theorem transitOf_setTransit (s : State) (i j : Nat) (l : List TCopy) : (s.setTransit i l).transitOf j = if j = i then l else s.transitOf j := by
  exact KMap.get_set _ _ _ _ _

theorem loseSlice_transit (s : State) (i j : Nat) (hj : j ≠ i) : (loseSlice s i).transitOf j = s.transitOf j := by
  simp only [loseSlice]
  split
  · rfl
  · rw [State.transitOf, State.loss_ing, ← State.transitOf, transitOf_setTransit, if_neg hj]

/-- The only packet partly taken is lost: its bytes leave the units, and none is left (R456). -/
theorem lossIngress_single (s : State) (i : Nat) (c : TCopy) (hi : i < 16) (h : s.ing.transit = ⟨[(i, [c])]⟩) (hPart : c.prog.isSome = true) :
    Took (Reg.TRU_LOSS_UNITS_LO lcDieReset) c.data.length s s.lossIngress ∧ s.lossIngress.ing.transit = .empty ∧ s.lossIngress.eg = s.eg := by
  have hTransit (j : Nat) : s.transitOf j = if i = j then [c] else [] := by
    simp only [State.transitOf, h, KMap.get, lfind]
    split <;> rfl
  have hFold : s.lossIngress = loseSlice s i := by
    rw [lossIngress_eq]
    refine foldl_eq_step (P := fun u => ∀ j, j ≠ i → u.transitOf j = []) i (fun u hu j hj => ?_) (List.range 16)
      (fun u hu q _ hq => loseSlice_none u q (hu q hq)) List.nodup_range (List.mem_range.2 hi) s (fun j hj => ?_)
    · rw [loseSlice_transit u i j hj, hu j hj]
    · rw [hTransit, if_neg (Ne.symm hj)]
  have hSlice : loseSlice s i = (s.setTransit i []).loss ldIngress lcDieReset i (-((1 : Nat) : Int)) (-(c.data.length : Int)) 0 true := by
    have hWhole : c.prog.isNone = false := by
      rw [← Option.not_isSome, hPart]
      rfl
    simp [loseSlice, hTransit, hPart, hWhole]
  rw [hFold, hSlice]
  refine ⟨(loss_took (s.setTransit i []) ldIngress i 0 1 c.data.length true).2.of_before rfl, ?_, ?_⟩
  · rw [State.loss_ing, State.setTransit, h, set_single_default]
  · rw [State.loss_eg]
    rfl

end Sys2Proof.Machine.DeviceOrganisation
end

section
/-! PROOF. O55: LINK_QUIESCE's statement, and the statement put together. -/

namespace Sys2Proof.Machine.DeviceOrganisation

/-! ### The credits lost, and the totals over the whole command -/

/-- The credits lost leave the items, by an amount that is free; the units stay (R456). -/
theorem lossCredit_took (s : State) : (∃ d, d < 2 ^ 32 ∧ Took (Reg.TRU_LOSS_ITEMS_LO lcDieReset) d s s.lossCredit) ∧
    Took (Reg.TRU_LOSS_UNITS_LO lcDieReset) 0 s s.lossCredit := by
  obtain ⟨hItems, hUnits⟩ := loss_took s.draw.2 ldCredit 0 0 (s.draw.1 % 2 ^ 32) 0 true
  exact ⟨⟨_, Nat.mod_lt _ (by decide), hItems.of_before rfl⟩, hUnits.of_before rfl⟩

theorem Took.then_zero {lo n : Nat} {s t u : State} (h : Took lo n s t) (k : Took lo 0 t u) : Took lo n s u := by
  rw [Took, k.zero]
  exact h

theorem rebaseAll_regs (s : State) : s.rebaseAll.regs = s.regs := by
  obtain ⟨x, h⟩ := rebaseAll_eq s
  rw [h]

theorem rebaseAll_eg (s : State) : s.rebaseAll.eg = s.eg := by
  obtain ⟨x, h⟩ := rebaseAll_eq s
  rw [h]

theorem rebaseAll_ing (s : State) : s.rebaseAll.ing = s.ing := by
  obtain ⟨x, h⟩ := rebaseAll_eq s
  rw [h]

theorem lossCredit_eg (s : State) : s.lossCredit.eg = s.eg := State.loss_eg _ _ _ _ _ _ _ _

theorem lossCredit_ing (s : State) : s.lossCredit.ing = s.ing := State.loss_ing _ _ _ _ _ _ _ _

/-- The units lost before the credits are those lost over the whole command. -/
theorem units_took {n : Nat} {s t : State} (h : Took (Reg.TRU_LOSS_UNITS_LO lcDieReset) n s t) :
    Took (Reg.TRU_LOSS_UNITS_LO lcDieReset) n s t.lossCredit.rebaseAll :=
  (h.then_zero (lossCredit_took t).2).of_regs (rebaseAll_regs _)

theorem loseCopies_empty (s : State) (h : s.eg.copies = .empty) : loseCopies s = s := by
  rw [loseCopies, lossEgress_empty s h, ite_self]

theorem losePackets_empty (s : State) (hCopies : s.eg.copies = .empty) (hTransit : s.ing.transit = .empty) : losePackets s = s := by
  rw [losePackets, lossIngress_empty s hTransit, lossCrossing_empty s hCopies, ite_self]

/-- The device once the link is marked quiesced, before losses. -/
def quiesced (s : State) : State := (noteT0 s).markQuiesced

/-- The marks leave what the losses are counted from. -/
theorem quiesced_kept (s : State) : (quiesced s).eg = s.eg ∧ (quiesced s).ing = s.ing ∧ (quiesced s).die = { s.die with t0 := some s.mono } ∧
    (quiesced s).pending = s.pending := by
  have h := reported_markQuiesced (noteT0 s)
  exact ⟨h.eg, h.ing, h.die, h.pending⟩

theorem reg_noteT0 (s : State) (a : Nat) : (noteT0 s).reg a = s.reg a := reg_withDie s _ a

theorem quiesced_totals (s : State) : (quiesced s).reg64 (Reg.TRU_LOSS_ITEMS_LO lcDieReset) = s.reg64 (Reg.TRU_LOSS_ITEMS_LO lcDieReset) ∧
    (quiesced s).reg64 (Reg.TRU_LOSS_UNITS_LO lcDieReset) = s.reg64 (Reg.TRU_LOSS_UNITS_LO lcDieReset) := by
  have hSame : RegsWithin markReg s (quiesced s) := fun a ha => (regsWithin_markQuiesced (noteT0 s) a ha).trans (reg_noteT0 s a)
  exact ⟨hSame.reg64 (by decide) (by decide), hSame.reg64 (by decide) (by decide)⟩

/-- The end of LINK_QUIESCE: the losses after the marks. -/
def quiesceLosses (s : State) : State := (losePackets (loseCopies (quiesced s))).lossCredit.rebaseAll

/-- With no copy and no packet under way only the credits are lost. -/
theorem quiesceLosses_empty (s : State) (hCopies : s.eg.copies = .empty) (hTransit : s.ing.transit = .empty) :
    (quiesceLosses s).reg64 (Reg.TRU_LOSS_UNITS_LO lcDieReset) = s.reg64 (Reg.TRU_LOSS_UNITS_LO lcDieReset) ∧
    ∃ d, d < 2 ^ 32 ∧ ((quiesceLosses s).reg64 (Reg.TRU_LOSS_ITEMS_LO lcDieReset) + d) % 2 ^ 64 = s.reg64 (Reg.TRU_LOSS_ITEMS_LO lcDieReset) := by
  obtain ⟨hEg, hIng, -, -⟩ := quiesced_kept s
  obtain ⟨hItems, hUnits⟩ := quiesced_totals s
  rw [← hEg] at hCopies
  rw [← hIng] at hTransit
  obtain ⟨⟨d, hd, hCredit⟩, hNone⟩ := lossCredit_took (quiesced s)
  rw [quiesceLosses, loseCopies_empty _ hCopies, losePackets_empty _ hCopies hTransit, ← hItems, ← hUnits]
  exact ⟨(hNone.of_regs (rebaseAll_regs _)).zero, d, hd, hCredit.of_regs (rebaseAll_regs _)⟩

/-- A copy that the Forwarding die had not committed is lost with its bytes. -/
theorem quiesceLosses_copy (s : State) (n : Nat) (x : EgCopy) (hLost : s.die.lostF = true) (hCopies : s.eg.copies = KMap.set none .empty n (some x))
    (hStage : x.stage ≠ .done) (hQueue : x.copy.queue < 524288) (hTransit : s.ing.transit = .empty) :
    ((quiesceLosses s).reg64 (Reg.TRU_LOSS_UNITS_LO lcDieReset) + x.copy.data.length) % 2 ^ 64 = s.reg64 (Reg.TRU_LOSS_UNITS_LO lcDieReset) ∧
    (quiesceLosses s).eg.copies = .empty := by
  obtain ⟨hEg, hIng, hDie, -⟩ := quiesced_kept s
  have hSingle : (quiesced s).eg.copies = ⟨[(n, some x)]⟩ := by rw [hEg, hCopies, set_empty n (Option.some_ne_none x)]
  obtain ⟨hTook, hGone, hKept⟩ := lossEgress_single (quiesced s) n x hSingle hStage hQueue
  have hLose : loseCopies (quiesced s) = (quiesced s).lossEgress := by rw [loseCopies, hDie, if_pos hLost]
  rw [quiesceLosses, hLose, losePackets_empty _ hGone (by rw [hKept, hIng, hTransit]), ← (quiesced_totals s).2]
  exact ⟨units_took hTook, by rw [rebaseAll_eg, lossCredit_eg, hGone]⟩

/-- A packet that the Traffic die had partly taken is lost with its bytes. -/
theorem quiesceLosses_packet (s : State) (i : Fin 16) (c : TCopy) (hLost : s.die.lostT = true)
    (hTransit : s.ing.transit = KMap.set [] .empty i.val [c]) (hPart : c.prog.isSome = true) (hCopies : s.eg.copies = .empty) :
    ((quiesceLosses s).reg64 (Reg.TRU_LOSS_UNITS_LO lcDieReset) + c.data.length) % 2 ^ 64 = s.reg64 (Reg.TRU_LOSS_UNITS_LO lcDieReset) ∧
    (quiesceLosses s).ing.transit = .empty := by
  obtain ⟨hEg, hIng, hDie, -⟩ := quiesced_kept s
  have hSingle : (quiesced s).ing.transit = ⟨[(i.val, [c])]⟩ := by rw [hIng, hTransit, set_empty i.val (by simp)]
  obtain ⟨hTook, hGone, hKept⟩ := lossIngress_single (quiesced s) i.val c i.isLt hSingle hPart
  have hLose : losePackets (loseCopies (quiesced s)) = (quiesced s).lossIngress := by
    rw [loseCopies_empty _ (by rw [hEg, hCopies]), losePackets, hDie, if_pos hLost, lossCrossing_empty _ (by rw [hKept, hEg, hCopies])]
  rw [quiesceLosses, hLose, ← (quiesced_totals s).2]
  exact ⟨units_took hTook, by rw [rebaseAll_ing, lossCredit_ing, hGone]⟩

/-- The marks that stand when LINK_QUIESCE is complete (R37, R543). -/
theorem quiesceLosses_marks (s : State) : (quiesceLosses s).linkQuiesced = true ∧ (quiesceLosses s).linkUsable = s.linkUsable ∧
    (quiesceLosses s).die = { s.die with t0 := some s.mono } ∧ (quiesceLosses s).pending = s.pending ∧
    (quiesceLosses s).flag Reg.TIME_STATUS Fld.TIME_STATUS_TDIE_DISCONT = true ∧ EndMarked 0 s.fdieUp s (quiesceLosses s) ∧
    EndMarked 1 s.tdieUp s (quiesceLosses s) := by
  have hLoss : LossesOnly (quiesced s) (quiesceLosses s) := lossesOnly_losses (quiesced s)
  have hFlag (f : Fld) : (noteT0 s).flag Reg.DEV_DIE_STATUS f = s.flag Reg.DEV_DIE_STATUS f := by
    rw [State.flag, State.fld, reg_noteT0, ← State.fld, ← State.flag]
  obtain ⟨hQuiet, hLink, hTime⟩ := markQuiesced_link (noteT0 s)
  obtain ⟨hFirst, hSecond⟩ := markQuiesced_ends (noteT0 s)
  obtain ⟨-, -, hDie, hPending⟩ := quiesced_kept s
  rw [State.fdieUp, hFlag, ← State.fdieUp] at hFirst
  rw [State.tdieUp, hFlag, ← State.tdieUp] at hSecond
  refine ⟨?_, ?_, hLoss.die.trans hDie, hLoss.pending.trans hPending, (hLoss.regs.flag (by decide) _).trans hTime,
    hFirst.of_reg (reg_noteT0 s _) (hLoss.regs _ (by decide)), hSecond.of_reg (reg_noteT0 s _) (hLoss.regs _ (by decide))⟩
  · rw [State.linkQuiesced, hLoss.regs.flag (by decide)]
    exact hQuiet
  · rw [State.linkUsable, hLoss.regs.flag (by decide)]
    exact hLink.trans (hFlag _)

/-! ### The clauses of the statement -/

/-- A flit that fails, not for the eighth time in a row (R36). -/
theorem retry_completes (s : State) (d : Die) (b : Bool) : s.linkUsable = true →
    (b = true → (match d with | .fwd => s.die.crcF | .trf => s.die.crcT) < 7) →
    Completes (.d2dFlitRetry d b) s fun t =>
      t.die = (match d with
        | .fwd => { s.die with crcF := (if b then s.die.crcF else 0) + 1 }
        | .trf => { s.die with crcT := (if b then s.die.crcT else 0) + 1 }) ∧
      t.linkUsable = true ∧ Counted (Ctr.D2D_RETRY (dieNo d)) 1 s t ∧ (t.fld Reg.HIF_IERR_STATUS Fld.HIF_IERR_STATUS_SRC).testBit 0 = true ∧
      t.reg Reg.DEV_DIE_STATUS = s.reg Reg.DEV_DIE_STATUS ∧ t.reg (Reg.D2D_STATUS 1) = s.reg (Reg.D2D_STATUS 1) ∧
      t.reg (Reg.D2D_STATUS 2) = s.reg (Reg.D2D_STATUS 2) := by
  intro h hFew
  have hBelow : ¬ 8 ≤ failures s d b := by
    cases b
    · simp [failures]
    · exact Nat.not_le.2 (Nat.succ_lt_succ (hFew rfl))
  have hWithin := regsWithin_countRetry s d b
  obtain ⟨hStatus, hFirst, hSecond, -⟩ := retryReg_eq_false d
  obtain ⟨hCount, hError⟩ := countRetry_counted s d b
  refine completes_of_answer (t := countRetry s d b) ?_ (countRetry_pending s d b)
    ⟨?_, ?_, hCount, hError, hWithin _ hStatus, hWithin _ hFirst, hWithin _ hSecond⟩
  · change answer s (d2dFlitRetry d b s) = _
    rw [d2dFlitRetry_eq s d b h, if_neg hBelow]
  · rw [countRetry_die]
    cases d <;> rfl
  · rw [State.linkUsable, hWithin.flag hStatus]
    exact h

/-- What a failure of the link shows, whatever led to it (R37). -/
def FailureShown (s t : State) : Prop :=
  t.linkUsable = false ∧ t.fld Reg.DEV_DIE_STATUS Fld.DEV_DIE_STATUS_LAST_CAUSE = 3 ∧ t.fdieUp = s.fdieUp ∧ t.tdieUp = s.tdieUp ∧
    t.linkQuiesced = s.linkQuiesced ∧ t.die = { s.die with
      crcF := 0
      crcT := 0
      lostF := true
      lostT := true } ∧
    (∀ i : Fin 2, Counted (Ctr.D2D_FAIL (i.val + 1)) 1 s t ∧ t.flag (Reg.D2D_STATUS (i.val + 1)) Fld.D2D_STATUS_UP = false) ∧
    (t.fld Reg.HIF_IERR_STATUS Fld.HIF_IERR_STATUS_SRC).testBit 1 = true

theorem failureShown_failure (s : State) (h : s.linkUsable = true) : FailureShown s (d2dLinkFailure s) ∧ (d2dLinkFailure s).pending = s.pending := by
  obtain ⟨hLink, hCause, hF, hT, hQuiet, hDie, hEnds, hError, hPending⟩ := d2dLinkFailure_shows s h
  exact ⟨⟨hLink, hCause, hF, hT, hQuiet, hDie, hEnds, hError⟩, hPending⟩

/-- The failure that an eighth retry leads to is that of the state before it. -/
theorem failureShown_retry (s : State) (d : Die) (h : s.linkUsable = true) (hMany : 8 ≤ failures s d true) :
    FailureShown s (d2dFlitRetry d true s) ∧ (d2dFlitRetry d true s).pending = s.pending := by
  have hWithin := regsWithin_countRetry s d true
  obtain ⟨hStatus, -, -, hCounters⟩ := retryReg_eq_false d
  have hFlag (f : Fld) : (countRetry s d true).flag Reg.DEV_DIE_STATUS f = s.flag Reg.DEV_DIE_STATUS f := hWithin.flag hStatus f
  obtain ⟨⟨hLink, hCause, hF, hT, hQuiet, hDie, hEnds, hError⟩, hPending⟩ := failureShown_failure (countRetry s d true) ((hFlag _).trans h)
  rw [d2dFlitRetry_eq s d true h, if_pos hMany]
  refine ⟨⟨hLink, hCause, hF.trans (congrArg not (hFlag _)), hT.trans (congrArg not (hFlag _)), hQuiet.trans (hFlag _), ?_,
    fun i => ⟨?_, (hEnds i).2⟩, hError⟩, hPending.trans (countRetry_pending s d true)⟩
  · rw [hDie, countRetry_die]
    cases d <;> rfl
  · obtain ⟨hLow, hHigh⟩ := hCounters i
    exact Counted.of_reg64 (hEnds i).1 (hWithin.reg64 hLow hHigh)

theorem failure_completes (s : State) (c : Instr) (h : s.linkUsable = true)
    (hc : c = .d2dLinkFailure ∨ (c = .d2dFlitRetry .fwd true ∧ 7 ≤ s.die.crcF) ∨ (c = .d2dFlitRetry .trf true ∧ 7 ≤ s.die.crcT)) :
    Completes c s (FailureShown s) := by
  rcases hc with rfl | ⟨rfl, hMany⟩ | ⟨rfl, hMany⟩
  · obtain ⟨hShown, hPending⟩ := failureShown_failure s h
    exact completes_of_answer rfl hPending hShown
  · obtain ⟨hShown, hPending⟩ := failureShown_retry s .fwd h (Nat.succ_le_succ hMany)
    exact completes_of_answer rfl hPending hShown
  · obtain ⟨hShown, hPending⟩ := failureShown_retry s .trf h (Nat.succ_le_succ hMany)
    exact completes_of_answer rfl hPending hShown

/-- The die reset commands of another function are refused and counted (R542). -/
theorem viewRefused_completes (s : State) (f : Fin 1024) (d : Die) (hf : f ≠ 0) (c : Instr)
    (hc : c ∈ [Instr.fdieResetHold (.func f), .tdieResetHold (.func f), .dieResetRelease (.func f) d]) :
    Completes c s fun t => Counted (Ctr.HIF_VIEW_REFUSED (f.val / 256)) 1 s t ∧ RegsBut (Ctr.HIF_VIEW_REFUSED (f.val / 256)).regs s t ∧
      { t with regs := s.regs, pmcIn := s.pmcIn } = s := by
  have hExec : exec c s = answer s (s.bump (Ctr.HIF_VIEW_REFUSED (f.val / 256)) 1) := by
    simp only [List.mem_cons, List.not_mem_nil, or_false] at hc
    rcases hc with rfl | rfl | rfl
    all_goals exact congrArg (answer s) (dieResetWrite_func s f _ hf)
  exact completes_of_answer hExec (State.bump_pending _ _ _) (viewRefused_shows s _ (by omega))

theorem dieRefused_completes {s : State} {c : Instr} (h : exec c s = answer s s.dieRefused) : Completes c s fun t =>
    t.flag Reg.DEV_DIE_STATUS Fld.DEV_DIE_STATUS_REFUSED = true ∧ t.fdieUp = s.fdieUp ∧ t.tdieUp = s.tdieUp ∧ t.linkUsable = s.linkUsable ∧
      OnlyRegs [Reg.DEV_DIE_STATUS] s t := by
  obtain ⟨hFlag, hF, hT, hLink, hOnly⟩ := dieRefused_shows s
  exact completes_of_answer h (congrArg State.pending hOnly.1 :) ⟨hFlag, hF, hT, hLink, hOnly⟩

/-- An order to hold the Forwarding die that is refused (R542). -/
theorem fdieHold_refused (s : State) (h : s.flag Reg.DEV_DIE_RESET Fld.DEV_DIE_RESET_TDIE = true ∨ (s.fdieUp = true ∧ s.tdieUp = false)) :
    exec (.fdieResetHold (.func 0)) s = answer s s.dieRefused := by
  rcases h with h | ⟨hF, hT⟩
  · rw [fdieHold_eq s (.inr h), if_pos (.inl h)]
  · rw [fdieHold_eq s (.inl hF), if_pos (.inr hT)]

theorem tdieHold_refused (s : State) (h : s.flag Reg.DEV_DIE_RESET Fld.DEV_DIE_RESET_FDIE = true ∨ (s.tdieUp = true ∧ s.fdieUp = false)) :
    exec (.tdieResetHold (.func 0)) s = answer s s.dieRefused := by
  rcases h with h | ⟨hT, hF⟩
  · rw [tdieHold_eq s (.inr h), if_pos (.inl h)]
  · rw [tdieHold_eq s (.inl hT), if_pos (.inr hF)]

/-- The bits of DEV_DIE_RESET in a word that is known. -/
theorem resetFlag_of_word {s : State} {w : Word} (h : s.reg Reg.DEV_DIE_RESET = w) (f : Fld) : s.flag Reg.DEV_DIE_RESET f = (f.get w == 1) := by
  rw [State.flag, State.fld, h]

/-- A release of a die that runs does nothing (R542). -/
theorem dieRelease_running (s : State) (hWord : s.reg Reg.DEV_DIE_RESET = 0) (hF : s.fdieUp = true) (hT : s.tdieUp = true) (d : Die) :
    exec (.dieResetRelease (.func 0) d) s = .next s := by
  cases d
  · rw [fdieRelease_eq s (resetFlag_of_word hWord _) hT, if_pos hF, answer_self]
  · rw [tdieRelease_eq s (resetFlag_of_word hWord _) hF, if_pos hT, answer_self]

/-- What the release of a held die shows: both dies run, the link is as it was, and nothing else changes. -/
def Released (s t : State) : Prop :=
  t.fdieUp = true ∧ t.tdieUp = true ∧ t.reg Reg.DEV_DIE_RESET = 0 ∧ t.linkUsable = s.linkUsable ∧ t.die = { s.die with retrainAt := some s.mono } ∧
    RegsBut [Reg.DEV_DIE_RESET, Reg.DEV_DIE_STATUS] s t ∧ { t with regs := s.regs, die := s.die } = s

theorem freeDie_completes {s : State} {d : Die} {c : Instr} (hc : exec c s = answer s (s.freeDie d)) (hF : (markDie s d false).fdieUp = true)
    (hT : (markDie s d false).tdieUp = true) (hWord : (resetFld d).put (s.reg Reg.DEV_DIE_RESET) 0 = 0) :
    Completes c s (Released s) := by
  obtain ⟨hFreeF, hFreeT, hLink, hReset, hRegs⟩ := freeDie_status s d
  obtain ⟨hDie, hFrame⟩ := freeDie_frame s d
  exact completes_of_answer hc (congrArg State.pending hFrame :)
    ⟨hFreeF.trans hF, hFreeT.trans hT, hReset.trans hWord, hLink, hDie, hRegs, hFrame⟩

theorem fdieRelease_completes (s : State) (hWord : s.reg Reg.DEV_DIE_RESET = 1) (hF : s.fdieUp = false) (hT : s.tdieUp = true) :
    Completes (.dieResetRelease (.func 0) .fwd) s (Released s) := by
  obtain ⟨hMarkF, hMarkT, -⟩ := markDie_status s false
  refine freeDie_completes ?_ hMarkF (hMarkT.trans hT) (by rw [hWord]; decide)
  rw [fdieRelease_eq s (resetFlag_of_word hWord _) hT, if_neg (by simp [hF])]

theorem tdieRelease_completes (s : State) (hWord : s.reg Reg.DEV_DIE_RESET = 2) (hF : s.fdieUp = true) (hT : s.tdieUp = false) :
    Completes (.dieResetRelease (.func 0) .trf) s (Released s) := by
  obtain ⟨-, -, hMarkT, hMarkF, -⟩ := markDie_status s false
  refine freeDie_completes ?_ (hMarkF.trans hF) hMarkT (by rw [hWord]; decide)
  rw [tdieRelease_eq s (resetFlag_of_word hWord _) hF, if_neg (by simp [hT])]

/-- LINK_QUIESCE with the link up, already quiesced, or without a loss (R37, R543). -/
theorem linkQuiesce_nothing (s : State) (h : s.linkUsable = true ∨ s.linkQuiesced = true ∨ (s.die.lostF = false ∧ s.die.lostT = false)) :
    exec .linkQuiesce s = .next s := by
  have hGuard : s.linkUsable = true ∨ s.linkQuiesced = true ∨ (!(s.die.lostF || s.die.lostT)) = true := by
    rcases h with h | h | ⟨hF, hT⟩
    · exact .inl h
    · exact .inr (.inl h)
    · exact .inr (.inr (by simp [hF, hT]))
  change answer s (linkQuiesce s) = _
  rw [linkQuiesce, if_pos hGuard, answer_self]

/-- LINK_RETRAIN that cannot succeed (R39, R545). -/
theorem linkRetrain_nothing (s : State) (ok : Bool)
    (h : ok = false ∨ s.aon.held = true ∨ s.linkUsable = true ∨ s.fdieUp = false ∨ s.tdieUp = false) : exec (.linkRetrain ok) s = .next s := by
  have hGuard : (!ok) = true ∨ s.aon.held = true ∨ s.linkUsable = true ∨ (!s.fdieUp) = true ∨ (!s.tdieUp) = true := by simpa using h
  change answer s (linkRetrain ok s) = _
  rw [linkRetrain, if_pos hGuard, answer_self]

/-- LINK_QUIESCE after a loss (R37, R456, R543). -/
theorem linkQuiesce_completes (s : State) (hDown : s.linkUsable = false) (hQuiet : s.linkQuiesced = false)
    (hLost : s.die.lostF = true ∨ s.die.lostT = true) : Completes .linkQuiesce s fun t =>
    t.linkQuiesced = true ∧ t.linkUsable = false ∧ t.die = { s.die with t0 := some s.mono } ∧ t.flag Reg.TIME_STATUS Fld.TIME_STATUS_TDIE_DISCONT = true ∧
    (∀ i : Fin 2, (if i = 0 then s.fdieUp else s.tdieUp) = true → t.flag (Reg.D2D_STATUS (i.val + 1)) Fld.D2D_STATUS_UP = false ∧
      t.flag (Reg.D2D_STATUS (i.val + 1)) Fld.D2D_STATUS_QUIESCED = true ∧ t.flag (Reg.D2D_STATUS (i.val + 1)) Fld.D2D_STATUS_DISCONT = true) ∧
    (∀ i : Fin 2, (if i = 0 then s.fdieUp else s.tdieUp) = false → t.reg (Reg.D2D_STATUS (i.val + 1)) = s.reg (Reg.D2D_STATUS (i.val + 1))) ∧
    (s.eg.copies = .empty → s.ing.transit = .empty → t.reg64 (Reg.TRU_LOSS_UNITS_LO lcDieReset) = s.reg64 (Reg.TRU_LOSS_UNITS_LO lcDieReset) ∧
      ∃ d, d < 2 ^ 32 ∧ (t.reg64 (Reg.TRU_LOSS_ITEMS_LO lcDieReset) + d) % 2 ^ 64 = s.reg64 (Reg.TRU_LOSS_ITEMS_LO lcDieReset)) ∧
    (∀ (n : Nat) (x : EgCopy), s.die.lostF = true → s.eg.copies = KMap.set none .empty n (some x) → x.stage ≠ .done → x.copy.queue < 524288 →
        s.ing.transit = .empty →
      (t.reg64 (Reg.TRU_LOSS_UNITS_LO lcDieReset) + x.copy.data.length) % 2 ^ 64 = s.reg64 (Reg.TRU_LOSS_UNITS_LO lcDieReset) ∧ t.eg.copies = .empty) ∧
    (∀ (i : Fin 16) (c : TCopy), s.die.lostT = true → s.ing.transit = KMap.set [] .empty i.val [c] → c.prog.isSome = true → s.eg.copies = .empty →
      (t.reg64 (Reg.TRU_LOSS_UNITS_LO lcDieReset) + c.data.length) % 2 ^ 64 = s.reg64 (Reg.TRU_LOSS_UNITS_LO lcDieReset) ∧ t.ing.transit = .empty) := by
  obtain ⟨hMark, hLink, hDie, hPending, hTime, hFirst, hSecond⟩ := quiesceLosses_marks s
  have hEnd (i : Fin 2) : EndMarked i.val (if i = 0 then s.fdieUp else s.tdieUp) s (quiesceLosses s) := by
    have hi : i = 0 ∨ i = 1 := by omega
    rcases hi with rfl | rfl
    · exact hFirst
    · exact hSecond
  exact completes_of_answer (congrArg (answer s) (linkQuiesce_eq s hDown hQuiet hLost)) hPending
    ⟨hMark, hLink.trans hDown, hDie, hTime, fun i => (hEnd i).1, fun i => (hEnd i).2, quiesceLosses_empty s, quiesceLosses_copy s, quiesceLosses_packet s⟩

theorem raised_status (s : State) : (raised s).linkUsable = true ∧ (raised s).linkQuiesced = false ∧ (raised s).fdieUp = s.fdieUp ∧
    (raised s).tdieUp = s.tdieUp := by
  have hEnds : RegsWithin (fun a => a == d2dStatus 0 || a == d2dStatus 1) (raiseLink s) (raised s) :=
    ((regsWithin_raiseEnd _ 0).mono (by simp +contextual)).trans ((regsWithin_raiseEnd _ 1).mono (by simp +contextual))
  have hStatus (f : Fld) := hEnds.flag (a := Reg.DEV_DIE_STATUS) (by decide) f
  obtain ⟨hLink, hQuiet, hF, hT⟩ := raiseLink_status s
  exact ⟨(hStatus _).trans hLink, (hStatus _).trans hQuiet, (congrArg not (hStatus _)).trans hF, (congrArg not (hStatus _)).trans hT⟩

theorem raised_ends (s : State) (i : Fin 2) : (raised s).flag (d2dStatus i.val) Fld.D2D_STATUS_UP = true ∧
    (raised s).flag (d2dStatus i.val) Fld.D2D_STATUS_QUIESCED = false ∧ (raised s).flag (d2dStatus i.val) Fld.D2D_STATUS_DISCONT = false := by
  have hi : i = 0 ∨ i = 1 := by omega
  rcases hi with rfl | rfl
  · have hOther (f : Fld) := (regsWithin_raiseEnd (raiseEnd (raiseLink s) 0) 1).flag (a := d2dStatus 0) (by decide) f
    obtain ⟨hUp, hQuiet, hCont⟩ := raiseEnd_flags (raiseLink s) 0
    exact ⟨(hOther _).trans hUp, (hOther _).trans hQuiet, (hOther _).trans hCont⟩
  · exact raiseEnd_flags _ 1

theorem raised_frame (s : State) : RegsBut [Reg.DEV_DIE_STATUS, Reg.D2D_STATUS 1, Reg.D2D_STATUS 2] s (raised s) ∧
    { raised s with regs := s.regs } = s := by
  refine ⟨fun a ha => ?_, by cases s; rfl⟩
  simp only [List.mem_cons, List.not_mem_nil, or_false, not_or] at ha
  obtain ⟨hDev, hFirst, hSecond⟩ := ha
  rw [raised, regsWithin_raiseEnd _ 1 a (beq_eq_false_iff_ne.2 hSecond), regsWithin_raiseEnd _ 0 a (beq_eq_false_iff_ne.2 hFirst),
    raiseLink, State.setFlag, State.setFld, State.reg_setReg_ne _ _ _ _ hDev, State.setFlag, State.setFld, State.reg_setReg_ne _ _ _ _ hDev]

theorem deliverAll_reg (s : State) (e : EgSt) (a : Nat) : (deliverAll s e).reg a = s.reg a := by cases s; rfl

theorem deliverAll_flag (s : State) (e : EgSt) (a : Nat) (f : Fld) : (deliverAll s e).flag a f = s.flag a f := by
  rw [State.flag, State.fld, deliverAll_reg, ← State.fld, ← State.flag]

theorem deliverAll_eg (s : State) (e : EgSt) : (deliverAll s e).eg.fifo = deliver e.fifo e.wait ∧ (deliverAll s e).eg.wait = .empty ∧
    (deliverAll s e).eg.copies = e.copies ∧ (deliverAll s e).die = .init := by
  simp only [deliverAll, and_self]

/-- What is delivered changes the egress side and the notes of the link alone. -/
theorem deliverAll_frame {s t : State} (e : EgSt) (h : { t with regs := s.regs } = s) : { deliverAll t e with
    regs := s.regs
    eg := s.eg
    die := s.die } = s := by
  rw [← h]
  rfl

/-- LINK_RETRAIN with both dies up and a training that succeeds (R39, R40, R545). -/
theorem linkRetrain_completes (s : State) (hHeld : s.aon.held = false) (hDown : s.linkUsable = false) (hF : s.fdieUp = true) (hT : s.tdieUp = true) :
    Completes (.linkRetrain true) s fun t =>
    t.linkUsable = true ∧ t.linkQuiesced = false ∧ t.fdieUp = true ∧ t.tdieUp = true ∧ t.die = .init ∧
    (∀ i : Fin 2, t.flag (Reg.D2D_STATUS (i.val + 1)) Fld.D2D_STATUS_UP = true ∧ t.flag (Reg.D2D_STATUS (i.val + 1)) Fld.D2D_STATUS_QUIESCED = false ∧
      t.flag (Reg.D2D_STATUS (i.val + 1)) Fld.D2D_STATUS_DISCONT = false) ∧
    (∀ e, e < 16 → KMap.get [] t.eg.fifo e = KMap.get [] s.eg.fifo e ++ KMap.get [] s.eg.wait e) ∧ t.eg.wait = .empty ∧ t.eg.copies = s.eg.copies ∧
    RegsBut [Reg.DEV_DIE_STATUS, Reg.D2D_STATUS 1, Reg.D2D_STATUS 2] s t ∧ { t with regs := s.regs, eg := s.eg, die := s.die } = s := by
  have hFlag := deliverAll_flag (raised s) s.eg
  have hReg := deliverAll_reg (raised s) s.eg
  have hExec : exec (.linkRetrain true) s = answer s (deliverAll (raised s) s.eg) := congrArg (answer s) (linkRetrain_eq s hHeld hDown hF hT)
  obtain ⟨hLink, hQuiet, hRaiseF, hRaiseT⟩ := raised_status s
  obtain ⟨hRegs, hFrame⟩ := raised_frame s
  obtain ⟨hFifo, hWait, hCopies, hDie⟩ := deliverAll_eg (raised s) s.eg
  have hRest := deliverAll_frame s.eg hFrame
  generalize deliverAll (raised s) s.eg = t at *
  refine completes_of_answer hExec (congrArg State.pending hRest :)
    ⟨(hFlag _ _).trans hLink, (hFlag _ _).trans hQuiet, ?_, ?_, hDie, fun i => ?_, fun e he => ?_, hWait, hCopies,
      fun a ha => (hReg a).trans (hRegs a ha), hRest⟩
  · exact ((congrArg not (hFlag _ _)).trans hRaiseF).trans hF
  · exact ((congrArg not (hFlag _ _)).trans hRaiseT).trans hT
  · obtain ⟨hUp, hQuietEnd, hCont⟩ := raised_ends s i
    exact ⟨(hFlag _ _).trans hUp, (hFlag _ _).trans hQuietEnd, (hFlag _ _).trans hCont⟩
  · rw [hFifo, get_deliver s.eg.fifo s.eg.wait e he]

/-- With the link down neither a retry nor a failure does anything. -/
theorem linkDown_nothing (s : State) (d : Die) (b : Bool) (h : s.linkUsable = false) :
    exec (.d2dFlitRetry d b) s = .next s ∧ exec .d2dLinkFailure s = .next s := by
  have hRetry : d2dFlitRetry d b s = s := by simp [d2dFlitRetry, h]
  have hFail : d2dLinkFailure s = s := by simp [d2dLinkFailure, h]
  exact ⟨congrArg (answer s) hRetry, congrArg (answer s) hFail⟩

/-- Settles O55: each command of the link and of the die resets by what it does to the status registers and by what it leaves alone. -/
theorem linkAndDieResets : Obligations.LinkAndDieResets := by
  unfold Obligations.LinkAndDieResets
  exact ⟨linkDown_nothing, retry_completes, failure_completes, fun s f d hf => viewRefused_completes s f d hf,
    fun s => ⟨fun h => dieRefused_completes (fdieHold_refused s h), fun h => dieRefused_completes (tdieHold_refused s h), fdieHold_completes s,
      tdieHold_completes s⟩,
    dieRelease_running, fun s => ⟨fdieRelease_completes s, tdieRelease_completes s⟩, linkQuiesce_nothing, linkQuiesce_completes, linkRetrain_nothing,
    linkRetrain_completes⟩

end Sys2Proof.Machine.DeviceOrganisation
end

section
/-! PROOF. O27: why EGRESS_SLICE_ENTRY does not count an expired ring wait for every copy that a state can hold. -/

namespace Sys2Proof.Machine.DeviceOrganisation

/-- A counter whose overflow bit lies outside its 32-bit word counts nothing at its wrap: R89 has no bit to set. -/
theorem not_counted_of_bit_ge {c : Ctr} {s t : State} {n : Nat} (hb : 32 ≤ c.bit) (hw : 2 ^ 64 ≤ s.reg64 c.lo + n) : ¬ Counted c n s t :=
  fun h => absurd (h.2 hw) (by simp [BitVec.getLsbD_of_ge _ _ hb])

/-- A copy whose ring wait has expired, of port 144: one above the 144 scheduler ports of R318. Its ring lies on host port 4, whose drop counter
has overflow bit 32. -/
def strayCopy : EgCopy :=
  { copy :=
      { pkt := none, queue := 0, size := 0, hdr := ⟨none, 0, 0, 0, 0, none, none, none⟩, data := [], mark := false, encap := none, pages := [],
        ta := 0 },
    slice := 0, port := 144, stage := .crossing, crossed := false, epoch := 0, frame := [], len := 0, shift := 0, expired := true, txInst := 0 }

/-- The device after reset with that copy crossing and the drop counter of host port 4 at its last value. -/
def strayCopyState : State :=
  (State.reset.setEgCopy 0 (some strayCopy)).setReg64 (Ctr.RING_RX_NODESC_DROP 4).lo (2 ^ 64 - 1)

theorem strayCopyState_egCopy : strayCopyState.egCopy 0 = some strayCopy := by
  rw [State.egCopy, strayCopyState, State.setReg64_eg]
  exact KMap.get_set_same _ _ _ _

theorem strayCopyState_fdieUp : strayCopyState.fdieUp = true := by
  have hStatus : strayCopyState.reg Reg.DEV_DIE_STATUS = (State.reset.setEgCopy 0 (some strayCopy)).reg Reg.DEV_DIE_STATUS :=
    RegsBut.setReg64 [(Ctr.RING_RX_NODESC_DROP 4).lo, (Ctr.RING_RX_NODESC_DROP 4).lo + 4] _ _ _ (by simp) (by simp) _ (by decide)
  rw [State.fdieUp, State.flag, State.fld, hStatus]
  decide

theorem strayCopyState_counter_full : strayCopyState.reg64 (Ctr.RING_RX_NODESC_DROP 4).lo = 2 ^ 64 - 1 := by
  rw [strayCopyState, State.reg64_setReg64]
  norm_num

/-- Refutes O27: the statement speaks of a copy of any port number. For an expired ring wait of port 144 the drop belongs to RING_RX_NODESC_DROP of
host port 4, whose overflow bit, 8 × 4, is none of the 32 of its register; with the counter at 2^64 - 1 no state after the command has it counted.
(Ports 0 to 143 of R318 give bits 0 to 24.) -/
theorem not_egressSlices : ¬ Obligations.EgressSlices := by
  rintro ⟨hEntry, -⟩
  obtain ⟨t, -, -, -, hExpired, -⟩ := hEntry strayCopyState 0 strayCopy strayCopyState_egCopy
  have hCounted : Counted (Ctr.RING_RX_NODESC_DROP 4) 1 strayCopyState t :=
    (hExpired rfl strayCopyState_fdieUp (by decide) rfl).1
  exact not_counted_of_bit_ge (by decide) (by rw [strayCopyState_counter_full]; norm_num) hCounted

end Sys2Proof.Machine.DeviceOrganisation
end

section
/-! PROOF. The frame of a step (log entry 30): the front command, the idle cycle and the run of a queue. -/

namespace Sys2Proof.Machine.EquinoxTime

/-! ### One step -/

theorem step_cons (c : Instr) (s : State) (l : List Instr) : step { s with pending := c :: l } = exec c { s with pending := l } := rfl

theorem step_of_pending_nil {s : State} (h : s.pending = []) : step s = .next s.tick := by rw [step, h]

theorem step_of_pending_cons {s : State} {c : Instr} {l : List Instr} (h : s.pending = c :: l) : step s = exec c { s with pending := l } := by
  rw [step, h]

/-- Settles O57: a step is what the front command does to the state without it, or one cycle of the clocks. -/
theorem stepRunsFrontCommand : Obligations.StepRunsFrontCommand := by
  unfold Obligations.StepRunsFrontCommand
  exact ⟨step_cons, fun _ => step_of_pending_nil⟩

/-- Every arm of the dispatch ends in `answer`: no command stops the device, and none touches the queue. -/
theorem exec_eq_answer (c : Instr) (s : State) : ∃ t, exec c s = answer s t := by
  cases c <;> exact ⟨_, rfl⟩

/-- A step answers a next state, and takes nothing but the front command from a queue. -/
theorem step_next (s : State) : ∃ t, step s = .next t ∧ (s.pending ≠ [] → t.pending = s.pending.tail) := by
  cases h : s.pending with
  | nil => exact ⟨s.tick, step_of_pending_nil h, fun hne => absurd rfl hne⟩
  | cons c l =>
    obtain ⟨t, ht⟩ := exec_eq_answer c { s with pending := l }
    exact ⟨{ t with pending := l }, (step_of_pending_cons h).trans ht, fun _ => rfl⟩

/-! ### Runs -/

theorem run_succ {s t : State} (h : step s = .next t) (n : Nat) : Host.Core.run core (n + 1) s = Host.Core.run core n t := by
  have hCore : core.step s = .next t := h
  simp only [Host.Core.run, hCore]

theorem safe (n : Nat) (s : State) : Safe n s := by
  induction n generalizing s with
  | zero => exact ⟨s, rfl⟩
  | succ n ih =>
    obtain ⟨t, ht, -⟩ := step_next s
    obtain ⟨u, hu⟩ := ih t
    exact ⟨u, (run_succ ht n).trans hu⟩

/-- A run no longer than the queue takes its commands from the front, in their order. -/
theorem run_pending (n : Nat) (s : State) (h : n ≤ s.pending.length) :
    ∃ t, Host.Core.run core n s = .next t ∧ t.pending = s.pending.drop n := by
  induction n generalizing s with
  | zero => exact ⟨s, rfl, rfl⟩
  | succ n ih =>
    have hne : s.pending ≠ [] := List.ne_nil_of_length_pos (by omega)
    obtain ⟨t, ht, hTail⟩ := step_next s
    obtain ⟨u, hu, hDrop⟩ := ih t (by rw [hTail hne, List.length_tail]; omega)
    exact ⟨u, (run_succ ht n).trans hu, by rw [hDrop, hTail hne, List.drop_tail]⟩

/-- Settles O60, by induction on the number of steps. -/
theorem queueRunsThrough : Obligations.QueueRunsThrough := by
  unfold Obligations.QueueRunsThrough
  refine ⟨safe, fun s => ?_, fun s n => run_pending n s⟩
  obtain ⟨t, ht, hDrop⟩ := run_pending s.pending.length s le_rfl
  exact ⟨t, ht, hDrop.trans (List.drop_length)⟩

end Sys2Proof.Machine.EquinoxTime
end

section
/-! PROOF. The state after reset (R47, R253, R478, R491, R540, R544). -/

namespace Sys2Proof.Machine.EquinoxTime

theorem reset_reg (a : Nat) : State.reset.reg a = resetWord a := rfl

/-- Settles O58: the tables of the reset state are empty, so a register reads the word of its table. -/
theorem resetState : Obligations.ResetState := by
  unfold Obligations.ResetState
  exact ⟨rfl, fun c hc => absurd hc List.not_mem_nil, KMap.wf_empty _, KMap.wf_empty _, reset_reg, KMap.get_empty 0, by decide +kernel⟩

/-- Settles O2: the nominal increment is the reset word of the pair, and lies within half a unit of 2^64 / 3.0 × 10^9. -/
theorem timeAtReset : Obligations.TimeAtReset := by
  unfold Obligations.TimeAtReset
  have hInc : State.reset.reg64 Reg.TIME_INC_LO = 0x000000016E80FE03 := by decide +kernel
  exact ⟨rfl, hInc, by norm_num⟩

end Sys2Proof.Machine.EquinoxTime
end

section
/-! PROOF. The clock cycle (R46, R422, R459): whatever else a cycle does, the time block changes by the increments alone. -/

namespace Sys2Proof.Machine.EquinoxTime
open DeviceOrganisation (foldl_rel)

/-! ### What leaves the time block -/

/-- A fold of steps that leave the time block leaves it. -/
theorem foldl_time {β : Type*} {f : State → β → State} (l : List β) (hf : ∀ s, ∀ x ∈ l, (f s x).time = s.time) (s : State) :
    (l.foldl f s).time = s.time :=
  foldl_rel (R := fun s t : State => t.time = s.time) (fun _ => rfl) (fun _ _ _ h k => Eq.trans k h) l hf s

theorem pmcAdd_time (s : State) (d n k : Nat) : (s.pmcAdd d n k).time = s.time := by
  simp only [State.pmcAdd]
  split_ifs <;> simp

theorem pmcDeliver_time (s : State) : s.pmcDeliver.time = s.time := by
  simp only [State.pmcDeliver]
  split
  · rfl
  · refine foldl_time _ (fun s d _ => foldl_time _ (fun s x _ => ?_) s) _
    split
    · rfl
    · split
      · rfl
      · exact pmcAdd_time s d x.1 _

theorem pmcCycle_time (s : State) : s.pmcCycle.time = s.time := by
  simp only [State.pmcCycle]
  refine foldl_time _ (fun s d _ => foldl_time _ (fun s x _ => ?_) s) _
  split_ifs <;> simp only [pmcAdd_time, State.draw]

theorem bumpFixed_time (s : State) (lo d : Nat) : (s.bumpFixed lo d).time = s.time := by
  unfold State.bumpFixed
  split <;> simp only [State.setReg64_time]

theorem bootTick_time (s : State) : s.bootTick.time = s.time := by
  unfold State.bootTick
  split <;> simp only [State.setBootState, State.setFld_time]

theorem tdmTick_time (s : State) : s.tdmTick.time = s.time := by
  unfold State.tdmTick
  split <;> simp only [State.setPrimary, State.setFld_time]

theorem islandTick_time (s : State) : s.islandTick.time = s.time := by
  simp only [State.islandTick]
  split_ifs <;> simp only [State.bump_time, State.modCyc]

/-! ### The cycle -/

/-- In a device out of reset the master, the follower and the elapsed time advance; a cycle writes nothing else of the time block. -/
theorem runTick_time (s : State) : s.runTick.time =
    { s.time with
      master := s.time.master + BitVec.ofNat 112 (s.reg64 Reg.TIME_INC_LO)
      follower := s.time.follower + s.time.followerInc.setWidth 112
      mono := s.time.mono + s.reg64 Reg.TIME_INC_LO } := by
  simp only [State.runTick, tdmTick_time, bootTick_time]
  split_ifs <;> simp only [bumpFixed_time, pmcCycle_time, pmcDeliver_time]

theorem tick_master (s : State) (h : s.aon.held = false) :
    s.tick.time.master = s.time.master + BitVec.ofNat 112 (s.reg64 Reg.TIME_INC_LO) := by
  simp only [State.tick, h, Bool.false_eq_true, if_false]
  split_ifs <;> simp only [islandTick_time, runTick_time] <;> rfl

/-! ### The accumulator and the increment -/

theorem reg64_lt (s : State) (a : Nat) : s.reg64 a < 2 ^ 64 := by
  have hLo := (s.reg a).isLt
  have hHi := (s.reg (a + 4)).isLt
  unfold State.reg64
  omega

/-- The Equinox time is the accumulator without its sub-fraction. -/
theorem now_eq_extractLsb' (s : State) : s.now = (s.time.master.extractLsb' 32 80).toNat := by
  have hTop : s.time.master.toNat >>> 32 < 2 ^ 80 := by
    have hMaster := s.time.master.isLt
    rw [Nat.shiftRight_eq_div_pow]
    omega
  rw [State.now, BitVec.extractLsb'_toNat, Nat.mod_eq_of_lt hTop]

/-- Settles O1: the idle step is a cycle of the clocks. -/
theorem timeRunsEachCycle : Obligations.TimeRunsEachCycle := by
  unfold Obligations.TimeRunsEachCycle
  intro s hIdle hRun
  exact ⟨⟨s.tick, by rw [step, hIdle], tick_master s hRun⟩, reg64_lt s _, now_eq_extractLsb' s⟩

end Sys2Proof.Machine.EquinoxTime
end

section
/-! PROOF. TIME_INC and its target (R48, R67). -/

namespace Sys2Proof.Machine.EquinoxTime
open DeviceOrganisation (completes_of_answer)

theorem incInRange_iff (v : Nat) : incInRange v = true ↔ 6148914691 * 1023 ≤ v * 1024 ∧ v * 1024 ≤ 6148914691 * 1025 := by
  unfold incInRange nominalInc
  rw [Bool.and_eq_true, decide_eq_true_iff, decide_eq_true_iff]

/-- A write in range schedules the increment 2^-22 s on, which is 2^10 units of 2^-32 s. -/
theorem timeIncWrite_inRange (s : State) (v : BitVec 64) (hLo : 6148914691 * 1023 ≤ v.toNat * 1024) (hHi : v.toNat * 1024 ≤ 6148914691 * 1025) :
    Completes (.timeIncWrite v) s fun t =>
      t.time = { s.time with pendInc := some (v, s.mono + 2 ^ 10), lastInc := s.mono } ∧
      t.flag Reg.TIME_STATUS Fld.TIME_STATUS_WD_HOLDOVER = false ∧
      { t with time := s.time, regs := s.regs } = s ∧ RegsBut [Reg.TIME_STATUS] s t := by
  have hEq : timeIncWrite v s = State.setFlag { s with time := { s.time with pendInc := some (v, s.mono + 2 ^ 10), lastInc := s.mono } }
      Reg.TIME_STATUS Fld.TIME_STATUS_WD_HOLDOVER false := if_pos ((incInRange_iff _).2 ⟨hLo, hHi⟩)
  exact completes_of_answer (congrArg (answer s) hEq) rfl
    ⟨rfl, State.flag_setFlag_same _ _ _ _ (by decide), rfl, RegsBut.setFlag [_] _ _ _ _ (List.mem_singleton_self _)⟩

theorem timeIncWrite_outOfRange (s : State) (v : BitVec 64) (h : v.toNat * 1024 < 6148914691 * 1023 ∨ 6148914691 * 1025 < v.toNat * 1024) :
    Completes (.timeIncWrite v) s fun t =>
      t.flag Reg.TIME_STATUS Fld.TIME_STATUS_INC_REFUSED = true ∧ OnlyRegs [Reg.TIME_STATUS] s t := by
  have hOut : ¬ incInRange v.toNat = true := by
    rw [incInRange_iff]
    omega
  have hEq : timeIncWrite v s = s.setFlag Reg.TIME_STATUS Fld.TIME_STATUS_INC_REFUSED true := if_neg hOut
  exact completes_of_answer (congrArg (answer s) hEq) rfl
    ⟨State.flag_setFlag_same _ _ _ _ (by decide), OnlyRegs.setFlag [_] _ _ _ _ (List.mem_singleton_self _)⟩

/-- The increment in force from its target on: the pair, and the follower while the link carries it. -/
def incApplied (v : BitVec 64) (s : State) : State :=
  { s.setReg64 Reg.TIME_INC_LO v.toNat with
    time := { s.time with pendInc := none, followerInc := if s.linkUsable then v else s.time.followerInc } }

theorem timeIncApply_due (s : State) (v : BitVec 64) (target : Nat) (hPend : s.time.pendInc = some (v, target)) (hDue : target ≤ s.mono) :
    timeIncApply s = incApplied v s := by
  have hLink : (s.setReg64 Reg.TIME_INC_LO v.toNat).linkUsable = s.linkUsable := by
    rw [State.linkUsable, State.flag, State.fld, RegsBut.setReg64 [Reg.TIME_INC_LO, Reg.TIME_INC_HI] s _ _ (by simp) (by decide) _ (by decide)]
    rfl
  simp only [timeIncApply, hPend, hDue.not_gt, if_false, hLink]
  rfl

theorem timeIncApply_completes (s : State) (v : BitVec 64) (target : Nat) (hPend : s.time.pendInc = some (v, target)) (hDue : target ≤ s.mono) :
    Completes .timeIncApply s fun t =>
      t.reg64 Reg.TIME_INC_LO = v.toNat ∧
      t.time = { s.time with pendInc := none, followerInc := if s.linkUsable then v else s.time.followerInc } ∧
      { t with time := s.time, regs := s.regs } = s ∧ RegsBut [Reg.TIME_INC_LO, Reg.TIME_INC_HI] s t := by
  have hPair : (incApplied v s).reg64 Reg.TIME_INC_LO = v.toNat := by
    calc (incApplied v s).reg64 Reg.TIME_INC_LO = (s.setReg64 Reg.TIME_INC_LO v.toNat).reg64 Reg.TIME_INC_LO := rfl
      _ = v.toNat := by rw [State.reg64_setReg64, Nat.mod_eq_of_lt v.isLt]
  exact completes_of_answer (congrArg (answer s) (timeIncApply_due s v target hPend hDue)) rfl
    ⟨hPair, rfl, rfl, RegsBut.setReg64 [_, _] s _ _ (by simp) (by decide)⟩

/-- Settles O3 (a refused write leaves the last accepted increment: log entry 44). -/
theorem timeIncrement : Obligations.TimeIncrement := by
  unfold Obligations.TimeIncrement
  exact ⟨timeIncWrite_inRange, timeIncWrite_outOfRange, timeIncApply_completes⟩

end Sys2Proof.Machine.EquinoxTime
end

section
/-! PROOF. STEP, SERVICE and TIME_STEP_APPLY (R49, R50, R68). -/

namespace Sys2Proof.Machine.EquinoxTime
open DeviceOrganisation (completes_of_answer)

/-! ### A write of TIME_CTRL -/

/-- The word that TIME_CTRL takes of a write: SERVICE as it stands after the write, STEP reading zero. -/
def ctrlWord (v : Word) (service : Bool) : Word := Fld.TIME_CTRL_STEP.put (Fld.TIME_CTRL_SERVICE.put (v &&& 0x1FFF) service.toNat) 0

theorem service_ctrlWord (v : Word) (service : Bool) : Fld.TIME_CTRL_SERVICE.get (ctrlWord v service) = service.toNat := by
  rw [ctrlWord, Fld.get_put_ne _ _ _ _ (by decide) (by decide) (by decide), Fld.get_put _ _ _ (by decide)]
  cases service <;> rfl

/-- The state once TIME_CTRL is written, before what the write does to a step; PPS_OUT_EN rising starts the pulses anew. -/
def ctrlTaken (v : Word) (service : Bool) (s : State) : State :=
  let s0 := s.setReg Reg.TIME_CTRL (ctrlWord v service)
  if !s.flag Reg.TIME_CTRL Fld.TIME_CTRL_PPS_OUT_EN && Fld.TIME_CTRL_PPS_OUT_EN.get v == 1 then
    { s0 with time := { s0.time with trig := KMap.set 0 s0.time.trig tgPps s0.ppsIndex } }
  else s0

/-- Beside its register a write of TIME_CTRL changes at most the index of the pulses. -/
theorem ctrlTaken_eq (v : Word) (service : Bool) (s : State) :
    ∃ trig, ctrlTaken v service s = { s.setReg Reg.TIME_CTRL (ctrlWord v service) with time := { s.time with trig := trig } } := by
  simp only [ctrlTaken]
  split
  · exact ⟨_, rfl⟩
  · exact ⟨s.time.trig, rfl⟩

/-- SERVICE cancels a step that waits, and the cancelled step counts as refused. -/
def stepCancelled (s : State) : State :=
  if s.time.pendStep.isSome then
    State.setFlag { s with time := { s.time with pendStep := none } } Reg.TIME_STATUS Fld.TIME_STATUS_STEP_REFUSED true
  else s

theorem timeCtrlWrite_inService (v : Word) (s : State)
    (h : (s.flag Reg.TIME_CTRL Fld.TIME_CTRL_SERVICE || Fld.TIME_CTRL_SERVICE.get v == 1) = true) :
    timeCtrlWrite v s = if Fld.TIME_CTRL_STEP.get v == 1
      then (stepCancelled (ctrlTaken v true s)).setFlag Reg.TIME_STATUS Fld.TIME_STATUS_STEP_REFUSED true
      else stepCancelled (ctrlTaken v true s) := by
  simp only [timeCtrlWrite, h, Bool.true_and, if_true]
  rfl

theorem timeCtrlWrite_step (v : Word) (s : State)
    (h : (s.flag Reg.TIME_CTRL Fld.TIME_CTRL_SERVICE || Fld.TIME_CTRL_SERVICE.get v == 1) = false) (hStep : (Fld.TIME_CTRL_STEP.get v == 1) = true) :
    timeCtrlWrite v s = { ctrlTaken v false s with
      time := { (ctrlTaken v false s).time with pendStep := some ((ctrlTaken v false s).timeSet, (ctrlTaken v false s).mono + 2 ^ 10) } } := by
  simp only [timeCtrlWrite, h, hStep, Bool.false_and, Bool.false_eq_true, if_false, if_true]
  rfl

/-! ### STEP and SERVICE -/

/-- What a write of TIME_CTRL does to the device: the two registers, and of the time block neither clock. -/
def CtrlFrame (s t : State) : Prop :=
  t.time.master = s.time.master ∧ { t with time := s.time, regs := s.regs } = s ∧ RegsBut [Reg.TIME_CTRL, Reg.TIME_STATUS] s t

theorem CtrlFrame.pending {s t : State} (h : CtrlFrame s t) : t.pending = s.pending := by
  obtain ⟨-, hRest, -⟩ := h
  exact (congrArg State.pending hRest :)

theorem ctrlTaken_frame (v : Word) (service : Bool) (s : State) : CtrlFrame s (ctrlTaken v service s) := by
  obtain ⟨trig, h⟩ := ctrlTaken_eq v service s
  rw [h]
  exact ⟨rfl, rfl, RegsBut.setReg [_, _] s _ _ (by simp)⟩

/-- In service the step that a write meets or asks for is gone. -/
def InService (s : State) (refused : Bool) (t : State) : Prop :=
  t.flag Reg.TIME_CTRL Fld.TIME_CTRL_SERVICE = true ∧ t.time.pendStep = none ∧
    (refused = true → t.flag Reg.TIME_STATUS Fld.TIME_STATUS_STEP_REFUSED = true) ∧ CtrlFrame s t

theorem InService.frame {s t : State} {refused : Bool} (h : InService s refused t) : CtrlFrame s t := by
  obtain ⟨-, -, -, hFrame⟩ := h
  exact hFrame

theorem CtrlFrame.setStatus {s t : State} (h : CtrlFrame s t) (f : Fld) (b : Bool) : CtrlFrame s (t.setFlag Reg.TIME_STATUS f b) := by
  obtain ⟨hMaster, hRest, hRegs⟩ := h
  exact ⟨hMaster, hRest, hRegs.trans (RegsBut.setFlag _ _ _ _ _ (by simp))⟩

theorem InService.refuse {s t : State} {refused : Bool} (h : InService s refused t) :
    InService s true (t.setFlag Reg.TIME_STATUS Fld.TIME_STATUS_STEP_REFUSED true) := by
  obtain ⟨hService, hNone, -, hFrame⟩ := h
  exact ⟨(State.flag_setFlag_ne _ _ _ _ _ _ (by decide)).trans hService, hNone, fun _ => State.flag_setFlag_same _ _ _ _ (by decide),
    hFrame.setStatus _ _⟩

theorem ctrlTaken_inService (v : Word) (s : State) : (ctrlTaken v true s).flag Reg.TIME_CTRL Fld.TIME_CTRL_SERVICE = true ∧
    (ctrlTaken v true s).time.pendStep = s.time.pendStep := by
  obtain ⟨trig, h⟩ := ctrlTaken_eq v true s
  rw [h]
  refine ⟨?_, rfl⟩
  calc (s.setReg Reg.TIME_CTRL (ctrlWord v true)).flag Reg.TIME_CTRL Fld.TIME_CTRL_SERVICE = (true.toNat == 1) := by
        rw [State.flag, State.fld, State.reg_setReg_same, service_ctrlWord]
    _ = true := rfl

theorem stepCancelled_inService (v : Word) (s : State) : InService s s.time.pendStep.isSome (stepCancelled (ctrlTaken v true s)) := by
  obtain ⟨hService, hPend⟩ := ctrlTaken_inService v s
  have hFrame := ctrlTaken_frame v true s
  rw [stepCancelled, ← hPend]
  split
  case isTrue hSome =>
    rw [hSome]
    have hCancelled : InService s false
        { ctrlTaken v true s with time := { (ctrlTaken v true s).time with pendStep := none } } := ⟨hService, rfl, nofun, hFrame⟩
    exact hCancelled.refuse
  case isFalse hNone => exact ⟨hService, Option.not_isSome_iff_eq_none.1 hNone, fun h => absurd h hNone, hFrame⟩

theorem timeCtrlWrite_completes {c : Instr} (s : State) (v : Word) (hc : exec c s = answer s (timeCtrlWrite v s))
    (h : (s.flag Reg.TIME_CTRL Fld.TIME_CTRL_SERVICE || Fld.TIME_CTRL_SERVICE.get v == 1) = true) :
    Completes c s (InService s (Fld.TIME_CTRL_STEP.get v == 1 || s.time.pendStep.isSome)) := by
  have hDone : InService s (Fld.TIME_CTRL_STEP.get v == 1 || s.time.pendStep.isSome) (timeCtrlWrite v s) := by
    rw [timeCtrlWrite_inService v s h]
    split
    case isTrue hStep =>
      rw [hStep, Bool.true_or]
      exact (stepCancelled_inService v s).refuse
    case isFalse hStep =>
      rw [Bool.eq_false_iff.2 hStep, Bool.false_or]
      exact stepCancelled_inService v s
  exact completes_of_answer hc hDone.frame.pending hDone

theorem get_step_put (v : Word) : (Fld.TIME_CTRL_STEP.get (Fld.TIME_CTRL_STEP.put v 1) == 1) = true := by
  rw [Fld.get_put _ _ _ (by decide)]
  rfl

theorem get_service_put_step (v : Word) : Fld.TIME_CTRL_SERVICE.get (Fld.TIME_CTRL_STEP.put v 1) = Fld.TIME_CTRL_SERVICE.get v :=
  Fld.get_put_ne _ _ _ _ (by decide) (by decide) (by decide)

theorem get_service_put (v : Word) : (Fld.TIME_CTRL_SERVICE.get (Fld.TIME_CTRL_SERVICE.put v 1) == 1) = true := by
  rw [Fld.get_put _ _ _ (by decide)]
  rfl

theorem timeSet_ctrlTaken (v : Word) (service : Bool) (s : State) : (ctrlTaken v service s).timeSet = s.timeSet := by
  obtain ⟨-, -, hRegs⟩ := ctrlTaken_frame v service s
  simp only [State.timeSet, State.fld, hRegs _ (by decide : Reg.TIME_SET_SEC_HI ∉ _), hRegs _ (by decide : Reg.TIME_SET_SEC_LO ∉ _),
    hRegs _ (by decide : Reg.TIME_SET_FRAC ∉ _)]

theorem step_captures (s : State) (v : Word) (hOut : s.flag Reg.TIME_CTRL Fld.TIME_CTRL_SERVICE = false) (hClear : Fld.TIME_CTRL_SERVICE.get v = 0) :
    Completes (.step v) s fun t =>
      t.time.pendStep = some (s.timeSet, s.mono + 2 ^ 10) ∧ t.time.master = s.time.master ∧ t.time.follower = s.time.follower ∧
      { t with time := s.time, regs := s.regs } = s ∧ RegsBut [Reg.TIME_CTRL] s t := by
  have hService : (s.flag Reg.TIME_CTRL Fld.TIME_CTRL_SERVICE || Fld.TIME_CTRL_SERVICE.get (Fld.TIME_CTRL_STEP.put v 1) == 1) = false := by
    rw [hOut, get_service_put_step, hClear]
    rfl
  have hEq := timeCtrlWrite_step (Fld.TIME_CTRL_STEP.put v 1) s hService (get_step_put v)
  rw [timeSet_ctrlTaken] at hEq
  obtain ⟨trig, hTaken⟩ := ctrlTaken_eq (Fld.TIME_CTRL_STEP.put v 1) false s
  rw [hTaken] at hEq
  exact completes_of_answer (congrArg (answer s) hEq) rfl ⟨rfl, rfl, rfl, rfl, RegsBut.setReg [_] s _ _ (by simp)⟩

theorem step_refused (s : State) (v : Word) (hIn : s.flag Reg.TIME_CTRL Fld.TIME_CTRL_SERVICE = true) :
    Completes (.step v) s fun t =>
      t.time.pendStep = none ∧ t.flag Reg.TIME_STATUS Fld.TIME_STATUS_STEP_REFUSED = true ∧
      t.flag Reg.TIME_CTRL Fld.TIME_CTRL_SERVICE = true ∧ t.time.master = s.time.master ∧
      { t with time := s.time, regs := s.regs } = s ∧ RegsBut [Reg.TIME_CTRL, Reg.TIME_STATUS] s t := by
  obtain ⟨t, ht, hService, hNone, hRefused, hFrame⟩ :=
    timeCtrlWrite_completes (c := .step v) s (Fld.TIME_CTRL_STEP.put v 1) rfl (by rw [hIn, Bool.true_or])
  exact ⟨t, ht, hNone, hRefused (by rw [get_step_put, Bool.true_or]), hService, hFrame⟩

theorem service_completes (s : State) (v : Word) :
    Completes (.service v) s fun t =>
      t.flag Reg.TIME_CTRL Fld.TIME_CTRL_SERVICE = true ∧ t.time.pendStep = none ∧
      (s.time.pendStep.isSome → t.flag Reg.TIME_STATUS Fld.TIME_STATUS_STEP_REFUSED = true) ∧ t.time.master = s.time.master ∧
      { t with time := s.time, regs := s.regs } = s ∧ RegsBut [Reg.TIME_CTRL, Reg.TIME_STATUS] s t := by
  obtain ⟨t, ht, hService, hNone, hRefused, hFrame⟩ :=
    timeCtrlWrite_completes (c := .service v) s (Fld.TIME_CTRL_SERVICE.put v 1) rfl (by rw [get_service_put, Bool.or_true])
  exact ⟨t, ht, hService, hNone, fun hSome => hRefused (by rw [hSome, Bool.or_true]), hFrame⟩

/-! ### TIME_STEP_APPLY -/

theorem timeStepApply_completes (s : State) (i target : Nat) (hPend : s.time.pendStep = some (i, target)) (hDue : target ≤ s.mono) :
    Completes .timeStepApply s fun t =>
      t.time.master = BitVec.ofNat 112 (i * 2 ^ 32) ∧ t.time.pendStep = none ∧ t.time.discont = true ∧
      t.time.follower = (if s.linkUsable then BitVec.ofNat 112 (i * 2 ^ 32) else s.time.follower) ∧ { t with time := s.time } = s := by
  refine ⟨{ timeStepApply s with pending := s.pending }, rfl, ?_⟩
  simp only [timeStepApply, hPend, hDue.not_gt, if_false, and_self]

/-- Settles O4. -/
theorem timeStepAndService : Obligations.TimeStepAndService := by
  unfold Obligations.TimeStepAndService
  exact ⟨step_captures, step_refused, service_completes, timeStepApply_completes⟩

end Sys2Proof.Machine.EquinoxTime
end

section
/-! PROOF. Markers, the once-per-second latch and the servo watchdog (R51, R56, R63, R64, R67). -/

namespace Sys2Proof.Machine.EquinoxTime
open DeviceOrganisation (RegsWithin foldl_rel)

/-- A command completes in what it answers, which has the queue of the state before. -/
theorem completes_answer {c : Instr} {s t : State} {P : State → Prop} (hc : exec c s = answer s t) (h : P { t with pending := s.pending }) :
    Completes c s P := ⟨_, hc, h⟩

/-! ### TIME_MARKER -/

/-- A marker that crosses: the follower takes the master's time. -/
def markerCrossed (s : State) : State :=
  { s.trigFire tgMarker (spanExp 20) with time := { (s.trigFire tgMarker (spanExp 20)).time with follower := s.time.master } }

/-- The first marker after a discontinuity carries the increment too. -/
theorem timeMarker_first (s : State) (hDue : s.trigDue tgMarker (spanExp 20) = true) (hLink : s.linkUsable = true)
    (hFirst : s.flag Reg.TIME_STATUS Fld.TIME_STATUS_TDIE_DISCONT = true) :
    timeMarker s = State.setFlag
      { markerCrossed s with time := { (markerCrossed s).time with followerInc := BitVec.ofNat 64 (s.reg64 Reg.TIME_INC_LO) } }
      Reg.TIME_STATUS Fld.TIME_STATUS_TDIE_DISCONT false := by
  have hLink' : (s.trigFire tgMarker (spanExp 20)).linkUsable = true := hLink
  have hFirst' : (s.trigFire tgMarker (spanExp 20)).flag Reg.TIME_STATUS Fld.TIME_STATUS_TDIE_DISCONT = true := hFirst
  simp only [timeMarker, hDue, hLink', hFirst', Bool.not_true, Bool.false_eq_true, if_false, if_true]
  rfl

/-- A later marker may report a misalignment, which leaves the time block. -/
theorem timeMarker_later (s : State) (hDue : s.trigDue tgMarker (spanExp 20) = true) (hLink : s.linkUsable = true)
    (hFirst : s.flag Reg.TIME_STATUS Fld.TIME_STATUS_TDIE_DISCONT = false) : (timeMarker s).time = (markerCrossed s).time := by
  have hLink' : (s.trigFire tgMarker (spanExp 20)).linkUsable = true := hLink
  have hFirst' : (s.trigFire tgMarker (spanExp 20)).flag Reg.TIME_STATUS Fld.TIME_STATUS_TDIE_DISCONT = false := hFirst
  simp only [timeMarker, hDue, hLink', hFirst', Bool.not_true, Bool.false_eq_true, if_false]
  split
  · rw [State.ierr_time, State.setFlag_time]
    rfl
  · rfl

theorem timeMarker_crosses (s : State) (hDue : (KMap.get 0 s.time.trig 1 + 1) * 2 ^ 12 ≤ s.now) (hLink : s.linkUsable = true) :
    Completes .timeMarker s fun t =>
      t.time.follower = s.time.master ∧ t.time.master = s.time.master ∧
      (s.flag Reg.TIME_STATUS Fld.TIME_STATUS_TDIE_DISCONT = true →
        t.time.followerInc = BitVec.ofNat 64 (s.reg64 Reg.TIME_INC_LO) ∧ t.flag Reg.TIME_STATUS Fld.TIME_STATUS_TDIE_DISCONT = false) := by
  cases hFirst : s.flag Reg.TIME_STATUS Fld.TIME_STATUS_TDIE_DISCONT with
  | true =>
    exact completes_answer (congrArg (answer s) (timeMarker_first s (decide_eq_true hDue) hLink hFirst))
      ⟨rfl, rfl, fun _ => ⟨rfl, State.flag_setFlag_same _ _ _ _ (by decide)⟩⟩
  | false =>
    have hTime := timeMarker_later s (decide_eq_true hDue) hLink hFirst
    exact completes_answer (t := timeMarker s) rfl ⟨(congrArg TimeSt.follower hTime :), (congrArg TimeSt.master hTime :), nofun⟩

theorem timeMarker_linkDown (s : State) (hDue : (KMap.get 0 s.time.trig 1 + 1) * 2 ^ 12 ≤ s.now) (hLink : s.linkUsable = false) :
    Completes .timeMarker s fun t => t.time.follower = s.time.follower ∧ { t with time := s.time } = s := by
  have hDue' : s.trigDue tgMarker (spanExp 20) = true := decide_eq_true hDue
  have hLink' : (s.trigFire tgMarker (spanExp 20)).linkUsable = false := hLink
  have hEq : timeMarker s = s.trigFire tgMarker (spanExp 20) := by
    simp only [timeMarker, hDue', hLink', Bool.not_true, Bool.not_false, Bool.false_eq_true, if_false, if_true]
  exact completes_answer (congrArg (answer s) hEq) ⟨rfl, rfl⟩

/-! ### LATCH_CLOSE -/

theorem otnClose_time (s : State) : s.otnClose.time = s.time := by
  unfold State.otnClose
  refine foldl_time _ (fun t p _ => ?_) s
  rfl

theorem pmcClose_time (s : State) : s.pmcClose.time = s.time := by
  simp only [State.pmcClose]
  refine (foldl_time _ (fun t d _ => ?_) _).trans (pmcDeliver_time s)
  rfl

/-- The settle span of the second that has ended, with its recovered-clock counts. -/
def latchOpened (n0 n1 : Word) (s : State) : State :=
  { s with time := { s.time with
      latch := some (s.now / second - 1, s.mono + (s.now / second * second + settleSpan) - s.now)
      rclk0 := if s.time.rclkOn0 then n0 else 0
      rclk1 := if s.time.rclkOn1 then n1 else 0
      rclkOn0 := false
      rclkOn1 := false } }

theorem latchClose_opens (s : State) (n0 n1 : Word) (hDue : s.trigDue tgSecond second = true) (hNone : s.time.latch = none) :
    latchClose n0 n1 s = (latchOpened n0 n1 (s.trigFire tgSecond second).otnClose.pmcClose).rclkNote := by
  simp only [latchClose, hDue, hNone, Bool.not_true, Bool.false_eq_true, if_false]
  rfl

theorem latchOpened_time (s t : State) (n0 n1 : Word) (h : t.time = (s.trigFire tgSecond second).time) :
    (latchOpened n0 n1 t).rclkNote.time.latch = some (s.now / 2 ^ 32 - 1, s.mono + (s.now / 2 ^ 32 * 2 ^ 32 + 2 ^ 14) - s.now) ∧
    (latchOpened n0 n1 t).rclkNote.time.rclk0 = (if s.time.rclkOn0 then n0 else 0) ∧
    (latchOpened n0 n1 t).rclkNote.time.rclk1 = (if s.time.rclkOn1 then n1 else 0) ∧
    (latchOpened n0 n1 t).rclkNote.time.master = s.time.master := by
  simp only [latchOpened, State.rclkNote, State.now, State.mono, h]
  exact ⟨rfl, rfl, rfl, rfl⟩

theorem latchClose_completes (s : State) (n0 n1 : BitVec 32) (hDue : (KMap.get 0 s.time.trig 0 + 1) * 2 ^ 32 ≤ s.now) (hNone : s.time.latch = none) :
    Completes (.latchClose n0 n1) s fun t =>
      t.time.latch = some (s.now / 2 ^ 32 - 1, s.mono + (s.now / 2 ^ 32 * 2 ^ 32 + 2 ^ 14) - s.now) ∧
      t.time.rclk0 = (if s.time.rclkOn0 then n0 else 0) ∧ t.time.rclk1 = (if s.time.rclkOn1 then n1 else 0) ∧
      t.time.master = s.time.master := by
  have hTime : (s.trigFire tgSecond second).otnClose.pmcClose.time = (s.trigFire tgSecond second).time := by rw [pmcClose_time, otnClose_time]
  exact completes_answer (congrArg (answer s) (latchClose_opens s n0 n1 (decide_eq_true hDue) hNone)) (latchOpened_time s _ n0 n1 hTime)

/-! ### LATCH_PUBLISH -/

/-- Every register but the two recovered-clock counts. -/
def besideRclk (a : Nat) : Bool := a != Reg.TIME_SYNCE_MEAS0 && a != Reg.TIME_SYNCE_MEAS1

theorem besideRclk_iff (a : Nat) : besideRclk a = true ↔ a ≠ 0x1fc00058 ∧ a ≠ 0x1fc0005c := by
  simp [besideRclk, Reg.TIME_SYNCE_MEAS0, Reg.TIME_SYNCE_MEAS1]

theorem otnPublish_regs (s : State) (sec : Nat) : RegsWithin besideRclk s (s.otnPublish sec) := by
  simp only [State.otnPublish]
  refine foldl_rel (R := RegsWithin besideRclk) (RegsWithin.refl _) (fun _ _ _ => RegsWithin.trans) _ (fun s p _ => ?_) s
  have hPort : p % 8 < 8 := Nat.mod_lt _ (by decide)
  refine (((((((RegsWithin.refl _ s).setReg ?_).setReg ?_).setReg ?_).setReg ?_).setReg ?_).setReg ?_).setReg ?_
  all_goals
    rw [besideRclk_iff]
    simp only [Reg.OTN_PM_SEC_LO, Reg.OTN_PM_SEC_HI, Reg.OTN_PM_SM_BIP, Reg.OTN_PM_SM_BEI, Reg.OTN_PM_PM_BIP, Reg.OTN_PM_PM_BEI,
      Reg.OTN_PM_DEFECT_SEC]
    omega

theorem pmcPublish_regs (s : State) : RegsWithin besideRclk s s.pmcPublish := by
  simp only [State.pmcPublish]
  refine foldl_rel (R := RegsWithin besideRclk) (RegsWithin.refl _) (fun _ _ _ => RegsWithin.trans) _ (fun s d _ => ?_) s
  refine foldl_rel (R := RegsWithin besideRclk) (RegsWithin.refl _) (fun _ _ _ => RegsWithin.trans) _ (fun s n _ => ?_) s
  refine RegsWithin.setReg (RegsWithin.setReg (.refl _ s) ?_) ?_
  all_goals
    rw [besideRclk_iff, Reg.PMC_SNAPV_LO]
    omega

theorem publishLatch_reg (s : State) (sec a : Nat) (ha : besideRclk a = false) : (s.publishLatch sec).reg a =
    ((s.setReg Reg.TIME_SYNCE_MEAS0 s.time.rclk0).setReg Reg.TIME_SYNCE_MEAS1 s.time.rclk1).reg a := by
  have hRegs : (s.publishLatch sec).regs =
      (((s.setReg Reg.TIME_SYNCE_MEAS0 s.time.rclk0).setReg Reg.TIME_SYNCE_MEAS1 s.time.rclk1).otnPublish sec).pmcPublish.regs := by
    simp only [State.publishLatch]
  rw [State.reg, hRegs, ← State.reg, pmcPublish_regs _ a ha, otnPublish_regs _ sec a ha]

theorem latchPublish_completes (s : State) (n due : Nat) (hLatch : s.time.latch = some (n, due)) (hDue : due ≤ s.mono) :
    Completes .latchPublish s fun t =>
      t.time.latch = none ∧ t.time.discont = false ∧ t.reg Reg.TIME_SYNCE_MEAS0 = s.time.rclk0 ∧ t.reg Reg.TIME_SYNCE_MEAS1 = s.time.rclk1 := by
  have hEq : latchPublish s = s.publishLatch n := by simp only [latchPublish, hLatch, hDue, if_true]
  have hFirst : (s.publishLatch n).reg Reg.TIME_SYNCE_MEAS0 = s.time.rclk0 := by
    rw [publishLatch_reg s n _ (by decide), State.reg_setReg_ne _ _ _ _ (by decide), State.reg_setReg_same]
  have hSecond : (s.publishLatch n).reg Reg.TIME_SYNCE_MEAS1 = s.time.rclk1 := by
    rw [publishLatch_reg s n _ (by decide), State.reg_setReg_same]
  have hLatchEnds : (s.publishLatch n).time.latch = none ∧ (s.publishLatch n).time.discont = false := by
    simp only [State.publishLatch, and_self]
  obtain ⟨hNone, hMark⟩ := hLatchEnds
  generalize s.publishLatch n = u at *
  exact completes_answer (congrArg (answer s) hEq) ⟨hNone, hMark, hFirst, hSecond⟩

/-! ### TIME_WD_HOLDOVER -/

theorem timeWdHoldover_completes (s : State) (hEn : s.flag Reg.TIME_CTRL Fld.TIME_CTRL_WD_EN = true) (hDue : s.time.lastInc + s.wdSpan ≤ s.mono)
    (hClear : s.flag Reg.TIME_STATUS Fld.TIME_STATUS_WD_HOLDOVER = false) :
    Completes .timeWdHoldover s fun t => ∃ u : State,
      t = { u.ownerEvent 0x0200 1 63 0 [] with pending := s.pending } ∧ u.flag Reg.TIME_STATUS Fld.TIME_STATUS_WD_HOLDOVER = true ∧
      OnlyRegs [Reg.TIME_STATUS] s u := by
  have hEq : timeWdHoldover s = (s.setFlag Reg.TIME_STATUS Fld.TIME_STATUS_WD_HOLDOVER true).ownerEvent 0x0200 1 63 0 [] := by
    rw [timeWdHoldover, hEn, decide_eq_true hDue, hClear]
    rfl
  exact completes_answer (congrArg (answer s) hEq)
    ⟨s.setFlag Reg.TIME_STATUS Fld.TIME_STATUS_WD_HOLDOVER true, rfl, State.flag_setFlag_same _ _ _ _ (by decide),
      OnlyRegs.setFlag [_] _ _ _ _ (by simp)⟩

/-- Settles O5 (the label of the latch and a count of zero are log entry 43, cluster 63 of the event log entry 76). -/
theorem timeMarkersAndLatches : Obligations.TimeMarkersAndLatches := by
  unfold Obligations.TimeMarkersAndLatches
  exact ⟨timeMarker_crosses, timeMarker_linkDown, latchClose_completes, latchPublish_completes, timeWdHoldover_completes⟩

end Sys2Proof.Machine.EquinoxTime
end

section
/-! PROOF. Captured reads, the 1PPS input and output and the 10 MHz reference (R54, R55, R57, R68). -/

namespace Sys2Proof.Machine.EquinoxTime
open DeviceOrganisation (completes_of_answer)

/-! ### Reads that capture -/

theorem timeNowRead_completes (s : State) (r : Req) :
    Completes (.timeNowRead r) s fun t =>
      KMap.get 0 t.time.nowCap (reqKey r) = s.now ∧ (∀ k, k ≠ reqKey r → KMap.get 0 t.time.nowCap k = KMap.get 0 s.time.nowCap k) ∧
      t.out = s.out ++ [.regData r Reg.TIME_NOW_FRAC (BitVec.ofNat 32 s.now)] ∧
      { t with time := { t.time with nowCap := s.time.nowCap }, out := s.out } = s :=
  completes_answer rfl ⟨KMap.get_set_same _ _ _ _, fun _ hk => KMap.get_set_ne _ _ _ _ _ _ hk, rfl, rfl⟩

theorem timePpsInFracRead_completes (s : State) (r : Req) :
    Completes (.timePpsInFracRead r) s fun t =>
      KMap.get 0 t.time.ppsCap (reqKey r) = s.time.ppsAt / 2 ^ 32 ∧
      (∀ k, k ≠ reqKey r → KMap.get 0 t.time.ppsCap k = KMap.get 0 s.time.ppsCap k) ∧
      t.out = s.out ++ [.regData r Reg.TIME_PPS_IN_FRAC (BitVec.ofNat 32 s.time.ppsAt)] ∧
      { t with time := { t.time with ppsCap := s.time.ppsCap }, out := s.out } = s :=
  completes_answer rfl ⟨(KMap.get_set_same _ _ _ _).trans (Nat.shiftRight_eq_div_pow _ _), fun _ hk => KMap.get_set_ne _ _ _ _ _ _ hk, rfl, rfl⟩

theorem timePpsInSecRead_completes (s : State) (r : Req) :
    Completes (.timePpsInSecRead r) s fun t =>
      t.out = s.out ++ [.regData r Reg.TIME_PPS_IN_SEC (BitVec.ofNat 32 (KMap.get 0 s.time.ppsCap (reqKey r)))] ∧
      t.flag Reg.TIME_STATUS Fld.TIME_STATUS_PPS_IN_NEW = false ∧ { t with regs := s.regs, out := s.out } = s ∧ RegsBut [Reg.TIME_STATUS] s t :=
  completes_answer rfl ⟨rfl, State.flag_setFlag_same s _ _ _ (by decide), rfl, RegsBut.setFlag [_] s _ _ _ (by simp)⟩

/-! ### PPS_IN_EDGE -/

/-- An edge that finds PPS_IN_NEW set is an overrun. -/
def overrunNoted (s : State) : State :=
  if s.flag Reg.TIME_STATUS Fld.TIME_STATUS_PPS_IN_NEW then s.setFlag Reg.TIME_STATUS Fld.TIME_STATUS_PPS_IN_OVERRUN true else s

/-- The capture of an edge at an instant, in the state that has noted an overrun. -/
def ppsCaptured (instant edge : Nat) (s : State) : State :=
  State.setFlag { s with time := { s.time with ppsAt := instant, ppsEdge := some edge } } Reg.TIME_STATUS Fld.TIME_STATUS_PPS_IN_NEW true

theorem overrunNoted_frame (s : State) : OnlyRegs [Reg.TIME_STATUS] s (overrunNoted s) := by
  unfold overrunNoted
  split
  · exact OnlyRegs.setFlag _ s _ _ _ (by simp)
  · exact ⟨rfl, RegsBut.rfl _ s⟩

theorem ppsCaptured_overrun (s : State) (instant edge : Nat) (hNew : s.flag Reg.TIME_STATUS Fld.TIME_STATUS_PPS_IN_NEW = true) :
    (ppsCaptured instant edge (overrunNoted s)).flag Reg.TIME_STATUS Fld.TIME_STATUS_PPS_IN_OVERRUN = true := by
  calc (ppsCaptured instant edge (overrunNoted s)).flag Reg.TIME_STATUS Fld.TIME_STATUS_PPS_IN_OVERRUN
      = (overrunNoted s).flag Reg.TIME_STATUS Fld.TIME_STATUS_PPS_IN_OVERRUN :=
        State.flag_setFlag_other _ _ _ _ _ (by decide) (by decide) (by decide)
    _ = true := by rw [overrunNoted, if_pos hNew, State.flag_setFlag_same _ _ _ _ (by decide)]

theorem ppsCaptured_frame {s u : State} (instant edge : Nat) (h : OnlyRegs [Reg.TIME_STATUS] s u) :
    (ppsCaptured instant edge u).time = { s.time with ppsAt := instant, ppsEdge := some edge } ∧
    { ppsCaptured instant edge u with time := s.time, regs := s.regs } = s ∧ RegsBut [Reg.TIME_STATUS] s (ppsCaptured instant edge u) := by
  obtain ⟨hRest, hRegs⟩ := h
  have hTime : u.time = s.time := (congrArg State.time hRest :)
  refine ⟨?_, ?_, hRegs.trans (RegsBut.setFlag [_] _ _ _ _ (by simp))⟩
  · rw [← hTime]
    rfl
  · rw [← hRest]
    rfl

theorem ppsInEdge_taken (s : State) (h : ∀ e, s.time.ppsEdge = some e → e + 2 ^ 31 ≤ s.mono) :
    ppsInEdge s = ppsCaptured s.now s.mono (overrunNoted s) := by
  cases hEdge : s.time.ppsEdge with
  | none =>
    simp only [ppsInEdge, hEdge, Bool.false_eq_true, if_false]
    rfl
  | some e =>
    have hLate : decide (s.mono < e + spanExp 1) = false := decide_eq_false (not_lt.2 (h e hEdge))
    simp only [ppsInEdge, hEdge, hLate, Bool.false_eq_true, if_false]
    rfl

theorem ppsInEdge_completes (s : State) (h : ∀ e, s.time.ppsEdge = some e → e + 2 ^ 31 ≤ s.mono) :
    Completes .ppsInEdge s fun t =>
      t.time = { s.time with ppsAt := s.now, ppsEdge := some s.mono } ∧ t.flag Reg.TIME_STATUS Fld.TIME_STATUS_PPS_IN_NEW = true ∧
      (s.flag Reg.TIME_STATUS Fld.TIME_STATUS_PPS_IN_NEW = true → t.flag Reg.TIME_STATUS Fld.TIME_STATUS_PPS_IN_OVERRUN = true) ∧
      { t with time := s.time, regs := s.regs } = s ∧ RegsBut [Reg.TIME_STATUS] s t := by
  obtain ⟨hTime, hRest, hRegs⟩ := ppsCaptured_frame s.now s.mono (overrunNoted_frame s)
  have hNew : (ppsCaptured s.now s.mono (overrunNoted s)).flag Reg.TIME_STATUS Fld.TIME_STATUS_PPS_IN_NEW = true :=
    State.flag_setFlag_same _ _ _ _ (by decide)
  exact completes_of_answer (congrArg (answer s) (ppsInEdge_taken s h)) (congrArg State.pending hRest :)
    ⟨hTime, hNew, ppsCaptured_overrun s _ _, hRest, hRegs⟩

theorem ppsInEdge_early (s : State) (e : Nat) (hEdge : s.time.ppsEdge = some e) (hEarly : s.mono < e + 2 ^ 31) :
    exec .ppsInEdge s = .next s := by
  have hSoon : decide (s.mono < e + spanExp 1) = true := decide_eq_true hEarly
  have hEq : ppsInEdge s = s := by simp only [ppsInEdge, hEdge, hSoon, if_true]
  exact congrArg (answer s) hEq

/-! ### The 10 MHz reference -/

theorem ref10mMeasure_completes (s : State) (hEn : s.flag Reg.TIME_CTRL Fld.TIME_CTRL_REF10M_EN = true)
    (hFits : s.time.master.toNat % 2 ^ 64 / 2 ^ 28 < 2 ^ 16) :
    Completes .ref10mMeasure s fun t =>
      t.fld Reg.TIME_REF10M_CAP Fld.TIME_REF10M_CAP_OFFSET = s.time.master.toNat % 2 ^ 64 / 2 ^ 28 ∧ OnlyRegs [Reg.TIME_REF10M_CAP] s t := by
  have hEq : ref10mMeasure s = s.setFld Reg.TIME_REF10M_CAP Fld.TIME_REF10M_CAP_OFFSET (s.time.master.toNat % 2 ^ 64 / 2 ^ 28) := by
    simp only [ref10mMeasure, hEn, Nat.shiftRight_eq_div_pow, hFits, Bool.not_true, Bool.false_eq_true, if_false, if_true]
  exact completes_answer (congrArg (answer s) hEq)
    ⟨(State.fld_setFld_same s _ _ _ (by decide)).trans (Nat.mod_eq_of_lt hFits), OnlyRegs.setFld [_] s _ _ _ (by simp)⟩

/-- REF10M_LOS and REF10M_EDGE_RETURN write the one flag. -/
theorem los_completes {c : Instr} (s : State) (b : Bool)
    (hc : exec c s = answer s (s.setFlag Reg.TIME_STATUS Fld.TIME_STATUS_REF10M_LOS b)) :
    Completes c s fun t => t.flag Reg.TIME_STATUS Fld.TIME_STATUS_REF10M_LOS = b ∧ OnlyRegs [Reg.TIME_STATUS] s t :=
  completes_answer hc ⟨State.flag_setFlag_same s _ _ _ (by decide), OnlyRegs.setFlag [_] s _ _ _ (by simp)⟩

theorem ref10mLos_completes (s : State) (hEn : s.flag Reg.TIME_CTRL Fld.TIME_CTRL_REF10M_EN = true) :
    Completes .ref10mLos s fun t => t.flag Reg.TIME_STATUS Fld.TIME_STATUS_REF10M_LOS = true ∧ OnlyRegs [Reg.TIME_STATUS] s t :=
  los_completes s true (congrArg (answer s) (if_pos hEn))

theorem ref10mEdgeReturn_completes (s : State) (hEn : s.flag Reg.TIME_CTRL Fld.TIME_CTRL_REF10M_EN = true) :
    Completes .ref10mEdgeReturn s fun t => t.flag Reg.TIME_STATUS Fld.TIME_STATUS_REF10M_LOS = false ∧ OnlyRegs [Reg.TIME_STATUS] s t :=
  los_completes s false (congrArg (answer s) (if_pos hEn))

/-! ### PTP_PPS_OUT -/

theorem ppsOutRise_completes (s : State) (hEn : s.flag Reg.TIME_CTRL Fld.TIME_CTRL_PPS_OUT_EN = true) (hNext : KMap.get 0 s.time.trig 2 < s.ppsIndex) :
    Completes .ppsOutRise s fun t =>
      t.time.ppsOut = decide (0 < s.fld Reg.TIME_PPS_OUT_CFG Fld.TIME_PPS_OUT_CFG_WIDTH) ∧
      t.time.ppsFall = s.mono + min (s.fld Reg.TIME_PPS_OUT_CFG Fld.TIME_PPS_OUT_CFG_WIDTH) 0x7FFF * 2 ^ 16 ∧
      KMap.get 0 t.time.trig 2 = s.ppsIndex ∧ { t with time := s.time } = s := by
  have hNext' : ¬ s.ppsIndex ≤ KMap.get 0 s.time.trig tgPps := not_le.2 hNext
  have hRises : decide (min (s.fld Reg.TIME_PPS_OUT_CFG Fld.TIME_PPS_OUT_CFG_WIDTH) 0x7FFF ≠ 0) =
      decide (0 < s.fld Reg.TIME_PPS_OUT_CFG Fld.TIME_PPS_OUT_CFG_WIDTH) := by
    rw [decide_eq_decide]
    omega
  refine completes_answer (t := ppsOutRise s) rfl ?_
  simp only [ppsOutRise, hEn, hNext', Bool.not_true, Bool.false_eq_true, if_false, true_and, and_true]
  exact ⟨hRises, KMap.get_set_same _ _ _ _⟩

theorem ppsOutFall_completes (s : State) (hOut : s.time.ppsOut = true)
    (hOver : s.time.ppsFall ≤ s.mono ∨ s.flag Reg.TIME_CTRL Fld.TIME_CTRL_PPS_OUT_EN = false) :
    Completes .ppsOutFall s fun t => t.time = { s.time with ppsOut := false } ∧ { t with time := s.time } = s := by
  have hFalls : (s.time.ppsOut && (decide (s.time.ppsFall ≤ s.mono) || !s.flag Reg.TIME_CTRL Fld.TIME_CTRL_PPS_OUT_EN)) = true := by
    simpa [hOut] using hOver
  exact completes_answer (congrArg (answer s) (if_pos hFalls)) ⟨rfl, rfl⟩

/-- Settles O6 (the span between edges is log entry 44, a reference that its register cannot hold log entry 8). -/
theorem timeCapturesAndReferences : Obligations.TimeCapturesAndReferences := by
  unfold Obligations.TimeCapturesAndReferences
  exact ⟨timeNowRead_completes, timePpsInFracRead_completes, timePpsInSecRead_completes, ppsInEdge_completes, ppsInEdge_early,
    ref10mMeasure_completes, ref10mLos_completes, ref10mEdgeReturn_completes, ppsOutRise_completes, ppsOutFall_completes⟩

end Sys2Proof.Machine.EquinoxTime
end

section
/-! PROOF. The bytes of the device address space: what is read after byte strings and little-endian values are written (R5, R389). -/

namespace Sys2Proof.Machine.EquinoxTime

/-! ### Byte strings -/

/-- A memory with the bytes of a string from an address on. -/
def bytesWritten (m : KMap Byte) (a : Nat) (d : List (Byte × Nat)) : KMap Byte := d.foldl (fun m x => KMap.set 0 m (a + x.2) x.1) m

theorem get_bytesWritten (m : KMap Byte) (a k x : Nat) (d : List Byte) :
    KMap.get 0 (bytesWritten m a (d.zipIdx k)) x = if a + k ≤ x ∧ x < a + k + d.length then d.getD (x - (a + k)) 0 else KMap.get 0 m x := by
  induction d generalizing m k with
  | nil =>
    rw [if_neg (by simp only [List.length_nil]; omega)]
    rfl
  | cons b d ih =>
    have hStep : bytesWritten m a ((b :: d).zipIdx k) = bytesWritten (KMap.set 0 m (a + k) b) a (d.zipIdx (k + 1)) := rfl
    rw [hStep, ih, KMap.get_set, List.length_cons]
    by_cases hFirst : x = a + k
    · subst hFirst
      rw [if_neg (by omega), if_pos rfl, if_pos (by omega), Nat.sub_self, List.getD_cons_zero]
    by_cases hIn : a + k ≤ x ∧ x < a + k + (d.length + 1)
    · have hLater : x - (a + k) = x - (a + (k + 1)) + 1 := by omega
      rw [if_pos (by omega), if_pos hIn, hLater, List.getD_cons_succ]
    · rw [if_neg (by omega), if_neg hFirst, if_neg hIn]

theorem length_beBytes (n v : Nat) : (beBytes n v).length = n := by
  induction n with
  | zero => rfl
  | succ n ih => rw [beBytes, List.length_cons, ih]

/-- Byte `i` of the `n` low bytes of a number, most significant first. -/
theorem getD_beBytes (n v i : Nat) (h : i < n) : (beBytes n v).getD i 0 = BitVec.ofNat 8 (v / 256 ^ (n - 1 - i)) := by
  induction n generalizing i with
  | zero => omega
  | succ n ih =>
    cases i with
    | zero =>
      have hPow : 2 ^ (8 * n) = 256 ^ n := by rw [pow_mul]; norm_num
      rw [beBytes, List.getD_cons_zero, Nat.shiftRight_eq_div_pow, hPow]
      rfl
    | succ i =>
      have hLater : n + 1 - 1 - (i + 1) = n - 1 - i := by omega
      rw [beBytes, List.getD_cons_succ, ih i (by omega), hLater]

/-! ### Little-endian values -/

theorem setRamLE_succ (s : State) (a n v : Nat) :
    (s.setRamLE a (n + 1) v).ram = KMap.set 0 (s.setRamLE a n v).ram (a + n) (BitVec.ofNat 8 (v / 256 ^ n)) := by
  simp only [State.setRamLE, List.range_succ, List.foldl_append, List.foldl_cons, List.foldl_nil]

theorem get_setRamLE (s : State) (a n v x : Nat) :
    KMap.get 0 (s.setRamLE a n v).ram x = if a ≤ x ∧ x < a + n then BitVec.ofNat 8 (v / 256 ^ (x - a)) else KMap.get 0 s.ram x := by
  induction n with
  | zero =>
    rw [if_neg (by omega)]
    rfl
  | succ n ih =>
    rw [setRamLE_succ, KMap.get_set, ih]
    by_cases hLast : x = a + n
    · rw [if_pos hLast, if_pos (by omega), hLast, Nat.add_sub_cancel_left]
    · rw [if_neg hLast]
      by_cases hIn : a ≤ x ∧ x < a + n
      · rw [if_pos hIn, if_pos (by omega)]
      · rw [if_neg hIn, if_neg (by omega)]

theorem ramLE_succ (s : State) (a n : Nat) : s.ramLE a (n + 1) = s.ramLE a n + (KMap.get 0 s.ram (a + n)).toNat * 256 ^ n := by
  simp only [State.ramLE, List.range_succ, List.foldl_append, List.foldl_cons, List.foldl_nil]

/-- Bytes that are those of a number spell it, cut to their count. -/
theorem ramLE_of_bytes (s : State) (a n v : Nat) (h : ∀ i, i < n → KMap.get 0 s.ram (a + i) = BitVec.ofNat 8 (v / 256 ^ i)) :
    s.ramLE a n = v % 256 ^ n := by
  induction n with
  | zero => rw [pow_zero, Nat.mod_one]; rfl
  | succ n ih =>
    have hByte : (BitVec.ofNat 8 (v / 256 ^ n)).toNat = v / 256 ^ n % 256 := BitVec.toNat_ofNat _ _
    rw [ramLE_succ, ih (fun i hi => h i (by omega)), h n (by omega), hByte, Nat.mod_pow_succ, Nat.mul_comm (256 ^ n)]

/-- A value reads back as it was written. -/
theorem ramLE_setRamLE (s : State) (a n v : Nat) : (s.setRamLE a n v).ramLE a n = v % 256 ^ n := by
  refine ramLE_of_bytes _ a n v (fun i hi => ?_)
  rw [get_setRamLE, if_pos (by omega), Nat.add_sub_cancel_left]

end Sys2Proof.Machine.EquinoxTime
end

section
/-! PROOF. The harts' registers, and the Etalzin instructions on packet buffers, time and ledgers (R44, R395 to R398). -/

namespace Sys2Proof.Machine.EquinoxTime
open DeviceOrganisation (completes_of_answer)

/-! ### The registers of a hart -/

@[simp] theorem hart_setHart_same (s : State) (h : Nat) (x : HartSt) : (s.setHart h x).hart h = x := KMap.get_set_same _ _ _ _

theorem hart_setHart_ne (s : State) {h k : Nat} (x : HartSt) (hk : k ≠ h) : (s.setHart h x).hart k = s.hart k := KMap.get_set_ne _ _ _ _ _ _ hk

theorem setX_zero (s : State) (h v : Nat) : s.setX h 0 v = s := if_pos rfl

theorem setX_of_ne_zero (s : State) (h v : Nat) {rd : Nat} (hrd : rd ≠ 0) :
    s.setX h rd v = s.setHart h { s.hart h with x := KMap.set 0 (s.hart h).x rd (BitVec.ofNat 64 v) } := if_neg hrd

theorem setX_frame (s : State) (h rd v : Nat) : { s.setX h rd v with harts := s.harts } = s := by
  by_cases hrd : rd = 0
  · rw [hrd, setX_zero]
  · rw [setX_of_ne_zero s h v hrd]
    rfl

theorem setX_pending (s : State) (h rd v : Nat) : (s.setX h rd v).pending = s.pending := (congrArg State.pending (setX_frame s h rd v) :)

theorem hart_setX_ne (s : State) {h k : Nat} (rd v : Nat) (hk : k ≠ h) : (s.setX h rd v).hart k = s.hart k := by
  by_cases hrd : rd = 0
  · rw [hrd, setX_zero]
  · rw [setX_of_ne_zero s h v hrd, hart_setHart_ne _ _ hk]

/-- The hart itself: x0 discards the value. -/
theorem hart_setX_same (s : State) (h rd v : Nat) : (s.setX h rd v).hart h =
    if rd = 0 then s.hart h else { s.hart h with x := KMap.set 0 (s.hart h).x rd (BitVec.ofNat 64 v) } := by
  by_cases hrd : rd = 0
  · rw [hrd, setX_zero, if_pos rfl]
  · rw [setX_of_ne_zero s h v hrd, hart_setHart_same, if_neg hrd]

theorem x_setX_same (s : State) (h v : Nat) {rd : Nat} (hrd : rd ≠ 0) : KMap.get 0 ((s.setX h rd v).hart h).x rd = BitVec.ofNat 64 v := by
  rw [hart_setX_same, if_neg hrd, KMap.get_set_same]

theorem x_setX_ne (s : State) (h rd v : Nat) {r : Nat} (hr : r ≠ rd ∨ r = 0) :
    KMap.get 0 ((s.setX h rd v).hart h).x r = KMap.get 0 (s.hart h).x r := by
  by_cases hrd : rd = 0
  · rw [hrd, setX_zero]
  · rw [hart_setX_same, if_neg hrd, KMap.get_set_ne _ _ _ _ _ _ (by omega)]

/-- Beside the integer registers a hart stays as it was. -/
theorem hart_setX_rest (s : State) (h rd v : Nat) :
    ((s.setX h rd v).hart h).eqx = (s.hart h).eqx ∧ ((s.setX h rd v).hart h).pc = (s.hart h).pc := by
  rw [hart_setX_same]
  split <;> exact ⟨rfl, rfl⟩

theorem ne_zero_of_fin {rd : Fin 32} (h : rd ≠ 0) : rd.val ≠ 0 := fun hv => h (Fin.ext hv)

/-! ### Loads from a packet buffer -/

/-- What an instruction on a packet buffer can end in: an access fault, a misaligned exception, or its effect. -/
def pbOutcome (n a : Nat) (reach : Bool) (fault misaligned ok : State) : State :=
  if !inPacketBuffer a n || !reach then fault else if a % n ≠ 0 then misaligned else ok

section
variable {n a : Nat} {reach : Bool} (fault misaligned ok : State)

theorem pbOutcome_ok (hIn : inPacketBuffer a n = true) (hReach : reach = true) (hAl : a % n = 0) : pbOutcome n a reach fault misaligned ok = ok := by
  rw [pbOutcome, hIn, hReach, if_neg (by decide), if_neg (not_not.2 hAl)]

theorem pbOutcome_fault (hOut : inPacketBuffer a n = false ∨ reach = false) : pbOutcome n a reach fault misaligned ok = fault := by
  rw [pbOutcome, if_pos (by simpa using hOut)]

theorem pbOutcome_misaligned (hIn : inPacketBuffer a n = true) (hReach : reach = true) (hAl : a % n ≠ 0) :
    pbOutcome n a reach fault misaligned ok = misaligned := by
  rw [pbOutcome, hIn, hReach, if_neg (by decide), if_pos hAl]

end

theorem pbLoad_of_runs (s : State) (n h rd a : Nat) (hRun : s.hartRuns h = true) :
    pbLoad n h rd a s = pbOutcome n a (s.domReach (s.hartDom h) a n false false) (s.trap h .loadFault a) (s.trap h .loadMisaligned a)
      (s.setX h rd (ofBE (s.ramBytes a n))) := by
  simp only [pbLoad, pbOutcome, hRun, Bool.not_true, Bool.false_eq_true, if_false]

/-- What a load of `n` bytes from a packet buffer shows (R395, R396). -/
def LoadShown (s : State) (h : Fin 128) (rd : Fin 32) (a : BitVec 64) (n : Nat) (t : State) : Prop :=
  (inPacketBuffer a.toNat n = true → s.domReach (s.hartDom h.val) a.toNat n false false = true → a.toNat % n = 0 →
    t.hart h.val = (if rd = 0 then s.hart h.val else
      { s.hart h.val with x := KMap.set 0 (s.hart h.val).x rd.val (BitVec.ofNat 64 (ofBE (s.ramBytes a.toNat n))) }) ∧
    (∀ k, k ≠ h.val → t.hart k = s.hart k) ∧ { t with harts := s.harts } = s) ∧
  (inPacketBuffer a.toNat n = false ∨ s.domReach (s.hartDom h.val) a.toNat n false false = false →
    t = s.emit (.trap h.val .loadFault (s.hart h.val).pc a.toNat)) ∧
  (inPacketBuffer a.toNat n = true → s.domReach (s.hartDom h.val) a.toNat n false false = true → a.toNat % n ≠ 0 →
    t = s.emit (.trap h.val .loadMisaligned (s.hart h.val).pc a.toNat))

theorem pbLoad_pending (s : State) (n h rd a : Nat) : (pbLoad n h rd a s).pending = s.pending := by
  unfold pbLoad
  split_ifs
  · rfl
  · rfl
  · rfl
  · exact setX_pending s h rd _

theorem pbLoad_completes {c : Instr} (s : State) (h : Fin 128) (rd : Fin 32) (a : BitVec 64) (n : Nat) (hRun : s.hartRuns h.val = true)
    (hc : exec c s = answer s (pbLoad n h.val rd.val a.toNat s)) : Completes c s (LoadShown s h rd a n) := by
  refine completes_of_answer hc (pbLoad_pending _ _ _ _ _) ?_
  rw [pbLoad_of_runs s n h.val rd.val a.toNat hRun]
  refine ⟨fun hIn hReach hAl => ?_, pbOutcome_fault _ _ _, pbOutcome_misaligned _ _ _⟩
  rw [pbOutcome_ok _ _ _ hIn hReach hAl]
  refine ⟨?_, fun k hk => hart_setX_ne s _ _ hk, setX_frame s _ _ _⟩
  by_cases hrd : rd = 0
  · rw [if_pos hrd, hrd]
    exact congrArg (fun t : State => t.hart h.val) (setX_zero s _ _)
  · rw [if_neg hrd, hart_setX_same, if_neg (ne_zero_of_fin hrd)]

/-! ### Stores to a packet buffer -/

theorem pbStore_of_runs (s : State) (n h a v : Nat) (hRun : s.hartRuns h = true) :
    pbStore n h a v s = pbOutcome n a (s.domReach (s.hartDom h) a n true false) (s.trap h .storeFault a) (s.trap h .storeMisaligned a)
      { s with ram := bytesWritten s.ram a (beBytes n v).zipIdx } := by
  simp only [pbStore, pbOutcome, hRun, Bool.not_true, Bool.false_eq_true, if_false]
  rfl

/-- What a store of `n` bytes to a packet buffer shows (R395, R396). -/
def StoreShown (s : State) (h : Fin 128) (a v : BitVec 64) (n : Nat) (t : State) : Prop :=
  (inPacketBuffer a.toNat n = true → s.domReach (s.hartDom h.val) a.toNat n true false = true → a.toNat % n = 0 →
    (∀ i, i < n → KMap.get 0 t.ram (a.toNat + i) = BitVec.ofNat 8 (v.toNat / 256 ^ (n - 1 - i))) ∧
    (∀ x, x < a.toNat ∨ a.toNat + n ≤ x → KMap.get 0 t.ram x = KMap.get 0 s.ram x) ∧ { t with ram := s.ram } = s) ∧
  (inPacketBuffer a.toNat n = false ∨ s.domReach (s.hartDom h.val) a.toNat n true false = false →
    t = s.emit (.trap h.val .storeFault (s.hart h.val).pc a.toNat)) ∧
  (inPacketBuffer a.toNat n = true → s.domReach (s.hartDom h.val) a.toNat n true false = true → a.toNat % n ≠ 0 →
    t = s.emit (.trap h.val .storeMisaligned (s.hart h.val).pc a.toNat))

theorem pbStore_pending (s : State) (n h a v : Nat) : (pbStore n h a v s).pending = s.pending := by
  unfold pbStore
  split_ifs <;> rfl

/-- The stored bytes, most significant first, and every other byte. -/
theorem get_stored (m : KMap Byte) (a n v : Nat) :
    (∀ i, i < n → KMap.get 0 (bytesWritten m a (beBytes n v).zipIdx) (a + i) = BitVec.ofNat 8 (v / 256 ^ (n - 1 - i))) ∧
    ∀ x, x < a ∨ a + n ≤ x → KMap.get 0 (bytesWritten m a (beBytes n v).zipIdx) x = KMap.get 0 m x := by
  refine ⟨fun i hi => ?_, fun x hx => ?_⟩
  · rw [get_bytesWritten, length_beBytes, if_pos (by omega), Nat.add_zero, Nat.add_sub_cancel_left, getD_beBytes n v i hi]
  · rw [get_bytesWritten, length_beBytes, if_neg (by omega)]

theorem pbStore_completes {c : Instr} (s : State) (h : Fin 128) (a v : BitVec 64) (n : Nat) (hRun : s.hartRuns h.val = true)
    (hc : exec c s = answer s (pbStore n h.val a.toNat v.toNat s)) : Completes c s (StoreShown s h a v n) := by
  refine completes_of_answer hc (pbStore_pending _ _ _ _ _) ?_
  rw [pbStore_of_runs s n h.val a.toNat v.toNat hRun]
  refine ⟨fun hIn hReach hAl => ?_, pbOutcome_fault _ _ _, pbOutcome_misaligned _ _ _⟩
  rw [pbOutcome_ok _ _ _ hIn hReach hAl]
  obtain ⟨hBytes, hOthers⟩ := get_stored s.ram a.toNat n v.toNat
  exact ⟨hBytes, hOthers, rfl⟩

/-! ### EQXRD and EQXRDS -/

/-- The state of EQXRD once the hart has kept the instant. -/
def instantKept (s : State) (h : Nat) : State := s.setHart h { s.hart h with eqx := s.now }

theorem eqxrd_of_runs (s : State) (h rd : Nat) (user : Bool) (hRun : s.hartRuns h = true) (hOk : s.eqxOk h user = true) :
    eqxrd h rd user s = (instantKept s h).setX h rd (shortInstant s.now) := by
  simp only [eqxrd, hRun, hOk, Bool.not_true, Bool.false_eq_true, if_false]
  rfl

theorem eqxrds_of_runs (s : State) (h rd : Nat) (user : Bool) (hRun : s.hartRuns h = true) (hOk : s.eqxOk h user = true) :
    eqxrds h rd user s = s.setX h rd ((s.hart h).eqx / 2 ^ 32 % 2 ^ 48) := by
  simp only [eqxrds, hRun, hOk, Bool.not_true, Bool.false_eq_true, if_false]

theorem eqxrd_completes (s : State) (h : Fin 128) (rd : Fin 32) (user : Bool) (hRun : s.hartRuns h.val = true) (hOk : s.eqxOk h.val user = true) :
    Completes (.eqxrd h rd user) s fun t =>
      (t.hart h.val).eqx = s.now ∧ (rd ≠ 0 → KMap.get 0 (t.hart h.val).x rd.val = BitVec.ofNat 64 (s.now % 2 ^ 64)) ∧
      (∀ r, r ≠ rd.val ∨ r = 0 → KMap.get 0 (t.hart h.val).x r = KMap.get 0 (s.hart h.val).x r) ∧ (t.hart h.val).pc = (s.hart h.val).pc ∧
      (∀ k, k ≠ h.val → t.hart k = s.hart k) ∧ { t with harts := s.harts } = s := by
  have hKept : (instantKept s h.val).hart h.val = { s.hart h.val with eqx := s.now } := hart_setHart_same s _ _
  obtain ⟨hEqx, hPc⟩ := hart_setX_rest (instantKept s h.val) h.val rd.val (shortInstant s.now)
  have hFrame := setX_frame (instantKept s h.val) h.val rd.val (shortInstant s.now)
  rw [hKept] at hEqx hPc
  refine completes_of_answer (congrArg (answer s) (eqxrd_of_runs s h.val rd.val user hRun hOk)) (setX_pending _ _ _ _)
    ⟨hEqx, fun hrd => x_setX_same _ _ _ (ne_zero_of_fin hrd), fun r hr => ?_, hPc, fun k hk => ?_, ?_⟩
  · rw [x_setX_ne _ _ _ _ hr, hKept]
  · rw [hart_setX_ne _ _ _ hk, instantKept, hart_setHart_ne _ _ hk]
  · exact congrArg (fun u : State => { u with harts := s.harts }) hFrame

theorem eqxrds_completes (s : State) (h : Fin 128) (rd : Fin 32) (user : Bool) (hRun : s.hartRuns h.val = true) (hOk : s.eqxOk h.val user = true) :
    Completes (.eqxrds h rd user) s fun t =>
      (rd ≠ 0 → KMap.get 0 (t.hart h.val).x rd.val = BitVec.ofNat 64 ((s.hart h.val).eqx / 2 ^ 32 % 2 ^ 48)) ∧ (rd = 0 → t = s) ∧
      (∀ r, r ≠ rd.val → KMap.get 0 (t.hart h.val).x r = KMap.get 0 (s.hart h.val).x r) ∧
      (∀ k, k ≠ h.val → t.hart k = s.hart k) ∧ { t with harts := s.harts } = s := by
  refine completes_of_answer (congrArg (answer s) (eqxrds_of_runs s h.val rd.val user hRun hOk)) (setX_pending _ _ _ _)
    ⟨fun hrd => x_setX_same _ _ _ (ne_zero_of_fin hrd), fun hrd => ?_, fun r hr => x_setX_ne _ _ _ _ (.inl hr),
      fun k hk => hart_setX_ne _ _ _ hk, setX_frame _ _ _ _⟩
  rw [hrd]
  exact setX_zero s _ _

/-- In U mode with EQX_U clear both reads are illegal (R398). -/
theorem eqx_illegal (s : State) (h : Fin 128) (rd : Fin 32) (hRun : s.hartRuns h.val = true)
    (hClear : s.flag (Reg.CPX_DOM_CFG (s.hartDom h.val)) Fld.CPX_DOM_CFG_EQX_U = false) :
    exec (.eqxrd h rd true) s = .next (s.emit (.trap h.val .illegal (s.hart h.val).pc 0)) ∧
    exec (.eqxrds h rd true) s = .next (s.emit (.trap h.val .illegal (s.hart h.val).pc 0)) := by
  have hBad : s.eqxOk h.val true = false := hClear
  have hFirst : eqxrd h.val rd.val true s = s.trap h.val .illegal 0 := by
    simp only [eqxrd, hRun, hBad, Bool.not_true, Bool.not_false, Bool.false_eq_true, if_false, if_true]
  have hSecond : eqxrds h.val rd.val true s = s.trap h.val .illegal 0 := by
    simp only [eqxrds, hRun, hBad, Bool.not_true, Bool.not_false, Bool.false_eq_true, if_false, if_true]
  exact ⟨congrArg (answer s) hFirst, congrArg (answer s) hSecond⟩

/-! ### LADD -/

theorem ladd_of_runs (s : State) (h a v : Nat) (hRun : s.hartRuns h = true) :
    ladd h a v s = if a < ledgerBase ∨ ledgerEnd < a + 8 ∨ a % 8 ≠ 0 ∨ (!s.domReach (s.hartDom h) a 8 true false) = true
      then s.trap h .storeFault a else s.setRamLE a 8 ((s.ramLE a 8 + v) % 2 ^ 64) := by
  unfold ladd
  rw [hRun]
  exact if_neg Bool.false_ne_true

theorem ladd_faults (s : State) (h a v : Nat) (hRun : s.hartRuns h = true)
    (hOut : a < ledgerBase ∨ ledgerEnd < a + 8 ∨ a % 8 ≠ 0 ∨ s.domReach (s.hartDom h) a 8 true false = false) :
    ladd h a v s = s.trap h .storeFault a := by
  rw [ladd_of_runs s h a v hRun, if_pos (by simpa using hOut)]

theorem ladd_adds (s : State) (h a v : Nat) (hRun : s.hartRuns h = true) (hLo : ledgerBase ≤ a) (hHi : a + 8 ≤ ledgerEnd) (hAl : a % 8 = 0)
    (hReach : s.domReach (s.hartDom h) a 8 true false = true) : ladd h a v s = s.setRamLE a 8 ((s.ramLE a 8 + v) % 2 ^ 64) := by
  have hIn : ¬ (a < ledgerBase ∨ ledgerEnd < a + 8 ∨ a % 8 ≠ 0 ∨ (!s.domReach (s.hartDom h) a 8 true false) = true) := by
    rintro (hLow | hHigh | hOdd | hNot)
    · omega
    · omega
    · exact hOdd hAl
    · simp [hReach] at hNot
  rw [ladd_of_runs s h a v hRun, if_neg hIn]

theorem ladd_pending (s : State) (h a v : Nat) : (ladd h a v s).pending = s.pending := by
  have hTrap : (s.trap h .storeFault a).pending = s.pending := rfl
  have hStore (x : Nat) : (s.setRamLE a 8 x).pending = s.pending := rfl
  unfold ladd
  rw [apply_ite State.pending, apply_ite State.pending, hTrap, hStore, ite_self, ite_self]

/-- A ledger takes the sum modulo 2^64, and no other byte changes. -/
theorem ledger_written (s : State) (a v : Nat) :
    (s.setRamLE a 8 (v % 2 ^ 64)).ramLE a 8 = v % 2 ^ 64 ∧
    (∀ x, x < a ∨ a + 8 ≤ x → KMap.get 0 (s.setRamLE a 8 (v % 2 ^ 64)).ram x = KMap.get 0 s.ram x) ∧
    { s.setRamLE a 8 (v % 2 ^ 64) with ram := s.ram } = s := by
  have hPow : 256 ^ 8 = 2 ^ 64 := by norm_num
  refine ⟨by rw [ramLE_setRamLE, hPow, Nat.mod_mod], fun x hx => ?_, rfl⟩
  rw [get_setRamLE, if_neg (by omega)]

theorem ladd_completes (s : State) (h : Fin 128) (a v : BitVec 64) (hRun : s.hartRuns h.val = true) :
    Completes (.ladd h a v) s fun t =>
      (ledgerBase ≤ a.toNat → a.toNat + 8 ≤ ledgerEnd → a.toNat % 8 = 0 → s.domReach (s.hartDom h.val) a.toNat 8 true false = true →
        t.ramLE a.toNat 8 = (s.ramLE a.toNat 8 + v.toNat) % 2 ^ 64 ∧
        (∀ x, x < a.toNat ∨ a.toNat + 8 ≤ x → KMap.get 0 t.ram x = KMap.get 0 s.ram x) ∧ { t with ram := s.ram } = s) ∧
      (a.toNat < ledgerBase ∨ ledgerEnd < a.toNat + 8 ∨ a.toNat % 8 ≠ 0 ∨ s.domReach (s.hartDom h.val) a.toNat 8 true false = false →
        t = s.emit (.trap h.val .storeFault (s.hart h.val).pc a.toNat)) := by
  refine completes_of_answer (t := ladd h.val a.toNat v.toNat s) rfl (ladd_pending _ _ _ _)
    ⟨fun hLo hHi hAl hReach => ?_, ladd_faults s h.val a.toNat v.toNat hRun⟩
  rw [ladd_adds s h.val a.toNat v.toNat hRun hLo hHi hAl hReach]
  exact ledger_written s a.toNat _

/-! ### The statement -/

/-- Every one of these instructions first asks whether the hart runs (R18, R387). -/
theorem exec_of_not_runs (s : State) (h : Fin 128) (rd : Fin 32) (a v : BitVec 64) (u : Bool) (hStill : s.hartRuns h.val = false) :
    ∀ c ∈ [Instr.pblh h rd a, .pblw h rd a, .pbld h rd a, .pbsh h a v, .pbsw h a v, .pbsd h a v, .eqxrd h rd u, .eqxrds h rd u, .ladd h a v],
      exec c s = .next s := by
  have hNot : (!s.hartRuns h.val) = true := by rw [hStill]; rfl
  simp only [List.forall_mem_cons]
  refine ⟨?_, ?_, ?_, ?_, ?_, ?_, ?_, ?_, ?_, List.forall_mem_nil _⟩
  all_goals exact congrArg (answer s) (if_pos hNot)

/-- Settles O39 (an access fault goes before a misaligned address: log entry 37). -/
theorem hartInstructions : Obligations.HartInstructions := by
  unfold Obligations.HartInstructions
  refine ⟨fun s h rd a hRun => ?_, fun s h a v hRun => ?_, fun s h rd user hRun hOk => ⟨eqxrd_completes s h rd user hRun hOk,
    eqxrds_completes s h rd user hRun hOk⟩, eqx_illegal, ladd_completes, exec_of_not_runs⟩
  · simp only [List.forall_mem_cons]
    exact ⟨pbLoad_completes s h rd a 2 hRun rfl, pbLoad_completes s h rd a 4 hRun rfl, pbLoad_completes s h rd a 8 hRun rfl, List.forall_mem_nil _⟩
  · simp only [List.forall_mem_cons]
    exact ⟨pbStore_completes s h a v 2 hRun rfl, pbStore_completes s h a v 4 hRun rfl, pbStore_completes s h a v 8 hRun rfl, List.forall_mem_nil _⟩

end Sys2Proof.Machine.EquinoxTime
end

section
/-! PROOF. Line ports: PORT_CFG_WRITE, PORT_LINK and the verification of preemption (R70, R72, R86). -/

namespace Sys2Proof.Machine.LinePorts
open DeviceOrganisation (completes_of_answer eventReg eventReg_eq_false regsWithin_ownerEvent)

/-! ### Writes of registers alone -/

theorem onlyRegs_trans {l : List Nat} {s t u : State} (h : OnlyRegs l s t) (k : OnlyRegs l t u) : OnlyRegs l s u := by
  obtain ⟨hFirst, hBut⟩ := h
  obtain ⟨hSecond, kBut⟩ := k
  refine ⟨?_, hBut.trans kBut⟩
  calc { u with regs := s.regs } = { { u with regs := t.regs } with regs := s.regs } := rfl
    _ = { t with regs := s.regs } := by rw [hSecond]
    _ = s := hFirst

theorem onlyRegs_mono {l m : List Nat} {s t : State} (h : OnlyRegs l s t) (hl : ∀ a ∈ l, a ∈ m) : OnlyRegs m s t := ⟨h.1, h.2.mono hl⟩

/-! ### The registers of a port -/

theorem portCfg_ne_preStatus (p : Nat) : portCfg p ≠ preStatus p := by
  unfold portCfg preStatus Reg.PORT_CFG Reg.PORT_PRE_STATUS
  omega

theorem portCfg_ne_portStatus (p : Nat) : portCfg p ≠ portStatus p := by
  unfold portCfg portStatus Reg.PORT_CFG Reg.PORT_STATUS
  omega

theorem portCfg_ne_groupStatus (p : Nat) : portCfg p ≠ Reg.PORT_GROUP_STATUS (p / 8) := by
  unfold portCfg Reg.PORT_CFG Reg.PORT_GROUP_STATUS
  omega

theorem portStatus_ne_groupStatus (p : Nat) : portStatus p ≠ Reg.PORT_GROUP_STATUS (p / 8) := by
  unfold portStatus Reg.PORT_STATUS Reg.PORT_GROUP_STATUS
  omega

/-- The configuration words of the ports lie outside the registers of the event rings. -/
theorem eventReg_portCfg (p : Fin 128) : eventReg (portCfg p.val) = false := by
  have hp := p.isLt
  rw [eventReg_eq_false]
  unfold portCfg Reg.PORT_CFG
  omega

/-! ### The verify state (R86) -/

theorem verify_setVerify (s : State) (p : Nat) {v : Nat} (hv : v < 8) : (s.setVerify p v).verify p = v := by
  rw [State.verify, State.setVerify, State.fld_setFld_same _ _ _ _ (by decide)]
  exact Nat.mod_eq_of_lt hv

theorem onlyRegs_setVerify (s : State) (p v : Nat) : OnlyRegs [preStatus p] s (s.setVerify p v) :=
  OnlyRegs.setFld [_] _ _ _ _ (List.mem_singleton_self _)

/-- No attempt is made and none is waited for. -/
def attemptsCleared (p : Nat) (s : State) : State :=
  { s with port := { s.port with tries := KMap.set 0 s.port.tries p 0, due := KMap.set 0 s.port.due p 0 } }

theorem restartVerify_eq (s : State) (p : Nat) : ∃ v, s.restartVerify p = (attemptsCleared p s).setVerify p v :=
  ⟨_, (apply_ite ((attemptsCleared p s).setVerify p) _ _ _).symm⟩

/-- A restart of verification leaves all but the port's attempts and its verify state. -/
theorem restartVerify_frame (s : State) (p : Nat) :
    { s.restartVerify p with regs := s.regs, port := s.port } = s ∧ RegsBut [preStatus p] s (s.restartVerify p) := by
  obtain ⟨v, hv⟩ := restartVerify_eq s p
  rw [hv]
  exact ⟨rfl, (onlyRegs_setVerify _ p v).2⟩

/-! ### PORT_CFG_WRITE (R70) -/

/-- The word is taken, and verification starts over where PREEMPT_EN changes. -/
def cfgTaken (p : Nat) (w : Word) (s : State) : State :=
  if Fld.PORT_CFG_PREEMPT_EN.get (s.reg (portCfg p)) ≠ Fld.PORT_CFG_PREEMPT_EN.get w then (s.setReg (portCfg p) w).restartVerify p
  else s.setReg (portCfg p) w

theorem cfgTaken_effect (p : Nat) (w : Word) (s : State) :
    (cfgTaken p w s).reg (portCfg p) = w ∧ RegsBut [portCfg p, preStatus p] s (cfgTaken p w s) ∧
    { cfgTaken p w s with regs := s.regs, port := s.port } = s := by
  have hWord : RegsBut [portCfg p, preStatus p] s (s.setReg (portCfg p) w) := RegsBut.setReg _ _ _ _ List.mem_cons_self
  unfold cfgTaken
  split
  · obtain ⟨hFrame, hBut⟩ := restartVerify_frame (s.setReg (portCfg p) w) p
    refine ⟨?_, hWord.trans (hBut.mono fun _ => List.mem_cons_of_mem _), congrArg (fun u : State => { u with regs := s.regs }) hFrame⟩
    rw [hBut _ (mt List.mem_singleton.1 (portCfg_ne_preStatus p)), State.reg_setReg_same]
  · exact ⟨State.reg_setReg_same _ _ _, hWord, rfl⟩

/-- The OTN ports' memory is as given. -/
def withOtn (o : KMap OtnPort) (s : State) : State := { s with otn := o }

/-- On a port not enabled no frame is cut; beyond the word taken, only a started OTN port gets a framer anew. -/
theorem portCfgWrite_of_disabled (s : State) (p : Nat) (v : Word) (hEn : s.portEn p = false) (hLegal : s.portRefused p v = false) :
    ∃ o, portCfgWrite p v s = withOtn o (cfgTaken p (v &&& 0xFFFC7FFF) s) := by
  have hRuns : ¬ s.portRefused p v = true := by simp [hLegal]
  have hNoStop (b : Bool) : ¬ (Fld.PORT_CFG_EN.get (s.reg (portCfg p)) == 1 && b) = true := by
    rw [State.portEn, State.flag, State.fld] at hEn
    simp [hEn]
  rw [portCfgWrite, if_neg hRuns]
  extract_lets w nw stop start s1 s2 s3
  have hUncut : s1 = s := if_neg (hNoStop _)
  have hWord : cfgTaken p (v &&& 0xFFFC7FFF) s = s3 := by
    simp only [s3, s2, hUncut]
    rfl
  rw [hWord]
  split
  · exact ⟨_, rfl⟩
  · exact ⟨s3.otn, rfl⟩

theorem portCfgWrite_taken (s : State) (p : Fin 128) (v : BitVec 32) (hUp : s.fdieUp = true) (hEn : s.portEn p = false)
    (hLegal : s.portRefused p v = false) :
    Completes (.portCfgWrite p v) s fun t =>
      t.reg (portCfg p) = v &&& 0xFFFC7FFF ∧ RegsBut [portCfg p, preStatus p] s t ∧
      { t with regs := s.regs, port := s.port, otn := s.otn } = s := by
  obtain ⟨o, hEq⟩ := portCfgWrite_of_disabled s p.val v hEn hLegal
  obtain ⟨hWord, hBut, hFrame⟩ := cfgTaken_effect p.val (v &&& 0xFFFC7FFF) s
  exact completes_of_answer (congrArg (answer s) ((if_pos hUp).trans hEq)) (congrArg State.pending hFrame :)
    ⟨hWord, hBut, congrArg (fun u : State => { u with otn := s.otn }) hFrame⟩

theorem portCfgWrite_refused (s : State) (p : Fin 128) (v : BitVec 32) (hUp : s.fdieUp = true) (hRefused : s.portRefused p v = true) :
    Completes (.portCfgWrite p v) s fun t =>
      t.flag (portStatus p) Fld.PORT_STATUS_CFG_REFUSED = true ∧ OnlyRegs [portStatus p] s t :=
  completes_of_answer (congrArg (answer s) ((if_pos hUp).trans (if_pos hRefused))) rfl
    ⟨State.flag_setFlag_same _ _ _ _ (by decide), OnlyRegs.setFlag [_] _ _ _ _ (List.mem_singleton_self _)⟩

/-! ### PORT_LINK (R72) -/

/-- LINK_UP and LINK_EVT are set. -/
def linkRisen (p : Nat) (s : State) : State :=
  (s.setFlag (portStatus p) Fld.PORT_STATUS_LINK_UP true).setFlag (portStatus p) Fld.PORT_STATUS_LINK_EVT true

theorem linkRisen_flags (p : Nat) (s : State) :
    (linkRisen p s).linkUp p = true ∧ (linkRisen p s).flag (portStatus p) Fld.PORT_STATUS_LINK_EVT = true := by
  refine ⟨?_, State.flag_setFlag_same _ _ _ _ (by decide)⟩
  rw [State.linkUp, linkRisen, State.flag_setFlag_other _ _ _ _ _ (by decide) (by decide) (by decide)]
  exact State.flag_setFlag_same _ _ _ _ (by decide)

theorem onlyRegs_linkRisen (p : Nat) (s : State) : OnlyRegs [portStatus p] s (linkRisen p s) :=
  ⟨rfl, .trans (.setFlag [_] _ _ _ _ (List.mem_singleton_self _)) (.setFlag [_] _ _ _ _ (List.mem_singleton_self _))⟩

theorem preEn_linkRisen (p : Nat) (s : State) : (linkRisen p s).preEn p = s.preEn p := by
  rw [State.preEn, State.flag, State.fld, (onlyRegs_linkRisen p s).2 _ (mt List.mem_singleton.1 (portCfg_ne_portStatus p))]
  rfl

/-- Event PORT_LINK with 1 for up goes to the device owner. -/
def riseReported (p : Nat) (s : State) : State := s.ownerEvent 0x0101 1 (p / 8) p [1]

theorem preEn_riseReported (p : Fin 128) (s : State) : (riseReported p s).preEn p = s.preEn p :=
  (regsWithin_ownerEvent s _ _ _ _ _).flag (eventReg_portCfg p) _

/-- A link that comes up without preemption is reported, and no more. -/
theorem linkSet_up (s : State) (p : Fin 128) (hDown : s.linkUp p = false) (hPre : s.preEn p = false) :
    s.linkSet p true = riseReported p (linkRisen p s) := by
  have hChange : ¬ (s.linkUp p == true) = true := by simp [hDown]
  have hUnverified (b : Bool) : ¬ ((riseReported p (linkRisen p s)).preEn p && b) = true := by
    rw [preEn_riseReported, preEn_linkRisen, hPre]
    exact Bool.false_ne_true
  rw [State.linkSet, if_neg hChange]
  exact (if_pos rfl).trans (if_neg (hUnverified _))

/-- The lanes' signal, the locks of FEC and PCS and the faults as they are seen. -/
def statusSeen (p : Nat) (l : LinkIn) (s : State) : State :=
  ((((s.setFld (Reg.PORT_GROUP_STATUS (p / 8)) Fld.PORT_GROUP_STATUS_LANE_SIG l.sig.toNat).setFlag (portStatus p) Fld.PORT_STATUS_FEC_LOCK
    l.fec).setFlag (portStatus p) Fld.PORT_STATUS_PCS_LOCK l.pcs).setFlag (portStatus p) Fld.PORT_STATUS_LOCAL_FAULT l.localFault).setFlag
    (portStatus p) Fld.PORT_STATUS_REMOTE_FAULT l.remoteFault

theorem onlyRegs_statusSeen (p : Nat) (l : LinkIn) (s : State) : OnlyRegs [portStatus p, Reg.PORT_GROUP_STATUS (p / 8)] s (statusSeen p l s) := by
  have hFlag (u : State) (f : Fld) (b : Bool) : RegsBut [portStatus p, Reg.PORT_GROUP_STATUS (p / 8)] u (u.setFlag (portStatus p) f b) :=
    .setFlag _ _ _ _ _ List.mem_cons_self
  have hGroup : RegsBut [portStatus p, Reg.PORT_GROUP_STATUS (p / 8)] s
      (s.setFld (Reg.PORT_GROUP_STATUS (p / 8)) Fld.PORT_GROUP_STATUS_LANE_SIG l.sig.toNat) := .setFld _ _ _ _ _ (by simp)
  exact ⟨rfl, (((hGroup.trans (hFlag _ _ _)).trans (hFlag _ _ _)).trans (hFlag _ _ _)).trans (hFlag _ _ _)⟩

theorem reg_portCfg_statusSeen (p : Nat) (l : LinkIn) (s : State) : (statusSeen p l s).reg (portCfg p) = s.reg (portCfg p) :=
  (onlyRegs_statusSeen p l s).2 _ (by simp [portCfg_ne_portStatus, portCfg_ne_groupStatus])

/-- LINK_UP is none of the bits that show the locks and faults. -/
theorem linkUp_statusSeen (p : Nat) (l : LinkIn) (s : State) : (statusSeen p l s).linkUp p = s.linkUp p := by
  have hFlag (u : State) (f : Fld) (b : Bool) (hf : f.lo + f.width ≤ 32) (hAbove : 1 ≤ f.lo) :
      (u.setFlag (portStatus p) f b).linkUp p = u.linkUp p :=
    State.flag_setFlag_other _ _ _ _ _ hf (by decide) (.inr hAbove)
  rw [statusSeen, hFlag _ _ _ (by decide) (by decide), hFlag _ _ _ (by decide) (by decide), hFlag _ _ _ (by decide) (by decide),
    hFlag _ _ _ (by decide) (by decide), State.linkUp, State.flag, State.fld_setFld_ne _ _ _ _ _ _ (portStatus_ne_groupStatus p)]
  rfl

theorem portLink_of_ethernet (s : State) (p : Nat) (l : LinkIn) (hUp : s.fdieUp = true) (hEn : s.portEn p = true) (hOtn : s.portOtn p = false) :
    portLink p l s = ((statusSeen p l s).linkSet p (l.pcs && l.fec && !l.localFault && !l.remoteFault)).rclkNote := by
  have hKind : (((s.setFld (Reg.PORT_GROUP_STATUS (p / 8)) Fld.PORT_GROUP_STATUS_LANE_SIG l.sig.toNat).setFlag (portStatus p)
      Fld.PORT_STATUS_FEC_LOCK l.fec).portOtn p) = false := by
    rw [State.portOtn, State.setFlag, State.fld_setFld_ne _ _ _ _ _ _ (portCfg_ne_portStatus p),
      State.fld_setFld_ne _ _ _ _ _ _ (portCfg_ne_groupStatus p)]
    exact hOtn
  simp only [portLink, hUp, hEn, hKind, Bool.not_true, Bool.false_eq_true, if_false, Bool.true_and]
  rfl

theorem portLink_rises (s : State) (p : Fin 128) (l : LinkIn) (hUp : s.fdieUp = true) (hEn : s.portEn p = true) (hOtn : s.portOtn p = false)
    (hDown : s.linkUp p = false) (hPre : s.preEn p = false) (hPcs : l.pcs = true) (hFec : l.fec = true) (hLocal : l.localFault = false)
    (hRemote : l.remoteFault = false) :
    Completes (.portLink p l) s fun t => ∃ u : State,
      t = { (u.ownerEvent 0x0101 1 (p.val / 8) p.val [1]).rclkNote with pending := s.pending } ∧ u.linkUp p = true ∧
      u.flag (portStatus p) Fld.PORT_STATUS_LINK_EVT = true ∧ OnlyRegs [portStatus p, Reg.PORT_GROUP_STATUS (p.val / 8)] s u := by
  have hSeenPre : (statusSeen p l s).preEn p = false := by
    rw [State.preEn, State.flag, State.fld, reg_portCfg_statusSeen]
    exact hPre
  have hEq : portLink p l s = (riseReported p (linkRisen p (statusSeen p l s))).rclkNote := by
    rw [portLink_of_ethernet s p l hUp hEn hOtn, hPcs, hFec, hLocal, hRemote]
    exact congrArg State.rclkNote (linkSet_up _ p ((linkUp_statusSeen p l s).trans hDown) hSeenPre)
  obtain ⟨hLink, hEvt⟩ := linkRisen_flags p.val (statusSeen p l s)
  have hStatus : OnlyRegs [portStatus p, Reg.PORT_GROUP_STATUS (p.val / 8)] s (linkRisen p (statusSeen p l s)) :=
    onlyRegs_trans (onlyRegs_statusSeen p l s) (onlyRegs_mono (onlyRegs_linkRisen p _) (by simp))
  have hExec : exec (.portLink p l) s = answer s (riseReported p (linkRisen p (statusSeen p l s))).rclkNote := congrArg (answer s) hEq
  exact ⟨_, hExec, linkRisen p (statusSeen p l s), rfl, hLink, hEvt, hStatus⟩

/-! ### The verification of preemption (R86) -/

/-- A verify mPacket goes out: the attempt is counted, the next waits for VERIFY_TIME, and the state is VERIFYING. -/
def verifySent (p : Nat) (s : State) : State :=
  State.emit (State.setVerify
    { s with
      port :=
        { s.port with
          tries := KMap.set 0 s.port.tries p (KMap.get 0 s.port.tries p + 1)
          due := KMap.set 0 s.port.due p (s.mono + msSpan (max 1 (s.fld (preCfg p) Fld.PORT_PRE_CFG_VERIFY_TIME))) } } p vfVerifying) (.verify p)

theorem verify_verifySent (p : Nat) (s : State) : (verifySent p s).verify p = 1 := verify_setVerify _ p (by decide)

theorem preemptVerifySend_of_due (s : State) (p : Nat) (hMac : s.macOn p = true) (hPre : s.preEn p = true) (hLink : s.linkUp p = true)
    (hState : s.verify p < 2) (hDue : KMap.get 0 s.port.due p ≤ s.mono) :
    preemptVerifySend p s = if 3 ≤ KMap.get 0 s.port.tries p then s.setVerify p vfFailed else verifySent p s := by
  have hOpen : ¬ (s.verify p ≠ vfInit ∧ s.verify p ≠ vfVerifying) := by
    unfold vfInit vfVerifying
    omega
  simp only [preemptVerifySend, hMac, hPre, hLink, decide_eq_false hOpen, decide_eq_false hDue.not_gt, Bool.and_self, Bool.not_true, Bool.or_self,
    Bool.false_eq_true, if_false]
  rfl

theorem preemptVerifySend_sends (s : State) (p : Fin 128) (hMac : s.macOn p = true) (hPre : s.preEn p = true) (hLink : s.linkUp p = true)
    (hState : s.verify p < 2) (hDue : KMap.get 0 s.port.due p ≤ s.mono) (hTries : KMap.get 0 s.port.tries p < 3) :
    Completes (.preemptVerifySend p) s fun t =>
      t.verify p = 1 ∧ KMap.get 0 t.port.tries p = KMap.get 0 s.port.tries p + 1 ∧ t.out = s.out ++ [.verify p] ∧
      { t with port := s.port, regs := s.regs, out := s.out } = s ∧ RegsBut [preStatus p] s t := by
  have hEq : preemptVerifySend p s = verifySent p s :=
    (preemptVerifySend_of_due s p hMac hPre hLink hState hDue).trans (if_neg hTries.not_ge)
  exact completes_of_answer (congrArg (answer s) hEq) rfl
    ⟨verify_verifySent p s, KMap.get_set_same _ _ _ _, rfl, rfl, (onlyRegs_setVerify _ p vfVerifying).2⟩

theorem preemptVerifySend_fails (s : State) (p : Fin 128) (hMac : s.macOn p = true) (hPre : s.preEn p = true) (hLink : s.linkUp p = true)
    (hState : s.verify p < 2) (hDue : KMap.get 0 s.port.due p ≤ s.mono) (hTries : 3 ≤ KMap.get 0 s.port.tries p) :
    Completes (.preemptVerifySend p) s fun t => t.verify p = 3 ∧ OnlyRegs [preStatus p] s t := by
  have hEq : preemptVerifySend p s = s.setVerify p vfFailed :=
    (preemptVerifySend_of_due s p hMac hPre hLink hState hDue).trans (if_pos hTries)
  exact completes_of_answer (congrArg (answer s) hEq) rfl ⟨verify_setVerify s p (by decide), onlyRegs_setVerify s p vfFailed⟩

theorem preemptVerifyResponse_succeeds (s : State) (p : Fin 128) (hMac : s.macOn p = true) (hPre : s.preEn p = true) (hState : s.verify p = 1) :
    Completes (.preemptVerifyResponse p) s fun t => t.verify p = 2 ∧ OnlyRegs [preStatus p] s t := by
  have hEq : preemptVerifyResponse p s = s.setVerify p vfSucceeded := if_pos (by rw [hMac, hPre, hState]; rfl)
  exact completes_of_answer (congrArg (answer s) hEq) rfl ⟨verify_setVerify s p (by decide), onlyRegs_setVerify s p vfSucceeded⟩

/-- Settles O7, a lemma for each command: the port's registers lie apart from each other and from those that an event writes. -/
theorem portConfiguration : Obligations.PortConfiguration := by
  unfold Obligations.PortConfiguration
  exact ⟨portCfgWrite_taken, portCfgWrite_refused, portLink_rises, preemptVerifySend_sends, preemptVerifySend_fails,
    preemptVerifyResponse_succeeds⟩

end Sys2Proof.Machine.LinePorts
end

section
/-! PROOF. OTN ports: the framer's memory, and the registers that a command on an OTN port leaves alone (R97, R109, R118). -/

namespace Sys2Proof.Machine.OtnFramer
open DeviceOrganisation (RegsWithin foldl_rel eventReg eventReg_eq_false giveBack_eq forget_eq)
open LinePorts (attemptsCleared)

/-! ### The framers' memory -/

@[simp] theorem otnP_setOtnP_same (s : State) (p : Nat) (o : OtnPort) : (s.setOtnP p o).otnP p = o := KMap.get_set_same _ _ _ _

theorem otnP_setOtnP_ne (s : State) {p q : Nat} (o : OtnPort) (h : q ≠ p) : (s.setOtnP p o).otnP q = s.otnP q := KMap.get_set_ne _ _ _ _ _ _ h

@[simp] theorem inst_setInst_same (o : OtnPort) (m : Nat) (x : OtnInst) : (o.setInst m x).inst m = x := KMap.get_set_same _ _ _ _

theorem inst_setInst_ne (o : OtnPort) {m k : Nat} (x : OtnInst) (h : k ≠ m) : (o.setInst m x).inst k = o.inst k := KMap.get_set_ne _ _ _ _ _ _ h

/-! ### The registers outside the OTN blocks (R118) -/

/-- The OTN registers of a lane group's ports fill 8 KiB of its slice cluster; all other registers lie outside. -/
def besideOtn (a : Nat) : Bool := decide (a % 0x400000 < 0x5000) || decide (0x7000 ≤ a % 0x400000)

theorem besideOtn_iff {a : Nat} : besideOtn a = true ↔ a % 0x400000 < 0x5000 ∨ 0x7000 ≤ a % 0x400000 := by simp [besideOtn]

theorem besideOtn_otnStatus (p : Nat) : besideOtn (otnStatus p) = false := by
  rw [← Bool.not_eq_true, besideOtn_iff]
  unfold otnStatus Reg.OTN_STATUS
  omega

theorem besideOtn_eventReg (a : Nat) (h : eventReg a = true) : besideOtn a = true := by
  by_contra hIn
  rw [besideOtn_iff] at hIn
  have hNoEvent : eventReg a = false := by
    rw [eventReg_eq_false]
    omega
  simp [hNoEvent] at h

theorem besideOtn_ctr (c : Ctr) (hLo : c.lo % 0x400000 + 4 < 0x5000 ∨ 0x7000 ≤ c.lo % 0x400000 ∧ c.lo % 0x400000 + 4 < 0x400000)
    (hOvf : besideOtn c.ovf = true) : ∀ a ∈ c.regs, besideOtn a = true := by
  simp only [Ctr.regs, List.mem_cons, List.not_mem_nil, or_false, forall_eq_or_imp, forall_eq, besideOtn_iff] at hOvf ⊢
  omega

theorem besideOtn_portStatus (p : Nat) : besideOtn (portStatus p) = true := by
  rw [besideOtn_iff]
  unfold portStatus Reg.PORT_STATUS
  omega

theorem besideOtn_preStatus (p : Nat) : besideOtn (preStatus p) = true := by
  rw [besideOtn_iff]
  unfold preStatus Reg.PORT_PRE_STATUS
  omega

/-- The counters of receive errors are those of the line ports and of the inline crypto. -/
theorem besideOtn_rxCtr (port : Nat) (e : RxErr) : ∀ a ∈ (rxCtr port e).regs, besideOtn a = true := by
  have hPort : port % 8 < 8 := Nat.mod_lt _ (by decide)
  cases e with
  | icv => exact (by decide : ∀ a ∈ Ctr.ICR_RX_ICV_FAIL.regs, besideOtn a = true)
  | fcs | mac | preAsm | oversize =>
    refine besideOtn_ctr _ ?_ (besideOtn_iff.2 ?_)
    all_goals
      simp only [rxCtr, Ctr.PORT_RX_FCS_ERR, Ctr.PORT_RX_MAC_ERR, Ctr.PORT_RX_PRE_ASM_ERR, Ctr.PORT_RX_OVERSIZE]
      omega

/-- The other counters of a line port and its slice that the end of a frame, or of a link, can raise. -/
theorem besideOtn_portCtr (port slice : Nat) :
    ∀ c ∈ [Ctr.PORT_RX_TAIL_BAD (port / 8) (port % 8), Ctr.PORT_RX_COMMIT_OCTETS (port / 8) (port % 8), Ctr.PORT_TX_ABORT (port / 8) (port % 8),
      Ctr.FWH_SETTLE slice, Ctr.FWH_LEARN_DISCARD slice, Ctr.PAT_INSPECT, Ctr.PAT_TAIL_BAD], ∀ a ∈ c.regs, besideOtn a = true := by
  have hPort : port % 8 < 8 := Nat.mod_lt _ (by decide)
  simp only [List.mem_cons, List.not_mem_nil, or_false, forall_eq_or_imp, forall_eq]
  refine ⟨?_, ?_, ?_, ?_, ?_, ?_, ?_⟩
  all_goals
    refine besideOtn_ctr _ ?_ (besideOtn_iff.2 ?_)
    all_goals
      simp only [Ctr.PORT_RX_TAIL_BAD, Ctr.PORT_RX_COMMIT_OCTETS, Ctr.PORT_TX_ABORT, Ctr.FWH_SETTLE, Ctr.FWH_LEARN_DISCARD, Ctr.PAT_INSPECT,
        Ctr.PAT_TAIL_BAD]
      omega

/-! ### The end of a frame in reception (R78, R79, R113) -/

theorem regs_settle (s : State) (k : IPkt) (len : Nat) (good : Bool) : RegsWithin besideOtn s (s.settle k len good) := by
  refine foldl_rel (R := RegsWithin besideOtn) (RegsWithin.refl _) (fun _ _ _ => RegsWithin.trans) _ (fun u x _ => ?_) s
  have hBack (n : Int) : RegsWithin besideOtn u (u.giveBack k.slice x n true) := .of_regs rfl
  have hMore (n : Int) : RegsWithin besideOtn u (u.takeMore k.slice x n) := .of_regs rfl
  have hSettle := besideOtn_portCtr k.port k.slice (Ctr.FWH_SETTLE k.slice) (by simp)
  dsimp only
  split_ifs
  · exact .refl _ _
  · exact (hBack _).bump hSettle
  · exact (hMore _).bump hSettle
  · exact (hBack _).bump hSettle

theorem regs_learnTail_bad (s : State) (p : Nat) (k : IPkt) : RegsWithin besideOtn s (s.learnTail p k false) := by
  rw [State.learnTail]
  split
  · exact .refl _ _
  · exact RegsWithin.bump (.of_regs rfl) (besideOtn_portCtr k.port k.slice _ (by simp))

theorem regs_patFree (s : State) (i c : Nat) : RegsWithin besideOtn s (s.patFree i c) := by
  rw [State.patFree]
  split
  · exact .of_regs rfl
  · exact RegsWithin.bump (.of_regs rfl) (besideOtn_portCtr 0 0 _ (by simp))

theorem regs_patTail_bad (s : State) (p : Nat) (payload : List Byte) : RegsWithin besideOtn s (s.patTail p payload false) := by
  have hTailBad : ∀ a ∈ Ctr.PAT_TAIL_BAD.regs, besideOtn a = true := besideOtn_portCtr 0 0 _ (by simp)
  simp only [State.patTail, Bool.false_eq_true, if_false]
  split
  · exact (regs_patFree _ _ _).bump hTailBad
  · split
    · exact RegsWithin.bump (.of_regs rfl) hTailBad
    · split
      · exact RegsWithin.bump (.of_regs rfl) hTailBad
      · exact .refl _ _

theorem regs_demandAfter (s old : State) : RegsWithin besideOtn s (s.demandAfter old) := by
  rw [State.demandAfter]
  split
  · exact .refl _ _
  · refine foldl_rel (R := RegsWithin besideOtn) (RegsWithin.refl _) (fun _ _ _ => RegsWithin.trans) _ (fun u d _ => ?_) s
    rw [State.sendDemand]
    split
    · exact .refl _ _
    · exact .of_regs rfl

theorem regs_rxError (s : State) (p : Nat) (k : IPkt) (e : RxErr) : RegsWithin besideOtn s (s.rxError p k e) := by
  have hCtr := besideOtn_rxCtr k.port e
  rw [State.rxError]
  split_ifs
  · obtain ⟨_, _, _, _, hForget⟩ := forget_eq s p k
    exact RegsWithin.bump (.of_regs (by rw [hForget])) hCtr
  · exact .refl _ _
  · exact RegsWithin.bump (RegsWithin.bump (.of_regs rfl) hCtr) (besideOtn_portCtr k.port k.slice _ (by simp))

theorem regs_tailCommitted_bad (s : State) (p : Nat) (k : IPkt) (len : Nat) : RegsWithin besideOtn s (s.tailCommitted p k len false) := by
  have hLine : RegsWithin besideOtn s (if k.line then s.bump (Ctr.PORT_RX_COMMIT_OCTETS (k.port / 8) (k.port % 8)) len else s) := by
    split
    · exact (RegsWithin.refl _ _).bump (besideOtn_portCtr k.port k.slice _ (by simp))
    · exact .refl _ _
  unfold State.tailCommitted
  extract_lets j s1 s2 s3 s4 k1
  have hLearn : RegsWithin besideOtn s s2 := (hLine.trans (regs_settle _ k len false)).trans (regs_learnTail_bad _ p k)
  have hPat : RegsWithin besideOtn s s3 := hLearn.trans (regs_patTail_bad _ p _)
  have hSpread : RegsWithin besideOtn s3 (s3.spread p k false) := .of_regs rfl
  have hDemand : RegsWithin besideOtn s s4 := (hPat.trans hSpread).trans (regs_demandAfter (s3.spread p k false) s3)
  clear_value s4
  rw [if_neg Bool.false_ne_true]
  split
  · exact hDemand.trans (.of_regs rfl)
  · exact hDemand.trans (.of_regs rfl)

theorem regs_tailArrives_error (s : State) (p : Nat) (k : IPkt) (all : List Byte) (len : Nat) (e : RxErr) :
    RegsWithin besideOtn s (s.tailArrives p k all len (some e)) := by
  unfold State.tailArrives
  cases hErr : k.err with
  | some _ => exact regs_tailCommitted_bad _ _ _ _
  | none =>
    dsimp only
    split
    · exact (regs_rxError s p _ e).trans (regs_tailCommitted_bad _ _ _ _)
    · exact regs_rxError s p _ e

/-- A frame in reception that an error ends touches no register of the OTN blocks. -/
theorem regs_rxTail_error (s : State) (p : Nat) (pre : Bool) (rest : List Byte) (e : RxErr) :
    RegsWithin besideOtn s (s.rxTail p pre rest (some e)) := by
  have hEnd : RegsWithin besideOtn s (s.endRx p pre) := .of_regs rfl
  have hEither (b : Bool) (x : RxErr) : ∃ y, (if b then some RxErr.oversize else some x) = some y := by cases b <;> exact ⟨_, rfl⟩
  rw [State.rxTail]
  split
  · exact .refl _ _
  case _ n k _ =>
    extract_lets all isOver fr e1 body s1
    obtain ⟨y, hy⟩ : ∃ y, e1 = some y := hEither _ _
    rw [hy]
    split
    · exact hEnd.trans (regs_tailArrives_error _ _ _ _ _ _)
    · dsimp only
      exact (hEnd.trans (.of_regs rfl)).trans (regs_tailArrives_error _ _ _ _ _ _)

/-! ### The link's state (R72, R109) -/

/-- Neither the framers' memory nor a register of the OTN blocks changes. -/
def OtnKept (s t : State) : Prop := t.otn = s.otn ∧ RegsWithin besideOtn s t

theorem OtnKept.refl (s : State) : OtnKept s s := ⟨rfl, .refl _ _⟩

theorem OtnKept.trans {s t u : State} (h : OtnKept s t) (k : OtnKept t u) : OtnKept s u := ⟨k.1.trans h.1, h.2.trans k.2⟩

theorem otnKept_cutTx1 (s : State) (p : Nat) (pre : Bool) : OtnKept s (s.cutTx1 p pre) := by
  rw [State.cutTx1]
  split
  · exact ⟨State.bump_otn _ _ _, RegsWithin.bump (.of_regs rfl) (besideOtn_portCtr p 0 _ (by simp))⟩
  · exact .refl s

theorem otnKept_setVerify (s : State) (p v : Nat) : OtnKept s (s.setVerify p v) :=
  ⟨State.setFld_otn _ _ _ _, (RegsWithin.refl _ s).setFld (besideOtn_preStatus p)⟩

theorem otnKept_attemptsCleared (s : State) (p : Nat) : OtnKept s (attemptsCleared p s) := ⟨rfl, .of_regs rfl⟩

/-- A change of LINK_UP is reported with event PORT_LINK. -/
theorem otnKept_linkReported (s : State) (p : Nat) (up : Bool) : OtnKept s
    (((s.setFlag (portStatus p) Fld.PORT_STATUS_LINK_UP up).setFlag (portStatus p) Fld.PORT_STATUS_LINK_EVT true).ownerEvent 0x0101 1 (p / 8) p
      (beBytes 1 up.toNat)) :=
  ⟨by simp, (((RegsWithin.refl _ s).setFlag (besideOtn_portStatus p)).setFlag (besideOtn_portStatus p)).ownerEvent besideOtn_eventReg⟩

theorem otnKept_linkSet (s : State) (p : Nat) (up : Bool) : OtnKept s (s.linkSet p up) := by
  have hShown := otnKept_linkReported s p up
  unfold State.linkSet
  split
  · exact .refl s
  · extract_lets s1 s2 s3
    have hCut : OtnKept s s3 := (hShown.trans (otnKept_cutTx1 _ p false)).trans (otnKept_cutTx1 _ p true)
    have hReset : OtnKept s3 ((attemptsCleared p s3).setVerify p vfInit) := (otnKept_attemptsCleared s3 p).trans (otnKept_setVerify _ p _)
    split_ifs
    · exact hShown.trans (otnKept_setVerify _ p _)
    · exact hShown
    · exact hCut.trans hReset
    · exact hCut

/-! ### The status that follows from the framers (R97, R109) -/

/-- The port's part of the status: PCS_LOCK and the fault bits, and the link with IN_SERVICE. -/
theorem otnKept_portShown (s : State) (p : Nat) (lock fault remote up : Bool) : OtnKept s
    ((((s.setFlag (portStatus p) Fld.PORT_STATUS_PCS_LOCK lock).setFlag (portStatus p) Fld.PORT_STATUS_LOCAL_FAULT fault).setFlag (portStatus p)
      Fld.PORT_STATUS_REMOTE_FAULT remote).linkSet p up) := by
  refine OtnKept.trans ⟨?_, ?_⟩ (otnKept_linkSet _ p up)
  · simp only [State.setFlag_otn]
  · exact (((RegsWithin.refl _ s).setFlag (besideOtn_portStatus p)).setFlag (besideOtn_portStatus p)).setFlag (besideOtn_portStatus p)

@[simp] theorem otnRefresh_otn (s : State) (p : Nat) : (s.otnRefresh p).otn = s.otn := by
  unfold State.otnRefresh
  extract_lets l n word svc s1
  refine (otnKept_portShown s1 p _ _ _ svc).1.trans ?_
  simp only [s1, State.setFlag_otn, State.setReg_otn]

@[simp] theorem otnRefresh_otnP (s : State) (p q : Nat) : (s.otnRefresh p).otnP q = s.otnP q := by rw [State.otnP, otnRefresh_otn, State.otnP]

theorem otnStatus_ne_instStatus (p : Nat) : otnStatus p ≠ Reg.OTN_INST_STATUS (p / 8) (p % 8) := by
  unfold otnStatus Reg.OTN_STATUS Reg.OTN_INST_STATUS
  omega

/-- A refresh moves IN_SERVICE, and no other bit of OTN_STATUS. -/
theorem flag_otnRefresh (s : State) (p : Nat) (f : Fld) (hf : f.lo + f.width ≤ 32)
    (hOther : f.lo + f.width ≤ Fld.OTN_STATUS_IN_SERVICE.lo ∨ Fld.OTN_STATUS_IN_SERVICE.lo + Fld.OTN_STATUS_IN_SERVICE.width ≤ f.lo) :
    (s.otnRefresh p).flag (otnStatus p) f = s.flag (otnStatus p) f := by
  unfold State.otnRefresh
  extract_lets l n word svc s1
  rw [(otnKept_portShown s1 p _ _ _ svc).2.flag (besideOtn_otnStatus p), State.flag_setFlag_other _ _ _ _ _ (by decide) hf hOther.symm, State.flag,
    State.fld, State.reg_setReg_ne _ _ _ _ (otnStatus_ne_instStatus p)]
  rfl

end Sys2Proof.Machine.OtnFramer
end

section
/-! PROOF. O9: the OTN ports' configuration, frame search and lock, received frames, deskew and defects (R93 to R106). -/

namespace Sys2Proof.Machine.OtnFramer
open EquinoxTime (completes_answer)
open DeviceOrganisation (completes_of_answer RegsWithin regsWithin_ownerEvent)

/-! ### OTN_CFG_WRITE (R93) -/

theorem otnCfgWrite_completes (s : State) (p : Fin 128) (v : BitVec 32) (hUp : s.fdieUp = true) :
    Completes (.otnCfgWrite p v) s fun t =>
      (s.portEn p.val = false → t.reg (otnCfg p.val) = v &&& 0x1F ∧ OnlyRegs [otnCfg p.val] s t) ∧
      (s.portEn p.val = true → Fld.OTN_CFG_N.get v ≠ s.fld (otnCfg p.val) Fld.OTN_CFG_N →
        t.flag (portStatus p.val) Fld.PORT_STATUS_CFG_REFUSED = true ∧ OnlyRegs [portStatus p.val] s t) := by
  have hExec : exec (.otnCfgWrite p v) s = answer s (otnCfgWrite p.val v s) := congrArg (answer s) (if_pos hUp)
  have hTaken : OnlyRegs [otnCfg p.val] s (s.setReg (otnCfg p.val) (v &&& 0x1F)) := .setReg [_] _ _ _ (List.mem_singleton_self _)
  have hRefused : OnlyRegs [portStatus p.val] s (s.setFlag (portStatus p.val) Fld.PORT_STATUS_CFG_REFUSED true) :=
    .setFlag [_] _ _ _ _ (List.mem_singleton_self _)
  by_cases hChange : (s.portEn p.val && Fld.OTN_CFG_N.get v != s.fld (otnCfg p.val) Fld.OTN_CFG_N) = true
  · refine completes_of_answer (hExec.trans (congrArg (answer s) (if_pos hChange))) rfl ⟨fun hEn => ?_, fun _ _ => ?_⟩
    · simp [hEn] at hChange
    · exact ⟨State.flag_setFlag_same _ _ _ _ (by decide), hRefused⟩
  · refine completes_of_answer (hExec.trans (congrArg (answer s) (if_neg hChange))) rfl ⟨fun _ => ?_, fun hEn hN => ?_⟩
    · exact ⟨State.reg_setReg_same _ _ _, hTaken⟩
    · simp [hEn, hN] at hChange

/-! ### A framer moves (R96, R97) -/

/-- An OTUC framer of a port takes a value, and the status follows. -/
def instMoved (p m : Nat) (y : OtnInst) (s : State) : State := (s.setOtnP p ((s.otnP p).setInst m y)).otnRefresh p

@[simp] theorem inst_instMoved_same (p m : Nat) (y : OtnInst) (s : State) : ((instMoved p m y s).otnP p).inst m = y := by simp [instMoved]

/-- Every other framer of the port, and every other port, stays. -/
theorem instMoved_frame (p m : Nat) (y : OtnInst) (s : State) :
    (∀ k, k ≠ m → ((instMoved p m y s).otnP p).inst k = (s.otnP p).inst k) ∧ ∀ q, q ≠ p → (instMoved p m y s).otnP q = s.otnP q := by
  rw [instMoved]
  refine ⟨fun k hk => ?_, fun q hq => ?_⟩
  · rw [otnRefresh_otnP, otnP_setOtnP_same, inst_setInst_ne _ _ hk]
  · rw [otnRefresh_otnP, otnP_setOtnP_ne _ _ hq]

theorem fasMatch_completes (s : State) (p : Fin 128) (m : Fin 16) (pos : BitVec 64) (hOn : s.otnOn p.val = true) (hInst : m.val < s.otnN p.val)
    (hSearch : ((s.otnP p.val).inst m.val).st = 0) (hAfter : ((s.otnP p.val).inst m.val).pos ≤ pos.toNat) :
    Completes (.fasMatch p m pos) s fun t => ((t.otnP p.val).inst m.val).st = 1 ∧ ((t.otnP p.val).inst m.val).pos = pos.toNat ∧
      (∀ k, k ≠ m.val → (t.otnP p.val).inst k = (s.otnP p.val).inst k) ∧ (∀ q, q ≠ p.val → t.otnP q = s.otnP q) := by
  have hEq : fasMatch p.val m.val pos.toNat s =
      instMoved p.val m.val { ((s.otnP p.val).inst m.val).move 1 s.mono with pos := pos.toNat } s := if_pos (by simp [hOn, hInst, hSearch, hAfter])
  refine completes_answer (congrArg (answer s) hEq) ⟨?_, ?_, instMoved_frame _ _ _ s⟩
  · exact congrArg OtnInst.st (inst_instMoved_same _ _ _ s)
  · exact congrArg OtnInst.pos (inst_instMoved_same _ _ _ s)

theorem fasCandidateCheck_completes (s : State) (p : Fin 128) (m : Fin 16) (ok : Bool) (a : BitVec 8) (hOn : s.otnOn p.val = true)
    (hOpen : ((s.otnP p.val).inst m.val).st = 1) :
    Completes (.fasCandidateCheck p m ok a) s fun t =>
      (ok = true → ((t.otnP p.val).inst m.val).st = 2 ∧ ((t.otnP p.val).inst m.val).mfas = some a.toNat) ∧
      (ok = false → ((t.otnP p.val).inst m.val).st = 0 ∧ ((t.otnP p.val).inst m.val).pos = ((s.otnP p.val).inst m.val).pos + 1) ∧
      (∀ k, k ≠ m.val → (t.otnP p.val).inst k = (s.otnP p.val).inst k) ∧ (∀ q, q ≠ p.val → t.otnP q = s.otnP q) := by
  have hRuns : (s.otnOn p.val && ((s.otnP p.val).inst m.val).st == 1) = true := by simp [hOn, hOpen]
  cases ok with
  | true =>
    have hMoved := inst_instMoved_same p.val m.val
      { ((s.otnP p.val).inst m.val).move 2 s.mono with misses := 0, mfBad := 0, mfas := some a.toNat, bip1 := none, bip2 := none } s
    refine completes_answer (congrArg (answer s) (if_pos hRuns)) ⟨fun _ => ?_, nofun, instMoved_frame _ _ _ s⟩
    exact ⟨congrArg OtnInst.st hMoved, congrArg OtnInst.mfas hMoved⟩
  | false =>
    have hMoved := inst_instMoved_same p.val m.val
      { ((s.otnP p.val).inst m.val).move 0 s.mono with pos := ((s.otnP p.val).inst m.val).pos + 1 } s
    refine completes_answer (congrArg (answer s) (if_pos hRuns)) ⟨nofun, fun _ => ?_, instMoved_frame _ _ _ s⟩
    exact ⟨congrArg OtnInst.st hMoved, congrArg OtnInst.pos hMoved⟩

/-! ### OTN_FRAME_RX (R97, R100, R103) -/

/-- Two consecutive frames with consistent MFAS lead from FRAME_LOCK to MF_LOCK (R97). -/
theorem framer_locks_multiFrame (x : OtnInst) (f : OtnFrame) (t a : Nat) (hState : x.st = 2) (hFas : f.fas = true) (hLast : x.mfas = some a)
    (hNext : (a + 1) % 256 = f.mfas.toNat) : (x.framer f t).st = 3 := by
  simp [OtnInst.framer, OtnInst.move, hState, hFas, hLast, hNext]

/-- The fifth FAS mismatch in a row puts it out of frame (R97). -/
theorem framer_loses_frame (x : OtnInst) (f : OtnFrame) (t : Nat) (hFas : f.fas = false) (hMisses : x.misses = 4) :
    (x.framer f t).st = 0 ∧ (x.framer f t).queue = [] := by
  simp [OtnInst.framer, OtnInst.move, hFas, hMisses]

/-- A frame whose FAS stands at its place keeps the lock and what waits in the deskew buffer. -/
theorem framer_keeps_lock (x : OtnInst) (f : OtnFrame) (t : Nat) (hLocked : 2 ≤ x.st) (hFas : f.fas = true) :
    2 ≤ (x.framer f t).st ∧ (x.framer f t).queue = x.queue := by
  have hMoved (y : OtnInst) (st : Nat) (hSt : 2 ≤ st) : 2 ≤ (y.move st t).st ∧ (y.move st t).queue = y.queue := ⟨hSt, if_neg (by omega)⟩
  unfold OtnInst.framer
  extract_lets misses good bad y
  have hInFrame : ¬ 5 ≤ misses := by simp [misses, hFas]
  rw [if_neg hInFrame]
  split_ifs
  · exact hMoved y 3 (by decide)
  · exact hMoved y 2 (by decide)
  · exact ⟨hLocked, rfl⟩

/-- What a received frame makes of its framer: the state moves, the BIP-8 computed is kept for two frames, and while the framer is locked
a record of the frame goes to the end of a buffer of 256 (R97, R100, R103). -/
structure FrameTaken (x : OtnInst) (f : OtnFrame) (t : Nat) (z : OtnInst) : Prop where
  st : z.st = (x.framer f t).st
  bip1 : z.bip1 = some (bip8 f.opu)
  bip2 : z.bip2 = x.bip1
  lost : (x.framer f t).st < 2 → z.queue = (x.framer f t).queue
  kept : 2 ≤ (x.framer f t).st → ∃ r : OtnRec, r.mfas = f.mfas.toNat ∧ r.at_ = t ∧
    z.queue = ((x.framer f t).queue ++ [r]).drop ((x.framer f t).queue.length + 1 - 256)

/-- The record of a frame joins the deskew buffer of a locked framer. -/
def frameQueued (y : OtnInst) (r : OtnRec) : OtnInst :=
  if y.st < 2 then y else { y with queue := (y.queue ++ [r]).drop (y.queue.length + 1 - 256) }

theorem frameTaken_frameQueued (x y : OtnInst) (f : OtnFrame) (t : Nat) (r : OtnRec) (hSt : y.st = (x.framer f t).st)
    (hQueue : y.queue = (x.framer f t).queue) (hBip1 : y.bip1 = some (bip8 f.opu)) (hBip2 : y.bip2 = x.bip1) (hMfas : r.mfas = f.mfas.toNat)
    (hAt : r.at_ = t) : FrameTaken x f t (frameQueued y r) := by
  unfold frameQueued
  split
  case isTrue hLost => exact ⟨hSt, hBip1, hBip2, fun _ => hQueue, fun hKept => by omega⟩
  case isFalse hKept => exact ⟨hSt, hBip1, hBip2, fun hLost => by omega, fun _ => ⟨r, hMfas, hAt, by rw [hQueue]⟩⟩

theorem otnFrameRx_taken (s : State) (p m : Nat) (f : OtnFrame) (hOn : s.otnOn p = true) (hLocked : 2 ≤ ((s.otnP p).inst m).st) :
    ∃ z, FrameTaken ((s.otnP p).inst m) f s.mono z ∧ otnFrameRx p m f s = instMoved p m z s := by
  have hRuns : ¬ (!s.otnOn p || decide (((s.otnP p).inst m).st < 2)) = true := by simp [hOn, not_lt.2 hLocked]
  unfold otnFrameRx
  extract_lets o x err sm pm r framed y z
  have hTaken : FrameTaken x f s.mono (frameQueued y r) := frameTaken_frameQueued x y f s.mono r rfl rfl rfl rfl rfl rfl
  exact ⟨z, hTaken, if_neg hRuns⟩

/-- A record joins a queue with room. -/
theorem FrameTaken.queue_append {x z : OtnInst} {f : OtnFrame} {t : Nat} (h : FrameTaken x f t z) (hLocked : 2 ≤ x.st) (hFas : f.fas = true)
    (hRoom : x.queue.length < 256) : ∃ r : OtnRec, z.queue = x.queue ++ [r] ∧ r.mfas = f.mfas.toNat ∧ r.at_ = t := by
  obtain ⟨hSt, hQueue⟩ := framer_keeps_lock x f t hLocked hFas
  obtain ⟨r, hMfas, hAt, hJoined⟩ := h.kept hSt
  have hNoCut : x.queue.length + 1 - 256 = 0 := by omega
  exact ⟨r, by rw [hJoined, hQueue, hNoCut, List.drop_zero], hMfas, hAt⟩

theorem otnFrameRx_completes (s : State) (p : Fin 128) (m : Fin 16) (f : OtnFrame) (x : OtnInst) (hOn : s.otnOn p.val = true)
    (hInst : (s.otnP p.val).inst m.val = x) (hLocked : 2 ≤ x.st) :
    Completes (.otnFrameRx p m f) s fun t =>
      (x.st = 2 → f.fas = true → (∃ a, x.mfas = some a ∧ (a + 1) % 256 = f.mfas.toNat) → ((t.otnP p.val).inst m.val).st = 3) ∧
      (f.fas = false → x.misses = 4 → ((t.otnP p.val).inst m.val).st = 0 ∧ ((t.otnP p.val).inst m.val).queue = []) ∧
      (f.fas = true → x.st ≤ 3 → x.queue.length < 256 → ∃ r, ((t.otnP p.val).inst m.val).queue = x.queue ++ [r] ∧ r.mfas = f.mfas.toNat ∧ r.at_ = s.mono) ∧
      ((t.otnP p.val).inst m.val).bip1 = some (bip8 f.opu) ∧ ((t.otnP p.val).inst m.val).bip2 = x.bip1 ∧
      (∀ k, k ≠ m.val → (t.otnP p.val).inst k = (s.otnP p.val).inst k) ∧ (∀ q, q ≠ p.val → t.otnP q = s.otnP q) := by
  subst hInst
  obtain ⟨z, hTaken, hEq⟩ := otnFrameRx_taken s p.val m.val f hOn hLocked
  refine completes_answer (t := instMoved p.val m.val z s) (congrArg (answer s) hEq) ?_
  have hz : (({ instMoved p.val m.val z s with pending := s.pending } : State).otnP p.val).inst m.val = z := inst_instMoved_same _ _ _ _
  rw [hz]
  refine ⟨fun hState hFas ⟨a, hLast, hNext⟩ => ?_, fun hFas hMisses => ?_, fun hFas _ hRoom => ?_, hTaken.bip1, hTaken.bip2, instMoved_frame _ _ _ s⟩
  · exact hTaken.st.trans (framer_locks_multiFrame _ f _ a hState hFas hLast hNext)
  · obtain ⟨hSearch, hEmpty⟩ := framer_loses_frame ((s.otnP p.val).inst m.val) f s.mono hFas hMisses
    exact ⟨hTaken.st.trans hSearch, (hTaken.lost (by omega)).trans hEmpty⟩
  · exact hTaken.queue_append hLocked hFas hRoom

/-! ### DESKEW_RELEASE (R100, R101) -/

/-- A framer's next frame leaves the deskew buffer; its error counts join the running second. -/
def frameReleased (o : OtnPort) (m : Nat) (q : List OtnRec) : OtnPort :=
  match q with
  | r :: rest => { (o.setInst m { o.inst m with queue := rest }) with run := o.run.add r }
  | [] => o

theorem frameReleased_frame (o : OtnPort) (m : Nat) :
    (frameReleased o m (o.inst m).queue).aligned = o.aligned ∧
    (∀ k, ((frameReleased o m (o.inst m).queue).inst k).queue = if k = m then (o.inst m).queue.drop 1 else (o.inst k).queue) := by
  unfold frameReleased
  split
  case _ r rest hq =>
    refine ⟨rfl, fun k => ?_⟩
    by_cases hk : k = m
    · subst hk
      rw [if_pos rfl, hq]
      exact congrArg OtnInst.queue (inst_setInst_same o k _)
    · rw [if_neg hk]
      exact congrArg OtnInst.queue (inst_setInst_ne o _ hk)
  case _ hq =>
    refine ⟨rfl, fun k => ?_⟩
    by_cases hk : k = m
    · subst hk
      rw [if_pos rfl, hq, List.drop_nil]
    · rw [if_neg hk]

theorem release_succ (o : OtnPort) (n : Nat) :
    o.release (n + 1) (·.queue) = frameReleased (o.release n (·.queue)) n ((o.release n (·.queue)).inst n).queue := by
  rw [OtnPort.release, List.range_succ, List.foldl_append]
  rfl

/-- A release takes the oldest frame of each of the first framers, and leaves the alignment. -/
theorem release_queues (o : OtnPort) (n : Nat) : (o.release n (·.queue)).aligned = o.aligned ∧
    ∀ k, ((o.release n (·.queue)).inst k).queue = if k < n then (o.inst k).queue.drop 1 else (o.inst k).queue := by
  induction n with
  | zero => exact ⟨rfl, fun k => (if_neg (Nat.not_lt_zero k)).symm⟩
  | succ n ih =>
    obtain ⟨hAligned, hQueue⟩ := ih
    obtain ⟨hKept, hReleased⟩ := frameReleased_frame (o.release n (·.queue)) n
    rw [release_succ]
    refine ⟨hKept.trans hAligned, fun k => ?_⟩
    rw [hReleased, hQueue, hQueue, if_neg (Nat.lt_irrefl n)]
    rcases Nat.lt_trichotomy k n with hBefore | rfl | hAfter
    · rw [if_neg hBefore.ne, if_pos hBefore, if_pos (Nat.lt_succ_of_lt hBefore)]
    · rw [if_pos rfl, if_pos (Nat.lt_succ_self k)]
    · rw [if_neg hAfter.ne', if_neg hAfter.not_gt, if_neg (Nat.lt_succ_iff.not.2 hAfter.not_ge)]

/-- The oldest frame of every framer, where all have one with the same MFAS. -/
theorem heads_agree (l : List OtnInst) (v : Nat) (h : ∀ x ∈ l, ∃ r, x.queue.head? = some r ∧ r.mfas = v) :
    (l.filterMap (·.queue.head?)).length = l.length ∧ ∀ r ∈ l.filterMap (·.queue.head?), r.mfas = v := by
  induction l with
  | nil => exact ⟨rfl, nofun⟩
  | cons x l ih =>
    obtain ⟨⟨r, hHead, hMfas⟩, hRest⟩ := List.forall_mem_cons.1 h
    obtain ⟨hLength, hAll⟩ := ih hRest
    rw [List.filterMap_cons_some (f := fun x : OtnInst => x.queue.head?) hHead]
    exact ⟨congrArg Nat.succ hLength, List.forall_mem_cons.2 ⟨hMfas, hAll⟩⟩

/-- An aligned port whose oldest frames agree releases them, and has seen no disagreement. -/
theorem deskewRelease_agreed (s : State) (p v : Nat) (hOn : s.otnOn p = true) (hReady : (s.insts p).all (instReady (s.otnN p)) = true)
    (hAligned : (s.otnP p).aligned = true) (hHeads : ∀ x ∈ s.insts p, ∃ r, x.queue.head? = some r ∧ r.mfas = v) :
    deskewRelease p s = (s.setOtnP p { (s.otnP p).release (s.otnN p) (·.queue) with disagree := 0 }).otnRefresh p := by
  obtain ⟨hLength, hSame⟩ := heads_agree (s.insts p) v hHeads
  have hRuns : ¬ (!s.otnOn p || !(s.insts p).all (instReady (s.otnN p))) = true := by simp [hOn, hReady]
  unfold deskewRelease
  extract_lets o l n heads same o1 d o2 has
  have hFull : ¬ heads.length < n := by
    have hCount : heads.length = n := hLength.trans (by simp [State.insts, n])
    omega
  have hAgree : same = true := by
    refine List.all_eq_true.2 fun r hr => beq_iff_eq.2 ?_
    obtain ⟨r0, rest, hCons⟩ := List.exists_cons_of_ne_nil (List.ne_nil_of_mem hr)
    have hFirst : r0 ∈ heads := hCons ▸ List.mem_cons_self
    rw [hSame r hr, hCons]
    exact (hSame r0 hFirst).symm
  have hCount : d = 0 := if_pos hAgree
  have hKept : o2 = { o1 with disagree := d } := if_neg (by rw [hCount]; decide)
  rw [if_neg hRuns, if_pos hAligned, if_neg hFull, hKept, hCount]

theorem deskewRelease_completes (s : State) (p : Fin 128) (v : Nat) (hOn : s.otnOn p.val = true)
    (hReady : (s.insts p.val).all (instReady (s.otnN p.val)) = true) (hAligned : (s.otnP p.val).aligned = true)
    (hHeads : ∀ x ∈ s.insts p.val, ∃ r, x.queue.head? = some r ∧ r.mfas = v) :
    Completes (.deskewRelease p) s fun t => (t.otnP p.val).aligned = true ∧ (t.otnP p.val).disagree = 0 ∧
      (∀ m, m < s.otnN p.val → ((t.otnP p.val).inst m).queue = ((s.otnP p.val).inst m).queue.drop 1) := by
  obtain ⟨hKept, hQueues⟩ := release_queues (s.otnP p.val) (s.otnN p.val)
  have hPort := (otnRefresh_otnP _ p.val p.val).trans
    (otnP_setOtnP_same s p.val { (s.otnP p.val).release (s.otnN p.val) (·.queue) with disagree := 0 })
  refine completes_answer (congrArg (answer s) (deskewRelease_agreed s p.val v hOn hReady hAligned hHeads)) ⟨?_, ?_, fun m hm => ?_⟩
  · exact (congrArg OtnPort.aligned hPort).trans (hKept.trans hAligned)
  · exact congrArg OtnPort.disagree hPort
  · exact (congrArg (fun o : OtnPort => (o.inst m).queue) hPort).trans ((hQueues m).trans (if_pos hm))

/-! ### OTN_DEFECT (R106) -/

/-- The field of a defect's bit in OTN_STATUS. -/
def defectFld (d : Nat) : Fld := ⟨d, d, .ro, 0⟩

theorem defectFld_width (d : Nat) : (defectFld d).width = 1 := by simp [defectFld, Fld.width]

theorem otnBit_eq_flag (s : State) (p d : Nat) : s.otnBit p d = s.flag (otnStatus p) (defectFld d) := by
  rw [State.otnBit, State.flag, State.fld, Fld.get, defectFld_width, Nat.testBit_eq_decide_div_mod_eq, Nat.shiftRight_eq_div_pow]
  rfl

/-- A defect's bit takes its present condition, and DEFECT_EVT is set. -/
def defectShown (p d : Nat) (b : Bool) (s : State) : State :=
  (s.setFlag (otnStatus p) (defectFld d) b).setFlag (otnStatus p) Fld.OTN_STATUS_DEFECT_EVT true

theorem defectShown_flags (p d : Nat) (b : Bool) (s : State) (hd : d < 8) :
    (defectShown p d b s).otnBit p d = b ∧ (∀ e, e < 8 → e ≠ d → (defectShown p d b s).otnBit p e = s.otnBit p e) ∧
    (defectShown p d b s).flag (otnStatus p) Fld.OTN_STATUS_DEFECT_EVT = true := by
  have hIn (e : Nat) (he : e < 8) : (defectFld e).lo + (defectFld e).width ≤ 9 := by
    rw [defectFld_width]
    exact Nat.succ_le_succ he.le
  have hEvt (u : State) (e : Nat) (he : e < 8) :
      (u.setFlag (otnStatus p) Fld.OTN_STATUS_DEFECT_EVT true).flag (otnStatus p) (defectFld e) = u.flag (otnStatus p) (defectFld e) :=
    State.flag_setFlag_other _ _ _ _ _ (by decide) ((hIn e he).trans (by decide)) (.inr (hIn e he))
  refine ⟨?_, fun e he hne => ?_, State.flag_setFlag_same _ _ _ _ (by decide)⟩
  · rw [otnBit_eq_flag, defectShown, hEvt _ d hd]
    exact State.flag_setFlag_same _ _ _ _ ((hIn d hd).trans (by decide))
  · rw [otnBit_eq_flag, otnBit_eq_flag, defectShown, hEvt _ e he]
    refine State.flag_setFlag_other _ _ _ _ _ ((hIn d hd).trans (by decide)) ((hIn e he).trans (by decide)) ?_
    rw [defectFld_width, defectFld_width]
    exact (Nat.lt_or_gt_of_ne hne).symm

/-- After the bit only what lies outside the defects' part of OTN_STATUS follows: consequent actions, the refreshed status and the event. -/
theorem otnDefect_of_change (s : State) (p d : Nat) (hOn : s.otnOn p = true) (hChange : s.otnBit p d ≠ s.defectNow p d (s.otnBit p d)) :
    ∃ u : State, RegsWithin besideOtn (defectShown p d (s.defectNow p d (s.otnBit p d)) s) u ∧ ∃ data,
      otnDefect p d s = (u.otnRefresh p).ownerEvent 0x0102 1 (p / 8) p data := by
  have hRuns : ¬ (!s.otnOn p) = true := by simp [hOn]
  have hMoves : ¬ (s.otnBit p d == s.defectNow p d (s.otnBit p d)) = true := by simpa using hChange
  unfold otnDefect
  rw [if_neg hRuns]
  extract_lets was is_ acted f s1 o run s2 hunt s3 s4
  have hChanged : ¬ (was == is_) = true := hMoves
  have hSecond : RegsWithin besideOtn s1 s2 := .of_regs rfl
  have hThird : RegsWithin besideOtn s1 s3 := by
    clear_value s2
    have hHunt : RegsWithin besideOtn s2 { s2 with otn := KMap.set .init s2.otn p { s2.otnP p with gfp := 0 } } := .of_regs rfl
    unfold s3
    split
    · exact (hSecond.trans hHunt).trans (regs_rxTail_error _ _ _ _ _)
    · exact hSecond
  rw [if_neg hChanged]
  exact ⟨s3, hThird, _, rfl⟩

/-- What follows a defect's change leaves the low eight bits and DEFECT_EVT. -/
theorem flag_defectReported (s u : State) (p : Fin 128) (f : Fld) (data : List Byte) (h : RegsWithin besideOtn s u) (hf : f.lo + f.width ≤ 32)
    (hOther : f.lo + f.width ≤ Fld.OTN_STATUS_IN_SERVICE.lo ∨ Fld.OTN_STATUS_IN_SERVICE.lo + Fld.OTN_STATUS_IN_SERVICE.width ≤ f.lo) :
    ((u.otnRefresh p.val).ownerEvent 0x0102 1 (p.val / 8) p.val data).flag (otnStatus p.val) f = s.flag (otnStatus p.val) f := by
  have hEvent : RegsWithin besideOtn (u.otnRefresh p.val) ((u.otnRefresh p.val).ownerEvent 0x0102 1 (p.val / 8) p.val data) :=
    (RegsWithin.refl _ _).ownerEvent besideOtn_eventReg
  rw [hEvent.flag (besideOtn_otnStatus _), flag_otnRefresh u _ f hf hOther, h.flag (besideOtn_otnStatus _)]

theorem otnDefect_changes (s : State) (p : Fin 128) (d : Fin 8) (hOn : s.otnOn p.val = true)
    (hChange : s.otnBit p.val d.val ≠ s.defectNow p.val d.val (s.otnBit p.val d.val)) :
    Completes (.otnDefect p d) s fun t => t.otnBit p.val d.val = s.defectNow p.val d.val (s.otnBit p.val d.val) ∧
      (∀ e, e < 8 → e ≠ d.val → t.otnBit p.val e = s.otnBit p.val e) ∧ t.flag (otnStatus p.val) Fld.OTN_STATUS_DEFECT_EVT = true := by
  obtain ⟨u, hRegs, data, hEq⟩ := otnDefect_of_change s p.val d.val hOn hChange
  obtain ⟨hBit, hOthers, hEvt⟩ := defectShown_flags p.val d.val (s.defectNow p.val d.val (s.otnBit p.val d.val)) s d.isLt
  have hKept (e : Nat) (he : e < 8) : ((u.otnRefresh p.val).ownerEvent 0x0102 1 (p.val / 8) p.val data).otnBit p.val e =
      (defectShown p.val d.val (s.defectNow p.val d.val (s.otnBit p.val d.val)) s).otnBit p.val e := by
    have hIn : (defectFld e).lo + (defectFld e).width ≤ 8 := by
      rw [defectFld_width]
      exact he
    rw [otnBit_eq_flag, otnBit_eq_flag]
    exact flag_defectReported _ u p _ data hRegs (hIn.trans (by decide)) (.inl hIn)
  exact completes_answer (congrArg (answer s) hEq) ⟨(hKept d.val d.isLt).trans hBit, fun e he hne => (hKept e he).trans (hOthers e he hne),
    (flag_defectReported _ u p _ data hRegs (by decide) (by decide)).trans hEvt⟩

theorem otnDefect_unchanged (s : State) (p : Fin 128) (d : Fin 8)
    (h : s.otnBit p.val d.val = s.defectNow p.val d.val (s.otnBit p.val d.val)) : exec (.otnDefect p d) s = .next s := by
  have hEq : otnDefect p.val d.val s = s := by
    rw [otnDefect]
    split
    · rfl
    · exact if_pos (beq_iff_eq.2 h)
  exact congrArg (answer s) hEq

/-- Settles O9, a lemma for each command: the refreshed status and the frame that a consequent action cuts leave the framers and the defects. -/
theorem otnFraming : Obligations.OtnFraming := by
  unfold Obligations.OtnFraming
  exact ⟨otnCfgWrite_completes, fasMatch_completes, fasCandidateCheck_completes, otnFrameRx_completes, deskewRelease_completes, otnDefect_changes,
    otnDefect_unchanged⟩

end Sys2Proof.Machine.OtnFramer
end

section
/-! PROOF. O10: the GFP demapper's states, and what becomes of the frames it finds (R95, R110 to R112). -/

namespace Sys2Proof.Machine.OtnFramer
open EquinoxTime (completes_answer)
open DeviceOrganisation (completes_of_answer counted_bump)

/-! ### Counts -/

/-- A counter has risen by one; its registers and what goes to the performance counters apart, nothing changed. -/
def CountsOnly (c : Ctr) (s t : State) : Prop := Counted c 1 s t ∧ RegsBut c.regs s t ∧ { t with regs := s.regs, pmcIn := s.pmcIn } = s

/-- A counter's overflow bit lies in a register of its own. -/
def CtrApart (c : Ctr) : Prop := c.ovf ≠ c.lo ∧ c.ovf ≠ c.lo + 4 ∧ c.bit < 32

theorem countsOnly_bump {c : Ctr} (s : State) (h : CtrApart c) : CountsOnly c s (s.bump c 1) := by
  obtain ⟨hLo, hHi, hBit⟩ := h
  exact ⟨counted_bump s c 1 hLo hHi hBit, RegsBut.bump s c 1, by simp⟩

theorem answered_eq {s t : State} (h : t.pending = s.pending) : { t with pending := s.pending } = t := by rw [← h]

theorem counted_answered {c : Ctr} {s t : State} (h : Counted c 1 s t) : Counted c 1 s { t with pending := s.pending } := h

/-- The counters of the demapper, and that of runts. -/
theorem ctrApart_gfp (i j : Nat) : ∀ c ∈ [Ctr.OTN_GFP_CHEC_CORR i j, Ctr.OTN_GFP_SYNC_LOSS i j, Ctr.OTN_GFP_THEC_DROP i j, Ctr.OTN_GFP_TYPE_DROP i j,
    Ctr.OTN_GFP_CMF i j, Ctr.OTN_RX_SLOT_DROP i j, Ctr.PORT_RX_RUNT i j], CtrApart c := by
  simp only [List.mem_cons, List.not_mem_nil, or_false, forall_eq_or_imp, forall_eq, CtrApart, Ctr.OTN_GFP_CHEC_CORR, Ctr.OTN_GFP_SYNC_LOSS,
    Ctr.OTN_GFP_THEC_DROP, Ctr.OTN_GFP_TYPE_DROP, Ctr.OTN_GFP_CMF, Ctr.OTN_RX_SLOT_DROP, Ctr.PORT_RX_RUNT]
  omega

theorem otnP_bump (s : State) (c : Ctr) (n q : Nat) : (s.bump c n).otnP q = s.otnP q := by rw [State.otnP, State.bump_otn, State.otnP]

/-- A count stands whatever the framers' memory held before. -/
theorem counted_setOtnP {c : Ctr} {s t : State} {p : Nat} {o : OtnPort} (h : Counted c 1 (s.setOtnP p o) t) : Counted c 1 s t := h

/-! ### GFP_CORE_HEADER (R110) -/

section
variable {s : State} {p : Nat} {h : Word} {l : Nat} (hOn : s.otnOn p = true) (hAis : s.aisAction p = false)
include hOn hAis

theorem gfp_runs : ¬ (!s.otnOn p || s.aisAction p) = true := by simp [hOn, hAis]

theorem gfpCoreHeader_hunt (hHec : hecCheck (h ^^^ 0xB6AB31E0).toNat = some (l, false)) (hHunt : (s.otnP p).gfp = 0) :
    gfpCoreHeader p h s = s.setOtnP p { s.otnP p with gfp := 1, pli := l } := by
  rw [gfpCoreHeader, if_neg (gfp_runs hOn hAis)]
  simp only [hHunt, hHec]

theorem gfpCoreHeader_presync (hHec : hecCheck (h ^^^ 0xB6AB31E0).toNat = some (l, false)) (hPresync : (s.otnP p).gfp = 1) :
    gfpCoreHeader p h s = s.setOtnP p { s.otnP p with gfp := 2, pli := l } := by
  rw [gfpCoreHeader, if_neg (gfp_runs hOn hAis)]
  simp only [hPresync, hHec]

theorem gfpCoreHeader_presync_wrong (hHec : hecCheck (h ^^^ 0xB6AB31E0).toNat = some (l, true)) (hPresync : (s.otnP p).gfp = 1) :
    gfpCoreHeader p h s = s.setOtnP p { s.otnP p with gfp := 0 } := by
  rw [gfpCoreHeader, if_neg (gfp_runs hOn hAis)]
  simp only [hPresync, hHec]

theorem gfpCoreHeader_corrected (hHec : hecCheck (h ^^^ 0xB6AB31E0).toNat = some (l, true)) (hSync : (s.otnP p).gfp = 2) :
    gfpCoreHeader p h s = (s.setOtnP p { s.otnP p with pli := l }).bump (Ctr.OTN_GFP_CHEC_CORR (p / 8) (p % 8)) 1 := by
  rw [gfpCoreHeader, if_neg (gfp_runs hOn hAis)]
  simp only [hSync, hHec, if_true]

/-- With no frame in delivery the loss of SYNC cuts none. -/
theorem gfpCoreHeader_lost (hHec : hecCheck (h ^^^ 0xB6AB31E0).toNat = none) (hSync : (s.otnP p).gfp = 2) (hNone : s.curPkt p false = none) :
    gfpCoreHeader p h s = (s.setOtnP p { s.otnP p with gfp := 0 }).bump (Ctr.OTN_GFP_SYNC_LOSS (p / 8) (p % 8)) 1 := by
  rw [gfpCoreHeader, if_neg (gfp_runs hOn hAis)]
  simp only [hSync, hHec]
  have hStill : (((s.setOtnP p { s.otnP p with gfp := 0 }).bump (Ctr.OTN_GFP_SYNC_LOSS (p / 8) (p % 8)) 1).curPkt p false) = none := by
    rw [State.curPkt, State.bump_ing]
    simp only [State.pkt, State.bump_ing]
    exact hNone
  rw [State.rxTail, hStill]

theorem gfpCoreHeader_others {fixed : Bool} (hHec : hecCheck (h ^^^ 0xB6AB31E0).toNat = some (l, fixed)) {q : Nat} (hq : q ≠ p) :
    (gfpCoreHeader p h s).otnP q = s.otnP q := by
  have hSet (o : OtnPort) : (s.setOtnP p o).otnP q = s.otnP q := otnP_setOtnP_ne s o hq
  rw [gfpCoreHeader, if_neg (gfp_runs hOn hAis)]
  simp only [hHec]
  split
  · exact hSet _
  · rfl
  · exact hSet _
  · exact hSet _
  case _ =>
    split
    · rw [otnP_bump]
      exact hSet _
    · exact hSet _
  case _ hNone _ _ => cases hNone

end

theorem gfpCoreHeader_holds (s : State) (p : Fin 128) (h : BitVec 32) (l : Nat) (fixed : Bool) (hOn : s.otnOn p.val = true)
    (hAis : s.aisAction p.val = false) (hHec : hecCheck (h ^^^ 0xB6AB31E0).toNat = some (l, fixed)) :
    Completes (.gfpCoreHeader p h) s fun t => (∀ q, q ≠ p.val → t.otnP q = s.otnP q) ∧
      ((s.otnP p.val).gfp = 0 → fixed = false → t.otnP p.val = { s.otnP p.val with gfp := 1, pli := l } ∧ { t with otn := s.otn } = s) ∧
      ((s.otnP p.val).gfp = 1 → fixed = false → t.otnP p.val = { s.otnP p.val with gfp := 2, pli := l } ∧ { t with otn := s.otn } = s) ∧
      ((s.otnP p.val).gfp = 1 → fixed = true → t.otnP p.val = { s.otnP p.val with gfp := 0 } ∧ { t with otn := s.otn } = s) ∧
      ((s.otnP p.val).gfp = 2 → fixed = true → t.otnP p.val = { s.otnP p.val with pli := l } ∧
        Counted (Ctr.OTN_GFP_CHEC_CORR (p.val / 8) (p.val % 8)) 1 s t) := by
  have hSet {t : State} {o : OtnPort} (hEq : t = s.setOtnP p.val o) :
      ({ t with pending := s.pending } : State).otnP p.val = o ∧ { t with pending := s.pending, otn := s.otn } = s := by
    rw [hEq]
    exact ⟨otnP_setOtnP_same s p.val o, rfl⟩
  refine completes_answer rfl ⟨fun q hq => gfpCoreHeader_others hOn hAis hHec hq, ?_, ?_, ?_, ?_⟩
  · rintro hHunt rfl
    exact hSet (gfpCoreHeader_hunt hOn hAis hHec hHunt)
  · rintro hPresync rfl
    exact hSet (gfpCoreHeader_presync hOn hAis hHec hPresync)
  · rintro hPresync rfl
    exact hSet (gfpCoreHeader_presync_wrong hOn hAis hHec hPresync)
  · rintro hSync rfl
    have hApart : CtrApart (Ctr.OTN_GFP_CHEC_CORR (p.val / 8) (p.val % 8)) := ctrApart_gfp (p.val / 8) (p.val % 8) _ (by simp)
    obtain ⟨hCounted, -, -⟩ := countsOnly_bump (s.setOtnP p.val { s.otnP p.val with pli := l }) hApart
    have hEq := gfpCoreHeader_corrected hOn hAis hHec hSync
    have hPort : (gfpCoreHeader p.val h s).otnP p.val = { s.otnP p.val with pli := l } := by rw [hEq, otnP_bump, otnP_setOtnP_same]
    rw [← hEq] at hCounted
    exact ⟨hPort, counted_answered (counted_setOtnP hCounted)⟩

theorem gfpCoreHeader_fails (s : State) (p : Fin 128) (h : BitVec 32) (hOn : s.otnOn p.val = true) (hAis : s.aisAction p.val = false)
    (hHec : hecCheck (h ^^^ 0xB6AB31E0).toNat = none) (hSync : (s.otnP p.val).gfp = 2) (hNone : s.curPkt p.val false = none) :
    Completes (.gfpCoreHeader p h) s fun t => t.otnP p.val = { s.otnP p.val with gfp := 0 } ∧
      Counted (Ctr.OTN_GFP_SYNC_LOSS (p.val / 8) (p.val % 8)) 1 s t := by
  have hApart : CtrApart (Ctr.OTN_GFP_SYNC_LOSS (p.val / 8) (p.val % 8)) := ctrApart_gfp (p.val / 8) (p.val % 8) _ (by simp)
  obtain ⟨hCounted, -, -⟩ := countsOnly_bump (s.setOtnP p.val { s.otnP p.val with gfp := 0 }) hApart
  exact completes_of_answer (congrArg (answer s) (gfpCoreHeader_lost hOn hAis hHec hSync hNone)) (State.bump_pending _ _ _)
    ⟨(otnP_bump _ _ _ _).trans (otnP_setOtnP_same _ _ _), counted_setOtnP hCounted⟩

/-! ### The hand-off to the slice (R77, R82) -/

/-- A frame in reception that the station filter lets through to a slice without a fence is the last packet of the slice's line queue. -/
theorem toSlice_queued (s : State) (f : RxFrame) (br : Bool) (hLine : f.p < 128) (hHead : f.whole = false)
    (hStation : s.station f.p (beAt f.data 0 6) = some br) (hFence : KMap.get 0 s.ing.fence (f.p / 8) = 0) :
    (∃ k, (s.toSlice f).pkt s.ing.nextId = some k ∧ k.bytes = f.data ∧ k.port = f.p ∧ k.slice = f.p / 8 ∧ k.bridged = br ∧ k.ts = f.ts ∧
      k.len = f.len) ∧
    qGet (s.toSlice f).ing.lineQ (f.p / 8) = qGet s.ing.lineQ (f.p / 8) ++ [s.ing.nextId] ∧ { s.toSlice f with ing := s.ing } = s := by
  have hOpen : ¬ (KMap.get 0 s.ing.fence (f.p / 8) = 3 ∨
      KMap.get 0 s.ing.fence (f.p / 8) ≠ 0 ∧ fenceBuffer < s.portWaiting f.p + f.data.length) := by omega
  rw [State.toSlice, hStation]
  simp only [if_neg hOpen, State.enqueue, IPkt.new, Bool.false_eq_true, if_false, hLine, if_true, hHead]
  exact ⟨⟨_, KMap.get_set_same _ _ _ _, rfl, rfl, rfl, rfl, rfl, rfl⟩, KMap.get_set_same _ _ _ _, rfl⟩

/-! ### GFP_FRAME (R95, R110 to R112) -/

section
variable {s : State} {p : Nat} {f : RxHead} {slot : Bool} (hOn : s.otnOn p = true) (hAis : s.aisAction p = false) (hSync : (s.otnP p).gfp = 2)
  (hPli : 4 ≤ (s.otnP p).pli)
include hOn hAis hSync hPli

theorem gfpFrame_runs : ¬ (!s.otnOn p || s.aisAction p || decide ((s.otnP p).gfp ≠ 2) || decide ((s.otnP p).pli < 4)) = true := by
  simp [hOn, hAis, hSync, not_lt.2 hPli]

theorem gfpFrame_wrongHec (hHec : hecCheck (beAt f.data 0 4) = none) :
    gfpFrame p f slot s = s.bump (Ctr.OTN_GFP_THEC_DROP (p / 8) (p % 8)) 1 := by
  rw [gfpFrame, if_neg (gfpFrame_runs hOn hAis hSync hPli), hHec]

section
variable {ty : Nat} {c : Bool} (hHec : hecCheck (beAt f.data 0 4) = some (ty, c))
include hHec

theorem gfpFrame_management (hPti : ty >>> 13 = 4) : gfpFrame p f slot s = s.bump (Ctr.OTN_GFP_CMF (p / 8) (p % 8)) 1 := by
  rw [gfpFrame, if_neg (gfpFrame_runs hOn hAis hSync hPli), hHec]
  exact if_pos hPti

theorem gfpFrame_otherType (hPti : ty >>> 13 ≠ 4) (hType : ty >>> 13 ≠ 0 ∨ ty / 256 % 16 ≠ 0 ∨ ty % 256 ≠ 1) :
    gfpFrame p f slot s = s.bump (Ctr.OTN_GFP_TYPE_DROP (p / 8) (p % 8)) 1 := by
  rw [gfpFrame, if_neg (gfpFrame_runs hOn hAis hSync hPli), hHec]
  exact (if_neg hPti).trans (if_pos hType)

end

section
variable {c : Bool} (hHec : hecCheck (beAt f.data 0 4) = some (1, c))
include hHec

/-- A client frame without payload FCS is as long as its PLI less the payload header (R112). -/
theorem gfpFrame_runt (hShort : (s.otnP p).pli < 68) : gfpFrame p f slot s = s.bump (Ctr.PORT_RX_RUNT (p / 8) (p % 8)) 1 := by
  have hRunt : (s.otnP p).pli - 4 - 0 < 64 := by omega
  rw [gfpFrame, if_neg (gfpFrame_runs hOn hAis hSync hPli), hHec]
  exact if_pos hRunt

variable (hLong : 68 ≤ (s.otnP p).pli) (hMax : (s.otnP p).pli - 4 ≤ s.maxFrame p) (hGood : f.err = none) (hHead : f.whole = false)
include hLong hMax hGood hHead

/-- A good client frame of a legal length is handed over where the slice has a slot for it. -/
theorem gfpFrame_legal : gfpFrame p f slot s =
    if !slot then s.bump (Ctr.OTN_RX_SLOT_DROP (p / 8) (p % 8)) 1
    else s.secIngest { p := p, pre := false, data := (f.data.drop 4).take ((s.otnP p).pli - 4), whole := false, len := some ((s.otnP p).pli - 4),
                       ts := f.inst.toNat, maxFrame := s.maxFrame p, sec := none } := by
  have hNoRunt : ¬ (s.otnP p).pli - 4 - 0 < 64 := by omega
  have hNoOver : ¬ s.maxFrame p < (s.otnP p).pli - 4 - 0 := by omega
  rw [gfpFrame, if_neg (gfpFrame_runs hOn hAis hSync hPli), hHec]
  refine (if_neg hNoRunt).trans ((if_neg hNoOver).trans ?_)
  simp only [hGood, hHead, Bool.false_and, Bool.false_eq_true, if_false]
  rfl

end

end

theorem gfpFrame_completes (s : State) (p : Fin 128) (f : RxHead) (slot : Bool) (hOn : s.otnOn p.val = true) (hAis : s.aisAction p.val = false)
    (hSync : (s.otnP p.val).gfp = 2) (hPli : 4 ≤ (s.otnP p.val).pli) :
    Completes (.gfpFrame p f slot) s fun t =>
      (hecCheck (beAt f.data 0 4) = none → Counted (Ctr.OTN_GFP_THEC_DROP (p.val / 8) (p.val % 8)) 1 s t ∧
        RegsBut (Ctr.OTN_GFP_THEC_DROP (p.val / 8) (p.val % 8)).regs s t ∧ { t with regs := s.regs, pmcIn := s.pmcIn } = s) ∧
      (∀ ty c, hecCheck (beAt f.data 0 4) = some (ty, c) →
        (ty >>> 13 = 4 → Counted (Ctr.OTN_GFP_CMF (p.val / 8) (p.val % 8)) 1 s t ∧ { t with regs := s.regs, pmcIn := s.pmcIn } = s) ∧
        (ty >>> 13 ≠ 4 → (ty >>> 13 ≠ 0 ∨ ty / 256 % 16 ≠ 0 ∨ ty % 256 ≠ 1) →
          Counted (Ctr.OTN_GFP_TYPE_DROP (p.val / 8) (p.val % 8)) 1 s t ∧ { t with regs := s.regs, pmcIn := s.pmcIn } = s) ∧
        (ty = 1 → (s.otnP p.val).pli < 68 → Counted (Ctr.PORT_RX_RUNT (p.val / 8) (p.val % 8)) 1 s t ∧
          { t with regs := s.regs, pmcIn := s.pmcIn } = s) ∧
        (ty = 1 → 68 ≤ (s.otnP p.val).pli → (s.otnP p.val).pli - 4 ≤ s.maxFrame p.val → f.err = none → f.whole = false → slot = false →
          Counted (Ctr.OTN_RX_SLOT_DROP (p.val / 8) (p.val % 8)) 1 s t ∧ { t with regs := s.regs, pmcIn := s.pmcIn } = s) ∧
        (∀ br b, ty = 1 → 68 ≤ (s.otnP p.val).pli → (s.otnP p.val).pli - 4 ≤ s.maxFrame p.val → f.err = none → f.whole = false → slot = true →
          b = (f.data.drop 4).take ((s.otnP p.val).pli - 4) → s.secMatch p.val b = .clear → s.station p.val (beAt b 0 6) = some br →
          KMap.get 0 s.ing.fence (p.val / 8) = 0 →
          (∃ k, t.pkt s.ing.nextId = some k ∧ k.bytes = b ∧ k.port = p.val ∧ k.slice = p.val / 8 ∧ k.bridged = br ∧ k.ts = f.inst.toNat ∧
            k.len = some ((s.otnP p.val).pli - 4)) ∧
          qGet t.ing.lineQ (p.val / 8) = qGet s.ing.lineQ (p.val / 8) ++ [s.ing.nextId] ∧ { t with ing := s.ing } = s)) := by
  have hCount {c : Ctr} (hc : CtrApart c) (hEq : gfpFrame p.val f slot s = s.bump c 1) :
      CountsOnly c s { gfpFrame p.val f slot s with pending := s.pending } := by
    rw [hEq, answered_eq (State.bump_pending s c 1)]
    exact countsOnly_bump s hc
  have hApart := ctrApart_gfp (p.val / 8) (p.val % 8)
  refine completes_answer (t := gfpFrame p.val f slot s) rfl ⟨fun hHec => ?_, fun ty c hHec => ⟨?_, ?_, ?_, ?_, ?_⟩⟩
  · exact hCount (hApart _ (by simp)) (gfpFrame_wrongHec hOn hAis hSync hPli hHec)
  · intro hPti
    obtain ⟨hCounted, -, hFrame⟩ := hCount (hApart _ (by simp)) (gfpFrame_management hOn hAis hSync hPli hHec hPti)
    exact ⟨hCounted, hFrame⟩
  · intro hPti hType
    obtain ⟨hCounted, -, hFrame⟩ := hCount (hApart _ (by simp)) (gfpFrame_otherType hOn hAis hSync hPli hHec hPti hType)
    exact ⟨hCounted, hFrame⟩
  · rintro rfl hShort
    obtain ⟨hCounted, -, hFrame⟩ := hCount (hApart _ (by simp)) (gfpFrame_runt hOn hAis hSync hPli hHec hShort)
    exact ⟨hCounted, hFrame⟩
  · rintro rfl hLong hMax hGood hHead rfl
    obtain ⟨hCounted, -, hFrame⟩ := hCount (hApart _ (by simp)) (gfpFrame_legal hOn hAis hSync hPli hHec hLong hMax hGood hHead)
    exact ⟨hCounted, hFrame⟩
  · rintro br b rfl hLong hMax hGood hHead rfl rfl hClear hStation hFence
    have hEq := gfpFrame_legal (slot := true) hOn hAis hSync hPli hHec hLong hMax hGood hHead
    rw [Bool.not_true, if_neg Bool.false_ne_true, State.secIngest, hClear] at hEq
    rw [hEq]
    obtain ⟨hPkt, hQueue, hFrame⟩ := toSlice_queued s
      { p := p.val, pre := false, data := (f.data.drop 4).take ((s.otnP p.val).pli - 4), whole := false, len := some ((s.otnP p.val).pli - 4),
        ts := f.inst.toNat, maxFrame := s.maxFrame p.val, sec := none } br p.isLt rfl hStation hFence
    exact ⟨hPkt, hQueue, congrArg (fun u : State => { u with pending := s.pending }) hFrame⟩

/-- Settles O10, a lemma for each answer of the demapper: what is not delivered only counts, and a client frame joins its slice's line queue. -/
theorem otnGfpFrames : Obligations.OtnGfpFrames := by
  unfold Obligations.OtnGfpFrames
  exact ⟨gfpCoreHeader_holds, gfpCoreHeader_fails, gfpFrame_completes⟩

end Sys2Proof.Machine.OtnFramer
end

section
/-! PROOF. O11: the front of a slice's pipeline, from entry to the respin queue (R121 to R141, R150, R184). -/

namespace Sys2Proof.Machine.Parser
open DeviceOrganisation (completes_of_answer counted_bump forget_eq dropPkt_pkt)

/-! ### The packets of the slices -/

@[simp] theorem pkt_setPkt_same (s : State) (p : Nat) (k : IPkt) : (s.setPkt p k).pkt p = some k := KMap.get_set_same _ _ _ _

@[simp] theorem pkt_bump (s : State) (c : Ctr) (n p : Nat) : (s.bump c n).pkt p = s.pkt p := by rw [State.pkt, State.bump_ing, State.pkt]

/-- A change of the slices and a count leave all but the counter's registers and what goes to the performance counters. -/
theorem bump_withIng (s : State) (e : IngSt) (c : Ctr) (n : Nat) {t : State} (h : t = State.bump { s with ing := e } c n) :
    t.pending = s.pending ∧ t.ing = e ∧ RegsBut c.regs s t ∧ { t with ing := s.ing, regs := s.regs, pmcIn := s.pmcIn } = s := by
  have hRegs : RegsBut c.regs { s with ing := e } t := h ▸ RegsBut.bump _ c n
  exact ⟨by simp [h], by simp [h], hRegs, by simp [h]⟩

/-- A drop before commit is counted (R143); what else it changes is no register. -/
theorem counted_dropPkt (s : State) (p : Nat) (k : IPkt) (c : Ctr) (hLo : c.ovf ≠ c.lo) (hHi : c.ovf ≠ c.lo + 4) (hBit : c.bit < 32) :
    Counted c 1 s (s.dropPkt p k c) := by
  obtain ⟨b, t, r, d, hForget⟩ := forget_eq s p k
  rw [State.dropPkt, hForget]
  exact counted_bump _ c 1 hLo hHi hBit

/-! ### SLICE_ENTRY (R139, R150) -/

/-- The line queue of a slice without its only packet. -/
def lineEmptied (i : Nat) (s : State) : State := { s with ing := { s.ing with lineQ := qSet s.ing.lineQ i [] } }

/-- With no respin waiting the line frame goes next (R139). -/
theorem nextEntry_line {s : State} {i p : Nat} (hRespin : qGet s.ing.respinQ i = []) (hLine : qGet s.ing.lineQ i = [p]) :
    s.nextEntry i = some (p, lineEmptied i s) := by
  simp only [State.nextEntry, hRespin, hLine]
  rfl

theorem sliceEntry_enters {s : State} {i p n : Nat} {k : IPkt} (hF : s.fdieUp = true) (hT : s.tdieUp = true) (hFence : KMap.get 0 s.ing.fence i = 0)
    (hHold : KMap.get 0 s.ing.hold i ≤ s.time.cycles) (hRespin : qGet s.ing.respinQ i = []) (hLine : qGet s.ing.lineQ i = [p])
    (hPkt : s.pkt p = some k) (hLen : k.len = some n) (hFirst : k.respun = false) (hRoom : s.transitUsed i + n ≤ 600000)
    (hLease : s.leaseOver = false) :
    sliceEntry i s = (lineEmptied i s).setPkt p { k with stage := .entered, reserved := n, epoch := s.epoch } := by
  have hOpen : ¬ (!s.fdieUp || KMap.get 0 s.ing.fence i == 1 || KMap.get 0 s.ing.fence i == 3 ||
      decide (s.time.cycles < KMap.get 0 s.ing.hold i)) = true := by simp [hF, hFence, hHold]
  have hPktNext : (lineEmptied i s).pkt p = some k := hPkt
  have hFits : ¬ transitBytes < (lineEmptied i s).transitUsed i + n := not_lt.2 hRoom
  have hTNext : (lineEmptied i s).tdieUp = true := hT
  have hLeaseNext : (lineEmptied i s).leaseOver = false := hLease
  rw [sliceEntry, if_neg hOpen, nextEntry_line hRespin hLine]
  simp only [hPktNext, hLen, hFits, hTNext, hLeaseNext, hFirst, decide_false, Bool.and_false, Bool.not_true, Bool.false_eq_true, if_false]
  rfl

theorem sliceEntry_completes (s : State) (i : Fin 16) (p : Nat) (k : IPkt) (n : Nat) (hF : s.fdieUp = true) (hT : s.tdieUp = true)
    (hFence : KMap.get 0 s.ing.fence i.val = 0) (hHold : KMap.get 0 s.ing.hold i.val ≤ s.time.cycles) (hRespin : qGet s.ing.respinQ i.val = [])
    (hLine : qGet s.ing.lineQ i.val = [p]) (hPkt : s.pkt p = some k) (hLen : k.len = some n) (hFirst : k.respun = false)
    (hRoom : s.transitUsed i.val + n ≤ 600000) (hLease : s.leaseOver = false) :
    Completes (.sliceEntry i) s fun t => t.pkt p = some { k with stage := .entered, reserved := n, epoch := s.epoch } ∧
      qGet t.ing.lineQ i.val = [] ∧ { t with ing := s.ing } = s :=
  completes_of_answer (congrArg (answer s) (sliceEntry_enters hF hT hFence hHold hRespin hLine hPkt hLen hFirst hRoom hLease)) rfl
    ⟨pkt_setPkt_same _ _ _, KMap.get_set_same _ _ _ _, rfl⟩

/-! ### KEY_LAUNCH (R136) and PARSE_HEADERS (R119 to R130) -/

theorem keyLaunch_first {s : State} {p : Nat} {k : IPkt} (hPkt : s.pkt p = some k) (hStage : k.stage = .entered) (hFirst : k.respun = false) :
    keyLaunch p s = (s.setPkt p { k with
      stage := .launched
      prof := s.profileOf k
      reads := s.firstReads k.epoch (s.keysOf k (profileParse (s.profileOf k))) }).bump Ctr.EXM_EXTRA_READ
        (s.extraReads k.epoch (s.keysOf k (profileParse (s.profileOf k))).exmKeys) := by
  simp only [keyLaunch, hPkt, hStage, hFirst, ne_eq, not_true_eq_false, if_false, Bool.false_eq_true]

theorem keyLaunch_completes (s : State) (p : BitVec 32) (k : IPkt) (hPkt : s.pkt p.toNat = some k) (hStage : k.stage = .entered)
    (hFirst : k.respun = false) : Completes (.keyLaunch p) s fun t =>
      t.pkt p.toNat = some { k with stage := .launched, prof := s.profileOf k,
                                    reads := s.firstReads k.epoch (s.keysOf k (profileParse (s.profileOf k))) } ∧
      RegsBut Ctr.EXM_EXTRA_READ.regs s t ∧ { t with ing := s.ing, regs := s.regs, pmcIn := s.pmcIn } = s := by
  have hEq := keyLaunch_first hPkt hStage hFirst
  obtain ⟨hPending, -, hRegs, hFrame⟩ := bump_withIng s _ _ _ hEq
  refine completes_of_answer rfl hPending ⟨?_, hRegs, hFrame⟩
  rw [hEq, pkt_bump, pkt_setPkt_same]

theorem parseHeaders_first {s : State} {p : Nat} {k : IPkt} (hPkt : s.pkt p = some k) (hStage : k.stage = .launched) (hFirst : k.respun = false)
    (hKnown : k.known = true) :
    parseHeaders p s = s.setPkt p { k with
      stage := .parsed
      parse := some (parse (s.prsCfg k.slice) k.bytes (some k.bytes.length) k.hasIth) } := by
  simp only [parseHeaders, hPkt, hStage, hFirst, hKnown, ne_eq, not_true_eq_false, if_false, if_true, Bool.false_eq_true]

theorem parseHeaders_completes (s : State) (p : BitVec 32) (k : IPkt) (hPkt : s.pkt p.toNat = some k) (hStage : k.stage = .launched)
    (hFirst : k.respun = false) (hKnown : k.known = true) :
    Completes (.parseHeaders p) s fun t =>
      t.pkt p.toNat = some { k with stage := .parsed, parse := some (parse (s.prsCfg k.slice) k.bytes (some k.bytes.length) k.hasIth) } ∧
      { t with ing := s.ing } = s :=
  completes_of_answer (congrArg (answer s) (parseHeaders_first hPkt hStage hFirst hKnown)) rfl ⟨pkt_setPkt_same _ _ _, rfl⟩

/-! ### LAYOUT_COMPARE (R125 to R132, R141) -/

section
variable {s : State} {p : Nat} {k : IPkt} (hMal : k.ps.mal = none) (hCsum : k.ps.csumErr = false) (hHorizon : k.ps.horizon = false)
  (hFrag : k.ps.frag = none)
include hMal hCsum hHorizon hFrag

/-- A packet that is well-formed, within the horizon and no fragment has no parser outcome. -/
theorem outcomes_none : s.outcomes p k = s := by
  have hLookup : s.fragLookup p k true = s := by rw [State.fragLookup, hFrag]
  simp only [State.outcomes, hMal, hCsum, hHorizon, hLookup, Bool.false_and, Bool.false_eq_true, if_false]

variable (hPkt : s.pkt p = some k) (hStage : k.stage = .parsed) (hFirst : k.respun = false) (hEsp : s.espHit k = none)
include hPkt hStage hFirst hEsp

/-- Such a packet passes or goes round by its guess alone. -/
theorem layoutCompare_noOutcome : layoutCompare p s =
    if guessMatch k.prof k.ps k.bytes then s.setPkt p { k with stage := .compared }
    else (s.setPkt p { k with stage := .loop, reads := [] }).bump (Ctr.FWH_RESPIN k.slice) 1 := by
  simp only [layoutCompare, hPkt, hStage, hFirst, outcomes_none hMal hCsum hHorizon hFrag, hEsp, ite_self, ne_eq, not_true_eq_false, if_false,
    Bool.false_eq_true]

end

theorem counted_respin (s : State) (i : Nat) : Counted (Ctr.FWH_RESPIN i) 1 s (s.bump (Ctr.FWH_RESPIN i) 1) := by
  refine counted_bump s _ 1 ?_ ?_ (by decide : 1 < 32)
  all_goals
    simp only [Ctr.FWH_RESPIN]
    omega

theorem layoutCompare_completes (s : State) (p : BitVec 32) (k : IPkt) (hPkt : s.pkt p.toNat = some k) (hStage : k.stage = .parsed)
    (hFirst : k.respun = false) (hMal : k.ps.mal = none) (hCsum : k.ps.csumErr = false) (hHorizon : k.ps.horizon = false) (hFrag : k.ps.frag = none)
    (hEsp : s.espHit k = none) :
    Completes (.layoutCompare p) s fun t =>
      (guessMatch k.prof k.ps k.bytes = true → t.pkt p.toNat = some { k with stage := .compared } ∧ { t with ing := s.ing } = s) ∧
      (guessMatch k.prof k.ps k.bytes = false → t.pkt p.toNat = some { k with stage := .loop, reads := [] } ∧
        Counted (Ctr.FWH_RESPIN k.slice) 1 s t) := by
  have hEq := congrArg (answer s) (layoutCompare_noOutcome hMal hCsum hHorizon hFrag hPkt hStage hFirst hEsp)
  cases hGuess : guessMatch k.prof k.ps k.bytes with
  | true =>
    rw [if_pos hGuess] at hEq
    exact completes_of_answer hEq rfl ⟨fun _ => ⟨pkt_setPkt_same _ _ _, rfl⟩, nofun⟩
  | false =>
    rw [if_neg (Bool.eq_false_iff.1 hGuess)] at hEq
    exact completes_of_answer hEq (State.bump_pending _ _ _)
      ⟨nofun, fun _ => ⟨(pkt_bump _ _ _ _).trans (pkt_setPkt_same _ _ _), counted_respin (s.setPkt _ _) _⟩⟩

/-! ### RESPIN (R141) -/

/-- A packet that left the loop stands at the end of its slice's respin queue. -/
def respinQueued (p : Nat) (k : IPkt) (s : State) : State :=
  let s1 := s.setPkt p { k with stage := .respinQ, respun := true }
  { s1 with ing := { s1.ing with respinQ := qSet s1.ing.respinQ k.slice (qGet s.ing.respinQ k.slice ++ [p]) } }

theorem respin_of_loop {s : State} {p : Nat} {k : IPkt} (hPkt : s.pkt p = some k) (hStage : k.stage = .loop) :
    respin p s = if 32 ≤ (qGet s.ing.respinQ k.slice).length then s.dropCause p k dcRespinFull else respinQueued p k s := by
  simp only [respin, hPkt, hStage, ne_eq, not_true_eq_false, if_false]
  rfl

theorem counted_dropCause_respinFull (s : State) (p : Nat) (k : IPkt) :
    Counted (Ctr.FWH_DROP_CNT k.slice 4) 1 s (s.dropCause p k dcRespinFull) := by
  refine counted_dropPkt s p k (Ctr.FWH_DROP_CNT k.slice 4) ?_ ?_ (by decide : 5 < 32)
  all_goals
    simp only [Ctr.FWH_DROP_CNT]
    omega

theorem respin_completes (s : State) (p : BitVec 32) (k : IPkt) (hPkt : s.pkt p.toNat = some k) (hStage : k.stage = .loop) :
    Completes (.respin p) s fun t =>
      ((qGet s.ing.respinQ k.slice).length < 32 → t.pkt p.toNat = some { k with stage := .respinQ, respun := true } ∧
        qGet t.ing.respinQ k.slice = qGet s.ing.respinQ k.slice ++ [p.toNat] ∧ { t with ing := s.ing } = s) ∧
      (32 ≤ (qGet s.ing.respinQ k.slice).length → t.pkt p.toNat = none ∧ Counted (Ctr.FWH_DROP_CNT k.slice 4) 1 s t) := by
  have hEq := congrArg (answer s) (respin_of_loop hPkt hStage)
  by_cases hFull : 32 ≤ (qGet s.ing.respinQ k.slice).length
  · rw [if_pos hFull] at hEq
    obtain ⟨b, c, r, d, hForget⟩ := forget_eq s p.toNat k
    have hPending : (s.dropCause p.toNat k dcRespinFull).pending = s.pending := by
      rw [State.dropCause, State.dropPkt, State.bump_pending, hForget]
    have hGone : (s.dropCause p.toNat k dcRespinFull).pkt p.toNat = none := by rw [State.dropCause, dropPkt_pkt, if_pos rfl]
    exact completes_of_answer hEq hPending ⟨fun hRoom => absurd hFull (not_le.2 hRoom), fun _ => ⟨hGone, counted_dropCause_respinFull s _ k⟩⟩
  · rw [if_neg hFull] at hEq
    exact completes_of_answer hEq rfl ⟨fun _ => ⟨pkt_setPkt_same s _ _, KMap.get_set_same _ _ _ _, rfl⟩, fun h => absurd h hFull⟩

/-! ### TABLE_DRAM_READ_RETURN (R184, R328) -/

theorem neighbour_frame (s : State) (m : MemCtl) :
    { s.neighbour m with draws := s.draws, regs := s.regs, pmcIn := s.pmcIn } = s := by
  unfold State.neighbour
  cases m with
  | tdc | hbm =>
    dsimp only
    split_ifs
    · rfl
    · simp [State.draw]
    · rfl

/-- An access to a memory word draws and may count a neighbour refresh; it changes nothing else (R328). -/
theorem activate_frame (s : State) (l : MemLoc) :
    { s.activate l with draws := s.draws, regs := s.regs, pmcIn := s.pmcIn } = s := by
  unfold State.activate
  split
  · split_ifs
    · exact neighbour_frame s _
    · rfl
  · exact neighbour_frame s _
  · rfl

/-- What a lookup hits is a matter of the tables alone. -/
theorem exmHit_of_tab {s t : State} (h : t.tab = s.tab) (e : Nat) (key : ExmKey) : t.exmHit e key = s.exmHit e key := by
  cases s
  cases t
  cases h
  rfl

theorem readReturn_exm_miss {s : State} {p n slot : Nat} {k : IPkt} {key : ExmKey} (hPkt : s.pkt p = some k)
    (hRead : k.reads[n]? = some (.exm slot key)) (hMiss : s.exmHit k.epoch key ≠ some slot) :
    s.readReturn p n = s.setPkt p { k with reads := k.reads.eraseIdx n } := by
  simp only [State.readReturn, hPkt, hRead]
  exact if_neg hMiss

theorem tableDramReadReturn_completes (s : State) (p : BitVec 32) (n : BitVec 8) (l : MemLoc) (k : IPkt) (slot : Nat) (key : ExmKey)
    (hPkt : s.pkt p.toNat = some k) (hRead : k.reads[n.toNat]? = some (.exm slot key)) (hMiss : s.exmHit k.epoch key ≠ some slot) :
    Completes (.tableDramReadReturn p n l .clean) s fun t => t.pkt p.toNat = some { k with reads := k.reads.eraseIdx n.toNat } := by
  have hFrame := activate_frame s l
  have hTab : (s.activate l).tab = s.tab := (congrArg State.tab hFrame :)
  have hIng : (s.activate l).ing = s.ing := (congrArg State.ing hFrame :)
  have hPending : (s.activate l).pending = s.pending := (congrArg State.pending hFrame :)
  have hPktRead : (s.activate l).pkt p.toNat = some k := by rw [State.pkt, hIng, ← State.pkt, hPkt]
  have hMissRead : (s.activate l).exmHit k.epoch key ≠ some slot := by rwa [exmHit_of_tab hTab]
  exact completes_of_answer (congrArg (answer s) (readReturn_exm_miss hPktRead hRead hMissRead)) hPending (pkt_setPkt_same _ _ _)

/-! ### FRAGMENT_EXPIRE (R131) -/

theorem fragmentExpire_eq (s : State) : fragmentExpire s = s ∧ (∀ f ∈ s.ing.frags, s.mono < f.close) ∨
    ∃ n, fragmentExpire s = State.bump { s with ing := { s.ing with frags := s.ing.frags.filter (fun f => decide (s.mono < f.close)) } }
      Ctr.PRS_FRAG_EXPIRE n := by
  unfold fragmentExpire
  dsimp only
  split_ifs with hNone
  · refine .inl ⟨rfl, fun f hf => ?_⟩
    simpa using List.filter_eq_nil_iff.1 (List.isEmpty_iff.1 hNone) f hf
  · exact .inr ⟨_, rfl⟩

theorem fragmentExpire_completes (s : State) : Completes .fragmentExpire s fun t =>
    t.ing.frags = s.ing.frags.filter (fun f => decide (s.mono < f.close)) ∧ { t with ing := s.ing, regs := s.regs, pmcIn := s.pmcIn } = s ∧
    RegsBut Ctr.PRS_FRAG_EXPIRE.regs s t := by
  rcases fragmentExpire_eq s with ⟨hEq, hLive⟩ | ⟨n, hEq⟩
  · have hAll : s.ing.frags.filter (fun f => decide (s.mono < f.close)) = s.ing.frags :=
      List.filter_eq_self.2 fun f hf => decide_eq_true (hLive f hf)
    exact completes_of_answer (congrArg (answer s) hEq) rfl ⟨hAll.symm, rfl, RegsBut.rfl _ s⟩
  · obtain ⟨hPending, hIng, hRegs, hFrame⟩ := bump_withIng s _ _ n hEq
    exact completes_of_answer rfl hPending ⟨by rw [hIng], hFrame, hRegs⟩

/-! ### DRAM_WAIT (R137) -/

theorem dramWait_eq (s : State) (i : Nat) (v : Word) : ∃ h,
    dramWait i v s = { s.setReg (Reg.FWH_CFG i) (v &&& 0x3FF) with ing := { s.ing with hold := h } } ∧
    (Fld.FWH_CFG_DRAM_WAIT.get (v &&& 0x3FF) < s.fld (Reg.FWH_CFG i) Fld.FWH_CFG_DRAM_WAIT →
      KMap.get 0 h i = s.time.cycles + (s.fld (Reg.FWH_CFG i) Fld.FWH_CFG_DRAM_WAIT - Fld.FWH_CFG_DRAM_WAIT.get (v &&& 0x3FF))) := by
  have hNew : (s.setReg (Reg.FWH_CFG i) (v &&& 0x3FF)).fld (Reg.FWH_CFG i) Fld.FWH_CFG_DRAM_WAIT = Fld.FWH_CFG_DRAM_WAIT.get (v &&& 0x3FF) := by
    rw [State.fld, State.reg_setReg_same]
  simp only [dramWait, hNew]
  split_ifs with hSame
  · exact ⟨s.ing.hold, rfl, fun hLess => absurd hSame (by omega)⟩
  · exact ⟨_, rfl, fun _ => KMap.get_set_same _ _ _ _⟩

theorem dramWait_completes (s : State) (i : Fin 16) (v : BitVec 32) (hUp : s.fdieUp = true) :
    Completes (.dramWait i v) s fun t => t.reg (Reg.FWH_CFG i.val) = v &&& 0x3FF ∧ RegsBut [Reg.FWH_CFG i.val] s t ∧
      { t with ing := s.ing, regs := s.regs } = s ∧
      (Fld.FWH_CFG_DRAM_WAIT.get (v &&& 0x3FF) < s.fld (Reg.FWH_CFG i.val) Fld.FWH_CFG_DRAM_WAIT →
        KMap.get 0 t.ing.hold i.val =
          s.time.cycles + (s.fld (Reg.FWH_CFG i.val) Fld.FWH_CFG_DRAM_WAIT - Fld.FWH_CFG_DRAM_WAIT.get (v &&& 0x3FF))) := by
  obtain ⟨h, hEq, hHold⟩ := dramWait_eq s i.val v
  exact completes_of_answer (congrArg (answer s) ((if_pos hUp).trans hEq)) rfl
    ⟨State.reg_setReg_same s _ _, RegsBut.setReg _ s _ _ (List.mem_singleton_self _), rfl, hHold⟩

/-- Settles O11, a lemma for each command: a packet of the slice moves on by what its stage writes of it, and only drops, respins and expired
entries count. -/
theorem slicePipelineFront : Obligations.SlicePipelineFront := by
  unfold Obligations.SlicePipelineFront
  exact ⟨sliceEntry_completes, keyLaunch_completes, parseHeaders_completes, layoutCompare_completes, respin_completes,
    tableDramReadReturn_completes, fragmentExpire_completes, dramWait_completes⟩

end Sys2Proof.Machine.Parser
end

section
/-! PROOF. CLOSE, FWH_ETURN and the ends of the drains (R149 to R154, R222). -/

namespace Sys2Proof.Machine.FreewheelCommit
open DeviceOrganisation (completes_of_answer)

/-! ### Requests of a turn (R151) -/

theorem requestTurn_ingress (s : State) :
    (s.requestTurn false).flag Reg.FWH_EPOCH_STATUS Fld.FWH_EPOCH_STATUS_TURN_PENDING = true ∧ (s.requestTurn false).prevLive = s.prevLive ∧
    RegsBut [Reg.FWH_EPOCH_STATUS] s (s.requestTurn false) :=
  ⟨State.flag_setFlag_same _ _ _ _ (by decide), State.flag_setFlag_other _ _ _ _ _ (by decide) (by decide) (by decide),
    .setFlag _ s _ _ _ (by simp)⟩

theorem requestTurn_egress (s : State) :
    (s.requestTurn true).flag Reg.FWH_EEPOCH_STATUS Fld.FWH_EEPOCH_STATUS_TURN_PENDING = true ∧ (s.requestTurn true).egPrevLive = s.egPrevLive ∧
    OnlyRegs [Reg.FWH_EEPOCH_STATUS] s (s.requestTurn true) :=
  ⟨State.flag_setFlag_same _ _ _ _ (by decide), State.flag_setFlag_other _ _ _ _ _ (by decide) (by decide) (by decide),
    .setFlag _ s _ _ _ (by simp)⟩

/-! ### CLOSE and FWH_ETURN (R152, R154, R222) -/

/-- The tables once an open batch has closed. -/
def batchClosed (b : Batch) (s : State) : State :=
  { s with tab := { s.tab with openB := s.tab.openB.filter (fun x => x.num ≠ b.num), closedB := s.tab.closedB ++ [b] } }

theorem closeBatch_of_open {s : State} {src : Nat} {b : Batch} (h : s.openBatch src = some b) : s.closeBatch src = batchClosed b s := by
  rw [State.closeBatch, h]
  rfl

theorem closeBatch_of_none {s : State} {src : Nat} (h : s.openBatch src = none) : s.closeBatch src = s := by rw [State.closeBatch, h]

theorem aclClose_of_nothing_staged {s : State} (h : s.acl.staged = []) : s.aclClose = s := if_pos (.inl (by rw [h]; rfl))

/-- The staged ACL entries become the held batch. -/
def aclHeld (s : State) : State :=
  State.setFlag { s with acl := { s.acl with batch := s.acl.staged, staged := [], phase := .closed } } Reg.ACL_STATUS Fld.ACL_STATUS_BATCH_HELD true

theorem aclClose_of_staged {s : State} (hStaged : s.acl.staged ≠ []) (hIdle : s.acl.phase = .idle) : s.aclClose = aclHeld s :=
  if_neg (by simp [hStaged, hIdle])

theorem close_firmware (s : State) (b : Batch) (hUp : s.fdieUp = true) (hOpen : s.openBatch fwBatch = some b) (hNone : s.acl.staged = []) :
    Completes .close s fun t => t.tab.closedB = s.tab.closedB ++ [b] ∧ t.tab.openB = s.tab.openB.filter (fun x => x.num ≠ b.num) ∧
      t.flag Reg.FWH_EPOCH_STATUS Fld.FWH_EPOCH_STATUS_TURN_PENDING = true ∧ t.prevLive = s.prevLive ∧
      RegsBut [Reg.FWH_EPOCH_STATUS] s t ∧ { t with tab := s.tab, regs := s.regs } = s := by
  have hNone' : (batchClosed b s).acl.staged = [] := hNone
  have hEq : onF close s = (batchClosed b s).requestTurn false := by
    rw [onF, if_pos hUp, close, closeBatch_of_open hOpen, aclClose_of_nothing_staged hNone']
  obtain ⟨hPending, hLive, hRegs⟩ := requestTurn_ingress (batchClosed b s)
  exact completes_of_answer (congrArg (answer s) hEq) rfl ⟨rfl, rfl, hPending, hLive, hRegs, rfl⟩

theorem close_acl (s : State) (hUp : s.fdieUp = true) (hOpen : s.openBatch fwBatch = none) (hStaged : s.acl.staged ≠ [])
    (hIdle : s.acl.phase = .idle) :
    Completes .close s fun t => t.acl.batch = s.acl.staged ∧ t.acl.staged = [] ∧ t.acl.phase = .closed ∧
      t.flag Reg.ACL_STATUS Fld.ACL_STATUS_BATCH_HELD = true ∧ t.flag Reg.FWH_EPOCH_STATUS Fld.FWH_EPOCH_STATUS_TURN_PENDING = true ∧
      RegsBut [Reg.FWH_EPOCH_STATUS, Reg.ACL_STATUS] s t ∧ { t with acl := s.acl, regs := s.regs } = s := by
  have hEq : onF close s = (aclHeld s).requestTurn false := by
    rw [onF, if_pos hUp, close, closeBatch_of_none hOpen, aclClose_of_staged hStaged hIdle]
  have hHeld : ((aclHeld s).requestTurn false).flag Reg.ACL_STATUS Fld.ACL_STATUS_BATCH_HELD = true :=
    (State.flag_setFlag_ne _ _ _ _ _ _ (by decide)).trans (State.flag_setFlag_same _ _ _ _ (by decide))
  have hRegs : RegsBut [Reg.FWH_EPOCH_STATUS, Reg.ACL_STATUS] s ((aclHeld s).requestTurn false) :=
    (RegsBut.setFlag _ _ _ _ _ (by simp) : RegsBut _ s (aclHeld s)).trans (.setFlag _ _ _ _ _ (by simp))
  exact completes_of_answer (congrArg (answer s) hEq) rfl ⟨rfl, rfl, rfl, hHeld, (requestTurn_ingress _).1, hRegs, rfl⟩

theorem fwhEturn_requests (s : State) (hUp : s.fdieUp = true) :
    Completes .fwhEturn s fun t => t.flag Reg.FWH_EEPOCH_STATUS Fld.FWH_EEPOCH_STATUS_TURN_PENDING = true ∧
      t.egPrevLive = s.egPrevLive ∧ OnlyRegs [Reg.FWH_EEPOCH_STATUS] s t :=
  completes_of_answer (congrArg (answer s) (if_pos hUp : onF fwhEturn s = s.requestTurn true)) rfl (requestTurn_egress s)

/-! ### DRAIN_END and EGRESS_DRAIN_END (R150, R153, R154, R170) -/

/-- The cycles that a drain took raise the maximum. -/
def drainNoted (a : Nat) (f : Fld) (drain : Nat) (s : State) : State := s.setFld a f (max (s.fld a f) (min drain 0xFFFF))

/-- The previous ingress epoch has ended, and what only it saw is freed. -/
def prevReaped (s : State) : State := (s.setFlag Reg.FWH_EPOCH_STATUS Fld.FWH_EPOCH_STATUS_PREV_LIVE false).exmReap

/-- The turn-complete entries of the ingress side are written. -/
def ingressReported (drain : Nat) (s : State) : State :=
  { s.turnEntries 0 0 s.epoch drain s.turnIn.done with turnIn := { (s.turnEntries 0 0 s.epoch drain s.turnIn.done).turnIn with done := [] } }

theorem ingressReported_of_none {s : State} (drain : Nat) (h : s.turnIn.done = []) : ingressReported drain s = s := by
  rw [ingressReported, h, State.turnEntries, List.foldl_nil, ← h]

theorem drainEnd_of_empty {s : State} (hLive : s.prevLive = true) (hEmpty : s.inFlight (prevOf s.epoch) = 0) (hDone : s.turnIn.done = []) :
    drainEnd s = drainNoted Reg.FWH_DRAIN_MAX Fld.FWH_DRAIN_MAX_CYCLES (s.time.cycles - s.turnIn.at_) (prevReaped s) := by
  have hOver : ¬ (!s.prevLive || s.inFlight (prevOf s.epoch) != 0) = true := by simp [hLive, hEmpty]
  rw [← ingressReported_of_none (s := drainNoted _ _ _ (prevReaped s)) (s.time.cycles - s.turnIn.at_) hDone]
  exact if_neg hOver

theorem regsBut_prevReaped {l : List Nat} (s : State) (h : Reg.FWH_EPOCH_STATUS ∈ l) : RegsBut l s (prevReaped s) :=
  RegsBut.setFlag l s _ Fld.FWH_EPOCH_STATUS_PREV_LIVE false h

theorem mem_routes_prevReaped (s : State) (r : Route) :
    r ∈ (prevReaped s).tab.routes ↔ r ∈ s.tab.routes ∧ ∀ e, r.death = some e → precedes s.epoch e = true := by
  have hPrev : (s.setFlag Reg.FWH_EPOCH_STATUS Fld.FWH_EPOCH_STATUS_PREV_LIVE false).prevLive = false :=
    State.flag_setFlag_same _ _ _ _ (by decide)
  have hEpoch : (s.setFlag Reg.FWH_EPOCH_STATUS Fld.FWH_EPOCH_STATUS_PREV_LIVE false).epoch = s.epoch :=
    congrArg BitVec.toNat (State.reg_setReg_ne _ _ _ _ (by decide))
  simp only [prevReaped, State.exmReap, hPrev, hEpoch, Bool.false_and, Bool.or_false, State.setFlag_tab, List.mem_filter]
  cases hDeath : r.death <;> simp

theorem drainEnd_ends (s : State) (hLive : s.prevLive = true) (hEmpty : s.inFlight (prevOf s.epoch) = 0) (hDone : s.turnIn.done = []) :
    Completes .drainEnd s fun t => t.prevLive = false ∧ t.epoch = s.epoch ∧
      (∀ r, r ∈ t.tab.routes ↔ r ∈ s.tab.routes ∧ ∀ e, r.death = some e → precedes s.epoch e = true) ∧
      RegsBut [Reg.FWH_EPOCH_STATUS, Reg.FWH_DRAIN_MAX] s t ∧ { t with tab := s.tab, regs := s.regs } = s := by
  have hRegs : RegsBut [Reg.FWH_EPOCH_STATUS, Reg.FWH_DRAIN_MAX] s
      (drainNoted Reg.FWH_DRAIN_MAX Fld.FWH_DRAIN_MAX_CYCLES (s.time.cycles - s.turnIn.at_) (prevReaped s)) :=
    (regsBut_prevReaped s (by simp)).trans (.setFld _ _ _ _ _ (by simp))
  have hPrev : (prevReaped s).prevLive = false :=
    State.flag_setFlag_same s Reg.FWH_EPOCH_STATUS Fld.FWH_EPOCH_STATUS_PREV_LIVE false (by decide)
  refine completes_of_answer (congrArg (answer s) (drainEnd_of_empty hLive hEmpty hDone)) rfl
    ⟨?_, congrArg BitVec.toNat (hRegs _ (by decide)), mem_routes_prevReaped s, hRegs, rfl⟩
  rwa [State.prevLive, State.flag, drainNoted, State.fld_setFld_ne _ _ _ _ _ _ (by decide), ← State.flag, ← State.prevLive]

theorem drainEnd_waits (s : State) (h : s.prevLive = false ∨ s.inFlight (prevOf s.epoch) ≠ 0) : exec .drainEnd s = .next s :=
  congrArg (answer s) (if_pos (by simpa using h) : drainEnd s = s)

/-- The previous egress epoch has ended. -/
def egPrevEnded (s : State) : State := s.setFlag Reg.FWH_EEPOCH_STATUS Fld.FWH_EEPOCH_STATUS_PREV_LIVE false

/-- The turn-complete entries of the egress side are written. -/
def egressReported (drain : Nat) (s : State) : State :=
  { s.turnEntries 1 0 s.egEpoch drain s.turnOut.done with turnOut := { (s.turnEntries 1 0 s.egEpoch drain s.turnOut.done).turnOut with done := [] } }

theorem egressReported_of_none {s : State} (drain : Nat) (h : s.turnOut.done = []) : egressReported drain s = s := by
  rw [egressReported, h, State.turnEntries, List.foldl_nil, ← h]

theorem egressDrainEnd_of_empty {s : State} (hLive : s.egPrevLive = true) (hEmpty : s.egInFlight (prevOf s.egEpoch) = 0)
    (hDone : s.turnOut.done = []) :
    egressDrainEnd s = drainNoted Reg.FWH_EDRAIN_MAX Fld.FWH_EDRAIN_MAX_CYCLES (s.time.cycles - s.turnOut.at_) (egPrevEnded s) := by
  have hOver : ¬ (!s.egPrevLive || s.egInFlight (prevOf s.egEpoch) != 0) = true := by simp [hLive, hEmpty]
  rw [← egressReported_of_none (s := drainNoted _ _ _ (egPrevEnded s)) (s.time.cycles - s.turnOut.at_) hDone]
  exact if_neg hOver

theorem egressDrainEnd_ends (s : State) (hLive : s.egPrevLive = true) (hEmpty : s.egInFlight (prevOf s.egEpoch) = 0)
    (hDone : s.turnOut.done = []) :
    Completes .egressDrainEnd s fun t => t.egPrevLive = false ∧ t.egEpoch = s.egEpoch ∧
      OnlyRegs [Reg.FWH_EEPOCH_STATUS, Reg.FWH_EDRAIN_MAX] s t := by
  have hRegs : RegsBut [Reg.FWH_EEPOCH_STATUS, Reg.FWH_EDRAIN_MAX] s
      (drainNoted Reg.FWH_EDRAIN_MAX Fld.FWH_EDRAIN_MAX_CYCLES (s.time.cycles - s.turnOut.at_) (egPrevEnded s)) :=
    (RegsBut.setFlag _ _ _ _ _ (by simp) : RegsBut _ s (egPrevEnded s)).trans (.setFld _ _ _ _ _ (by simp))
  have hPrev : (egPrevEnded s).egPrevLive = false := State.flag_setFlag_same _ _ _ _ (by decide)
  refine completes_of_answer (congrArg (answer s) (egressDrainEnd_of_empty hLive hEmpty hDone)) rfl
    ⟨?_, congrArg BitVec.toNat (hRegs _ (by decide)), rfl, hRegs⟩
  rwa [State.egPrevLive, State.flag, drainNoted, State.fld_setFld_ne _ _ _ _ _ _ (by decide), ← State.flag, ← State.egPrevLive]

theorem egressDrainEnd_waits (s : State) (h : s.egPrevLive = false ∨ s.egInFlight (prevOf s.egEpoch) ≠ 0) : exec .egressDrainEnd s = .next s :=
  congrArg (answer s) (if_pos (by simpa using h) : egressDrainEnd s = s)

end Sys2Proof.Machine.FreewheelCommit
end

section
/-! PROOF. O13: the turns of the ingress and the egress epoch, what a publication leaves, and the rings that waited (R149 to R154, R222, R369). -/

namespace Sys2Proof.Machine.FreewheelCommit
open DeviceOrganisation (completes_of_answer RegsWithin Reported foldl_rel turnRings_shows)
open LinePorts (onlyRegs_trans)

/-! ### The states of the rings (R369) -/

/-- A field that shares no bit with the one set keeps its value, in whichever register it lies. -/
theorem fld_setFld_disjoint (s : State) (a b : Nat) {f g : Fld} (v : Nat) (hf : f.lo + f.width ≤ 32) (hg : g.lo + g.width ≤ 32)
    (hd : f.lo + f.width ≤ g.lo ∨ g.lo + g.width ≤ f.lo) : (s.setFld a f v).fld b g = s.fld b g := by
  by_cases h : b = a
  · rw [h, State.fld_setFld_other _ _ _ _ _ hf hg hd]
  · exact State.fld_setFld_ne _ _ _ _ _ _ h

theorem ringState_of_regs {s t : State} (h : t.regs = s.regs) (g : Nat) : t.ringState g = s.ringState g := by
  rw [State.ringState, State.fld, State.reg, h, ← State.reg, ← State.fld, ← State.ringState]

theorem ringState_setReg (s : State) {a : Nat} (w : Word) (h : a < 0x1fd00000) (g : Nat) : (s.setReg a w).ringState g = s.ringState g := by
  rw [State.ringState, State.fld, State.reg_setReg_ne _ _ _ _ (by unfold Reg.RING_CTRL; omega), ← State.fld, ← State.ringState]

theorem ringState_setRingState (s : State) (g st h : Nat) (hSt : st < 8) :
    (s.setRingState g st).ringState h = if h = g then st else s.ringState h := by
  split
  case isTrue hEq =>
    rw [hEq, State.ringState, State.setRingState, State.fld_setFld_same _ _ _ _ (by decide)]
    exact Nat.mod_eq_of_lt hSt
  case isFalse hNe => exact State.fld_setFld_ne _ _ _ _ _ _ (by unfold Reg.RING_CTRL; omega)

/-- The next entry of a ring advances CPL_PROD, which shares no bit with STATE. -/
theorem ringState_writeEntry (s : State) (g : Nat) (d : List Byte) (h : Nat) : (s.writeEntry g d).ringState h = s.ringState h := by
  rw [State.writeEntry, State.ringState, State.setRing_fld, fld_setFld_disjoint _ _ _ _ (by decide) (by decide) (by decide)]
  exact ringState_of_regs (State.partyWrite_regs _ _ _ _) h

theorem ringState_bump (s : State) (c : Ctr) (n : Nat) (hc : ∀ a ∈ c.regs, a < 0x1fd00000) (g : Nat) :
    (s.bump c n).ringState g = s.ringState g := by
  have hApart : Reg.RING_CTRL g ∉ c.regs := fun h => absurd (hc _ h) (by unfold Reg.RING_CTRL; omega)
  rw [State.ringState, State.fld, RegsBut.bump s c n _ hApart, ← State.fld, ← State.ringState]

theorem ringState_withEvLost (s : State) (e : KMap Nat) (g : Nat) : State.ringState { s with evLost := e } g = s.ringState g :=
  ringState_of_regs rfl g

theorem ringState_eventDrop (s : State) {p : Nat} (g : Nat) (hPort : partyPort p = 0) : (s.eventDrop p).ringState g = s.ringState g := by
  rw [State.eventDrop, hPort]
  exact (ringState_withEvLost _ _ g).trans (ringState_bump s (Ctr.RING_EVT_DROP 0) 1 (by decide) g)

theorem ringState_ownerEvent (s : State) (code die cl loc : Nat) (d : List Byte) (g : Nat) :
    (s.ownerEvent code die cl loc d).ringState g = s.ringState g := by
  have hDrop := ringState_eventDrop s g (show partyPort 0 = 0 by decide)
  rw [State.ownerEvent, State.event, State.eventAt]
  split
  · exact hDrop
  · split
    · exact hDrop
    · exact (ringState_withEvLost _ _ g).trans (ringState_writeEntry s _ _ g)

/-! ### Publication (R152, R165, R170, R197) -/

/-- What a publication leaves: the open batches, the states of the rings, and all that neither the tables nor events touch. -/
structure Publishes (s t : State) : Prop where
  frame : Reported s { t with tab := s.tab, lrn := s.lrn, acl := s.acl }
  openB : t.tab.openB = s.tab.openB
  ringState : ∀ g, t.ringState g = s.ringState g

namespace Publishes
variable {s t u : State}

theorem refl (s : State) : Publishes s s := ⟨.refl s, rfl, fun _ => rfl⟩

theorem trans (h : Publishes s t) (k : Publishes t u) : Publishes s u where
  frame := by
    have hFirst := h.frame.eq
    have hSecond := k.frame.eq
    simp only at hFirst hSecond
    rw [Reported, ← hFirst, ← hSecond]
  openB := k.openB.trans h.openB
  ringState g := (k.ringState g).trans (h.ringState g)

theorem of_tab {x : TabSt} (h : x.openB = s.tab.openB) : Publishes s { s with tab := x } := ⟨rfl, h, fun _ => rfl⟩

theorem foldl {β : Type*} {f : State → β → State} (hf : ∀ s x, Publishes s (f s x)) (l : List β) (s : State) : Publishes s (l.foldl f s) :=
  foldl_rel refl (fun _ _ _ => trans) l (fun s x _ => hf s x) s

end Publishes

theorem publishes_setSlot (s : State) (i : Nat) (e : ExmEntry) : Publishes s (s.setSlot i e) := .of_tab rfl

theorem publishes_dropRec (s : State) (k : ExmKey) : Publishes s (s.dropRec k) := ⟨rfl, rfl, fun _ => rfl⟩

theorem publishes_learnNote (s : State) (code : Nat) (k : ExmKey) (old new : Nat) : Publishes s (s.learnNote code k old new) where
  frame := by simp [State.learnNote, Reported]
  openB := by rw [State.learnNote, State.ownerEvent_tab]
  ringState := ringState_ownerEvent _ _ _ _ _ _

theorem publishes_unfreeze (s : State) (k : ExmKey) : Publishes s (s.unfreeze k) := by
  rw [State.unfreeze]
  split
  · split
    · exact ((publishes_setSlot s _ _).trans (publishes_dropRec _ k)).trans (publishes_learnNote _ _ _ _ _)
    · exact .refl s
  · exact .refl s

theorem publishes_unfreezePublished (s : State) : Publishes s s.unfreezePublished := by
  refine .foldl (fun u o => ?_) _ s
  cases o with
  | routeAdd | routeDel => exact .refl u
  | exmAdd k | exmDel k =>
    dsimp only
    split
    · exact publishes_unfreeze u k
    · exact .refl u

/-- The version of a key that epoch `e` no longer sees ends. -/
def versionEnded (e : Nat) (k : ExmKey) (s : State) : State :=
  match s.exmLive k with
  | some (i, x) => if x.birth = e then s.clearSlot i else s.setSlot i { x with death := some e }
  | none => s

/-- The version of a key that a batch staged is seen from epoch `e` on. -/
def versionBorn (e num : Nat) (k : ExmKey) (s : State) : State :=
  match (s.candidates k).find? (fun i => match s.slot i with
    | some x => x.key == k && x.batch == some num
    | none => false) with
  | none => s
  | some i => match s.slot i with
    | none => s
    | some x => s.setSlot i { x with batch := none, birth := e }

theorem publishes_versionEnded (e : Nat) (k : ExmKey) (s : State) : Publishes s (versionEnded e k s) := by
  rw [versionEnded]
  split
  · split <;> exact publishes_setSlot _ _ _
  · exact .refl s

theorem publishes_versionBorn (e num : Nat) (k : ExmKey) (s : State) : Publishes s (versionBorn e num k s) := by
  rw [versionBorn]
  split
  · exact .refl s
  · split
    · exact .refl s
    · exact publishes_setSlot _ _ _

theorem publishes_publishOp (e num : Nat) (s : State) (o : StOp) : Publishes s (State.publishOp e num s o) := by
  cases o with
  | routeAdd | routeDel => exact .of_tab rfl
  | exmDel k => exact publishes_versionEnded e k s
  | exmAdd k => exact (publishes_versionEnded e k s).trans (publishes_versionBorn e num k _)

theorem publishes_publish (s : State) (e : Nat) : Publishes s (s.publish e) := by
  have hOps := Publishes.foldl (fun u (b : Batch) => Publishes.foldl (publishes_publishOp e b.num) b.ops u) s.tab.closedB s
  rw [State.publish]
  exact hOps.trans (.of_tab rfl)

theorem publishes_aclPublish (s : State) : Publishes s s.aclPublish := by
  rw [State.aclPublish]
  split
  · exact ⟨rfl, rfl, ringState_setReg _ _ (by decide)⟩
  · exact .refl s

/-! ### The rings that waited (R369, R370) -/

/-- A ring that waited for a turn goes on. -/
def ringResumed (g : Nat) (s : State) : State :=
  let s1 := s.setRing g { s.ring g with turnOut := false }
  if s1.ringState g = rsTurnWait then s1.setRingState g rsRunning else s1

theorem turnRings_cons (s : State) (x : Nat × Nat) (l : List (Nat × Nat)) : s.turnRings (x :: l) = (ringResumed x.1 s).turnRings l := rfl

theorem ringState_ringResumed (s : State) (g h : Nat) :
    (ringResumed g s).ringState h = if h = g ∧ s.ringState g = rsTurnWait then rsRunning else s.ringState h := by
  have hSame (x : RingSt) (k : Nat) : (s.setRing g x).ringState k = s.ringState k := State.setRing_fld _ _ _ _ _
  simp only [ringResumed, hSame]
  by_cases hWait : s.ringState g = rsTurnWait
  · rw [if_pos hWait, ringState_setRingState _ _ _ _ (by decide), hSame]
    simp only [hWait, and_true]
  · rw [if_neg hWait, hSame, if_neg (fun h => hWait h.2)]

theorem ringState_turnRings_of_running (l : List (Nat × Nat)) (s : State) (g : Nat) (h : s.ringState g = rsRunning) :
    (s.turnRings l).ringState g = rsRunning := by
  induction l generalizing s with
  | nil => exact h
  | cons x l ih =>
    rw [turnRings_cons]
    exact ih _ (by rw [ringState_ringResumed, h, ite_self])

theorem ringState_turnRings_of_waiting (l : List (Nat × Nat)) (s : State) {x : Nat × Nat} (hx : x ∈ l) (h : s.ringState x.1 = rsTurnWait) :
    (s.turnRings l).ringState x.1 = rsRunning := by
  induction l generalizing s with
  | nil => exact absurd hx List.not_mem_nil
  | cons y l ih =>
    rw [turnRings_cons]
    by_cases hy : x.1 = y.1
    · exact ringState_turnRings_of_running l _ _ (by rw [ringState_ringResumed, ← hy, if_pos ⟨rfl, h⟩])
    · have hLater : x ∈ l := (List.mem_cons.1 hx).resolve_left (fun hEq => hy (congrArg Prod.fst hEq))
      exact ih _ hLater (by rw [ringState_ringResumed, if_neg (fun hEq => hy hEq.1), h])

/-- The registers of the rings (R386). -/
def ringReg (a : Nat) : Bool := decide (0x1fd00000 ≤ a)

theorem ringReg_ringCtrl (g : Nat) : ringReg (Reg.RING_CTRL g) = true := by
  unfold ringReg Reg.RING_CTRL
  exact decide_eq_true (by omega)

theorem regsWithin_turnRings (s : State) (l : List (Nat × Nat)) : RegsWithin ringReg s (s.turnRings l) := by
  refine foldl_rel (.refl _) (fun _ _ _ => .trans) l (fun u x _ => ?_) s
  have hRing : RegsWithin ringReg u (u.setRing x.1 { u.ring x.1 with turnOut := false }) := .of_regs (State.setRing_regs _ _ _)
  dsimp only
  split
  · exact hRing.setFld (ringReg_ringCtrl x.1)
  · exact hRing

/-! ### EPOCH_TURN (R150, R151, R222) -/

/-- The next epoch is current, the former one is live, and no turn is requested. -/
def epochAdvanced (e : Nat) (s : State) : State :=
  ((s.setReg Reg.FWH_EPOCH_CUR (BitVec.ofNat 32 e)).setFlag Reg.FWH_EPOCH_STATUS Fld.FWH_EPOCH_STATUS_TURN_PENDING false).setFlag
    Reg.FWH_EPOCH_STATUS Fld.FWH_EPOCH_STATUS_PREV_LIVE true

theorem epochAdvanced_status (e : Nat) (s : State) (he : e < 2 ^ 32) :
    (epochAdvanced e s).epoch = e ∧ (epochAdvanced e s).prevLive = true ∧
    (epochAdvanced e s).flag Reg.FWH_EPOCH_STATUS Fld.FWH_EPOCH_STATUS_TURN_PENDING = false := by
  refine ⟨?_, State.flag_setFlag_same _ _ _ _ (by decide), ?_⟩
  · rw [State.epoch, epochAdvanced, State.setFlag, State.setFlag, State.setFld, State.setFld, State.reg_setReg_ne _ _ _ _ (by decide),
      State.reg_setReg_ne _ _ _ _ (by decide), State.reg_setReg_same, BitVec.toNat_ofNat, Nat.mod_eq_of_lt he]
  · rw [epochAdvanced, State.flag_setFlag_other _ _ _ _ _ (by decide) (by decide) (by decide)]
    exact State.flag_setFlag_same _ _ _ _ (by decide)

theorem publishes_epochAdvanced (e : Nat) (s : State) : Publishes s (epochAdvanced e s) where
  frame := rfl
  openB := rfl
  ringState g := by
    rw [epochAdvanced, State.setFlag, State.setFlag, State.setFld, State.setFld, ringState_setReg _ _ (by decide),
      ringState_setReg _ _ (by decide), ringState_setReg _ _ (by decide)]

/-- The closed batches are published as the next epoch, which becomes current. -/
def batchesPublished (s : State) : State := epochAdvanced s.nextEpoch ((s.unfreezePublished.publish s.nextEpoch).aclPublish)

theorem publishes_batchesPublished (s : State) : Publishes s (batchesPublished s) :=
  (((publishes_unfreezePublished s).trans (publishes_publish _ _)).trans (publishes_aclPublish _)).trans (publishes_epochAdvanced _ _)

theorem batchesPublished_status (s : State) :
    (batchesPublished s).epoch = s.nextEpoch ∧ (batchesPublished s).prevLive = true ∧
    (batchesPublished s).flag Reg.FWH_EPOCH_STATUS Fld.FWH_EPOCH_STATUS_TURN_PENDING = false :=
  epochAdvanced_status _ _ (Nat.mod_lt _ (by decide))

theorem aclPublish_tab (s : State) : s.aclPublish.tab = s.tab := by
  rw [State.aclPublish]
  split
  · exact State.setFlag_tab _ _ _ _
  · rfl

theorem batchesPublished_closedB (s : State) : (batchesPublished s).tab.closedB = [] := by
  simp only [batchesPublished, epochAdvanced, State.setFlag_tab, State.setReg_tab, aclPublish_tab]
  rfl

/-- The rings that waited go on, and wait for the drain's report. -/
def ingressTurned (s : State) : State :=
  { s.turnRings s.turnIn.wait with turnIn := { wait := [], done := (s.turnRings s.turnIn.wait).turnIn.wait,
                                               at_ := (s.turnRings s.turnIn.wait).time.cycles } }

theorem epochTurn_of_due {s : State} (hPending : s.flag Reg.FWH_EPOCH_STATUS Fld.FWH_EPOCH_STATUS_TURN_PENDING = true) (hPrev : s.prevLive = false)
    (hUp : s.fdieUp = true) (hClosed : s.acl.phase ≠ .closed) (hPublished : s.acl.phase ≠ .published) :
    epochTurn s = ingressTurned (batchesPublished s) :=
  if_neg (by simp [hPending, hPrev, hUp, hClosed, hPublished])

theorem epochTurn_waits (s : State)
    (h : s.flag Reg.FWH_EPOCH_STATUS Fld.FWH_EPOCH_STATUS_TURN_PENDING = false ∨ s.prevLive = true ∨ s.acl.phase = .closed) :
    exec .epochTurn s = .next s := by
  have hWait : (!s.flag Reg.FWH_EPOCH_STATUS Fld.FWH_EPOCH_STATUS_TURN_PENDING || s.prevLive || !s.fdieUp || s.acl.phase == .closed ||
      s.acl.phase == .published) = true := by
    rcases h with h | h | h <;> simp [h]
  exact congrArg (answer s) (if_pos hWait : epochTurn s = s)

theorem epochTurn_turns (s : State) (hPending : s.flag Reg.FWH_EPOCH_STATUS Fld.FWH_EPOCH_STATUS_TURN_PENDING = true) (hPrev : s.prevLive = false)
    (hUp : s.fdieUp = true) (hClosed : s.acl.phase ≠ .closed) (hPublished : s.acl.phase ≠ .published)
    (_hRings : s.turnIn.wait.all (fun x => decide (x.1 < 65536)) = true) :
    Completes .epochTurn s fun t => t.epoch = s.nextEpoch ∧ t.prevLive = true ∧ t.tab.closedB = [] ∧
      t.flag Reg.FWH_EPOCH_STATUS Fld.FWH_EPOCH_STATUS_TURN_PENDING = false ∧
      t.turnIn = { wait := [], done := s.turnIn.wait, at_ := s.time.cycles } ∧
      (∀ x ∈ s.turnIn.wait, s.ringState x.1 = rsTurnWait → t.ringState x.1 = rsRunning) ∧ t.tab.openB = s.tab.openB ∧
      t.ing = s.ing ∧ t.eg = s.eg := by
  obtain ⟨hFrame, hOpenB, hState⟩ := publishes_batchesPublished s
  obtain ⟨hEpoch, hLive, hClear⟩ := batchesPublished_status s
  have hEq := epochTurn_of_due hPending hPrev hUp hClosed hPublished
  rw [ingressTurned, hFrame.turnIn] at hEq
  have hResumed (x) (hx : x ∈ s.turnIn.wait) (hWait : s.ringState x.1 = rsTurnWait) :
      ((batchesPublished s).turnRings s.turnIn.wait).ringState x.1 = rsRunning :=
    ringState_turnRings_of_waiting _ _ hx ((hState x.1).trans hWait)
  have hRings := (turnRings_shows (batchesPublished s) s.turnIn.wait).1
  have hRegs := regsWithin_turnRings (batchesPublished s) s.turnIn.wait
  generalize (batchesPublished s).turnRings s.turnIn.wait = u at hEq hResumed hRings hRegs
  rw [hRings.turnIn.trans hFrame.turnIn, hRings.time.trans hFrame.time] at hEq
  exact completes_of_answer (congrArg (answer s) hEq) (hRings.pending.trans hFrame.pending)
    ⟨(congrArg BitVec.toNat (hRegs _ (by decide))).trans hEpoch, (hRegs.flag (by decide) _).trans hLive,
      (congrArg TabSt.closedB hRings.tab).trans (batchesPublished_closedB s), (hRegs.flag (by decide) _).trans hClear, rfl, hResumed,
      (congrArg TabSt.openB hRings.tab).trans hOpenB, hRings.ing.trans hFrame.ing, hRings.eg.trans hFrame.eg⟩

/-! ### EGRESS_EPOCH_TURN (R154) -/

/-- The next egress epoch is current, the former one is live, and no turn is requested. -/
def egEpochAdvanced (s : State) : State :=
  ((s.setReg Reg.FWH_EEPOCH_CUR (BitVec.ofNat 32 (s.egEpoch + 1))).setFlag Reg.FWH_EEPOCH_STATUS Fld.FWH_EEPOCH_STATUS_TURN_PENDING false).setFlag
    Reg.FWH_EEPOCH_STATUS Fld.FWH_EEPOCH_STATUS_PREV_LIVE true

theorem egEpochAdvanced_status (s : State) :
    (egEpochAdvanced s).reg Reg.FWH_EEPOCH_CUR = s.reg Reg.FWH_EEPOCH_CUR + 1 ∧ (egEpochAdvanced s).egPrevLive = true ∧
    (egEpochAdvanced s).flag Reg.FWH_EEPOCH_STATUS Fld.FWH_EEPOCH_STATUS_TURN_PENDING = false ∧
    OnlyRegs [Reg.FWH_EEPOCH_CUR, Reg.FWH_EEPOCH_STATUS] s (egEpochAdvanced s) := by
  refine ⟨?_, State.flag_setFlag_same _ _ _ _ (by decide), ?_,
    onlyRegs_trans (onlyRegs_trans (.setReg _ _ _ _ (by simp)) (.setFlag _ _ _ _ _ (by simp))) (.setFlag _ _ _ _ _ (by simp))⟩
  · rw [egEpochAdvanced, State.setFlag, State.setFlag, State.setFld, State.setFld, State.reg_setReg_ne _ _ _ _ (by decide),
      State.reg_setReg_ne _ _ _ _ (by decide), State.reg_setReg_same, State.egEpoch, BitVec.ofNat_add, BitVec.ofNat_toNat, BitVec.setWidth_eq]
    rfl
  · rw [egEpochAdvanced, State.flag_setFlag_other _ _ _ _ _ (by decide) (by decide) (by decide)]
    exact State.flag_setFlag_same _ _ _ _ (by decide)

/-- The rings that waited go on, and wait for the drain's report. -/
def egressTurned (s : State) : State :=
  { s.turnRings s.turnOut.wait with turnOut := { wait := [], done := (s.turnRings s.turnOut.wait).turnOut.wait,
                                                 at_ := (s.turnRings s.turnOut.wait).time.cycles } }

/-- A turn that no ring waited for. -/
def turnNoted (s : State) : State := { s with turnOut := { wait := [], done := [], at_ := s.time.cycles } }

theorem egressTurned_of_no_wait {s : State} (h : s.turnOut.wait = []) : egressTurned s = turnNoted s := by
  rw [egressTurned, h, State.turnRings, List.foldl_nil, h, turnNoted]

theorem egressEpochTurn_of_due {s : State} (hPending : s.flag Reg.FWH_EEPOCH_STATUS Fld.FWH_EEPOCH_STATUS_TURN_PENDING = true)
    (hPrev : s.egPrevLive = false) (hUp : s.fdieUp = true) (hNone : s.turnOut.wait = []) :
    egressEpochTurn s = turnNoted (egEpochAdvanced s) := by
  have hNone' : (egEpochAdvanced s).turnOut.wait = [] := hNone
  exact (if_neg (by simp [hPending, hPrev, hUp])).trans (egressTurned_of_no_wait hNone')

theorem egressEpochTurn_turns (s : State) (hPending : s.flag Reg.FWH_EEPOCH_STATUS Fld.FWH_EEPOCH_STATUS_TURN_PENDING = true)
    (hPrev : s.egPrevLive = false) (hUp : s.fdieUp = true) (hNone : s.turnOut.wait = []) :
    Completes .egressEpochTurn s fun t => t.reg Reg.FWH_EEPOCH_CUR = s.reg Reg.FWH_EEPOCH_CUR + 1 ∧ t.egPrevLive = true ∧
      t.flag Reg.FWH_EEPOCH_STATUS Fld.FWH_EEPOCH_STATUS_TURN_PENDING = false ∧ t.epoch = s.epoch ∧ t.turnOut.at_ = s.time.cycles ∧
      RegsBut [Reg.FWH_EEPOCH_CUR, Reg.FWH_EEPOCH_STATUS] s t ∧ { t with turnOut := s.turnOut, regs := s.regs } = s := by
  obtain ⟨hCur, hLive, hClear, hFrame, hRegs⟩ := egEpochAdvanced_status s
  have hEq := egressEpochTurn_of_due hPending hPrev hUp hNone
  generalize egEpochAdvanced s = u at hEq hCur hLive hClear hFrame hRegs
  exact completes_of_answer (congrArg (answer s) hEq) (congrArg State.pending hFrame :)
    ⟨hCur, hLive, hClear, congrArg BitVec.toNat (hRegs Reg.FWH_EPOCH_CUR (by decide)), (congrArg (·.time.cycles) hFrame :), hRegs,
      congrArg (fun v : State => { v with turnOut := s.turnOut }) hFrame⟩

/-- Settles O13, a lemma for each command and each state it meets: a publication leaves the turn's registers, and a ring that waited runs. -/
theorem epochTurns : Obligations.EpochTurns := by
  unfold Obligations.EpochTurns
  exact ⟨close_firmware, close_acl, fwhEturn_requests, epochTurn_turns, epochTurn_waits, drainEnd_ends, drainEnd_waits, egressEpochTurn_turns,
    egressDrainEnd_ends, egressDrainEnd_waits⟩

end Sys2Proof.Machine.FreewheelCommit
end

section
/-! PROOF. Update entries: what taking an entry, staging its changes and writing its completion do (R152, R180 to R183, R364, R373, R382). -/

namespace Sys2Proof.Machine.FreewheelCommit
open DeviceOrganisation (RegsWithin regsBut_writeCpl counted_bump)

/-! ### Rings -/

@[simp] theorem ring_setRing_same (s : State) (g : Nat) (r : RingSt) : (s.setRing g r).ring g = r := KMap.get_set_same _ _ _ _

theorem ring_of_rings {s t : State} (h : t.rings = s.rings) (g : Nat) : t.ring g = s.ring g := by rw [State.ring, h, ← State.ring]

theorem ringReg_ringIdx (g : Nat) : ringReg (Reg.RING_IDX g) = true := by
  unfold ringReg Reg.RING_IDX
  exact decide_eq_true (by omega)

theorem ringIdx_ne_ringCtrl (g : Nat) : Reg.RING_IDX g ≠ Reg.RING_CTRL g := by
  unfold Reg.RING_IDX Reg.RING_CTRL
  omega

/-! ### The head entry (R183, R369) -/

theorem updHead_runs {s : State} {g : Nat} {op : Nat → Bool} {engine : List Byte → Bool} {d : List Byte} (h : s.updHead g op engine = some d) :
    s.ringKind g = rkUpdate ∧ s.ringState g = rsRunning := by
  rw [State.updHead] at h
  split at h
  case isFalse => exact absurd h nofun
  case isTrue hKind =>
    refine ⟨hKind, ?_⟩
    by_contra hState
    have hNone : s.headDesc g = none := if_neg (fun hRuns => hState hRuns.1)
    rw [hNone] at h
    exact absurd h nofun

/-! ### Taking an entry (R364, R373) -/

@[simp] theorem takeDesc_tab (s : State) (g : Nat) : (s.takeDesc g).tab = s.tab := rfl

theorem takeDesc_ring (s : State) (g : Nat) :
    (s.takeDesc g).ring g = { s.ring g with pre := (s.ring g).pre.drop 1, reserved := (s.ring g).reserved + 1 } :=
  ring_setRing_same _ _ _

theorem takeDesc_regs (s : State) (g : Nat) : RegsBut [Reg.RING_IDX g] s (s.takeDesc g) :=
  RegsBut.setFld _ s _ Fld.RING_IDX_DESC_CONS _ (List.mem_singleton_self _)

theorem takeDesc_descCons (s : State) (g : Nat) : (s.takeDesc g).descCons g = (s.descCons g + 1) % 2 ^ 17 := by
  have hSet : (s.takeDesc g).descCons g = (s.descCons g + 1) % 2 ^ 17 % 2 ^ 17 := State.fld_setFld_same s _ _ _ (by decide)
  rw [hSet, Nat.mod_mod]

theorem takeDesc_within (s : State) (g : Nat) : RegsWithin ringReg s (s.takeDesc g) := .of_but (takeDesc_regs s g) (by simp [ringReg_ringIdx])

theorem takeDesc_nextEpoch (s : State) (g : Nat) : (s.takeDesc g).nextEpoch = s.nextEpoch := by
  rw [State.nextEpoch, State.epoch, takeDesc_within s g _ (by decide), ← State.epoch, ← State.nextEpoch]

/-! ### Writing a completion (R357, R364, R373) -/

theorem writeEntry_ring (s : State) (g : Nat) (d : List Byte) : (s.writeEntry g d).ring g = { s.ring g with unreported := true } := by
  rw [State.writeEntry, ring_setRing_same, ring_of_rings (s := s) (by simp)]

theorem writeEntry_cplProd (s : State) (g : Nat) (d : List Byte) : (s.writeEntry g d).cplProd g = (s.cplProd g + 1) % 2 ^ 17 := by
  rw [State.writeEntry, State.cplProd, State.setRing_fld, State.fld_setFld_same _ _ _ _ (by decide)]
  exact Nat.mod_mod _ _

theorem writeEntry_out (s : State) (g : Nat) (d : List Byte) (hOwner : s.ringOwner g < 1024) :
    (s.writeEntry g d).out = s.out ++ [.hostWrite (s.ringOwner g)
      (s.reg64 (Reg.RING_CPL_BASE_LO g) + entrySize (s.ringKind g) * (s.cplProd g % s.ringSlots g)) d] := by
  rw [State.writeEntry, State.setRing_out, State.setFld_out, State.partyWrite, if_pos hOwner, State.emit_out]

section
variable {s : State} {g : Nat} (hRun : s.ringState g = rsRunning) (d : List Byte)
include hRun

theorem writeCpl_of_running : s.writeCpl g d = (s.setRing g { s.ring g with reserved := (s.ring g).reserved - 1 }).writeEntry g d := by
  rw [State.writeCpl, if_neg (by rw [hRun]; decide)]

theorem writeCpl_ring : (s.writeCpl g d).ring g = { s.ring g with reserved := (s.ring g).reserved - 1, unreported := true } := by
  rw [writeCpl_of_running hRun, writeEntry_ring, ring_setRing_same]

theorem writeCpl_cplProd : (s.writeCpl g d).cplProd g = (s.cplProd g + 1) % 2 ^ 17 := by
  rw [writeCpl_of_running hRun]
  exact writeEntry_cplProd (s.setRing g _) g d

theorem writeCpl_out (hKind : s.ringKind g = rkUpdate) (hOwner : s.ringOwner g < 1024) :
    (s.writeCpl g d).out = s.out ++ [.hostWrite (s.ringOwner g)
      (s.reg64 (Reg.RING_CPL_BASE_LO g) + 16 * (s.cplProd g % s.ringSlots g)) d] := by
  have hSize : entrySize (s.ringKind g) = 16 := by rw [hKind]; rfl
  rw [writeCpl_of_running hRun, ← hSize]
  exact writeEntry_out (s.setRing g _) g d hOwner

end

/-! ### What lies between the taking and the completion -/

/-- Neither the rings nor what is presented outside has changed. -/
structure RingsKept (s t : State) : Prop where
  rings : t.rings = s.rings
  out : t.out = s.out
  reg : ∀ a, ringReg a = true → t.reg a = s.reg a

namespace RingsKept
variable {s t u : State}

theorem refl (s : State) : RingsKept s s := ⟨rfl, rfl, fun _ _ => rfl⟩

theorem trans (h : RingsKept s t) (k : RingsKept t u) : RingsKept s u :=
  ⟨k.rings.trans h.rings, k.out.trans h.out, fun a ha => (k.reg a ha).trans (h.reg a ha)⟩

theorem of_tab (x : TabSt) : RingsKept s { s with tab := x } := ⟨rfl, rfl, fun _ _ => rfl⟩

theorem bump {c : Ctr} {n : Nat} (hc : ∀ a ∈ c.regs, ringReg a = false) : RingsKept s (s.bump c n) where
  rings := State.bump_rings _ _ _
  out := State.bump_out _ _ _
  reg a ha := RegsBut.bump s c n a (fun h => Bool.false_ne_true ((hc a h).symm.trans ha))

end RingsKept

theorem updated_kept {g st ep : Nat} {d : List Byte} {s t u : State} (h : Updated g d st ep s t) (k : RingsKept t u) : Updated g d st ep s u := by
  obtain ⟨hPre, hReserved, hCons, hProd, hOut⟩ := h
  have hRing := ring_of_rings k.rings g
  refine ⟨by rw [hRing, hPre], by rw [hRing, hReserved], ?_, ?_, fun hOwner => k.out.trans (hOut hOwner)⟩
  · rw [State.descCons, State.fld, k.reg _ (ringReg_ringIdx g), ← State.fld, ← State.descCons, hCons]
  · rw [State.cplProd, State.fld, k.reg _ (ringReg_ringCtrl g), ← State.fld, ← State.cplProd, hProd]

/-- The registers of a ring that place a completion (R365, R386). -/
theorem ringWords (g : Nat) :
    ∀ a ∈ [Reg.RING_CFG g, Reg.RING_OWNER g, Reg.RING_CPL_BASE_LO g, Reg.RING_CPL_BASE_LO g + 4, Reg.RING_CTRL g],
      ringReg a = true ∧ a ≠ Reg.RING_IDX g := by
  simp only [List.mem_cons, List.not_mem_nil, or_false, forall_eq_or_imp, forall_eq, ringReg, decide_eq_true_eq, Reg.RING_CFG, Reg.RING_OWNER,
    Reg.RING_CPL_BASE_LO, Reg.RING_CTRL, Reg.RING_IDX]
  omega

/-- Where the next completion of a ring goes does not depend on its entry having been taken. -/
theorem place_of_regs {s u : State} {g : Nat} (h : ∀ a, ringReg a = true → a ≠ Reg.RING_IDX g → u.reg a = s.reg a) :
    u.ringKind g = s.ringKind g ∧ u.ringState g = s.ringState g ∧ u.ringOwner g = s.ringOwner g ∧ u.cplProd g = s.cplProd g ∧
    u.ringSlots g = s.ringSlots g ∧ u.reg64 (Reg.RING_CPL_BASE_LO g) = s.reg64 (Reg.RING_CPL_BASE_LO g) := by
  have hWords := ringWords g
  simp only [List.mem_cons, List.not_mem_nil, or_false, forall_eq_or_imp, forall_eq] at hWords
  obtain ⟨⟨hCfg, hCfgIdx⟩, ⟨hOwner, hOwnerIdx⟩, ⟨hLo, hLoIdx⟩, ⟨hHi, hHiIdx⟩, ⟨hCtrl, hCtrlIdx⟩⟩ := hWords
  have hFld {a : Nat} (ha : ringReg a = true) (hIdx : a ≠ Reg.RING_IDX g) (f : Fld) : u.fld a f = s.fld a f := congrArg f.get (h a ha hIdx)
  refine ⟨hFld hCfg hCfgIdx _, hFld hCtrl hCtrlIdx _, ?_, hFld hCtrl hCtrlIdx _, congrArg (2 ^ ·) (hFld hCfg hCfgIdx _), ?_⟩
  · rw [State.ringOwner, State.flag, hFld hOwner hOwnerIdx, hFld hOwner hOwnerIdx, ← State.flag, ← State.ringOwner]
  · rw [State.reg64, h _ hHi hHiIdx, h _ hLo hLoIdx, ← State.reg64]

/-- An entry taken and completed at last is what a ring's update entry does, whatever its changes did to the tables. -/
theorem updated_updDone {s u : State} {g : Nat} (hKind : s.ringKind g = rkUpdate) (hRun : s.ringState g = rsRunning)
    (hKept : RingsKept (s.takeDesc g) u) (d : List Byte) (st ep : Nat) : Updated g d st ep s (u.updDone g st d ep) := by
  obtain ⟨hUKind, hURun, hUOwner, hUProd, hUSlots, hUBase⟩ := place_of_regs (s := s) (u := u) (g := g)
    (fun a ha hIdx => (hKept.reg a ha).trans (takeDesc_regs s g a (by simpa using hIdx)))
  have hRing : u.ring g = { s.ring g with pre := (s.ring g).pre.drop 1, reserved := (s.ring g).reserved + 1 } :=
    (ring_of_rings hKept.rings g).trans (takeDesc_ring s g)
  have hCons : u.descCons g = (s.descCons g + 1) % 2 ^ 17 := by
    rw [State.descCons, State.fld, hKept.reg _ (ringReg_ringIdx g), ← State.fld, ← State.descCons, takeDesc_descCons]
  have hUCons : (u.updDone g st d ep).descCons g = u.descCons g :=
    congrArg Fld.RING_IDX_DESC_CONS.get (regsBut_writeCpl u g _ _ (by simpa using ringIdx_ne_ringCtrl g))
  have hURuns : u.ringState g = rsRunning := hURun.trans hRun
  refine ⟨?_, ?_, hUCons.trans hCons, (writeCpl_cplProd hURuns _).trans (by rw [hUProd]), fun hOwner => ?_⟩
  · rw [State.updDone, writeCpl_ring hURuns, hRing]
  · rw [State.updDone, writeCpl_ring hURuns, hRing]
    rfl
  · rw [State.updDone, writeCpl_out hURuns _ (hUKind.trans hKind) (hUOwner.trans_lt hOwner), hKept.out, hUOwner, hUBase, hUProd, hUSlots]
    rfl

/-! ### Staging (R152) -/

theorem setOps_eq (s : State) (src : Nat) (ops : List StOp) :
    ∃ l n, s.setOps src ops = { s with tab := { s.tab with openB := l, nextB := n } } := by
  rw [State.setOps]
  split
  · exact ⟨_, _, rfl⟩
  · exact ⟨_, _, rfl⟩

theorem ringsKept_setOps (s : State) (src : Nat) (ops : List StOp) : RingsKept s (s.setOps src ops) := by
  obtain ⟨l, n, hEq⟩ := setOps_eq s src ops
  rw [hEq]
  exact .of_tab _

theorem setOps_pending (s : State) (src : Nat) (ops : List StOp) : (s.setOps src ops).pending = s.pending := by
  obtain ⟨l, n, hEq⟩ := setOps_eq s src ops
  rw [hEq]

theorem setOps_regs (s : State) (src : Nat) (ops : List StOp) : (s.setOps src ops).regs = s.regs := by
  obtain ⟨l, n, hEq⟩ := setOps_eq s src ops
  rw [hEq]

/-- Staging leaves what is published. -/
theorem setOps_published (s : State) (src : Nat) (ops : List StOp) :
    (s.setOps src ops).tab.routes = s.tab.routes ∧ (s.setOps src ops).tab.exm = s.tab.exm := by
  obtain ⟨l, n, hEq⟩ := setOps_eq s src ops
  rw [hEq]
  exact ⟨rfl, rfl⟩

/-- A source's open batch holds the changes given it. -/
theorem openOps_setOps (s : State) (src : Nat) (ops : List StOp) : (s.setOps src ops).openOps src = ops := by
  cases hOpen : s.openBatch src with
  | none =>
    have hFound : (s.tab.openB ++ [(⟨s.tab.nextB, src, ops⟩ : Batch)]).find? (fun x => x.src == src) = some ⟨s.tab.nextB, src, ops⟩ := by
      rw [State.openBatch] at hOpen
      simp [List.find?_append, hOpen]
    rw [State.setOps, hOpen, State.openOps, State.openBatch, hFound]
  | some b =>
    have hSrc : (fun x : Batch => x.src == src) ∘ (fun x : Batch => if x.num = b.num then { x with ops := ops } else x) = fun x => x.src == src := by
      funext x
      simp only [Function.comp]
      split <;> rfl
    have hFound : (s.tab.openB.map (fun x => if x.num = b.num then { x with ops := ops } else x)).find? (fun x => x.src == src) =
        some { b with ops := ops } := by
      rw [List.find?_map, hSrc, ← State.openBatch, hOpen, Option.map_some, if_pos rfl]
    rw [State.setOps, hOpen, State.openOps, State.openBatch, hFound]

theorem openOps_of_tab {s t : State} (h : t.tab = s.tab) (src : Nat) : t.openOps src = s.openOps src := by
  rw [State.openOps, State.openBatch, h, ← State.openBatch, ← State.openOps]

/-! ### Completions -/

theorem updDone_tab (s : State) (g st : Nat) (d : List Byte) (ep : Nat) : (s.updDone g st d ep).tab = s.tab := State.writeCpl_tab _ _ _

theorem updDone_pending (s : State) (g st : Nat) (d : List Byte) (ep : Nat) : (s.updDone g st d ep).pending = s.pending :=
  State.writeCpl_pending _ _ _

theorem updDone_within (s : State) (g st : Nat) (d : List Byte) (ep : Nat) : RegsWithin ringReg s (s.updDone g st d ep) :=
  .of_but (regsBut_writeCpl s g _) (by simp [ringReg_ringCtrl])

/-- An entry that is taken and completed at once leaves the tables and all else beside the rings and the output. -/
theorem completed_at_once {s : State} {g : Nat} (hKind : s.ringKind g = rkUpdate) (hRun : s.ringState g = rsRunning) (d : List Byte) (st ep : Nat) :
    Updated g d st ep s ((s.takeDesc g).updDone g st d ep) ∧
    RegsBut [Reg.RING_IDX g, Reg.RING_CTRL g] s ((s.takeDesc g).updDone g st d ep) ∧
    { (s.takeDesc g).updDone g st d ep with regs := s.regs, rings := s.rings, out := s.out, ram := s.ram } = s := by
  refine ⟨updated_updDone hKind hRun (.refl _) d st ep, ?_, ?_⟩
  · exact ((takeDesc_regs s g).mono (by simp)).trans ((regsBut_writeCpl _ g _).mono (by simp))
  · simp [State.updDone, State.takeDesc]

/-- The counters of the tables' blocks lie below the rings' registers (R187). -/
theorem tableCtr_regs : ∀ c ∈ [Ctr.LPM_ROUTE_OK, Ctr.EXM_INSERT], ∀ a ∈ c.regs, ringReg a = false := by decide

theorem ringsKept_tableBump {c : Ctr} (s : State) (hc : c ∈ [Ctr.LPM_ROUTE_OK, Ctr.EXM_INSERT]) : RingsKept s (s.bump c 1) :=
  .bump (tableCtr_regs c hc)

theorem counted_tableBump {c : Ctr} (s : State) (hc : c ∈ [Ctr.LPM_ROUTE_OK, Ctr.EXM_INSERT]) : Counted c 1 s (s.bump c 1) := by
  have hApart : ∀ c ∈ [Ctr.LPM_ROUTE_OK, Ctr.EXM_INSERT], c.ovf ≠ c.lo ∧ c.ovf ≠ c.lo + 4 ∧ c.bit < 32 := by decide
  obtain ⟨hLo, hHi, hBit⟩ := hApart c hc
  exact counted_bump s c 1 hLo hHi hBit

end Sys2Proof.Machine.FreewheelCommit
end

section
/-! PROOF. The update entries of routes: ROUTE_ADD and ROUTE_DEL (R162 to R165, R181, R182). -/

namespace Sys2Proof.Machine.FreewheelCommit
open DeviceOrganisation (RegsWithin Counted.of_reg64)
open EquinoxTime (completes_answer)

/-! ### What a route entry stages -/

/-- A route entry that has staged the changes `ops` of its ring completes OK and is counted. -/
def routeStaged (g : Nat) (d : List Byte) (ops : List StOp) (s : State) : State :=
  (((s.takeDesc g).setOps g ops).updDone g usOk d s.nextEpoch).bump Ctr.LPM_ROUTE_OK 1

theorem routeStaged_pending (g : Nat) (d : List Byte) (ops : List StOp) (s : State) : (routeStaged g d ops s).pending = s.pending := by
  rw [routeStaged, State.bump_pending, updDone_pending, setOps_pending]
  rfl

theorem routeStaged_shows {s : State} {g : Nat} (hKind : s.ringKind g = rkUpdate) (hRun : s.ringState g = rsRunning) (d : List Byte)
    (ops : List StOp) :
    (routeStaged g d ops s).openOps g = ops ∧ (routeStaged g d ops s).tab.routes = s.tab.routes ∧ (routeStaged g d ops s).tab.exm = s.tab.exm ∧
    Updated g d 0 s.nextEpoch s (routeStaged g d ops s) ∧ Counted Ctr.LPM_ROUTE_OK 1 s (routeStaged g d ops s) := by
  have hTab : (routeStaged g d ops s).tab = ((s.takeDesc g).setOps g ops).tab := by rw [routeStaged, State.bump_tab, updDone_tab]
  have hWithin : RegsWithin ringReg s (((s.takeDesc g).setOps g ops).updDone g usOk d s.nextEpoch) :=
    ((takeDesc_within s g).trans (.of_regs (setOps_regs _ _ _))).trans (updDone_within _ _ _ _ _)
  obtain ⟨hRoutes, hExm⟩ := setOps_published (s.takeDesc g) g ops
  refine ⟨(openOps_of_tab hTab g).trans (openOps_setOps _ _ _), by rw [hTab, hRoutes, takeDesc_tab], by rw [hTab, hExm, takeDesc_tab], ?_, ?_⟩
  · exact updated_kept (updated_updDone hKind hRun (ringsKept_setOps _ _ _) d _ _) (ringsKept_tableBump _ (List.mem_cons_self ..))
  · exact Counted.of_reg64 (counted_tableBump _ (List.mem_cons_self ..)) (hWithin.reg64 (by decide) (by decide))

theorem routeUnits_of_trie {v6 : Bool} {len : Nat} (h : v6 = true → len ≤ 64) : routeUnits v6 len = if v6 then 2 else 1 := by
  cases v6 with
  | false => rfl
  | true =>
    have hHost : len ≠ 128 := by have := h rfl; omega
    simp [routeUnits, hHost]

/-- A staged addition that says nothing of a route is of another one. -/
theorem apart_of_onRoute {v6 v : Bool} {table len pfx t l p u : Nat} {r : Word}
    (h : StOp.onRoute v6 table len pfx (.routeAdd v t l p r u) = none) : (v == v6 && t == table && l == len && p == pfx) = false := by
  have hApart : ¬ (v = v6 ∧ t = table ∧ l = len ∧ p = pfx) := by
    intro hSame
    rw [StOp.onRoute, if_pos hSame] at h
    exact absurd h nofun
  exact Bool.eq_false_iff.2 (by simpa [and_assoc] using hApart)

section
variable {s : State} {g : Nat} {d : List Byte} {v6 : Bool} {pfx : Nat} (hV6 : v6 = (uFlags d % 2 == 1))
  (hPfx : pfx = if v6 then uData d else uData d >>> 96) (hTrie : v6 = true → uSub d ≤ 64)
  (hOwn : ∀ o ∈ s.openOps g, StOp.onRoute v6 (uTable d) (uSub d) pfx o = none) (hRoom : s.stagedCount < 262144)
include hV6 hPfx hTrie hOwn hRoom

theorem routeAdd_stages (hHead : s.updHead g (· == 0x01) routeUsesExm = some d) (hOk : routeEntryOk d true = true)
    (hNew : s.effective (s.openOps g) (StOp.onRoute v6 (uTable d) (uSub d) pfx) (s.routePublished v6 (uTable d) (uSub d) pfx) = false)
    (hUnits : s.unitsUsed + (if v6 then 2 else 1) ≤ 8388608) :
    routeAdd g s = routeStaged g d (s.openOps g ++ [.routeAdd v6 (uTable d) (uSub d) pfx (uResult d) (if v6 then 2 else 1)]) s := by
  have hNew' : (s.takeDesc g).effective ((s.takeDesc g).openOps g) (StOp.onRoute v6 (uTable d) (uSub d) pfx)
      ((s.takeDesc g).routePublished v6 (uTable d) (uSub d) pfx) = false := hNew
  have hFits : ¬ maxUnits < (s.takeDesc g).unitsUsed + (if v6 then 2 else 1) := not_lt.2 hUnits
  have hSpace : ¬ maxStaged ≤ (s.takeDesc g).stagedCount := not_le.2 hRoom
  have hShort : ¬ (v6 = true ∧ 64 < uSub d) := fun h => absurd (hTrie h.1) (not_le.2 h.2)
  rw [← routeUnits_of_trie hTrie] at hFits ⊢
  simp only [routeAdd, hHead]
  subst hV6 hPfx
  rw [if_neg (by simp [hOk]), if_neg (fun h => hShort ⟨h.1, h.2.1⟩), if_neg (fun h => hShort ⟨h.1, by omega⟩), if_neg ?own, if_neg hSpace,
    hNew', if_neg Bool.false_ne_true, if_neg hFits, if_neg hShort, takeDesc_nextEpoch]
  case own =>
    rw [List.any_eq_true]
    rintro ⟨o, hMem, hIs⟩
    have hApart := hOwn o hMem
    cases o with
    | routeAdd => exact Bool.false_ne_true ((apart_of_onRoute hApart).symm.trans hIs)
    | routeDel | exmAdd | exmDel => exact Bool.false_ne_true hIs
  rfl

theorem routeDel_stages (hHead : s.updHead g (· == 0x02) routeUsesExm = some d) (hOk : routeEntryOk d false = true)
    (hThere : s.effective (s.openOps g) (StOp.onRoute v6 (uTable d) (uSub d) pfx) (s.routePublished v6 (uTable d) (uSub d) pfx) = true) :
    routeDel g s = routeStaged g d (s.openOps g ++ [.routeDel v6 (uTable d) (uSub d) pfx]) s := by
  have hThere' : (s.takeDesc g).effective ((s.takeDesc g).openOps g) (StOp.onRoute v6 (uTable d) (uSub d) pfx)
      ((s.takeDesc g).routePublished v6 (uTable d) (uSub d) pfx) = true := hThere
  have hSpace : ¬ maxStaged ≤ (s.takeDesc g).stagedCount := not_le.2 hRoom
  have hShort : ¬ (v6 = true ∧ 64 < uSub d) := fun h => absurd (hTrie h.1) (not_le.2 h.2)
  simp only [routeDel, hHead]
  subst hV6 hPfx
  rw [if_neg (by simp [hOk]), if_neg (fun h => hShort ⟨h.1, by omega⟩), hThere', if_neg (by decide), if_neg (fun h => hSpace h.1),
    List.filter_eq_self.2 ?own, hThere', if_pos rfl, if_neg hShort, takeDesc_nextEpoch]
  case own =>
    intro o hMem
    have hApart := hOwn o hMem
    cases o with
    | routeAdd => exact congrArg (!·) (apart_of_onRoute hApart)
    | routeDel | exmAdd | exmDel => rfl
  rfl

end

theorem routeAdd_invalid {s : State} {g : Nat} {d : List Byte} (hHead : s.updHead g (· == 0x01) routeUsesExm = some d)
    (hBad : routeEntryOk d true = false) : routeAdd g s = (s.takeDesc g).updDone g usInvalid d 0 := by
  simp only [routeAdd, hHead]
  rw [if_pos (by simp [hBad])]
  rfl

theorem routeDel_invalid {s : State} {g : Nat} {d : List Byte} (hHead : s.updHead g (· == 0x02) routeUsesExm = some d)
    (hBad : routeEntryOk d false = false) : routeDel g s = (s.takeDesc g).updDone g usInvalid d 0 := by
  simp only [routeDel, hHead]
  rw [if_pos (by simp [hBad])]
  rfl

/-- A command completes in the state that each of its cases answers with the queue it found. -/
theorem completes_of_cases {c : Instr} {s u : State} {P : State → Prop} (hc : exec c s = answer s u)
    (h : ∀ t, (∀ v, u = v → v.pending = s.pending → t = v) → P t) : Completes c s P :=
  completes_answer hc (h _ (fun v hv hq => by rw [hv, ← hq]))

/-- An entry refused at once leaves the tables and completes with INVALID. -/
theorem refused_shows {s : State} {g : Nat} {d : List Byte} {op : Nat → Bool} {engine : List Byte → Bool}
    (hHead : s.updHead g op engine = some d) {t u : State} (ht : ∀ v, u = v → v.pending = s.pending → t = v)
    (hEq : u = (s.takeDesc g).updDone g usInvalid d 0) :
    t.tab = s.tab ∧ Updated g d 3 0 s t := by
  obtain ⟨hKind, hRun⟩ := updHead_runs hHead
  rw [ht _ hEq (updDone_pending _ _ _ _ _)]
  exact ⟨updDone_tab _ _ _ _ _, (completed_at_once hKind hRun d usInvalid 0).1⟩

theorem routeAdd_completes (s : State) (g : BitVec 16) (d : List Byte) (hHead : s.updHead g.toNat (· == 0x01) routeUsesExm = some d) :
    Completes (.routeAdd g) s fun t =>
      (∀ (v6 : Bool) (pfx : Nat), v6 = (uFlags d % 2 == 1) → pfx = (if v6 then uData d else uData d >>> 96) → routeEntryOk d true = true →
        (v6 = true → uSub d ≤ 64) → (∀ o ∈ s.openOps g.toNat, StOp.onRoute v6 (uTable d) (uSub d) pfx o = none) →
        s.effective (s.openOps g.toNat) (StOp.onRoute v6 (uTable d) (uSub d) pfx) (s.routePublished v6 (uTable d) (uSub d) pfx) = false →
        s.stagedCount < 262144 → s.unitsUsed + (if v6 then 2 else 1) ≤ 8388608 →
        t.openOps g.toNat = s.openOps g.toNat ++ [.routeAdd v6 (uTable d) (uSub d) pfx (uResult d) (if v6 then 2 else 1)] ∧
        t.tab.routes = s.tab.routes ∧ t.tab.exm = s.tab.exm ∧ Updated g.toNat d 0 s.nextEpoch s t ∧ Counted Ctr.LPM_ROUTE_OK 1 s t) ∧
      (routeEntryOk d true = false → t.tab = s.tab ∧ Updated g.toNat d 3 0 s t) := by
  obtain ⟨hKind, hRun⟩ := updHead_runs hHead
  refine completes_of_cases (u := routeAdd g.toNat s) rfl fun t ht =>
    ⟨fun v6 pfx hV6 hPfx hOk hTrie hOwn hNew hRoom hUnits => ?_, fun hBad => refused_shows hHead ht (routeAdd_invalid hHead hBad)⟩
  rw [ht _ (routeAdd_stages hV6 hPfx hTrie hOwn hRoom hHead hOk hNew hUnits) (routeStaged_pending _ _ _ _)]
  exact routeStaged_shows hKind hRun d _

theorem routeDel_completes (s : State) (g : BitVec 16) (d : List Byte) (hHead : s.updHead g.toNat (· == 0x02) routeUsesExm = some d) :
    Completes (.routeDel g) s fun t =>
      (∀ (v6 : Bool) (pfx : Nat), v6 = (uFlags d % 2 == 1) → pfx = (if v6 then uData d else uData d >>> 96) → routeEntryOk d false = true →
        (v6 = true → uSub d ≤ 64) → (∀ o ∈ s.openOps g.toNat, StOp.onRoute v6 (uTable d) (uSub d) pfx o = none) →
        s.effective (s.openOps g.toNat) (StOp.onRoute v6 (uTable d) (uSub d) pfx) (s.routePublished v6 (uTable d) (uSub d) pfx) = true →
        s.stagedCount < 262144 →
        t.openOps g.toNat = s.openOps g.toNat ++ [.routeDel v6 (uTable d) (uSub d) pfx] ∧ t.tab.routes = s.tab.routes ∧
        t.tab.exm = s.tab.exm ∧ Updated g.toNat d 0 s.nextEpoch s t ∧ Counted Ctr.LPM_ROUTE_OK 1 s t) ∧
      (routeEntryOk d false = false → t.tab = s.tab ∧ Updated g.toNat d 3 0 s t) := by
  obtain ⟨hKind, hRun⟩ := updHead_runs hHead
  refine completes_of_cases (u := routeDel g.toNat s) rfl fun t ht =>
    ⟨fun v6 pfx hV6 hPfx hOk hTrie hOwn hThere hRoom => ?_, fun hBad => refused_shows hHead ht (routeDel_invalid hHead hBad)⟩
  rw [ht _ (routeDel_stages hV6 hPfx hTrie hOwn hRoom hHead hOk hThere) (routeStaged_pending _ _ _ _)]
  exact routeStaged_shows hKind hRun d _

end Sys2Proof.Machine.FreewheelCommit
end

section
/-! PROOF. The update entries of exact-match keys: EXM_ADD and EXM_DEL (R167 to R173, R181, R182). -/

namespace Sys2Proof.Machine.FreewheelCommit
open DeviceOrganisation (RegsWithin Counted.of_reg64)

/-! ### EXM_ADD of a key with a free slot (R170, R171) -/

theorem slot_setSlot_same (s : State) (i : Nat) {e : ExmEntry} (he : e ≠ .free) : (s.setSlot i e).slot i = some e := by
  rw [State.slot, State.setSlot, KMap.set, if_neg he]
  exact lfind_lins_same _ _ _

theorem slot_setSlot_ne (s : State) {i j : Nat} {e : ExmEntry} (he : e ≠ .free) (hj : j ≠ i) : (s.setSlot i e).slot j = s.slot j := by
  rw [State.slot, State.setSlot, KMap.set, if_neg he]
  exact lfind_lins_ne _ _ _ _ hj

theorem slot_of_exm {s t : State} (h : t.tab.exm = s.tab.exm) (j : Nat) : t.slot j = s.slot j := by rw [State.slot, h, ← State.slot]

/-- A new entry lies in its slot, and the insert is counted. -/
def entryPlaced (i : Nat) (e : ExmEntry) (s : State) : State := (s.setSlot i e).bump Ctr.EXM_INSERT 1

theorem entryPlaced_tab (i : Nat) (e : ExmEntry) (s : State) : (entryPlaced i e s).tab = (s.setSlot i e).tab := State.bump_tab _ _ _

theorem ringsKept_entryPlaced (i : Nat) (e : ExmEntry) (s : State) : RingsKept s (entryPlaced i e s) :=
  (RingsKept.of_tab _ : RingsKept s (s.setSlot i e)).trans (ringsKept_tableBump _ (by simp))

theorem nextEpoch_entryPlaced (i : Nat) (e : ExmEntry) (s : State) : (entryPlaced i e s).nextEpoch = s.nextEpoch := by
  have hCur : (entryPlaced i e s).reg Reg.FWH_EPOCH_CUR = s.reg Reg.FWH_EPOCH_CUR := RegsBut.bump (s.setSlot i e) Ctr.EXM_INSERT 1 _ (by decide)
  rw [State.nextEpoch, State.epoch, hCur, ← State.epoch, ← State.nextEpoch]

/-- The entry of a key that a ring's batch stages (R170). -/
def stagedEntry (s : State) (g : Nat) (k : ExmKey) (isStatic : Bool) (result : Word) : ExmEntry :=
  ⟨k, isStatic, false, false, result, s.nextEpoch, none, false, 0, some (s.batchNum g)⟩

theorem stagedEntry_ne_free (s : State) (g : Nat) (k : ExmKey) (isStatic : Bool) (result : Word) : stagedEntry s g k isStatic result ≠ .free :=
  fun h => absurd (congrArg ExmEntry.batch h) nofun

/-- A new key with a free slot is staged there, and its entry completes OK. -/
def keyStaged (g : Nat) (d : List Byte) (k : ExmKey) (isStatic : Bool) (result : Word) (i : Nat) (s : State) : State :=
  ((entryPlaced i (stagedEntry s g k isStatic result) s).setOps g (s.openOps g ++ [.exmAdd k])).updDone g usOk d s.nextEpoch

theorem exmStageAdd_places {s : State} {g : Nat} {k : ExmKey} {i : Nat} (d : List Byte) (isStatic : Bool) (result : Word)
    (hOwn : ∀ j e, s.slot j = some e → e.key = k → e.batch ≠ some (s.batchNum g)) (hFree : s.exmFreeSlot k = some i) :
    s.exmStageAdd g d k isStatic result [] false = keyStaged g d k isStatic result i s := by
  have hOps : (entryPlaced i (stagedEntry s g k isStatic result) s).openOps g = s.openOps g := by
    rw [openOps_of_tab (entryPlaced_tab _ _ _)]
    rfl
  have hInsert : s.exmInsert (stagedEntry s g k isStatic result) = (.placed, entryPlaced i (stagedEntry s g k isStatic result) s) := by
    rw [State.exmInsert, stagedEntry, hFree]
    rfl
  rw [stagedEntry] at hInsert hOps
  simp only [State.exmStageAdd]
  rw [List.find?_eq_none.2 ?own, Option.bind_none]
  case own =>
    intro j _
    cases hSlot : s.slot j with
    | none => simp
    | some e =>
      have hApart := hOwn j e hSlot
      simpa using hApart
  simp only [hInsert, if_true, Bool.false_eq_true, if_false, List.nil_append]
  rw [State.stage, hOps, nextEpoch_entryPlaced]
  rfl

theorem exmAdd_stages {s : State} {g : Nat} {d : List Byte} {k : ExmKey} {i : Nat} (hHead : s.updHead g (· == 0x03) (fun _ => true) = some d)
    (hKey : k = ⟨uSub d, uTable d, uData d⟩) (hOk : exmEntryOk d true = true) (hRoom : s.stagedCount < 262144)
    (hOwn : ∀ j e, s.slot j = some e → e.key = k → e.batch ≠ some (s.batchNum g)) (hFree : s.exmFreeSlot k = some i) :
    exmAdd g s = keyStaged g d k (uFlags d == 2) (uResult d) i (s.takeDesc g) := by
  have hSpace : ¬ maxStaged ≤ (s.takeDesc g).stagedCount := not_le.2 hRoom
  have hFree' : (s.takeDesc g).exmFreeSlot k = some i := hFree
  have hOwn' : ∀ j e, (s.takeDesc g).slot j = some e → e.key = k → e.batch ≠ some ((s.takeDesc g).batchNum g) := hOwn
  simp only [exmAdd, hHead]
  rw [if_neg (by simp [hOk]), if_neg (fun h => hSpace h.1), ← hKey, exmStageAdd_places d _ _ hOwn' hFree']

theorem exmAdd_invalid {s : State} {g : Nat} {d : List Byte} (hHead : s.updHead g (· == 0x03) (fun _ => true) = some d)
    (hBad : exmEntryOk d true = false) : exmAdd g s = (s.takeDesc g).updDone g usInvalid d 0 := by
  simp only [exmAdd, hHead]
  rw [if_pos (by simp [hBad])]

theorem keyStaged_pending (g : Nat) (d : List Byte) (k : ExmKey) (isStatic : Bool) (result : Word) (i : Nat) (s : State) :
    (keyStaged g d k isStatic result i s).pending = s.pending := by
  rw [keyStaged, updDone_pending, setOps_pending, entryPlaced, State.bump_pending]
  rfl

theorem keyStaged_shows {s : State} {g : Nat} (hKind : s.ringKind g = rkUpdate) (hRun : s.ringState g = rsRunning) (d : List Byte) (k : ExmKey)
    (isStatic : Bool) (result : Word) (i : Nat) {t : State} (h : t = keyStaged g d k isStatic result i (s.takeDesc g)) :
    t.slot i = some ⟨k, isStatic, false, false, result, s.nextEpoch, none, false, 0, some (s.batchNum g)⟩ ∧
    (∀ j, j ≠ i → t.slot j = s.slot j) ∧ t.openOps g = s.openOps g ++ [.exmAdd k] ∧ t.tab.routes = s.tab.routes ∧
    Updated g d 0 s.nextEpoch s t ∧ Counted Ctr.EXM_INSERT 1 s t := by
  have hEpoch := takeDesc_nextEpoch s g
  have hFresh := stagedEntry_ne_free (s.takeDesc g) g k isStatic result
  have hEntry : stagedEntry (s.takeDesc g) g k isStatic result =
      ⟨k, isStatic, false, false, result, s.nextEpoch, none, false, 0, some (s.batchNum g)⟩ := by
    rw [stagedEntry, hEpoch]
    rfl
  rw [keyStaged, hEpoch] at h
  generalize stagedEntry (s.takeDesc g) g k isStatic result = e at h hFresh hEntry
  have hTab : t.tab = ((entryPlaced i e (s.takeDesc g)).setOps g (s.openOps g ++ [.exmAdd k])).tab := by
    rw [h, updDone_tab]
    rfl
  obtain ⟨hRoutes, hExm⟩ := setOps_published (entryPlaced i e (s.takeDesc g)) g (s.openOps g ++ [.exmAdd k])
  have hSlot (j : Nat) : t.slot j = ((s.takeDesc g).setSlot i e).slot j :=
    slot_of_exm (by rw [hTab, hExm, entryPlaced_tab]) j
  have hCounted : Counted Ctr.EXM_INSERT 1 s (entryPlaced i e (s.takeDesc g)) :=
    Counted.of_reg64 (counted_tableBump _ (by simp)) ((takeDesc_within s g).reg64 (by decide) (by decide))
  have hWithin : RegsWithin ringReg (entryPlaced i e (s.takeDesc g)) t := by
    rw [h]
    exact RegsWithin.trans (.of_regs (setOps_regs _ _ _)) (updDone_within _ _ _ _ _)
  refine ⟨?_, fun j hj => ?_, (openOps_of_tab hTab g).trans (openOps_setOps _ _ _), ?_, ?_,
    hWithin.counted hCounted (tableCtr_regs _ (by simp))⟩
  · rw [hSlot, slot_setSlot_same _ _ hFresh, hEntry]
  · exact (hSlot j).trans (slot_setSlot_ne _ hFresh hj)
  · rw [hTab, hRoutes, entryPlaced_tab]
    rfl
  · rw [h]
    exact updated_updDone hKind hRun ((ringsKept_entryPlaced _ _ _).trans (ringsKept_setOps _ _ _)) d _ _

theorem exmAdd_completes (s : State) (g : BitVec 16) (d : List Byte) (k : ExmKey)
    (hHead : s.updHead g.toNat (· == 0x03) (fun _ => true) = some d) (hKey : k = ⟨uSub d, uTable d, uData d⟩) :
    Completes (.exmAdd g) s fun t =>
      (∀ i, exmEntryOk d true = true → s.stagedCount < 262144 →
        (∀ j e, s.slot j = some e → e.key = k → e.batch ≠ some (s.batchNum g.toNat)) →
        s.exmFreeSlot k = some i →
        t.slot i = some ⟨k, uFlags d == 2, false, false, uResult d, s.nextEpoch, none, false, 0, some (s.batchNum g.toNat)⟩ ∧
        (∀ j, j ≠ i → t.slot j = s.slot j) ∧ t.openOps g.toNat = s.openOps g.toNat ++ [.exmAdd k] ∧ t.tab.routes = s.tab.routes ∧
        Updated g.toNat d 0 s.nextEpoch s t ∧ Counted Ctr.EXM_INSERT 1 s t) ∧
      (exmEntryOk d true = false → t.tab = s.tab ∧ Updated g.toNat d 3 0 s t) := by
  obtain ⟨hKind, hRun⟩ := updHead_runs hHead
  refine completes_of_cases (u := exmAdd g.toNat s) rfl fun t ht =>
    ⟨fun i hOk hRoom hOwn hFree => ?_, fun hBad => refused_shows hHead ht (exmAdd_invalid hHead hBad)⟩
  exact keyStaged_shows hKind hRun d k _ _ i (ht _ (exmAdd_stages hHead hKey hOk hRoom hOwn hFree) (keyStaged_pending _ _ _ _ _ _ _))

/-! ### EXM_DEL with nothing staged (R170) -/

section
variable {s : State} (hStaged : s.stagedOps = [])
include hStaged

theorem openOps_of_nothing_staged (g : Nat) : s.openOps g = [] := by
  rw [State.openOps]
  split
  case h_1 b hOpen => exact List.flatMap_eq_nil_iff.1 hStaged b (List.mem_append_right _ (List.mem_of_find?_eq_some hOpen))
  case h_2 => rfl

theorem effective_of_nothing_staged (f : StOp → Option Bool) (pub : Bool) : s.effective [] f pub = pub := by
  have hClosed : s.tab.closedB.flatMap (·.ops) = [] :=
    List.flatMap_eq_nil_iff.2 fun b hb => List.flatMap_eq_nil_iff.1 hStaged b (List.mem_append_left _ hb)
  rw [State.effective, hClosed]
  rfl

theorem exmStageDel_of_published (g : Nat) {k : ExmKey} (hLive : (s.exmLive k).isSome = true) (hSlots : ∀ j e, s.slot j = some e → e.batch = none) :
    s.exmStageDel g k = s.setOps g [.exmDel k] := by
  simp only [State.exmStageDel]
  rw [List.find?_eq_none.2 ?own, openOps_of_nothing_staged hStaged]
  case own =>
    intro j _
    cases hSlot : s.slot j with
    | none => simp
    | some e => simp [hSlots j e hSlot]
  have hStill : s.effective [] (StOp.onKey k) (s.exmLive k).isSome = true := (effective_of_nothing_staged hStaged _ _).trans hLive
  exact congrArg (s.setOps g) (if_pos hStill)

end

/-- A key's delete has staged its end, and its entry completes OK. -/
def keyEnded (g : Nat) (d : List Byte) (k : ExmKey) (s : State) : State := ((s.takeDesc g).setOps g [.exmDel k]).updDone g usOk d s.nextEpoch

theorem exmDel_stages {s : State} {g : Nat} {d : List Byte} {k : ExmKey} (hHead : s.updHead g (· == 0x04) (fun _ => true) = some d)
    (hKey : k = ⟨uSub d, uTable d, uData d⟩) (hOk : exmEntryOk d false = true) (hRoom : s.stagedCount < 262144) (hStaged : s.stagedOps = [])
    (hLive : (s.exmLive k).isSome = true) (hSlots : ∀ j e, s.slot j = some e → e.batch = none) : exmDel g s = keyEnded g d k s := by
  have hSpace : ¬ maxStaged ≤ (s.takeDesc g).stagedCount := not_le.2 hRoom
  have hStaged' : (s.takeDesc g).stagedOps = [] := hStaged
  have hLive' : ((s.takeDesc g).exmLive k).isSome = true := hLive
  have hSlots' : ∀ j e, (s.takeDesc g).slot j = some e → e.batch = none := hSlots
  have hThere : (s.takeDesc g).exmThere g k = true := by
    rw [State.exmThere, openOps_of_nothing_staged hStaged', effective_of_nothing_staged hStaged', hLive']
  simp only [exmDel, hHead]
  rw [if_neg (by simp [hOk]), ← hKey, hThere, if_neg (by decide), if_neg (fun h => hSpace h.1), exmStageDel_of_published hStaged' g hLive' hSlots',
    takeDesc_nextEpoch, keyEnded]

theorem exmDel_invalid {s : State} {g : Nat} {d : List Byte} (hHead : s.updHead g (· == 0x04) (fun _ => true) = some d)
    (hBad : exmEntryOk d false = false) : exmDel g s = (s.takeDesc g).updDone g usInvalid d 0 := by
  simp only [exmDel, hHead]
  rw [if_pos (by simp [hBad])]

theorem keyEnded_pending (g : Nat) (d : List Byte) (k : ExmKey) (s : State) : (keyEnded g d k s).pending = s.pending := by
  rw [keyEnded, updDone_pending, setOps_pending]
  rfl

theorem exmDel_completes (s : State) (g : BitVec 16) (d : List Byte) (k : ExmKey)
    (hHead : s.updHead g.toNat (· == 0x04) (fun _ => true) = some d) (hKey : k = ⟨uSub d, uTable d, uData d⟩) :
    Completes (.exmDel g) s fun t =>
      (exmEntryOk d false = true → s.stagedCount < 262144 → s.stagedOps = [] → (s.exmLive k).isSome = true →
        (∀ j e, s.slot j = some e → e.batch = none) →
        t.openOps g.toNat = [.exmDel k] ∧ t.tab.exm = s.tab.exm ∧ t.tab.routes = s.tab.routes ∧ Updated g.toNat d 0 s.nextEpoch s t) ∧
      (exmEntryOk d false = false → t.tab = s.tab ∧ Updated g.toNat d 3 0 s t) := by
  obtain ⟨hKind, hRun⟩ := updHead_runs hHead
  refine completes_of_cases (u := exmDel g.toNat s) rfl fun t ht =>
    ⟨fun hOk hRoom hStaged hLive hSlots => ?_, fun hBad => refused_shows hHead ht (exmDel_invalid hHead hBad)⟩
  rw [ht _ (exmDel_stages hHead hKey hOk hRoom hStaged hLive hSlots) (keyEnded_pending _ _ _ _)]
  have hTab : (keyEnded g.toNat d k s).tab = ((s.takeDesc g.toNat).setOps g.toNat [.exmDel k]).tab := by rw [keyEnded, updDone_tab]
  obtain ⟨hRoutes, hExm⟩ := setOps_published (s.takeDesc g.toNat) g.toNat [.exmDel k]
  exact ⟨(openOps_of_tab hTab _).trans (openOps_setOps _ _ _), by rw [hTab, hExm, takeDesc_tab], by rw [hTab, hRoutes, takeDesc_tab],
    updated_updDone hKind hRun (ringsKept_setOps _ _ _) d _ _⟩

end Sys2Proof.Machine.FreewheelCommit
end

section
/-! PROOF. O14: the update entries of egress tables, reserved opcodes, NOP and TURN, and the statement put together (R152, R175, R181, R381, R382). -/

namespace Sys2Proof.Machine.FreewheelCommit
open DeviceOrganisation (completes_of_answer)

/-! ### EGT_WRITE (R175, R176, R179) -/

/-- An egress entry is written. -/
def egressWritten (i : Nat) (e : BitVec 128) (s : State) : State := { s with tab := { s.tab with egt := KMap.set 0 s.tab.egt i e } }

theorem egtWrite_writes {s : State} {g : Nat} {d : List Byte} (hHead : s.updHead g (· == 0x05) (fun _ => false) = some d) (hFlags : uFlags d = 0)
    (hTable : uTable d = 0) (hSub : uSub d = 0) (hResult : uResult d = 0) (hIndex : uIndex d ≤ 1048575)
    (hLegal : s.egtSecond (uIndex d) = true ∨ egtOk (uIndex d) (BitVec.ofNat 128 (uData d)) = true)
    (hHeld : s.regionLost 2 (egtSram (uIndex d)) = false) :
    egtWrite g s = (egressWritten (uIndex d) (BitVec.ofNat 128 (uData d)) (s.takeDesc g)).updDone g usOk d 0 := by
  have hLegal' : (s.takeDesc g).egtSecond (uIndex d) = true ∨ egtOk (uIndex d) (BitVec.ofNat 128 (uData d)) = true := hLegal
  have hHeld' : (s.takeDesc g).regionLost 2 (egtSram (uIndex d)) = false := hHeld
  have hIn : ¬ egtLast < uIndex d := not_lt.2 hIndex
  have hClean : ¬ (uFlags d ≠ 0 ∨ uTable d ≠ 0 ∨ uSub d ≠ 0 ∨ uResult d ≠ 0 ∨ egtLast < uIndex d ∨
      (!(s.takeDesc g).egtSecond (uIndex d) && !egtOk (uIndex d) (BitVec.ofNat 128 (uData d))) = true) := by
    rcases hLegal' with hLegal' | hLegal' <;> simp [hFlags, hTable, hSub, hResult, hIn, hLegal']
  simp only [egtWrite, hHead]
  rw [if_neg hClean, hHeld', if_neg Bool.false_ne_true]
  rfl

theorem egtWrite_invalid {s : State} {g : Nat} {d : List Byte} (hHead : s.updHead g (· == 0x05) (fun _ => false) = some d)
    (hIndex : 1048575 < uIndex d) : egtWrite g s = (s.takeDesc g).updDone g usInvalid d 0 := by
  simp only [egtWrite, hHead]
  exact if_pos (.inr (.inr (.inr (.inr (.inl hIndex)))))

theorem egtWrite_completes (s : State) (g : BitVec 16) (d : List Byte) (hHead : s.updHead g.toNat (· == 0x05) (fun _ => false) = some d) :
    Completes (.egtWrite g) s fun t =>
      (uFlags d = 0 → uTable d = 0 → uSub d = 0 → uResult d = 0 → uIndex d ≤ 1048575 →
        s.egtSecond (uIndex d) = true ∨ egtOk (uIndex d) (BitVec.ofNat 128 (uData d)) = true →
        s.regionLost 2 (egtSram (uIndex d)) = false →
        t.egt (uIndex d) = BitVec.ofNat 128 (uData d) ∧ (∀ j, j ≠ uIndex d → t.egt j = s.egt j) ∧
        { t.tab with egt := s.tab.egt } = s.tab ∧ Updated g.toNat d 0 0 s t) ∧
      (1048575 < uIndex d → t.tab = s.tab ∧ Updated g.toNat d 3 0 s t) := by
  obtain ⟨hKind, hRun⟩ := updHead_runs hHead
  refine completes_of_cases (u := egtWrite g.toNat s) rfl fun t ht =>
    ⟨fun hFlags hTable hSub hResult hIndex hLegal hHeld => ?_, fun hIndex => refused_shows hHead ht (egtWrite_invalid hHead hIndex)⟩
  rw [ht _ (egtWrite_writes hHead hFlags hTable hSub hResult hIndex hLegal hHeld) (updDone_pending _ _ _ _ _)]
  refine ⟨?_, fun j hj => ?_, ?_, updated_updDone hKind hRun (.of_tab _) d _ _⟩
  · rw [State.egt, updDone_tab]
    exact KMap.get_set_same _ _ _ _
  · rw [State.egt, updDone_tab]
    exact KMap.get_set_ne _ _ _ _ _ _ hj
  · rw [updDone_tab]
    rfl

/-! ### Reserved opcodes and NOP (R181, R381) -/

theorem updateReservedOpcode_completes (s : State) (g : BitVec 16) (d : List Byte)
    (hHead : s.updHead g.toNat (fun o => o == 0 || (decide (0x06 ≤ o) && o != 0xF0 && o != 0xF1)) (fun _ => false) = some d) :
    Completes (.updateReservedOpcode g) s fun t => Updated g.toNat d 3 0 s t ∧
      RegsBut [Reg.RING_IDX g.toNat, Reg.RING_CTRL g.toNat] s t ∧
      { t with regs := s.regs, rings := s.rings, out := s.out, ram := s.ram } = s := by
  obtain ⟨hKind, hRun⟩ := updHead_runs hHead
  have hEq : updateReservedOpcode g.toNat s = (s.takeDesc g.toNat).updDone g.toNat usInvalid d 0 := by rw [updateReservedOpcode, hHead]
  exact completes_of_answer (congrArg (answer s) hEq) (updDone_pending _ _ _ _ _) (completed_at_once hKind hRun d _ _)

theorem nop_completes (s : State) (g : BitVec 16) (d : List Byte) (hHead : s.updHead g.toNat (· == 0xF1) (fun _ => false) = some d) :
    Completes (.nop g) s fun t => (((d.take 4).drop 1 ++ d.drop 8).all (· == 0) = true → Updated g.toNat d 0 s.nextEpoch s t) ∧
      (((d.take 4).drop 1 ++ d.drop 8).all (· == 0) = false → Updated g.toNat d 3 0 s t) ∧
      RegsBut [Reg.RING_IDX g.toNat, Reg.RING_CTRL g.toNat] s t ∧
      { t with regs := s.regs, rings := s.rings, out := s.out, ram := s.ram } = s := by
  obtain ⟨hKind, hRun⟩ := updHead_runs hHead
  cases hClean : ((d.take 4).drop 1 ++ d.drop 8).all (· == 0) with
  | true =>
    have hEq : nop g.toNat s = (s.takeDesc g.toNat).updDone g.toNat usOk d s.nextEpoch := by
      simp only [nop, hHead]
      exact if_pos hClean
    obtain ⟨hUpdated, hRest⟩ := completed_at_once hKind hRun d usOk s.nextEpoch
    exact completes_of_answer (congrArg (answer s) hEq) (updDone_pending _ _ _ _ _) ⟨fun _ => hUpdated, nofun, hRest⟩
  | false =>
    have hEq : nop g.toNat s = (s.takeDesc g.toNat).updDone g.toNat usInvalid d 0 := by
      simp only [nop, hHead]
      exact if_neg (Bool.eq_false_iff.1 hClean)
    obtain ⟨hUpdated, hRest⟩ := completed_at_once hKind hRun d usInvalid 0
    exact completes_of_answer (congrArg (answer s) hEq) (updDone_pending _ _ _ _ _) ⟨nofun, fun _ => hUpdated, hRest⟩

/-! ### TURN (R152, R381, R382) -/

/-- A ring waits for the ingress turn that it has requested. -/
def turnAwaited (g tag : Nat) (s : State) : State := ((s.requestTurn false).joinTurn g tag 0).setRingState g rsTurnWait

/-- An entry of a turn that has yet to complete is kept for its ring. -/
def turnKept (g tag : Nat) (s : State) : State := s.setRing g { s.ring g with turns := (s.ring g).turns ++ [⟨tag, 0⟩] }

theorem turn_closes {s : State} {g : Nat} {d : List Byte} {b : Batch} (hHead : s.updHead g (· == 0xF0) (fun _ => false) = some d)
    (hFlags : uFlags d = 0) (hZero : beAt d 2 2 = 0) (hRest : beAt d 8 24 = 0) (hOpen : s.openBatch g = some b) :
    turn g s = turnKept g (uTag d) (turnAwaited g (uTag d) (batchClosed b (s.takeDesc g))) := by
  have hOpen' : (s.takeDesc g).openBatch g = some b := hOpen
  simp only [turn, hHead, hFlags, if_true]
  rw [if_neg (by simp [hZero, hRest]), closeBatch_of_open hOpen']
  rfl

theorem batchClosed_regs (l : List Nat) (b : Batch) (s : State) : RegsBut l s (batchClosed b s) := fun _ _ => rfl

/-- The ring's batch closes with its TURN entry taken. -/
theorem batchClosed_takeDesc (b : Batch) (s : State) (g : Nat) :
    (batchClosed b (s.takeDesc g)).pending = s.pending ∧ (batchClosed b (s.takeDesc g)).out = s.out ∧
    (batchClosed b (s.takeDesc g)).turnIn = s.turnIn ∧ (batchClosed b (s.takeDesc g)).tab.closedB = s.tab.closedB ++ [b] ∧
    (batchClosed b (s.takeDesc g)).ring g = { s.ring g with pre := (s.ring g).pre.drop 1, reserved := (s.ring g).reserved + 1 } ∧
    RegsBut [Reg.RING_IDX g] s (batchClosed b (s.takeDesc g)) :=
  ⟨rfl, rfl, rfl, rfl, takeDesc_ring s g, (takeDesc_regs s g).trans (batchClosed_regs _ b _)⟩

theorem turnAwaited_status (g tag : Nat) (s : State) :
    (turnAwaited g tag s).ringState g = rsTurnWait ∧
    (turnAwaited g tag s).flag Reg.FWH_EPOCH_STATUS Fld.FWH_EPOCH_STATUS_TURN_PENDING = true ∧
    RegsBut [Reg.RING_CTRL g, Reg.FWH_EPOCH_STATUS] s (turnAwaited g tag s) := by
  have hApart : Reg.FWH_EPOCH_STATUS ≠ Reg.RING_CTRL g := by
    unfold Reg.RING_CTRL Reg.FWH_EPOCH_STATUS
    omega
  obtain ⟨hPending, -, hRegs⟩ := requestTurn_ingress s
  refine ⟨(ringState_setRingState _ _ _ _ (by decide)).trans (if_pos rfl), ?_,
    (hRegs.mono (by simp)).trans (RegsBut.setFld _ ((s.requestTurn false).joinTurn g tag 0) _ Fld.RING_CTRL_STATE rsTurnWait (by simp))⟩
  rw [turnAwaited, State.setRingState, State.flag, State.fld_setFld_ne _ _ _ _ _ _ hApart]
  exact hPending

theorem turnAwaited_leaves (g tag : Nat) (s : State) :
    (turnAwaited g tag s).turnIn.wait = s.turnIn.wait ++ [(g, tag)] ∧ (turnAwaited g tag s).pending = s.pending ∧
    (turnAwaited g tag s).out = s.out ∧ (turnAwaited g tag s).rings = s.rings ∧ (turnAwaited g tag s).tab = s.tab :=
  ⟨rfl, rfl, rfl, rfl, rfl⟩

theorem turn_completes (s : State) (g : BitVec 16) (d : List Byte) (b : Batch) (hHead : s.updHead g.toNat (· == 0xF0) (fun _ => false) = some d)
    (hFlags : uFlags d = 0) (hZero : beAt d 2 2 = 0) (hRest : beAt d 8 24 = 0) (hOpen : s.openBatch g.toNat = some b) :
    Completes (.turn g) s fun t => t.tab.closedB = s.tab.closedB ++ [b] ∧ t.ringState g.toNat = rsTurnWait ∧
      t.flag Reg.FWH_EPOCH_STATUS Fld.FWH_EPOCH_STATUS_TURN_PENDING = true ∧ t.turnIn.wait = s.turnIn.wait ++ [(g.toNat, uTag d)] ∧
      (t.ring g.toNat).turns = (s.ring g.toNat).turns ++ [⟨uTag d, 0⟩] ∧ (t.ring g.toNat).reserved = (s.ring g.toNat).reserved + 1 ∧
      t.out = s.out ∧ RegsBut [Reg.RING_IDX g.toNat, Reg.RING_CTRL g.toNat, Reg.FWH_EPOCH_STATUS] s t := by
  have hEq := turn_closes hHead hFlags hZero hRest hOpen
  obtain ⟨hQueue, hOut, hTurnIn, hClosed, hRing, hTaken⟩ := batchClosed_takeDesc b s g.toNat
  generalize batchClosed b (s.takeDesc g.toNat) = v at hEq hQueue hOut hTurnIn hClosed hRing hTaken
  obtain ⟨hState, hPending, hRegs⟩ := turnAwaited_status g.toNat (uTag d) v
  obtain ⟨hWait, hQueue', hOut', hRings, hTab⟩ := turnAwaited_leaves g.toNat (uTag d) v
  generalize turnAwaited g.toNat (uTag d) v = u at hEq hState hPending hRegs hWait hQueue' hOut' hRings hTab
  have hKept : u.ring g.toNat = _ := (ring_of_rings hRings _).trans hRing
  rw [turnKept] at hEq
  refine completes_of_answer (congrArg (answer s) hEq) ((State.setRing_pending _ _ _).trans (hQueue'.trans hQueue))
    ⟨?_, (State.setRing_fld _ _ _ _ _).trans hState, (State.setRing_flag _ _ _ _ _).trans hPending, ?_, ?_, ?_,
      (State.setRing_out _ _ _).trans (hOut'.trans hOut), fun a ha => (State.setRing_reg _ _ _ a).trans ?_⟩
  · rw [State.setRing_tab, hTab, hClosed]
  · rw [State.setRing_turnIn, hWait, hTurnIn]
  · rw [ring_setRing_same, hKept]
  · rw [ring_setRing_same, hKept]
  · exact ((hTaken.mono (by simp)).trans (hRegs.mono (by simp)) : RegsBut _ s u) a ha

/-- Settles O14, a lemma for each opcode: what an entry stages touches the tables alone, so its completion is that of the entry taken. -/
theorem updateRingEntries : Obligations.UpdateRingEntries := by
  unfold Obligations.UpdateRingEntries
  exact ⟨routeAdd_completes, routeDel_completes, exmAdd_completes, exmDel_completes, egtWrite_completes, updateReservedOpcode_completes,
    nop_completes, turn_completes⟩

end Sys2Proof.Machine.FreewheelCommit
end

section
/-! PROOF. O15: relocation chains, births rebased and the lengths of continuations (R163, R170, R171, R187). -/

namespace Sys2Proof.Machine.ForwardingTables
open DeviceOrganisation (completes_of_answer)
open FreewheelCommit (slot_of_exm slot_setSlot_same completes_of_cases)
open OtnFramer (CtrApart countsOnly_bump)

/-! ### Slots (R166, R171) -/

/-- An entry with a key type is not what an unlisted slot reads as. -/
theorem ne_free_of_ktype {e : ExmEntry} (h : e.key.ktype ≠ 0) : e ≠ .free := fun he => h (congrArg (fun x => x.key.ktype) he)

theorem slot_setSlot_other (s : State) {i j : Nat} (e : ExmEntry) (hj : j ≠ i) : (s.setSlot i e).slot j = s.slot j := by
  rw [State.slot, State.setSlot, KMap.set]
  split
  · exact lfind_ldel_ne _ _ _ hj
  · exact lfind_lins_ne _ _ _ _ hj

theorem slot_clearSlot_same (s : State) (i : Nat) : (s.clearSlot i).slot i = none := by
  rw [State.slot, State.clearSlot, State.setSlot, KMap.set, if_pos rfl]
  exact lfind_ldel_same _ _

theorem slot_clearSlot_ne (s : State) {i j : Nat} (hj : j ≠ i) : (s.clearSlot i).slot j = s.slot j := slot_setSlot_other s _ hj

/-! ### Tables changed with a count -/

/-- The tables have changed and a counter has risen by one. -/
def tabCounted (e : TabSt) (c : Ctr) (s : State) : State := State.bump { s with tab := e } c 1

theorem withTab_setCtr (s : State) (c : Ctr) (v : Nat) (e : TabSt) : { s.setCtr c v with tab := e } = State.setCtr { s with tab := e } c v := by
  rw [State.setCtr]
  split
  case isTrue h => exact (if_pos h).symm
  case isFalse h => exact (if_neg h).symm

/-- A count reads no table. -/
theorem withTab_bump (s : State) (c : Ctr) (n : Nat) (e : TabSt) : { s.bump c n with tab := e } = State.bump { s with tab := e } c n := by
  have hReg : State.reg64 { s with tab := e } c.lo = s.reg64 c.lo := rfl
  have hNote (u : State) (x : Nat × Nat × Nat) : { u.noteCount x with tab := e } = State.noteCount { u with tab := e } x := rfl
  rw [State.bump, State.bump, hReg, hNote, withTab_setCtr]

/-- The counters of the engines that write exact-match slots. -/
theorem ctrApart_exm : ∀ c ∈ [Ctr.EXM_MOVE, Ctr.EXM_INSERT, Ctr.LRN_AGED], CtrApart c := by
  simp only [CtrApart]
  decide

theorem tabCounted_pending (e : TabSt) (c : Ctr) (s : State) : (tabCounted e c s).pending = s.pending := State.bump_pending _ _ _

theorem tabCounted_tab (e : TabSt) (c : Ctr) (s : State) : (tabCounted e c s).tab = e := State.bump_tab _ _ _

theorem tabCounted_counts (e : TabSt) {c : Ctr} (s : State) (h : CtrApart c) : Counted c 1 s (tabCounted e c s) ∧
    RegsBut c.regs s (tabCounted e c s) ∧ { tabCounted e c s with tab := s.tab, regs := s.regs, pmcIn := s.pmcIn } = s := by
  obtain ⟨hCount, hRegs, -⟩ := countsOnly_bump { s with tab := e } h
  exact ⟨hCount, hRegs, by simp [tabCounted]⟩

/-! ### EXM_SLOT_RELEASE (R171) -/

/-- An entry lies in the slot that was vacated, and its own slot is clear. -/
def entryMoved (s : State) (src dst : Nat) (e : ExmEntry) : State := (s.setSlot dst e).clearSlot src

theorem slot_entryMoved (s : State) {src dst : Nat} {e : ExmEntry} (hNe : src ≠ dst) (he : e ≠ .free) :
    (entryMoved s src dst e).slot dst = some e ∧ (entryMoved s src dst e).slot src = none ∧
    ∀ i, i ≠ src → i ≠ dst → (entryMoved s src dst e).slot i = s.slot i :=
  ⟨(slot_clearSlot_ne _ hNe.symm).trans (slot_setSlot_same _ _ he), slot_clearSlot_same _ _,
    fun _ hSrc hDst => (slot_clearSlot_ne _ hSrc).trans (slot_setSlot_other _ _ hDst)⟩

section
variable {s : State} {j : ExmJob} (hJob : s.tab.job = some j)
include hJob

theorem exmSlotRelease_early (h : s.time.cycles < j.release) : exmSlotRelease s = s := by simp only [exmSlotRelease, hJob, if_pos h]

variable (hDue : j.release ≤ s.time.cycles)
include hDue

/-- The next entry of the chain moves into the vacated slot, and its own slot waits in turn. -/
theorem exmSlotRelease_moves {p : Nat} {rest : List Nat} {e : ExmEntry} (hPath : j.path = p :: rest) (hSlot : s.slot p = some e) :
    exmSlotRelease s = tabCounted { (entryMoved s p j.hole e).tab with
      job := some { j with path := rest, hole := p, release := s.time.cycles + 2048 } } Ctr.EXM_MOVE s := by
  have hMove : s.exmMove p j.hole = (entryMoved s p j.hole e).bump Ctr.EXM_MOVE 1 := by simp only [State.exmMove, hSlot, entryMoved]
  simp only [exmSlotRelease, hJob, if_neg hDue.not_gt, hPath, hMove]
  rw [withTab_bump, State.bump_tab, State.bump_time]
  rfl

/-- At the end of the chain the new entry is written, and the engine is free. -/
theorem exmSlotRelease_inserts (hPath : j.path = []) (hRing : j.ring = none) :
    exmSlotRelease s = tabCounted { (s.setSlot j.hole j.entry).tab with job := none } Ctr.EXM_INSERT s := by
  simp only [exmSlotRelease, hJob, if_neg hDue.not_gt, hPath, hRing]
  rfl

end

theorem exmSlotRelease_move_completes (s : State) (j : ExmJob) (p : Nat) (rest : List Nat) (e : ExmEntry) (hJob : s.tab.job = some j)
    (hDue : j.release ≤ s.time.cycles) (hPath : j.path = p :: rest) (hNe : p ≠ j.hole) (hSlot : s.slot p = some e) (hKey : e.key.ktype ≠ 0) :
    Completes .exmSlotRelease s fun t => t.slot j.hole = some e ∧ t.slot p = none ∧ (∀ i, i ≠ p → i ≠ j.hole → t.slot i = s.slot i) ∧
      t.tab.job = some { j with path := rest, hole := p, release := s.time.cycles + 2048 } ∧ Counted Ctr.EXM_MOVE 1 s t ∧
      RegsBut Ctr.EXM_MOVE.regs s t ∧ { t with tab := s.tab, regs := s.regs, pmcIn := s.pmcIn } = s := by
  obtain ⟨hDst, hSrc, hRest⟩ := slot_entryMoved s hNe (ne_free_of_ktype hKey)
  refine completes_of_answer (congrArg (answer s) (exmSlotRelease_moves hJob hDue hPath hSlot)) (tabCounted_pending _ _ _) ?_
  generalize hTab : ({ (entryMoved s p j.hole e).tab with job := _ } : TabSt) = tab
  have hEq (i : Nat) : (tabCounted tab Ctr.EXM_MOVE s).slot i = (entryMoved s p j.hole e).slot i :=
    slot_of_exm (by rw [tabCounted_tab, ← hTab]) i
  refine ⟨(hEq _).trans hDst, (hEq _).trans hSrc, fun i h h' => (hEq i).trans (hRest i h h'), ?_, tabCounted_counts tab s (ctrApart_exm _ (by simp))⟩
  rw [tabCounted_tab, ← hTab]

theorem exmSlotRelease_insert_completes (s : State) (j : ExmJob) (hJob : s.tab.job = some j) (hDue : j.release ≤ s.time.cycles)
    (hPath : j.path = []) (hRing : j.ring = none) (hKey : j.entry.key.ktype ≠ 0) :
    Completes .exmSlotRelease s fun t => t.slot j.hole = some j.entry ∧ (∀ i, i ≠ j.hole → t.slot i = s.slot i) ∧ t.tab.job = none ∧
      Counted Ctr.EXM_INSERT 1 s t ∧ RegsBut Ctr.EXM_INSERT.regs s t ∧ { t with tab := s.tab, regs := s.regs, pmcIn := s.pmcIn } = s := by
  refine completes_of_answer (congrArg (answer s) (exmSlotRelease_inserts hJob hDue hPath hRing)) (tabCounted_pending _ _ _) ?_
  have hEq (i : Nat) : (tabCounted { (s.setSlot j.hole j.entry).tab with job := none } Ctr.EXM_INSERT s).slot i =
      (s.setSlot j.hole j.entry).slot i := slot_of_exm (by rw [tabCounted_tab]) i
  refine ⟨(hEq _).trans (slot_setSlot_same _ _ (ne_free_of_ktype hKey)), fun i h => (hEq i).trans (slot_setSlot_other _ _ h), ?_,
    tabCounted_counts _ s (ctrApart_exm _ (by simp))⟩
  rw [tabCounted_tab]

/-! ### EXM_BIRTH_REBASE (R170) -/

/-- How many epochs lie between a birth and an epoch, modulo 2^32. -/
def epochsSince (birth epoch : Nat) : Nat := (epoch + 2 ^ 32 - birth % 2 ^ 32) % 2 ^ 32

/-- What a visit finds of a published entry while the engine is idle. -/
theorem exmBirthRebase_eq {s : State} {i : Nat} {e : ExmEntry} (hIdle : s.tab.job = none) (hSlot : s.slot i = some e) (hBatch : e.batch = none) :
    exmBirthRebase i s = if 2 ^ 29 < epochsSince e.birth s.epoch then s.setSlot i { e with birth := prevOf s.epoch } else s := by
  simp only [exmBirthRebase, hIdle, hSlot, hBatch, epochsSince, Option.isNone_none, Bool.true_and, decide_eq_true_eq]

theorem exmBirthRebase_completes (s : State) (i : Fin 33554432) (e : ExmEntry) (hIdle : s.tab.job = none) (hSlot : s.slot i.val = some e)
    (hBatch : e.batch = none) (hKey : e.key.ktype ≠ 0) :
    Completes (.exmBirthRebase i) s fun t =>
      (2 ^ 29 < epochsSince e.birth s.epoch → t.slot i.val = some { e with birth := prevOf s.epoch }) ∧
      (epochsSince e.birth s.epoch ≤ 2 ^ 29 → t = s) ∧ (∀ k, k ≠ i.val → t.slot k = s.slot k) ∧ { t with tab := s.tab } = s := by
  have hEq := exmBirthRebase_eq hIdle hSlot hBatch
  by_cases hOld : 2 ^ 29 < epochsSince e.birth s.epoch
  · rw [if_pos hOld] at hEq
    exact completes_of_answer (congrArg (answer s) hEq) rfl
      ⟨fun _ => slot_setSlot_same _ _ (ne_free_of_ktype hKey), fun h => absurd hOld h.not_gt, fun k hk => slot_setSlot_other _ _ hk, rfl⟩
  · rw [if_neg hOld] at hEq
    exact completes_of_answer (congrArg (answer s) hEq) rfl ⟨fun h => absurd h hOld, fun _ => rfl, fun _ _ => rfl, rfl⟩

/-! ### LPM_V6_CONT_WRITE (R163, R187) -/

/-- The four lengths of continuations. -/
def contLens : List Fld := [Fld.LPM_V6_CONT_LEN0, .LPM_V6_CONT_LEN1, .LPM_V6_CONT_LEN2, .LPM_V6_CONT_LEN3]

theorem contExists_of_empty {s : State} (hEmpty : s.tab.exm.l = []) (hIdle : s.tab.job = none) (len : Nat) : s.contExists len = false := by
  simp [State.contExists, hEmpty, hIdle]

theorem lpmV6ContWrite_stores {s : State} {v : Word} (hLens : ∀ f ∈ contLens, f.get v = 0 ∨ (65 ≤ f.get v ∧ f.get v ≤ 127))
    (hEmpty : s.tab.exm.l = []) (hIdle : s.tab.job = none) : lpmV6ContWrite v s = s.setReg Reg.LPM_V6_CONT v := by
  rw [contLens] at hLens
  refine if_neg fun hBad => ?_
  obtain ⟨f, hf, hBad⟩ := List.any_eq_true.1 hBad
  have hLen := hLens f hf
  simp only [contExists_of_empty hEmpty hIdle, Bool.and_false, Bool.or_false, Bool.or_eq_true, Bool.and_eq_true, decide_eq_true_eq] at hBad
  omega

theorem lpmV6ContWrite_refuses (s : State) {v : Word} (hLens : ∃ f ∈ contLens, (1 ≤ f.get v ∧ f.get v ≤ 64) ∨ 127 < f.get v) :
    lpmV6ContWrite v s = s.setFlag Reg.LPM_STATUS Fld.LPM_STATUS_CONT_REFUSED true := by
  obtain ⟨f, hf, hLen⟩ := hLens
  refine if_pos (List.any_eq_true.2 ⟨f, hf, ?_⟩)
  simp only [Bool.or_eq_true, Bool.and_eq_true, decide_eq_true_eq]
  exact .inl hLen

theorem lpmV6ContWrite_completes (s : State) (v : BitVec 32) (hUp : s.fdieUp = true) :
    Completes (.lpmV6ContWrite v) s fun t =>
      ((∀ f ∈ contLens, f.get v = 0 ∨ (65 ≤ f.get v ∧ f.get v ≤ 127)) → s.tab.exm.l = [] → s.tab.job = none →
        t.reg Reg.LPM_V6_CONT = v ∧ OnlyRegs [Reg.LPM_V6_CONT] s t) ∧
      ((∃ f ∈ contLens, (1 ≤ f.get v ∧ f.get v ≤ 64) ∨ 127 < f.get v) →
        t.flag Reg.LPM_STATUS Fld.LPM_STATUS_CONT_REFUSED = true ∧ OnlyRegs [Reg.LPM_STATUS] s t) := by
  have hOn : onF (lpmV6ContWrite v) s = lpmV6ContWrite v s := if_pos hUp
  refine completes_of_cases (congrArg (answer s) hOn) fun t ht => ⟨fun hLens hEmpty hIdle => ?_, fun hLens => ?_⟩
  · rw [ht _ (lpmV6ContWrite_stores hLens hEmpty hIdle) rfl]
    exact ⟨State.reg_setReg_same _ _ _, .setReg _ _ _ _ (by simp)⟩
  · rw [ht _ (lpmV6ContWrite_refuses s hLens) rfl]
    exact ⟨State.flag_setFlag_same _ _ _ _ (by decide), .setFlag _ _ _ _ _ (by simp)⟩

/-- Settles O15, a lemma for each command and, of EXM_SLOT_RELEASE, for each stand of the chain. -/
theorem exactMatchUpkeep : Obligations.ExactMatchUpkeep := by
  unfold Obligations.ExactMatchUpkeep
  exact ⟨fun s _ hJob hEarly => congrArg (answer s) (exmSlotRelease_early hJob hEarly),
    fun s j p rest e hJob hDue hPath hNe hSlot hKey _ => exmSlotRelease_move_completes s j p rest e hJob hDue hPath hNe hSlot hKey,
    exmSlotRelease_insert_completes, exmBirthRebase_completes, lpmV6ContWrite_completes⟩

end Sys2Proof.Machine.ForwardingTables
end

section
/-! PROOF. The sweeper: what a visit of a slot does, and the visits of a bucket (R198, R199, R201). -/

namespace Sys2Proof.Machine.ForwardingTables
open DeviceOrganisation (foldl_rel)
open FreewheelCommit (slot_setSlot_same)

/-! ### What a visit leaves -/

/-- Between two states only exact-match slots and the learning engine differ. -/
def SlotsOnly (s t : State) : Prop := { t with lrn := s.lrn, tab := s.tab } = s ∧ { t.tab with exm := s.tab.exm } = s.tab

theorem SlotsOnly.refl (s : State) : SlotsOnly s s := ⟨rfl, rfl⟩

theorem SlotsOnly.trans {s t u : State} (h : SlotsOnly s t) (k : SlotsOnly t u) : SlotsOnly s u := by
  obtain ⟨h, hTab⟩ := h
  obtain ⟨k, kTab⟩ := k
  exact ⟨by rw [← h, ← k], by rw [← hTab, ← kTab]⟩

theorem SlotsOnly.regs {s t : State} (h : SlotsOnly s t) : t.regs = s.regs := (congrArg State.regs h.1 :)

theorem SlotsOnly.reg {s t : State} (h : SlotsOnly s t) (a : Nat) : t.reg a = s.reg a := by rw [State.reg, h.regs, ← State.reg]

theorem SlotsOnly.aged {s t : State} (h : SlotsOnly s t) (e : ExmEntry) : t.aged e = s.aged e := by
  rw [State.aged, State.flag, State.fld, h.reg, ← State.fld, ← State.flag, ← State.aged]

/-! ### One visit (R199, R201) -/

/-- An entry's key and mark at the end of the removal list. -/
def removalListed (s : State) (e : ExmEntry) : State := { s with lrn := { s.lrn with removals := s.lrn.removals ++ [(e.key, e.mark)] } }

/-- A visit leaves the state, writes the slot's entry, or lists it for removal. -/
theorem visitSlot_cases (s : State) (i : Nat) :
    s.visitSlot i = s ∨ (∃ e, s.visitSlot i = s.setSlot i e) ∨ ∃ e, s.visitSlot i = removalListed s e := by
  rw [State.visitSlot]
  split
  · exact .inl rfl
  case h_2 e _ =>
    dsimp only
    split_ifs
    · exact .inr (.inl ⟨_, rfl⟩)
    · exact .inl rfl
    · exact .inr (.inr ⟨e, rfl⟩)
    · exact .inr (.inl ⟨_, rfl⟩)

theorem visitSlot_only (s : State) (i : Nat) : SlotsOnly s (s.visitSlot i) := by
  obtain h | ⟨e, h⟩ | ⟨e, h⟩ := visitSlot_cases s i <;> rw [h] <;> exact ⟨rfl, rfl⟩

theorem slot_visitSlot_ne (s : State) {i j : Nat} (hj : j ≠ i) : (s.visitSlot i).slot j = s.slot j := by
  obtain h | ⟨e, h⟩ | ⟨e, h⟩ := visitSlot_cases s i <;> rw [h]
  · exact slot_setSlot_other s e hj
  · rfl

/-- A visit adds at most one entry to the end of the removal list. -/
theorem removals_visitSlot (s : State) (i : Nat) :
    ∃ l, l.length ≤ 1 ∧ (s.visitSlot i).lrn.removals = s.lrn.removals ++ l := by
  obtain h | ⟨e, h⟩ | ⟨e, h⟩ := visitSlot_cases s i <;> rw [h]
  · exact ⟨[], by simp⟩
  · exact ⟨[], by simp [State.setSlot]⟩
  · exact ⟨[(e.key, e.mark)], by simp [removalListed]⟩

section
variable {s : State} {i : Nat} {e : ExmEntry} (hSlot : s.slot i = some e)
include hSlot

theorem visitSlot_of_hit (hHit : e.hit = true) : s.visitSlot i = s.setSlot i { e with hit := false } := by
  simp only [State.visitSlot, hSlot, hHit, if_true]

variable (hIdle : e.hit = false)
include hIdle

theorem visitSlot_of_unaged (hAged : s.aged e = false) : s.visitSlot i = s := by
  simp [State.visitSlot, hSlot, hIdle, hAged]

variable (hAged : s.aged e = true)
include hAged

theorem visitSlot_of_marked (hMark : e.mark ≠ 0) (hPrev : e.mark + 1 = (s.reg Reg.LRN_SWEEP_NUM).toNat)
    (hRoom : s.lrn.removals.length < 65536) : s.visitSlot i = removalListed s e := by
  have hListed : e.mark ≠ 0 ∧ e.mark + 1 = (s.reg Reg.LRN_SWEEP_NUM).toNat ∧ s.lrn.removals.length < removalMax := ⟨hMark, hPrev, hRoom⟩
  simp only [State.visitSlot, hSlot, hIdle, hAged, Bool.not_true, Bool.false_eq_true, if_false, if_pos hListed, removalListed]

theorem visitSlot_of_unmarked (hMark : e.mark = 0 ∨ e.mark + 1 ≠ (s.reg Reg.LRN_SWEEP_NUM).toNat) :
    s.visitSlot i = s.setSlot i { e with mark := (s.reg Reg.LRN_SWEEP_NUM).toNat } := by
  have hUnlisted : ¬ (e.mark ≠ 0 ∧ e.mark + 1 = (s.reg Reg.LRN_SWEEP_NUM).toNat ∧ s.lrn.removals.length < removalMax) := by
    rintro ⟨hNe, hPrev, -⟩
    exact hMark.elim hNe (· hPrev)
  simp only [State.visitSlot, hSlot, hIdle, hAged, Bool.not_true, Bool.false_eq_true, if_false, if_neg hUnlisted]

end

/-! ### The slots of a bucket -/

/-- The visits of a list of slots. -/
def slotsVisited (l : List Nat) (s : State) : State := l.foldl State.visitSlot s

theorem slotsVisited_only (l : List Nat) (s : State) : SlotsOnly s (slotsVisited l s) :=
  foldl_rel .refl (fun _ _ _ => .trans) l (fun s i _ => visitSlot_only s i) s

theorem slotsVisited_slot_other (l : List Nat) (s : State) {j : Nat} (hj : j ∉ l) : (slotsVisited l s).slot j = s.slot j := by
  induction l generalizing s with
  | nil => rfl
  | cons i l ih =>
    obtain ⟨hNe, hl⟩ := not_or.1 (mt List.mem_cons.2 hj)
    exact (ih _ hl).trans (slot_visitSlot_ne s hNe)

/-- No visit takes an entry off the removal list. -/
theorem removals_slotsVisited (l : List Nat) (s : State) : s.lrn.removals ⊆ (slotsVisited l s).lrn.removals :=
  foldl_rel (R := fun s t : State => s.lrn.removals ⊆ t.lrn.removals) (fun _ => List.Subset.refl _) (fun _ _ _ => List.Subset.trans) l
    (fun s i _ => by
      obtain ⟨m, -, hm⟩ := removals_visitSlot s i
      rw [hm]
      exact List.subset_append_left _ _) s

/-- Each slot is visited once, in a state that shows it as it stood and has room in the removal list; what the visit makes of it stays. -/
theorem slotsVisited_visits {l : List Nat} (hDistinct : l.Nodup) {s : State} (hRoom : s.lrn.removals.length + l.length ≤ 65536) {i : Nat} (hi : i ∈ l) :
    ∃ u, SlotsOnly s u ∧ u.slot i = s.slot i ∧ u.lrn.removals.length < 65536 ∧ (slotsVisited l s).slot i = (u.visitSlot i).slot i ∧
      (u.visitSlot i).lrn.removals ⊆ (slotsVisited l s).lrn.removals := by
  induction l generalizing s with
  | nil => simp at hi
  | cons j l ih =>
    obtain ⟨hFresh, hRest⟩ := List.nodup_cons.1 hDistinct
    rw [List.length_cons] at hRoom
    rcases List.mem_cons.1 hi with rfl | hi
    · exact ⟨s, .refl s, rfl, by omega, slotsVisited_slot_other l _ hFresh, removals_slotsVisited l _⟩
    · have hNe : i ≠ j := fun h => hFresh (h ▸ hi)
      obtain ⟨m, hOne, hm⟩ := removals_visitSlot s j
      have hRoom' : (s.visitSlot j).lrn.removals.length + l.length ≤ 65536 := by rw [hm, List.length_append]; omega
      obtain ⟨u, hOnly, hSlot, hRest⟩ := ih hRest hRoom' hi
      exact ⟨u, (visitSlot_only s j).trans hOnly, hSlot.trans (slot_visitSlot_ne s hNe), hRest⟩

theorem nodup_slotsOf (b : Nat) : (slotsOf b).Nodup := by simp [slotsOf]

/-- What the visits make of an entry: HIT is cleared, or the mark of the previous sweep lists it, or it takes this sweep's mark, or it stays. -/
theorem slotsVisited_shows {s : State} {b : Nat} (hRoom : s.lrn.removals.length + 4 ≤ 65536) {i : Nat} (hi : i ∈ slotsOf b) {e : ExmEntry}
    (hSlot : s.slot i = some e) (hKey : e.key.ktype ≠ 0) :
    (e.hit = true → (slotsVisited (slotsOf b) s).slot i = some { e with hit := false }) ∧
    (e.hit = false → s.aged e = true → e.mark ≠ 0 → e.mark + 1 = (s.reg Reg.LRN_SWEEP_NUM).toNat →
      (slotsVisited (slotsOf b) s).slot i = some e ∧ (e.key, e.mark) ∈ (slotsVisited (slotsOf b) s).lrn.removals) ∧
    (e.hit = false → s.aged e = true → (e.mark = 0 ∨ e.mark + 1 ≠ (s.reg Reg.LRN_SWEEP_NUM).toNat) →
      (slotsVisited (slotsOf b) s).slot i = some { e with mark := (s.reg Reg.LRN_SWEEP_NUM).toNat }) ∧
    (e.hit = false → s.aged e = false → (slotsVisited (slotsOf b) s).slot i = some e) := by
  obtain ⟨u, hOnly, hStood, hLen, hEnd, hListed⟩ := slotsVisited_visits (nodup_slotsOf b) hRoom hi
  have hSlot' : u.slot i = some e := hStood.trans hSlot
  rw [hEnd, ← hOnly.aged, ← hOnly.reg]
  refine ⟨fun hHit => ?_, fun hIdle hAged hMark hPrev => ?_, fun hIdle hAged hMark => ?_, fun hIdle hAged => ?_⟩
  · rw [visitSlot_of_hit hSlot' hHit]
    exact slot_setSlot_same u i (ne_free_of_ktype hKey)
  · rw [visitSlot_of_marked hSlot' hIdle hAged hMark hPrev hLen] at hListed ⊢
    exact ⟨hSlot', hListed (by simp [removalListed])⟩
  · rw [visitSlot_of_unmarked hSlot' hIdle hAged hMark]
    exact slot_setSlot_same u i (ne_free_of_ktype hKey)
  · rw [visitSlot_of_unaged hSlot' hIdle hAged, hSlot']

end Sys2Proof.Machine.ForwardingTables
end

section
/-! PROOF. O17: the start of a sweep, its visits, and the removal of the entries that two sweeps found idle (R170, R198 to R202). -/

namespace Sys2Proof.Machine.ForwardingTables
open DeviceOrganisation (completes_of_answer RegsWithin Reported regsWithin_ownerEvent eventReg mem_of_lfind)
open FreewheelCommit (slot_setSlot_same completes_of_cases)
open OtnFramer (countsOnly_bump)

/-! ### AGING_SWEEP_START (R198, R202) -/

/-- Whether the next multiple of the period has been reached. -/
def sweepDue (s : State) : Prop := (KMap.get 0 s.time.trig tgAge / s.agePeriod + 1) * s.agePeriod ≤ s.now

/-- The sweep with the next number is at its first bucket. -/
def sweepStarted (s : State) : State :=
  { s.trigFire tgAge 1 with lrn := { s.lrn with sweep := some (0, false) } }.setReg Reg.LRN_SWEEP_NUM (s.reg Reg.LRN_SWEEP_NUM + 1)

theorem agingSweepStart_starts {s : State} (hDue : sweepDue s) (hOn : s.flag Reg.LRN_CFG Fld.LRN_CFG_AGE_EN = true)
    (hBelow : s.reg Reg.LRN_SWEEP_NUM ≠ 0xFFFFFFFF) : agingSweepStart s = sweepStarted s := by
  have hLast : ((s.reg Reg.LRN_SWEEP_NUM).toNat == 0xFFFFFFFF) = false := by
    simpa using fun h => hBelow (BitVec.eq_of_toNat_eq h)
  have hNext : BitVec.ofNat 32 ((s.reg Reg.LRN_SWEEP_NUM).toNat + 1) = s.reg Reg.LRN_SWEEP_NUM + 1 := by simp [BitVec.ofNat_add]
  rw [sweepDue] at hDue
  simp only [agingSweepStart, if_pos hDue, hOn, hLast, hNext, Bool.not_true, Bool.false_eq_true, if_false]
  rfl

theorem agingSweepStart_waits {s : State} (h : ¬ sweepDue s) : agingSweepStart s = s := if_neg h

theorem agingSweepStart_completes (s : State) :
    Completes .agingSweepStart s fun t =>
      (sweepDue s → s.flag Reg.LRN_CFG Fld.LRN_CFG_AGE_EN = true → s.reg Reg.LRN_SWEEP_NUM ≠ 0xFFFFFFFF →
        t.lrn.sweep = some (0, false) ∧ t.reg Reg.LRN_SWEEP_NUM = s.reg Reg.LRN_SWEEP_NUM + 1 ∧ RegsBut [Reg.LRN_SWEEP_NUM] s t ∧
        { t with lrn := s.lrn, regs := s.regs, time := s.time } = s) ∧
      (s.now < (KMap.get 0 s.time.trig tgAge / s.agePeriod + 1) * s.agePeriod → t = s) := by
  refine completes_of_cases (u := agingSweepStart s) rfl fun t ht => ⟨fun hDue hOn hBelow => ?_, fun hEarly => ?_⟩
  · rw [ht _ (agingSweepStart_starts hDue hOn hBelow) rfl]
    exact ⟨rfl, State.reg_setReg_same _ _ _, RegsBut.setReg _ { s.trigFire tgAge 1 with lrn := _ } _ _ (by simp), rfl⟩
  · exact ht s (agingSweepStart_waits hEarly.not_ge) rfl

/-! ### AGING_VISIT (R198, R199) -/

/-- The sweeper goes on to the bucket after this one, or ends after the last. -/
def sweepPast (b : Nat) (s : State) : State := { s with lrn := { s.lrn with sweep := if b + 1 < 8388608 then some (b + 1, false) else none } }

theorem agingVisit_visits {s : State} {b : Nat} (hSweep : s.lrn.sweep = some (b, false)) :
    agingVisit s = sweepPast b (slotsVisited (slotsOf b) s) := by
  simp only [agingVisit, hSweep, Bool.false_eq_true, if_false]
  rfl

theorem agingVisit_completes (s : State) (b n : Nat) (hSweep : s.lrn.sweep = some (b, false)) (hNum : (s.reg Reg.LRN_SWEEP_NUM).toNat = n)
    (hRoom : s.lrn.removals.length + 4 ≤ 65536) :
    Completes .agingVisit s fun t =>
      (∀ i ∈ slotsOf b, ∀ e, s.slot i = some e → e.key.ktype ≠ 0 →
        (e.hit = true → t.slot i = some { e with hit := false }) ∧
        (e.hit = false → s.aged e = true → e.mark ≠ 0 → e.mark + 1 = n → t.slot i = some e ∧ (e.key, e.mark) ∈ t.lrn.removals) ∧
        (e.hit = false → s.aged e = true → (e.mark = 0 ∨ e.mark + 1 ≠ n) → t.slot i = some { e with mark := n }) ∧
        (e.hit = false → s.aged e = false → t.slot i = some e)) ∧
      (∀ i, i ∉ slotsOf b → t.slot i = s.slot i) ∧ t.lrn.sweep = (if b + 1 < 8388608 then some (b + 1, false) else none) ∧
      { t with lrn := s.lrn, tab := s.tab } = s ∧ { t.tab with exm := s.tab.exm } = s.tab := by
  subst hNum
  have hEq := agingVisit_visits hSweep
  have hShows (i : Nat) (hi : i ∈ slotsOf b) (e : ExmEntry) := slotsVisited_shows hRoom hi (e := e)
  have hOther (i : Nat) (hi : i ∉ slotsOf b) := slotsVisited_slot_other _ s hi
  obtain ⟨hFrame, hTab⟩ := slotsVisited_only (slotsOf b) s
  generalize slotsVisited (slotsOf b) s = u at hEq hShows hOther hFrame hTab
  exact completes_of_answer (congrArg (answer s) hEq) (congrArg State.pending hFrame :) ⟨hShows, hOther, rfl, hFrame, hTab⟩

/-! ### Entries freed (R170) -/

theorem lfind_of_lAbove {α : Type} {l : List (Nat × α)} {k : Nat} (h : lAbove k l) : lfind l k = none := by
  by_contra hSome
  obtain ⟨v, hv⟩ := Option.ne_none_iff_exists'.1 hSome
  exact (h _ (mem_of_lfind hv)).ne rfl

/-- In a canonical table a key reads its entry as long as the entry is kept. -/
theorem lfind_filter {α : Type} {l : List (Nat × α)} (p : Nat × α → Bool) (k : Nat) (h : lsorted l = true) :
    lfind (l.filter p) k = (lfind l k).filter (fun v => p (k, v)) := by
  induction l with
  | nil => rfl
  | cons x r ih =>
    obtain ⟨j, w⟩ := x
    obtain ⟨hAbove, hr⟩ := (lsorted_cons _ _).1 h
    by_cases hj : j = k
    · subst hj
      by_cases hp : p (j, w) = true
      · simp [lfind, hp, Option.filter]
      · simp [lfind, hp, Option.filter, ih hr, lfind_of_lAbove hAbove]
    · by_cases hp : p (j, w) = true <;> simp [lfind, hp, hj, ih hr]

theorem precedes_self (e : Nat) : precedes e e = false := by
  simp only [precedes, Bool.and_eq_false_imp, decide_eq_true_eq, decide_eq_false_iff_not]
  omega

theorem precedes_prevOf (e : Nat) : precedes (prevOf e) e = true := by
  have hOne : (e + 2 ^ 32 - prevOf e % 2 ^ 32) % 2 ^ 32 = 1 := by
    rw [prevOf]
    omega
  rw [precedes, hOne]
  rfl

/-- An entry that dies in the current epoch stays as long as the previous one is live. -/
theorem slot_exmReap_of_ended {s : State} {i : Nat} {e : ExmEntry} (hCanonical : s.tab.exm.wf (fun _ => .free) = true)
    (hSlot : s.slot i = some e) (hDeath : e.death = some s.epoch) : s.exmReap.slot i = if s.prevLive then some e else none := by
  rw [State.slot] at hSlot
  rw [State.slot, State.exmReap]
  dsimp only [KMap.filter]
  rw [lfind_filter _ _ ((KMap.wf_iff _ _).1 hCanonical).1, hSlot]
  cases hPrev : s.prevLive <;> simp [hDeath, precedes_self, precedes_prevOf]

/-! ### LEARN_AGED (R201) -/

theorem learnMask_shows (s : State) (bit : Nat) (k : ExmKey) (old new : Nat) :
    Reported s (s.learnMask bit k old new) ∧ RegsWithin eventReg s (s.learnMask bit k old new) := by
  rw [State.learnMask]
  split
  · exact ⟨.ownerEvent (.refl s), regsWithin_ownerEvent _ _ _ _ _ _⟩
  · exact ⟨.refl s, .refl _ s⟩

/-- The removal list is what follows its head. -/
def removalTaken (rest : List (ExmKey × Nat)) (s : State) : State := { s with lrn := { s.lrn with removals := rest } }

/-- An entry ends in the current epoch. -/
def entryEnded (i : Nat) (e : ExmEntry) (s : State) : State := s.setSlot i { e with death := some s.epoch }

/-- The end of an aged entry is counted and reported, and the record of its freeze dropped. -/
def endReported (k : ExmKey) (e : ExmEntry) (s : State) : State :=
  ((s.bump Ctr.LRN_AGED 1).learnMask 2 k ((s.bump Ctr.LRN_AGED 1).portOf e.result) 0xFFFF).dropFrozenRec k e.frozen

theorem learnAged_ends {s : State} {k : ExmKey} {rest : List (ExmKey × Nat)} {i : Nat} {e : ExmEntry} (hHead : s.lrn.removals = (k, e.mark) :: rest)
    (hIdle : s.tab.job = none) (hLive : s.exmLive k = some (i, e)) (hLearned : e.learned = true) :
    learnAged s = (endReported k e (entryEnded i e (removalTaken rest s))).exmReap := by
  have hLive' : (removalTaken rest s).exmLive k = some (i, e) := hLive
  rw [removalTaken] at hLive' ⊢
  simp only [learnAged, hHead, hIdle, hLive', hLearned, and_self, if_true, endReported, entryEnded]

/-- What the count and the report of an end show of the tables, the removal list and the epochs: they stand. -/
structure EndCounted (s t : State) : Prop where
  pending : t.pending = s.pending
  tab : t.tab = s.tab
  removals : t.lrn.removals = s.lrn.removals
  counted : Counted Ctr.LRN_AGED 1 s t
  epoch : t.epoch = s.epoch
  prevLive : t.prevLive = s.prevLive

theorem EndCounted.of_reported {s t : State} (hReported : Reported (s.bump Ctr.LRN_AGED 1) t)
    (hWithin : RegsWithin eventReg (s.bump Ctr.LRN_AGED 1) t) : EndCounted s t := by
  obtain ⟨hCount, hRegs, -⟩ := countsOnly_bump s (ctrApart_exm Ctr.LRN_AGED (by simp))
  have hReg {a : Nat} (hEvent : eventReg a = false) (hCtr : a ∉ Ctr.LRN_AGED.regs) : t.reg a = s.reg a := (hWithin a hEvent).trans (hRegs a hCtr)
  exact {
    pending := hReported.pending.trans (State.bump_pending _ _ _)
    tab := hReported.tab.trans (State.bump_tab _ _ _)
    removals := congrArg LrnSt.removals (hReported.lrn.trans (State.bump_lrn _ _ _))
    counted := hWithin.counted hCount (by decide)
    epoch := by rw [State.epoch, hReg (by decide) (by decide), ← State.epoch]
    prevLive := by rw [State.prevLive, State.flag, State.fld, hReg (by decide) (by decide), ← State.fld, ← State.flag, ← State.prevLive] }

theorem EndCounted.dropFrozenRec {s t : State} (h : EndCounted s t) (k : ExmKey) (frozen : Bool) : EndCounted s (t.dropFrozenRec k frozen) := by
  rw [State.dropFrozenRec]
  split
  · exact ⟨h.pending, h.tab, h.removals, h.counted, h.epoch, h.prevLive⟩
  · exact h

theorem endCounted_endReported (k : ExmKey) (e : ExmEntry) (s : State) : EndCounted s (endReported k e s) := by
  obtain ⟨hReported, hWithin⟩ := learnMask_shows (s.bump Ctr.LRN_AGED 1) 2 k ((s.bump Ctr.LRN_AGED 1).portOf e.result) 0xFFFF
  exact (EndCounted.of_reported hReported hWithin).dropFrozenRec k e.frozen

theorem learnAged_completes (s : State) (k : ExmKey) (m : Nat) (rest : List (ExmKey × Nat)) (i : Nat) (e : ExmEntry)
    (hHead : s.lrn.removals = (k, m) :: rest) (hIdle : s.tab.job = none) (hLive : s.exmLive k = some (i, e)) (hMark : e.mark = m)
    (hLearned : e.learned = true) (hCanonical : s.tab.exm.wf (fun _ => .free) = true) :
    Completes .learnAged s fun t => t.lrn.removals = rest ∧ Counted Ctr.LRN_AGED 1 s t ∧
      (s.prevLive = false → t.slot i = none) ∧ (s.prevLive = true → t.slot i = some { e with death := some s.epoch }) := by
  subst hMark
  obtain ⟨hQueue, hTab, hRemovals, hCount, hEpoch, hPrev⟩ := endCounted_endReported k e (entryEnded i e (removalTaken rest s))
  have hEq := learnAged_ends hHead hIdle hLive hLearned
  generalize endReported k e (entryEnded i e (removalTaken rest s)) = u at hQueue hTab hRemovals hCount hEpoch hPrev hEq
  have hFresh : ({ e with death := some s.epoch } : ExmEntry) ≠ .free := fun h => absurd (congrArg ExmEntry.death h) nofun
  have hSlot : u.slot i = some { e with death := some s.epoch } := by
    rw [State.slot, hTab, ← State.slot]
    exact slot_setSlot_same _ _ hFresh
  have hWf : u.tab.exm.wf (fun _ => .free) = true := by
    rw [hTab]
    exact KMap.wf_set (fun _ => ExmEntry.free) _ _ _ hCanonical
  have hReap := slot_exmReap_of_ended hWf hSlot (congrArg some hEpoch.symm)
  have hPrev' : u.prevLive = s.prevLive := hPrev
  rw [hPrev'] at hReap
  exact completes_of_answer (congrArg (answer s) hEq) hQueue
    ⟨hRemovals, hCount, fun h => by rw [hReap, h]; rfl, fun h => by rw [hReap, h]; rfl⟩

/-- Settles O17: a bucket's visits go slot by slot, each in a state that shows its slot untouched; an aged entry's end is the death that the reaping reads. -/
theorem agingSweeps : Obligations.AgingSweeps := by
  unfold Obligations.AgingSweeps
  exact ⟨agingSweepStart_completes, agingVisit_completes, learnAged_completes⟩

end Sys2Proof.Machine.ForwardingTables
end

section
/-! PROOF. O38: shadow compares: how a descriptor is taken, and the DONE entry that ends a compare (R205 to R208, R385). -/

namespace Sys2Proof.Machine.LearningAging
open DeviceOrganisation (regsBut_writeCpl)
open FreewheelCommit (ring_setRing_same ringIdx_ne_ringCtrl takeDesc_ring takeDesc_regs takeDesc_descCons writeCpl_of_running writeCpl_ring
  writeCpl_cplProd writeEntry_out place_of_regs completes_of_cases)

/-! ### The DONE entry (R207, R208) -/

/-- A completion of a running ring goes to the next place of its completion queue. -/
theorem writeCpl_out_of_running {s : State} {g : Nat} (hRun : s.ringState g = rsRunning) (d : List Byte) (hOwner : s.ringOwner g < 1024) :
    (s.writeCpl g d).out = s.out ++ [.hostWrite (s.ringOwner g)
      (s.reg64 (Reg.RING_CPL_BASE_LO g) + entrySize (s.ringKind g) * (s.cplProd g % s.ringSlots g)) d] := by
  rw [writeCpl_of_running hRun]
  exact writeEntry_out (s.setRing g _) g d hOwner

/-- A completion leaves DESC_CONS. -/
theorem descCons_writeCpl (s : State) (g : Nat) (d : List Byte) : (s.writeCpl g d).descCons g = s.descCons g :=
  congrArg Fld.RING_IDX_DESC_CONS.get (regsBut_writeCpl s g d _ (by simpa using ringIdx_ne_ringCtrl g))

/-- The bytes of a DONE entry (R207). -/
def doneEntry (j : ShadowJob) (status epoch : Nat) : List Byte :=
  beBytes 1 0x02 ++ beBytes 1 status ++ beBytes 2 j.slice ++ beBytes 4 j.tag ++ beBytes 4 j.found ++ beBytes 4 epoch

/-- A compare's end on a running ring: its spare slots are released, and its DONE entry takes the next place. -/
theorem shadowDone_shows {s : State} {g : Nat} (hKind : s.ringKind g = rkShadow) (hRun : s.ringState g = rsRunning) (j : ShadowJob) (status : Nat) :
    (s.shadowDone g j status).ring g = { s.ring g with
      shadow := none, reserved := (s.ring g).reserved - (j.maxReport - min j.found j.maxReport) - 1, unreported := true } ∧
    (s.shadowDone g j status).cplProd g = (s.cplProd g + 1) % 2 ^ 17 ∧ (s.shadowDone g j status).descCons g = s.descCons g ∧
    (s.ringOwner g < 1024 → (s.shadowDone g j status).out = s.out ++ [.hostWrite (s.ringOwner g)
      (s.reg64 (Reg.RING_CPL_BASE_LO g) + 16 * (s.cplProd g % s.ringSlots g)) (doneEntry j status s.epoch)]) := by
  have hSize : entrySize (s.ringKind g) = 16 := by rw [hKind]; rfl
  rw [State.shadowDone]
  refine ⟨?_, ?_, ?_, fun hOwner => ?_⟩
  · rw [writeCpl_ring (by exact hRun), ring_setRing_same]
  · exact writeCpl_cplProd (s := s.setRing g _) hRun _
  · exact descCons_writeCpl (s.setRing g _) g _
  · rw [← hSize]
    exact writeCpl_out_of_running (s := s.setRing g _) hRun _ hOwner

theorem shadowDone_pending (s : State) (g : Nat) (j : ShadowJob) (status : Nat) : (s.shadowDone g j status).pending = s.pending :=
  State.writeCpl_pending _ _ _

/-! ### SHADOW_COMPARE (R205, R207) -/

/-- The compare that a descriptor asks for, with the slots it may report in. -/
def newCompare (d : List Byte) (maxReport epoch : Nat) : ShadowJob :=
  { table := beAt d 0 1, maxReport := maxReport, slice := beAt d 2 2, tag := beAt d 4 4, next := beAt d 8 4, left := beAt d 12 4,
    addr := beAt d 16 8, epoch := epoch, found := 0, got := [], reading := false, failed := false }

/-- A ring has taken its head descriptor for a compare and reserved the slots of its reports. -/
def compareTaken (g : Nat) (j : ShadowJob) (s : State) : State :=
  (s.takeDesc g).setRing g { (s.takeDesc g).ring g with reserved := ((s.takeDesc g).ring g).reserved + j.maxReport, shadow := some j }

theorem compareTaken_ring (g : Nat) (j : ShadowJob) (s : State) :
    (compareTaken g j s).ring g =
      { s.ring g with pre := (s.ring g).pre.drop 1, reserved := (s.ring g).reserved + 1 + j.maxReport, shadow := some j } := by
  rw [compareTaken, ring_setRing_same, takeDesc_ring]

theorem compareTaken_regs (g : Nat) (j : ShadowJob) (s : State) : RegsBut [Reg.RING_IDX g] s (compareTaken g j s) := takeDesc_regs s g

theorem compareTaken_descCons (g : Nat) (j : ShadowJob) (s : State) : (compareTaken g j s).descCons g = (s.descCons g + 1) % 2 ^ 17 :=
  takeDesc_descCons s g

theorem compareTaken_epoch (g : Nat) (j : ShadowJob) (s : State) : (compareTaken g j s).epoch = s.epoch :=
  congrArg BitVec.toNat (compareTaken_regs g j s _ (by simp [Reg.FWH_EPOCH_CUR, Reg.RING_IDX]; omega))

theorem shadowCompare_idle {s : State} {g : Nat} (h : s.ringKind g ≠ rkShadow ∨ (s.ring g).shadow.isSome = true ∨ s.headDesc g = none) :
    shadowCompare g s = s := by
  rw [shadowCompare]
  split
  · rfl
  · next hReady =>
    have hNone : s.headDesc g = none := by tauto
    rw [hNone]

section
variable {s : State} {g : Nat} {d : List Byte} (hKind : s.ringKind g = rkShadow) (hFree : (s.ring g).shadow = none) (hHead : s.headDesc g = some d)
include hKind hFree hHead

theorem shadowCompare_waits (hFits : beAt d 1 1 + 1 ≤ s.ringSlots g) (hFew : s.freeSlots g < beAt d 1 1 + 1) : shadowCompare g s = s := by
  simp [shadowCompare, hKind, hFree, hHead, hFew, hFits.not_gt]

/-- A descriptor that can never have its slots reserves none. -/
theorem shadowCompare_never (h : s.ringSlots g < beAt d 1 1 + 1) :
    shadowCompare g s = (compareTaken g (newCompare d 0 s.epoch) s).shadowDone g (newCompare d 0 s.epoch) 0x04 := by
  simp [shadowCompare, hKind, hFree, hHead, h, compareTaken, newCompare]

theorem shadowCompare_takes (h : beAt d 1 1 + 1 ≤ s.freeSlots g) :
    shadowCompare g s = if shadowOk d then (compareTaken g (newCompare d (beAt d 1 1) s.epoch) s).shadowRead g
      else (compareTaken g (newCompare d (beAt d 1 1) s.epoch) s).shadowDone g (newCompare d (beAt d 1 1) s.epoch) 0x04 := by
  have hFits : ¬ s.ringSlots g < beAt d 1 1 + 1 := not_lt.2 (h.trans (Nat.sub_le _ _))
  cases hOk : shadowOk d <;> simp [shadowCompare, hKind, hFree, hHead, hFits, h.not_gt, hOk, compareTaken, newCompare]

end

/-- A compare that its descriptor does not allow leaves the reservations as they were and ends at once. -/
theorem compareRefused_shows {s : State} {g : Nat} (hKind : s.ringKind g = rkShadow) (hRun : s.ringState g = rsRunning) (hOwner : s.ringOwner g < 1024)
    (d : List Byte) (n : Nat) {t : State} (ht : t = (compareTaken g (newCompare d n s.epoch) s).shadowDone g (newCompare d n s.epoch) 0x04) :
    (t.ring g).shadow = none ∧ (t.ring g).reserved = (s.ring g).reserved ∧ (t.ring g).pre = (s.ring g).pre.drop 1 ∧
    t.descCons g = (s.descCons g + 1) % 2 ^ 17 ∧ t.cplProd g = (s.cplProd g + 1) % 2 ^ 17 ∧
    t.out = s.out ++ [.hostWrite (s.ringOwner g) (s.reg64 (Reg.RING_CPL_BASE_LO g) + 16 * (s.cplProd g % s.ringSlots g))
      (doneEntry (newCompare d n s.epoch) 0x04 s.epoch)] := by
  subst ht
  have hRing := compareTaken_ring g (newCompare d n s.epoch) s
  have hCons := compareTaken_descCons g (newCompare d n s.epoch) s
  have hEpoch := compareTaken_epoch g (newCompare d n s.epoch) s
  obtain ⟨hUKind, hUState, hUOwner, hUProd, hUSlots, hUBase⟩ :=
    place_of_regs (fun a _ hIdx => compareTaken_regs g (newCompare d n s.epoch) s a (by simpa using hIdx))
  obtain ⟨hTRing, hTProd, hTCons, hTOut⟩ := shadowDone_shows (hUKind.trans hKind) (hUState.trans hRun) (newCompare d n s.epoch) 0x04
  rw [hRing] at hTRing
  refine ⟨by rw [hTRing], ?_, by rw [hTRing], hTCons.trans hCons, by rw [hTProd, hUProd], ?_⟩
  · rw [hTRing]
    exact (by omega : (s.ring g).reserved + 1 + n - (n - min 0 n) - 1 = (s.ring g).reserved)
  · rw [hTOut (hUOwner.trans_lt hOwner), hUOwner, hUBase, hUProd, hUSlots, hEpoch]
    rfl

theorem shadowSize_pos (table : Nat) : 0 < shadowSize table := by
  unfold shadowSize
  split <;> decide

theorem left_pos_of_shadowOk {d : List Byte} (h : shadowOk d = true) : 1 ≤ beAt d 12 4 := by
  simp only [shadowOk, Bool.and_eq_true] at h
  obtain ⟨⟨⟨⟨⟨-, hLeft⟩, -⟩, -⟩, -⟩, -⟩ := h
  exact of_decide_eq_true hLeft

/-- A hart-owned ring's first read of a compare gets its bytes from the device memory at once (R365). -/
theorem shadowRead_of_hart {s : State} {g : Nat} {j : ShadowJob} (hJob : (s.ring g).shadow = some j) (hOwner : 1024 ≤ s.ringOwner g)
    (hReading : j.reading = false) (hFailed : j.failed = false) (hLeft : 1 ≤ j.left) (hGot : j.got = []) :
    ∃ l, l ≠ [] ∧ s.shadowRead g = s.setShadow g (some { j with got := l }) := by
  have hFn : s.ringFn g = none := if_neg hOwner.not_gt
  have hMax : s.ringReadMax g = 65536 := by rw [State.ringReadMax, hFn]
  have hMore : 0 < j.left * shadowSize j.table := Nat.mul_pos hLeft (shadowSize_pos _)
  have hRoom := Nat.mod_lt (j.addr + shadowSize j.table * j.next) (show 0 < 65536 by decide)
  refine ⟨s.ramBytes (j.addr + shadowSize j.table * j.next)
    (min (j.left * shadowSize j.table) (65536 - (j.addr + shadowSize j.table * j.next) % 65536)), ?_, ?_⟩
  · simp only [State.ramBytes, ne_eq, List.map_eq_nil_iff, List.range_eq_nil]
    omega
  · have hRead : s.shadowJob g = some j := hJob
    simp [State.shadowRead, hRead, hReading, hFailed, hFn, hMax, hGot, Nat.pos_iff_ne_zero.1 hLeft]

/-- A compare in order on a hart-owned ring has its first bytes when it is taken. -/
theorem compareTaken_read {s : State} {g : Nat} {d : List Byte} (hOk : shadowOk d = true) (hOwner : 1024 ≤ s.ringOwner g) :
    ∃ l, l ≠ [] ∧ (compareTaken g (newCompare d (beAt d 1 1) s.epoch) s).shadowRead g =
      (compareTaken g (newCompare d (beAt d 1 1) s.epoch) s).setShadow g (some { newCompare d (beAt d 1 1) s.epoch with got := l }) := by
  obtain ⟨-, -, hUOwner, -⟩ :=
    place_of_regs (fun a _ hIdx => compareTaken_regs g (newCompare d (beAt d 1 1) s.epoch) s a (by simpa using hIdx))
  exact shadowRead_of_hart (congrArg RingSt.shadow (compareTaken_ring _ _ s)) (hUOwner.symm ▸ hOwner) rfl rfl (left_pos_of_shadowOk hOk) rfl

theorem shadowCompare_completes (s : State) (g : BitVec 16) (d : List Byte) (hKind : s.ringKind g.toNat = rkShadow)
    (hFree : (s.ring g.toNat).shadow = none) (hHead : s.headDesc g.toNat = some d) :
    Completes (.shadowCompare g) s fun t =>
      (beAt d 1 1 + 1 ≤ s.ringSlots g.toNat → s.freeSlots g.toNat < beAt d 1 1 + 1 → t = s) ∧
      ((s.ringSlots g.toNat < beAt d 1 1 + 1 ∨ (shadowOk d = false ∧ beAt d 1 1 + 1 ≤ s.freeSlots g.toNat)) → s.ringOwner g.toNat < 1024 →
        (t.ring g.toNat).shadow = none ∧ (t.ring g.toNat).reserved = (s.ring g.toNat).reserved ∧ (t.ring g.toNat).pre = (s.ring g.toNat).pre.drop 1 ∧
        t.descCons g.toNat = (s.descCons g.toNat + 1) % 2 ^ 17 ∧ t.cplProd g.toNat = (s.cplProd g.toNat + 1) % 2 ^ 17 ∧
        t.out = s.out ++ [.hostWrite (s.ringOwner g.toNat) (s.reg64 (Reg.RING_CPL_BASE_LO g.toNat) + 16 * (s.cplProd g.toNat % s.ringSlots g.toNat))
          (beBytes 1 0x02 ++ beBytes 1 0x04 ++ beBytes 2 (beAt d 2 2) ++ beBytes 4 (beAt d 4 4) ++ beBytes 4 0 ++ beBytes 4 s.epoch)]) ∧
      (shadowOk d = true → beAt d 1 1 + 1 ≤ s.freeSlots g.toNat → 1024 ≤ s.ringOwner g.toNat →
        (t.ring g.toNat).reserved = (s.ring g.toNat).reserved + 1 + beAt d 1 1 ∧ t.out = s.out ∧
        (∃ j, (t.ring g.toNat).shadow = some j ∧ j.table = beAt d 0 1 ∧ j.left = beAt d 12 4 ∧ j.epoch = s.epoch ∧ j.found = 0 ∧ j.got ≠ [])) := by
  have hRun : s.ringState g.toNat = rsRunning := by
    by_contra hNot
    rw [State.headDesc, if_neg (fun h => hNot h.1)] at hHead
    exact absurd hHead nofun
  refine completes_of_cases (u := shadowCompare g.toNat s) rfl fun t ht => ⟨fun hFits hFew => ?_, fun hBad hOwner => ?_, fun hOk hRoom hOwner => ?_⟩
  · exact ht s (shadowCompare_waits hKind hFree hHead hFits hFew) rfl
  · obtain hNever | ⟨hField, hRoom⟩ := hBad
    · exact compareRefused_shows hKind hRun hOwner d 0 (ht _ (shadowCompare_never hKind hFree hHead hNever) (shadowDone_pending _ _ _ _))
    · have hEq := shadowCompare_takes hKind hFree hHead hRoom
      rw [hField, if_neg Bool.false_ne_true] at hEq
      exact compareRefused_shows hKind hRun hOwner d (beAt d 1 1) (ht _ hEq (shadowDone_pending _ _ _ _))
  · have hEq := shadowCompare_takes hKind hFree hHead hRoom
    rw [if_pos hOk] at hEq
    obtain ⟨l, hSome, hRead⟩ := compareTaken_read hOk hOwner
    rw [ht _ (hEq.trans hRead) rfl, State.setShadow, ring_setRing_same, compareTaken_ring]
    exact ⟨rfl, rfl, _, rfl, rfl, rfl, rfl, rfl, hSome⟩

/-! ### SHADOW_READ_RETURN (R206 to R208) -/

/-- With no data waiting a compare that has failed or has no entry left ends, and one that reads goes on. -/
theorem shadowReadReturn_eq {s : State} {g : Nat} {j : ShadowJob} (hJob : (s.ring g).shadow = some j) (hGot : j.got = []) :
    shadowReadReturn g s =
      if j.failed then (s.setShadow g (some j)).shadowDone g j 0x03
      else if j.left = 0 then
        (s.setShadow g (some j)).shadowDone g j (if s.epoch ≠ j.epoch then 0x01 else if j.maxReport < j.found then 0x02 else 0x00)
      else (s.setShadow g (some j)).shadowRead g := by
  have hRead : s.shadowJob g = some j := hJob
  simp only [shadowReadReturn, hRead, hGot, List.length_nil, Nat.zero_div, State.compareAll]
  rfl

theorem shadowReadReturn_completes (s : State) (g : BitVec 16) (j : ShadowJob) (hJob : (s.ring g.toNat).shadow = some j)
    (hOwner : s.ringOwner g.toNat < 1024) (hKind : s.ringKind g.toNat = rkShadow) (hRun : s.ringState g.toNat = rsRunning) (hGot : j.got = []) :
    Completes (.shadowReadReturn g) s fun t =>
      ((j.failed = true ∨ j.left = 0) → (t.ring g.toNat).shadow = none ∧
        t.out = s.out ++ [.hostWrite (s.ringOwner g.toNat) (s.reg64 (Reg.RING_CPL_BASE_LO g.toNat) + 16 * (s.cplProd g.toNat % s.ringSlots g.toNat))
          (beBytes 1 0x02 ++ beBytes 1 (if j.failed = true then 3 else if s.epoch ≠ j.epoch then 1 else if j.maxReport < j.found then 2 else 0) ++
            beBytes 2 j.slice ++ beBytes 4 j.tag ++ beBytes 4 j.found ++ beBytes 4 s.epoch)] ∧ t.cplProd g.toNat = (s.cplProd g.toNat + 1) % 2 ^ 17) ∧
      (j.failed = false → j.left ≠ 0 → j.reading = true → (t.ring g.toNat).shadow = some j ∧ t.out = s.out ∧ t.regs = s.regs) := by
  refine completes_of_cases (u := shadowReadReturn g.toNat s) rfl fun t ht => ⟨fun hEnds => ?_, fun hGood hMore hReading => ?_⟩
  · obtain ⟨hRing, hProd, -, hOut⟩ := shadowDone_shows (s := s.setShadow g.toNat (some j)) hKind hRun j
      (if j.failed = true then 3 else if s.epoch ≠ j.epoch then 1 else if j.maxReport < j.found then 2 else 0)
    have hEq : shadowReadReturn g.toNat s = (s.setShadow g.toNat (some j)).shadowDone g.toNat j
        (if j.failed = true then 3 else if s.epoch ≠ j.epoch then 1 else if j.maxReport < j.found then 2 else 0) := by
      rw [shadowReadReturn_eq hJob hGot]
      obtain hFailed | hLeft := hEnds
      · rw [if_pos hFailed, if_pos hFailed]
      · rw [if_pos hLeft, ← apply_ite (fun st => (s.setShadow g.toNat (some j)).shadowDone g.toNat j st)]
    rw [ht _ hEq (shadowDone_pending _ _ _ _)]
    exact ⟨congrArg RingSt.shadow hRing, hOut hOwner, hProd⟩
  · have hKept : (s.setShadow g.toNat (some j)).shadowJob g.toNat = some j := congrArg RingSt.shadow (ring_setRing_same s g.toNat _)
    have hEq : shadowReadReturn g.toNat s = s.setShadow g.toNat (some j) := by
      rw [shadowReadReturn_eq hJob hGot, hGood, if_neg Bool.false_ne_true, if_neg hMore, State.shadowRead, hKept]
      simp only [hReading, true_or, if_true]
    rw [ht _ hEq rfl]
    exact ⟨hKept, rfl, rfl⟩

/-- Settles O38: the DONE entry goes where the ring's registers place it, which the taking of the descriptor leaves. -/
theorem shadowCompares : Obligations.ShadowCompares := by
  unfold Obligations.ShadowCompares
  refine ⟨fun s g h => ?_, shadowCompare_completes, shadowReadReturn_completes, fun s g h => ?_⟩
  · exact congrArg (answer s) (shadowCompare_idle h)
  · have hEq : shadowReadReturn g.toNat s = s := by
      simp only [shadowReadReturn, State.shadowJob, h]
    exact congrArg (answer s) hEq

end Sys2Proof.Machine.LearningAging
end

section
/-! PROOF. Reads that the device issues: what a failed ring, the end of a read and the requests that wait leave (R357, R359 to R361, R372, R383). -/

namespace Sys2Proof.Machine.LearningAging
open DeviceOrganisation (RegsWithin foldl_rel regsBut_writeEntry mem_of_lfind)
open FreewheelCommit (ring_setRing_same ring_of_rings writeEntry_ring ringState_setRingState ringState_of_regs ringState_withEvLost ringState_bump ringState_writeEntry
  fld_setFld_disjoint)

/-! ### Rings -/

theorem ring_setRing_ne (s : State) {g x : Nat} (r : RingSt) (h : x ≠ g) : (s.setRing g r).ring x = s.ring x := KMap.get_set_ne _ _ _ _ _ _ h

theorem ring_setRing_self (s : State) (g x : Nat) : (s.setRing g (s.ring g)).ring x = s.ring x := by
  by_cases hx : x = g
  · rw [hx, ring_setRing_same]
  · exact ring_setRing_ne s _ hx

/-- What is true of every ring before a ring is set, and of the ring that is set, is true of every ring after it. -/
theorem forall_ring_setRing {s : State} {g : Nat} {r : RingSt} {P : RingSt → Prop} (h : ∀ x, P (s.ring x)) (hr : P r) (x : Nat) :
    P ((s.setRing g r).ring x) := by
  by_cases hx : x = g
  · rw [hx, ring_setRing_same]
    exact hr
  · rw [ring_setRing_ne s r hx]
    exact h x

/-- No ring waits for a tag. -/
def NoneWait (s : State) : Prop := ∀ x, (s.ring x).todo = []

theorem noneWait_of_all {s : State} (h : s.rings.l.all (fun r => r.2.todo.isEmpty) = true) : NoneWait s := by
  intro x
  rw [State.ring, KMap.get]
  cases hFind : lfind s.rings.l x with
  | none => rfl
  | some r => simpa using List.all_eq_true.1 h _ (mem_of_lfind hFind)

theorem NoneWait.of_rings {s t : State} (h : NoneWait s) (hRings : t.rings = s.rings) : NoneWait t := fun x => by
  rw [ring_of_rings hRings x]
  exact h x

/-! ### Tags -/

theorem lfind_setTag_same (s : State) (k : Nat) : lfind (s.setTag k .none).hif.tags.l k = none := by
  rw [State.setTag, KMap.set, if_pos rfl]
  exact lfind_ldel_same _ _

theorem lfind_setTag_ne (s : State) {k j : Nat} (x : TagSt) (h : j ≠ k) : lfind (s.setTag k x).hif.tags.l j = lfind s.hif.tags.l j := by
  rw [State.setTag, KMap.set]
  split
  · exact lfind_ldel_ne _ _ _ h
  · exact lfind_lins_ne _ _ _ _ h

theorem ne_of_lfind_none {α : Type} {l : List (Nat × α)} {k : Nat} (h : lfind l k = none) : ∀ e ∈ l, e.1 ≠ k := by
  induction l with
  | nil => exact nofun
  | cons e r ih =>
    obtain ⟨j, w⟩ := e
    rw [lfind] at h
    split at h
    · exact absurd h nofun
    · next hj => exact List.forall_mem_cons.2 ⟨hj, ih h⟩

theorem eq_nil_of_lfind {α : Type} {l : List (Nat × α)} (h : ∀ k, lfind l k = none) : l = [] := by
  cases l with
  | nil => rfl
  | cons e r => exact absurd rfl (ne_of_lfind_none (h e.1) e (by simp))

/-- Between two states only the outstanding tags differ, and none that was free is taken. -/
structure TagsFreed (s t : State) : Prop where
  frame : { t with hif := { t.hif with tags := s.hif.tags } } = s
  free : ∀ k, lfind s.hif.tags.l k = none → lfind t.hif.tags.l k = none

/-- Reads that are to be discarded keep their tags. -/
theorem tagsFreed_staleReads (s : State) (p : ReadFor → Bool) : TagsFreed s (s.staleReads p) := by
  have hStep (u : State) (y : Nat × TagSt) : { (if p y.2.use then u.setTag y.1 { y.2 with use := .stale } else u) with
      hif := { (if p y.2.use then u.setTag y.1 { y.2 with use := .stale } else u).hif with tags := u.hif.tags } } = u := by
    split <;> rfl
  constructor
  · exact foldl_rel (R := fun a b : State => { b with hif := { b.hif with tags := a.hif.tags } } = a) (fun _ => rfl)
      (fun a b c h k => by rw [← h, ← k]) _ (fun u y _ => hStep u y) s
  · intro k hFree
    refine foldl_rel (R := fun a b : State => lfind a.hif.tags.l k = none → lfind b.hif.tags.l k = none) (fun _ h => h)
      (fun _ _ _ h h' hk => h' (h hk)) _ (fun u y hy hu => ?_) s hFree
    dsimp only
    split
    · rw [lfind_setTag_ne u _ (ne_of_lfind_none hFree y hy).symm]
      exact hu
    · exact hu

/-! ### Events (R383) -/

/-- The registers outside the host ports' blocks (R362). -/
def besideHost (a : Nat) : Bool := decide (a < 0x1fc90000) || decide (0x1fd00000 ≤ a)

theorem partyPort_lt (p : Nat) : partyPort p < 4 := by
  rw [partyPort]
  split <;> omega

/-- The counts of dropped events lie below the host ports' blocks and the rings (R387). -/
theorem evtDrop_regs (p : Nat) : ∀ a ∈ (Ctr.RING_EVT_DROP (partyPort p)).regs, a < 0x1fc90000 := by
  have hPort := partyPort_lt p
  simp only [Ctr.regs, Ctr.RING_EVT_DROP, List.mem_cons, List.not_mem_nil, or_false, forall_eq_or_imp, forall_eq]
  omega

theorem besideHost_ringCtrl (g : Nat) : besideHost (Reg.RING_CTRL g) = true := by
  have hRings : 0x1fd00000 ≤ Reg.RING_CTRL g := by
    unfold Reg.RING_CTRL
    omega
  simp [besideHost, hRings]

/-- What an event leaves: the host functions and tags, the host ports' registers, the states of the rings, and of each ring all but UNREPORTED. -/
structure Raised (s t : State) : Prop where
  pending : t.pending = s.pending
  hif : t.hif = s.hif
  regs : RegsWithin besideHost s t
  ringState : ∀ x, t.ringState x = s.ringState x
  ring : ∀ x, ∃ b, t.ring x = { s.ring x with unreported := b }

theorem Raised.trans {s t u : State} (h : Raised s t) (k : Raised t u) : Raised s u where
  pending := k.pending.trans h.pending
  hif := k.hif.trans h.hif
  regs := h.regs.trans k.regs
  ringState x := (k.ringState x).trans (h.ringState x)
  ring x := by
    obtain ⟨_, hRing⟩ := h.ring x
    obtain ⟨b, hRing'⟩ := k.ring x
    exact ⟨b, by rw [hRing', hRing]⟩

/-- A count of lost events is none of these. -/
theorem raised_withEvLost (s : State) (e : KMap Nat) : Raised s { s with evLost := e } :=
  ⟨rfl, rfl, .evLost s e, ringState_withEvLost s e, fun x => ⟨(s.ring x).unreported, rfl⟩⟩

theorem raised_bump (s : State) {c : Ctr} (hLow : ∀ a ∈ c.regs, a < 0x1fc90000) : Raised s (s.bump c 1) where
  pending := State.bump_pending _ _ _
  hif := State.bump_hif _ _ _
  regs := (RegsWithin.refl _ s).bump (fun a ha => by simp [besideHost, hLow a ha])
  ringState := ringState_bump s c 1 (fun a ha => (hLow a ha).trans (by decide))
  ring x := ⟨(s.ring x).unreported, ring_of_rings (State.bump_rings s c 1) x⟩

theorem raised_writeEntry (s : State) (g : Nat) (d : List Byte) : Raised s (s.writeEntry g d) where
  pending := State.writeEntry_pending _ _ _
  hif := State.writeEntry_hif _ _ _
  regs := .of_but (regsBut_writeEntry s g d) (by simp [besideHost_ringCtrl])
  ringState := ringState_writeEntry s g d
  ring x := by
    by_cases hx : x = g
    · exact ⟨true, by rw [hx]; exact writeEntry_ring s g d⟩
    · exact ⟨(s.ring x).unreported, (ring_setRing_ne _ _ hx).trans (ring_of_rings (by simp) x)⟩

/-- An event is dropped and counted, or goes to a ring. -/
theorem raised_event (s : State) (p code die cl loc : Nat) (d : List Byte) : Raised s (s.event p code die cl loc d) := by
  have hDrop : Raised s (s.eventDrop p) := (raised_bump s (evtDrop_regs p)).trans (raised_withEvLost _ _)
  rw [State.event, State.eventAt]
  split
  · exact hDrop
  · split
    · exact hDrop
    · exact (raised_writeEntry s _ _).trans (raised_withEvLost _ _)

/-! ### The end of a read -/

/-- What the end of a read leaves: the quarantine and the functions, free tags, the host ports' registers, and rings without waiting requests. -/
structure ReadEnds (s t : State) : Prop where
  pending : t.pending = s.pending
  quar : t.hif.quar = s.hif.quar
  funcs : t.hif.funcs = s.hif.funcs
  free : ∀ k, lfind s.hif.tags.l k = none → lfind t.hif.tags.l k = none
  regs : RegsWithin besideHost s t
  wait : NoneWait s → NoneWait t

namespace ReadEnds
variable {s t u : State}

theorem refl (s : State) : ReadEnds s s := ⟨rfl, rfl, rfl, fun _ h => h, .refl _ s, fun h => h⟩

theorem trans (h : ReadEnds s t) (k : ReadEnds t u) : ReadEnds s u :=
  ⟨k.pending.trans h.pending, k.quar.trans h.quar, k.funcs.trans h.funcs, fun i hi => k.free i (h.free i hi), h.regs.trans k.regs,
    fun hs => k.wait (h.wait hs)⟩

theorem setRing {g : Nat} {r : RingSt} (h : (s.ring g).todo = [] → r.todo = []) : ReadEnds s (s.setRing g r) :=
  ⟨rfl, rfl, rfl, fun _ h => h, .of_regs rfl, fun hs => forall_ring_setRing (P := fun x => x.todo = []) hs (h (hs g))⟩

theorem setRingState (g st : Nat) : ReadEnds s (s.setRingState g st) :=
  ⟨rfl, rfl, rfl, fun _ h => h, RegsWithin.setFld (.refl _ s) (besideHost_ringCtrl g), fun h => h⟩

theorem of_tagsFreed (h : TagsFreed s t) : ReadEnds s t := by
  obtain ⟨hFrame, hFree⟩ := h
  exact ⟨(congrArg State.pending hFrame :), (congrArg (fun x => x.hif.quar) hFrame :), (congrArg (fun x => x.hif.funcs) hFrame :), hFree,
    .of_regs (congrArg State.regs hFrame :), fun hs => hs.of_rings (congrArg State.rings hFrame :)⟩

theorem of_raised (h : Raised s t) : ReadEnds s t := by
  refine ⟨h.pending, by rw [h.hif], by rw [h.hif], fun k hk => by rw [h.hif]; exact hk, h.regs, fun hs x => ?_⟩
  obtain ⟨b, hRing⟩ := h.ring x
  rw [hRing]
  exact hs x

end ReadEnds

/-- Reads of descriptors under way are discarded, and none counts as under way. -/
theorem dropFetch_shows (s : State) (g : Nat) : ReadEnds s (s.dropFetch g) ∧ (s.dropFetch g).regs = s.regs := by
  have hFreed := tagsFreed_staleReads s (fun u => match u with | .descFetch x _ _ => x == g | _ => false)
  exact ⟨(ReadEnds.of_tagsFreed hFreed).trans (.setRing (fun h => h)), (congrArg State.regs hFreed.frame :)⟩

/-- A ring that fails is in ERROR and holds no descriptor (R372). -/
theorem ringFails_shows (s : State) (g cause : Nat) :
    ReadEnds s (s.ringFails g cause) ∧ (s.ringFails g cause).ringState g = rsError ∧ ((s.ringFails g cause).ring g).pre = [] := by
  obtain ⟨hDrop, hRegs⟩ := dropFetch_shows (s.setRingState g rsError) g
  rw [State.ringFails]
  generalize (s.setRingState g rsError).dropFetch g = u at hDrop hRegs
  have hState : u.ringState g = rsError := by rw [ringState_of_regs hRegs, ringState_setRingState _ _ _ _ (by decide), if_pos rfl]
  have hEmpty : (u.setRing g { u.ring g with pre := [] }).ring g = { u.ring g with pre := [] } := ring_setRing_same u g _
  have hRaised := raised_event (u.setRing g { u.ring g with pre := [] }) (u.ringOwner g) 0x0900 1 63 g (beBytes 1 cause)
  obtain ⟨b, hRing⟩ := hRaised.ring g
  have hEmptied : ReadEnds u (u.setRing g { u.ring g with pre := [] }) := .setRing (fun h => h)
  refine ⟨((ReadEnds.setRingState g rsError).trans hDrop).trans (hEmptied.trans (.of_raised hRaised)), ?_, ?_⟩
  · exact (hRaised.ringState g).trans hState
  · rw [hEmpty] at hRing
    exact congrArg RingSt.pre hRing

/-- A TX frame that its read fails gives its status, unless it already has one (R375). -/
def frameFailed (i status : Nat) (x : TxFrame) : TxFrame := if x.first = i ∧ x.status = 0 then { x with status := status } else x

theorem txFail_shows (s : State) (g i status : Nat) :
    ReadEnds s (s.txFail g i status) ∧ ((s.txFail g i status).ring g).tx = (s.ring g).tx.map (frameFailed i status) :=
  ⟨.setRing (fun h => by simp [h]), congrArg RingSt.tx (ring_setRing_same s g _)⟩

/-- What a failed read gives by what it was for (R208, R360, R372, R375). -/
structure ReadFails (u : ReadFor) (timeout : Bool) (s t : State) : Prop where
  ends : ReadEnds s t
  fetch : ∀ g i c, u = .descFetch g i c → t.ringState g = rsError ∧ (t.ring g).pre = []
  tx : ∀ g i o, u = .txData g i o → (timeout = true ∨ (s.ring g).tx.any (fun x => x.first == i && x.reread) = false) →
    (t.ring g).tx = (s.ring g).tx.map (frameFailed i (if timeout then 1 else 2))
  shadow : ∀ g j, u = .shadow g → (s.ring g).shadow = some j → (t.ring g).shadow = some { j with failed := true, reading := false }

theorem readFails_readBad (s : State) (u : ReadFor) (timeout : Bool) : ReadFails u timeout s (s.readBad u timeout) := by
  cases u with
  | descFetch g i c =>
    obtain ⟨hEnds, hShows⟩ := ringFails_shows s g (if timeout then 0x01 else 0x02)
    exact ⟨hEnds, fun _ _ _ hUse => by cases hUse; exact hShows, nofun, nofun⟩
  | txData g i o =>
    obtain ⟨hEnds, hTx⟩ := txFail_shows s g i (if timeout then 0x01 else 0x02)
    rw [State.readBad]
    split
    · next hAgain =>
      refine ⟨.refl s, nofun, fun _ _ _ hUse hOnce => ?_, nofun⟩
      cases hUse
      simp only [Bool.and_eq_true, Bool.not_eq_true'] at hAgain
      simp [hAgain.1, hAgain.2] at hOnce
    · exact ⟨hEnds, nofun, fun _ _ _ hUse _ => by cases hUse; exact hTx, nofun⟩
  | shadow g =>
    refine ⟨.setRing (fun h => h), nofun, nofun, fun _ j hUse hJob => ?_⟩
    cases hUse
    rw [State.readBad, State.modShadow, ring_setRing_same, hJob]
    rfl
  | stale => exact ⟨.refl s, nofun, nofun, nofun⟩

/-! ### Drained functions, and requests that wait for a tag (R357, R361) -/

/-- What the settling of a function's drain leaves: tags, rings, what is presented outside, the errors recorded, and registers but the function's
status. -/
structure Settled (f : Nat) (s t : State) : Prop where
  pending : t.pending = s.pending
  out : t.out = s.out
  ring : ∀ x, t.ring x = s.ring x
  tags : t.hif.tags = s.hif.tags
  quar : t.hif.quar = s.hif.quar
  aer : ∀ x, (t.fn x).aer = (s.fn x).aer
  regs : RegsBut [Reg.HIF_FUNC_STATUS (f / 256) (f % 256)] s t
  ringState : ∀ x, t.ringState x = s.ringState x

theorem fn_setFn (s : State) (f : Nat) (y : FuncSt) (x : Nat) : (s.setFn f y).fn x = if x = f then y else s.fn x := KMap.get_set _ _ _ _ _

theorem settled_settleDrain (s : State) (f : Nat) : Settled f s (s.settleDrain f) := by
  rw [State.settleDrain]
  split
  · refine ⟨rfl, rfl, fun _ => rfl, rfl, rfl, fun x => ?_, RegsBut.setFlag _ (s.setFn f _) _ _ _ (by simp), fun x => ?_⟩
    · refine (congrArg FuncSt.aer (fn_setFn s f _ x)).trans ?_
      split
      · next hx => rw [hx]
      · rfl
    · exact fld_setFld_disjoint _ _ _ _ (by decide) (by decide) (by decide)
  · exact ⟨rfl, rfl, fun _ => rfl, rfl, rfl, fun _ => rfl, .rfl _ s, fun _ => rfl⟩

/-- Between two states only the sparse form of the rings may differ. -/
structure RingsSame (s t : State) : Prop where
  frame : { t with rings := s.rings } = s
  ring : ∀ x, t.ring x = s.ring x

theorem RingsSame.trans {s t u : State} (h : RingsSame s t) (k : RingsSame t u) : RingsSame s u :=
  ⟨by rw [← h.frame, ← k.frame], fun x => (k.ring x).trans (h.ring x)⟩

theorem RingsSame.pending {s t : State} (h : RingsSame s t) : t.pending = s.pending := (congrArg State.pending h.frame :)

theorem RingsSame.regs {s t : State} (h : RingsSame s t) : t.regs = s.regs := (congrArg State.regs h.frame :)

theorem RingsSame.out {s t : State} (h : RingsSame s t) : t.out = s.out := (congrArg State.out h.frame :)

theorem RingsSame.hif {s t : State} (h : RingsSame s t) : t.hif = s.hif := (congrArg State.hif h.frame :)

theorem NoneWait.of_ring {s t : State} (h : NoneWait s) (hRing : ∀ x, t.ring x = s.ring x) : NoneWait t := fun x => by
  rw [hRing x]
  exact h x

theorem ringsSame_pumpTx {s : State} (h : NoneWait s) (g : Nat) : RingsSame s (s.pumpTx g) := by
  have hSame : ({ s.ring g with todo := [] } : RingSt) = s.ring g := by rw [← h g]
  rw [State.pumpTx, h g, State.issueTodo, hSame]
  exact ⟨rfl, ring_setRing_self s g⟩

/-- With no request waiting the tags that become free are given to none. -/
theorem ringsSame_pumpPort {s : State} (h : NoneWait s) (p : Nat) : RingsSame s (s.pumpPort p) := by
  refine foldl_rel (R := fun a b : State => NoneWait a → RingsSame a b) (fun _ _ => ⟨rfl, fun _ => rfl⟩)
    (fun _ _ _ h k ha => (h ha).trans (k (ha.of_ring (h ha).ring))) _ (fun u g _ hu => ?_) s h
  split
  · split
    · exact ringsSame_pumpTx hu g
    · exact ⟨rfl, fun _ => rfl⟩
  · exact ⟨rfl, fun _ => rfl⟩

theorem settled_pumpPort {s : State} (h : NoneWait s) (f p : Nat) : Settled f s ((s.settleDrain f).pumpPort p) := by
  obtain ⟨hPending, hOut, hRing, hTags, hQuar, hAer, hRegs, hState⟩ := settled_settleDrain s f
  have hSame := ringsSame_pumpPort (h.of_ring hRing) p
  refine ⟨hSame.pending.trans hPending, hSame.out.trans hOut, fun x => (hSame.ring x).trans (hRing x), by rw [hSame.hif, hTags],
    by rw [hSame.hif, hQuar], fun x => ?_, hRegs.trans (fun a _ => ?_), fun x => (ringState_of_regs hSame.regs x).trans (hState x)⟩
  · rw [State.fn, hSame.hif, ← State.fn, hAer]
  · rw [State.reg, hSame.regs, ← State.reg]

/-! ### Errors of a function (R354) -/

theorem mem_aer_report (s : State) (f : Nat) (e : AerErr) (c : ErrClass) : e ∈ ((s.report f e c).fn f).aer := by
  have hEmit : (s.report f e c).fn f = (s.aer f e).fn f := rfl
  rw [hEmit, State.aer]
  split
  · assumption
  · rw [fn_setFn, if_pos rfl]
    simp

/-- A report leaves tags and quarantine. -/
theorem report_hif (s : State) (f : Nat) (e : AerErr) (c : ErrClass) :
    (s.report f e c).hif.tags = s.hif.tags ∧ (s.report f e c).hif.quar = s.hif.quar := by
  rw [State.report, State.aer]
  split <;> exact ⟨rfl, rfl⟩

end Sys2Proof.Machine.LearningAging
end

section
/-! PROOF. O33: the timeouts, completions and errors of the reads that the device issues, and tags in quarantine (R357, R359 to R361, R372, R375). -/

namespace Sys2Proof.Machine.LearningAging
open DeviceOrganisation (RegsWithin Counted.of_reg64 counted_bump)
open OtnFramer (CtrApart)
open FreewheelCommit (ring_setRing_same ring_of_rings completes_of_cases)

/-! ### COMPLETION_TIMEOUT (R359, R360) -/

/-- The counters of a host port's reads. -/
theorem ctrApart_hif (h : Nat) : ∀ c ∈ [Ctr.HIF_CPL_TIMEOUT h, Ctr.HIF_LATE_CPL h], CtrApart c := by
  simp only [List.mem_cons, List.not_mem_nil, or_false, forall_eq_or_imp, forall_eq, CtrApart, Ctr.HIF_CPL_TIMEOUT, Ctr.HIF_LATE_CPL]
  omega

/-- The registers that the end of a timed-out read may write: those outside the host ports' blocks, and the status of its function. -/
def readEndReg (f a : Nat) : Bool := besideHost a || a == Reg.HIF_FUNC_STATUS (f / 256) (f % 256)

/-- The count of timeouts is none of them, whatever function a tag names. -/
theorem cplTimeout_kept {h : Nat} (hh : h < 4) (f : Nat) : ∀ a ∈ (Ctr.HIF_CPL_TIMEOUT h).regs, readEndReg f a = false := by
  simp only [Ctr.regs, Ctr.HIF_CPL_TIMEOUT, List.mem_cons, List.not_mem_nil, or_false, forall_eq_or_imp, forall_eq, readEndReg, besideHost,
    Reg.HIF_FUNC_STATUS, Bool.or_eq_false_iff, decide_eq_false_iff_not, beq_eq_false_iff_ne]
  omega

/-- A read has timed out: its tag is in quarantine, and the timeout is recorded and counted. -/
def timedOut (h t : Nat) (x : TagSt) (s : State) : State :=
  ((s.quarantineTag (tagKey h t)).report x.func .completionTimeout .nonFatal).bump (Ctr.HIF_CPL_TIMEOUT h) 1

theorem timedOut_shows (h t : Nat) (x : TagSt) (s : State) :
    (timedOut h t x s).pending = s.pending ∧ (timedOut h t x s).rings = s.rings ∧ (timedOut h t x s).tag h t = none ∧
    KMap.get 0 (timedOut h t x s).hif.quar (tagKey h t) = s.mono + s.quarSpan ∧
    AerErr.completionTimeout ∈ ((timedOut h t x s).fn x.func).aer ∧ Counted (Ctr.HIF_CPL_TIMEOUT h) 1 s (timedOut h t x s) := by
  obtain ⟨hTags, hQuar⟩ := report_hif (s.quarantineTag (tagKey h t)) x.func .completionTimeout .nonFatal
  have hAer := mem_aer_report (s.quarantineTag (tagKey h t)) x.func .completionTimeout .nonFatal
  have hRegs : ((s.quarantineTag (tagKey h t)).report x.func .completionTimeout .nonFatal).regs = s.regs := State.report_regs _ _ _ _
  have hPending : ((s.quarantineTag (tagKey h t)).report x.func .completionTimeout .nonFatal).pending = s.pending := State.report_pending _ _ _ _
  have hRings : ((s.quarantineTag (tagKey h t)).report x.func .completionTimeout .nonFatal).rings = s.rings := State.report_rings _ _ _ _
  rw [timedOut]
  generalize (s.quarantineTag (tagKey h t)).report x.func .completionTimeout .nonFatal = u at *
  obtain ⟨hLo, hHi, hBit⟩ := ctrApart_hif h (Ctr.HIF_CPL_TIMEOUT h) (by simp)
  have hCount := counted_bump u _ 1 hLo hHi hBit
  refine ⟨by rw [State.bump_pending, hPending], by rw [State.bump_rings, hRings], ?_, ?_, ?_, ?_⟩
  · rw [State.tag, State.bump_hif, hTags]
    exact lfind_setTag_same s _
  · rw [State.bump_hif, hQuar]
    exact KMap.get_set_same _ _ _ _
  · rw [State.fn, State.bump_hif, ← State.fn]
    exact hAer
  · have hReg (a : Nat) : u.reg a = s.reg a := by rw [State.reg, hRegs, ← State.reg]
    exact Counted.of_reg64 hCount (by rw [State.reg64, hReg, hReg, ← State.reg64])

theorem completionTimeout_due {s : State} {h t : Nat} {x : TagSt} (hTag : s.tag h t = some x) (hDue : x.deadline ≤ s.mono) :
    completionTimeout h t s = ((timedOut h t x s).readBad x.use true).settleDrain x.func := by
  simp only [completionTimeout, hTag, if_neg hDue.not_gt, timedOut]

theorem completionTimeout_early {s : State} {h t : Nat} {x : TagSt} (hTag : s.tag h t = some x) (hEarly : s.mono < x.deadline) :
    completionTimeout h t s = s := by
  simp only [completionTimeout, hTag, if_pos hEarly]

theorem completionTimeout_free {s : State} {h t : Nat} (hTag : s.tag h t = none) : completionTimeout h t s = s := by
  simp only [completionTimeout, hTag]

theorem completionTimeout_completes (s : State) (h : Fin 4) (tag : BitVec 14) :
    Completes (.completionTimeout h tag) s fun t =>
      (s.tag h.val tag.toNat = none → t = s) ∧
      (∀ x, s.tag h.val tag.toNat = some x → s.mono < x.deadline → t = s) ∧
      (∀ x, s.tag h.val tag.toNat = some x → x.deadline ≤ s.mono →
        t.tag h.val tag.toNat = none ∧ KMap.get 0 t.hif.quar (tagKey h.val tag.toNat) = s.mono + s.quarSpan ∧
        AerErr.completionTimeout ∈ (t.fn x.func).aer ∧ Counted (Ctr.HIF_CPL_TIMEOUT h.val) 1 s t ∧
        (∀ g i c, x.use = .descFetch g i c → g < 65536 → t.ringState g = rsError ∧ (t.ring g).pre = []) ∧
        (∀ g i o, x.use = .txData g i o → (t.ring g).tx = (s.ring g).tx.map (fun y => if y.first = i ∧ y.status = 0 then { y with status := 1 } else y)) ∧
        (∀ g j, x.use = .shadow g → (s.ring g).shadow = some j → (t.ring g).shadow = some { j with failed := true, reading := false })) := by
  refine completes_of_cases (u := completionTimeout h.val tag.toNat s) rfl fun t ht =>
    ⟨fun hTag => ht s (completionTimeout_free hTag) rfl, fun x hTag hEarly => ht s (completionTimeout_early hTag hEarly) rfl, fun x hTag hDue => ?_⟩
  obtain ⟨hPending, hRings, hFree, hQuar, hAer, hCount⟩ := timedOut_shows h.val tag.toNat x s
  have hEq := completionTimeout_due hTag hDue
  generalize timedOut h.val tag.toNat x s = u at hPending hRings hFree hQuar hAer hCount hEq
  have hRing := ring_of_rings hRings
  obtain ⟨hEnds, hFetch, hTx, hShadow⟩ := readFails_readBad u x.use true
  have hSettled := settled_settleDrain (u.readBad x.use true) x.func
  rw [ht _ hEq (hSettled.pending.trans (hEnds.pending.trans hPending))]
  have hWithin : RegsWithin (readEndReg x.func) u ((u.readBad x.use true).settleDrain x.func) :=
    (hEnds.regs.mono (fun a ha => by simp [readEndReg, ha])).trans (.of_but hSettled.regs (by simp [readEndReg]))
  refine ⟨?_, ?_, ?_, hWithin.counted hCount (cplTimeout_kept h.isLt x.func), fun g i c hUse _ => ?_, fun g i o hUse => ?_, fun g j hUse hJob => ?_⟩
  · rw [State.tag, hSettled.tags]
    exact hEnds.free _ hFree
  · rw [hSettled.quar, hEnds.quar, hQuar]
  · rw [hSettled.aer, State.fn, hEnds.funcs, ← State.fn]
    exact hAer
  · rw [hSettled.ringState, hSettled.ring]
    exact hFetch g i c hUse
  · rw [hSettled.ring, hTx g i o hUse (.inl rfl), hRing]
    rfl
  · rw [hSettled.ring]
    exact hShadow g j hUse (by rw [hRing, hJob])

/-! ### READ_COMPLETION_RX of an outstanding read (R359, R360) -/

section
variable {s : State} {f t : Nat} {x : TagSt} (hTag : s.tag (f / 256) t = some x) (hFunc : x.func = f)
include hTag hFunc

theorem readCompletionRx_late (c : Cpl) (hLate : x.deadline ≤ s.mono) : readCompletionRx f t c s = s := by
  simp [readCompletionRx, hTag, hFunc, hLate]

variable (hEarly : s.mono < x.deadline)
include hEarly

theorem readCompletionRx_part {d : List Byte} (hPart : x.got.length + d.length < x.len) :
    readCompletionRx f t (.data d) s = s.setTag (tagKey (f / 256) t) { x with got := x.got ++ d } := by
  simp [readCompletionRx, hTag, hFunc, hEarly.not_ge, hPart]

theorem readCompletionRx_whole {d : List Byte} (hWhole : x.len ≤ x.got.length + d.length) :
    readCompletionRx f t (.data d) s =
      (((s.setTag (tagKey (f / 256) t) .none).readGood x.use ((x.got ++ d).take x.len)).settleDrain f).pumpPort (f / 256) := by
  simp [readCompletionRx, hTag, hFunc, hEarly.not_ge, hWhole.not_gt]

end

/-- A poisoned completion is an error of its function. -/
def failureNoted (f : Nat) (c : Cpl) (s : State) : State := if c = .poisoned then s.report f .poisonedTlp .nonFatal else s

theorem failureNoted_shows (f : Nat) (c : Cpl) (s : State) :
    (failureNoted f c s).pending = s.pending ∧ (failureNoted f c s).rings = s.rings ∧ (failureNoted f c s).hif.tags = s.hif.tags ∧
    (c = .poisoned → AerErr.poisonedTlp ∈ ((failureNoted f c s).fn f).aer) := by
  rw [failureNoted]
  split
  · exact ⟨State.report_pending _ _ _ _, State.report_rings _ _ _ _, (report_hif s f _ _).1, fun _ => mem_aer_report _ _ _ _⟩
  · next hNot => exact ⟨rfl, rfl, rfl, fun h => absurd h hNot⟩

/-- What an error completion gives by what the read was for (R360, R372, R375). -/
structure CompletionFails (f k : Nat) (c : Cpl) (use : ReadFor) (s t : State) : Prop where
  pending : t.pending = s.pending
  free : ∀ i, lfind (s.setTag k .none).hif.tags.l i = none → lfind t.hif.tags.l i = none
  poisoned : c = .poisoned → AerErr.poisonedTlp ∈ (t.fn f).aer
  fetch : ∀ g i n, use = .descFetch g i n → t.ringState g = rsError ∧ (t.ring g).pre = []
  tx : ∀ g i o, use = .txData g i o → (s.ring g).tx.any (fun y => y.first == i && y.reread) = false →
    (t.ring g).tx = (s.ring g).tx.map (frameFailed i 2)

theorem readCompletionRx_fails {s : State} {f t : Nat} {x : TagSt} {c : Cpl} (hTag : s.tag (f / 256) t = some x) (hFunc : x.func = f)
    (hEarly : s.mono < x.deadline) (hBad : c = .unsupported ∨ c = .abort ∨ c = .poisoned) (hWait : NoneWait s) :
    CompletionFails f (tagKey (f / 256) t) c x.use s (readCompletionRx f t c s) := by
  have hEq : readCompletionRx f t c s =
      (((failureNoted f c (s.setTag (tagKey (f / 256) t) .none)).readBad x.use false).settleDrain f).pumpPort (f / 256) := by
    obtain rfl | rfl | rfl := hBad <;> simp [readCompletionRx, hTag, hFunc, hEarly.not_ge, failureNoted]
  obtain ⟨hPending, hRings, hTags, hPoisoned⟩ := failureNoted_shows f c (s.setTag (tagKey (f / 256) t) .none)
  rw [hEq]
  generalize failureNoted f c (s.setTag (tagKey (f / 256) t) .none) = u at *
  obtain ⟨hEnds, hFetch, hTx, -⟩ := readFails_readBad u x.use false
  have hSettled := settled_pumpPort (hEnds.wait (hWait.of_rings hRings)) f (f / 256)
  have hRing (g : Nat) : u.ring g = s.ring g := ring_of_rings hRings g
  exact {
    pending := hSettled.pending.trans (hEnds.pending.trans hPending)
    free i hi := by
      rw [hSettled.tags]
      exact hEnds.free i (by rw [hTags]; exact hi)
    poisoned hc := by
      rw [hSettled.aer, State.fn, hEnds.funcs, ← State.fn]
      exact hPoisoned hc
    fetch g i n hUse := by
      rw [hSettled.ringState, hSettled.ring]
      exact hFetch g i n hUse
    tx g i o hUse hOnce := by
      rw [hSettled.ring, hTx g i o hUse (.inr (by rw [hRing]; exact hOnce)), hRing]
      rfl }

theorem lfind_setTag_data (s : State) (k : Nat) {x : TagSt} (h : x.len ≠ 0) : lfind (s.setTag k x).hif.tags.l k = some x := by
  have hSome : x ≠ .none := fun hx => h (congrArg TagSt.len hx)
  rw [State.setTag, KMap.set, if_neg hSome]
  exact lfind_lins_same _ _ _

theorem readCompletionRx_data_completes (s : State) (f : Fin 1024) (tag : BitVec 14) (x : TagSt) (d : List (BitVec 8))
    (hTag : s.tag (f.val / 256) tag.toNat = some x) (hFunc : x.func = f.val) :
    Completes (.readCompletionRx f tag (.data d)) s fun t =>
      (x.deadline ≤ s.mono → t = s) ∧
      (s.mono < x.deadline → x.got.length + d.length < x.len → t.tag (f.val / 256) tag.toNat = some { x with got := x.got ++ d } ∧
        { t with hif := { t.hif with tags := s.hif.tags } } = s) ∧
      (∀ g i o, s.mono < x.deadline → x.len ≤ x.got.length + d.length → x.use = .txData g i o → s.rings.l.all (fun r => r.2.todo.isEmpty) = true →
        t.tag (f.val / 256) tag.toNat = none ∧ t.out = s.out ∧
        (t.ring g).tx = (s.ring g).tx.map (fun y =>
          if y.first = i ∧ !y.reread then { y with data := KMap.set [] y.data o ((x.got ++ d).take x.len) } else y)) := by
  refine completes_of_cases (u := readCompletionRx f.val tag.toNat (.data d) s) rfl fun t ht =>
    ⟨fun hLate => ht s (readCompletionRx_late hTag hFunc _ hLate) rfl, fun hEarly hPart => ?_, fun g i o hEarly hWhole hUse hIdle => ?_⟩
  · rw [ht _ (readCompletionRx_part hTag hFunc hEarly hPart) rfl]
    exact ⟨lfind_setTag_data s _ (show x.len ≠ 0 by omega), rfl⟩
  · have hWait : NoneWait ((s.setTag (tagKey (f.val / 256) tag.toNat) .none).txData g i o ((x.got ++ d).take x.len)) :=
      forall_ring_setRing (P := fun r => r.todo = []) (noneWait_of_all hIdle) (noneWait_of_all hIdle g)
    have hSettled := settled_pumpPort hWait f.val (f.val / 256)
    have hEq := readCompletionRx_whole hTag hFunc hEarly hWhole
    rw [hUse, State.readGood] at hEq
    rw [ht _ hEq hSettled.pending]
    refine ⟨?_, hSettled.out, ?_⟩
    · rw [State.tag, hSettled.tags]
      exact lfind_setTag_same s _
    · rw [hSettled.ring, State.txData, ring_setRing_same]
      rfl

theorem readCompletionRx_error_completes (s : State) (f : Fin 1024) (tag : BitVec 14) (x : TagSt) (c : Cpl)
    (hTag : s.tag (f.val / 256) tag.toNat = some x) (hFunc : x.func = f.val) (hEarly : s.mono < x.deadline)
    (hBad : c = .unsupported ∨ c = .abort ∨ c = .poisoned) (hIdle : s.rings.l.all (fun r => r.2.todo.isEmpty) = true) :
    Completes (.readCompletionRx f tag c) s fun t => t.tag (f.val / 256) tag.toNat = none ∧
      (c = .poisoned → AerErr.poisonedTlp ∈ (t.fn f.val).aer) ∧
      (∀ g i n, x.use = .descFetch g i n → g < 65536 → t.ringState g = rsError ∧ (t.ring g).pre = []) ∧
      (∀ g i o, x.use = .txData g i o → (s.ring g).tx.any (fun y => y.first == i && y.reread) = false →
        (t.ring g).tx = (s.ring g).tx.map (fun y => if y.first = i ∧ y.status = 0 then { y with status := 2 } else y)) := by
  obtain ⟨hPending, hFree, hPoisoned, hFetch, hTx⟩ := readCompletionRx_fails hTag hFunc hEarly hBad (noneWait_of_all hIdle)
  refine completes_of_cases (u := readCompletionRx f.val tag.toNat c s) rfl fun t ht => ?_
  rw [ht _ rfl hPending]
  exact ⟨hFree _ (lfind_setTag_same s _), hPoisoned, fun g i n hUse _ => hFetch g i n hUse, hTx⟩

/-! ### Completions without an outstanding read, and tags in quarantine (R361) -/

theorem lfind_setQuar_zero (s : State) (k : Nat) : lfind (s.setQuar k 0).hif.quar.l k = none := by
  rw [State.setQuar, KMap.set, if_pos rfl]
  exact lfind_ldel_same _ _

theorem readCompletionRx_unexpected {s : State} {f t : Nat} (hTag : s.tag (f / 256) t = none)
    (hQuar : lfind s.hif.quar.l (tagKey (f / 256) t) = none) (c : Cpl) :
    readCompletionRx f t c s = s.report f .unexpectedCompletion .nonFatal := by
  simp only [readCompletionRx, hTag, hQuar]

/-- A late completion frees its tag and is counted. -/
def lateCounted (p k : Nat) (s : State) : State := (s.setQuar k 0).bump (Ctr.HIF_LATE_CPL p) 1

theorem lateCounted_shows (p k : Nat) (s : State) :
    (lateCounted p k s).pending = s.pending ∧ (lateCounted p k s).rings = s.rings ∧ (lateCounted p k s).out = s.out ∧
    (lateCounted p k s).hif = (s.setQuar k 0).hif ∧ Counted (Ctr.HIF_LATE_CPL p) 1 s (lateCounted p k s) ∧
    RegsBut (Ctr.HIF_LATE_CPL p).regs s (lateCounted p k s) := by
  obtain ⟨hLo, hHi, hBit⟩ := ctrApart_hif p (Ctr.HIF_LATE_CPL p) (by simp)
  have hKept : RegsBut (Ctr.HIF_LATE_CPL p).regs s (s.setQuar k 0) := fun _ _ => rfl
  exact ⟨State.bump_pending _ _ _, State.bump_rings _ _ _, State.bump_out _ _ _, State.bump_hif _ _ _,
    Counted.of_reg64 (counted_bump (s.setQuar k 0) _ 1 hLo hHi hBit) rfl, hKept.trans (.bump _ _ _)⟩

theorem readCompletionRx_quarantined {s : State} {f t e : Nat} (hTag : s.tag (f / 256) t = none)
    (hQuar : lfind s.hif.quar.l (tagKey (f / 256) t) = some e) (c : Cpl) :
    readCompletionRx f t c s = (lateCounted (f / 256) (tagKey (f / 256) t) s).pumpPort (f / 256) := by
  simp only [readCompletionRx, hTag, hQuar, lateCounted]

theorem readCompletionRx_free_completes (s : State) (f : Fin 1024) (tag : BitVec 14) (c : Cpl) (hTag : s.tag (f.val / 256) tag.toNat = none) :
    Completes (.readCompletionRx f tag c) s fun t =>
      (lfind s.hif.quar.l (tagKey (f.val / 256) tag.toNat) = none →
        t.out = s.out ++ [.errMsg f.val .nonFatal] ∧ AerErr.unexpectedCompletion ∈ (t.fn f.val).aer ∧ t.regs = s.regs) ∧
      (∀ e, lfind s.hif.quar.l (tagKey (f.val / 256) tag.toNat) = some e → s.rings.l.all (fun r => r.2.todo.isEmpty) = true →
        lfind t.hif.quar.l (tagKey (f.val / 256) tag.toNat) = none ∧ Counted (Ctr.HIF_LATE_CPL (f.val / 256)) 1 s t ∧
        RegsBut (Ctr.HIF_LATE_CPL (f.val / 256)).regs s t ∧ t.out = s.out ∧ t.hif.funcs = s.hif.funcs) := by
  refine completes_of_cases (u := readCompletionRx f.val tag.toNat c s) rfl fun t ht => ⟨fun hQuar => ?_, fun e hQuar hIdle => ?_⟩
  · rw [ht _ (readCompletionRx_unexpected hTag hQuar c) (State.report_pending _ _ _ _)]
    exact ⟨by simp [State.report], mem_aer_report _ _ _ _, State.report_regs _ _ _ _⟩
  · have hEq := readCompletionRx_quarantined hTag hQuar c
    obtain ⟨hPending, hRings, hOut, hHif, hCount, hRegs⟩ := lateCounted_shows (f.val / 256) (tagKey (f.val / 256) tag.toNat) s
    have hSame := ringsSame_pumpPort ((noneWait_of_all hIdle).of_rings hRings) (f.val / 256)
    have hKept : RegsWithin (fun _ => false) _ _ := .of_regs hSame.regs
    rw [ht _ hEq (hSame.pending.trans hPending), hSame.hif, hHif]
    exact ⟨lfind_setQuar_zero s _, hKept.counted hCount (fun _ _ => rfl), hRegs.trans (fun a _ => hKept a rfl), hSame.out.trans hOut, rfl⟩

theorem tagQuarantineExpire_completes (s : State) (h : Fin 4) (tag : BitVec 14) (e : Nat)
    (hQuar : lfind s.hif.quar.l (tagKey h.val tag.toNat) = some e) :
    Completes (.tagQuarantineExpire h tag) s fun t =>
      (s.mono < e → t = s) ∧
      (e ≤ s.mono → s.rings.l.all (fun r => r.2.todo.isEmpty) = true →
        lfind t.hif.quar.l (tagKey h.val tag.toNat) = none ∧ t.regs = s.regs ∧ t.out = s.out ∧ t.hif.tags = s.hif.tags) := by
  have hEq : tagQuarantineExpire h.val tag.toNat s = if e ≤ s.mono then (s.setQuar (tagKey h.val tag.toNat) 0).pumpPort h.val else s := by
    simp only [tagQuarantineExpire, hQuar]
  refine completes_of_cases (u := tagQuarantineExpire h.val tag.toNat s) rfl fun t ht => ⟨fun hEarly => ?_, fun hOver hIdle => ?_⟩
  · rw [if_neg hEarly.not_ge] at hEq
    exact ht s hEq rfl
  · rw [if_pos hOver] at hEq
    have hWait : NoneWait (s.setQuar (tagKey h.val tag.toNat) 0) := (noneWait_of_all hIdle).of_rings rfl
    have hSame := ringsSame_pumpPort hWait h.val
    rw [ht _ hEq hSame.pending, hSame.hif]
    exact ⟨lfind_setQuar_zero s _, hSame.regs, hSame.out, rfl⟩

/-! ### RING_ERROR (R372) -/

theorem ringError_idle {s : State} (h : s.hif.tags.l = []) (g : Nat) (b : Bool) : ringError g b s = s := by
  simp only [ringError, h, List.find?_nil]

theorem ringError_completes (s : State) (g : BitVec 16) (tag : BitVec 14) (x : TagSt) (i c : Nat) (hUse : x.use = .descFetch g.toNat i c)
    (_ : x.func < 1024) (hEarly : s.mono < x.deadline) (hTags : s.hif.tags.l = [(tagKey (x.func / 256) tag.toNat, x)])
    (hIdle : s.rings.l.all (fun r => r.2.todo.isEmpty) = true) :
    Completes (.ringError g false) s fun t => t.ringState g.toNat = rsError ∧ (t.ring g.toNat).pre = [] ∧ t.hif.tags.l = [] := by
  have hKey : tagKey (x.func / 256) tag.toNat % 16384 = tag.toNat := by
    have hTag := tag.isLt
    rw [tagKey]
    omega
  have hEq : ringError g.toNat false s = readCompletionRx x.func tag.toNat .abort s := by
    simp [ringError, hTags, hUse, hKey]
  have hTag : s.tag (x.func / 256) tag.toNat = some x := by
    rw [State.tag, hTags]
    exact if_pos rfl
  obtain ⟨hPending, hFree, -, hFetch, -⟩ := readCompletionRx_fails hTag rfl hEarly (.inr (.inl rfl)) (noneWait_of_all hIdle)
  have hNone (k : Nat) : lfind (s.setTag (tagKey (x.func / 256) tag.toNat) .none).hif.tags.l k = none := by
    rw [State.setTag, KMap.set, if_pos rfl, hTags]
    simp [ldel, lfind]
  obtain ⟨hState, hPre⟩ := hFetch g.toNat i c hUse
  refine completes_of_cases (u := ringError g.toNat false s) rfl fun t ht => ?_
  rw [ht _ hEq hPending]
  exact ⟨hState, hPre, eq_nil_of_lfind fun k => hFree k (hNone k)⟩

/-- Settles O33: the end of a read takes no free tag and writes no register of the host ports, so the quarantine and the count stand. -/
theorem deviceReads : Obligations.DeviceReads := by
  unfold Obligations.DeviceReads
  exact ⟨completionTimeout_completes, readCompletionRx_data_completes, readCompletionRx_error_completes, readCompletionRx_free_completes,
    tagQuarantineExpire_completes, ringError_completes, fun s g b h => congrArg (answer s) (ringError_idle h g.toNat b)⟩

end Sys2Proof.Machine.LearningAging
end

section
/-! PROOF. Learning: what counts and reports leave, the live entry of a key, and the records of the flap tracker (R89, R170, R190, R194). -/

namespace Sys2Proof.Machine.LearningAging
open DeviceOrganisation (Reported eventReg regsWithin_ownerEvent)
open FreewheelCommit (slot_setSlot_same)
open ForwardingTables (slot_setSlot_other slot_clearSlot_same learnMask_shows)

/-! ### Counters that share an overflow register (R89) -/

/-- A count stands while another counter rises, in whose overflow register it may have a bit. -/
theorem counted_bump_other {c c' : Ctr} {n m : Nat} {s t : State} (h : Counted c n s t)
    (hLo : ∀ a ∈ [c.lo, c.lo + 4], a ∉ c'.regs) (hOvf : c.ovf ≠ c'.lo ∧ c.ovf ≠ c'.lo + 4) : Counted c n s (t.bump c' m) := by
  obtain ⟨hCount, hBit⟩ := h
  refine ⟨?_, fun hWrap => ?_⟩
  · rw [State.reg64, RegsBut.bump t c' m _ (hLo _ (by simp)), RegsBut.bump t c' m _ (hLo _ (by simp)), ← State.reg64, hCount]
  · have hPair (v : Nat) : (t.setReg64 c'.lo v).reg c.ovf = t.reg c.ovf := by
      rw [State.setReg64, State.reg_setReg_ne _ _ _ _ hOvf.2, State.reg_setReg_ne _ _ _ _ hOvf.1]
    rw [State.bump, State.noteCount_reg, State.setCtr]
    split
    · rw [hPair, hBit hWrap]
    · rw [State.reg_setReg]
      split
      · next hSame => rw [BitVec.getLsbD_or, ← hSame, hPair, hBit hWrap, Bool.true_or]
      · rw [hPair, hBit hWrap]

/-! ### Counts and reports of the engine -/

/-- What counts and reports of the engine leave: the queue of commands, the tables, the engine's own memory. -/
structure EngineKept (s t : State) : Prop where
  pending : t.pending = s.pending
  tab : t.tab = s.tab
  lrn : t.lrn = s.lrn

namespace EngineKept
variable {s t u : State}

theorem refl (s : State) : EngineKept s s := ⟨rfl, rfl, rfl⟩

theorem trans (h : EngineKept s t) (k : EngineKept t u) : EngineKept s u :=
  ⟨k.pending.trans h.pending, k.tab.trans h.tab, k.lrn.trans h.lrn⟩

theorem bump (c : Ctr) (n : Nat) : EngineKept s (s.bump c n) := ⟨State.bump_pending _ _ _, State.bump_tab _ _ _, State.bump_lrn _ _ _⟩

theorem of_reported (h : Reported s t) : EngineKept s t := ⟨h.pending, h.tab, h.lrn⟩

theorem learnMask (bit : Nat) (k : ExmKey) (old new : Nat) : EngineKept s (s.learnMask bit k old new) := .of_reported (learnMask_shows s bit k old new).1

theorem learnNote (code : Nat) (k : ExmKey) (old new : Nat) : EngineKept s (s.learnNote code k old new) := .of_reported (.ownerEvent (.refl s))

end EngineKept

theorem counted_learnMask {c : Ctr} {s t : State} (h : Counted c 1 s t) (hc : ∀ a ∈ c.regs, eventReg a = false) (bit : Nat) (k : ExmKey)
    (old new : Nat) : Counted c 1 s (t.learnMask bit k old new) := (learnMask_shows t bit k old new).2.counted h hc

theorem counted_learnNote {c : Ctr} {s t : State} (h : Counted c 1 s t) (hc : ∀ a ∈ c.regs, eventReg a = false) (code : Nat) (k : ExmKey)
    (old new : Nat) : Counted c 1 s (t.learnNote code k old new) := (regsWithin_ownerEvent t _ _ _ _ _).counted h hc

theorem counted_setRec {c : Ctr} {s t : State} (h : Counted c 1 s t) (r : FlapRec) : Counted c 1 s (t.setRec r) := by
  rw [State.setRec]
  split <;> exact h

theorem counted_setSlot {c : Ctr} {s t : State} (h : Counted c 1 s t) (i : Nat) (e : ExmEntry) : Counted c 1 s (t.setSlot i e) := h

/-! ### The live entry of a key (R170) -/

/-- The live entry of a key in one slot. -/
def liveAt (s : State) (k : ExmKey) (j : Nat) : Option (Nat × ExmEntry) :=
  (s.slot j).bind (fun e => if e.key = k ∧ e.batch = none ∧ e.death = none then some (j, e) else none)

theorem exmLive_eq (s : State) (k : ExmKey) : s.exmLive k = (s.candidates k).findSome? (liveAt s k) := by
  rw [State.exmLive]
  congr 1
  funext j
  rw [liveAt]
  cases s.slot j <;> rfl

theorem liveAt_eq_some {s : State} {k : ExmKey} {j i : Nat} {e : ExmEntry} :
    liveAt s k j = some (i, e) ↔ j = i ∧ s.slot j = some e ∧ e.key = k ∧ e.batch = none ∧ e.death = none := by
  rw [liveAt]
  cases s.slot j with
  | none => simp
  | some x =>
    simp only [Option.bind_some, Option.ite_none_right_eq_some, Option.some.injEq, Prod.mk.injEq]
    constructor
    · rintro ⟨hLive, rfl, rfl⟩
      exact ⟨rfl, rfl, hLive⟩
    · rintro ⟨rfl, rfl, hLive⟩
      exact ⟨hLive, rfl, rfl⟩

theorem slot_of_exmLive {s : State} {k : ExmKey} {i : Nat} {e : ExmEntry} (h : s.exmLive k = some (i, e)) :
    s.slot i = some e ∧ e.key = k ∧ e.batch = none ∧ e.death = none := by
  rw [exmLive_eq] at h
  obtain ⟨j, -, hj⟩ := List.exists_of_findSome?_eq_some h
  obtain ⟨rfl, hLive⟩ := liveAt_eq_some.1 hj
  exact hLive

theorem exmLive_of_tab {s t : State} (h : t.tab = s.tab) (k : ExmKey) : t.exmLive k = s.exmLive k := by
  have hSlot (j : Nat) : t.slot j = s.slot j := by rw [State.slot, h, ← State.slot]
  have hBucket (b : Bool) : t.bucket b k = s.bucket b k := by rw [State.bucket, h, ← State.bucket]
  have hCandidates : t.candidates k = s.candidates k := by simp only [State.candidates, hBucket]
  have hAt : liveAt t k = liveAt s k := funext fun j => by rw [liveAt, hSlot, ← liveAt]
  rw [exmLive_eq, exmLive_eq, hCandidates, hAt]

/-- The live entry of a key stays where it is when it is changed in place. -/
theorem exmLive_setSlot_same {s : State} {k : ExmKey} {i : Nat} {e x : ExmEntry} (h : s.exmLive k = some (i, e)) (hFresh : x ≠ .free)
    (hKey : x.key = e.key) (hBatch : x.batch = e.batch) (hDeath : x.death = e.death) : (s.setSlot i x).exmLive k = some (i, x) := by
  obtain ⟨hSlot, hk, hb, hd⟩ := slot_of_exmLive h
  have hAt : liveAt (s.setSlot i x) k i = some (i, x) :=
    liveAt_eq_some.2 ⟨rfl, slot_setSlot_same s i hFresh, hKey.trans hk, hBatch.trans hb, hDeath.trans hd⟩
  have hOld : liveAt s k i = some (i, e) := liveAt_eq_some.2 ⟨rfl, hSlot, hk, hb, hd⟩
  have hOther (j : Nat) (hj : j ≠ i) : liveAt (s.setSlot i x) k j = liveAt s k j := by rw [liveAt, slot_setSlot_other s x hj, ← liveAt]
  rw [exmLive_eq] at h ⊢
  have hCandidates : (s.setSlot i x).candidates k = s.candidates k := rfl
  rw [hCandidates]
  generalize s.candidates k = l at h
  induction l with
  | nil => exact absurd h nofun
  | cons j l ih =>
    rw [List.findSome?_cons] at h ⊢
    by_cases hj : j = i
    · rw [hj, hAt]
    · rw [hOther j hj]
      cases hFirst : liveAt s k j with
      | none => rw [hFirst] at h; exact ih h
      | some y =>
        rw [hFirst] at h
        cases h
        exact absurd (liveAt_eq_some.1 hFirst).1 hj

/-- The live entry of a key stays when an entry of another key is changed in place. -/
theorem exmLive_setSlot_other {s : State} {k : ExmKey} {i : Nat} {e x : ExmEntry} (hSlot : s.slot i = some e) (hOld : e.key ≠ k) (hNew : x.key ≠ k) :
    (s.setSlot i x).exmLive k = s.exmLive k := by
  have hCandidates : (s.setSlot i x).candidates k = s.candidates k := rfl
  have hAt : liveAt (s.setSlot i x) k = liveAt s k := by
    funext j
    by_cases hj : j = i
    · subst hj
      have hNone : liveAt s k j = none := by
        rw [liveAt, hSlot]
        exact if_neg (fun h => hOld h.1)
      rw [hNone, liveAt]
      by_cases hFree : x = .free
      · rw [hFree, ← State.clearSlot, slot_clearSlot_same]
        rfl
      · rw [slot_setSlot_same s j hFree]
        exact if_neg (fun h => hNew h.1)
    · rw [liveAt, slot_setSlot_other s x hj, ← liveAt]
  rw [exmLive_eq, exmLive_eq, hCandidates, hAt]

/-! ### Records (R194) -/

theorem setSlot_lrn (s : State) (i : Nat) (e : ExmEntry) : (s.setSlot i e).lrn = s.lrn := rfl

theorem flapRec_of_lrn {s t : State} (h : t.lrn = s.lrn) (k : ExmKey) : t.flapRec k = s.flapRec k := by rw [State.flapRec, h, ← State.flapRec]

theorem mem_of_flapRec {s : State} {k : ExmKey} {r : FlapRec} (h : s.flapRec k = some r) : r ∈ s.lrn.recs ∧ r.key = k :=
  ⟨List.mem_of_find?_eq_some h, by simpa using List.find?_some h⟩

theorem recs_setRec_new {s : State} {r : FlapRec} (h : s.flapRec r.key = none) : s.setRec r = { s with lrn := { s.lrn with recs := s.lrn.recs ++ [r] } } := by
  rw [State.setRec, h]
  rfl

/-- A key reads the record that is set. -/
theorem flapRec_setRec (s : State) (r : FlapRec) : (s.setRec r).flapRec r.key = some r := by
  rw [State.setRec]
  cases hOld : s.flapRec r.key with
  | none =>
    rw [State.flapRec] at hOld
    simp [State.flapRec, List.find?_append, hOld]
  | some x =>
    have hSame : (fun y : FlapRec => y.key == r.key) ∘ (fun y => if y.key = r.key then r else y) = fun y => y.key == r.key := by
      funext y
      by_cases hy : y.key = r.key <;> simp [hy]
    have hKey := (mem_of_flapRec hOld).2
    rw [State.flapRec] at hOld
    simp only [Option.isSome_some, if_true, State.flapRec, List.find?_map, hSame, hOld, Option.map_some, if_pos hKey]

theorem flapRec_dropRec_same (s : State) (k : ExmKey) : (s.dropRec k).flapRec k = none := by
  rw [State.flapRec, List.find?_eq_none]
  intro r hr
  simpa [State.dropRec] using (List.mem_filter.1 hr).2

/-- A key without a record has none when another record is dropped. -/
theorem flapRec_dropRec_of_none {s : State} {k : ExmKey} (h : s.flapRec k = none) (k' : ExmKey) : (s.dropRec k').flapRec k = none := by
  rw [State.flapRec, List.find?_eq_none] at h ⊢
  exact fun r hr => h r (List.mem_filter.1 hr).1

theorem setRec_kept (s : State) (r : FlapRec) :
    (s.setRec r).pending = s.pending ∧ (s.setRec r).tab = s.tab ∧ (s.setRec r).lrn.queue = s.lrn.queue := by
  rw [State.setRec]
  split <;> exact ⟨rfl, rfl, rfl⟩

end Sys2Proof.Machine.LearningAging
end

section
/-! PROOF. LEARN_EVENT: inserts, moves, flaps and the events that are dropped (R190, R191, R194 to R196). -/

namespace Sys2Proof.Machine.LearningAging
open DeviceOrganisation (completes_of_answer eventReg Counted.of_reg64 counted_bump)
open OtnFramer (CtrApart)
open FreewheelCommit (slot_of_exm slot_setSlot_same entryPlaced entryPlaced_tab)
open ForwardingTables (slot_setSlot_other)

/-! ### The engine's queue (R190) -/

/-- Neither the commands that wait nor the events that wait for the engine have changed. -/
structure QueuesKept (s t : State) : Prop where
  pending : t.pending = s.pending
  queue : t.lrn.queue = s.lrn.queue

namespace QueuesKept
variable {s t u : State}

theorem refl (s : State) : QueuesKept s s := ⟨rfl, rfl⟩

theorem trans (h : QueuesKept s t) (k : QueuesKept t u) : QueuesKept s u := ⟨k.pending.trans h.pending, k.queue.trans h.queue⟩

theorem of_engine (h : EngineKept s t) : QueuesKept s t := ⟨h.pending, congrArg LrnSt.queue h.lrn⟩

theorem bump (h : QueuesKept s t) (c : Ctr) (n : Nat) : QueuesKept s (t.bump c n) := h.trans (.of_engine (.bump c n))

theorem learnMask (h : QueuesKept s t) (bit : Nat) (k : ExmKey) (old new : Nat) : QueuesKept s (t.learnMask bit k old new) :=
  h.trans (.of_engine (.learnMask bit k old new))

theorem learnNote (h : QueuesKept s t) (code : Nat) (k : ExmKey) (old new : Nat) : QueuesKept s (t.learnNote code k old new) :=
  h.trans (.of_engine (.learnNote code k old new))

theorem setSlot (h : QueuesKept s t) (i : Nat) (e : ExmEntry) : QueuesKept s (t.setSlot i e) := h.trans ⟨rfl, rfl⟩

theorem setRec (h : QueuesKept s t) (r : FlapRec) : QueuesKept s (t.setRec r) := by
  obtain ⟨hPending, -, hQueue⟩ := setRec_kept t r
  exact h.trans ⟨hPending, hQueue⟩

theorem dropFrozenRec (h : QueuesKept s t) (k : ExmKey) (frozen : Bool) : QueuesKept s (t.dropFrozenRec k frozen) := by
  rw [State.dropFrozenRec]
  split <;> exact ⟨h.pending, h.queue⟩

end QueuesKept

theorem queuesKept_walk (n : Nat) (s : State) (b : Nat) (path : List Nat) : QueuesKept s (State.walk n s b path).2 := by
  induction n generalizing s b path with
  | zero => exact .refl s
  | succ n ih =>
    have hDraw (m : Nat) : QueuesKept s (s.choose m).2 := ⟨rfl, rfl⟩
    rw [State.walk]
    dsimp only
    split
    · exact .refl s
    · generalize List.length _ = m
      split
      · exact hDraw m
      · split
        · exact hDraw m
        · exact (hDraw m).trans (ih _ _ _)

theorem queuesKept_exmInsert (s : State) (e : ExmEntry) : QueuesKept s (s.exmInsert e).2 := by
  have hChain : QueuesKept s (s.exmChain e.key).2 := (⟨rfl, rfl⟩ : QueuesKept s (s.choose 2).2).trans (queuesKept_walk 32 _ _ [])
  rw [State.exmInsert]
  split
  · exact ((QueuesKept.refl s).setSlot _ _).bump _ _
  · split <;>
    · next hEq =>
      rw [hEq] at hChain
      exact hChain

theorem queuesKept_startJob (s : State) (path : List Nat) (f : Nat) (e : ExmEntry) : QueuesKept s (s.startJob path f e none [] [] false) := by
  cases path with
  | nil => exact .refl s
  | cons p rest =>
    have hMove : QueuesKept s (s.exmMove p f) := by
      rw [State.exmMove]
      split
      · exact .refl s
      · exact (((QueuesKept.refl s).setSlot _ _).setSlot _ _).bump _ _
    exact ⟨hMove.pending, hMove.queue⟩

theorem queuesKept_victim (s : State) (k : ExmKey) : QueuesKept s (s.victim k).2 := by
  rw [State.victim]
  dsimp only
  split
  · exact .refl s
  · split
    · exact .refl s
    · exact ⟨rfl, rfl⟩

theorem queuesKept_learnInsert (s : State) (k : ExmKey) (port : Nat) : QueuesKept s (s.learnInsert k port) := by
  have hInsert := queuesKept_exmInsert s ⟨k, false, true, false, s.learnResult port, s.epoch, none, false, 0, none⟩
  rw [State.learnInsert]
  dsimp only
  split
  · next hEq =>
    rw [hEq] at hInsert
    exact (hInsert.bump _ _).learnMask _ _ _ _
  · next hEq =>
    rw [hEq] at hInsert
    exact ((hInsert.trans (queuesKept_startJob _ _ _ _)).bump _ _).learnMask _ _ _ _
  · next s1 hEq =>
    rw [hEq] at hInsert
    have hVictim := hInsert.trans (queuesKept_victim s1 k)
    split
    · next hNone =>
      rw [hNone] at hVictim
      exact hVictim.bump _ _
    · next hSome =>
      rw [hSome] at hVictim
      exact ((((((hVictim.bump _ _).learnMask _ _ _ _).dropFrozenRec _ _).setSlot _ _).bump _ _).bump _ _).learnMask _ _ _ _

/-- The flap count that a flap dated `d` brings: counting goes on within its second. -/
def flapCount (r : FlapRec) (d : Nat) : Nat := if d / second = r.n then r.c + 1 else 1

theorem flapCount_eq_four (r : FlapRec) (d : Nat) : flapCount r d = 4 ↔ d / second = r.n ∧ r.c = 3 := by
  rw [flapCount]
  split <;> simp_all

theorem flapCount_eq_ite (r : FlapRec) (d : Nat) : (if d / second == r.n then r.c + 1 else 1) = flapCount r d := by
  rw [flapCount]
  exact if_congr beq_iff_eq rfl rfl

theorem queuesKept_countFlap (s : State) (k : ExmKey) (r : FlapRec) (m d old new : Nat) : QueuesKept s (s.countFlap k r m d old new) := by
  have hCounted := ((QueuesKept.refl s).bump Ctr.LRN_FLAP 1).learnNote 0x0304 k old new
  simp only [State.countFlap, flapCount_eq_ite]
  generalize (s.bump Ctr.LRN_FLAP 1).learnNote 0x0304 k old new = u at *
  split
  · split
    · exact (((hCounted.setRec _).setSlot _ _).bump _ _).learnNote _ _ _ _
    · exact hCounted.setRec _
  · exact hCounted.setRec _

theorem queuesKept_learnMove (s : State) (k : ExmKey) (i : Nat) (e : ExmEntry) (t port : Nat) : QueuesKept s (s.learnMove k i e t port) := by
  have hMove : QueuesKept s (s.applyMove i e (s.learnResult port)) := ((QueuesKept.refl s).setSlot _ _).bump _ _
  simp only [State.learnMove]
  split
  · split
    · exact (hMove.learnMask _ _ _ _).bump _ _
    · exact (hMove.learnMask _ _ _ _).setRec _
  · split
    · split
      · exact hMove.trans (queuesKept_countFlap _ _ _ _ _ _ _)
      · exact (hMove.setRec _).learnMask _ _ _ _
    · split
      · exact queuesKept_countFlap _ _ _ _ _ _ _
      · exact (QueuesKept.refl s).bump _ _

/-- The engine has taken the head of its queue. -/
def eventTaken (rest : List LearnEv) (s : State) : State := { s with lrn := { s.lrn with queue := rest } }

section
variable {s : State} {ev : LearnEv} {rest : List LearnEv} (hQueue : s.lrn.queue = ev :: rest) (hIdle : s.tab.job = none)
  (hNone : s.lrn.removals = []) (hOn : s.flag Reg.LRN_CFG Fld.LRN_CFG_EN = true)
include hQueue hIdle hNone hOn

/-- An event of a key that is not in the table inserts it. -/
theorem learnEvent_absent (hLive : s.exmLive (macKey ev.domain ev.mac) = none) :
    learnEvent s = (eventTaken rest s).learnInsert (macKey ev.domain ev.mac) ev.port := by
  have hLive' : (eventTaken rest s).exmLive (macKey ev.domain ev.mac) = none := hLive
  simp only [eventTaken, hNone] at hLive' ⊢
  simp only [learnEvent, hQueue, hIdle, hNone, hOn, hLive', Bool.not_true, Bool.false_eq_true, if_false]

/-- An event of a key in the table is judged by the entry's result, and by whether it is static or frozen. -/
theorem learnEvent_present {i : Nat} {e : ExmEntry} (hLive : s.exmLive (macKey ev.domain ev.mac) = some (i, e)) :
    learnEvent s = if e.result = s.learnResult ev.port then eventTaken rest s
      else if e.isStatic then (eventTaken rest s).bump Ctr.LRN_STATIC_DROP 1
      else if e.frozen then (eventTaken rest s).bump Ctr.LRN_FROZEN_DROP 1
      else (eventTaken rest s).learnMove (macKey ev.domain ev.mac) i e ev.inst ev.port := by
  have hLive' : (eventTaken rest s).exmLive (macKey ev.domain ev.mac) = some (i, e) := hLive
  have hResult : (eventTaken rest s).learnResult ev.port = s.learnResult ev.port := rfl
  simp only [eventTaken, hNone] at hLive' hResult ⊢
  simp only [learnEvent, hQueue, hIdle, hNone, hOn, hLive', hResult, Bool.not_true, Bool.false_eq_true, if_false]

theorem queuesKept_learnEvent : QueuesKept (eventTaken rest s) (learnEvent s) := by
  cases hLive : s.exmLive (macKey ev.domain ev.mac) with
  | none =>
    rw [learnEvent_absent hQueue hIdle hNone hOn hLive]
    exact queuesKept_learnInsert _ _ _
  | some x =>
    rw [learnEvent_present hQueue hIdle hNone hOn hLive]
    split_ifs
    · exact .refl _
    · exact (QueuesKept.refl _).bump _ _
    · exact (QueuesKept.refl _).bump _ _
    · exact queuesKept_learnMove _ _ _ _ _ _

end

/-! ### Inserts and dropped events (R191) -/

/-- The counters of learning. -/
theorem ctrApart_learn : ∀ c ∈ [Ctr.LRN_NEW, Ctr.LRN_MOVE, Ctr.LRN_FLAP, Ctr.LRN_STALE, Ctr.LRN_STATIC_DROP, Ctr.LRN_FROZEN_DROP],
    CtrApart c ∧ ∀ a ∈ c.regs, eventReg a = false := by
  simp only [CtrApart]
  decide

theorem counted_learnBump (s : State) {c : Ctr} (hc : c ∈ [Ctr.LRN_NEW, Ctr.LRN_MOVE, Ctr.LRN_FLAP, Ctr.LRN_STALE, Ctr.LRN_STATIC_DROP,
    Ctr.LRN_FROZEN_DROP]) : Counted c 1 s (s.bump c 1) := by
  obtain ⟨⟨hLo, hHi, hBit⟩, -⟩ := ctrApart_learn c hc
  exact counted_bump s c 1 hLo hHi hBit

theorem learnInsert_shows {s : State} {k : ExmKey} {i : Nat} (hFree : s.exmFreeSlot k = some i) (port : Nat) :
    (s.learnInsert k port).slot i = some ⟨k, false, true, false, s.learnResult port, s.epoch, none, false, 0, none⟩ ∧
    (∀ n, n ≠ i → (s.learnInsert k port).slot n = s.slot n) ∧ Counted Ctr.LRN_NEW 1 s (s.learnInsert k port) := by
  generalize hEntry : (⟨k, false, true, false, s.learnResult port, s.epoch, none, false, 0, none⟩ : ExmEntry) = e
  have hFresh : e ≠ .free := by
    rw [← hEntry]
    exact fun h => absurd (congrArg ExmEntry.learned h) nofun
  have hInsert : s.exmInsert e = (.placed, entryPlaced i e s) := by
    rw [State.exmInsert, ← hEntry, hFree]
    rfl
  have hEq : s.learnInsert k port = ((entryPlaced i e s).bump Ctr.LRN_NEW 1).learnMask 0 k 0xFFFF port := by
    simp only [State.learnInsert, hEntry, hInsert]
  have hKept : EngineKept (entryPlaced i e s) (s.learnInsert k port) := by
    rw [hEq]
    exact (EngineKept.bump _ _).trans (.learnMask _ _ _ _)
  have hSlot (n : Nat) : (s.learnInsert k port).slot n = (s.setSlot i e).slot n :=
    slot_of_exm (by rw [hKept.tab, entryPlaced_tab]) n
  have hPlaced : (entryPlaced i e s).reg64 Ctr.LRN_NEW.lo = s.reg64 Ctr.LRN_NEW.lo := by
    rw [State.reg64, entryPlaced, RegsBut.bump _ _ _ _ (by decide), RegsBut.bump _ _ _ _ (by decide)]
    rfl
  refine ⟨(hSlot i).trans (slot_setSlot_same s i hFresh), fun n hn => (hSlot n).trans (slot_setSlot_other s e hn), ?_⟩
  rw [hEq]
  exact counted_learnMask (Counted.of_reg64 (counted_learnBump _ (by simp)) hPlaced) (ctrApart_learn _ (by simp)).2 _ _ _ _

/-! ### Moves and flaps (R194 to R196) -/

/-- An entry that has moved to another result (R191). -/
def entryMovedTo (e : ExmEntry) (w : Word) : ExmEntry := { e with result := w, learned := true, mark := 0 }

theorem entryMovedTo_ne_free (e : ExmEntry) (w : Word) (b : Bool) : ({ entryMovedTo e w with frozen := b } : ExmEntry) ≠ .free :=
  fun h => absurd (congrArg ExmEntry.learned h) nofun

theorem applyMove_shows (s : State) (i : Nat) (e : ExmEntry) (w : Word) :
    (s.applyMove i e w).tab = (s.setSlot i (entryMovedTo e w)).tab ∧ (s.applyMove i e w).lrn = s.lrn ∧
    Counted Ctr.LRN_MOVE 1 s (s.applyMove i e w) ∧ (s.applyMove i e w).reg64 Ctr.LRN_FLAP.lo = s.reg64 Ctr.LRN_FLAP.lo := by
  refine ⟨State.bump_tab _ _ _, State.bump_lrn _ _ _, counted_learnBump (s.setSlot i _) (by simp), ?_⟩
  rw [State.reg64, State.applyMove, RegsBut.bump _ _ _ _ (by decide), RegsBut.bump _ _ _ _ (by decide)]
  rfl

/-- The first move of a key makes its record, with no flap. -/
theorem learnMove_first {s : State} {k : ExmKey} (hRec : s.flapRec k = none) (hRoom : s.lrn.recs.length < 8192) (i : Nat) (e : ExmEntry)
    (t port : Nat) {v : State} (hv : v = s.learnMove k i e t port) :
    v.slot i = some (entryMovedTo e (s.learnResult port)) ∧ (∀ n, n ≠ i → v.slot n = s.slot n) ∧
    v.lrn.recs = s.lrn.recs ++ [⟨k, t, 0, t / second, s.monoAt t s.holdoff, none⟩] ∧ Counted Ctr.LRN_MOVE 1 s v := by
  obtain ⟨hTab, hLrn, hCount, -⟩ := applyMove_shows s i e (s.learnResult port)
  have hKept := EngineKept.learnMask (s := s.applyMove i e (s.learnResult port)) 1 k (s.portOf e.result) port
  have hCount' := counted_learnMask hCount (ctrApart_learn _ (by simp)).2 1 k (s.portOf e.result) port
  have hFull : ¬ trackerMax ≤ s.lrn.recs.length := by
    rw [trackerMax]
    omega
  simp only [State.learnMove, hRec, if_neg hFull] at hv
  generalize (s.applyMove i e (s.learnResult port)).learnMask 1 k (s.portOf e.result) port = u at *
  have hULrn : u.lrn = s.lrn := hKept.lrn.trans hLrn
  obtain ⟨-, hSetTab, -⟩ := setRec_kept u ⟨k, t, 0, t / second, s.monoAt t s.holdoff, none⟩
  have hSlot (n : Nat) : v.slot n = (s.setSlot i (entryMovedTo e (s.learnResult port))).slot n := slot_of_exm (by rw [hv, hSetTab, hKept.tab, hTab]) n
  refine ⟨(hSlot i).trans (slot_setSlot_same s i (entryMovedTo_ne_free e _ _)), fun n hn => (hSlot n).trans (slot_setSlot_other s _ hn), ?_,
    hv ▸ counted_setRec hCount' _⟩
  have hNew : u.flapRec k = none := by rw [flapRec_of_lrn hULrn, hRec]
  rw [hv, recs_setRec_new hNew, hULrn]

/-- The registers of LRN_FLAP stand while LRN_FREEZE rises. -/
theorem counted_flap_of_freeze {s t : State} (h : Counted Ctr.LRN_FLAP 1 s t) : Counted Ctr.LRN_FLAP 1 s (t.bump Ctr.LRN_FREEZE 1) :=
  counted_bump_other h (by decide) (by decide)

/-- A flap is counted in its record; the fourth of a second freezes the entry. -/
theorem countFlap_shows {s : State} {k : ExmKey} {r : FlapRec} {i : Nat} {e : ExmEntry} (hKey : r.key = k) (hLive : s.exmLive k = some (i, e))
    (m d old new : Nat) :
    (s.countFlap k r m d old new).tab = (if flapCount r d = 4 then s.setSlot i { e with frozen := true } else s).tab ∧
    (∃ r', (s.countFlap k r m d old new).flapRec k = some r' ∧ r'.m = m ∧ r'.c = flapCount r d) ∧
    Counted Ctr.LRN_FLAP 1 s (s.countFlap k r m d old new) := by
  have hKept := (EngineKept.bump (s := s) Ctr.LRN_FLAP 1).trans (.learnNote 0x0304 k old new)
  have hCount := counted_learnNote (counted_learnBump s (c := Ctr.LRN_FLAP) (by simp)) (ctrApart_learn _ (by simp)).2 0x0304 k old new
  have hEvent := (ctrApart_learn Ctr.LRN_FLAP (by simp)).2
  simp only [State.countFlap, flapCount_eq_ite]
  generalize (s.bump Ctr.LRN_FLAP 1).learnNote 0x0304 k old new = u at *
  rw [exmLive_of_tab hKept.tab, hLive]
  dsimp only
  split
  · generalize hr' : ({ r with m := m, c := flapCount r d, n := d / second, close := _, freeze := _ } : FlapRec) = r'
    obtain ⟨-, hTab, -⟩ := setRec_kept u r'
    have hNoted := (EngineKept.bump (s := (u.setRec r').setSlot i { e with frozen := true }) Ctr.LRN_FREEZE 1).trans
      (.learnNote 0x0305 k 0xFFFF (u.portOf e.result))
    refine ⟨?_, ⟨r', ?_, by rw [← hr'], by rw [← hr']⟩, ?_⟩
    · rw [hNoted.tab, State.setSlot, hTab, hKept.tab]
      rfl
    · have hRecKey : r'.key = k := by rw [← hr', hKey]
      rw [flapRec_of_lrn hNoted.lrn, flapRec_of_lrn (setSlot_lrn _ _ _), ← hRecKey]
      exact flapRec_setRec u r'
    · exact counted_learnNote (counted_flap_of_freeze (counted_setSlot (counted_setRec hCount r') _ _)) hEvent _ _ _ _
  · generalize hr' : ({ r with m := m, c := flapCount r d, n := d / second, close := _ } : FlapRec) = r'
    obtain ⟨-, hTab, -⟩ := setRec_kept u r'
    have hRecKey : r'.key = k := by rw [← hr', hKey]
    refine ⟨by rw [hTab, hKept.tab], ⟨r', ?_, by rw [← hr'], by rw [← hr']⟩, counted_setRec hCount r'⟩
    rw [← hRecKey]
    exact flapRec_setRec u r'

end Sys2Proof.Machine.LearningAging
end

section
/-! PROOF. O16: the learning engine (R190 to R197). The instant from which a flap record counts its second, that of its first move, is the
model's choice (log 52); the statement takes it as it is. -/

namespace Sys2Proof.Machine.LearningAging
open DeviceOrganisation (completes_of_answer Counted.of_reg64)
open FreewheelCommit (slot_of_exm slot_setSlot_same publishes_unfreeze Publishes.foldl)
open ForwardingTables (slot_setSlot_other ne_free_of_ktype)

/-! ### Moves under the flap rules (R195, R196) -/

section
variable {s : State} {k : ExmKey} {r : FlapRec} (hRec : s.flapRec k = some r)
include hRec

/-- A move within the hold-off after the record's instant is applied and counted as a flap; the fourth of a second freezes the entry. -/
theorem learnMove_flap {i t : Nat} {e : ExmEntry} (hLive : s.exmLive k = some (i, e)) (hFrozen : e.frozen = false) (hFrom : r.m ≤ t)
    (hWithin : t < r.m + s.holdoff) (port : Nat) :
    (s.learnMove k i e t port).slot i =
      some { entryMovedTo e (s.learnResult port) with frozen := decide (t / second = r.n ∧ r.c = 3) } ∧
    (∃ r', (s.learnMove k i e t port).flapRec k = some r' ∧ r'.m = t ∧ r'.c = flapCount r t) ∧
    Counted Ctr.LRN_FLAP 1 s (s.learnMove k i e t port) := by
  have hEq : s.learnMove k i e t port =
      (s.applyMove i e (s.learnResult port)).countFlap k r t t (s.portOf e.result) port := by
    simp only [State.learnMove, hRec, if_pos hFrom, if_pos hWithin]
  obtain ⟨hTab, -, -, hReg⟩ := applyMove_shows s i e (s.learnResult port)
  have hFresh := entryMovedTo_ne_free e (s.learnResult port)
  rw [hEq]
  generalize s.applyMove i e (s.learnResult port) = u at *
  have hMoved : u.exmLive k = some (i, entryMovedTo e (s.learnResult port)) := by
    rw [exmLive_of_tab hTab]
    exact exmLive_setSlot_same hLive (hFresh e.frozen) rfl rfl rfl
  obtain ⟨hTab', hRec', hCount⟩ := countFlap_shows (mem_of_flapRec hRec).2 hMoved t t (s.portOf e.result) port
  refine ⟨?_, hRec', Counted.of_reg64 hCount hReg⟩
  rw [slot_of_exm (congrArg TabSt.exm hTab')]
  by_cases hFour : flapCount r t = 4
  · rw [if_pos hFour, decide_eq_true ((flapCount_eq_four r t).1 hFour)]
    exact slot_setSlot_same u i (hFresh true)
  · rw [if_neg hFour, decide_eq_false (fun h => hFour ((flapCount_eq_four r t).2 h)), ← hFrozen]
    exact (slot_of_exmLive hMoved).1

/-- A move earlier than the record's instant by the hold-off or more is stale. -/
theorem learnMove_stale {t : Nat} (hBefore : t < r.m) (hFar : s.holdoff ≤ r.m - t) (i : Nat) (e : ExmEntry) (port : Nat) :
    s.learnMove k i e t port = s.bump Ctr.LRN_STALE 1 := by
  simp only [State.learnMove, hRec, if_neg hBefore.not_ge, if_neg hFar.not_gt]

end

/-! ### LEARN_EVENT (R190, R191) -/

theorem learnEvent_completes (s : State) (ev : LearnEv) (rest : List LearnEv) (k : ExmKey) (hQueue : s.lrn.queue = ev :: rest)
    (hIdle : s.tab.job = none) (hNone : s.lrn.removals = []) (hOn : s.flag Reg.LRN_CFG Fld.LRN_CFG_EN = true)
    (hk : k = macKey ev.domain ev.mac) :
    Completes .learnEvent s fun t => t.lrn.queue = rest ∧
      (∀ i e, s.exmLive k = some (i, e) → e.result = s.learnResult ev.port → { t with lrn := s.lrn } = s) ∧
      (∀ i e, s.exmLive k = some (i, e) → e.result ≠ s.learnResult ev.port → e.isStatic = true →
        t.tab = s.tab ∧ Counted Ctr.LRN_STATIC_DROP 1 s t) ∧
      (∀ i e, s.exmLive k = some (i, e) → e.result ≠ s.learnResult ev.port → e.isStatic = false → e.frozen = true →
        t.tab = s.tab ∧ Counted Ctr.LRN_FROZEN_DROP 1 s t) ∧
      (∀ i, s.exmLive k = none → s.exmFreeSlot k = some i →
        t.slot i = some ⟨k, false, true, false, s.learnResult ev.port, s.epoch, none, false, 0, none⟩ ∧ (∀ n, n ≠ i → t.slot n = s.slot n) ∧
        Counted Ctr.LRN_NEW 1 s t) ∧
      (∀ i e, s.exmLive k = some (i, e) → e.result ≠ s.learnResult ev.port → e.isStatic = false → e.frozen = false → s.flapRec k = none →
        s.lrn.recs.length < 8192 →
        t.slot i = some { e with result := s.learnResult ev.port, learned := true, mark := 0 } ∧ (∀ n, n ≠ i → t.slot n = s.slot n) ∧
        t.lrn.recs = s.lrn.recs ++ [⟨k, ev.inst, 0, ev.inst / second, s.monoAt ev.inst s.holdoff, none⟩] ∧ Counted Ctr.LRN_MOVE 1 s t) ∧
      (∀ i e r, s.exmLive k = some (i, e) → e.result ≠ s.learnResult ev.port → e.isStatic = false → e.frozen = false → s.flapRec k = some r →
        r.m ≤ ev.inst → ev.inst < r.m + s.holdoff → r.freeze = none →
        t.slot i = some { e with result := s.learnResult ev.port, learned := true, mark := 0,
                                 frozen := decide (ev.inst / second = r.n ∧ r.c = 3) } ∧
        (∃ r', t.flapRec k = some r' ∧ r'.m = ev.inst ∧ r'.c = (if ev.inst / second = r.n then r.c + 1 else 1)) ∧
        Counted Ctr.LRN_FLAP 1 s t) ∧
      (∀ i e r, s.exmLive k = some (i, e) → e.result ≠ s.learnResult ev.port → e.isStatic = false → e.frozen = false → s.flapRec k = some r →
        ev.inst < r.m → s.holdoff ≤ r.m - ev.inst → t.tab = s.tab ∧ t.lrn.recs = s.lrn.recs ∧ Counted Ctr.LRN_STALE 1 s t) := by
  subst hk
  have hKept := queuesKept_learnEvent hQueue hIdle hNone hOn
  have hAbsent := learnEvent_absent hQueue hIdle hNone hOn
  have hPresent {i : Nat} {e : ExmEntry} := learnEvent_present hQueue hIdle hNone hOn (i := i) (e := e)
  have hDrop (c : Ctr) (hc : c ∈ [Ctr.LRN_NEW, Ctr.LRN_MOVE, Ctr.LRN_FLAP, Ctr.LRN_STALE, Ctr.LRN_STATIC_DROP, Ctr.LRN_FROZEN_DROP]) :
      Counted c 1 s ((eventTaken rest s).bump c 1) := Counted.of_reg64 (counted_learnBump (eventTaken rest s) hc) rfl
  refine completes_of_answer rfl hKept.pending ⟨hKept.queue, fun i e hLive hSame => ?_, fun i e hLive hNew hStatic => ?_,
    fun i e hLive hNew hStatic hFrozen => ?_, fun i hLive hFree => ?_, fun i e hLive hNew hStatic hFrozen hRec hRoom => ?_,
    fun i e r hLive hNew hStatic hFrozen hRec hFrom hWithin _ => ?_, fun i e r hLive hNew hStatic hFrozen hRec hBefore hFar => ?_⟩
  · rw [hPresent hLive, if_pos hSame]
    rfl
  · rw [hPresent hLive, if_neg hNew, if_pos hStatic]
    exact ⟨State.bump_tab _ _ _, hDrop _ (by simp)⟩
  · rw [hPresent hLive, if_neg hNew, if_neg (by simp [hStatic]), if_pos hFrozen]
    exact ⟨State.bump_tab _ _ _, hDrop _ (by simp)⟩
  · rw [hAbsent hLive]
    obtain ⟨hSlot, hOther, hCount⟩ := learnInsert_shows (s := eventTaken rest s) hFree ev.port
    exact ⟨hSlot, hOther, Counted.of_reg64 hCount rfl⟩
  all_goals rw [hPresent hLive, if_neg hNew, if_neg (by simp [hStatic]), if_neg (by simp [hFrozen])]
  · obtain ⟨hSlot, hOther, hRecs, hCount⟩ := learnMove_first (s := eventTaken rest s) hRec hRoom i e ev.inst ev.port rfl
    exact ⟨hSlot, hOther, hRecs, Counted.of_reg64 hCount rfl⟩
  · obtain ⟨hSlot, hFlapRec, hCount⟩ := learnMove_flap (s := eventTaken rest s) hRec hLive hFrozen hFrom hWithin ev.port
    exact ⟨hSlot, hFlapRec, Counted.of_reg64 hCount rfl⟩
  · rw [learnMove_stale (s := eventTaken rest s) hRec hBefore hFar]
    exact ⟨State.bump_tab _ _ _, by rw [State.bump_lrn, eventTaken], hDrop _ (by simp)⟩

/-! ### The end of a freeze (R197) -/

/-- An entry that is no longer frozen. -/
def entryThawed (e : ExmEntry) : ExmEntry := { e with frozen := false }

theorem unfreeze_frozen {s : State} {k : ExmKey} {i : Nat} {e : ExmEntry} (hLive : s.exmLive k = some (i, e)) (hFrozen : e.frozen = true) :
    (s.unfreeze k).tab = (s.setSlot i (entryThawed e)).tab ∧ (s.unfreeze k).lrn = (s.dropRec k).lrn := by
  have hEq : s.unfreeze k = ((s.setSlot i (entryThawed e)).dropRec k).learnNote 0x0306 k 0xFFFF (s.portOf e.result) := by
    simp only [State.unfreeze, hLive, hFrozen, if_true, entryThawed]
  have hNoted := EngineKept.learnNote (s := (s.setSlot i (entryThawed e)).dropRec k) 0x0306 k 0xFFFF (s.portOf e.result)
  rw [hEq]
  exact ⟨hNoted.tab, hNoted.lrn⟩

/-- Only a frozen entry is unfrozen. -/
theorem unfreeze_cases (s : State) (k : ExmKey) : s.unfreeze k = s ∨ ∃ i e, s.exmLive k = some (i, e) ∧ e.frozen = true := by
  rw [State.unfreeze]
  split
  · next i e hLive =>
    by_cases hFrozen : e.frozen = true
    · exact .inr ⟨i, e, hLive, hFrozen⟩
    · exact .inl (if_neg hFrozen)
  · exact .inl rfl

theorem unfreeze_thawed {s : State} {k : ExmKey} {i : Nat} {e : ExmEntry} (hLive : s.exmLive k = some (i, e)) (hThawed : e.frozen = false) :
    s.unfreeze k = s := by
  simp [State.unfreeze, hLive, hThawed]

/-- The end of one key's freeze leaves the live entry of another key. -/
theorem exmLive_unfreeze_other (s : State) {k k' : ExmKey} (hk : k' ≠ k) : (s.unfreeze k').exmLive k = s.exmLive k := by
  obtain hSame | ⟨i, e, hLive, hFrozen⟩ := unfreeze_cases s k'
  · rw [hSame]
  · obtain ⟨hSlot, hKey, -⟩ := slot_of_exmLive hLive
    have hOther : e.key ≠ k := fun h => hk (hKey.symm.trans h)
    rw [exmLive_of_tab (unfreeze_frozen hLive hFrozen).1]
    exact exmLive_setSlot_other hSlot hOther hOther

theorem flapRec_unfreeze_of_none {s : State} {k : ExmKey} (h : s.flapRec k = none) (k' : ExmKey) : (s.unfreeze k').flapRec k = none := by
  obtain hSame | ⟨i, e, hLive, hFrozen⟩ := unfreeze_cases s k'
  · rw [hSame, h]
  · rw [flapRec_of_lrn (unfreeze_frozen hLive hFrozen).2]
    exact flapRec_dropRec_of_none h k'

theorem learnUnfreeze_completes (s : State) (d : BitVec 16) (m : BitVec 48) (r : FlapRec) (f i : Nat) (e : ExmEntry)
    (hRec : s.flapRec (macKey d.toNat m.toNat) = some r) (hFreeze : r.freeze = some f)
    (hLive : s.exmLive (macKey d.toNat m.toNat) = some (i, e)) (hFrozen : e.frozen = true) :
    Completes (.learnUnfreeze d m) s fun t =>
      (f ≤ s.mono → t.slot i = some { e with frozen := false } ∧ (∀ n, n ≠ i → t.slot n = s.slot n) ∧
        t.lrn.recs = s.lrn.recs.filter (fun x => x.key ≠ macKey d.toNat m.toNat)) ∧
      (s.mono < f → t = s) := by
  have hEq : learnUnfreeze d.toNat m.toNat s = if f ≤ s.mono then s.unfreeze (macKey d.toNat m.toNat) else s := by
    simp only [learnUnfreeze, hRec, Option.bind_some, hFreeze]
  have hPending : (learnUnfreeze d.toNat m.toNat s).pending = s.pending := by
    rw [hEq]
    split
    · exact (publishes_unfreeze s _).frame.pending
    · rfl
  refine completes_of_answer (t := learnUnfreeze d.toNat m.toNat s) rfl hPending ⟨fun hOver => ?_, fun hEarly => ?_⟩
  · rw [hEq, if_pos hOver]
    obtain ⟨hTab, hLrn⟩ := unfreeze_frozen hLive hFrozen
    have hKey : (entryThawed e).key = macKey d.toNat m.toNat := (slot_of_exmLive hLive).2.1
    have hFresh : entryThawed e ≠ .free := ne_free_of_ktype (by rw [hKey]; exact Nat.one_ne_zero)
    have hSlot (n : Nat) : (s.unfreeze (macKey d.toNat m.toNat)).slot n = (s.setSlot i (entryThawed e)).slot n :=
      slot_of_exm (congrArg TabSt.exm hTab) n
    exact ⟨(hSlot i).trans (slot_setSlot_same s i hFresh), fun n hn => (hSlot n).trans (slot_setSlot_other s _ hn), congrArg LrnSt.recs hLrn⟩
  · rw [hEq, if_neg hEarly.not_ge]

/-- The live entry of a key is no longer frozen, and the key has no record. -/
def Thawed (k : ExmKey) (i : Nat) (e : ExmEntry) (s : State) : Prop := s.exmLive k = some (i, entryThawed e) ∧ s.flapRec k = none

section
variable {k : ExmKey} {i : Nat} {e : ExmEntry}

theorem thawed_unfreeze_kept {s : State} (h : Thawed k i e s) (k' : ExmKey) : Thawed k i e (s.unfreeze k') := by
  obtain ⟨hLive, hRec⟩ := h
  refine ⟨?_, flapRec_unfreeze_of_none hRec k'⟩
  by_cases hk : k' = k
  · rw [hk, unfreeze_thawed hLive rfl, hLive]
  · rw [exmLive_unfreeze_other s hk, hLive]

theorem thawed_unfreeze_same {s : State} (hLive : s.exmLive k = some (i, e)) (hFrozen : e.frozen = true) (hType : e.key.ktype ≠ 0) :
    Thawed k i e (s.unfreeze k) := by
  obtain ⟨hTab, hLrn⟩ := unfreeze_frozen hLive hFrozen
  rw [Thawed, exmLive_of_tab hTab, flapRec_of_lrn hLrn]
  exact ⟨exmLive_setSlot_same hLive (ne_free_of_ktype hType) rfl rfl rfl, flapRec_dropRec_same s k⟩

theorem thawed_foldl_kept (l : List FlapRec) {s : State} (h : Thawed k i e s) : Thawed k i e (l.foldl (fun s r => s.unfreeze r.key) s) := by
  induction l generalizing s with
  | nil => exact h
  | cons r l ih => exact ih (thawed_unfreeze_kept h r.key)

/-- Unfreezing the keys of a list thaws each frozen entry whose record is in the list. -/
theorem thawed_foldl (hFrozen : e.frozen = true) (hType : e.key.ktype ≠ 0) (l : List FlapRec) {s : State} (hLive : s.exmLive k = some (i, e))
    (hIn : ∃ r ∈ l, r.key = k) : Thawed k i e (l.foldl (fun s r => s.unfreeze r.key) s) := by
  induction l generalizing s with
  | nil => simp at hIn
  | cons r l ih =>
    by_cases hk : r.key = k
    · rw [List.foldl_cons, hk]
      exact thawed_foldl_kept l (thawed_unfreeze_same hLive hFrozen hType)
    · exact ih ((exmLive_unfreeze_other s hk).trans hLive) (by simpa [hk] using hIn)

end

theorem all_completes (s : State) (hUp : s.fdieUp = true) :
    Completes .all s fun t => ∀ k i e, s.isFrozen k = true → s.exmLive k = some (i, e) → e.frozen = true → e.key.ktype ≠ 0 →
      t.slot i = some { e with frozen := false } ∧ t.flapRec k = none := by
  have hPending := (Publishes.foldl (fun u r => publishes_unfreeze u r.key) (s.lrn.recs.filter (fun r => r.freeze.isSome)) s).frame.pending
  refine completes_of_answer (t := learnUnfreezeAll s) (congrArg (answer s) (if_pos hUp)) hPending fun k i e hIs hLive hFrozen hType => ?_
  have hIn : ∃ r ∈ s.lrn.recs.filter (fun r => r.freeze.isSome), r.key = k := by
    rw [State.isFrozen] at hIs
    cases hRec : s.flapRec k with
    | none => simp [hRec] at hIs
    | some r =>
      obtain ⟨hMem, hKey⟩ := mem_of_flapRec hRec
      exact ⟨r, List.mem_filter.2 ⟨hMem, by simpa [hRec] using hIs⟩, hKey⟩
  obtain ⟨hLive', hRec⟩ := thawed_foldl hFrozen hType _ hLive hIn
  exact ⟨(slot_of_exmLive hLive').1, hRec⟩

/-! ### The end of a record (R194) -/

theorem flapRecordFree_completes (s : State) (d : BitVec 16) (m : BitVec 48) (r : FlapRec)
    (hRec : s.flapRec (macKey d.toNat m.toNat) = some r) (hFreeze : r.freeze = none) :
    Completes (.flapRecordFree d m) s fun t =>
      (r.close ≤ s.mono → (r.n + 1) * second ≤ s.now → t.lrn.recs = s.lrn.recs.filter (fun x => x.key ≠ macKey d.toNat m.toNat) ∧
        { t with lrn := s.lrn } = s) ∧
      (s.mono < r.close → t = s) := by
  have hEq : flapRecordFree d.toNat m.toNat s =
      if r.close ≤ s.mono ∧ (r.n + 1) * second ≤ s.now then s.dropRec (macKey d.toNat m.toNat) else s := by
    simp [flapRecordFree, hRec, hFreeze]
  have hPending : (flapRecordFree d.toNat m.toNat s).pending = s.pending := by
    rw [hEq]
    split <;> rfl
  refine completes_of_answer (t := flapRecordFree d.toNat m.toNat s) rfl hPending ⟨fun hWindow hSecond => ?_, fun hOpen => ?_⟩
  · rw [hEq, if_pos ⟨hWindow, hSecond⟩]
    exact ⟨rfl, rfl⟩
  · rw [hEq, if_neg (fun h => hOpen.not_ge h.1)]

/-- Settles O16: a move leaves the live entry where it is, so the flap rules judge it in its slot; ALL goes over the records one by one, and
what it does for one key leaves the entry and the record of another. -/
theorem learningEngine : Obligations.LearningEngine := by
  unfold Obligations.LearningEngine
  exact ⟨learnEvent_completes, learnUnfreeze_completes, all_completes, flapRecordFree_completes⟩

end Sys2Proof.Machine.LearningAging
end
